-- ==== Sys2Proof/Word.lean ====
section
/-! DEFINITION. The word types of the block: a mailbox or sheet word (R55, R80), a register (R14), an octet (R9), and the sparse table in which every indexed piece of state is held. -/
namespace Sys2Proof

/-- A 64-bit word: a mailbox word (R55), a sheet word (R80). -/
abbrev Word := BitVec 64
/-- A 32-bit register (R14). -/
abbrev Reg := BitVec 32
/-- An octet (R9). -/
abbrev Byte := BitVec 8
/-- Sparse data by number: pairs of rising number, none of them holding what an unlisted number holds. -/
abbrev Table (α : Type) := List (Nat × α)

end Sys2Proof
end

