-- ==== Sys2Proof/Syntax.lean ====
section
/-! DEFINITION. The commands of the block: one constructor for each row of spec/opcode_table.json, and the types of their operands. What comes from outside the device (the air, the wires, host memory, analogue measurements, free choices of the firmware) is an operand. -/
namespace Sys2Proof

/-- The master of an access (R27 of the debug map, R31): a PCIe function, the management core, a crew core, the debug access port, or the device itself. -/
inductive Master
  | fn (f : Nat)
  | mgmt
  | crew (c : Nat)
  | dap
  | device
  deriving DecidableEq, Repr

/-- One register access (R14): who, at which address of the window it sees, how many octets wide, read or write, and the data of a write. -/
structure Access where
  master : Master
  addr : Nat
  width : Nat := 4
  write : Bool := false
  data : Word := 0
  deriving DecidableEq, Repr

/-- The kinds of event a data-plane block hands to the control plane (R39). -/
inductive HandoffKind
  | takeCompletion | missedCue | decodeFailure | tagFailure | timestamp | frameDrop | codewordOutcome | msduCompletion | other
  deriving DecidableEq, Repr

/-- A data-plane hand-off (R39): its stamp in ns of show time, its kind and a number that says which object. -/
structure Handoff where
  stamp : Nat
  kind : HandoffKind
  info : Nat := 0
  deriving DecidableEq, Repr

/-- One entry of a sheet's cast array (R83). -/
structure CastEntry where
  bytes : Nat := 0
  ac : Nat := 0
  ssStart : Nat := 0
  nss : Nat := 0
  mcs : Nat := 0
  ru : Nat := 0
  void : Bool := false
  uplink : Bool := false
  retake : Bool := false
  tracked : Bool := false
  sid : Nat := 0
  deriving DecidableEq, Repr

/-- One take record (R81). -/
structure TakeRec where
  castOffset : Nat := 0
  castCount : Nat := 0
  ac : Nat := 0
  kind : Nat := 0
  endBeat : Nat := 0
  ls : Nat := 0
  es : Nat := 0
  txBss : Nat := 0
  tracked : Nat := 0
  prot : Nat := 0
  nullDims : Nat := 0
  streams : Nat := 0
  bw : Nat := 0
  chainMask : Nat := 0
  /-- dBm, two's complement in 8 bits -/
  obssPd : Nat := 0
  puncture : Nat := 0
  rxBeats : Nat := 0
  txBeats : Nat := 0
  costNj : Nat := 0
  deriving DecidableEq, Repr

/-- One entry of a null list (R84): neighbour chip and that neighbour's SID. -/
structure NullEntry where
  chip : Nat := 0
  sid : Nat := 0
  deriving DecidableEq, Repr

/-- Sheet states with the codes of R77. -/
inductive SheetState
  | empty | drafting | ready | locked | playing | dark
  deriving DecidableEq, Repr

/-- A cue sheet as its slot holds it (R79 to R84). -/
structure Sheet where
  state : SheetState := .empty
  tick : Nat := 0
  allocs : Nat := 0
  takeCount : Nat := 0
  costNj : Nat := 0
  coord : Bool := false
  budgetUj : Nat := 0
  /-- take records 0 to 15 -/
  takes : Table TakeRec := []
  /-- cast array, entries 0 to 2,367 -/
  cast : Table CastEntry := []
  /-- null lists, by take x 32 + place -/
  nulls : Table NullEntry := []
  /-- firmware-owned words of the slot, by word number in the slot -/
  fw : Table Word := []
  /-- drafted numbers of the takes while a removal has not yet renumbered them (R107); empty where take k stands at place k -/
  nums : List Nat := []
  deriving DecidableEq, Repr

/-- What the planner firmware drafts for one radio (R76, R109 to R111): the choice is the firmware's, so it is an operand. -/
structure Draft where
  radio : Nat
  sheet : Sheet
  deriving DecidableEq, Repr

/-- How one MSDU fared on the air (R142): its number, and whether it was acknowledged. -/
structure MsduOutcome where
  sid : Nat
  id : Nat
  acked : Bool
  deriving DecidableEq, Repr

/-- A reading of a chain's power detector over one PPDU (R222): the chain, the level in 0.25 dBm, and how long the PPDU's data field was. -/
structure PdetRead where
  chain : Nat
  level : Int
  dataNs : Nat := 8000
  deriving DecidableEq, Repr

/-- A PPDU that a radio sends (R212, R222): its first sample, in ns from the command, its length in ns, and its detector readings. -/
structure PpduAir where
  at' : Nat := 0
  ns : Nat
  pdet : List PdetRead := []
  deriving DecidableEq, Repr

/-- A beacon on the air (R123, R222): its airtime in ns, and its detector readings. -/
structure BeaconAir where
  ns : Nat
  pdet : List PdetRead := []
  deriving DecidableEq, Repr

/-- A trigger that the AP sends in a take (R96, R162, R164): the end of its SIFS in ns from the take's start, the users it names with the UL Target Receive Power in dBm that it sets for each, and the airtime in ns of the response that it solicits. -/
structure TrigFact where
  ns : Nat
  users : List (Nat × Int)
  respNs : Nat := 0
  deriving DecidableEq, Repr

/-- An MSDU whose PPDU starts later in a take (R96, R143): its station and number, when the PPDU starts in ns from the take's start, and the PPDU's airtime with the SIFS and the response that it solicits. -/
structure LaterFact where
  sid : Nat
  id : Nat
  ns : Nat
  airNs : Nat := 1
  deriving DecidableEq, Repr

/-- What the air showed of a take at its end (R101): PPDUs started and never started, the cast places served, the octets each place moved, and how each MSDU fared. -/
structure TakeFacts where
  sent : Nat := 0
  abandoned : Nat := 0
  /-- places in the cast, from 0, that sent or received data -/
  served : List Nat := []
  /-- place and octets moved for it -/
  octets : List (Nat × Nat) := []
  /-- its longest PPDU in ns (R140) -/
  longestNs : Nat := 0
  /-- how the take's MSDUs fared -/
  outcomes : List MsduOutcome := []
  deriving DecidableEq, Repr

/-- What the air shows of a take that wins the medium: its PPDUs (R212, R222), where none is named one as long as `airNs`; the airtime of its first PPDU, with the SIFS and the response that it solicits (R96); the ordinary queues, by BSS and access category, whose backoff expired in the same slot (R93); the MSDUs whose PPDU starts later in the take (R143); its triggers (R162); the stations whose PPDUs are coded with BCC (R190); and of a sounding, the octets of each station's report computed for Ng = 4 (R172). -/
structure TakeStartFacts where
  air : List PpduAir := []
  airNs : Nat := 1
  collided : List (Nat × Nat) := []
  later : List LaterFact := []
  triggers : List TrigFact := []
  bcc : List Nat := []
  fbSize : List (Nat × Nat) := []
  deriving DecidableEq, Repr

/-- Sensor readings of one tick (R376, R400): temperature of each sensor in °C by sensor, monitor voltages in mV, current inputs in mA. -/
structure Readings where
  temps : List (Nat × Int) := []
  millivolts : List (Nat × Nat) := []
  milliamps : List (Nat × Nat) := []
  deriving DecidableEq, Repr

/-- What a received MPDU is, as far as the MAC answers it on its own (R129, R139, R144, R146, R147). -/
inductive RxKind
  | ctrl
  | psPoll
  /-- a BlockAckReq: TID and starting sequence number -/
  | bar (tid ssn : Nat)
  | addbaReq (tid size ssn : Nat) (body : List Byte := [])
  | addbaResp (tid size : Nat) (accepted : Bool) (body : List Byte := [])
  | delba (tid : Nat) (byInitiator : Bool) (body : List Byte := [])
  | saQueryReq
  | saQueryResp
  /-- a TWT request: the wake interval in µs, and where its first service period starts -/
  | twtReq (broadcast : Bool) (intervalUs startTick startBeat durationBeats : Nat) (body : List Byte := [])
  | twtTeardown (body : List Byte := [])
  /-- each MSDU as DA, SA and the MSDU's own octets -/
  | data (tid seq : Nat) (msdus : List (List Byte))
  | nullData
  | qosNull (tid : Nat)
  | mgmt (body : List Byte)
  | assocReq (body : List Byte)
  deriving DecidableEq, Repr

/-- One MPDU of a received PPDU, with what the modem and the decoder say of it. -/
structure RxMpdu where
  ta : Nat
  bss : Nat
  /-- octet offset of its subframe in the A-MPDU -/
  offset : Nat := 0
  /-- length in octets, FCS included -/
  len : Nat
  fcsOk : Bool := true
  /-- frame class of IEEE 802.11 (1, 2 or 3) -/
  cls : Nat := 3
  protected' : Bool := false
  robust : Bool := false
  pm : Bool := false
  group : Bool := false
  /-- of a management frame: its sequence number, and Retry (R149) -/
  seq : Nat := 0
  retry : Bool := false
  /-- it asks for no response: No Ack, or a control frame that calls for none (R208) -/
  noAck : Bool := false
  /-- show time of the L-STF of the PPDU that carried it, and of the end of its FCS (R159) -/
  ppdu : Nat := 0
  ended : Nat := 0
  /-- of the response that it calls for: its end in ns from the command, and its detector readings (R212, R222) -/
  respNs : Nat := 0
  respPdet : List PdetRead := []
  kind : RxKind
  deriving DecidableEq, Repr

/-- How a contention TXOP went (R94, R138): its duration in ns, PPDUs sent, and the MSDUs it carried. -/
structure TxopFacts where
  durationNs : Nat
  ppdus : Nat := 1
  /-- its longest PPDU in ns -/
  longestNs : Nat := 0
  outcomes : List MsduOutcome := []
  /-- code rate of each station's PPDU, 0 where none is named, and the stations whose PPDUs are coded with BCC (R190) -/
  rates : List (Nat × Nat) := []
  bcc : List Nat := []
  /-- SID, MSDU number and PPDU number of the MSDUs that do not go in the first PPDU, number 0 -/
  ppduOf : List (Nat × Nat × Nat) := []
  /-- its PPDUs (R212, R222), where none is named one as long as the TXOP -/
  air : List PpduAir := []
  deriving DecidableEq, Repr

/-- The measured part of one quality report (R164), in the units of its fields. -/
structure UserReport where
  status : Nat := 0
  sid : Nat := 0
  sidValid : Bool := false
  format : Nat := 15
  bw : Nat := 0
  mcs : Nat := 0
  nss : Nat := 0
  tracked : Bool := false
  tb : Bool := false
  /-- measured carrier offset in 0.01 % of 78.125 kHz, none when not measured -/
  cfo : Option Int := none
  /-- arrival error in ns -/
  timing : Int := 0
  rssi : Int := 0
  snrAvg : Nat := 0
  snrMin : Nat := 0
  evm : Nat := 0
  chains : Nat := 0
  agcGain : Nat := 0
  ru : Nat := 0
  /-- octets per beat per stream that the link table gives for the reported SNR (R170), when the reception is OK -/
  rate : Option Nat := none
  /-- octets of it that the Viterbi decoder decoded, 0 for LDPC (R446) -/
  bccOctets : Nat := 0
  deriving DecidableEq, Repr

/-- A beamforming feedback report (R173): its station, its length in octets, and the octets. -/
structure Feedback where
  sid : Nat
  len : Nat
  octets : List Byte := []
  deriving DecidableEq, Repr

/-- A measured cross-channel of a foreign client (R175): neighbour chip, its SID, the subchannels it covers, and its power in dBm. -/
structure CrossEst where
  chip : Nat
  sid : Nat
  subs : Nat
  power : Int := 0
  deriving DecidableEq, Repr

/-- What a reception showed when it ended (R164 to R175); `snr` is the SNR after MMSE of each stream, in 0.25 dB (R171). -/
structure RxEnd where
  reports : List UserReport
  clipped : Bool := false
  feedback : List Feedback := []
  cross : List CrossEst := []
  snr : List (Nat × Nat) := []
  deriving DecidableEq, Repr

/-- One measured mean of the idle noise (R166): radio, local chain, subchannel and level in 0.25 dBm. -/
structure NoiseMean where
  radio : Nat
  chain : Nat
  sub : Nat
  level : Int
  deriving DecidableEq, Repr

/-- What a first correlator saw (R153, R160, R216): its output in 1/256, the power per chain in dBm, how long before the detection the L-STF began, whether Barker and how long after the detection its SFD comes, whether a solicited TB PPDU, whether the radio transmits or turns around within its take or TXOP, the gain in dB at which each local chain freezes, each diversity chain's power at its two ports, and how long after the detection the converters clip (R161). -/
structure Detect where
  corr : Nat
  power : Int
  sinceNs : Nat := 3200
  dsss : Bool := false
  sfdNs : Option Nat := none
  solicited : Bool := false
  transmitting : Bool := false
  gains : List (Nat × Nat) := []
  ports : List (Nat × Int × Int) := []
  clipNs : Option Nat := none
  deriving DecidableEq, Repr

/-- What the L-SIG said (R155); `stf` tells when the HT-STF, VHT-STF, HE-STF or EHT-STF of such a PPDU begins, in ns from the L-STF, and by how many dB the AGC re-adjusts there (R161); `clipped` that the converters clipped since the gain froze. -/
structure LSig where
  parityOk : Bool
  rateOk : Bool
  length : Nat
  durationUs : Nat
  quality : Nat
  stf : Option (Nat × Int) := none
  clipped : Bool := false
  deriving DecidableEq, Repr

/-- A newcomer as the second correlator sees it (R157 to R159): how long before the declaration its preamble began, whether it is a TB PPDU that the radio solicited, how long after the declaration the converters clip (R161), whether its preamble is Barker and how long after the declaration its SFD comes, the gain at which each local chain freezes on it, whether the MAC starts a transmission then, and whether the converters clipped since the gain froze. -/
structure Newcomer where
  sinceNs : Nat := 3200
  solicited : Bool := false
  clipNs : Option Nat := none
  dsss : Bool := false
  sfdNs : Option Nat := none
  gains : List (Nat × Nat) := []
  txStarts : Bool := false
  clipped : Bool := false
  deriving DecidableEq, Repr

/-- An LDPC codeword as the modem hands it to the coding cluster, with what its decoding showed (R184 to R187, R192 to R198). -/
structure Codeword where
  radio : Nat
  sid : Nat
  /-- aligned PPDU (SERVICE bit 15), its RSN and seed -/
  aligned : Bool := false
  rsn : Nat := 0
  seed : Nat := 0
  /-- index in its own PSDU; in a copy PSDU, codewords 1 to M are copies -/
  index : Nat := 0
  copyPsdu : Bool := false
  /-- code rate: 0 = 1/2, 1 = 2/3, 2 = 3/4, 3 = 5/6 -/
  rate : Nat := 0
  /-- codeword length 648, 1,296 or 1,944 -/
  length : Nat := 1944
  /-- show time of the last LLR (R184), and of the PPDU's L-STF -/
  lastLlr : Nat
  ppdu : Nat := 0
  /-- unsatisfied checks after each iteration of the input that R197 gives the decoder -/
  unsat : List Nat := []
  /-- syndrome of the hard decisions on the input is zero (R186) -/
  hardZero : Bool := false
  /-- the MPDU of its subframe failed its FCS (R193) -/
  fcsFailed : Bool := false
  /-- reading the kept slot met an uncorrectable error (R198) -/
  readError : Bool := false
  /-- octets of codeword 0 after the SERVICE field, for a copy PSDU (R195) -/
  map : List Byte := []
  /-- codewords in the PSDU -/
  psduCodewords : Nat := 1
  /-- LLRs in steps of 0.5 natural-log units, as scaled by the SNR of their stream and tone, before they saturate (R171) -/
  llrs : List Int := []
  deriving DecidableEq, Repr

/-- The result of one calibration step (R217, R220): the step by its place in the catalogue (0 SYN_BAND, 1 FILT, 2 DCO, 3 RX_GAIN, 5 TX_LO, 6 TX_IQ, 7 PDET), what it measured, how good that is (of two results the one of greater merit is the better), and whether it lies inside the step's limit. -/
structure CalStep where
  step : Nat
  value : Nat
  merit : Nat := 0
  inLimit : Bool := true
  deriving DecidableEq, Repr

/-- What one chain's calibration gave (R217, R220): absolute chain, the image rejection that RX_IQ measured in 0.25 dB, none when it did not run, and the results of the other steps. -/
structure ChainCal where
  chain : Nat
  image : Option Nat := some 208
  steps : List CalStep := []
  deriving DecidableEq, Repr

/-- A loss of lock (R207, R218): the radio, and what the steps of a full calibration that had completed gave. -/
structure LockLoss where
  radio : Nat
  completed : List ChainCal := []
  deriving DecidableEq, Repr

/-- A Big Top frame as a port received it (R246, R247): port, VLAN, source address, stamp, and the octets from VERSION on. -/
structure BtFrame where
  port : Nat
  vlan : Nat
  src : Nat
  stamp : Nat
  octets : List Byte
  deriving DecidableEq, Repr

/-- A message of a Sync and of the end-to-end delay exchange (R236), with the time in ns that it carries. -/
inductive PtpPart
  /-- a one-step Sync with its originTimestamp -/
  | sync (origin : Nat)
  /-- a two-step Sync, whose originTimestamp its Follow_Up carries -/
  | syncTwoStep
  /-- the preciseOriginTimestamp -/
  | followUp (origin : Nat)
  /-- the receiveTimestamp of the client's Delay_Req -/
  | delayResp (received : Nat)
  deriving DecidableEq, Repr

/-- A PTP event or general message of a master as the client takes it (R236): sourcePortIdentity, sequenceId, correctionField in ns, the show time at which its message timestamp point passed the port (R272), the domain, the port it came by, and its transport. -/
structure SyncMsg where
  part : PtpPart
  sender : Nat
  seq : Nat := 0
  correctionNs : Int := 0
  stamp : Nat := 0
  domain : Nat := 0
  port : Nat := 0
  udp : Bool := false
  deriving DecidableEq, Repr

/-- A PTP Announce, or the receipt timeout of its sender's Announce (R236, R244): grandmasterIdentity and grandmasterClockQuality, the priorities, stepsRemoved and the sourcePortIdentity. -/
structure AnnounceMsg where
  identity : Nat
  clockClass : Nat
  sender : Nat
  priority1 : Nat := 128
  accuracy : Nat := 0xFE
  variance : Nat := 0xFFFF
  priority2 : Nat := 128
  steps : Nat := 0
  domain : Nat := 0
  port : Nat := 0
  timeout : Bool := false
  deriving DecidableEq, Repr

/-- What a link partner and training gave at link up (R260, R261): whether auto-negotiation completed, the pause bits of the partner's page, and whether the SerDes reference, lost before, runs again (R262, R421). -/
structure LinkFacts where
  anDone : Bool := true
  partnerPause : Nat := 0
  refBack : Bool := false
  deriving DecidableEq, Repr

/-- What takes a link down (R262): the loss of one port's link, or the failure of the SerDes reference of all four. -/
inductive LinkLoss
  | port (p : Nat)
  | ref156
  deriving DecidableEq, Repr

/-- What a port sees of a frame beside its octets (R263, R272): whether the FCS is good, and the ns of the beat at which its message timestamp point passes. -/
structure WireFacts where
  fcsOk : Bool := true
  at' : Nat := 0
  deriving DecidableEq, Repr

/-- A received pause (Annex 31B) or PFC (802.1Qbb) frame (R266): quanta of the pause, or priorities named with their quanta. -/
inductive PauseMsg
  | pause (quanta : Nat)
  | pfc (quanta : List (Nat × Nat))
  deriving DecidableEq, Repr

/-- What may wake a port (R275): a received frame with a good FCS, or a change of link. -/
inductive WakeFact
  | frame (octets : List Byte)
  | link
  deriving DecidableEq, Repr

/-- Which intake the router takes its next frame from (R280): an Ethernet port's buffer, verified wireless MSDUs, frames fetched from host rings, or frames the crew returned. -/
inductive Intake
  | port (p : Nat)
  | wireless
  | ring
  | crew
  deriving DecidableEq, Repr

/-- One operation of the cipher cluster (R324, R327, R329, R332): its class, what it belongs to, its lengths, the PN and channel it carries on receive, and the octets in clear. -/
structure CipherOp where
  /-- 1 wireless transmit, 2 wireless receive, 3 MACsec transmit, 4 MACsec receive -/
  cls : Nat
  /-- radio (classes 1, 2) or port (classes 3, 4) -/
  unit : Nat := 0
  sid : Nat := 0
  bss : Nat := 0
  /-- group-addressed: the BSS's transmit key of `keyKind` (1 GTK, 2 IGTK, 3 BIGTK) -/
  group : Bool := false
  keyKind : Nat := 0
  tid : Nat := 0
  /-- robust management frame -/
  mgmt : Bool := false
  /-- octets of plaintext (or of the protected body) and of additional data -/
  len : Nat
  aad : Nat := 30
  pn : Nat := 0
  sci : Nat := 0
  an : Nat := 0
  /-- the SecTAG is present (MACsec receive) -/
  tagged : Bool := true
  /-- MSDU this transmit operation carries, and the others of its A-MSDU -/
  msdu : Nat := 0
  more : List Nat := []
  /-- receive: the plaintext, as the MSDUs of an MPDU (DA, SA and the MSDU's own octets), the body of a management frame, or a MACsec frame's octets without SecTAG and ICV -/
  plain : List (List Byte) := []
  deriving DecidableEq, Repr

/-- What a READY request asks (R351): the context it names, or a word of RGM_CORE_REQ_c whose OP is none of the four requests, which is answered in its turn. -/
inductive ReadyOf
  | task (k : Nat)
  | badOp (k : Nat)
  deriving DecidableEq, Repr

/-- The read-modify-write operations of the A extension (R345). -/
inductive AmoOp
  | swap | add | xor | and | or | min | max | minu | maxu
  deriving DecidableEq, Repr

/-- What a master does at an address of the crew map (R344 to R347): DROPPED_WRITE is a store, and a core's other accesses come the same way: loads into an integer or a floating-point register, instruction fetches, the operations of the A extension, and with a CSR number for the address a read or a write of a CSR. -/
inductive CoreOp
  | store (data : Word)
  | load (rd : Nat) (signed : Bool)
  | loadF (rd : Nat)
  | fetch
  | loadReserved (rd : Nat)
  | storeConditional (rd : Nat) (data : Word)
  | amo (op : AmoOp) (rd : Nat) (data : Word)
  | csrRead (rd : Nat)
  | csrWrite (data : Word)
  deriving DecidableEq, Repr

/-- Who read the word that held an uncorrectable error (R366): a crew core by a load, or by an instruction fetch. -/
inductive Consumer
  | core (c : Nat) (fetch : Bool)
  | flowBucket
  | packetBuffer (pkt : Nat)
  | retakeSlot (radio sid rsn index : Nat)
  | seal
  | scrubber
  deriving DecidableEq, Repr

/-- Sources of a device reset other than power-on, in the order of R404, and the reset that ends a boundary scan (R471). -/
inductive ResetSource
  | supply | warmRstN | critical | booth | stall | trial | mgrReset | scan
  deriving DecidableEq, Repr

/-- What the verification of a slot finds (R410): the key's hash and revocation, the signature, the digests, and the header's security version. -/
structure SlotCheck where
  keyOk : Bool := true
  sigOk : Bool := true
  digestOk : Bool := true
  svn : Nat := 0
  deriving DecidableEq, Repr

/-- What a boot finds outside the device's own state (R405, R407, R409, R410, R413). -/
structure BootFacts where
  ref40 : Bool := true
  ref100 : Bool := true
  ref156 : Bool := true
  norOk : Bool := true
  /-- the copies of the boot record pass their check -/
  copy0 : Bool := true
  copy1 : Bool := true
  slotA : SlotCheck := {}
  slotB : SlotCheck := {}
  hbmOk : Bool := true
  /-- the factory characterisation has a readable copy -/
  factoryOk : Bool := true
  /-- saved properties whose settings line has no readable copy -/
  unreadable : List Nat := []
  readings : Readings := {}
  deriving DecidableEq, Repr

/-- A user of a counted PPDU (R425): its tenant, the tones of its RU or MRU, its streams. -/
structure TapUser where
  tenant : Nat
  tones : Nat := 1
  streams : Nat := 1
  deriving DecidableEq, Repr

/-- A counted event at the MAC (R425 to R427). -/
inductive TapEvent
  /-- a PPDU of `ns` on a radio; `equal` for an NDP Announcement, an NDP or a multi-STA BlockAck; `received` PPDUs count only with SID_VALID -/
  | airtime (radio ns : Nat) (equal : Bool) (received : Bool) (sidValid : Bool) (users : List TapUser)
  | down (radio tenant octets : Nat)
  | up (radio tenant octets : Nat)
  deriving DecidableEq, Repr

/-- The commands of the block. -/
inductive Instr
  /-- BAD_ACCESS (R14) -/
  | badAccess (a : Access)
  /-- REGISTER_WRITE (R19) -/
  | registerWrite (a : Access)
  /-- DENIED_ACCESS (R20) -/
  | deniedAccess (a : Access)
  /-- UNMAPPED_ACCESS (R42) -/
  | unmappedAccess (a : Access)
  /-- DOMAIN_OFF_ACCESS (R43) -/
  | domainOffAccess (a : Access)
  /-- SHOW_TIME_LO_READ (R31) -/
  | showTimeLoRead (m : Master)
  /-- HANDOFF (R39) -/
  | handoff (h : Handoff)
  /-- POWER_ON_RESET (R402) -/
  | powerOnReset
  /-- SUPPLY_FAILURE (R402) -/
  | supplyFailure (monitor : Nat) (mv : Nat)
  /-- WARM_RESET (R402) -/
  | warmReset (src : ResetSource)
  /-- BOOT (R405) -/
  | boot (x : BootFacts)
  /-- PERST_N (R406) -/
  | perstN (low : Bool)
  /-- DOORBELL (R58) -/
  | doorbell (f : Nat)
  /-- RESPONSE_POSTED (R58) -/
  | responsePosted (f : Nat)
  /-- RESP_ACK (R58) -/
  | respAck (f : Nat)
  /-- BAD_OPCODE (R64) -/
  | badOpcode (f : Nat) (req : List Word)
  /-- IF_VERSION (R65) -/
  | ifVersion (f : Nat) (req : List Word)
  /-- RING_ASSIGN (R66) -/
  | ringAssign (f : Nat) (req : List Word)
  /-- PROP_GET (R71) -/
  | propGet (f : Nat) (req : List Word)
  /-- PROP_SET (R72) -/
  | propSet (f : Nat) (req : List Word)
  /-- PROP_DESCRIBE (R68) -/
  | propDescribe (f : Nat) (req : List Word)
  /-- FUNCTION_LEVEL_RESET (R53) -/
  | functionLevelReset (f : Nat)
  /-- VF_DISABLE (R54) -/
  | vfDisable (numVfs : Nat)
  /-- VF_ENABLE (R392) -/
  | vfEnable (numVfs : Nat)
  /-- SHUTDOWN_END (R392) -/
  | shutdownEnd (f : Nat)
  /-- ENABLE_COMPLETE (R393) -/
  | enableComplete (f : Nat)
  /-- DRAFT_OPEN (R76) -/
  | draftOpen (drafts : List Draft)
  /-- BUDGET_PUBLISH (R377) -/
  | budgetPublish (r : Option Readings)
  /-- BUDGET_REVISION (R378) -/
  | budgetRevision (r : Readings)
  /-- CUE_SEND (R249) -/
  | cueSend
  /-- FINAL_PASS (R256) -/
  | finalPass (starved : List Nat)
  /-- PICTURE_LOCK (R86) -/
  | pictureLock
  /-- TAKE_CONTEND (R92) -/
  | takeContend (r : Nat)
  /-- TAKE_START (R93) -/
  | takeStart (r : Nat) (facts : TakeStartFacts)
  /-- TAKE_COMPLETION (R101) -/
  | takeCompletion (r : Nat) (facts : TakeFacts)
  /-- MISSED_CUE (R95) -/
  | missedCue (r : Nat)
  /-- OVERRUN_CUT (R96) -/
  | overrunCut (r : Nat) (facts : TakeFacts)
  /-- UNLOCKED (R98) -/
  | unlocked (r : Nat)
  /-- PLN_STATUS (R115) -/
  | plnStatus (f : Nat) (req : List Word)
  /-- PLN_FORCE_DARK (R116) -/
  | plnForceDark (f : Nat) (req : List Word)
  /-- PLN_SHEET_READ (R117) -/
  | plnSheetRead (f : Nat) (req : List Word)
  /-- PLN_TAKE_LOG (R118) -/
  | plnTakeLog (f : Nat) (req : List Word)
  /-- BSS_START (R125) -/
  | bssStart (f : Nat) (req : List Word) (template : Option (List Byte))
  /-- BSS_STOP (R126) -/
  | bssStop (f : Nat) (req : List Word)
  /-- STA_ADD (R130) -/
  | staAdd (f : Nat) (req : List Word)
  /-- STA_REMOVE (R132) -/
  | staRemove (f : Nat) (req : List Word)
  /-- STA_QUERY (R134) -/
  | staQuery (f : Nat) (req : List Word)
  /-- SID_RELEASE (R133) -/
  | sidRelease
  /-- BEACON (R123) -/
  | beacon (b : Nat) (air : BeaconAir)
  /-- BEACON_SKIPPED (R124) -/
  | beaconSkipped (b : Nat)
  /-- CONTENTION_TXOP (R94) -/
  | contentionTxop (b : Nat) (ac : Nat) (facts : TxopFacts)
  /-- MPDU_RECEIVE (R149) -/
  | mpduReceive (r : Nat) (frames : List RxMpdu)
  /-- LIFETIME (R143) -/
  | lifetime (sid : Nat) (id : Nat)
  /-- REORDER_TIMEOUT (R139) -/
  | reorderTimeout (sid : Nat) (tid : Nat)
  /-- DETECTION (R153) -/
  | detection (r : Nat) (x : Detect)
  /-- LSIG_CHECK (R155) -/
  | lsigCheck (r : Nat) (x : LSig)
  /-- DSSS_SFD_TIMEOUT (R156) -/
  | dsssSfdTimeout (r : Nat) (headerCrcFailed : Bool)
  /-- CAPTURE (R157) -/
  | capture (r : Nat) (power : Int) (lsig : Option LSig) (x : Newcomer)
  /-- SR_ABORT (R163) -/
  | srAbort (r : Nat) (colour : Nat) (power : Int)
  /-- RECEPTION_END (R164) -/
  | receptionEnd (r : Nat) (x : RxEnd)
  /-- NOISE_REPORT (R166) -/
  | noiseReport (means : List NoiseMean)
  /-- MDM_NOISE_READ (R180) -/
  | mdmNoiseRead (f : Nat) (req : List Word)
  /-- MDM_QUALITY_READ (R181) -/
  | mdmQualityRead (f : Nat) (req : List Word)
  /-- CODEWORD_DECODE (R185) -/
  | codewordDecode (cw : Codeword)
  /-- DECODE_DEADLINE (R186) -/
  | decodeDeadline (cw : Codeword)
  /-- RETAKE_EXPIRED (R194) -/
  | retakeExpired
  /-- RETAKE_PEER (R202) -/
  | retakePeer (f : Nat) (req : List Word)
  /-- FE_RADIO_CTRL (R228) -/
  | feRadioCtrl (f : Nat) (req : List Word)
  /-- STARTING (R228) -/
  | starting (r : Nat)
  /-- LOCKED (R206) -/
  | locked (r : Nat)
  /-- STARTING_FAIL (R207) -/
  | startingFail (r : Nat)
  /-- LOSS_OF_LOCK (R207) -/
  | lossOfLock (x : LockLoss)
  /-- REACQUISITION_TIMEOUT (R207) -/
  | reacquisitionTimeout (r : Nat)
  /-- RADIO_STOP (R228) -/
  | radioStop (r : Nat)
  /-- CHANNEL_CHANGE (R229) -/
  | channelChange (r : Nat)
  /-- FULL_CALIBRATION (R218) -/
  | fullCalibration (r : Nat)
  /-- ROLLING_CALIBRATION (R219) -/
  | rollingCalibration (chain : Nat)
  /-- CALIBRATION_DONE (R217) -/
  | calibrationDone (r : Nat) (full : Bool) (results : List ChainCal)
  /-- CALIBRATION_DUE (R219) -/
  | calibrationDue (chain : Nat)
  /-- FE_CHAIN_CTRL (R226) -/
  | feChainCtrl (m : Master) (chain : Nat) (value : Reg)
  /-- GRANT_EFFECT (R223) -/
  | grantEffect
  /-- GRANT_EXPIRY (R223) -/
  | grantExpiry
  /-- FE_CHANNEL_SET (R229) -/
  | feChannelSet (f : Nat) (req : List Word)
  /-- FE_CALIBRATE (R230) -/
  | feCalibrate (f : Nat) (req : List Word)
  /-- FE_STATUS (R231) -/
  | feStatus (f : Nat) (req : List Word)
  /-- FE_6G_GRANT (R232) -/
  | fe6gGrant (f : Nat) (req : List Word)
  /-- REF40_LOST (R421) -/
  | ref40Lost
  /-- BT_JOIN (R259) -/
  | btJoin (f : Nat) (req : List Word)
  /-- BT_LEAVE (R245) -/
  | btLeave (f : Nat) (req : List Word)
  /-- BT_NEIGHBOURS (R254) -/
  | btNeighbours (f : Nat) (req : List Word)
  /-- BT_TIME_ADJUST (R259) -/
  | btTimeAdjust (f : Nat) (req : List Word)
  /-- BT_STATUS (R259) -/
  | btStatus (f : Nat) (req : List Word)
  /-- NEIGHBOUR_SET_EFFECT (R254) -/
  | neighbourSetEffect
  /-- SYNC (R237) -/
  | sync (x : SyncMsg)
  /-- ANNOUNCE (R244) -/
  | announce (x : AnnounceMsg)
  /-- TIME_STEP (R238) -/
  | timeStep
  /-- SOURCE_LOSS (R244) -/
  | sourceLoss
  /-- COORD_EXIT (R244) -/
  | coordExit
  /-- ENTER_COORDINATED (R243) -/
  | enterCoordinated
  /-- CLAPPER_MESSAGE (R242) -/
  | clapperMessage
  /-- CLAPPER_MESSAGE_RX (R242) -/
  | clapperMessageRx (x : BtFrame)
  /-- CLAP_IN (R241) -/
  | clapIn (stamp : Nat)
  /-- CLAP_MISSING (R241) -/
  | clapMissing
  /-- CUE_SEGMENT (R250) -/
  | cueSegment (x : BtFrame)
  /-- LEAVE_MESSAGE (R245) -/
  | leaveMessage (x : BtFrame)
  /-- PORT_ENABLE (R261) -/
  | portEnable (m : Master) (p : Nat) (value : Reg)
  /-- PORT_DISABLE (R261) -/
  | portDisable (m : Master) (p : Nat) (value : Reg)
  /-- LINK_UP (R261) -/
  | linkUp (p : Nat) (x : LinkFacts)
  /-- LINK_DOWN (R262) -/
  | linkDown (x : LinkLoss)
  /-- ETHERNET_RECEIVE (R263) -/
  | ethernetReceive (p : Nat) (octets : List Byte) (x : WireFacts)
  /-- PAUSE_FRAME (R266) -/
  | pauseFrame (p : Nat) (x : PauseMsg)
  /-- PAUSE_REPEAT (R267) -/
  | pauseRepeat (p : Nat) (cls : Nat)
  /-- PAUSE_EXPIRY (R268) -/
  | pauseExpiry (p : Nat) (cls : Nat)
  /-- FLOW_CTRL_WRITE (R267) -/
  | flowCtrlWrite (m : Master) (p : Nat) (value : Reg)
  /-- SAFETY_NET_TRIP (R268) -/
  | safetyNetTrip (p : Nat) (cls : Nat)
  /-- DEAF_END (R268) -/
  | deafEnd (p : Nat) (cls : Nat)
  /-- FRAME_TRANSMIT (R270) -/
  | frameTransmit (p : Nat)
  /-- ETHERNET_WAKE (R275) -/
  | ethernetWake (p : Nat) (x : WakeFact)
  /-- ROUTER_FRAME (R283) -/
  | routerFrame (src : Intake)
  /-- INTAKE_RESUME (R295) -/
  | intakeResume (p : Nat)
  /-- AGER (R291) -/
  | ager
  /-- RTE_TABLE_WRITE (R299) -/
  | rteTableWrite (f : Nat) (req : List Word)
  /-- RTE_TABLE_READ (R300) -/
  | rteTableRead (f : Nat) (req : List Word)
  /-- DESCRIPTOR_FETCH (R308) -/
  | descriptorFetch (g : Nat) (w0 w1 : Word) (data : Option (List Byte))
  /-- COMPLETION_WRITE (R307) -/
  | completionWrite (g : Nat)
  /-- RING_ENABLE (R309) -/
  | ringEnable (m : Master) (g : Nat) (value : Reg)
  /-- RING_DISABLE (R309) -/
  | ringDisable (m : Master) (g : Nat) (value : Reg)
  /-- DRAIN_END (R309) -/
  | drainEnd (g : Nat)
  /-- DMA_ERR (R309) -/
  | dmaErr (g : Nat) (desc : Option Nat)
  /-- RING_PROD (R307) -/
  | ringProd (m : Master) (g : Nat) (value : Reg)
  /-- RING_CQ_HEAD (R307) -/
  | ringCqHead (m : Master) (g : Nat) (value : Reg)
  /-- COAL_TIMER (R311) -/
  | coalTimer (g : Nat)
  /-- REFILL (R319) -/
  | refill
  /-- QUEUE_SAMPLE (R320) -/
  | queueSample
  /-- TM_POLICER_WRITE (R319) -/
  | tmPolicerWrite (f : Nat) (req : List Word)
  /-- TM_POLICER_READ (R323) -/
  | tmPolicerRead (f : Nat) (req : List Word)
  /-- TM_QUEUE_SAMPLE (R323) -/
  | tmQueueSample (f : Nat) (req : List Word)
  /-- CIPHER_LATCH (R329) -/
  | cipherLatch (op : CipherOp)
  /-- CIPHER_VERDICT (R332) -/
  | cipherVerdict (id : Nat) (tagOk : Bool)
  /-- KEY_COMMIT (R329) -/
  | keyCommit
  /-- WCX_KEY_WRITE (R343) -/
  | wcxKeyWrite (f : Nat) (req : List Word)
  /-- WCX_KEY_ERASE (R343) -/
  | wcxKeyErase (f : Nat) (req : List Word)
  /-- WCX_KEY_QUERY (R343) -/
  | wcxKeyQuery (f : Nat) (req : List Word)
  /-- WCX_MACSEC_PORT (R331) -/
  | wcxMacsecPort (f : Nat) (req : List Word)
  /-- SEAL_LOCK_OP (R335) -/
  | sealLockOp (f : Nat) (req : List Word)
  /-- SEAL_RUN (R343) -/
  | sealRun (f : Nat) (req : List Word) (msg : Option (List Byte))
  /-- SEAL_ACQUIRE (R335) -/
  | sealAcquire (m : Master)
  /-- SEAL_RELEASE (R336) -/
  | sealRelease (m : Master)
  /-- SEAL_START (R335) -/
  | sealStart (m : Master) (value : Reg)
  /-- SEAL_DONE (R336) -/
  | sealDone (eccError : Bool)
  /-- SEAL_HOLD_EXPIRY (R336) -/
  | sealHoldExpiry
  /-- CHK_ACQUIRE (R338) -/
  | chkAcquire (m : Master) (n : Nat)
  /-- CHK_RELEASE (R338) -/
  | chkRelease (m : Master) (n : Nat)
  /-- CHK_START (R339) -/
  | chkStart (m : Master) (n : Nat) (value : Reg)
  /-- CHK_FINISH (R341) -/
  | chkFinish (m : Master) (n : Nat) (value : Reg)
  /-- CHK_RESTORE (R340) -/
  | chkRestore (m : Master) (n : Nat) (value : Reg)
  /-- CHK_DATA (R339) -/
  | chkData (m : Master) (n : Nat) (value : Reg)
  /-- CHK_DATA_PART (R339) -/
  | chkDataPart (m : Master) (n : Nat) (value : Reg)
  /-- READY (R352) -/
  | ready (src : Master) (task : ReadyOf)
  /-- CANCEL (R352) -/
  | cancel (src : Master) (task : Nat)
  /-- ALLOC (R352) -/
  | alloc (src : Master)
  /-- FREE (R352) -/
  | free (src : Master) (task : Nat)
  /-- DONE (R355) -/
  | done (c : Nat)
  /-- YIELD (R355) -/
  | yield (c : Nat)
  /-- PREEMPTED (R355) -/
  | preempted (c : Nat)
  /-- DISPATCH (R354) -/
  | dispatch
  /-- PREEMPT_SLOW (R357) -/
  | preemptSlow (c : Nat)
  /-- SLOW_POP (R360) -/
  | slowPop (m : Master)
  /-- REINJECT (R360) -/
  | reinject (m : Master) (item : Nat)
  /-- REINJECT_COPY (R360) -/
  | reinjectCopy (m : Master) (item : Nat)
  /-- ORIGINATE (R360) -/
  | originate (m : Master) (item : Nat)
  /-- DROP (R360) -/
  | drop (m : Master) (item : Nat)
  /-- CREW_COMMAND (R361) -/
  | crewCommand (m : Master) (c : Nat) (offset : Nat)
  /-- USER_FAULT (R347) -/
  | userFault (c : Nat) (addr : Nat)
  /-- DROPPED_WRITE (R362) -/
  | droppedWrite (m : Master) (addr : Nat) (width : Nat) (data : CoreOp)
  /-- UNCORRECTABLE_ERROR (R366) -/
  | uncorrectableError (who : Consumer) (addr : Nat)
  /-- PATROL_SCRUB (R364) -/
  | patrolScrub (corrected : Nat) (bad : List Nat)
  /-- HBM_FAIL (R366) -/
  | hbmFail
  /-- LEVEL_RAISE (R373) -/
  | levelRaise (coreMv : Option Nat)
  /-- LEVEL_LOWER (R374) -/
  | levelLower
  /-- PLL_MOVE (R375) -/
  | pllMove (coreMv : Option Nat)
  /-- THERMAL_TRIP (R379) -/
  | thermalTrip (sensor : Nat) (temp : Int)
  /-- SUPPLY_CURRENT_LIMIT (R379) -/
  | supplyCurrentLimit (input : Nat) (ma : Nat)
  /-- HOST_POWER_CAP_BREACH (R379) -/
  | hostPowerCapBreach
  /-- THERMAL_HOLD_END (R379) -/
  | thermalHoldEnd
  /-- CRITICAL_TEMPERATURE (R381) -/
  | criticalTemperature (sensor : Nat)
  /-- GAF_STATE_SET (R397) -/
  | gafStateSet (f : Nat) (req : List Word)
  /-- VOTE (R384) -/
  | vote (k : Nat)
  /-- VOTE_TIMEOUT (R384) -/
  | voteTimeout
  /-- STATE_REACHED (R386) -/
  | stateReached
  /-- WAKE_IN_N (R387) -/
  | wakeInN
  /-- TICK_ALARM (R387) -/
  | tickAlarm
  /-- SHOW_REACHED (R389) -/
  | showReached
  /-- GAF_STATUS (R398) -/
  | gafStatus (f : Nat) (req : List Word)
  /-- HEARTBEAT (R401) -/
  | heartbeat
  /-- GULMET_STALL (R401) -/
  | gulmetStall
  /-- BOOTH_WATCHDOG (R401) -/
  | boothWatchdog
  /-- TRIAL_TIMEOUT (R412) -/
  | trialTimeout
  /-- SETTINGS_FLUSH (R414) -/
  | settingsFlush
  /-- PFAIL_N (R415) -/
  | pfailN (low : Bool)
  /-- LOG_ENTRY (R418) -/
  | logEntry
  /-- LOG_OVERFLOW (R420) -/
  | logOverflow
  /-- MGR_RESET (R423) -/
  | mgrReset (f : Nat) (req : List Word)
  /-- MGR_SENSOR_READ (R423) -/
  | mgrSensorRead (f : Nat) (req : List Word)
  /-- MGR_LOG_READ (R423) -/
  | mgrLogRead (f : Nat) (req : List Word)
  /-- MGR_IMAGE_BEGIN (R423) -/
  | mgrImageBegin (f : Nat) (req : List Word)
  /-- MGR_IMAGE_WRITE (R423) -/
  | mgrImageWrite (f : Nat) (req : List Word)
  /-- MGR_IMAGE_COMMIT (R412) -/
  | mgrImageCommit (f : Nat) (req : List Word)
  /-- MGR_IMAGE_CONFIRM (R411) -/
  | mgrImageConfirm (f : Nat) (req : List Word)
  /-- TAP_ENTRY (R427) -/
  | tapEntry (tt : Nat) (stamp : Nat) (e : TapEvent) (fifoFull : Bool)
  /-- RECORD_CLOSE (R431) -/
  | recordClose (lineOk : Bool)
  /-- VDD_TS_WARNING (R436) -/
  | vddTsWarning (below : Bool)
  /-- VDD_TS_LOSS (R437) -/
  | vddTsLoss
  /-- VDD_TS_RETURN (R437) -/
  | vddTsReturn
  /-- TS_SEAL (R438) -/
  | tsSeal (closed : Bool)
  /-- IDENT (R441) -/
  | ident (tt : Nat) (payload : List Byte)
  /-- READ_RECORD (R441) -/
  | readRecord (tt : Nat) (payload : List Byte)
  /-- READ_CONFIG (R441) -/
  | readConfig (tt : Nat) (payload : List Byte)
  /-- WRITE_CONFIG (R441) -/
  | writeConfig (tt : Nat) (payload : List Byte)
  /-- PORT_FRAME_DISCARD (R440) -/
  | portFrameDiscard (tt : Nat) (octets : List Byte)
  /-- RECORD_MIRROR (R435) -/
  | recordMirror (seq : Nat)
  /-- TS_TIME_REPORT (R442) -/
  | tsTimeReport (tt : Nat)
  /-- TS_STATUS_READ (R442) -/
  | tsStatusRead (f : Nat) (req : List Word)
  /-- TS_RECORD_READ (R442) -/
  | tsRecordRead (f : Nat) (req : List Word)
  /-- SNAPSHOT (R449) -/
  | snapshot (late : Bool)
  /-- PEEK_READ (R452) -/
  | peekRead (m : Master)
  /-- DLY_SNAP_READ (R453) -/
  | dlySnapRead (f : Nat) (req : List Word)
  /-- DLY_RATE (R453) -/
  | dlyRate (f : Nat) (req : List Word)
  /-- SAMPLE_PRELOAD (R470) -/
  | samplePreload (preload : Nat)
  /-- EXTEST_TRAIN (R471) -/
  | extestTrain
  /-- CLAMP (R471) -/
  | clamp
  /-- HIGHZ (R471) -/
  | highz
  /-- DAP_ACCESS (R474) -/
  | dapAccess
  /-- LC_STATUS (R470) -/
  | lcStatus
  /-- BYPASS (R470) -/
  | bypass (code : Nat)
  /-- UNLOCK (R473) -/
  | unlock
  /-- UNLOCK_VERIFY (R473) -/
  | unlockVerify (keyOk sigOk : Bool)
  /-- CORE_HALT (R474) -/
  | coreHalt (core : Option Nat)
  /-- CORE_RESUME (R474) -/
  | coreResume (core : Option Nat)
  /-- NOR_OPERATION_DONE (R423) -/
  | norOperationDone (ok : Bool) (x : SlotCheck)
  /-- PCIE_REFERENCE_LOSS (R421) -/
  | pcieReferenceLoss (present : Bool)
  /-- SHUTDOWN_COMPLETION_DISCARD (R392) -/
  | shutdownCompletionDiscard (g : Nat)
  /-- TAP_RESET (R470) -/
  | tapReset
  /-- IDCODE (R470) -/
  | idcode
  /-- EXTEST (R471) -/
  | extest
  /-- EXTEST_PULSE (R471) -/
  | extestPulse
  deriving DecidableEq, Repr

end Sys2Proof
end

