-- ==== Sys2Proof/Decode.lean ====
section
/-! DEFINITION. The command that a word spells by the opcode table: the table gives no row any bits, so no word spells one (log 2). -/
namespace Sys2Proof

/-- The command of a word by the table's bits: none, for the table has none. -/
def decodeTableWord (_nbits _w : Nat) : Option Instr := none

end Sys2Proof
end

