-- ==== Sys2Proof/Machine/Bits.lean ====
section
/-! DEFINITION. Bit fields, sign extension and byte order (R8: bit 0 is the least significant, words are little-endian). -/
namespace Sys2Proof.Machine

/-- Bits `hi:lo` of a number. -/
def nbits (n hi lo : Nat) : Nat := (n >>> lo) % 2 ^ (hi + 1 - lo)

/-- Field `hi:lo` of a mailbox word. -/
def fld (w : Word) (hi lo : Nat) : Nat := nbits w.toNat hi lo

/-- Field `hi:lo` of a register. -/
def rfld (w : Reg) (hi lo : Nat) : Nat := nbits w.toNat hi lo

/-- Bit `i` of a number. -/
def nbit (n i : Nat) : Bool := n.testBit i

/-- The number with value `v` in bits `hi:lo` and every other bit kept. -/
def putBits (n hi lo v : Nat) : Nat :=
  n - (nbits n hi lo) * 2 ^ lo + (v % 2 ^ (hi + 1 - lo)) * 2 ^ lo

/-- A word from fields `(value, width, lowest bit)`. -/
def packN : List (Nat × Nat × Nat) → Nat
  | [] => 0
  | (v, w, lo) :: rest => (v % 2 ^ w) * 2 ^ lo + packN rest

/-- A mailbox word from fields `(value, width, lowest bit)`. -/
def packW (fs : List (Nat × Nat × Nat)) : Word := BitVec.ofNat 64 (packN fs)

/-- A register from fields `(value, width, lowest bit)`. -/
def packR (fs : List (Nat × Nat × Nat)) : Reg := BitVec.ofNat 32 (packN fs)

/-- 0 or 1. -/
def b2n (b : Bool) : Nat := if b then 1 else 0

/-- The two's-complement reading of the low `w` bits of `n`. -/
def sgn (w n : Nat) : Int :=
  let m := n % 2 ^ w
  if m < 2 ^ (w - 1) then (m : Int) else (m : Int) - (2 ^ w : Nat)

/-- The low `w` bits of an integer in two's complement. -/
def unsgn (w : Nat) (i : Int) : Nat := (i % ((2 ^ w : Nat) : Int)).toNat

/-- Number of set bits among bits `0 .. w - 1`. -/
def popcount (n : Nat) : Nat → Nat
  | 0 => 0
  | w + 1 => (if n.testBit w then 1 else 0) + popcount n w

/-- Highest set bit below `w`, if any. -/
def highBit (n : Nat) : Nat → Option Nat
  | 0 => none
  | w + 1 => if n.testBit w then some w else highBit n w

/-- Little-endian octets of a number. -/
def leBytes (n : Nat) : Nat → List Byte
  | 0 => []
  | k + 1 => BitVec.ofNat 8 n :: leBytes (n / 256) k

/-- The number a little-endian list of octets holds. -/
def ofLe : List Byte → Nat
  | [] => 0
  | b :: rest => b.toNat + 256 * ofLe rest

/-- Big-endian octets of a number. -/
def beBytes (n k : Nat) : List Byte := (leBytes n k).reverse

/-- The number a big-endian list of octets holds. -/
def ofBe (l : List Byte) : Nat := ofLe l.reverse

/-- Word `i` of a request; a word not given reads 0. -/
def wd (ws : List Word) (i : Nat) : Word := ws.getD i 0

/-- The sum of a list of numbers. -/
def sumN : List Nat → Nat
  | [] => 0
  | n :: rest => n + sumN rest

/-- The greatest of a list of numbers, 0 for none. -/
def maxN : List Nat → Nat
  | [] => 0
  | n :: rest => Nat.max n (maxN rest)

/-- Put `x` into a list sorted by `key`, after the entries whose key is not larger. -/
def insertBy {α : Type} (key : α → Nat) (x : α) : List α → List α
  | [] => [x]
  | y :: rest => if key x < key y then x :: y :: rest else y :: insertBy key x rest

/-- Stable sort by `key`. -/
def sortBy {α : Type} (key : α → Nat) : List α → List α
  | [] => []
  | x :: rest => insertByFront key x (sortBy key rest)
where
  /-- Put `x` before the entries whose key is not smaller, which keeps the sort stable. -/
  insertByFront (key : α → Nat) (x : α) : List α → List α
    | [] => [x]
    | y :: rest => if key x ≤ key y then x :: y :: rest else y :: insertByFront key x rest

/-- Tick number of a show time (R30). -/
def tickOf (t : Nat) : Nat := t / 1024000 % 2 ^ 48

/-- Beat within the tick of a show time (R30). -/
def beatOf (t : Nat) : Nat := t % 1024000 / 1000

/-- Number of the beat since show time 0. -/
def beatNo (t : Nat) : Nat := t / 1000

end Sys2Proof.Machine
end

