-- ==== Sys2Proof/Machine/Frame.lean ====
section
/-! DEFINITION. Octets of frames: reading and replacing fields, VLAN tags, DSCP and the IPv4 header checksum. -/
namespace Sys2Proof.Machine

/-- Octet `i`; beyond the end it reads 0. -/
def octAt (l : List Byte) (i : Nat) : Nat := (l.getD i 0).toNat
/-- The big-endian number in `n` octets from `i`. -/
def beAt (l : List Byte) (i n : Nat) : Nat := ofBe ((l.drop i).take n)
/-- Replace octets from `i` on. -/
def putAt (l : List Byte) (i : Nat) (v : List Byte) : List Byte := l.take i ++ v ++ l.drop (i + v.length)

/-- EtherTypes of VLAN tags: 0x8100 and 0x88A8. -/
def isTag (e : Nat) : Bool := e == 0x8100 || e == 0x88A8

/-- Offset of the EtherType behind up to `n` tags. -/
def skipTags (l : List Byte) : Nat → Nat → Nat
  | 0, i => i
  | n + 1, i => if isTag (beAt l i 2) then skipTags l n (i + 4) else i

/-- Offset of the EtherType of an Ethernet frame, behind at most two tags. -/
def etypeOff (l : List Byte) : Nat := skipTags l 2 12

/-- Ones'-complement sum of 16-bit words. -/
def sum16 : List Byte → Nat
  | a :: b :: rest => a.toNat * 256 + b.toNat + sum16 rest
  | [a] => a.toNat * 256
  | [] => 0

/-- Fold carries into 16 bits. -/
def fold16 (n : Nat) : Nat := let a := n % 65536 + n / 65536; let b := a % 65536 + a / 65536; b % 65536 + b / 65536

/-- Put the checksum into an IPv4 header of `n` octets at `i`. -/
def ip4Sum (l : List Byte) (i n : Nat) : List Byte :=
  let z := putAt l (i + 10) [0, 0]
  putAt z (i + 10) (beBytes (65535 - fold16 (sum16 ((z.drop i).take n))) 2)

/-- DSCP of the frame's IP header, 0 when it has none. -/
def dscpOf (l : List Byte) : Nat :=
  let e := etypeOff l
  let t := beAt l e 2
  if t = 0x0800 then octAt l (e + 3) / 4
  else if t = 0x86DD then nbits (beAt l (e + 2) 2) 11 6
  else 0

/-- Rewrite the DSCP, and update the IPv4 checksum (R318). -/
def setDscp (l : List Byte) (v : Nat) : List Byte :=
  let e := etypeOff l
  let t := beAt l e 2
  if t = 0x0800 then
    let l1 := putAt l (e + 3) [BitVec.ofNat 8 (putBits (octAt l (e + 3)) 7 2 v)]
    ip4Sum l1 (e + 2) (4 * (octAt l (e + 2) % 16))
  else if t = 0x86DD then putAt l (e + 2) (beBytes (putBits (beAt l (e + 2) 2) 11 6 v) 2)
  else l

end Sys2Proof.Machine
end

