-- ==== Sys2Proof/Config.lean ====
section
/-! DEFINITION. What a part or the manual leaves open: free values (opaque constants, nothing in Lean can evaluate them) and the figures of R10. -/
namespace Sys2Proof.Config

/-- Nanoseconds of a beat (R10). -/
def beatNs : Nat := 1000
/-- Beats of a show tick (R10). -/
def tickBeats : Nat := 1024
/-- Nanoseconds of a show tick (R10). -/
def tickNs : Nat := 1024000

/-- FREE VALUE (log 4): the value of the n-th draw of a result the spec does not state. -/
opaque free : Nat → BitVec 64
/-- FREE VALUE (log 4): the octet i of the n-th draw. -/
opaque freeByte : Nat → Nat → BitVec 8
/-- FREE VALUE (log 5): the firmware patch number of R65. -/
opaque fwPatch : BitVec 16
/-- FREE VALUE (log 5): the part's fused serial number (R441). -/
opaque serial : BitVec 32
/-- FREE VALUE (log 5): the Turnstile's ROM version (R441). -/
opaque tsRom : BitVec 16
/-- FREE VALUE (log 5): the address of Ethernet port `p`, which Gulmet loads at boot (EMAC_ADDR of chapter 9). -/
opaque portAddr : Nat → BitVec 48
/-- FREE VALUE (log 5): octet i of the Turnstile's sealed signing key (R432). -/
opaque turnstileKey : Nat → BitVec 8
/-- FREE VALUE (log 5): the factory characterisation of ENERGY_NJ, by index (R105). -/
opaque factoryEnergy : Nat → BitVec 16
/-- FREE VALUE (log 5): the factory characterisation of TAKE_FIXED_NJ, by radio (R105). -/
opaque factoryTakeFixed : Nat → BitVec 20
/-- FREE VALUE (log 5): octet i of the output of AEAD cipher `alg` on an input, by key, nonce, additional data and text (R325). -/
opaque aead : (alg : Nat) → (key nonce aad text : List (BitVec 8)) → Nat → BitVec 8
/-- FREE VALUE (log 40): the offset in double words at which function `f` shows PCI Express capability `k`; the spec gives the capabilities and not their places (R47). -/
opaque capAt : (f k : Nat) → BitVec 10
/-- FREE VALUE (log 129): octet i of what no rule gives of the IPv4 header of the PTP client's own messages: type of service, identification, DF, time to live and source address (R236). -/
opaque ptpIp : Nat → BitVec 8
/-- FREE VALUE (log 149): the hashes of a flow key that choose its two buckets (0 and 1) and the entries that an insertion moves (2), which R288 names and does not define. -/
opaque bucketHash : (which tenant : Nat) → List (BitVec 64) → BitVec 64
/-- FREE VALUE (log 152): the contexts that the planner timeline makes ready at a beat of the tick (R353): the spec names the readies and leaves the tasks to Gulmet. -/
opaque planTasks : (beat : Nat) → List Nat
/-- FREE VALUE (log 88): the PMP regions that the manifest of a licensee image grants to a task (R347): address and configuration of region `i` of context `k`. -/
opaque pmpAddr : (k i : Nat) → BitVec 54
opaque pmpCfg : (k i : Nat) → BitVec 5
/-- FREE VALUE (log 5): the flow hash of the parts of a flow key (R286, R295), which the spec names and does not define. -/
opaque flowHash : List Nat → BitVec 32

end Sys2Proof.Config
end

