-- ==== Sys2Proof/Machine/Props.lean ====
section
/-! DEFINITION. The catalogue of properties (R67, R68 and the property tables of the chapters). -/
namespace Sys2Proof.Machine

/-- The attributes of a property (R68); MIN, MAX and DEFAULT are the values before their coding. -/
structure PropDef where
  id : Nat
  bits : Nat
  signed : Bool
  tenanted : Bool
  /-- INDEX_KIND: 0 none, 1 SID, 2 BSS, 3 radio, 4 chain, 5 ring, 6 port, 7 function, 8 access category, 9 property-specific -/
  kind : Nat
  limit : Nat
  access : Nat
  effect : Nat
  persist : Bool
  lo : Int
  hi : Int
  dflt : Int
  deriving DecidableEq, Repr

/-- Host interface and device-wide (R72). MIN, MAX, DEFAULT and EFFECT of the read-only properties, here and in the lists below, where the tables give none: 0, the greatest value of VALUE_BITS, 0 and 0; and INDEX_KIND 9 for FN_RING_MAP, whose index is no other kind's (DESIGN CHOICE, log 103). -/
def props0 : List PropDef := [
  ⟨0x0010, 8, false, true, 0, 1, 0, 0, false, 0, 128, 0⟩, -- FN_RING_COUNT
  ⟨0x0011, 4, false, false, 7, 16, 0, 0, false, 0, 15, 0⟩, -- FN_STATE
  ⟨0x0012, 8, false, true, 9, 32, 0, 0, false, 0, 255, 0⟩, -- FN_RING_MAP
  ⟨0x0013, 48, false, true, 0, 1, 0, 0, false, 0, 281474976710655, 0⟩ -- HOST_BP_COUNT
  ]

/-- Tick planner (R113). -/
def props1 : List PropDef := [
  ⟨0x1010, 10, false, true, 3, 3, 1, 2, false, 0, 1000, 0⟩, -- TENANT_SHARE
  ⟨0x1011, 13, false, false, 0, 1, 1, 2, false, 1, 4096, 64⟩, -- SHARE_WINDOW
  ⟨0x1012, 10, false, true, 3, 3, 1, 2, false, 0, 1000, 1000⟩, -- TENANT_CAP
  ⟨0x1020, 10, false, true, 8, 4, 2, 2, false, 0, 1000, 0⟩, -- AC_FLOOR
  ⟨0x1021, 8, false, true, 8, 4, 2, 2, false, 1, 255, 0⟩, -- AC_WEIGHT
  ⟨0x1022, 12, false, false, 0, 1, 1, 2, false, 1, 4095, 32⟩, -- AGE_LIMIT
  ⟨0x1030, 1, false, false, 0, 1, 1, 2, false, 0, 1, 1⟩, -- TRACK_FILL
  ⟨0x1031, 13, false, false, 0, 1, 1, 2, false, 1, 4096, 256⟩, -- TRACK_STALE
  ⟨0x1032, 2, false, false, 1, 4096, 2, 2, false, 0, 2, 0⟩, -- TRACK_PREF
  ⟨0x1033, 8, false, false, 0, 1, 1, 2, false, 0, 150, 120⟩, -- TRACK_CFO_NEED
  ⟨0x1040, 16, false, false, 9, 48, 1, 2, true, 0, 65535, 0⟩, -- ENERGY_NJ
  ⟨0x1041, 20, false, false, 3, 3, 1, 2, true, 0, 1000000, 0⟩, -- TAKE_FIXED_NJ
  ⟨0x1050, 5, false, false, 3, 3, 1, 2, false, 1, 16, 16⟩, -- MAX_TAKES
  ⟨0x1051, 8, false, false, 3, 3, 1, 2, false, 1, 148, 148⟩, -- MAX_CAST
  ⟨0x1060, 48, false, false, 3, 3, 0, 0, false, 0, 281474976710655, 0⟩, -- MISSED_CUES
  ⟨0x1061, 48, false, false, 3, 3, 0, 0, false, 0, 281474976710655, 0⟩, -- DARK_TICKS
  ⟨0x1062, 48, false, false, 3, 3, 0, 0, false, 0, 281474976710655, 0⟩ -- OVERRUN_CUTS
  ]

/-- Wireless MAC (R150). -/
def props2 : List PropDef := [
  ⟨0x2010, 4, false, false, 9, 192, 2, 1, false, 1, 15, 0⟩, -- AP_AIFSN
  ⟨0x2011, 4, false, false, 9, 192, 2, 1, false, 0, 15, 0⟩, -- AP_ECWMIN
  ⟨0x2012, 4, false, false, 9, 192, 2, 1, false, 0, 15, 0⟩, -- AP_ECWMAX
  ⟨0x2013, 8, false, false, 9, 192, 2, 1, false, 0, 255, 0⟩, -- AP_TXOP
  ⟨0x2018, 4, false, false, 9, 192, 2, 1, false, 2, 15, 0⟩, -- ADV_AIFSN
  ⟨0x2019, 4, false, false, 9, 192, 2, 1, false, 0, 15, 0⟩, -- ADV_ECWMIN
  ⟨0x201A, 4, false, false, 9, 192, 2, 1, false, 0, 15, 0⟩, -- ADV_ECWMAX
  ⟨0x201B, 8, false, false, 9, 192, 2, 1, false, 0, 255, 0⟩, -- ADV_TXOP
  ⟨0x2020, 5, false, true, 8, 4, 2, 0, false, 1, 31, 7⟩, -- RETRY_LIMIT
  ⟨0x2021, 14, false, true, 8, 4, 2, 0, false, 1, 10000, 0⟩, -- MSDU_LIFETIME
  ⟨0x2030, 11, false, false, 0, 1, 1, 0, false, 1, 1024, 1024⟩, -- BA_WINDOW
  ⟨0x2031, 10, false, false, 0, 1, 1, 0, false, 1, 1000, 20⟩, -- REORDER_TIMEOUT
  ⟨0x2032, 23, false, false, 3, 3, 1, 1, false, 1, 8388607, 8388607⟩, -- AMPDU_MAX
  ⟨0x2041, 17, false, true, 0, 1, 1, 0, false, 16, 65536, 1024⟩ -- PS_BUFFER_KIB
  ]

/-- Modem and coding (R179, R201). -/
def props3 : List PropDef := [
  ⟨0x3001, 8, true, false, 3, 3, 1, 0, false, -100, -40, -94⟩, -- DETECT_POWER
  ⟨0x3002, 8, false, false, 3, 3, 1, 0, false, 32, 240, 128⟩, -- DETECT_CORR
  ⟨0x3003, 8, false, false, 3, 3, 1, 0, false, 0, 255, 64⟩, -- LSIG_QUALITY
  ⟨0x3004, 4, false, false, 3, 3, 1, 0, false, 3, 12, 6⟩, -- CAPTURE_MARGIN
  ⟨0x3005, 1, false, false, 3, 3, 1, 0, false, 0, 1, 0⟩, -- CAPTURE_IN_TB
  ⟨0x3006, 1, false, false, 0, 1, 1, 0, false, 0, 1, 1⟩, -- DSSS_DETECT
  ⟨0x3010, 10, false, false, 3, 3, 1, 1, false, 1, 1000, 16⟩, -- NOISE_MIN_IDLE
  ⟨0x3020, 12, false, false, 3, 3, 1, 2, false, 1, 4095, 32⟩, -- SOUND_INTERVAL
  ⟨0x3021, 12, false, false, 3, 3, 1, 2, false, 1, 4095, 128⟩, -- STEER_MAX_AGE
  ⟨0x3022, 12, false, false, 3, 3, 1, 0, false, 1, 4095, 64⟩, -- XEST_MAX_AGE
  ⟨0x3040, 48, false, false, 3, 3, 0, 0, false, 0, 281474976710655, 0⟩, -- CAPTURES
  ⟨0x3041, 48, false, false, 3, 3, 0, 0, false, 0, 281474976710655, 0⟩, -- FALSE_DETECTS
  ⟨0x3042, 48, false, false, 3, 3, 0, 0, false, 0, 281474976710655, 0⟩, -- LOST_NEWCOMERS
  ⟨0x3050, 5, false, false, 3, 3, 1, 0, false, 1, 20, 12⟩, -- LDPC_MAX_ITER
  ⟨0x3051, 1, false, false, 0, 1, 1, 0, false, 0, 1, 1⟩, -- EARLY_FAIL
  ⟨0x3060, 1, false, true, 0, 1, 1, 0, false, 0, 1, 1⟩, -- RETAKE_ENABLE
  ⟨0x3070, 48, false, false, 3, 3, 0, 0, false, 0, 281474976710655, 0⟩, -- DECODE_FAILS
  ⟨0x3071, 48, false, false, 3, 3, 0, 0, false, 0, 281474976710655, 0⟩, -- RETAKE_COMBINES
  ⟨0x3072, 48, false, false, 3, 3, 0, 0, false, 0, 281474976710655, 0⟩, -- RETAKE_RESCUES
  ⟨0x3073, 48, false, false, 0, 1, 0, 0, false, 0, 281474976710655, 0⟩ -- RETAKE_EXPIRED
  ]

/-- Aerial front-end (R227). -/
def props4 : List PropDef := [
  ⟨0x4010, 8, true, false, 3, 3, 1, 1, true, -80, 24, 16⟩, -- TX_POWER
  ⟨0x4011, 8, true, false, 4, 48, 1, 1, true, -8, 8, 0⟩, -- TX_TRIM
  ⟨0x4012, 8, true, false, 3, 3, 1, 0, false, -40, 32, 26⟩, -- PDET_ALARM
  ⟨0x4020, 12, false, false, 3, 3, 1, 1, true, 500, 3000, 1000⟩, -- PA_LEAD
  ⟨0x4021, 10, false, false, 3, 3, 1, 1, true, 100, 800, 300⟩, -- PA_LAG
  ⟨0x4022, 8, true, false, 3, 3, 1, 0, false, -40, -10, -25⟩, -- BYPASS_DBM
  ⟨0x4030, 1, false, false, 0, 1, 1, 1, true, 0, 1, 0⟩, -- C_POWER_MODE
  ⟨0x4031, 8, true, false, 0, 1, 1, 1, true, -80, 24, 24⟩, -- LPI_LIMIT
  ⟨0x4040, 16, false, false, 3, 3, 1, 2, false, 1, 65535, 4096⟩, -- RECAL_TICKS
  ⟨0x4041, 6, false, false, 3, 3, 1, 2, false, 1, 40, 8⟩, -- RECAL_DELTA
  ⟨0x4050, 2, false, false, 4, 48, 1, 1, true, 0, 3, 2⟩, -- PORT_MODE
  ⟨0x4051, 3, false, false, 3, 3, 1, 0, false, 0, 6, 2⟩, -- DIV_HYST
  ⟨0x4060, 48, false, false, 3, 3, 0, 0, false, 0, 281474976710655, 0⟩, -- UNLOCKED_TAKES
  ⟨0x4061, 48, false, false, 3, 3, 0, 0, false, 0, 281474976710655, 0⟩ -- LOCK_LOSSES
  ]

/-- Big Top (R258). -/
def props5 : List PropDef := [
  ⟨0x5010, 9, false, false, 0, 1, 1, 0, false, 10, 500, 100⟩, -- SLEW_MAX_PPM
  ⟨0x5011, 20, false, false, 0, 1, 1, 0, false, 1, 1000000, 1000⟩, -- STEP_LIMIT_US
  ⟨0x5012, 10, false, false, 0, 1, 1, 0, true, 1, 1000, 40⟩, -- DRIFT_PPB
  ⟨0x5013, 13, false, false, 0, 1, 1, 0, false, 1, 4096, 64⟩, -- ENTER_TICKS
  ⟨0x5014, 8, false, false, 0, 1, 1, 0, false, 6, 255, 6⟩, -- GM_CLASS_MAX
  ⟨0x5015, 7, false, false, 0, 1, 1, 4, true, 0, 127, 0⟩, -- PTP_DOMAIN
  ⟨0x5016, 13, false, false, 0, 1, 1, 0, false, 10, 5000, 500⟩, -- SYNC_LOSS_MS
  ⟨0x5017, 10, false, false, 0, 1, 1, 0, true, 0, 1000, 150⟩, -- PATH_ALLOW_NS
  ⟨0x5018, 11, false, false, 0, 1, 1, 1, false, 1, 1024, 1⟩, -- CLAP_DIV
  ⟨0x5019, 14, false, false, 0, 1, 1, 0, true, 0, 10000, 0⟩, -- CLAP_DELAY_NS
  ⟨0x501A, 10, false, false, 0, 1, 1, 0, true, 0, 1000, 20⟩, -- CLAP_ERR_NS
  ⟨0x501B, 14, false, false, 0, 1, 1, 0, true, 0, 16383, 0⟩, -- CLAP_LEADER
  ⟨0x5030, 8, true, false, 3, 3, 1, 2, false, -82, -62, -82⟩, -- CONS_OBSS_PD
  ⟨0x5031, 8, true, false, 3, 3, 1, 2, false, -82, -62, -62⟩, -- COORD_OBSS_PD
  ⟨0x5032, 4, false, false, 3, 3, 1, 2, false, 0, 15, 4⟩, -- NULL_RESERVE
  ⟨0x5040, 48, false, false, 0, 1, 0, 0, false, 0, 281474976710655, 0⟩, -- CUES_RX
  ⟨0x5041, 48, false, false, 0, 1, 0, 0, false, 0, 281474976710655, 0⟩, -- CUES_LATE
  ⟨0x5042, 48, false, false, 0, 1, 0, 0, false, 0, 281474976710655, 0⟩, -- CUES_DISCARDED
  ⟨0x5043, 48, false, false, 0, 1, 0, 0, false, 0, 281474976710655, 0⟩ -- COORD_EXITS
  ]

/-- Ethernet, router, traffic manager (R279, R301, R322). -/
def props6 : List PropDef := [
  ⟨0x6010, 48, false, false, 6, 4, 0, 0, false, 0, 281474976710655, 0⟩, -- SAFETY_TRIPS
  ⟨0x6011, 48, false, false, 6, 4, 0, 0, false, 0, 281474976710655, 0⟩, -- SAFETY_DROPS
  ⟨0x6012, 48, false, false, 6, 4, 0, 0, false, 0, 281474976710655, 0⟩, -- TS_MISSED
  ⟨0x6020, 11, true, false, 6, 4, 1, 0, true, -1000, 1000, 0⟩, -- TS_RX_TRIM_NS
  ⟨0x6021, 11, true, false, 6, 4, 1, 0, true, -1000, 1000, 0⟩, -- TS_TX_TRIM_NS
  ⟨0x6100, 16, false, false, 0, 1, 1, 0, true, 1, 65535, 4789⟩, -- VXLAN_UDP_PORT
  ⟨0x6101, 20, false, true, 0, 1, 2, 0, false, 0, 1000000, 58594⟩, -- FLOW_IDLE_TICKS
  ⟨0x6102, 23, false, true, 0, 1, 1, 0, false, 0, 5242880, 5242880⟩, -- FLOW_QUOTA
  ⟨0x6103, 21, false, true, 0, 1, 1, 0, false, 0, 1048576, 1048576⟩, -- ROUTE4_QUOTA
  ⟨0x6104, 20, false, true, 0, 1, 1, 0, false, 0, 524288, 524288⟩, -- ROUTE6_QUOTA
  ⟨0x6110, 23, false, true, 0, 1, 0, 0, false, 0, 8388607, 0⟩, -- FLOW_COUNT
  ⟨0x6111, 48, false, true, 0, 1, 0, 0, false, 0, 281474976710655, 0⟩, -- TENANT_DROPS
  ⟨0x6112, 48, false, false, 0, 1, 0, 0, false, 0, 281474976710655, 0⟩, -- SLOW_DROPS
  ⟨0x6200, 8, false, true, 6, 4, 1, 0, false, 1, 255, 16⟩, -- TENANT_WEIGHT
  ⟨0x6201, 17, false, true, 6, 4, 1, 3, false, 0, 100000, 0⟩, -- TENANT_RATE
  ⟨0x6202, 20, false, true, 9, 32, 1, 0, false, 16, 1048575, 4096⟩, -- QUEUE_LIMIT
  ⟨0x6203, 14, false, true, 0, 1, 1, 0, false, 1, 8192, 512⟩, -- WIFI_LIMIT_MIB
  ⟨0x6204, 20, false, false, 5, 128, 2, 0, false, 16, 1048575, 2048⟩, -- RING_QUEUE_KIB
  ⟨0x6210, 48, false, true, 0, 1, 0, 0, false, 0, 281474976710655, 0⟩, -- POLICED_DROPS
  ⟨0x6211, 48, false, true, 0, 1, 0, 0, false, 0, 281474976710655, 0⟩ -- QUEUE_DROPS
  ]

/-- Ciphers and check-value units (R342). -/
def props7 : List PropDef := [
  ⟨0x7010, 14, false, true, 0, 1, 1, 0, false, 0, 12288, 12288⟩, -- KEY_QUOTA
  ⟨0x7011, 14, false, true, 0, 1, 0, 0, false, 0, 16383, 0⟩, -- KEY_COUNT
  ⟨0x7012, 32, false, false, 0, 1, 1, 0, false, 0, 4294967295, 16777216⟩, -- PN_WARN_MARGIN
  ⟨0x7013, 48, false, false, 9, 7, 0, 0, false, 0, 281474976710655, 0⟩, -- TAG_FAILS
  ⟨0x7014, 48, false, false, 9, 7, 0, 0, false, 0, 281474976710655, 0⟩, -- REPLAY_DROPS
  ⟨0x7015, 48, false, false, 9, 7, 0, 0, false, 0, 281474976710655, 0⟩, -- NO_KEY_DROPS
  ⟨0x7016, 48, false, false, 9, 7, 0, 0, false, 0, 281474976710655, 0⟩, -- HOLD_FULL_DROPS
  ⟨0x7020, 16, false, false, 0, 1, 1, 0, false, 1, 65535, 1024⟩, -- SEAL_HOLD_TICKS
  ⟨0x7030, 48, false, false, 9, 8, 0, 0, false, 0, 281474976710655, 0⟩ -- CHK_MISMATCHES
  ]

/-- Crew, Ringmaster and memory (R367). -/
def props8 : List PropDef := [
  ⟨0x8010, 12, false, false, 0, 1, 1, 0, false, 1, 4095, 384⟩, -- HOST_HIGH
  ⟨0x8011, 12, false, false, 0, 1, 1, 0, false, 0, 4094, 256⟩, -- HOST_LOW
  ⟨0x8012, 12, false, false, 0, 1, 1, 0, false, 1, 4095, 3072⟩, -- READY_HIGH
  ⟨0x8013, 12, false, false, 0, 1, 1, 0, false, 0, 4094, 2048⟩, -- READY_LOW
  ⟨0x8020, 5, false, false, 0, 1, 1, 0, false, 1, 16, 4⟩, -- PREEMPT_BEATS
  ⟨0x8030, 8, false, false, 0, 1, 1, 1, true, 1, 168, 24⟩, -- SCRUB_HOURS
  ⟨0x8040, 48, false, false, 0, 1, 0, 0, false, 0, 281474976710655, 0⟩, -- MEM_CE
  ⟨0x8041, 48, false, false, 0, 1, 0, 0, false, 0, 281474976710655, 0⟩, -- MEM_UE
  ⟨0x8042, 48, false, false, 0, 1, 0, 0, false, 0, 281474976710655, 0⟩, -- READY_CANCELLED
  ⟨0x8043, 48, false, false, 0, 1, 0, 0, false, 0, 281474976710655, 0⟩ -- PREEMPTS
  ]

/-- Gaffer (R396). -/
def props9 : List PropDef := [
  ⟨0x9001, 16, false, false, 0, 1, 1, 0, true, 1000, 62000, 62000⟩, -- POWER_CAP_MW
  ⟨0x9002, 17, false, false, 9, 4, 1, 0, true, 0, 100000, 0⟩, -- RAIL_LIMIT_MA
  ⟨0x9003, 7, false, false, 0, 1, 1, 0, true, 60, 105, 95⟩, -- T_TARGET_C
  ⟨0x9004, 12, false, false, 0, 1, 1, 0, true, 1, 4000, 500⟩, -- THERM_GAIN_MW
  ⟨0x9005, 7, false, false, 0, 1, 1, 0, true, 90, 115, 110⟩, -- TRIP_C
  ⟨0x9006, 16, false, false, 0, 1, 1, 0, false, 0, 65535, 16384⟩, -- RESERVE_MIN_UJ
  ⟨0x9007, 14, false, false, 0, 1, 1, 0, true, 0, 10000, 2500⟩, -- UNSENSED_MW
  ⟨0x9008, 3, false, false, 0, 1, 1, 0, false, 1, 7, 2⟩, -- REVISE_C
  ⟨0x9010, 3, false, false, 0, 1, 1, 1, true, 0, 5, 0⟩, -- LEVEL_MAX
  ⟨0x9011, 10, false, false, 0, 1, 1, 0, false, 1, 1000, 16⟩, -- LEVEL_HOLD_TICKS
  ⟨0x9012, 12, false, false, 0, 1, 1, 0, false, 1, 4095, 256⟩, -- LEVEL_RAISE_TICKS
  ⟨0x9020, 1, false, false, 0, 1, 1, 0, true, 0, 1, 1⟩, -- WAKE_PIN_EN
  ⟨0x9040, 48, false, false, 0, 1, 0, 0, false, 0, 281474976710655, 0⟩, -- SLEEP_ENTRIES
  ⟨0x9041, 48, false, false, 0, 1, 0, 0, false, 0, 281474976710655, 0⟩, -- SLEEP_REFUSALS
  ⟨0x9042, 48, false, false, 3, 3, 0, 0, false, 0, 281474976710655, 0⟩, -- TAKES_SHED
  ⟨0x9043, 48, false, false, 0, 1, 0, 0, false, 0, 281474976710655, 0⟩ -- LEVEL_DROPS
  ]

/-- Management (R422, R460). -/
def props10 : List PropDef := [
  ⟨0xA001, 12, false, false, 0, 1, 1, 0, true, 1, 3600, 10⟩, -- SETTINGS_FLUSH_S
  ⟨0xA002, 1, false, false, 0, 1, 1, 0, true, 0, 1, 1⟩, -- STALL_RESET
  ⟨0xA003, 13, false, false, 0, 1, 1, 0, true, 16, 4096, 64⟩, -- STALL_TICKS
  ⟨0xA004, 17, false, false, 0, 1, 1, 0, true, 10, 86400, 600⟩, -- TRIAL_CONFIRM_S
  ⟨0xA010, 32, false, false, 0, 1, 0, 0, false, 0, 4294967295, 0⟩, -- LOG_NEWEST
  ⟨0xA011, 48, false, false, 0, 1, 0, 0, false, 0, 281474976710655, 0⟩, -- NV_LINE_WRITES
  ⟨0xA020, 14, false, false, 9, 4, 1, 0, true, 0, 10000, 0⟩, -- ISENSE_SHUNT_UOHM
  ⟨0xA021, 4, false, false, 9, 4, 1, 0, true, 0, 14, 0⟩ -- ISENSE_RAIL
  ]

/-- The properties of an area (R67). -/
def propArea : Nat → List PropDef
  | 0 => props0
  | 1 => props1
  | 2 => props2
  | 3 => props3
  | 4 => props4
  | 5 => props5
  | 6 => props6
  | 7 => props7
  | 8 => props8
  | 9 => props9
  | 10 => props10
  | _ => []

/-- The property with identifier `id`, none when it is unassigned. -/
def propDef (id : Nat) : Option PropDef := (propArea (id / 4096)).find? (fun p => p.id == id)

/-- Default EDCA parameters by access category (R137): AIFSN, ECWmin, ECWmax, TXOP limit, for the AP itself and as advertised. -/
def edcaDefault (adv : Bool) (ac : Nat) (par : Nat) : Int :=
  match ac, par with
  | 0, 0 => 7 | 0, 1 => 4 | 0, 2 => 10 | 0, _ => 0
  | 1, 0 => 3 | 1, 1 => 4 | 1, 2 => if adv then 10 else 6 | 1, _ => 0
  | 2, 0 => if adv then 2 else 1 | 2, 1 => 3 | 2, 2 => 4 | 2, _ => 94
  | _, 0 => if adv then 2 else 1 | _, 1 => 2 | _, 2 => 3 | _, _ => 47

/-- The default of index `i` of a property: R68's DEFAULT, and for the properties whose tables give one by index, that. The factory characterisation is loaded over the DEFAULT 0 of ENERGY_NJ and TAKE_FIXED_NJ at boot (R105). -/
def propDefault (p : PropDef) (i : Nat) : Int :=
  if p.id == 0x1021 then (match i with | 0 => 1 | 1 => 4 | 2 => 12 | _ => 16)
  else if p.id == 0x2021 then (match i with | 0 => 1000 | 1 => 1000 | 2 => 200 | _ => 100)
  else if 0x2010 ≤ p.id && p.id ≤ 0x2013 then edcaDefault false (i % 4) (p.id - 0x2010)
  else if 0x2018 ≤ p.id && p.id ≤ 0x201B then edcaDefault true (i % 4) (p.id - 0x2018)
  else p.dflt

/-- A property value as its word holds it: unsigned, or two's complement sign-extended to 64 bits (R68). -/
def propWord (v : Int) : Word := BitVec.ofInt 64 v

/-- The value a property word stands for. -/
def propVal (p : PropDef) (w : Word) : Int := if p.signed then w.toInt else (w.toNat : Int)

/-- The word fits VALUE_BITS (above the sign extension when SIGNED) and lies within MIN to MAX (R69). -/
def propFits (p : PropDef) (w : Word) : Bool :=
  let v := propVal p w
  (if p.signed then decide (-(2 ^ (p.bits - 1) : Nat) ≤ v) && decide (v < (2 ^ (p.bits - 1) : Nat))
   else decide (v < (2 ^ p.bits : Nat))) && decide (p.lo ≤ v) && decide (v ≤ p.hi)

/-- The number of a property instance: identifier x 2^20 + tenant x 2^16 + index. -/
def propKey (id ten ix : Nat) : Nat := id * 1048576 + ten * 65536 + ix

/-- What a property instance holds when nothing has been written to it. -/
def propReset (key : Nat) : Word :=
  match propDef (key / 1048576) with
  | some p => propWord (propDefault p (key % 65536))
  | none => 0

end Sys2Proof.Machine
end

