-- ==== Sys2Proof/Machine/Regs.lean ====
section
/-! DEFINITION. The catalogue of registers: where each lies in the register window (R41), its reset value and which of its bits a write sets, clears or acts on (R15). -/
namespace Sys2Proof.Machine

/-- A register, or `n` of them `stride` apart. -/
structure RegDef where
  base : Nat
  n : Nat
  stride : Nat
  reset : Reg
  rw : Reg
  w1c : Reg
  wo : Reg
  deriving DecidableEq, Repr

/-- Registers of block GLB. -/
def regsGLB : List RegDef := [
  ⟨0x0000000, 1, 4, 0x93482101, 0x00000000, 0x00000000, 0x00000000⟩, -- GLB_DEVICE_ID (R2)
  ⟨0x0000010, 1, 4, 0x00000000, 0x00000000, 0x00000000, 0x00000000⟩, -- GLB_SHOW_TIME_LO (R31)
  ⟨0x0000014, 1, 4, 0x00000000, 0x00000000, 0x00000000, 0x00000000⟩, -- GLB_SHOW_TIME_HI (R31)
  ⟨0x0000018, 1, 4, 0x00000000, 0x00000000, 0x00000000, 0x00000000⟩, -- GLB_TICK_LO (R31)
  ⟨0x000001C, 1, 4, 0x00000000, 0x00000000, 0x00000000, 0x00000000⟩, -- GLB_TICK_HI (R31)
  ⟨0x0000040, 1, 4, 0x00000000, 0x00000000, 0x0000001F, 0x00000000⟩ -- GLB_INCIDENT (R43)
  ]

/-- Registers of block MBX. -/
def regsMBX : List RegDef := [
  ⟨0x0102000, 16, 65536, 0x00000000, 0x00000000, 0x00000000, 0x00000001⟩, -- MBX_DOORBELL (R56)
  ⟨0x0102004, 16, 65536, 0x00010000, 0x00000000, 0x00000000, 0x00000000⟩, -- MBX_STATE (R56)
  ⟨0x0102008, 16, 65536, 0x00000000, 0x00000000, 0x00000000, 0x00000001⟩, -- MBX_RESP_ACK (R56)
  ⟨0x010200C, 16, 65536, 0x00000000, 0x00000000, 0x00000007, 0x00000000⟩ -- MBX_INCIDENT (R56)
  ]

/-- Registers of block PLN. -/
def regsPLN : List RegDef := [
  ⟨0x0200000, 1, 4, 0x00000000, 0x00000007, 0x00000000, 0x00000000⟩, -- PLN_CTRL (R114)
  ⟨0x0200004, 1, 4, 0x3E8C0380, 0x00000000, 0x00000000, 0x00000000⟩, -- PLN_LOCK_BEAT (R114)
  ⟨0x0200008, 1, 4, 0x00000555, 0x00000000, 0x00000000, 0x00000000⟩, -- PLN_LOCK_STATUS (R114)
  ⟨0x020000C, 1, 4, 0x00000000, 0x00000000, 0x00000000, 0x00000000⟩, -- PLN_LOCK_TICK (R114)
  ⟨0x0200010, 1, 4, 0x00000000, 0x00000000, 0x00000000, 0x00000000⟩, -- PLN_BUDGET (R114)
  ⟨0x0200040, 1, 4, 0x00000000, 0x00000000, 0x000000FF, 0x00000000⟩ -- PLN_INCIDENT (R114)
  ]

/-- Registers of block WMAC. -/
def regsWMAC : List RegDef := [
  ⟨0x0300000, 1, 4, 0x2CBE0900, 0x00000000, 0x00000000, 0x00000000⟩, -- WMAC_LIMITS (R149)
  ⟨0x0300004, 1, 4, 0x00000000, 0x00000000, 0x00000000, 0x00000000⟩, -- WMAC_STA_COUNT (R149)
  ⟨0x0300040, 1, 4, 0x00000000, 0x00000000, 0x0000000F, 0x00000000⟩ -- WMAC_INCIDENT (R149)
  ]

/-- Registers of block MDM. -/
def regsMDM : List RegDef := [
  ⟨0x0400000, 1, 4, 0x02084094, 0x00000000, 0x00000000, 0x00000000⟩, -- MDM_CAPS (R178)
  ⟨0x0400004, 1, 4, 0x00000000, 0x00000000, 0x00000000, 0x00000000⟩, -- MDM_RX_STATE (R178)
  ⟨0x0400040, 1, 4, 0x00000000, 0x00000000, 0x0000000F, 0x00000000⟩ -- MDM_INCIDENT (R178)
  ]

/-- Registers of block DEC. -/
def regsDEC : List RegDef := [
  ⟨0x0500000, 1, 4, 0x18080000, 0x00000000, 0x00000000, 0x00000000⟩, -- DEC_CAPS (R200)
  ⟨0x0500004, 1, 4, 0x00000000, 0x00000000, 0x00000000, 0x00000000⟩, -- DEC_RETAIN_USE (R200)
  ⟨0x0500040, 1, 4, 0x00000000, 0x00000000, 0x0000001F, 0x00000000⟩ -- DEC_INCIDENT (R200)
  ]

/-- Registers of block FE. -/
def regsFE : List RegDef := [
  ⟨0x0600000, 1, 4, 0x00000000, 0x00000000, 0x00000000, 0x00000000⟩, -- FE_SYNTH_STATE (R226)
  ⟨0x0600004, 1, 4, 0x0FA007D0, 0x00000000, 0x00000000, 0x00000000⟩, -- FE_TURNAROUND (R226)
  ⟨0x0600040, 1, 4, 0x00000000, 0x00000000, 0x0000007F, 0x00000000⟩, -- FE_INCIDENT (R226)
  ⟨0x0600100, 48, 4, 0x00000000, 0xF8000000, 0x00000000, 0x00000000⟩, -- FE_CHAIN_CTRL_nn (R226)
  ⟨0x0600200, 48, 4, 0x00008000, 0x00000000, 0x00000000, 0x00000000⟩ -- FE_PDET_nn (R226)
  ]

/-- Registers of block BT. -/
def regsBT : List RegDef := [
  ⟨0x0700000, 1, 4, 0x00000000, 0x00000000, 0x00000000, 0x00000000⟩, -- BT_STATE (R257)
  ⟨0x0700004, 1, 4, 0x00000000, 0x00000000, 0x00000000, 0x00000000⟩, -- BT_ALIGN (R257)
  ⟨0x0700040, 1, 4, 0x00000000, 0x00000000, 0x0000003F, 0x00000000⟩ -- BT_INCIDENT (R257)
  ]

/-- Registers of block EMAC. -/
def regsEMAC : List RegDef := [
  ⟨0x0800040, 1, 4, 0x00000000, 0x00000000, 0x0003FFFF, 0x00000000⟩, -- EMAC_INCIDENT (R277)
  ⟨0x0800100, 1, 4, 0x00000000, 0x003FFFFF, 0x00000000, 0x00000000⟩, -- EMAC_WAKE_CTRL (R277)
  ⟨0x0800104, 1, 4, 0x00000000, 0x00000000, 0x80000000, 0x00000000⟩, -- EMAC_WAKE_STATUS (R277)
  ⟨0x0800400, 512, 4, 0x00000000, 0xFFFFFFFF, 0x00000000, 0x00000000⟩, -- EMAC_WAKE_PAT_k_w (R277)
  ⟨0x0800C00, 64, 4, 0x00000000, 0xFFFFFFFF, 0x00000000, 0x00000000⟩, -- EMAC_WAKE_MASK_k_w (R277)
  ⟨0x0801000, 4, 4096, 0x4F000000, 0xCF1F0000, 0x00000000, 0x00000000⟩, -- EMAC_PORT_CTRL_p (R277)
  ⟨0x0801004, 4, 4096, 0x00000000, 0x00000000, 0x00000000, 0x00000000⟩, -- EMAC_PORT_STATUS_p (R277)
  ⟨0x0801008, 4, 4096, 0x000005EE, 0x00003FFF, 0x00000000, 0x00000000⟩, -- EMAC_MAX_FRAME_p (R277)
  ⟨0x080100C, 4, 4096, 0x0000FFFF, 0xF7FFFFFF, 0x00000000, 0x00000000⟩, -- EMAC_FLOW_CTRL_p (R277)
  ⟨0x0801010, 4, 4096, 0x01800100, 0x03FF03FF, 0x00000000, 0x00000000⟩, -- EMAC_RX_THRESH_p (R277)
  ⟨0x0801014, 4, 4096, 0x80C80014, 0x83FF007F, 0x00000000, 0x00000000⟩, -- EMAC_SAFETY_p (R277)
  ⟨0x0801018, 4, 4096, 0x00000000, 0xFFFFFFFF, 0x00000000, 0x00000000⟩, -- EMAC_ADDR_LO_p (R277)
  ⟨0x080101C, 4, 4096, 0x00000000, 0x0000FFFF, 0x00000000, 0x00000000⟩, -- EMAC_ADDR_HI_p (R277)
  ⟨0x0801020, 4, 4096, 0x00000000, 0x00000000, 0x00000000, 0x00000000⟩, -- EMAC_TS_STATE_p (R277)
  ⟨0x0801040, 8, 4, 0x00000000, 0x800FFFFF, 0x00000000, 0x00000000⟩, -- EMAC_CBS_0_q (R277)
  ⟨0x0802040, 8, 4, 0x00000000, 0x800FFFFF, 0x00000000, 0x00000000⟩, -- EMAC_CBS_1_q (R277)
  ⟨0x0803040, 8, 4, 0x00000000, 0x800FFFFF, 0x00000000, 0x00000000⟩, -- EMAC_CBS_2_q (R277)
  ⟨0x0804040, 8, 4, 0x00000000, 0x800FFFFF, 0x00000000, 0x00000000⟩ -- EMAC_CBS_3_q (R277)
  ]

/-- Registers of block RTE. -/
def regsRTE : List RegDef := [
  ⟨0x0900000, 1, 4, 0x00000000, 0x00000000, 0x00000000, 0x00000000⟩, -- RTE_FLOW_USE (R298)
  ⟨0x0900004, 1, 4, 0x00000000, 0x00000000, 0x00000000, 0x00000000⟩, -- RTE_SLOW_STATE (R298)
  ⟨0x0900040, 1, 4, 0x00000000, 0x00000000, 0x0000001F, 0x00000000⟩ -- RTE_INCIDENT (R298)
  ]

/-- Registers of block TM. -/
def regsTM : List RegDef := [
  ⟨0x0A00000, 1, 4, 0x00000000, 0x00000000, 0x00000000, 0x00000000⟩, -- TM_BUF_USE (R321)
  ⟨0x0A00040, 1, 4, 0x00000000, 0x00000000, 0x0000001F, 0x00000000⟩, -- TM_INCIDENT (R321)
  ⟨0x0A01000, 128, 8192, 0x00060010, 0xFFFFFFFF, 0x00000000, 0x00000000⟩, -- TM_RING_CTRL_g (R321)
  ⟨0x0A01004, 128, 8192, 0x00000000, 0xFFFFFFFF, 0x00000000, 0x00000000⟩, -- TM_RING_BASE_LO_g (R321)
  ⟨0x0A01008, 128, 8192, 0x00000000, 0xFFFFFFFF, 0x00000000, 0x00000000⟩, -- TM_RING_BASE_HI_g (R321)
  ⟨0x0A0100C, 128, 8192, 0x00000000, 0xFFFFFFFF, 0x00000000, 0x00000000⟩, -- TM_RING_PROD_g (R321)
  ⟨0x0A01010, 128, 8192, 0x00000000, 0xFFFFFFFF, 0x00000000, 0x00000000⟩, -- TM_RING_CQ_HEAD_g (R321)
  ⟨0x0A01014, 128, 8192, 0x00000000, 0x00000000, 0x00000000, 0x00000000⟩, -- TM_RING_IDX_g (R321)
  ⟨0x0A01018, 128, 8192, 0x00010000, 0xFFFFFFFF, 0x00000000, 0x00000000⟩, -- TM_RING_COAL_g (R321)
  ⟨0x0A0101C, 128, 8192, 0x00000000, 0x00000000, 0x00000000, 0x00000000⟩ -- TM_RING_STATUS_g (R321)
  ]

/-- Registers of block WCX. -/
def regsWCX : List RegDef := [
  ⟨0x0B00000, 1, 4, 0x0C003000, 0x00000000, 0x00000000, 0x00000000⟩, -- WCX_CAPS (R334)
  ⟨0x0B00004, 1, 4, 0x00000000, 0x00000000, 0x00000000, 0x00000000⟩, -- WCX_HOLD_USE (R334)
  ⟨0x0B00040, 1, 4, 0x00000000, 0x00000000, 0x0000007F, 0x00000000⟩ -- WCX_INCIDENT (R334)
  ]

/-- Registers of block SEAL. -/
def regsSEAL : List RegDef := [
  ⟨0x0B80000, 1, 4, 0x00000000, 0x00000000, 0x00000000, 0x00000003⟩, -- SEAL_LOCK (R336)
  ⟨0x0B80004, 1, 4, 0x00000000, 0x000003FF, 0x00000000, 0x80000000⟩, -- SEAL_CTRL (R336)
  ⟨0x0B80008, 1, 4, 0x00000000, 0xFFFFFFFF, 0x00000000, 0x00000000⟩, -- SEAL_SRC (R336)
  ⟨0x0B8000C, 1, 4, 0x00000000, 0x01FFFFFF, 0x00000000, 0x00000000⟩, -- SEAL_LEN (R336)
  ⟨0x0B80010, 1, 4, 0x00000000, 0x00000000, 0x00000000, 0x00000000⟩, -- SEAL_STATUS (R336)
  ⟨0x0B80040, 1, 4, 0x00000000, 0x00000000, 0x00000007, 0x00000000⟩, -- SEAL_INCIDENT (R336)
  ⟨0x0B80100, 32, 4, 0x00000000, 0x00000000, 0x00000000, 0xFFFFFFFF⟩, -- SEAL_KEY_k (R336)
  ⟨0x0B80200, 12, 4, 0x00000000, 0x00000000, 0x00000000, 0x00000000⟩ -- SEAL_MAC_k (R336)
  ]

/-- Registers of block CHK. -/
def regsCHK : List RegDef := [
  ⟨0x0C00040, 1, 4, 0x00000000, 0x00000000, 0x0000FFFF, 0x00000000⟩, -- CHK_INCIDENT (R341)
  ⟨0x0C01000, 8, 256, 0x00000000, 0x00000000, 0x00000000, 0x00000003⟩, -- CHK_n_LOCK (R341)
  ⟨0x0C01004, 8, 256, 0x00000000, 0x00000073, 0x00000000, 0xE0000000⟩, -- CHK_n_CTRL (R341)
  ⟨0x0C01008, 8, 256, 0x00000000, 0xFFFFFFFF, 0x00000000, 0x00000000⟩, -- CHK_n_FOLD_LO (R341)
  ⟨0x0C0100C, 8, 256, 0x00000000, 0xFFFFFFFF, 0x00000000, 0x00000000⟩, -- CHK_n_FOLD_HI (R341)
  ⟨0x0C01010, 8, 256, 0x00000000, 0x00000000, 0x00000000, 0xFFFFFFFF⟩, -- CHK_n_DATA (R341)
  ⟨0x0C01014, 8, 256, 0x00000000, 0x00000000, 0x00000000, 0x03FFFFFF⟩, -- CHK_n_DATA_PART (R341)
  ⟨0x0C01018, 8, 256, 0x00000000, 0xFFFFFFFF, 0x00000000, 0x00000000⟩, -- CHK_n_REMAINDER (R341)
  ⟨0x0C0101C, 8, 256, 0x00000000, 0xFFFFFFFF, 0x00000000, 0x00000000⟩, -- CHK_n_COUNT (R341)
  ⟨0x0C01020, 8, 256, 0x00000000, 0xFFFFFFFF, 0x00000000, 0x00000000⟩, -- CHK_n_EXPECT (R341)
  ⟨0x0C01024, 8, 256, 0x00000000, 0x00000000, 0x00000000, 0x00000000⟩ -- CHK_n_RESULT (R341)
  ]

/-- Registers of block RGM. -/
def regsRGM : List RegDef := [
  ⟨0x0D00000, 1, 4, 0x00000000, 0x00000000, 0x00000000, 0x00000000⟩, -- RGM_STATE (R366)
  ⟨0x0D00004, 1, 4, 0x00000000, 0x00000000, 0x00000000, 0x00000000⟩, -- RGM_READY (R366)
  ⟨0x0D00010, 1, 4, 0x00000000, 0x00000000, 0x00000000, 0x00000000⟩, -- RGM_SLOW_POP (R366)
  ⟨0x0D00014, 1, 4, 0x00000000, 0x00000000, 0x00000000, 0xE0007FFF⟩, -- RGM_SLOW_RETURN (R366)
  ⟨0x0D00040, 1, 4, 0x00000000, 0x00000000, 0x0000003F, 0x00000000⟩, -- RGM_INCIDENT (R366)
  ⟨0x0D01000, 24, 64, 0x00000000, 0x00000000, 0x00000000, 0xF0000FFF⟩, -- RGM_CORE_REQ_c (R366)
  ⟨0x0D01004, 24, 64, 0x00000000, 0x00000000, 0x00000000, 0x00000000⟩, -- RGM_CORE_RESULT_c (R366)
  ⟨0x0D01008, 24, 64, 0x00000000, 0x00000000, 0x00000000, 0x00000000⟩, -- RGM_CORE_TASK_c (R366)
  ⟨0x0D0100C, 24, 64, 0x00000000, 0x00000000, 0x00000000, 0x00000003⟩, -- RGM_CORE_END_c (R366)
  ⟨0x0D01010, 24, 64, 0x00000000, 0x01FFFFFF, 0x00000000, 0x00000000⟩ -- RGM_CORE_CMD_c (R366)
  ]

/-- Registers of block MEM. -/
def regsMEM : List RegDef := [
  ⟨0x0E00000, 1, 4, 0x00000000, 0x00000000, 0x00000000, 0x00000000⟩, -- MEM_FAULT_ADDR_LO (R366)
  ⟨0x0E00004, 1, 4, 0x00000000, 0x00000000, 0x00000000, 0x00000000⟩, -- MEM_FAULT_ADDR_HI (R366)
  ⟨0x0E00008, 1, 4, 0x00000000, 0x00000000, 0x00000000, 0x00000000⟩, -- MEM_FAULT_INFO (R366)
  ⟨0x0E00040, 1, 4, 0x00000000, 0x00000000, 0x0000001F, 0x00000000⟩ -- MEM_INCIDENT (R366)
  ]

/-- Registers of block GAF. -/
def regsGAF : List RegDef := [
  ⟨0x0F00000, 1, 4, 0x00070000, 0x00000000, 0x00000000, 0x00000000⟩, -- GAF_STATE (R395)
  ⟨0x0F00004, 1, 4, 0x00000000, 0x00000000, 0x00000000, 0x00000000⟩, -- GAF_VOTE (R395)
  ⟨0x0F00008, 1, 4, 0x00000000, 0x00000000, 0x00000000, 0x00000000⟩, -- GAF_MEASURE (R395)
  ⟨0x0F0000C, 1, 4, 0x00000000, 0x00000000, 0x80000000, 0x00000000⟩, -- GAF_WAKE_STATUS (R395)
  ⟨0x0F00040, 1, 4, 0x00000000, 0x00000000, 0x0001FFFF, 0x00000000⟩ -- GAF_INCIDENT (R395)
  ]

/-- Registers of block MGR. -/
def regsMGR : List RegDef := [
  ⟨0x1000000, 1, 4, 0x00000000, 0x00000000, 0x00000000, 0x00000000⟩, -- MGR_BOOT_STATUS (R421)
  ⟨0x1000004, 1, 4, 0x00000000, 0x00000000, 0x00000000, 0x00000000⟩, -- MGR_NV_STATE (R421)
  ⟨0x1000040, 1, 4, 0x00000000, 0x00000000, 0x000001FE, 0x00000000⟩ -- MGR_INCIDENT (R421)
  ]

/-- Registers of block TS. -/
def regsTS : List RegDef := [
  ⟨0x1100000, 1, 4, 0x00000000, 0x00000000, 0x00000000, 0x00000000⟩, -- TS_STATUS (R441)
  ⟨0x1100004, 1, 4, 0x00000000, 0x00000000, 0x00000000, 0x00000000⟩, -- TS_NEWEST_SEQ (R441)
  ⟨0x1100040, 1, 4, 0x00000000, 0x00000000, 0x0000001F, 0x00000000⟩ -- TS_INCIDENT (R441)
  ]

/-- Registers of block DLY. -/
def regsDLY : List RegDef := [
  ⟨0x1200000, 1, 4, 0x00000000, 0x00000000, 0x00000000, 0x00000000⟩, -- DLY_LAST_TICK (R452)
  ⟨0x1200010, 1, 4, 0x00000000, 0x000007FF, 0x00000000, 0x00000000⟩, -- DLY_PEEK_SEL (R452)
  ⟨0x1200014, 1, 4, 0x00000000, 0x00000000, 0x00000000, 0x00000000⟩, -- DLY_PEEK_LO (R452)
  ⟨0x1200018, 1, 4, 0x00000000, 0x00000000, 0x00000000, 0x00000000⟩, -- DLY_PEEK_HI (R452)
  ⟨0x1200040, 1, 4, 0x00000000, 0x00000000, 0x00000003, 0x00000000⟩, -- DLY_INCIDENT (R452)
  ⟨0x1200100, 16, 16, 0x00000000, 0xFFFF0000, 0x00000000, 0x00000000⟩, -- DLY_FILT_k_CTRL (R452)
  ⟨0x1200104, 16, 16, 0x00000000, 0xFFFFFFFF, 0x00000000, 0x00000000⟩, -- DLY_FILT_k_BASE (R452)
  ⟨0x1200108, 16, 16, 0x00000000, 0xFFFFFFFF, 0x00000000, 0x00000000⟩ -- DLY_FILT_k_LIMIT (R452)
  ]

/-- Registers of block TST. -/
def regsTST : List RegDef := [
  ⟨0x1300000, 1, 4, 0x2934847B, 0x00000000, 0x00000000, 0x00000000⟩, -- TST_IDCODE (R474)
  ⟨0x1300004, 1, 4, 0x00000002, 0x00000000, 0x00000000, 0x00000000⟩, -- TST_LIFECYCLE (R474)
  ⟨0x1300040, 1, 4, 0x00000000, 0x00000000, 0x0000000F, 0x00000000⟩ -- TST_INCIDENT (R474)
  ]

/-- The registers of the block whose range holds an address (R41). -/
def regsOf (addr : Nat) : List RegDef :=
  if addr < 0x100000 then regsGLB
  else if addr < 0x200000 then regsMBX
  else if addr < 0x300000 then regsPLN
  else if addr < 0x400000 then regsWMAC
  else if addr < 0x500000 then regsMDM
  else if addr < 0x600000 then regsDEC
  else if addr < 0x700000 then regsFE
  else if addr < 0x800000 then regsBT
  else if addr < 0x900000 then regsEMAC
  else if addr < 0xA00000 then regsRTE
  else if addr < 0xB00000 then regsTM
  else if addr < 0xB80000 then regsWCX
  else if addr < 0xC00000 then regsSEAL
  else if addr < 0xD00000 then regsCHK
  else if addr < 0xE00000 then regsRGM
  else if addr < 0xF00000 then regsMEM
  else if addr < 0x1000000 then regsGAF
  else if addr < 0x1100000 then regsMGR
  else if addr < 0x1200000 then regsTS
  else if addr < 0x1300000 then regsDLY
  else if addr < 0x1400000 then regsTST
  else []

/-- An address is one of a definition's registers. -/
def RegDef.holds (r : RegDef) (addr : Nat) : Bool :=
  decide (r.base ≤ addr) && decide (addr < r.base + r.n * r.stride) && (addr - r.base) % r.stride == 0

/-- The register at an address of F0's window, if there is one (R42). -/
def regDef (addr : Nat) : Option RegDef := (regsOf addr).find? (fun r => r.holds addr)

/-- What a register holds that nothing has written. -/
def regReset (addr : Nat) : Reg :=
  match regDef addr with
  | some r => r.reset
  | none => 0

end Sys2Proof.Machine
end

