-- ==== Sys2Proof/Machine/State.lean ====
section
/-! DEFINITION. The state of the device as plain data, block by block; every field's default is its value at reset. -/
namespace Sys2Proof.Machine

/-- The time registers a master's read of GLB_SHOW_TIME_LO latched (R31). -/
structure Latch where
  hi : Reg := 0
  tickLo : Reg := 0
  tickHi : Reg := 0
  deriving DecidableEq, Repr

/-- Function states, with the codes of R52. -/
inductive FnState
  | off | ready | shutdown | enablePending
  deriving DecidableEq, Repr

/-- A response waiting for the response area (R58, R60): its words, whether it is final, and the beat in which it was made. -/
structure Resp where
  words : List Word
  final : Bool
  beat : Nat
  deriving DecidableEq, Repr

/-- What a running shutdown of a function is for (R392, R393). -/
inductive ShutKind
  | none | reset | disable
  deriving DecidableEq, Repr

/-- One function and its mailbox slot (R52, R55 to R60, R392, R393). -/
structure FnSlot where
  /-- MBX_STATE.FN_STATE -/
  st : FnState := .off
  /-- the request area, words 0 to 511 -/
  reqArea : Table Word := []
  /-- the response area, words 0 to 511 -/
  respArea : Table Word := []
  reqBusy : Bool := false
  respValid : Bool := false
  /-- the posted response is final, and its tag -/
  respFinal : Bool := false
  respTag : Nat := 0
  /-- tags of the outstanding requests; their number is OUTSTANDING -/
  tags : List Nat := []
  versionSeen : Bool := false
  /-- responses not yet posted, first in first out -/
  waiting : List Resp := []
  /-- an acknowledgement written in the present beat (R58) -/
  ackStaged : Bool := false
  /-- how many inputs of the beat had been issued when its doorbell rang (R33) -/
  rangAt : Nat := 0
  /-- beat in which the response area last became free -/
  freedBeat : Nat := 0
  /-- NumVFs holds this function (its enable is asked for) and its shutdown's kind and start -/
  shut : ShutKind := .none
  shutStart : Nat := 0
  /-- an enable waits for the running shutdown (R393) -/
  enableAfter : Bool := false
  /-- start of a pending enable -/
  enableStart : Nat := 0
  deriving DecidableEq, Repr

/-- An entry of a function's MSI-X table (R48): message address and data, and its mask bit. -/
structure MsixEntry where
  addrLo : Reg := 0
  addrHi : Reg := 0
  data : Reg := 0
  masked : Bool := true
  deriving DecidableEq, Repr

/-- What the host has set in the configuration space of a function, and its BAR2/3 (R47, R48, R406). -/
structure PcieFn where
  /-- maximum payload and maximum read request in octets -/
  maxPayload : Nat := 128
  maxReadReq : Nat := 512
  /-- the Command register: Memory Space Enable in bit 1, Bus Master Enable in bit 2 -/
  command : Reg := 0
  /-- 10-bit tags enabled as requester -/
  tenBit : Bool := false
  /-- MSI-X Enable and Function Mask -/
  msixOn : Bool := false
  msixMask : Bool := false
  /-- address bits of BAR0 to BAR3 by double word; of F0 also, from 4 on, of the virtual functions' BARs -/
  bars : Table Reg := []
  /-- MSI-X table by vector, and the vectors whose pending bit is set -/
  table : Table MsixEntry := []
  waiting : List Nat := []
  deriving DecidableEq, Repr

/-- The PCIe endpoint (R47, R48). -/
structure Pcie where
  /-- NumVFs of F0's SR-IOV capability, 0 while VF Enable is clear -/
  numVfs : Nat := 0
  /-- NumVFs as last written, VF Enable, and VF Memory Space Enable -/
  numWritten : Nat := 0
  vfOn : Bool := false
  vfMem : Bool := false
  fn : Table PcieFn := []
  deriving DecidableEq, Repr

/-- GLB and the shared machinery of the beat (R31 to R39). -/
structure Glb where
  /-- the device's running time in ns since power-on: the beats it has lived through, whatever show time was set to; the model's own measure of durations -/
  up : Nat := 0
  /-- GLB_DEVICE_ID.TS_PRESENT: the variant fuse (R1, R2) -/
  tsPresent : Bool := true
  /-- time latches by master code (R31) -/
  latch : Table Latch := []
  /-- what the last register read of each master returned -/
  readData : Table Word := []
  /-- register writes accepted in the present beat (R19), in order of issue; their address is that of F0's window -/
  staged : List Access := []
  /-- incident bits set in the present beat (R18): window address, and the bit, plus 32 where it was newly set -/
  incSet : List (Nat × Nat) := []
  /-- hand-offs sampled at the present boundary, in stamp order (R39) -/
  handoffs : List Handoff := []
  /-- hand-offs not yet sampled (R39) -/
  handoffWait : List Handoff := []
  /-- the default commands of the present boundary have been queued (the model's own, log 1) -/
  filled : Bool := false
  /-- MSI-X firings by function x 256 + vector (R49) -/
  msix : Table Nat := []
  /-- the PCIe endpoint -/
  pcie : Pcie := {}
  deriving DecidableEq, Repr

/-- One take-log record (R101). -/
structure TakeLogRec where
  tick : Nat
  radio : Nat
  take : Nat
  code : Nat
  sent : Nat
  abandoned : Nat
  served : Nat
  startBeat : Nat
  endBeat : Nat
  deriving DecidableEq, Repr

/-- Take airtime of one cast member (R109): the tick, the radio, its tenant and access category, and nanoseconds. -/
structure Airtime where
  tick : Nat
  radio : Nat
  tenant : Nat
  ac : Nat
  ns : Nat
  deriving DecidableEq, Repr

/-- A station's call sheet, words 0 to 9 (R90); the firmware-owned words 10 to 63 are octets of the backlot. -/
structure CallSheet where
  ulExcluded : Bool := false
  trackPref : Nat := 0
  links : Nat := 0
  retake : Bool := false
  valid : Bool := false
  tenant : Nat := 0
  bss : Nat := 0
  backlogBk : Nat := 0
  backlogBe : Nat := 0
  backlogVi : Nat := 0
  backlogVo : Nat := 0
  lastServed : Nat := 0
  servedAvg : Nat := 0
  timingEst : Nat := 0
  cfoTick : Nat := 0
  cfoEst : Nat := 0
  rateA : Nat := 0
  rateB : Nat := 0
  rateC : Nat := 0
  metric : Nat := 0
  missed : Nat := 0
  /-- octets served in the present tick, in the planner's own words (R90) -/
  servedTick : Nat := 0
  /-- full tick of the carrier-offset estimate, in the planner's own words (R112) -/
  cfoFullTick : Nat := 0
  deriving DecidableEq, Repr

/-- What a radio is doing with its playing sheet (R92 to R98). -/
inductive PlayPhase
  | idle | contending | onAir
  deriving DecidableEq, Repr

/-- How a PPDU to one station is sent (R190, R195): its code rate, whether it carries Retake copies, and whether it is coded with BCC. -/
structure PpduForm where
  rate : Nat := 0
  copies : Bool := false
  bcc : Bool := false
  deriving DecidableEq, Repr

/-- A planned MSDU whose PPDU has yet to start (R96, R143): its station and number, the show time of the start, the PPDU's airtime with what it solicits, and its form. -/
structure Later where
  sid : Nat
  id : Nat
  at' : Nat
  airNs : Nat := 1
  form : PpduForm := {}
  deriving DecidableEq, Repr

/-- The weights of one take (R174, R176, R177): the nulled dimensions, the stations steered with the tick of their feedback report, and the clients protected (chip, SID) with the subchannels on which their estimates let a null lie. -/
structure Weights where
  radio : Nat
  tick : Nat
  take : Nat
  dims : Nat := 0
  steer : List (Nat × Nat) := []
  nulls : List (Nat × Nat × Nat) := []
  deriving DecidableEq, Repr

/-- Play state of one radio: the next or present take, and the beat in which the take before it ended. -/
structure Play where
  phase : PlayPhase := .idle
  cur : Nat := 0
  lastEnd : Nat := 0
  startBeat : Nat := 0
  /-- beat in which the take began to contend (R92, R101) -/
  contendBeat : Nat := 0
  /-- AIFSN and contention window in slots with which the take contends (R93, R137) -/
  aifsn : Nat := 0
  window : Nat := 0
  /-- planned MSDUs whose PPDU has yet to start (R143) -/
  later : List Later := []
  /-- of the take on the air: its chains, its weights, and its triggers that are yet to come: show time of the SIFS's end, and users with targets in dBm (R81, R162, R176) -/
  mask : Nat := 0
  weights : Option Weights := none
  triggers : List (Nat × List (Nat × Int)) := []
  /-- its PPDUs that have yet to start, with show times in place of times from its start (R209, R212, R222) -/
  air : List PpduAir := []
  deriving DecidableEq, Repr

/-- Forced dark ticks of one radio (R116). -/
structure Forced where
  radio : Nat
  first : Nat
  count : Nat
  deriving DecidableEq, Repr

/-- The tick planner (R76 to R118). -/
structure Pln where
  /-- sheet slots by 3 x radio + slot (R79) -/
  sheets : Table Sheet := []
  /-- take records of the present and the 64 most recent complete ticks (R79, R101) -/
  log : List TakeLogRec := []
  /-- call sheets by SID (R90) -/
  call : Table CallSheet := []
  /-- the call sheets as snapped at the last draft's opening (R76) -/
  snap : Table CallSheet := []
  /-- play state by radio -/
  play : Table Play := []
  forced : List Forced := []
  /-- PLN_BUDGET.BUDGET_UJ (R104) -/
  budget : Nat := 0
  /-- a revision held between beat 864 and 896 (R104) -/
  heldRevision : Option Nat := none
  /-- chip cost in nJ of the last locked sheets (R115) -/
  lockCost : Nat := 0
  /-- tick whose sheets were last judged (R114) -/
  lockTick : Nat := 0
  /-- PLN_LOCK_STATUS (R114) -/
  lockStatus : Reg := 0x00000555
  /-- takes shed before their own tick began: radio, tick, take (R99) -/
  shed : List (Nat × Nat × Nat) := []
  /-- tick + 1 of the tick whose draft opened last, 0 for none (R76) -/
  opened : Nat := 0
  /-- take airtime given to cast members, oldest first (R109, R110) -/
  air : List Airtime := []
  /-- stations that had a fresh report when a sheet was drafted: radio, tick, SID (R174) -/
  fresh : List (Nat × Nat × Nat) := []
  deriving DecidableEq, Repr

/-- An MSDU in a MAC queue (R142, R143, R148). -/
structure Msdu where
  id : Nat
  ac : Nat
  /-- its TID, of which `ac` is the access category -/
  tid : Nat := 0
  len : Nat
  /-- show time and running time of its entry into the queue -/
  entry : Nat
  since : Nat := 0
  retries : Nat := 0
  /-- its first transmission has started -/
  started : Bool := false
  /-- the radio on which an MPDU of it is on the air now -/
  onAir : Option Nat := none
  /-- sequence number of its MPDU, once that has been sent (R135) -/
  seq : Option Nat := none
  /-- its MPDU has been enciphered, by the operation of this number (R26, R147, R324) -/
  enc : Option Nat := none
  /-- a group-addressed frame that a DTIM has released (R145) -/
  dtim : Bool := false
  /-- the host ring that gave it, and its descriptor's cookie -/
  ring : Option Nat := none
  cookie : Nat := 0
  data : List Byte := []
  deriving DecidableEq, Repr

/-- A received MPDU held for reordering (R139). -/
structure Held where
  seq : Nat
  time : Nat
  msdus : List (List Byte)
  prot : Bool
  deriving DecidableEq, Repr

/-- A receive block-ack agreement (R139): the granted window, the next expected sequence number and what is held. -/
structure BaRx where
  window : Nat := 0
  next : Nat := 0
  held : List Held := []
  /-- an agreement stands -/
  on : Bool := false
  deriving DecidableEq, Repr

/-- An individual TWT agreement (R146). -/
structure Twt where
  intervalTicks : Nat
  startTick : Nat
  startBeat : Nat
  duration : Nat
  deriving DecidableEq, Repr

/-- A protected MPDU held until verified (R27, R149): its station, 4,096 for a transmitter without a record, the frame, and the operation that verifies it, once it is under way. -/
structure Unverified where
  sid : Nat
  mpdu : RxMpdu
  run : Option Nat := none
  deriving DecidableEq, Repr

/-- A station record (R127 to R146); `used` says that the SID is in use. -/
structure Sta where
  used : Bool := false
  addr : Nat := 0
  mld : Bool := false
  emlsr : Bool := false
  pmf : Bool := false
  /-- it has HT (R130): what STA_ADD does not say of a station with MPDU_MAX 0 -/
  ht : Bool := true
  retakeOffered : Bool := false
  bss : Nat := 0
  aid : Nat := 0
  mpduMax : Nat := 0
  ampduExp : Nat := 0
  uapsd : Nat := 0
  linkA : Nat := 0
  linkB : Nat := 0
  linkC : Nat := 0
  ulMap : Nat := 0
  dlMap : Nat := 0
  caps : Nat := 0
  /-- PTK_SLOT (R134, R328), 0x3FFF for none -/
  ptk : Nat := 0x3FFF
  doze : Bool := false
  /-- individual TWT agreements, the broadcast schedules it has joined, and the schedule last offered in place of one it asked for (R146) -/
  twt : List Twt := []
  bcast : List Twt := []
  offer : Option Twt := none
  baRx : Table BaRx := []
  /-- transmit block-ack windows by TID, 0 for no agreement -/
  baTx : Table Nat := []
  /-- buffer size asked for in an ADDBA Request that waits for its response, by TID, 0 for none (R139) -/
  baAsk : Table Nat := []
  /-- next transmit sequence number by TID, one space for all links (R135) -/
  txSeq : Table Nat := []
  /-- sequence numbers last received outside an agreement, by TID, 16 for management frames: number + 1, 0 for none -/
  lastSeq : Table Nat := []
  queue : List Msdu := []
  /-- MSDU numbers released to the station while it dozes (PS-Poll, U-APSD) -/
  released : List Nat := []
  deriving DecidableEq, Repr

/-- What the MAC built of the last beacon of a BSS (R122, R124, R137): the fixed fields, the TIM, the EDCA Parameter Set and the Basic Multi-Link element. -/
structure Beacon where
  tsf : Nat
  interval : Nat
  /-- Capability Information -/
  capability : Nat := 1
  dtimCount : Nat
  dtimPeriod : Nat
  /-- AIDs with buffered traffic, 0 for group-addressed traffic -/
  tim : List Nat
  /-- AIFSN, ECWmin, ECWmax and TXOP limit advertised for BK, BE, VI and VO -/
  edca : List Nat
  updCount : Nat
  /-- BSSs of the AP MLD, and the TSF offset between its links -/
  links : List Nat
  tsfOffset : Nat := 0
  deriving DecidableEq, Repr

/-- A frame that the MAC sends on its own: its station, its kind, and whether it has been enciphered (R129, R147). -/
structure OwnFrame where
  sid : Nat
  kind : Nat
  enc : Bool := false
  deriving DecidableEq, Repr

/-- A BSS (R119 to R126, R137). -/
structure Bss where
  running : Bool := false
  bssid : Nat := 0
  tenant : Nat := 0
  /-- AP MLD, 31 for none -/
  mld : Nat := 31
  beaconTu : Nat := 0
  dtim : Nat := 0
  pmf : Nat := 0
  beaconProt : Bool := false
  template : List Byte := []
  /-- a template that replaces it from the next TBTT -/
  nextTemplate : Option (List Byte) := none
  phase : Nat := 0
  /-- first tick whose TBTT carries a beacon -/
  firstTick : Nat := 0
  /-- EDCA parameter-set update count and whether a change waits for the next beacon (R137) -/
  updCount : Nat := 0
  updPending : Bool := false
  /-- beacons since the last DTIM -/
  dtimCount : Nat := 0
  /-- tick + 1 of the last TBTT whose beacon was sent or skipped, 0 for none -/
  beaconDue : Nat := 0
  /-- group-addressed MSDUs held for the DTIM, and those free to go -/
  groupHeld : List Msdu := []
  groupQueue : List Msdu := []
  /-- broadcast TWT schedules (R146) -/
  bcastTwt : List Twt := []
  /-- a broadcast Deauthentication is to be sent (R126) -/
  deauth : Bool := false
  /-- nanoseconds that a beacon of it takes, as the planner reckons (R123) -/
  beaconNs : Nat := 0
  /-- what the MAC built of the last beacon and of the last probe response (R124) -/
  beacon : Option Beacon := none
  probe : Option Beacon := none
  /-- kinds of BSS key under which its next beacon (3) or its Deauthentication (2) has been protected (R147) -/
  enc : List Nat := []
  deriving DecidableEq, Repr

/-- The wireless MAC (R119 to R150). -/
structure Mac where
  bss : Table Bss := []
  sta : Table Sta := []
  /-- removed SIDs awaiting release, with the tick of removal (R133) -/
  removed : List (Nat × Nat) := []
  /-- number for the next MSDU -/
  nextId : Nat := 0
  /-- frames the MAC sends on its own and has not sent yet -/
  ownTx : List OwnFrame := []
  /-- protected MPDUs held until verified, in the order received (R27, R147, R149) -/
  unverified : List Unverified := []
  /-- sequence number + 1 of the last management frame of a transmitter without a record, by its address (R149) -/
  strangers : Table Nat := []
  /-- stations that the contention TXOP on the air serves, by radio (R136) -/
  serving : Table (List Nat) := []
  /-- end of the contention TXOP on the air, by radio, in ns (0 for none) -/
  txopEnd : Table Nat := []
  /-- SERVICE field of the last PPDU with data for a station that each radio sent (R190) -/
  service : Table Nat := []
  /-- PPDUs on the air, by radio, sent and still to be sent in a TXOP: show times of the first sample and of the end (R153, R166, R212) -/
  spans : Table (List (Nat × Nat)) := []
  /-- failed attempts of an ordinary queue since its last success, by BSS x 4 + access category: the doublings of its contention window (R93, R137) -/
  backoffs : Table Nat := []
  deriving DecidableEq, Repr

/-- A channel and IF (the channel fields of FE_CHANNEL_SET). -/
structure Channel where
  ifc : Nat := 0
  primary : Nat := 0
  bw : Nat := 0
  centre : Nat := 0
  deriving DecidableEq, Repr

/-- The last reception of a radio to end (R159, R165): the L-STF of its PPDU, when it ended, whether the PPDU was received to its end, and the solicited users whose status was not OK. -/
structure RxDone where
  start : Nat
  ended : Nat
  ok : Bool := true
  bad : List Nat := []
  deriving DecidableEq, Repr

/-- The reception of a radio (R153 to R165). -/
structure Rx where
  receiving : Bool := false
  /-- show time at which the L-STF began, and of the detection -/
  start : Nat := 0
  detected : Nat := 0
  /-- frozen level in dBm -/
  level : Int := 0
  frozen : Bool := false
  dsss : Bool := false
  solicited : Bool := false
  lsigPassed : Bool := false
  /-- excess in dB of the strongest lost newcomer -/
  lostDb : Nat := 0
  /-- show time at which a DSSS reception finds its SFD, none when it does not (R156) -/
  sfdAt : Option Nat := none
  /-- gain in dB of each local chain (R160), and a later STF at which the AGC re-adjusts: its show time, and the change of level in dB (R161) -/
  gains : List (Nat × Nat) := []
  stf : Option (Nat × Int) := none
  /-- AGC level preset for a TB PPDU that a trigger solicits, and the stations that trigger named (R162, R164) -/
  preset : Option Int := none
  named : List Nat := []
  /-- receptions that have ended within the last tick, newest first -/
  done : List RxDone := []
  /-- show time at which the converters clip, none when they do not (R161) -/
  clipAt : Option Nat := none
  /-- streams in the order in which the detector took those of the last reception (R171) -/
  sic : List Nat := []
  /-- beats idle so far in the tick, whether the present beat has been busy with a reception, and show time up to which a transmission or turnaround keeps it busy (R166) -/
  idleBeats : Nat := 0
  busyBeat : Bool := false
  busyUntil : Nat := 0
  /-- end of the last PPDU sent whose turnaround is over (R175) -/
  sentTo : Nat := 0
  /-- channel of the tick before a change in it, none in a tick without one (R166, R229) -/
  noiseChan : Option Channel := none
  /-- idle beats in the tick that are not idle for a chain, which calibrates, by local chain (R219) -/
  chainBusy : Table Nat := []
  deriving DecidableEq, Repr

/-- A noise report (R166, R180): tick, idle beats, subchannels, primary, in service, entries. -/
structure NoiseRep where
  tick : Nat
  idle : Nat
  nSub : Nat
  primary : Nat
  inService : Bool
  /-- chains idle for enough beats, by bit -/
  measured : Nat := 0
  entries : Table (BitVec 16)
  deriving DecidableEq, Repr

/-- A feedback report in the steering store (R173): its tick + 1, 0 for none, its length and its octets. -/
structure Steer where
  tick1 : Nat := 0
  len : Nat := 0
  octets : List Byte := []
  deriving DecidableEq, Repr

/-- A sounding (R172): the stations it names with the Ng asked of each, the NDP's LTFs, one for each chain of the take, and its bandwidth. -/
structure Sounding where
  named : List (Nat × Nat) := []
  ltfs : Nat := 0
  bw : Nat := 0
  deriving DecidableEq, Repr

/-- The modems (R151 to R181). -/
structure Mdm where
  rx : Table Rx := []
  /-- quality log by radio x 4,096 + place: the four words (R164) -/
  log : Table (List Word) := []
  /-- reports written so far by radio -/
  logCount : Table Nat := []
  /-- latest report by radio x 4,096 + SID, empty for none -/
  latest : Table (List Word) := []
  noise : List (Nat × NoiseRep) := []
  /-- steering store by radio x 4,096 + SID (R173) -/
  steering : Table Steer := []
  /-- last sounding by radio (R172), and by radio x 4,096 + SID the tick + 1 of the last one that named the station (R174) -/
  sounding : Table Sounding := []
  sounded : Table Nat := []
  /-- cross-channel estimates by radio: chip, SID, tick, subchannels, oldest written first (R175) -/
  cross : List (Nat × CrossEst × Nat) := []
  /-- weights of the locked takes (R176, R177) -/
  weights : List Weights := []
  deriving DecidableEq, Repr

/-- A kept codeword (R192, R194). -/
structure Slot where
  sid : Nat
  rsn : Nat
  index : Nat
  rate : Nat
  seed : Nat
  expiry : Nat
  combines : Nat := 0
  /-- a combine of it is settled, and this is when its decode ends and the slot is released (R197, R198) -/
  gone : Option Nat := none
  /-- end of the decode of the last combine that failed (R198) -/
  busy : Option Nat := none
  llrs : List Int := []
  deriving DecidableEq, Repr

/-- A run of a Retake map (R195). -/
structure Run where
  rsn : Nat
  seed : Nat
  first : Nat
  count : Nat
  deriving DecidableEq, Repr

/-- An aligned MPDU that the device has sent and that has not completed (R194, R196, R199): its TID and sequence number; tick, radio, RSN, seed and code rate of its PPDU; its codewords; Retry; and the radio on which a copy of it is outstanding. -/
structure Original where
  tid : Nat
  seq : Nat
  tick : Nat
  radio : Nat
  rsn : Nat
  seed : Nat
  rate : Nat
  first : Nat
  count : Nat
  retry : Bool := false
  copied : Option Nat := none
  deriving DecidableEq, Repr

/-- Retake as negotiated with a station (R189, R191, R199). -/
structure Peer where
  accepted : Bool := false
  ul : Bool := false
  dl : Bool := false
  cross : Bool := false
  retainCw : Nat := 0
  /-- next downlink RSN, and the tick + 1 of each RSN's last use -/
  rsn : Nat := 0
  lastUse : Table Nat := []
  /-- aligned MPDUs sent and not completed, and the octets of the last Retake map sent (R195, R196) -/
  sent : List Original := []
  map : List Byte := []
  deriving DecidableEq, Repr

/-- A codeword whose decoding has been settled and that ends at a show time (R187): radio, SID, outcome code, iterations, whether Retake combined it, and whether the MAC is to have it. -/
structure CwRun where
  ends : Nat
  radio : Nat
  sid : Nat
  code : Nat
  iters : Nat := 0
  combined : Bool := false
  toMac : Bool := true
  /-- it combines a copy with a kept slot (R198) -/
  combine : Bool := false
  deriving DecidableEq, Repr

/-- The coding cluster (R182 to R202). -/
structure Dec where
  slots : List Slot := []
  peers : Table Peer := []
  /-- stations' aligned PPDUs whose codeword 0 passed: SID, radio, RSN -/
  passed : List (Nat × Nat × Nat) := []
  /-- map of the copy PSDU being received, by radio x 4,096 + SID; empty for none -/
  maps : Table (List Run) := []
  /-- copy PSDUs discarded for a bad map, while they last: radio x 4,096 + SID (R198) -/
  bad : List Nat := []
  /-- codewords handed in that wait for a core, in hand-off order, and those whose end is settled (R184, R187) -/
  waiting : List Codeword := []
  running : List CwRun := []
  /-- when each of the 24 cores is free again, in ns of show time (R184) -/
  cores : List Nat := List.replicate 24 0
  /-- codeword outcomes of the present beat, by code (R187) -/
  outcomes : List (Nat × Nat) := []
  deriving DecidableEq, Repr

/-- Synthesiser states with the codes of R205. -/
inductive Synth
  | off | starting | locked | settling | calibrating | fault
  deriving DecidableEq, Repr

/-- A request that has had PENDING and waits for its final response (R60): who asked, its tag and its opcode. -/
structure Pend where
  caller : Master
  tag : Nat
  op : Nat
  deriving DecidableEq, Repr

/-- A radio's synthesiser and service (R205 to R210, R228, R229). -/
structure Radio where
  synth : Synth := .off
  /-- running time at which the present state was entered -/
  entered : Nat := 0
  /-- acquisitions that failed since the start or the loss of lock -/
  failedPasses : Nat := 0
  inService : Bool := false
  /-- the channel stored for the next start, and the channel in force -/
  stored : Option Channel := none
  chan : Option Channel := none
  /-- a pending start: its tick S and who waits (R228) -/
  startTick : Option Nat := none
  startReq : Option Pend := none
  /-- a stop due at the boundary that begins this tick -/
  stopTick : Option Nat := none
  stopReqs : List Pend := []
  /-- a pending channel change: CHANGE_TICK and channel -/
  change : Option (Nat × Channel) := none
  changeBegun : Bool := false
  /-- full calibrations scheduled for ticks, and one that must run (again) at the next lock -/
  fullCalAt : List Nat := []
  calAtLock : Bool := false
  /-- tick of the last full calibration -/
  fullCalTick : Nat := 0
  muted : Bool := false
  /-- first tick in which contention traffic may run (R228) -/
  airFrom : Nat := 0
  /-- VCO band that SYN_BAND kept, with its merit (R217, R220) -/
  band : Option (Nat × Nat) := none
  /-- tick at which Gulmet sets the enable bit (R228) -/
  enableAt : Option Nat := none
  deriving DecidableEq, Repr

/-- A chain (R204, R212, R215 to R222, R226). -/
structure Chain where
  due : Bool := false
  dueTick : Nat := 0
  calibrating : Bool := false
  calOk : Bool := false
  calTick : Nat := 0
  calTemp : Int := 0
  /-- coefficient sets, most recently used first, with the measured image rejection -/
  sets : List (Channel × Nat) := []
  /-- results kept of the other steps, one for each (R217, R220) -/
  kept : List CalStep := []
  /-- port of the last reception, none until one -/
  lastPort : Option Nat := none
  /-- port selected now (0 = port 1), and the levels of the FEM lines -/
  port : Nat := 0
  pa : Bool := false
  lna : Bool := false
  byp : Bool := false
  deriving DecidableEq, Repr

/-- A delivered grant set of radio C (R223, R232): tick E, EXPIRY_TICK, ranges (limit, low MHz, high MHz). -/
structure Grant where
  eff : Nat
  expiry : Nat
  ranges : List (Int × Nat × Nat)
  deriving DecidableEq, Repr

/-- The aerial front-end (R203 to R232). -/
structure Fe where
  radio : Table Radio := []
  chain : Table Chain := []
  /-- grant sets delivered, oldest first -/
  grants : List Grant := []
  /-- detector readings of PPDUs that have yet to end: show time of the end, tick, chain, level (R222) -/
  readings : List (Nat × Nat × Nat × Int) := []
  deriving DecidableEq, Repr

/-- Big Top modes with the codes of R234. -/
inductive BtMode
  | off | independent | aligning | coordinated | holdover
  deriving DecidableEq, Repr

/-- A neighbour's cue for one tick (R250 to R252): the segments held, and what became of it. -/
structure Cue where
  chip : Nat
  tick : Nat
  src : Nat
  segCount : Nat
  /-- segment index and body octets -/
  segs : List (Nat × List Byte) := []
  complete : Bool := false
  late : Bool := false
  clash : Bool := false
  bad : Bool := false
  deriving DecidableEq, Repr

/-- One cued take (R248). -/
structure CueTake where
  radio : Nat
  centre : Nat
  bw : Nat
  puncture : Nat
  es : Nat
  endBeat : Nat
  kind : Nat
  obssPd : Nat
  /-- SID, uplink, RU, NSS -/
  entries : List (Nat × Bool × Nat × Nat)
  deriving DecidableEq, Repr

/-- A frame the device sent of its own (R242, R245, R249): type, TICK and body octets. -/
structure BtTx where
  msg : Nat
  tick : Nat
  body : List Byte
  deriving DecidableEq, Repr

/-- The alignment of show time (R235 to R244). Times of this block are in ns of the device's running time. -/
structure Servo where
  /-- filtered offset, reference minus show time, in ns -/
  offset : Int := 0
  /-- rate correction in ppb -/
  rate : Int := 0
  /-- offset still to be slewed, in ns -/
  slew : Int := 0
  /-- a step of show time due at the next tick boundary, in ns -/
  step : Option Nat := none
  usable : Bool := false
  lastSync : Nat := 0
  lastCorr : Nat := 0
  estAtCorr : Nat := 0
  hostErr : Nat := 0
  /-- the last Announce of each master heard, and of these the one chosen (R236) -/
  masters : List AnnounceMsg := []
  parent : Option AnnounceMsg := none
  /-- sequenceId and receive stamp of the last event message that the router's side handed over, by port (R273) -/
  handed : Table (Nat × Nat) := []
  /-- sequenceId, correctionField and receive stamp of the two-step Sync that waits for its Follow_Up -/
  heard : Option (Nat × Int × Nat) := none
  /-- origin time and receive stamp of the last Sync -/
  exchange : Option (Int × Int) := none
  /-- sequenceId of the last Delay_Req and its transmit stamp, once it is sent -/
  reqSeq : Nat := 0
  reqSent : Option Nat := none
  /-- mean path delay in ns, once measured -/
  delay : Option Int := none
  /-- consecutive good ticks, and good so far in this tick (R243) -/
  goodTicks : Nat := 0
  goodNow : Bool := true
  /-- follower: tick of the last clapper message and its ALIGN_NS, edges count, edges missing in a row -/
  clapTick : Option Nat := none
  clapAlign : Nat := 4294967295
  edgeTick : Option Nat := none
  missing : Nat := 0
  deriving DecidableEq, Repr

/-- The grandmaster that the chosen master announces. -/
def Servo.gm (s : Servo) : Option Nat := s.parent.map (·.identity)

/-- The Big Top member (R233 to R259). -/
structure Bt where
  mode : BtMode := .off
  source : Nat := 0
  chip : Nat := 0
  venue : Nat := 0
  group : Nat := 0
  ports : Nat := 0
  pcp : Nat := 0
  vlan : Nat := 0
  /-- MODE becomes OFF at the boundary that begins this tick (R259) -/
  leaveTick : Option Nat := none
  servo : Servo := {}
  /-- neighbour sets with the tick each took effect, newest first (R254) -/
  sets : List (Nat × List Nat) := []
  /-- the set that waits for its EFFECT_TICK -/
  staged : Option (Nat × List Nat) := none
  cues : List Cue := []
  /-- chips withdrawn by a leave message, with the first tick (R245) -/
  left : List (Nat × Nat) := []
  /-- tick of the last own cue sent + 1, 0 for none -/
  cueSent : Nat := 0
  /-- first tick that is drafted in coordinated mode (R243) -/
  coordFrom : Nat := 0
  /-- tick + 1 of the last tick boundary at which the member pulsed CLAP_OUT, 0 for none (R241, R242) -/
  pulse : Nat := 0
  /-- tick and COORD_MAP of the last final pass -/
  finalTick : Nat := 0
  coordMap : Nat := 0
  /-- frames sent in the present beat -/
  tx : List BtTx := []
  deriving DecidableEq, Repr

/-- A frame on its way through the device (R280, R283, R308): its octets without FCS, where it came from, its tenant, and what became known of it. -/
structure Pkt where
  octets : List Byte
  /-- 0 Ethernet, 1 wireless, 2 host ring, 3 crew origination -/
  srcKind : Nat
  /-- port, SID or ring -/
  src : Nat
  tenant : Nat
  /-- the ring descriptor it came from: ring and descriptor number -/
  desc : Option (Nat × Nat) := none
  tsReq : Bool := false
  rxStamp : Option Nat := none
  /-- DEI of the outer tag as received -/
  dei : Bool := false
  tc : Nat := 0
  /-- entered again from the crew, at step 2 of R283 -/
  again : Bool := false
  /-- when it entered the queue it waits in -/
  enq : Nat := 0
  /-- Gulmet's own PTP frame asks for a stamp -/
  own : Bool := false
  /-- MACsec has put its SecTAG and ICV around it, or taken them off (R331) -/
  sec : Bool := false
  deriving DecidableEq, Repr

/-- An Ethernet port (R260 to R277). Times of the block are in ns of the device's running time. -/
structure Port where
  linkUp : Bool := false
  anDone : Bool := false
  rateUsed : Nat := 0
  fecUsed : Nat := 0
  partnerPause : Nat := 0
  cfgErr : Bool := false
  /-- frames in the receive buffer, oldest first, with their priority -/
  rx : List (Nat × Pkt) := []
  /-- MACsec frames whose verdict released them, on their way to the router (R332) -/
  clear : List Pkt := []
  /-- classes (0 to 7, 8 for the port) for which pause has been sent, with the time of the next repeat -/
  xoff : Table Nat := []
  /-- end of a received pause by class, 0 for not paused -/
  paused : Table Nat := []
  /-- start of the present stuck time + 1 by class, 0 for not stuck -/
  stuck : Table Nat := []
  /-- end of the deaf period by class, 0 for not deaf -/
  deaf : Table Nat := []
  /-- egress queues 0 to 7 -/
  queues : Table (List Pkt) := []
  /-- credit of each queue in 1/10,000 bit, when the credits were last brought up to date, and the queue of the last frame sent (8 for none) -/
  credit : Table Int := []
  /-- EMAC_CBS_p_q in force since the last frame start (R271) -/
  cbs : Table Reg := []
  creditAt : Nat := 0
  txq : Nat := 8
  /-- transmit stamps held for completions not yet posted: ring, descriptor number, stamp -/
  ts : List (Nat × Nat × Nat) := []
  /-- end of the frame in transmission -/
  busyUntil : Nat := 0
  /-- octets of the pause frames sent in the present beat: class and quanta -/
  pauseTx : List (Nat × Nat) := []
  /-- frames put on the wire in the present beat -/
  sent : List (List Byte) := []
  /-- the frame in transmission came from a host ring (R306): ring, descriptor number, stamp, and whether a stamp was asked for and dropped -/
  ending : Option (Nat × Nat × Option Nat × Bool) := none
  deriving DecidableEq, Repr

/-- The Ethernet block (R260 to R279). -/
structure Emac where
  port : Table Port := []
  /-- EMAC_WAKE_STATUS, and the beat + 1 in which its cause was recorded (R277) -/
  wakeStatus : Reg := 0
  wakeBeat : Nat := 0
  deriving DecidableEq, Repr

/-- One router table entry (R289, R293, R298): table code, tenant, index (0 for keyed tables), entry words; LAST_HIT of a flow entry stands in bits 47:0 of word 7. -/
structure RteEnt where
  table : Nat
  tenant : Nat
  index : Nat
  words : List Word
  deriving DecidableEq, Repr

/-- A change of a table that becomes visible at the next boundary (R297): a write, or a removal (`none`). -/
structure RteChange where
  table : Nat
  tenant : Nat
  index : Nat
  key : List Word
  entry : Option (List Word)
  deriving DecidableEq, Repr

/-- A slow-path item (R295, R359). -/
structure SlowItem where
  used : Bool := false
  reason : Nat := 0
  pkt : Pkt := { octets := [], srcKind := 0, src := 0, tenant := 0 }
  hash : Nat := 0
  /-- taken by a core and not yet returned -/
  popped : Bool := false
  deriving DecidableEq, Repr

/-- The router (R280 to R301). -/
structure Rte where
  ents : List RteEnt := []
  /-- place of each flow entry in the table in HBM, by tenant and key: bucket times 8 and the slot in it (R288) -/
  places : List (Nat × List Word × Nat) := []
  staged : List RteChange := []
  /-- flow keys in the hot cache, most recently hit first (R288) -/
  hot : List (Nat × List Word) := []
  /-- bucket reads of the present beat (R296) -/
  bucketReads : Nat := 0
  /-- the next bucket read meets an uncorrectable error (R366) -/
  badBucket : Bool := false
  wireless : List Pkt := []
  ring : List Pkt := []
  crew : List Pkt := []
  /-- frames waiting at a port's intake for the slow-path queue, by port (R295) -/
  waiting : Table (List (Nat × Pkt)) := []
  /-- slow-path items by number, and the queue of numbers, oldest first -/
  items : Table SlowItem := []
  slow : List Nat := []
  deriving DecidableEq, Repr

/-- Ring states with the codes of R309. -/
inductive RingState
  | stopped | running | draining | fault
  deriving DecidableEq, Repr

/-- A descriptor the device has fetched (R304, R308). -/
structure Desc where
  id : Nat
  buf : Nat
  cookie : Nat
  len : Nat
  tsReq : Bool := false
  bss : Nat := 0
  /-- its frame is on a wire or on the air -/
  started : Bool := false
  deriving DecidableEq, Repr

/-- A completion waiting for room in the array (R305): its two words without the phase, and the stamp's port and number it holds. -/
structure Compl where
  descId : Nat
  w0 : Word
  w1 : Word
  /-- running time at which it was made -/
  since : Nat := 0
  deriving DecidableEq, Repr

/-- A ring (R302 to R311, R321); `owner` and `loc` are its function and local number (R66, R73). -/
structure Ring where
  owner : Nat := 0
  loc : Nat := 0
  ctrl : Reg := 0x00060010
  baseLo : Reg := 0
  baseHi : Reg := 0
  coal : Reg := 0x00010000
  prod : Nat := 0
  cqHead : Nat := 0
  cons : Nat := 0
  cqTail : Nat := 0
  phase : Bool := false
  cfgErr : Bool := false
  st : RingState := .stopped
  /-- TX and WTX descriptors in flight -/
  inflight : List Desc := []
  /-- RX and WRX buffers in use and free -/
  free : List Desc := []
  /-- completions that wait for room -/
  done : List Compl := []
  nextId : Nat := 0
  /-- completions since the last firing, and the time of the first of them + 1 -/
  since : Nat := 0
  firstAt : Nat := 0
  /-- frames that wait for a buffer (R314) -/
  queue : List Pkt := []
  deriving DecidableEq, Repr

/-- A policer's setting: words 2 to 4 of TM_POLICER_WRITE (R316, R323), its tokens in 1/8,000 octets, and its frame counts by colour. -/
structure Policer where
  /-- RED_ACT is 2 by default (R318) -/
  w2 : Word := 0x0200000000000000
  w3 : Word := 0
  w4 : Word := 0
  tc : Nat := 0
  te : Nat := 0
  green : Nat := 0
  yellow : Nat := 0
  red : Nat := 0
  deriving DecidableEq, Repr

/-- The traffic manager (R302 to R323). -/
structure Tm where
  ring : Table Ring := []
  /-- queues port x 128 + tenant x 8 + class (R312) -/
  queues : Table (List Pkt) := []
  /-- deficit of each of these queues, and by port x 8 + class twice the tenant being served, plus 1 once it has had its quantum -/
  deficit : Table Nat := []
  turn : Table Nat := []
  /-- shaper tokens in 1/8 octets by port x 16 + tenant: tokens lacking from the full burst (R312) -/
  lack : Table Nat := []
  police : Table Policer := []
  policeStaged : List (Nat × Word × Word × Word) := []
  /-- samples by queue, newest first, with the longest delay in the present tick (R320) -/
  samples : Table (List Word) := []
  maxDelay : Table Nat := []
  sampleTick : Nat := 0
  /-- the packet-buffer region was full in this beat -/
  full : Bool := false
  /-- descriptors fetched from each TX or WTX ring in the present round of the deficit round robin (R308) -/
  served : Table Nat := []
  deriving DecidableEq, Repr

/-- A key slot (R328); `used` false is an empty slot. -/
structure KeySlot where
  used : Bool := false
  kind : Nat := 0
  tenant : Nat := 0
  alg : Nat := 0
  key : List Byte := []
  keyId : Nat := 0
  port : Nat := 0
  bss : Nat := 0
  bind : Nat := 0
  txActive : Bool := false
  txPn : Nat := 0
  /-- replay counters: TIDs 0 to 7, 8 for robust management frames; MACsec receive uses 0 -/
  rxPn : Table Nat := []
  ssci : Nat := 0
  salt : Nat := 0
  commitTick : Nat := 0
  /-- highest PN accepted on any counter -/
  top : Nat := 0
  /-- number of the commit that wrote it, which tells one writing of a slot from the next -/
  gen : Nat := 0
  deriving DecidableEq, Repr

/-- A staged change of a key slot (R329): the contents, or none for an erase; the boundary that commits it is the first after beat `beat`. -/
structure KeyStage where
  slot : Nat
  entry : Option KeySlot
  beat : Nat
  /-- who waits for the final response (R343) -/
  pend : Option Pend := none
  deriving DecidableEq, Repr

/-- An operation on a core, with the slot contents it latched (R329) and the hold cells it took (R334). -/
structure CipherRun where
  id : Nat
  op : CipherOp
  slotNo : Nat
  slot : KeySlot
  cells : Nat
  /-- its verdict, while older frames of its stream still wait for theirs (R332) -/
  verdict : Option Bool := none
  /-- receive stamp of its frame -/
  stamp : Option Nat := none
  deriving DecidableEq, Repr

/-- MACsec on a port (R331). -/
structure MacsecPort where
  en : Bool := false
  window : Nat := 0
  bypass : List Nat := []
  deriving DecidableEq, Repr

/-- The wire cipher cluster (R324 to R334). -/
structure Wcx where
  slots : Table KeySlot := []
  staged : List KeyStage := []
  runs : List CipherRun := []
  nextId : Nat := 0
  macsec : Table MacsecPort := []
  /-- operations that wait for a core, in order of arrival (R324) -/
  waits : List CipherOp := []
  deriving DecidableEq, Repr

/-- A run of the seal engine asked for by mailbox (R343): who waits, the message, the expected value. -/
structure SealJob where
  pend : Pend
  msg : List Byte
  compare : Bool
  expect : List Byte
  dmaOk : Bool
  deriving DecidableEq, Repr

/-- The seal engine (R335, R336). -/
structure Seal where
  held : Bool := false
  owner : Nat := 0
  /-- running time at which the lock was taken -/
  since : Nat := 0
  ctrl : Reg := 0
  src : Reg := 0
  len : Reg := 0
  /-- key words 0 to 31 -/
  key : Table Reg := []
  mac : List Byte := []
  /-- 0 IDLE, 1 RUNNING, 2 DONE, 3 ERROR -/
  state : Nat := 0
  err : Nat := 0
  job : Option SealJob := none
  /-- settings of the run in progress, as they stood at its start -/
  runCtrl : Reg := 0
  runSrc : Reg := 0
  runLen : Reg := 0
  runKey : Table Reg := []
  /-- SEAL_LOCK_OP requests that a SEAL_RUN holds back, with OP = release (R343) -/
  heldOps : List (Pend × Bool) := []
  deriving DecidableEq, Repr

/-- A check-value unit (R337 to R341). -/
structure Chk where
  held : Bool := false
  owner : Nat := 0
  poly : Nat := 0
  af : Bool := false
  sf : Bool := false
  compare : Bool := false
  mismatch : Bool := false
  /-- 0 IDLE, 1 RUNNING, 2 DONE -/
  state : Nat := 0
  /-- CHK_n_REMAINDER may be written (after RESTORE) -/
  restored : Bool := false
  foldLo : Reg := 0
  foldHi : Reg := 0
  rem : Nat := 0
  count : Nat := 0
  expect : Reg := 0
  result : Nat := 0
  deriving DecidableEq, Repr

/-- Task states with the codes of R349. -/
inductive TaskState
  | free | idle | ready | running
  deriving DecidableEq, Repr

/-- The registers of a crew core's hart (R344): RV64GC with M-mode and U-mode, and 16 PMP regions. -/
structure Hart where
  /-- x1 to x31; x0 reads as 0 -/
  x : Table Word := []
  f : Table Word := []
  pc : Word := 0
  /-- the hart is in U-mode -/
  user : Bool := false
  /-- the CSRs that hold something, by number -/
  csr : Table Word := []
  /-- address that a load-reserved has reserved (R345) -/
  resv : Option Nat := none
  deriving DecidableEq, Repr

/-- Word 0 of a task context, which the Ringmaster alone writes (R349, R350); the other words are octets of the backlot; and what Gulmet's runtime has saved of the task. -/
structure Ctx where
  st : TaskState := .free
  saved : Bool := false
  pend : Bool := false
  /-- core of the last dispatch, 63 for none -/
  core : Nat := 63
  lastTick : Nat := 0
  /-- the register files that the save area holds; where in it is the runtime's own matter (R350, R357) -/
  save : Hart := {}
  deriving DecidableEq, Repr

/-- A crew core (R344), and what the Ringmaster keeps of it (R351 to R357, R361, R474). -/
structure Core where
  task : Option Nat := none
  resume : Bool := false
  /-- beat of the last dispatch -/
  since : Nat := 0
  /-- a pre-emption is requested: for which waiting task (4096 for none that still waits), and in which beat of the running time -/
  preempt : Option (Nat × Nat) := none
  /-- the request has been noted as late (R357) -/
  late : Bool := false
  status : Nat := 0
  resTask : Nat := 0
  cmdBusy : Bool := false
  cmdOffset : Nat := 0
  /-- mip bits 16 and 17 (R348) -/
  mipDispatch : Bool := false
  mipMismatch : Bool := false
  halted : Bool := false
  hart : Hart := {}
  deriving DecidableEq, Repr

/-- The Ringmaster (R349 to R361). -/
structure Rgm where
  ctx : Table Ctx := []
  /-- ready lists 0 to 7, head first -/
  lists : Table (List Nat) := []
  core : Table Core := []
  bpHost : Bool := false
  bpAll : Bool := false
  /-- tasks made ready and tasks cancelled in the present beat (R353) -/
  readied : List Nat := []
  cancelled : List Nat := []
  deriving DecidableEq, Repr

/-- The memory system (R362 to R366). -/
structure Mem where
  /-- HBM octets by HBM address -/
  hbm : Table (Option Byte) := []
  /-- backlot octets by offset, for the parts that no other block's state holds -/
  backlot : Table (Option Byte) := []
  /-- the cores' local memories (R344, R346): octet of core c at c x 0x20000 + its address -/
  own : Table (Option Byte) := []
  /-- how often the memories' contents became undefined (power-on, warm reset) -/
  epoch : Nat := 0
  /-- poisoned words: crew address of the 8-octet (backlot) or 32-octet (HBM) word -/
  poison : List Nat := []
  faultAddr : Nat := 0
  faultKind : Nat := 0
  faultMaster : Nat := 0
  hbmFailed : Bool := false
  /-- running time of the last whole scrub -/
  scrubbed : Nat := 0
  deriving DecidableEq, Repr

/-- Power states with the codes of GAF_STATE.STATE. -/
inductive PowerState
  | show' | interval | blackout
  deriving DecidableEq, Repr

/-- Phases with the codes of GAF_STATE.PHASE. -/
inductive PowerPhase
  | idle | poll | rollback | committed | leaving
  deriving DecidableEq, Repr

/-- A power request (R390, R397). -/
structure PowerReq where
  target : Nat
  wakeTick : Nat
  pend : Option Pend
  deriving DecidableEq, Repr

/-- The last budget and what it was computed from (R377, R378). -/
structure Budget where
  tick : Nat := 0
  value : Nat := 0
  tUsed : Int := 0
  pMeas : Nat := 0
  reserve : Nat := 0
  /-- limiting term: 0 cap, 1 thermal, 2 current -/
  term : Nat := 0
  /-- it has been computed -/
  made : Bool := false
  deriving DecidableEq, Repr

/-- A change of level under way (R373): target code, the VID before it, and whether it is PLL_MOVE's. -/
structure LevelMove where
  target : Nat
  oldVid : Nat
  pll : Bool
  /-- the tick at whose boundary the clock switches -/
  tick : Nat
  deriving DecidableEq, Repr

/-- The Gaffer (R368 to R398). Times are in ns of the device's running time. -/
structure Gaf where
  /-- level code of R372, 7 for HOUSE -/
  level : Nat := 7
  /-- VDD_CORE asked for, as the VID code of R459 -/
  vid : Nat := 40
  raise : Option LevelMove := none
  /-- a lower VDD_CORE to be asked for at beat 8 of this tick: VID code -/
  lowerVid : Option Nat := none
  /-- the level goes to P5 at the next tick boundary (R379) -/
  tripDrop : Bool := false
  /-- level to set by PLL_MOVE -/
  pllTarget : Option Nat := some 0
  /-- running time of the reset or Blackout exit that PLL_MOVE follows -/
  pllSince : Nat := 0
  /-- ticks in a row with the raise conditions, and zero budgets in a row limited by heat or current -/
  raiseTicks : Nat := 0
  zeroRun : Nat := 0
  /-- zero hold after a thermal trip, and ticks in a row with every sensor cool -/
  zeroHold : Bool := false
  coolTicks : Nat := 0
  /-- monitored inputs at or above their limit on which the Gaffer has acted (R379) -/
  overs : List Nat := []
  budget : Budget := {}
  /-- cost in nJ of the locked sheets by tick, newest first -/
  lockedCost : List (Nat × Nat) := []
  /-- P_MEAS accumulated over the tick in µW-beats, beats counted, mA-beats by input -/
  accUw : Nat := 0
  accBeats : Nat := 0
  accMa : Table Nat := []
  pMeas : Nat := 0
  meanMa : Table Nat := []
  tMax : Int := 0
  state : PowerState := .show'
  phase : PowerPhase := .idle
  req : Option PowerReq := none
  waiting : Option PowerReq := none
  agreed : Nat := 0
  quiesced : Nat := 0
  /-- start of the poll, of the rollback, of the commit or of the leaving -/
  phaseAt : Nat := 0
  /-- outcome of the request that is rolling back, and the voter it names -/
  outcome : Nat := 0
  voter : Nat := 0
  /-- a wake noted during a committed entry -/
  noted : Bool := false
  alarm : Nat := 0
  wakeStatus : Reg := 0
  /-- beat + 1 in which its cause was recorded, among the wakes of one beat (R387) -/
  wakeBeat : Nat := 0
  /-- level to restore after Blackout -/
  beforeBlackout : Nat := 0
  /-- D2 to D11 switched off by a critical temperature (R381) -/
  crit : Bool := false
  /-- the revised budget of a safety action that sheds the next tick's sheets once they lock (R380) -/
  shedAtLock : Option Nat := none
  /-- reset held while boundary scan drives the pins or supplies fail: D2 to D11 not running -/
  held : Bool := false
  deriving DecidableEq, Repr

/-- Slot states with the codes of R409. -/
inductive SlotState
  | empty | trial | good | bad
  deriving DecidableEq, Repr

/-- The boot record of R409. -/
structure BootRec where
  seq : Nat := 0
  pref : Nat := 0
  stA : SlotState := .good
  triesA : Nat := 0
  svnA : Nat := 0
  stB : SlotState := .empty
  triesB : Nat := 0
  svnB : Nat := 0
  deriving DecidableEq, Repr

/-- A log entry (R419); `bad` marks a line whose write was cut short (R417). -/
structure LogEnt where
  time : Nat := 0
  seq : Nat := 0
  boot : Nat := 0
  block : Nat := 0
  kind : Nat := 0
  bit : Nat := 0
  detail : Nat := 0
  value : Reg := 0
  bad : Bool := false
  used : Bool := false
  deriving DecidableEq, Repr

/-- A NOR or fuse operation under way (R415, R423): the command's words and who waits. -/
structure NorJob where
  pend : Pend
  words : List Word
  deriving DecidableEq, Repr

/-- An update in progress (R412, R423): the octet ranges written since MGR_IMAGE_BEGIN. -/
structure ImageSession where
  begun : Bool := false
  ranges : List (Nat × Nat) := []
  deriving DecidableEq, Repr

/-- The management subsystem (R399 to R423). Times are in ns of the device's running time. -/
structure Mgr where
  /-- step 9 of R405 has been reached -/
  booted : Bool := false
  recovery : Bool := false
  recCause : Nat := 0
  slot : Nat := 0
  /-- the copies of the boot record in the NOR (R409) -/
  rec0 : BootRec := {}
  rec1 : BootRec := {}
  svnFloor : Nat := 0
  bootCount : Nat := 0
  lastReset : Nat := 0
  /-- when step 9 was reached -/
  step9 : Nat := 0
  /-- the heartbeat of the present tick was seen, and ticks in a row without one -/
  beatSeen : Bool := false
  missed : Nat := 0
  /-- the core is halted by the debug access port -/
  halted : Bool := false
  /-- a check-value unit that the management core holds has raised its mismatch interrupt (R341) -/
  chkIrq : Bool := false
  perstLow : Bool := false
  ref40 : Bool := true
  ref100 : Bool := true
  ref156 : Bool := true
  /-- monitors below their minimum (R402) -/
  lowRails : List Nat := []
  /-- sensor readings (R400): °C by sensor, mV by monitor, mA by input -/
  temps : Table Int := []
  mv : Table Nat := []
  ma : Table Nat := []
  /-- the settings store (R413), the keys that changed since the last flush, and its time -/
  saved : Table Word := []
  dirty : List Nat := []
  lastFlush : Nat := 0
  /-- the incident log's ring by sequence number mod 49,152, and the next sequence number -/
  log : Table LogEnt := []
  nextSeq : Nat := 0
  /-- log entries made but not yet written -/
  logQ : List LogEnt := []
  /-- second of show time, the entries it took, and the bits merged in it by block (R420) -/
  sec : Nat := 0
  secCount : Nat := 0
  merged : Table Nat := []
  lineWrites : Nat := 0
  /-- end of the write in progress, 0 for none; and that of the write of the newest log entry -/
  nvUntil : Nat := 0
  logUntil : Nat := 0
  pfail : Bool := false
  /-- a flush was due while PFAIL_N was low -/
  flushDeferred : Bool := false
  nor : Option NorJob := none
  /-- an MGR_IMAGE_CONFIRM has been accepted since the boot (R412) -/
  confirmed : Bool := false
  /-- the beat in which the device was last reset (R404) -/
  resetBeat : Option Nat := some 0
  /-- image commands held back, oldest first (R423) -/
  heldCmds : List NorJob := []
  image : ImageSession := {}
  /-- a warm reset that waits (R404) -/
  waitReset : Option ResetSource := none
  /-- beat of the boundary at which MGR_RESET's reset follows -/
  resetAt : Option Nat := none
  deriving DecidableEq, Repr

/-- The counters of one tenant on one radio (R424). -/
structure TapCount where
  ns : Nat := 0
  down : Nat := 0
  up : Nat := 0
  deriving DecidableEq, Repr

/-- A record (R432); counters by 3 x tenant + radio. -/
structure TsRec where
  seq : Nat
  chipDark : Bool
  sealOpen : Bool
  configChanged : Bool
  powerGap : Bool
  site : Nat
  start : Nat
  fin : Nat
  showFirst : Nat
  showLast : Nat
  period : Nat
  configSeq : Nat
  lost : Nat
  /-- octets 0 to 7 of the previous record's HMAC -/
  prevMac : Nat
  counts : Table TapCount
  mac : List Byte
  /-- every line passes its check -/
  lineOk : Bool := true
  deriving DecidableEq, Repr

/-- VDD_TS as its monitor judges it (R436, R437). -/
inductive VddTs
  | good | warning | lost
  deriving DecidableEq, Repr

/-- The TS block on the chip side (R442): what the one-way link last said. -/
structure TsMirror where
  present : Bool := false
  running : Bool := false
  sealClosed : Bool := false
  staged : Bool := false
  period : Nat := 0
  configSeq : Nat := 0
  site : Nat := 0
  time : Nat := 0
  /-- the 32 newest records, oldest first -/
  recs : List TsRec := []
  deriving DecidableEq, Repr

/-- The Turnstile (R424 to R441). Times are in cycles of its crystal. -/
structure Ts where
  time : Nat := 0
  start : Nat := 0
  seq : Nat := 0
  counts : Table TapCount := []
  lost : Nat := 0
  /-- an entry has been accepted in the period, and the stamps of the first and the last -/
  any : Bool := false
  showFirst : Nat := 0
  showLast : Nat := 0
  chipDark : Bool := false
  sealSeen : Bool := false
  configChanged : Bool := false
  powerGap : Bool := false
  prevMac : Nat := 0
  /-- records in the store, oldest first, at most 144 -/
  ring : List TsRec := []
  /-- records closed while VDD_TS was below its warning level -/
  unwritten : List TsRec := []
  period : Nat := 15
  site : Nat := 0
  configSeq : Nat := 0
  /-- a staged configuration: PERIOD_MIN, SITE_ID and the END it is staged for -/
  staged : Option (Nat × Nat) := none
  closed : Bool := false
  vdd : VddTs := .good
  /-- the port's last octet, whether it waits for a silence, and the last response frame -/
  lastOctet : Nat := 0
  awaitQuiet : Bool := false
  response : List Byte := []
  mirror : TsMirror := {}
  deriving DecidableEq, Repr

/-- A snapshot of all counters (R449, R450). -/
structure Snap where
  held : Bool := false
  tick : Nat := 0
  boot : Nat := 0
  showTime : Nat := 0
  filterChanged : Nat := 0
  step : Bool := false
  gap : Bool := false
  counts : Table Nat := []
  deriving DecidableEq, Repr

/-- The dailies reader (R444 to R453). -/
structure Dly where
  /-- the ring by tick mod 16,384 -/
  ring : Table Snap := []
  /-- TICK of the newest complete snapshot, if any in this boot -/
  newest : Option Nat := none
  /-- show time was stepped since the last snapshot -/
  stepped : Bool := false
  /-- filters in force by k x 3 + (0 CTRL, 1 BASE, 2 LIMIT), and those changed at the start of this tick -/
  filt : Table Reg := []
  changed : Nat := 0
  /-- peek selection and latch by master code -/
  peekSel : Table Reg := []
  peekHi : Table Reg := []
  deriving DecidableEq, Repr

/-- The test access port and the debug access port (R469 to R474). -/
structure Tst where
  /-- the current instruction (R470) -/
  instr : Nat := 0x01
  /-- the boundary cells' update stage -/
  boundary : Nat := 0
  /-- what the data register captured, shifted out on TDO -/
  captured : Nat := 0
  /-- the boundary cells drive the covered outputs -/
  scanning : Bool := false
  /-- the covered outputs are high-impedance (HIGHZ) -/
  highz : Bool := false
  /-- fused lifecycle state: 1 DEVELOPMENT, 2 PRODUCTION, 3 RMA -/
  life : Nat := 2
  unlocked : Bool := false
  fails : Nat := 0
  /-- the challenge of the last UNLOCK, none when no UNLOCK runs -/
  challenge : Option Nat := none
  connected : Bool := false
  /-- the port has written a register since it connected -/
  wrote : Bool := false
  deriving DecidableEq, Repr

/-- Everything the device holds, but show time and the queue of commands. -/
structure Dev where
  glb : Glb := {}
  /-- the sixteen functions and mailbox slots; function 0 is READY after reset, the others OFF (R56) -/
  fns : Table FnSlot := []
  /-- octets the device wrote into host memory, by requester function x 2^64 + address (R50) -/
  host : Table (Option Byte) := []
  /-- registers that hold what was written, by window address (R15) -/
  regs : Table Reg := []
  /-- property values as last written, by identifier x 2^20 + tenant x 2^16 + index (R70) -/
  props : Table Word := []
  /-- property values in force (R68, R70) -/
  force : Table Word := []
  /-- written values that are not in force yet: key and EFFECT -/
  propStaged : List (Nat × Nat) := []
  /-- inputs gathered for the next boundary, in any order (R32) -/
  arrivals : List Instr := []
  /-- resources claimed in the present beat (R37): kind and number -/
  claims : List (Nat × Nat) := []
  /-- dailies counters by bank x 32 + slot (R446) -/
  counts : Table Nat := []
  /-- free values drawn so far: the model's own counter (log 4) -/
  freeN : Nat := 0
  pln : Pln := {}
  mac : Mac := {}
  mdm : Mdm := {}
  dec : Dec := {}
  fe : Fe := {}
  bt : Bt := {}
  emac : Emac := {}
  rte : Rte := {}
  tm : Tm := {}
  wcx : Wcx := {}
  sealEng : Seal := {}
  /-- check-value units 0 to 7 (R337) -/
  chk : Table Chk := []
  rgm : Rgm := {}
  mem : Mem := {}
  gaf : Gaf := {}
  mgr : Mgr := {}
  ts : Ts := {}
  dly : Dly := {}
  tst : Tst := {}
  deriving DecidableEq, Repr

/-- The state: show time in ns (R29), the queue of commands that wait, and the device. -/
structure State where
  now : Nat
  pending : List Instr
  dev : Dev
  deriving DecidableEq, Repr

/-- Faults: the spec names no event that stops the block; no meaning raises one. -/
inductive Fault
  /-- raised by no command; stands so that the type has a value -/
  | none
  deriving DecidableEq, Repr

/-- Refusals. -/
inductive Refusal
  /-- raised by the arms of exec whose command has no meaning yet (safe: the machine stops) -/
  | notModelled (mnemonic : String)
  deriving DecidableEq, Repr

/-- The device right after power-on reset (R402, R403, R405): show time 0, every field at the default its declaration gives. -/
def State.reset : State := { now := 0, pending := [], dev := {} }

end Sys2Proof.Machine
end

