-- ==== Sys2Proof/Machine/Table.lean ====
section
/-! DEFINITION. Reading and writing a sparse table in its canonical form: numbers strictly rising, no entry equal to what an unlisted number holds. -/
namespace Sys2Proof.Machine

/-- What the table holds at `k`; an unlisted number holds `dflt k`. -/
def tlook {α : Type} (dflt : Nat → α) : Table α → Nat → α
  | [], k => dflt k
  | (j, v) :: rest, k => if j = k then v else tlook dflt rest k

/-- The entries other than `k`. -/
def tdel {α : Type} (k : Nat) : Table α → Table α
  | [] => []
  | (j, v) :: rest => if j = k then tdel k rest else (j, v) :: tdel k rest

/-- Put `(k, v)` before the first larger number. -/
def tinsert {α : Type} (k : Nat) (v : α) : Table α → Table α
  | [] => [(k, v)]
  | (j, w) :: rest => if k < j then (k, v) :: (j, w) :: rest else (j, w) :: tinsert k v rest

/-- Write `v` at `k`; writing what an unlisted number holds removes the entry. -/
def tput {α : Type} [DecidableEq α] (dflt : Nat → α) (t : Table α) (k : Nat) (v : α) : Table α :=
  if v = dflt k then tdel k t else tinsert k v (tdel k t)

/-- Change the entry at `k`. -/
def tmod {α : Type} [DecidableEq α] (dflt : Nat → α) (t : Table α) (k : Nat) (f : α → α) : Table α :=
  tput dflt t k (f (tlook dflt t k))

/-- Change the value of every entry; one that comes to hold what an unlisted number holds is listed no longer. -/
def tmap {α : Type} [DecidableEq α] (dflt : Nat → α) (f : Nat → α → α) : Table α → Table α
  | [] => []
  | (k, v) :: rest => if f k v = dflt k then tdel k (tmap dflt f rest) else (k, f k v) :: tmap dflt f rest

/-- Numbers strictly rising, each at least `lo`. -/
def tRising {α : Type} (lo : Nat) : Table α → Bool
  | [] => true
  | (k, _) :: rest => decide (lo ≤ k) && tRising (k + 1) rest

/-- The canonical form of a table. -/
def twf {α : Type} [DecidableEq α] (dflt : Nat → α) (t : Table α) : Bool :=
  tRising 0 t && t.all (fun e => decide (e.2 ≠ dflt e.1))

end Sys2Proof.Machine
end

