-- ==== Sys2Proof/Machine/Ops.lean ====
section
/-! DEFINITION. The named operations over the device's shared state: functions and their slots, properties, registers and incident bits, counters, MSI-X, free values, memories, and the claims of one beat. -/
namespace Sys2Proof

/-- Master codes (the codes of MEM_FAULT_INFO.MASTER, R447). -/
def Master.code : Master → Nat
  | .fn f => f
  | .mgmt => 0x10
  | .crew c => 0x20 + c
  | .dap => 0x3E
  | .device => 0x3F

/-- A master acts with F0's rights (R51, R361, R399, R474). -/
def Master.isF0 : Master → Bool
  | .fn f => f == 0
  | _ => true

/-- The tenant for which a master acts (R12, R51). -/
def Master.tenant : Master → Nat
  | .fn f => f
  | _ => 0

end Sys2Proof

namespace Sys2Proof.Machine

/-- Apply an effect to the device; show time and the queue stay. -/
def State.act (s : State) (f : Nat → Dev → Dev) : State := { s with dev := f s.now s.dev }

/-- The status codes of R62. -/
inductive Status
  | ok | busy | badOpcode | badLength | badParam | notPermitted | pending | noResource
  | late | sealed' | wrongState | timeout | integrity | authFail | slotEmpty | unlocked
  deriving DecidableEq, Repr

/-- The code of a status (R62). -/
def Status.code : Status → Nat
  | .ok => 0 | .busy => 1 | .badOpcode => 2 | .badLength => 3 | .badParam => 4 | .notPermitted => 5
  | .pending => 6 | .noResource => 7 | .late => 8 | .sealed' => 9 | .wrongState => 10 | .timeout => 11
  | .integrity => 12 | .authFail => 13 | .slotEmpty => 14 | .unlocked => 15

/-! Sources of free values (log 4). -/

/-- The next free value. -/
def Dev.free (d : Dev) : Word := Config.free d.freeN
/-- A free value has been used. -/
def Dev.drew (d : Dev) : Dev := { d with freeN := d.freeN + 1 }

/-! Functions and mailbox slots. -/

/-- A function nothing has changed: F0 is READY, the others OFF (R56). -/
def fnReset (f : Nat) : FnSlot := if f = 0 then { st := .ready } else {}
/-- Function `f`. -/
def Dev.fn (d : Dev) (f : Nat) : FnSlot := tlook fnReset d.fns f
/-- Change function `f`. -/
def Dev.modFn (d : Dev) (f : Nat) (g : FnSlot → FnSlot) : Dev := { d with fns := tmod fnReset d.fns f g }

/-! Counters of the dailies (R444, R446). -/

/-- The counter of a bank's slot. -/
def Dev.counter (d : Dev) (bank slot : Nat) : Nat := tlook (fun _ => 0) d.counts (bank * 32 + slot)
/-- Step a counter; it wraps at 2^48 (R444). -/
def Dev.bump (d : Dev) (bank slot : Nat) (n : Nat := 1) : Dev :=
  { d with counts := tmod (fun _ => 0) d.counts (bank * 32 + slot) (fun c => (c + n) % 2 ^ 48) }

/-! MSI-X (R49). -/

/-- A function whose configuration the host has not touched. -/
def pcieReset : Nat → PcieFn := fun _ => {}
/-- The endpoint's side of function `f`. -/
def Dev.pcieFn (d : Dev) (f : Nat) : PcieFn := tlook pcieReset d.glb.pcie.fn f
/-- Change it. -/
def Dev.modPcie (d : Dev) (f : Nat) (g : PcieFn → PcieFn) : Dev := { d with glb := { d.glb with pcie := { d.glb.pcie with fn := tmod pcieReset d.glb.pcie.fn f g } } }
/-- Entry `v` of an MSI-X table. -/
def PcieFn.entry (p : PcieFn) (v : Nat) : MsixEntry := tlook (fun _ => {}) p.table v

/-- A vector is masked, by its entry or by the Function Mask. -/
def PcieFn.masks (p : PcieFn) (v : Nat) : Bool := (p.entry v).masked || p.msixMask

/-- The message of a vector that fires: a masked one waits in the pending-bit array (R48). -/
def PcieFn.fired (p : PcieFn) (v : Nat) : PcieFn :=
  if p.masks v && !p.waiting.contains v then { p with waiting := v :: p.waiting } else p

/-- A vector of a function fires, which it does only while the function is READY (R392). -/
def Dev.fireMsi (d : Dev) (f vec : Nat) : Dev :=
  if (d.fn f).st = .ready then
    ({ d with glb := { d.glb with msix := tmod (fun _ => 0) d.glb.msix (f * 256 + vec) (· + 1) } }.modPcie f (fun p => p.fired vec)).bump (2 + f) 28
  else d

/-! Properties (R68, R70). -/

/-- The value in force of an instance. -/
def Dev.inForce (d : Dev) (id : Nat) (ten : Nat := 0) (ix : Nat := 0) : Word := tlook propReset d.force (propKey id ten ix)
/-- The value in force, unsigned. -/
def Dev.pv (d : Dev) (id : Nat) (ten : Nat := 0) (ix : Nat := 0) : Nat := (d.inForce id ten ix).toNat
/-- The value in force, signed. -/
def Dev.pvi (d : Dev) (id : Nat) (ten : Nat := 0) (ix : Nat := 0) : Int := (d.inForce id ten ix).toInt
/-- The value most recently written. -/
def Dev.written (d : Dev) (key : Nat) : Word := tlook propReset d.props key
/-- Step a counting property (ACCESS 0); it has 48 bits. -/
def Dev.step (d : Dev) (id : Nat) (ten : Nat := 0) (ix : Nat := 0) (n : Nat := 1) : Dev :=
  let k := propKey id ten ix
  let v := BitVec.ofNat 64 (((tlook propReset d.props k).toNat + n) % 2 ^ 48)
  { d with props := tput propReset d.props k v, force := tput propReset d.force k v }

/-! Registers and incident bits (R15, R17, R18). -/

/-- What a register holds. -/
def Dev.reg (d : Dev) (addr : Nat) : Reg := tlook regReset d.regs addr
/-- Put a value into a register. -/
def Dev.putReg (d : Dev) (addr : Nat) (v : Reg) : Dev := { d with regs := tput regReset d.regs addr v }

/-- The incident register of a block, by the block codes of R419; MBX is its slot 0. -/
def incAddr : Nat → Nat
  | 0 => 0x0000040 | 1 => 0x010200C | 2 => 0x0200040 | 3 => 0x0300040 | 4 => 0x0400040 | 5 => 0x0500040
  | 6 => 0x0600040 | 7 => 0x0700040 | 8 => 0x0800040 | 9 => 0x0900040 | 10 => 0x0A00040 | 11 => 0x0B00040
  | 12 => 0x0B80040 | 13 => 0x0C00040 | 14 => 0x0D00040 | 15 => 0x0E00040 | 16 => 0x0F00040 | 17 => 0x1000040
  | 18 => 0x1100040 | 19 => 0x1200040 | _ => 0x1300040

/-- The beat boundary at or after an instant. -/
def boundaryOf (t : Nat) : Nat := (t + 999) / 1000 * 1000

/-- Queue the log entry of a bit that is newly set (R418, R419). -/
def Dev.logBit (d : Dev) (t addr block bit detail : Nat) : Dev :=
  { d with mgr := { d.mgr with logQ := d.mgr.logQ ++ [
      { time := boundaryOf t, boot := d.mgr.bootCount, block := block, kind := 0, bit := bit, detail := detail,
        value := d.reg addr, used := true }] } }

/-- Set an incident bit: it is sticky, it survives a clear written in this beat (R18), and a newly set one is logged (R418) and fires F0's vector 1 (R49). -/
def Dev.setIncAt (d : Dev) (t addr block bit : Nat) (detail : Nat := 0) : Dev :=
  let old := d.reg addr
  let d1 := d.putReg addr (old ||| BitVec.ofNat 32 (2 ^ bit))
  let d2 := { d1 with glb := { d1.glb with incSet := (addr, if old.getLsbD bit then bit else bit + 32) :: d1.glb.incSet } }
  if old.getLsbD bit then d2 else (d2.logBit t addr block bit detail).fireMsi 0 1

/-- Set an incident bit of a block. -/
def Dev.inc (d : Dev) (t block bit : Nat) (detail : Nat := 0) : Dev := d.setIncAt t (incAddr block) block bit detail

/-- A bit of a W1C register that a block keeps itself was set in this beat (R18). -/
def Dev.markSet (d : Dev) (addr bit : Nat) : Dev := { d with glb := { d.glb with incSet := (addr, bit + 32) :: d.glb.incSet } }

/-- Set a bit of function `f`'s MBX_INCIDENT. -/
def Dev.incMbx (d : Dev) (t f bit : Nat) : Dev := d.setIncAt t (0x010200C + f * 0x10000) 1 bit

/-! Memories: octets by address; an octet nothing has written is a free value of the memory's epoch (log 6). -/

/-- Put octets from an address on. -/
def putOctets (m : Table (Option Byte)) (a : Nat) : List Byte → Table (Option Byte)
  | [] => m
  | b :: rest => putOctets (tput (fun _ => none) m a (some b)) (a + 1) rest

/-- One octet; `e` tells apart memories and epochs. -/
def getOctet (m : Table (Option Byte)) (e a : Nat) : Byte :=
  match tlook (fun _ => none) m a with
  | some b => b
  | none => Config.freeByte e a

/-- The memories of the device are in their canonical form: addresses strictly rising, and no entry that says what an unlisted address reads as. -/
def Memory.wf (x : Mem) : Bool := twf (fun _ => none) x.hbm && twf (fun _ => none) x.backlot && twf (fun _ => none) x.own

/-- `n` octets from an address on. -/
def getOctets (m : Table (Option Byte)) (e a : Nat) : Nat → List Byte
  | 0 => []
  | n + 1 => getOctet m e a :: getOctets m e (a + 1) n

/-- Octets of host memory as function `f` reaches it (R50). -/
def Dev.hostGet (d : Dev) (f addr n : Nat) : List Byte := getOctets d.host 0 (f * 2 ^ 64 + addr) n
/-- The device writes host memory under function `f`'s requester ID (R50). -/
def Dev.hostPut (d : Dev) (f addr : Nat) (l : List Byte) : Dev :=
  { d with host := putOctets d.host (f * 2 ^ 64 + addr) l }.bump (2 + f) 31 l.length
/-- Octets of the backlot. -/
def Dev.blGet (d : Dev) (off n : Nat) : List Byte := getOctets d.mem.backlot (2 * d.mem.epoch + 1) off n
/-- Write octets of the backlot. -/
def Dev.blPut (d : Dev) (off : Nat) (l : List Byte) : Dev := { d with mem := { d.mem with backlot := putOctets d.mem.backlot off l } }
/-- HBM octets that a requester class moves, in the order of R365: 0 packet buffers, 1 flow table, 2 Retake, 3 modem stores, 4 cores, 5 dailies and samples (R446). -/
def Dev.hbmOctets (d : Dev) (cls n : Nat) : Dev := d.bump 41 (16 + cls) n
/-- Octets of HBM. -/
def Dev.hbmGet (d : Dev) (a n : Nat) : List Byte := getOctets d.mem.hbm (2 * d.mem.epoch + 2) a n
/-- Write octets of HBM. -/
def Dev.hbmPut (d : Dev) (a : Nat) (l : List Byte) : Dev := { d with mem := { d.mem with hbm := putOctets d.mem.hbm a l } }

/-- Word 1 of a task's descriptor (R349): context k lies at backlot offset 256 k. -/
def Dev.taskWord (d : Dev) (k : Nat) : Nat := ofLe (d.blGet (256 * k + 8) 8)
/-- PRIO of a task. -/
def Dev.taskPrio (d : Dev) (k : Nat) : Nat := nbits (d.taskWord k) 63 61
/-- CLASS of a task: 0 GENERAL, 1 HOST, 2 SLOW. -/
def Dev.taskClass (d : Dev) (k : Nat) : Nat := nbits (d.taskWord k) 60 59
/-- NP of a task. -/
def Dev.taskNp (d : Dev) (k : Nat) : Bool := nbit (d.taskWord k) 58
/-- USER of a task. -/
def Dev.taskUser (d : Dev) (k : Nat) : Bool := nbit (d.taskWord k) 57
/-- AFFINITY of a task. -/
def Dev.taskAffinity (d : Dev) (k : Nat) : Nat := nbits (d.taskWord k) 23 0

/-- Crew cores by number. -/
def coreReset : Nat → Core := fun _ => {}
/-- Core `c`. -/
def Dev.core (d : Dev) (c : Nat) : Core := tlook coreReset d.rgm.core c
/-- Change core `c`. -/
def Dev.modCore (d : Dev) (c : Nat) (f : Core → Core) : Dev := { d with rgm := { d.rgm with core := tmod coreReset d.rgm.core c f } }
/-- The host is held back: MBX_STATE.BP, by either mark (R358). -/
def Dev.backPressed (d : Dev) : Bool := d.rgm.bpHost || d.rgm.bpAll

/-- What a register read of a master returns. -/
def Dev.reads (d : Dev) (m : Master) (v : Reg) : Dev :=
  { d with glb := { d.glb with readData := tput (fun _ => 0) d.glb.readData m.code (v.setWidth 64) } }

/-- Octets of mailbox words, octet k in word k / 8 (R8). -/
def wordOctets : List Word → List Byte
  | [] => []
  | w :: rest => leBytes w.toNat 8 ++ wordOctets rest

/-- Mailbox words of octets; a last short word is filled with 0. -/
def octetWords : Nat → List Byte → List Word
  | 0, _ => []
  | n + 1, l => BitVec.ofNat 64 (ofLe (l.take 8)) :: octetWords n (l.drop 8)

/-! Claims of one beat (R37, R38). -/

/-- What can be claimed. -/
inductive Resource
  | seal | prop | task | keySlot | ring | context | sid | chk | power | policer | table' | macsec
  deriving DecidableEq, Repr

/-- The code under which a claim of the beat is noted. -/
def Resource.code : Resource → Nat
  | .seal => 0 | .prop => 1 | .task => 2 | .keySlot => 3 | .ring => 4 | .context => 5 | .sid => 6 | .chk => 7
  | .power => 8 | .policer => 9 | .table' => 10 | .macsec => 11

/-- A higher-ranking input of this beat has claimed the resource. -/
def Dev.claimed (d : Dev) (r : Resource) (n : Nat) : Bool := d.claims.contains (r.code, n)
/-- Claim a resource for the rest of the beat. -/
def Dev.claim (d : Dev) (r : Resource) (n : Nat) : Dev := { d with claims := (r.code, n) :: d.claims }

/-! Sensor readings (R400). -/

/-- mV of a monitor before any reading: the typical value of its rail (R458); 65,536 stands for a VDD_CORE monitor that has given none and reads the voltage asked for (log 9). -/
def mvNominal (j : Nat) : Nat :=
  if j < 3 then 65536 else if j < 5 then 850 else if j < 8 then 1000 else if j < 12 then 1800
  else if j < 14 then 1100 else if j = 14 then 800 else if j = 15 then 1800 else 0

/-- Keep the readings that a command carries. -/
def Dev.sense (d : Dev) (r : Readings) : Dev :=
  { d with mgr := { d.mgr with
      temps := r.temps.foldl (fun t e => tput (fun _ => 25) t e.1 e.2) d.mgr.temps
      mv := r.millivolts.foldl (fun t e => tput mvNominal t e.1 e.2) d.mgr.mv
      ma := r.milliamps.foldl (fun t e => tput (fun _ => 0) t e.1 e.2) d.mgr.ma } }

/-- °C of a sensor. -/
def Dev.temp (d : Dev) (i : Nat) : Int := tlook (fun _ => 25) d.mgr.temps i

/-- The hottest of the 24 sensors (R376). -/
def Dev.hottest (d : Dev) : Int :=
  (List.range 24).foldl (fun m i => if m < d.temp i then d.temp i else m) (d.temp 0)

/-! Hand-offs (R39). -/

/-- A data-plane event waits for the control plane's next boundary. -/
def Dev.handoff (d : Dev) (stamp : Nat) (k : HandoffKind) (info : Nat := 0) : Dev :=
  { d with glb := { d.glb with handoffWait := d.glb.handoffWait ++ [⟨stamp, k, info⟩] } }

/-- A frame of a tenant is dropped on its way through the device, which hands the drop off (R39). -/
def Dev.dropped (d : Dev) (t tenant : Nat) : Dev := d.handoff t .frameDrop tenant

/-! Check-value units (R337 to R341). -/

/-- A unit nothing has touched. -/
def chkReset : Nat → Chk := fun _ => {}
/-- Unit `n`. -/
def Dev.chkUnit (d : Dev) (n : Nat) : Chk := tlook chkReset d.chk n
/-- Change unit `n`. -/
def Dev.modChk (d : Dev) (n : Nat) (f : Chk → Chk) : Dev := { d with chk := tmod chkReset d.chk n f }

/-- The mismatch interrupt goes to the owning core, the management core among them (R341); an F0 owner sees only the incident vector. -/
def Dev.mismatchIrq (d : Dev) (owner : Nat) : Dev :=
  if owner = 0x10 then { d with mgr := { d.mgr with chkIrq := true } }
  else if owner < 0x20 || 0x38 ≤ owner then d
  else { d with rgm := { d.rgm with core := tmod (fun _ => ({} : Core)) d.rgm.core (owner - 0x20) (fun k => { k with mipMismatch := true }) } }

/-- What unit `n` reports of a mismatch (R341). -/
def Dev.chkMismatch (d : Dev) (t n : Nat) : Dev :=
  ((((d.modChk n (fun c => { c with mismatch := true })).step 0x7030 0 n).inc t 13 n).bump 39 (8 + n)).mismatchIrq (d.chkUnit n).owner

/-- `k` stored records that the management core checks on CHK0 mismatch (R338, R341; what else CHK0's registers show of its checks, DESIGN CHOICE, log 151). -/
def Dev.badRecords (d : Dev) (t : Nat) : Nat → Dev
  | 0 => d
  | k + 1 => (d.chkMismatch t 0).badRecords t k

/-! Powered blocks. -/

/-- D2 to D11 run: the device is neither in Blackout nor held in reset nor switched off by heat. -/
def Dev.running (d : Dev) : Bool := !d.gaf.held && !d.gaf.crit && decide (d.gaf.state ≠ .blackout)

/-- The master is a core that executes nothing now: one that the debug access port has halted, or whose block a scan or a missing supply holds in reset (R402, R471, R474). -/
def Dev.stopped (d : Dev) (m : Master) : Bool :=
  match m with
  | .crew c => (d.core c).halted || !d.running
  | .mgmt => d.mgr.halted || d.tst.scanning
  | _ => false

end Sys2Proof.Machine
end

