-- ==== Sys2Proof/Machine/Sheets.lean ====
section
/-! DEFINITION. Cue sheets (R77 to R88, R106, R475): slots, words, limits, costs and the removals a draft admits. -/
namespace Sys2Proof
open Machine

/-- An empty slot. -/
def Machine.sheetReset : Nat → Sheet := fun _ => {}
/-- A take record that nothing has written. -/
def Machine.takeReset : Nat → TakeRec := fun _ => {}
/-- A cast entry that nothing has written. -/
def Machine.castReset : Nat → CastEntry := fun _ => {}
/-- A null entry that nothing has written. -/
def Machine.nullReset : Nat → NullEntry := fun _ => {}

/-- The slot of radio `r` that a tick uses: the one for tick m serves the draft of m + 3 next (R77). -/
def Machine.slotNo (r tick : Nat) : Nat := 3 * r + tick % 3
/-- The sheet in the slot of a radio and tick. -/
def Machine.Dev.sheet (d : Dev) (r tick : Nat) : Sheet := tlook sheetReset d.pln.sheets (slotNo r tick)
/-- Change that sheet. -/
def Machine.Dev.modSheet (d : Dev) (r tick : Nat) (f : Sheet → Sheet) : Dev :=
  { d with pln := { d.pln with sheets := tmod sheetReset d.pln.sheets (slotNo r tick) f } }

/-- STATE codes (R77). -/
def Machine.sheetCode : SheetState → Nat
  | .empty => 0 | .drafting => 1 | .ready => 2 | .locked => 3 | .playing => 4 | .dark => 5

/-- Take `k` of a sheet. -/
def Sheet.take (s : Sheet) (k : Nat) : TakeRec := tlook takeReset s.takes k
/-- The cast of take `k`, in place order. -/
def Sheet.castOf (s : Sheet) (k : Nat) : List CastEntry :=
  (List.range (s.take k).castCount).map (fun i => tlook castReset s.cast ((s.take k).castOffset + i))

/-! Words (R80, R81, R83). -/

/-- The sheet header, words 0 to 7. -/
def Sheet.header (s : Sheet) (r : Nat) : List Word :=
  [packW [(s.tick, 48, 0), (r, 2, 48), (sheetCode s.state, 3, 50)], packW [(s.takeCount, 5, 0), (s.allocs, 12, 16)],
   packW [(s.costNj, 40, 0)], packW [(s.budgetUj, 32, 0), (b2n s.coord, 1, 32)]] ++
  (List.range 4).map (fun i => tlook (fun _ => 0) s.fw (4 + i))

/-- The record of take `k`, words 0 to 7. -/
def Sheet.takeWords (s : Sheet) (k : Nat) : List Word :=
  let x := s.take k
  [packW [(x.es, 10, 0), (x.ls, 10, 10), (x.endBeat, 10, 20), (x.kind, 3, 32), (x.ac, 2, 35), (x.castCount, 8, 40), (x.castOffset, 12, 48)],
   packW [(x.chainMask, 16, 0), (x.bw, 3, 16), (x.streams, 5, 19), (x.nullDims, 4, 24), (x.prot, 6, 28), (x.tracked, 5, 34), (x.txBss, 6, 39)],
   packW [(x.txBeats, 10, 0), (x.rxBeats, 10, 10), (x.puncture, 16, 20), (x.obssPd, 8, 36)], packW [(x.costNj, 32, 0)]] ++
  (List.range 4).map (fun i => tlook (fun _ => 0) s.fw (8 + 8 * k + 4 + i))

/-- A cast entry's word. -/
def Machine.castWord (e : CastEntry) : Word :=
  packW [(e.sid, 12, 0), (b2n e.tracked, 1, 12), (b2n e.retake, 1, 13), (b2n e.uplink, 1, 14), (b2n e.void, 1, 15), (e.ru, 9, 16),
    (e.mcs, 4, 26), (e.nss, 4, 30), (e.ssStart, 4, 34), (e.ac, 2, 38), (e.bytes, 24, 40)]

/-! A sheet by its takes. -/

/-- One take with its cast and null list, under its number: the one it was drafted with until READY renumbers the takes (R107). -/
structure Machine.Part where
  num : Nat
  hd : TakeRec
  cast : List CastEntry
  nulls : List NullEntry
  deriving DecidableEq, Repr

/-- The takes of a sheet, in play order. -/
def Sheet.parts (s : Sheet) : List Part :=
  (List.range s.takeCount).map (fun k =>
    ⟨s.nums.getD k k, s.take k, s.castOf k, (List.range (s.take k).prot).map (fun i => tlook nullReset s.nulls (32 * k + i))⟩)

/-- Put a list into a table from a number on. -/
def Machine.putList {α : Type} [DecidableEq α] (dflt : Nat → α) (m : Table α) : Nat → List α → Table α
  | _, [] => m
  | i, x :: rest => putList dflt (tput dflt m i x) (i + 1) rest

/-- Lay takes out in play order, their casts one after the other, and count the allocations. -/
def Machine.layParts : Nat → Nat → List Part → Sheet → Sheet
  | k, off, [], s => { s with takeCount := k, allocs := off }
  | k, off, p :: rest, s =>
    layParts (k + 1) (off + p.cast.length) rest { s with
      takes := tput takeReset s.takes k { p.hd with castOffset := off, castCount := p.cast.length }
      cast := putList castReset s.cast off p.cast
      nulls := putList nullReset s.nulls (32 * k) p.nulls }

/-- A sheet with these takes, in place of those it had, each under the number it had (R107). -/
def Sheet.withParts (s : Sheet) (ps : List Part) : Sheet :=
  layParts 0 0 ps { s with takes := [], cast := [], nulls := [], nums := ps.map (fun p => p.num) }

/-- A sheet is marked READY: its takes are numbered anew (R86, R107). -/
def Sheet.readied (s : Sheet) : Sheet := { s with state := .ready, nums := [] }

/-- Keep the cast entries of a draft that pass a test, and remove every take left with none (R475). -/
def Machine.filterParts (keep : CastEntry → Bool) (ps : List Part) : List Part :=
  ((ps.map (fun p => { p with cast := p.cast.filter keep })).filter (fun p => !p.cast.isEmpty))

/-- Drop a station from a sheet in DRAFTING (R132, R475). -/
def Sheet.dropSid (sid : Nat) (s : Sheet) : Sheet :=
  if s.state = .drafting then s.withParts (filterParts (fun e => e.sid != sid) s.parts) else s

/-! Energy (R105, R106). -/

/-- ENERGY_NJ in force; entries that no radio supports are 0. -/
def Machine.Dev.energy (d : Dev) (r bw dir : Nat) : Nat :=
  if bw ≤ (if r = 0 then 1 else if r = 1 then 3 else 4) then d.pv 0x1040 0 (r * 16 + bw * 2 + dir) else 0

/-- Energy of one chain over a take's airtime. -/
def Machine.Dev.perChain (d : Dev) (r : Nat) (x : TakeRec) : Nat := x.txBeats * d.energy r x.bw 0 + x.rxBeats * d.energy r x.bw 1

/-- Energy of a take in nJ (R106). -/
def Machine.Dev.takeCost (d : Dev) (r : Nat) (x : TakeRec) : Nat := d.pv 0x1041 0 r + popcount x.chainMask 16 * d.perChain r x

/-- Energy of a sheet in nJ. -/
def Machine.Dev.sheetCost (d : Dev) (r : Nat) (s : Sheet) : Nat := sumN ((List.range s.takeCount).map (fun k => d.takeCost r (s.take k)))

/-- Write the recomputed costs into a sheet (R80, R81). -/
def Machine.Dev.costed (d : Dev) (r : Nat) (s : Sheet) : Sheet :=
  { s with
    costNj := d.sheetCost r s
    takes := (List.range s.takeCount).foldl (fun m k => tput takeReset m k { s.take k with costNj := d.takeCost r (s.take k) }) s.takes }

/-! Limits (R85, R114). -/

/-- Widest bandwidth code of a radio. -/
def Machine.maxBw (r : Nat) : Nat := if r = 0 then 1 else if r = 1 then 3 else 4

/-- The limits of one take, in ascending REASON code; `prevEs` is ES of the take before it. -/
def Machine.takeReason (r prevEs : Nat) (x : TakeRec) (cast : List CastEntry) : Option Nat :=
  let tracked := (cast.filter (fun e => e.tracked)).length
  ([(!(decide (x.es ≤ x.ls) && decide (x.ls ≤ x.endBeat) && decide (x.endBeat ≤ 1000) && decide (prevEs ≤ x.es)), 2),
    (decide (x.endBeat - x.es < x.txBeats + x.rxBeats), 3),
    (x.castCount == 0 || decide (148 < x.castCount) || decide (2368 < x.castOffset + x.castCount), 4),
    (decide (16 < x.streams + x.nullDims) || decide (popcount x.chainMask 16 < x.streams + x.nullDims), 5),
    (decide (maxBw r < x.bw), 6),
    (decide (16 < x.tracked) || (x.tracked != 0 && x.kind != 1 && x.kind != 2) || x.tracked != tracked, 7),
    (decide (32 < x.prot), 8), (decide (4 < x.kind), 9)].find? (fun c => c.1)).map (·.2)

/-- The first limit that the takes from `k` on fail. -/
def Machine.takesReason (r : Nat) (s : Sheet) : Nat → Nat → Nat → Option Nat
  | 0, _, _ => none
  | n + 1, k, prevEs =>
    match takeReason r prevEs (s.take k) (s.castOf k) with
    | some c => some c
    | none => takesReason r s n (k + 1) (s.take k).es

/-- REASON of a sheet that fails a limit (R114), none when it is valid. -/
def Machine.sheetReason (r : Nat) (s : Sheet) : Option Nat :=
  if 16 < s.takeCount then some 1 else takesReason r s s.takeCount 0 0

/-- The station of a cast entry is gone (R97). -/
def Machine.Dev.gone (d : Dev) (sid : Nat) : Bool := !(tlook (fun _ => ({} : CallSheet)) d.pln.call sid).valid

/-- Call sheet of a SID (R90). -/
def Machine.callReset : Nat → CallSheet := fun _ => {}
/-- Call sheet of a SID (R90). -/
def Machine.Dev.callOf (d : Dev) (sid : Nat) : CallSheet := tlook callReset d.pln.call sid
/-- Change a call sheet. -/
def Machine.Dev.modCall (d : Dev) (sid : Nat) (f : CallSheet → CallSheet) : Dev := { d with pln := { d.pln with call := tmod callReset d.pln.call sid f } }

/-- Call-sheet word 0 (R90). -/
def Machine.CallSheet.word0 (c : CallSheet) (sid : Nat) : Word :=
  packW [(sid, 12, 0), (c.bss, 6, 12), (c.tenant, 4, 18), (b2n c.valid, 1, 22), (b2n c.retake, 1, 23), (c.links, 3, 24),
    (c.trackPref, 2, 27), (b2n c.ulExcluded, 1, 29)]

end Sys2Proof
end

