-- ==== Sys2Proof/Machine/Store.lean ====
section
/-! DEFINITION. The words of the backlot that State holds in fields of its own (R46, R79 to R84, R90, R101, R349): call sheets, cue-sheet slots, the take log and word 0 of the task descriptors, read and written as memory. -/
namespace Sys2Proof.Machine

/-! Call sheets as memory (R90). -/

/-- Word `i` of a call sheet, 0 to 9. -/
def CallSheet.word (c : CallSheet) (sid i : Nat) : Word :=
  match i with
  | 0 => c.word0 sid
  | 1 => BitVec.ofNat 64 c.backlogBk
  | 2 => BitVec.ofNat 64 c.backlogBe
  | 3 => BitVec.ofNat 64 c.backlogVi
  | 4 => BitVec.ofNat 64 c.backlogVo
  | 5 => packW [(c.servedAvg, 32, 0), (c.lastServed, 32, 32)]
  | 6 => packW [(c.cfoEst, 16, 0), (c.cfoTick, 16, 16), (c.timingEst, 16, 32)]
  | 7 => packW [(c.rateA, 16, 0), (c.rateB, 16, 16), (c.rateC, 16, 32)]
  | 8 => BitVec.ofNat 64 c.metric
  | _ => BitVec.ofNat 64 c.missed

/-- A call sheet with its word `i` overwritten. -/
def CallSheet.setWord (c : CallSheet) (i : Nat) (w : Word) : CallSheet :=
  match i with
  | 0 => { c with
      bss := fld w 17 12, tenant := fld w 21 18, valid := nbit w.toNat 22, retake := nbit w.toNat 23, links := fld w 26 24
      trackPref := fld w 28 27, ulExcluded := nbit w.toNat 29 }
  | 1 => { c with backlogBk := fld w 39 0 }
  | 2 => { c with backlogBe := fld w 39 0 }
  | 3 => { c with backlogVi := fld w 39 0 }
  | 4 => { c with backlogVo := fld w 39 0 }
  | 5 => { c with servedAvg := fld w 31 0, lastServed := fld w 63 32 }
  | 6 => { c with cfoEst := fld w 15 0, cfoTick := fld w 31 16, timingEst := fld w 47 32 }
  | 7 => { c with rateA := fld w 15 0, rateB := fld w 31 16, rateC := fld w 47 32 }
  | 8 => { c with metric := fld w 31 0 }
  | _ => { c with missed := fld w 47 0 }

/-- A word with octets from octet `i` on replaced. -/
def patchWord (w : Word) (i : Nat) (l : List Byte) : Word :=
  let o := leBytes w.toNat 8
  BitVec.ofNat 64 (ofLe (o.take i ++ l ++ o.drop (i + l.length)))

/-! Cue-sheet slots as memory (R79 to R84). -/

/-- First backlot offset of the cue-sheet store, and of its take log. -/
def storeBase : Nat := 0x0300000
def logBase : Nat := 0x0420000

/-- A null-list entry's 32-bit value (R84). -/
def nullValue (e : NullEntry) : Nat := packN [(e.sid, 12, 0), (e.chip, 14, 12)]

/-- A null entry from its value. -/
def nullOf (n : Nat) : NullEntry := ⟨nbits n 25 12, nbits n 11 0⟩

/-- A cast entry from its word (R83). -/
def castEntryOf (w : Word) : CastEntry :=
  { sid := fld w 11 0, tracked := nbit w.toNat 12, retake := nbit w.toNat 13, uplink := nbit w.toNat 14, void := nbit w.toNat 15, ru := fld w 24 16
    mcs := fld w 29 26, nss := fld w 33 30, ssStart := fld w 37 34, ac := fld w 39 38, bytes := fld w 63 40 }

/-- A take record with its word `i` of 0 to 3 overwritten (R81). -/
def setTakeWord (x : TakeRec) (i : Nat) (w : Word) : TakeRec :=
  match i with
  | 0 => { x with es := fld w 9 0, ls := fld w 19 10, endBeat := fld w 29 20, kind := fld w 34 32, ac := fld w 36 35, castCount := fld w 47 40, castOffset := fld w 59 48 }
  | 1 => { x with chainMask := fld w 15 0, bw := fld w 18 16, streams := fld w 23 19, nullDims := fld w 27 24, prot := fld w 33 28, tracked := fld w 38 34, txBss := fld w 44 39 }
  | 2 => { x with txBeats := fld w 9 0, rxBeats := fld w 19 10, puncture := fld w 35 20, obssPd := fld w 43 36 }
  | _ => { x with costNj := fld w 31 0 }

/-- STATE that firmware writes (R77, R86): EMPTY, DRAFTING or READY; the other codes are the hardware's to set, and a write of one leaves STATE as it is (DESIGN CHOICE, log 107). -/
def stateWritten (old : SheetState) (code : Nat) : SheetState :=
  match code with | 0 => .empty | 1 => .drafting | 2 => .ready | _ => old

/-- The parts of a slot that State holds as fields, by word number (R79): header, take records, null lists, cast array. -/
def slotField (i : Nat) : Bool := decide (i < 392) || (decide (512 ≤ i) && decide (i < 2880))

end Sys2Proof.Machine

namespace Sys2Proof
open Machine

/-- Word `i` of a slot of radio `r`. -/
def Sheet.slotWord (s : Sheet) (r i : Nat) : Word :=
  if i < 8 then (s.header r).getD i 0
  else if i < 136 then (s.takeWords ((i - 8) / 8)).getD ((i - 8) % 8) 0
  else if i < 392 then
    let n := 2 * (i - 136)
    packW [(nullValue (tlook nullReset s.nulls n), 32, 0), (nullValue (tlook nullReset s.nulls (n + 1)), 32, 32)]
  else castWord (tlook castReset s.cast (i - 512))

/-- A slot with its word `i` overwritten: reserved bits are not kept, and RADIO is the slot's own (DESIGN CHOICE, log 107). -/
def Sheet.setSlotWord (s : Sheet) (i : Nat) (w : Word) : Sheet :=
  if i = 0 then { s with tick := fld w 47 0, state := stateWritten s.state (fld w 52 50), nums := [] }
  else if i = 1 then { s with takeCount := fld w 4 0, allocs := fld w 27 16, nums := [] }
  else if i = 2 then { s with costNj := fld w 39 0 }
  else if i = 3 then { s with budgetUj := fld w 31 0, coord := nbit w.toNat 32 }
  else if i < 8 then { s with fw := tput (fun _ => 0) s.fw i w }
  else if i < 136 then
    if (i - 8) % 8 < 4 then { s with takes := tmod takeReset s.takes ((i - 8) / 8) (fun x => setTakeWord x ((i - 8) % 8) w) }
    else { s with fw := tput (fun _ => 0) s.fw i w }
  else if i < 392 then
    { s with nulls := tput nullReset (tput nullReset s.nulls (2 * (i - 136)) (nullOf (fld w 31 0))) (2 * (i - 136) + 1) (nullOf (fld w 63 32)) }
  else { s with cast := tput castReset s.cast (i - 512) (castEntryOf w) }

end Sys2Proof

namespace Sys2Proof.Machine

/-! The take log as memory (R79, R101). -/

/-- The two words of a take-log record (R101). -/
def logRecWords (x : TakeLogRec) : List Word :=
  [packW [(x.tick, 48, 0), (x.radio, 2, 48), (x.take, 4, 50), (x.code, 4, 54)],
   packW [(x.startBeat, 10, 0), (x.endBeat, 10, 10), (x.served, 8, 20), (x.sent, 8, 28), (x.abandoned, 8, 36)]]

/-- The place of a record in the log: 48 for each of 64 ticks, by radio and take (DESIGN CHOICE, log 107). -/
def logPlace (x : TakeLogRec) : Nat := x.tick % 64 * 48 + x.radio * 16 + x.take

/-- A record with its word `i` overwritten; TICK, RADIO and TAKE are those of its place. -/
def setLogWord (x : TakeLogRec) (i : Nat) (w : Word) : TakeLogRec :=
  if i = 0 then { x with code := fld w 57 54 }
  else { x with startBeat := fld w 9 0, endBeat := fld w 19 10, served := fld w 27 20, sent := fld w 35 28, abandoned := fld w 43 36 }

/-- Overwrite a word of the first record at a place. -/
def setLogAt (k i : Nat) (w : Word) : List TakeLogRec → List TakeLogRec
  | [] => []
  | x :: rest => if logPlace x = k then setLogWord x i w :: rest else x :: setLogAt k i w rest

/-! The backlot as its masters read and write it. -/

/-- Word 0 of a task descriptor (R349). -/
def Ctx.word0 (x : Ctx) : Word :=
  packW [(x.lastTick, 48, 0), (x.core, 6, 53), (b2n x.pend, 1, 59), (b2n x.saved, 1, 60),
    (match x.st with | .free => 0 | .idle => 1 | .ready => 2 | .running => 3, 3, 61)]

/-- The 64-bit word at backlot offset 8 `q`, where State holds it as fields. -/
def Dev.heldWord (d : Dev) (q : Nat) : Option Word :=
  let a := 8 * q
  if a < 0x0100000 then (if a % 256 = 0 then some (tlook (fun _ => ({} : Ctx)) d.rgm.ctx (a / 256)).word0 else none)
  else if a < storeBase then
    let sid := (a - 0x0100000) / 512
    if a % 512 < 80 then some ((tlook callReset d.pln.call sid).word sid (a % 512 / 8)) else none
  else if a < logBase then
    let s := (a - storeBase) / 0x20000
    let i := (a - storeBase) % 0x20000 / 8
    if slotField i then some ((tlook sheetReset d.pln.sheets s).slotWord (s / 3) i) else none
  else if a < 0x042C000 then
    (d.pln.log.find? (fun x => logPlace x == (a - logBase) / 16)).map (fun x => (logRecWords x).getD (a % 16 / 8) 0)
  else none

/-- `n` octets from offset `a` on meet the receive hold buffers (R333, R362). -/
def inHold (a n : Nat) : Bool := decide (a < 0x0F00000) && decide (0x0700000 < a + n) && decide (0 < n)

/-- `n` octets of the backlot from an offset on, as a master reads them: the hold buffers read as 0 (R333). -/
def Dev.backlotGet (d : Dev) (off : Nat) : Nat → List Byte
  | 0 => []
  | n + 1 =>
    (if inHold off 1 then 0
     else match d.heldWord (off / 8) with
      | some w => BitVec.ofNat 8 (w.toNat / 256 ^ (off % 8))
      | none => getOctet d.mem.backlot (2 * d.mem.epoch + 1) off) :: d.backlotGet (off + 1) n

/-- Overwrite a word that State holds as fields; word 0 of a descriptor is written by the Ringmaster alone. -/
def Dev.putHeld (d : Dev) (q : Nat) (w : Word) : Dev :=
  let a := 8 * q
  if a < 0x0100000 then d
  else if a < storeBase then d.modCall ((a - 0x0100000) / 512) (fun c => c.setWord (a % 512 / 8) w)
  else if a < logBase then
    { d with pln := { d.pln with sheets := tmod sheetReset d.pln.sheets ((a - storeBase) / 0x20000) (fun s => s.setSlotWord ((a - storeBase) % 0x20000 / 8) w) } }
  else { d with pln := { d.pln with log := setLogAt ((a - logBase) / 16) (a % 16 / 8) w d.pln.log } }

/-- The octets of a store within one word reach the backlot: its plain octets, or the fields that stand for the word. -/
def Dev.backlotPut (d : Dev) (a : Nat) (l : List Byte) : Dev :=
  match d.heldWord (a / 8) with
  | some w => d.putHeld (a / 8) (patchWord w (a % 8) (l.take (8 - a % 8)))
  | none => d.blPut a l

/-- The sheet slot that a backlot offset lies in is write-protected (R87). -/
def Dev.sheetShut (d : Dev) (off : Nat) : Bool :=
  let s := (off - 0x0300000) / 0x20000
  decide (0x0300000 ≤ off) && decide (s < 9) &&
  (match (tlook sheetReset d.pln.sheets s).state with
   | .locked | .playing | .dark => true
   | _ => false)

/-- What drops a store of `n` octets to the backlot (the codes of MEM_FAULT_INFO.KIND): 3 the hold buffers or word 0 of a descriptor, 4 a protected sheet slot, 0 nothing (R87, R350, R362). -/
def Dev.backlotDrop (d : Dev) (a n : Nat) : Nat :=
  if a < 0x0100000 then (if a % 256 < 8 || 256 < a % 256 + n then 3 else 0)
  else if inHold a n then 3
  else if d.sheetShut a then 4
  else 0

/-- Note a fault in the fault registers. -/
def Dev.memFault (d : Dev) (crew kind master : Nat) : Dev :=
  { d with mem := { d.mem with faultAddr := crew % 2 ^ 40, faultKind := kind, faultMaster := master } }

/-- A dropped store is flagged and recorded (R362). -/
def Dev.noteDrop (d : Dev) (t crew kind master : Nat) : Dev :=
  if kind = 4 then ((d.memFault crew 4 master).inc t 15 3 crew).bump 41 26 else ((d.memFault crew 3 master).inc t 15 2 crew).bump 41 25

/-- First address of the backlot in the crew map (R346). -/
def crewBacklot : Nat := 0x0010000000

/-- Words that the device writes to the backlot for a master (R361), each dropped where a store of its own would be. -/
def Dev.backlotWords (d : Dev) (t master a : Nat) : List Word → Dev
  | [] => d
  | w :: ws =>
    (match d.backlotDrop a 8 with
     | 0 => d.backlotPut a (leBytes w.toNat 8)
     | k => d.noteDrop t (crewBacklot + a) k master).backlotWords t master (a + 8) ws

end Sys2Proof.Machine
end

