-- ==== Sys2Proof/Machine/Mailbox.lean ====
section
/-! DEFINITION. The mailbox protocol shared by every command of R64: taking a request, the checks of R63 in their order, and responses (R57 to R63, R75, R361, R407). -/
namespace Sys2Proof.Machine

/-- What a command's tables say of its request (R21, R22, R63): its opcode, whether F1 to F15 may not issue it at all, the lengths it admits, and whether a reserved request field is not 0. -/
structure CmdSpec where
  op : Nat
  f0Only : Bool
  lenOk : Nat → Bool
  reserved : List Word → Bool

/-- Some of a word's reserved fields `hi:lo` is not 0. -/
def resv (w : Word) (fs : List (Nat × Nat)) : Bool := fs.any (fun f => fld w f.1 f.2 != 0)

/-- A command with a request of one length whose reserved fields lie in words of its own, `(word, fields)`. -/
def fixedSpec (op : Nat) (f0Only : Bool) (len : Nat) (rs : List (Nat × List (Nat × Nat))) : CmdSpec :=
  { op := op, f0Only := f0Only, lenOk := fun l => l == len, reserved := fun ws => rs.any (fun r => resv (wd ws r.1) r.2) }

/-- TAG of a request (R57). -/
def reqTag (ws : List Word) : Nat := fld (wd ws 0) 63 48
/-- LEN of a request (R57). -/
def reqLen (ws : List Word) : Nat := fld (wd ws 0) 41 32
/-- OPCODE of a request (R57). -/
def reqOp (ws : List Word) : Nat := fld (wd ws 0) 11 0

/-- Response header (R57). -/
def respHeader (tag len st op : Nat) : Word := packW [(op, 12, 0), (st, 8, 16), (len, 10, 32), (tag, 16, 48)]

/-- Give a response: it waits for the response area of a function that still has the request outstanding (R58, R60), or overwrites a crew core's request, dropped where that core's own store would be (R361, R362; DESIGN CHOICE, log 150). -/
def Dev.respond (d : Dev) (t : Nat) (p : Pend) (st : Status) (body : List Word) : Dev :=
  let ws := respHeader p.tag (1 + body.length) st.code p.op :: body
  match p.caller with
  | .fn f =>
    if (d.fn f).tags.contains p.tag then
      d.modFn f (fun s => { s with waiting := s.waiting ++ [⟨ws, decide (st ≠ .pending), beatNo t⟩] })
    else d
  | .crew c =>
    let core := tlook (fun _ => ({} : Core)) d.rgm.core c
    let d1 := d.backlotWords t p.caller.code core.cmdOffset ws
    if st = .pending then d1
    else { d1 with rgm := { d1.rgm with core := tmod (fun _ => {}) d1.rgm.core c (fun k => { k with cmdBusy := false }) } }
  | _ => d

/-- In recovery the management core serves slot 0: IF_VERSION and the commands of R423; every other opcode gets WRONG_STATE (R407). -/
def recoveryServes (op : Nat) : Bool := op == 1 || op == 0xA00 || op == 0xA01 || op == 0xA02 || (decide (0xA10 ≤ op) && decide (op ≤ 0xA13))

/-- The checks of R63 from the second to the sixth, in their order; `none` when the command's own checks are next. -/
def Dev.refusal (d : Dev) (sp : CmdSpec) (who : Master) (req : List Word) (clash : Bool) : Option Status :=
  let host := match who with | .fn _ => true | _ => false
  let seen := match who with | .fn f => (d.fn f).versionSeen | _ => true
  if !seen && sp.op != 1 then some .wrongState
  else if d.mgr.recovery && !recoveryServes sp.op then some .wrongState
  else if sp.f0Only && !who.isF0 then some .notPermitted
  else if host && d.backPressed && sp.op != 1 then some .busy
  else if reqLen req = 0 || decide (512 < reqLen req) || !sp.lenOk (reqLen req) then some .badLength
  else if resv (wd req 0) [(47, 42), (31, 12)] || sp.reserved req then some .badParam
  else if clash then some .badParam
  else none

/-- Take a request (R58, R59): a function that is not READY or has 32 outstanding loses it; every other one becomes outstanding and is judged (R63), and `h` runs when no check of R63 refuses it. -/
def Dev.mbx (d : Dev) (t : Nat) (sp : CmdSpec) (who : Master) (req : List Word) (h : Pend → Dev → Dev) : Dev :=
  let p : Pend := ⟨who, reqTag req, sp.op⟩
  match who with
  | .fn f =>
    if (d.fn f).st ≠ .ready || decide (32 ≤ (d.fn f).tags.length) then (d.incMbx t f 0).bump (2 + f) 3
    else
      let clash := (d.fn f).tags.contains p.tag
      let d1 := (d.modFn f (fun s => { s with tags := s.tags ++ [p.tag] })).bump (2 + f) 0
      match d.refusal sp who req clash with
      | none => h p d1
      | some Status.busy => ((d1.step 0x0013 f).bump (2 + f) 1).respond t p Status.busy []
      | some st =>
        let d2 := if clash && decide ((d.refusal sp who req false).isNone) then d1.incMbx t f 1 else d1
        d2.respond t p st []
  | _ =>
    match d.refusal sp who req false with
    | none => h p d
    | some st => d.respond t p st []

/-- What a command answered at once gives: a status, the response after its header, and the device. -/
abbrev Answer := Status × List Word × Dev

/-- Run a command that answers in the beat of acceptance (R60). -/
def Dev.mbxNow (d : Dev) (t : Nat) (sp : CmdSpec) (who : Master) (req : List Word) (h : Dev → Answer) : Dev :=
  d.mbx t sp who req (fun p d1 =>
    let a := h d1
    let d2 := match who with
      | .fn f => if a.1 = Status.busy then a.2.2.bump (2 + f) 2 else a.2.2
      | _ => a.2.2
    d2.respond t p a.1 a.2.1)

/-- The first refusal of a list of rows of a condition table, each a test and its status (R63, step 7). -/
def firstOf : List (Bool × Status) → Option Status
  | [] => none
  | (b, st) :: rest => if b then some st else firstOf rest

/-- Judge the rows of a condition table, and act when none applies. A refusal is a header alone, LEN 1, also where the command's response is longer (DESIGN CHOICE, log 133: R57 and the tables give no length for one). -/
def judged (d : Dev) (rows : List (Bool × Status)) (h : Dev → Answer) : Answer :=
  match firstOf rows with
  | some st => (st, [], d)
  | none => h d

end Sys2Proof.Machine
end

