-- ==== Sys2Proof/Machine/Power.lean ====
section
/-! DEFINITION. Power states (R382 to R391): requests, their outcomes, rollback and wakes, as the other blocks use them. -/
namespace Sys2Proof.Machine

/-- Outcomes of a power request (R397). -/
inductive PowerOutcome
  | done | refused | noVote | wakeAbort | replaced
  deriving DecidableEq, Repr

/-- The code of an outcome (R397). -/
def PowerOutcome.code : PowerOutcome → Nat
  | .done => 0 | .refused => 1 | .noVote => 2 | .wakeAbort => 3 | .replaced => 4

/-- The final status that an outcome gives (R390, R397). -/
def PowerOutcome.status : PowerOutcome → Status
  | .done => .ok | .replaced => .busy | _ => .wrongState

/-- Answer a power request; the management core's own request has nobody to answer. -/
def Dev.powerAnswer (d : Dev) (t : Nat) (r : PowerReq) (o : PowerOutcome) (voter : Nat) : Dev :=
  match r.pend with
  | some p => d.respond t p o.status [packW [(o.code, 8, 0), (voter, 4, 8)]]
  | none => d

/-- The code of a power state (GAF_STATE.STATE). -/
def PowerState.code : PowerState → Nat
  | .show' => 0 | .interval => 1 | .blackout => 2

/-- The code of a phase (GAF_STATE.PHASE). -/
def PowerPhase.code : PowerPhase → Nat
  | .idle => 0 | .poll => 1 | .rollback => 2 | .committed => 3 | .leaving => 4

/-- Start a request in Show with none in progress (R384, R390): one for the state in force is done at once, any other starts its poll. -/
def Dev.powerStart (d : Dev) (t : Nat) (r : PowerReq) : Dev :=
  if r.target = d.gaf.state.code then d.powerAnswer t r .done 0
  else { d with gaf := { d.gaf with phase := .poll, req := some r, agreed := 0, quiesced := 0, phaseAt := d.glb.up, alarm := r.wakeTick, noted := false } }

/-- Stop the poll (R385, R388): the voters resume, and the request ends when the rollback has ended. -/
def Dev.rollback (d : Dev) (o : PowerOutcome) (voter : Nat) : Dev :=
  { d with gaf := { d.gaf with phase := .rollback, quiesced := 0, phaseAt := d.glb.up, outcome := o.code, voter := voter } }

/-- Record a wake cause unless one is held; of the events of one beat the first in the order of R387 stands. -/
def Dev.recordWake (d : Dev) (cause fn : Nat) : Dev :=
  let w := packR [(cause, 3, 0), (fn, 4, 8), (1, 1, 31)]
  let old := d.gaf.wakeStatus
  if !old.getLsbD 31 then
    { d with gaf := { d.gaf with wakeStatus := w, wakeBeat := beatNo d.glb.up + 1 } }.markSet 0x0F0000C 31
  else if d.gaf.wakeBeat = beatNo d.glb.up + 1 && decide (cause * 16 + fn < rfld old 2 0 * 16 + rfld old 11 8) then
    { d with gaf := { d.gaf with wakeStatus := w } }
  else d

/-- A wake event (R387, R388): it aborts a poll, is noted during a committed entry, makes the device leave Interval or Blackout, and is otherwise no wake. -/
def Dev.wake (d : Dev) (cause : Nat) (fn : Nat := 0) : Dev :=
  match d.gaf.phase with
  | .poll => ((d.recordWake cause fn).rollback .wakeAbort 0).bump 42 13
  | .committed => let d1 := d.recordWake cause fn; { d1 with gaf := { d1.gaf with noted := true } }
  | .idle =>
    if d.gaf.state = .show' then d
    else let d1 := (d.recordWake cause fn).bump 42 12; { d1 with gaf := { d1.gaf with phase := .leaving, phaseAt := d1.glb.up } }
  | _ => if d.gaf.wakeBeat = beatNo d.glb.up + 1 then d.recordWake cause fn else d

/-- The mailboxes take requests: voter 0 has not quiesced and the device is in Show (R383, R389). -/
def Dev.mbxOpen (d : Dev) : Bool := decide (d.gaf.state = .show') && !d.gaf.quiesced.testBit 0 &&
  decide (d.gaf.phase ≠ .committed) && decide (d.gaf.phase ≠ .leaving)

/-- The Ringmaster dispatches nothing: its turn in a poll has come, or it has quiesced (R383). -/
def Dev.rgmHalted (d : Dev) : Bool :=
  d.gaf.quiesced.testBit 5 || (decide (d.gaf.phase = .poll) && nbits d.gaf.quiesced 4 0 == 31)

/-- The domains D2 to D11 are switched on (R368, R370): from boot on, outside reset and Blackout; the outputs of a domain that is not float. -/
def Dev.switchedOn (d : Dev) : Bool := d.running && d.mgr.booted && decide (d.gaf.state ≠ .blackout)

/-- GAF_STATE. -/
def Dev.gafState (d : Dev) : Reg :=
  let g := d.gaf
  packR [(g.state.code, 2, 0), (g.phase.code, 4, 4), ((match g.req with | some r => r.target | none => 0), 2, 8),
    ((match g.waiting with | some r => r.target | none => 0), 2, 10), (g.level, 3, 16), (b2n g.waiting.isSome, 1, 19)]

/-- GAF_MEASURE (R376): the hottest sensor at the last tick boundary and P_MEAS, saturating. -/
def Dev.gafMeasure (d : Dev) : Reg := packR [(Nat.min d.gaf.pMeas 0xFFFFFF, 24, 0), (unsgn 8 d.gaf.tMax, 8, 24)]

end Sys2Proof.Machine
end

