-- ==== Sys2Proof/Machine/Rings.lean ====
section
/-! DEFINITION. Descriptor rings as every block uses them (R302 to R311): ownership, completions, delivery to a ring, and stopping. -/
namespace Sys2Proof.Machine

/-- A ring nothing has moved or changed: F0's, with local number equal to its global one (R73). -/
def ringReset (g : Nat) : Ring := { loc := g }
/-- Ring `g`. -/
def Dev.ring (d : Dev) (g : Nat) : Ring := tlook ringReset d.tm.ring g
/-- Change ring `g`. -/
def Dev.modRing (d : Dev) (g : Nat) (f : Ring → Ring) : Dev := { d with tm := { d.tm with ring := tmod ringReset d.tm.ring g f } }

/-- Entries of a ring (R303). -/
def Ring.size (r : Ring) : Nat := 2 ^ rfld r.ctrl 19 16
/-- KIND: 0 TX, 1 RX, 2 WTX, 3 WRX (R302). -/
def Ring.kind (r : Ring) : Nat := rfld r.ctrl 29 28
/-- The ring's area (R303). -/
def Ring.base (r : Ring) : Nat := r.baseHi.toNat * 2 ^ 32 + r.baseLo.toNat
/-- INFLIGHT (R308): descriptors fetched whose completions are not yet in the array. -/
def Ring.inFlight (r : Ring) : Nat := r.inflight.length + r.free.length + r.done.length

/-- The vector of a ring on its owner (R49). -/
def ringVec (g : Nat) (r : Ring) : Nat := if r.owner = 0 then 2 + g else 1 + r.loc

/-- Rings that a function owns (R73). -/
def Dev.ringsOf (d : Dev) (f : Nat) : List Nat := (List.range 128).filter (fun g => (d.ring g).owner == f)

/-- Fire a ring's vector (R311). -/
def Dev.fireRing (d : Dev) (g : Nat) : Dev :=
  let r := d.ring g
  let d1 := d.modRing g (fun r => { r with since := 0, firstAt := 0 })
  if r.ctrl.getLsbD 30 then d1.fireMsi r.owner (ringVec g r) else d1

/-- A completion entered the array: count it toward the next firing (R311). -/
def Dev.coalesce (d : Dev) (g : Nat) : Dev :=
  let d1 := d.modRing g (fun r => { r with since := r.since + 1, firstAt := if r.firstAt = 0 then d.glb.up + 1 else r.firstAt })
  if Nat.max 1 (rfld (d1.ring g).coal 31 16) ≤ (d1.ring g).since then d1.fireRing g else d1

/-- Drop the stamps that a posted completion held (R274). -/
def releaseStamps (d : Dev) (g id : Nat) : Dev :=
  { d with emac := { d.emac with port := tmap (fun _ => {}) (fun _ y => { y with ts := y.ts.filter (fun x => !(x.1 == g && x.2.1 == id)) }) d.emac.port } }

/-- Drop every stamp that completions of ring `g` hold: they will not be posted (R274, R309). -/
def dropStamps (d : Dev) (g : Nat) : Dev :=
  { d with emac := { d.emac with port := tmap (fun _ => {}) (fun _ y => { y with ts := y.ts.filter (fun x => x.1 != g) }) d.emac.port } }

/-- Write the oldest waiting completion into the array, when it has room and the traffic manager has not quiesced (R305, R307, R383). -/
def Dev.postOne (d : Dev) (g : Nat) : Dev :=
  let r := d.ring g
  match r.done with
  | [] => d
  | c :: rest =>
    if (r.cqTail + 1) % r.size = r.cqHead % r.size || r.st == .stopped || d.gaf.quiesced.testBit 3 then d
    else
      let w1 := packW [(c.w1.toNat, 63, 0), (b2n r.phase, 1, 63)]
      let tail := (r.cqTail + 1) % r.size
      let d1 := d.hostPut r.owner (r.base + 16 * r.size + 16 * r.cqTail) (wordOctets [c.w0, w1])
      let d2 := d1.modRing g (fun r => { r with done := rest, cqTail := tail, phase := if tail = 0 then !r.phase else r.phase })
      (((releaseStamps d2 g c.descId).bump (2 + r.owner) 12).bump (2 + r.owner) (13 + fld c.w1 55 48)).coalesce g

/-- Write waiting completions while there is room. -/
def Dev.postAll (d : Dev) (g : Nat) : Dev := iterN (d.ring g).done.length (fun e => e.postOne g) d
where
  /-- Apply `f` n times. -/
  iterN {α : Type} : Nat → (α → α) → α → α
    | 0, _, x => x
    | n + 1, f, x => iterN n f (f x)

/-- What a completion says beside its descriptor (R305). -/
structure ComplInfo where
  status : Nat
  stamp : Option Nat := none
  noTs : Bool := false
  srcKind : Nat := 0
  tc : Nat := 0
  bss : Option Nat := none
  source : Nat := 0
  len : Option Nat := none

/-- The two words of a completion on a ring of a kind, PHASE aside (R305): BSS is echoed on WTX. -/
def complWords (kind : Nat) (x : Desc) (i : ComplInfo) : Word × Word :=
  (BitVec.ofNat 64 (i.stamp.getD 0),
   packW [(i.len.getD x.len, 14, 0), (i.source, 12, 14), (i.bss.getD (if kind = 2 then x.bss else 0), 6, 26), (x.cookie, 16, 32), (i.status, 8, 48),
     (i.tc, 3, 56), (i.srcKind, 2, 59), (b2n i.stamp.isSome, 1, 61), (b2n i.noTs, 1, 62)])

/-- A descriptor of a ring ends with a completion, which waits for room (R306, R308). -/
def Dev.completeDesc (d : Dev) (g : Nat) (x : Desc) (i : ComplInfo) : Dev :=
  let w := complWords (d.ring g).kind x i
  let d1 := d.modRing g (fun r => { r with
    inflight := r.inflight.filter (fun y => y.id != x.id), free := r.free.filter (fun y => y.id != x.id)
    done := r.done ++ [⟨x.id, w.1, w.2, d.glb.up⟩] })
  d1.postAll g

/-- A frame ends: one from a host ring gets its completion, any other none (R306). -/
def Dev.finish (d : Dev) (desc : Option (Nat × Nat)) (i : ComplInfo) : Dev :=
  match desc with
  | none => d
  | some (g, id) =>
    match (d.ring g).inflight.find? (fun x => x.id == id) with
    | some x => d.completeDesc g x i
    | none => d

/-- SOURCE of R305 by source kind: port, SID or ring. -/
def pktSource (p : Pkt) : Nat := if p.srcKind ≤ 2 then p.src % 4096 else 0

/-- Drop a frame at a ring and count it (R309, R314). -/
def Dev.dropAtRing (d : Dev) (t owner : Nat) (p : Pkt) : Dev := ((d.bump (2 + owner) 29).dropped t p.tenant).finish p.desc { status := 8 }

/-- Put a frame into the buffer that is next (R308): one longer than the buffer is dropped and counted, and the buffer stays. -/
def Dev.fillBuffer (d : Dev) (t g : Nat) (p : Pkt) (b : Desc) (wrxBss : Option Nat) : Dev :=
  let r := d.ring g
  if b.len < p.octets.length then d.dropAtRing t r.owner p
  else
    let n := p.octets.length
    let d1 := ((d.hostPut r.owner b.buf p.octets).bump (2 + r.owner) 10).bump (2 + r.owner) 11 n |>.hbmOctets 0 n
    let d2 := d1.completeDesc g b {
      status := 0, stamp := p.rxStamp, srcKind := p.srcKind, tc := if wrxBss.isSome then 0 else p.tc,
      bss := some (wrxBss.getD 0), source := pktSource p, len := some n }
    d2.finish p.desc { status := 0 }

/-- Note that a frame leaves queue `q`, which it entered at `since` (R320). -/
def Dev.noteDelay (d : Dev) (q since : Nat) : Dev :=
  { d with tm := { d.tm with maxDelay := tmod (fun _ => 0) d.tm.maxDelay q (fun m => Nat.max m ((d.glb.up - since) / 1000)) } }

/-- Note that frames leave queue `q`. -/
def Dev.noteDelays (d : Dev) (q : Nat) (l : List Pkt) : Dev := l.foldl (fun e p => e.noteDelay q p.enq) d

/-- Octets that wait in a queue. -/
def queueOctets (l : List Pkt) : Nat := sumN (l.map (fun p => p.octets.length))

/-- Drop a frame at the tail of a ring's queue (R315). -/
def Dev.dropQueued (d : Dev) (t owner : Nat) (p : Pkt) : Dev := ((d.bump 36 14).step 0x6211 p.tenant).dropAtRing t owner p

/-- Hand a frame to a running ring of the right kind: into a free buffer, or into the queue up to its limit (R314, R315). -/
def Dev.toRing (d : Dev) (t g : Nat) (p : Pkt) (wrxBss : Option Nat) : Dev :=
  let r := d.ring g
  match r.queue, r.free with
  | [], b :: _ => d.fillBuffer t g p b wrxBss
  | _, _ =>
    if d.pv 0x6204 0 g * 1024 < queueOctets r.queue + p.octets.length then
      (d.inc t 10 (if wrxBss.isSome then 4 else 3)).dropQueued t r.owner p
    else d.modRing g (fun r => { r with queue := r.queue ++ [{ p with enq := d.glb.up }] })

/-- A frame routed to a ring (R314): dropped unless the ring is RUNNING and of kind RX. -/
def Dev.routeToRing (d : Dev) (t g : Nat) (p : Pkt) : Dev :=
  let r := d.ring g
  if r.st ≠ .running || r.kind ≠ 1 then
    (d.inc t 10 3).dropAtRing t r.owner p
  else ((if p.desc.isNone then d.hbmOctets 0 p.octets.length else d).toRing t g p none).bump 36 10

/-- The tenant's management ring (R302): its running WRX ring. -/
def Dev.mgmtRing (d : Dev) (tenant : Nat) : Option Nat :=
  (d.ringsOf tenant).find? (fun g => (d.ring g).kind == 3 && decide ((d.ring g).st = .running))

/-- A management frame for a tenant (R129, R302); one without a running ring is dropped and counted among the tenant's ring drops (DEDUCED, log 141). -/
def Dev.toMgmt (d : Dev) (t tenant bss : Nat) (p : Pkt) : Dev :=
  match d.mgmtRing tenant with
  | some g => d.toRing t g p (some bss)
  | none => ((d.bump (2 + tenant) 29).inc t 10 4).dropped t tenant

/-- Serve the first frame that waits for a buffer. -/
def Dev.serveOne (d : Dev) (t g : Nat) : Dev :=
  let r := d.ring g
  match r.queue, r.free with
  | p :: rest, b :: _ =>
    ((d.modRing g (fun r => { r with queue := rest })).noteDelay (512 + g) p.enq).fillBuffer t g p b (if r.kind = 3 then some (p.tc) else none)
  | _, _ => d

/-- Serve frames that wait for a buffer, while there is one: a frame that is too long leaves it for the next. -/
def Dev.serveQueue (d : Dev) (t g : Nat) : Dev := (d.ring g).queue.foldl (fun e _ => e.serveOne t g) d

/-- A frame that a stopping ring leaves in a queue: not one of its own. -/
def Pkt.keptFrom (g : Nat) (p : Pkt) : Bool := match p.desc with | some x => x.1 != g | none => true
/-- An MSDU that it leaves: not one of its own, or on the air. -/
def Msdu.keptFrom (g : Nat) (m : Msdu) : Bool := decide (m.ring ≠ some g) || m.onAir.isSome

/-- The frames that ring `g`'s stop takes out of the queues of R320 leave them. -/
def Dev.noteFlush (d : Dev) (g : Nat) : Dev :=
  let ten (b : Nat) : Nat := 640 + (tlook (fun _ => ({} : Bss)) d.mac.bss b).tenant
  let macs := d.mac.sta.flatMap (fun x => (x.2.queue.filter (fun m => !m.keptFrom g)).map (fun m => (ten x.2.bss, m))) ++
    d.mac.bss.flatMap (fun x => ((x.2.groupHeld ++ x.2.groupQueue).filter (fun m => !m.keptFrom g)).map (fun m => (ten x.1, m)))
  let d1 := d.tm.queues.foldl (fun e x => e.noteDelays x.1 (x.2.filter (fun p => !p.keptFrom g))) d
  let d2 := d.tm.ring.foldl (fun e x => e.noteDelays (512 + x.1) (x.2.queue.filter (fun p => x.1 == g || !p.keptFrom g))) d1
  macs.foldl (fun e x => e.noteDelay x.1 x.2.since) d2

/-- Forget the frames of ring `g` in every queue before a wire or the air (R309). -/
def forgetFrames (g : Nat) (d0 : Dev) : Dev :=
  let d := d0.noteFlush g
  let keep := Pkt.keptFrom g
  let keepM := Msdu.keptFrom g
  { d with
    rte := { d.rte with
      ring := d.rte.ring.filter keep
      waiting := tmap (fun _ => []) (fun _ l => l.filter (fun x => keep x.2)) d.rte.waiting }
    tm := { d.tm with
      queues := tmap (fun _ => []) (fun _ l => l.filter keep) d.tm.queues
      ring := tmap ringReset (fun _ r => { r with queue := r.queue.filter keep }) d.tm.ring }
    emac := { d.emac with port := tmap (fun _ => {}) (fun _ y => { y with queues := tmap (fun _ => []) (fun _ l => l.filter keep) y.queues }) d.emac.port }
    mac := { d.mac with
      sta := tmap (fun _ => {}) (fun _ x => { x with queue := x.queue.filter keepM }) d.mac.sta
      bss := tmap (fun _ => {}) (fun _ x => { x with groupHeld := x.groupHeld.filter keepM, groupQueue := x.groupQueue.filter keepM }) d.mac.bss } }

/-- Descriptors whose frames are on a wire or on the air now. -/
def onAirDescs (d : Dev) (g : Nat) : List Nat :=
  let of (l : List Msdu) : List Nat := (l.filter (fun m => decide (m.ring = some g) && m.onAir.isSome)).map (·.cookie)
  d.emac.port.filterMap (fun e => e.2.ending.bind (fun x => if x.1 = g then some x.2.1 else none)) ++
  d.mac.sta.flatMap (fun e => of e.2.queue) ++ d.mac.bss.flatMap (fun e => of e.2.groupHeld ++ of e.2.groupQueue)

/-- A ring stops taking work (R309): frames not yet on a wire or on the air complete FLUSHED, unused buffers complete FLUSHED with LEN 0, and waiting frames are dropped and counted. -/
def Dev.flushRing (d : Dev) (t g : Nat) : Dev :=
  let r := d.ring g
  let air := onAirDescs d g
  let d1 := forgetFrames g d
  let d2 := (r.inflight.filter (fun x => !air.contains x.id)).foldl (fun e x => e.completeDesc g x { status := 0xC }) d1
  let d3 := r.free.foldl (fun e x => e.completeDesc g x { status := 0xC, len := some 0 }) d2
  let d4 := d3.modRing g (fun r => { r with queue := [] })
  r.queue.foldl (fun e p => e.dropAtRing t r.owner p) d4

/-- DRAINING (R309), entered from RUNNING. -/
def Dev.drainRing (t : Nat) (d : Dev) (g : Nat) : Dev :=
  if (d.ring g).st = .running then (d.modRing g (fun r => { r with st := .draining })).flushRing t g else d

/-- DRAINING becomes STOPPED once INFLIGHT is 0 (R309). -/
def Dev.drainEnd (d : Dev) (g : Nat) : Dev :=
  if (d.ring g).st = .draining && (d.ring g).inFlight = 0 then d.modRing g (fun r => { r with st := .stopped }) else d

/-- FAULT (R309): entered on a failed DMA; the frame whose DMA failed completes DMA_ERR. -/
def Dev.faultRing (d : Dev) (t g : Nat) (desc : Option Nat) : Dev :=
  let r := d.ring g
  if r.st ≠ .running && r.st ≠ .draining then d
  else
    let d1 := d.modRing g (fun r => { r with st := .fault })
    let d2 := match desc with
      | some id =>
        match (r.inflight ++ r.free).find? (fun (x : Desc) => x.id == id) with
        | some x => d1.completeDesc g x { status := 0xE, len := if r.kind % 2 = 1 then some 0 else none }
        | none => d1
      | none => d1
    ((d2.flushRing t g).inc t 10 1).fireRing g

end Sys2Proof.Machine
end

