-- ==== Sys2Proof/Machine/Host.lean ====
section
/-! DEFINITION. The host interface (R47 to R75) and the functions' shutdown and enable (R392, R393). -/
namespace Sys2Proof.Machine

/-! Who owns what (R51, R69). -/

/-- A BSS nothing has started. -/
def bssReset : Nat → Bss := fun _ => {}
/-- BSS `b`. -/
def Dev.bssAt (d : Dev) (b : Nat) : Bss := tlook bssReset d.mac.bss b
/-- A SID not in use. -/
def staReset : Nat → Sta := fun _ => {}
/-- The station record of a SID. -/
def Dev.sta (d : Dev) (sid : Nat) : Sta := tlook staReset d.mac.sta sid

/-- Master `who` may touch BSS `b` (R51): F0's rights, or a running BSS of its own tenant. -/
def Dev.ownsBss (d : Dev) (who : Master) (b : Nat) : Bool :=
  who.isF0 || ((d.bssAt b).running && (d.bssAt b).tenant == who.tenant)
/-- Master `who` may touch the station of a SID: F0's rights, or a station of a BSS of its tenant. -/
def Dev.ownsSta (d : Dev) (who : Master) (sid : Nat) : Bool :=
  who.isF0 || ((d.sta sid).used && (d.bssAt (d.sta sid).bss).tenant == who.tenant)
/-- Master `who` may touch ring `g`. -/
def Dev.ownsRing (d : Dev) (who : Master) (g : Nat) : Bool := who.isF0 || (d.ring g).owner == who.tenant

/-! Mailbox slots (R58, R59). -/

/-- DOORBELL (R58, R59, R383): REQ_BUSY becomes 1, or the doorbell is lost; while the mailboxes take no request it is a wake event (R387). -/
def goDoorbell (t f : Nat) (d : Dev) : Dev :=
  let s := d.fn f
  if s.st ≠ .ready || s.reqBusy || decide (32 ≤ s.tags.length) then (d.incMbx t f 0).bump (2 + f) 3
  else
    let d1 := d.modFn f (fun s => { s with reqBusy := true, rangAt := d.arrivals.length })
    if d.mbxOpen then d1 else d1.wake 5 f

def execDoorbell (f : Nat) (s : State) : Host.Outcome State Fault Refusal := .next (s.act fun t d => goDoorbell t f d)

/-- Put response words into a slot's area. -/
def putWords (m : Table Word) : Nat → List Word → Table Word
  | _, [] => m
  | i, w :: rest => putWords (tput (fun _ => 0) m i w) (i + 1) rest

/-- RESPONSE_POSTED (R58, R60): the oldest response that waits enters the free response area, RESP_VALID becomes 1 and vector 0 fires. -/
def goResponsePosted (f : Nat) (d : Dev) : Dev :=
  let s := d.fn f
  match s.waiting with
  | [] => d
  | r :: rest =>
    if s.respValid then d
    else
      let h := wd r.words 0
      let d1 := d.modFn f (fun s => { s with
        waiting := rest, respValid := true, respFinal := r.final, respTag := fld h 63 48, respArea := putWords s.respArea 0 r.words })
      let d2 := if r.final then d1.bump (2 + f) 6 else d1.bump (2 + f) 5
      let d3 := if r.final && fld h 23 16 != 0 then d2.bump (2 + f) 7 else d2
      d3.fireMsi f 0

def execResponsePosted (f : Nat) (s : State) : Host.Outcome State Fault Refusal := .next (s.act fun _ d => goResponsePosted f d)

/-- RESP_ACK (R56, R58): the area is free from the next beat boundary on; an acknowledgement with no response is stray. -/
def goRespAck (t f : Nat) (d : Dev) : Dev :=
  if (d.fn f).respValid then d.modFn f (fun s => { s with ackStaged := true }) else d.incMbx t f 2

def execRespAck (f : Nat) (s : State) : Host.Outcome State Fault Refusal := .next (s.act fun t d => goRespAck t f d)

/-- At the boundary after an acknowledgement RESP_VALID becomes 0, and a final response's request is no longer outstanding (R58, R59): one request, also where a clash has left two with the same tag (R60). -/
def FnSlot.acked (s : FnSlot) (beat : Nat) : FnSlot :=
  if s.ackStaged then
    { s with
      ackStaged := false, respValid := false, freedBeat := beat
      tags := if s.respFinal then s.tags.erase s.respTag else s.tags }
  else s

/-! Commands of chapter 2. -/

/-- BAD_OPCODE (R63, R64): an opcode that no chapter defines. -/
def goBadOpcode (t : Nat) (who : Master) (req : List Word) (d : Dev) : Dev :=
  let p : Pend := ⟨who, reqTag req, reqOp req⟩
  match who with
  | .fn f =>
    if (d.fn f).st ≠ .ready || decide (32 ≤ (d.fn f).tags.length) then (d.incMbx t f 0).bump (2 + f) 3
    else ((d.modFn f (fun s => { s with tags := s.tags ++ [p.tag] })).bump (2 + f) 0).respond t p .badOpcode []
  | _ => d.respond t p .badOpcode []

def execBadOpcode (f : Nat) (req : List Word) (s : State) : Host.Outcome State Fault Refusal :=
  .next (s.act fun t d => goBadOpcode t (.fn f) req d)

/-- IF_VERSION (R65, R407): in recovery the firmware fields read 0. -/
def goIfVersion (t : Nat) (who : Master) (req : List Word) (d : Dev) : Dev :=
  d.mbxNow t (fixedSpec 0x001 false 1 []) who req (fun d =>
    let d1 := match who with | .fn f => d.modFn f (fun s => { s with versionSeen := true }) | _ => d
    let fw := if d.mgr.recovery then (3, 8, 0) else (0, 0, 0)
    let w1 := if d.mgr.recovery then packW [fw] else packW [(3, 8, 0), (3, 8, 8), (2, 8, 16), (Config.fwPatch.toNat, 16, 24)]
    (.ok, [w1, packW [(who.tenant, 4, 0)]], d1))

def execIfVersion (f : Nat) (req : List Word) (s : State) : Host.Outcome State Fault Refusal :=
  .next (s.act fun t d => goIfVersion t (.fn f) req d)

/-- A ring counts as stopped for RING_ASSIGN (R309). -/
def Ring.stopped (r : Ring) : Bool := r.st == .stopped || r.st == .fault

/-- RING_ASSIGN (R66, R73, R310). -/
def goRingAssign (t : Nat) (who : Master) (req : List Word) (d : Dev) : Dev :=
  d.mbxNow t (fixedSpec 0x030 true 2 [(1, [(63, 21), (15, 12), (7, 7)])]) who req (fun d =>
    let w := wd req 1
    let g := fld w 6 0
    let f := fld w 11 8
    let k := if f = 0 then g else fld w 20 16
    let others := (d.ringsOf f).filter (· != g)
    judged d [
      (!(d.ring g).stopped, .wrongState),
      (decide ((d.fn f).st ≠ .ready), .wrongState),
      (f != 0 && others.any (fun r => (d.ring r).loc == k), .wrongState),
      (f != 0 && decide (32 ≤ others.length), .noResource),
      (d.claimed .ring g, .busy)] (fun d =>
        (.ok, [], dropStamps ((d.modRing g (fun _ => { owner := f, loc := k })).claim .ring g) g)))

def execRingAssign (f : Nat) (req : List Word) (s : State) : Host.Outcome State Fault Refusal :=
  .next (s.act fun t d => goRingAssign t (.fn f) req d)

/-! Properties (R67 to R72). -/

/-- ID of a property item word. -/
def itemId (w : Word) : Nat := fld w 15 0
/-- INDEX of a property item word. -/
def itemIx (w : Word) : Nat := fld w 31 16
/-- TENANT of a property item word. -/
def itemTen (w : Word) : Nat := fld w 35 32

/-- The tenant instance an item names (R69). -/
def itemTenant (p : PropDef) (who : Master) (w : Word) : Nat :=
  if p.tenanted then (if who.isF0 then itemTen w else who.tenant) else 0

/-- The instance an item names. -/
def itemKey (p : PropDef) (who : Master) (w : Word) : Nat := propKey p.id (itemTenant p who w) (itemIx w)

/-- An index of ENERGY_NJ that a radio supports: bandwidth to 40 MHz on A, 160 MHz on B, 320 MHz on C (R105). -/
def energyIndex (i : Nat) : Bool :=
  decide (i % 16 < 10) && decide (i % 16 / 2 ≤ (if i / 16 = 0 then 1 else if i / 16 = 1 then 3 else 4))

/-- The object an index names is the master's (R69, rule 4): stations, BSSs, the BSS of an EDCA index, and rings. -/
def Dev.ownsIndex (d : Dev) (p : PropDef) (who : Master) (i : Nat) : Bool :=
  if p.kind = 1 then d.ownsSta who i
  else if p.kind = 2 then d.ownsBss who i
  else if p.kind = 5 then d.ownsRing who i
  else if 0x2010 ≤ p.id && p.id ≤ 0x201B then d.ownsBss who (i / 4)
  else true

/-- The checks of R69, rules 1 to 4, on one item; `val` is the new value of a write. -/
def Dev.itemCheck (d : Dev) (who : Master) (w : Word) (val : Option Word) : Status :=
  match propDef (itemId w) with
  | none => .badParam
  | some p =>
    let bad := decide (p.limit ≤ itemIx w) || fld w 63 36 != 0 ||
      (match val with | some v => !propFits p v | none => false) ||
      (val.isSome && p.id == 0x1040 && !energyIndex (itemIx w))
    let denied := (val.isSome && p.access == 0) || (!who.isF0 && ((val.isSome && p.access == 1) || p.access == 3))
    if bad then .badParam
    else if denied then .notPermitted
    else if itemTen w != 0 && (!who.isF0 || !p.tenanted) then .badParam
    else if !d.ownsIndex p who (itemIx w) then .notPermitted
    else .ok

/-- Number of flow entries of a tenant (R301). -/
def Dev.flowCount (d : Dev) (ten : Nat) : Nat := (d.rte.ents.filter (fun e => e.table == 0 && e.tenant == ten)).length
/-- Number of key slots a tenant uses (R342). -/
def Dev.keyCount (d : Dev) (ten : Nat) : Nat := (d.wcx.slots.filter (fun e => e.2.used && e.2.tenant == ten)).length

/-- FN_STATE code of a function state (R52). -/
def FnState.code : FnState → Nat
  | .off => 0 | .ready => 1 | .shutdown => 2 | .enablePending => 3

/-- The value PROP_GET answers (R70, R72): readings are computed, every other property gives the value most recently written. -/
def Dev.propRead (d : Dev) (p : PropDef) (ten ix : Nat) : Word :=
  if p.id = 0x0010 then BitVec.ofNat 64 (d.ringsOf ten).length
  else if p.id = 0x0011 then BitVec.ofNat 64 (d.fn ix).st.code
  else if p.id = 0x0012 then
    match (d.ringsOf ten).find? (fun g => (d.ring g).loc == ix) with
    | some g => BitVec.ofNat 64 g
    | none => 0xFF
  else if p.id = 0x6110 then BitVec.ofNat 64 (d.flowCount ten)
  else if p.id = 0x7011 then BitVec.ofNat 64 (d.keyCount ten)
  else if p.id = 0xA010 then BitVec.ofNat 64 ((d.mgr.nextSeq + 2 ^ 32 - 1) % 2 ^ 32)
  else if p.id = 0xA011 then BitVec.ofNat 64 d.mgr.lineWrites
  else if p.id = 0x1040 && !energyIndex ix then 0
  else d.written (propKey p.id ten ix)

/-- The header status of a property response: that of the first failing item (R72). -/
def firstFailing : List Status → Status
  | [] => .ok
  | s :: rest => if s = .ok then firstFailing rest else s

/-- Item words of a request. -/
def propItems (req : List Word) (stride : Nat) : List Word :=
  (List.range ((reqLen req - 1) / stride)).map (fun k => wd req (1 + stride * k))

/-- Answer of one PROP_GET item: status and value. The value word of a failing item is 0 (DESIGN CHOICE, log 102: the spec does not say what it holds). -/
def Dev.getItem (d : Dev) (who : Master) (w : Word) : Status × Word :=
  match d.itemCheck who w none, propDef (itemId w) with
  | .ok, some p => (.ok, d.propRead p (itemTenant p who w) (itemIx w))
  | st, _ => (st, 0)

/-- PROP_GET (R71, R72). -/
def goPropGet (t : Nat) (who : Master) (req : List Word) (d : Dev) : Dev :=
  d.mbxNow t { op := 0x020, f0Only := false, lenOk := fun l => decide (2 ≤ l) && decide (l ≤ 256), reserved := fun _ => false } who req (fun d =>
    let rs := (propItems req 1).map (d.getItem who)
    (firstFailing (rs.map (·.1)), rs.flatMap (fun r => [BitVec.ofNat 64 r.1.code, r.2]), d))

def execPropGet (f : Nat) (req : List Word) (s : State) : Host.Outcome State Fault Refusal :=
  .next (s.act fun t d => goPropGet t (.fn f) req d)

/-- The pairs of a PROP_SET: item word and value. -/
def setPairs (req : List Word) : List (Word × Word) :=
  (List.range ((reqLen req - 1) / 2)).map (fun k => (wd req (1 + 2 * k), wd req (2 + 2 * k)))

/-- The instance that an item names, for a write that has passed its checks. -/
def pairKey (who : Master) (w : Word) : Nat :=
  match propDef (itemId w) with
  | some p => itemKey p who w
  | none => 0

/-- The value an instance would have after the set: the last pair that writes it, or its most recently written value (R69, rule 5). -/
def Dev.left (d : Dev) (who : Master) (ps : List (Word × Word)) (key : Nat) : Word :=
  ps.foldl (fun v p => if pairKey who p.1 = key then p.2 else v) (d.written key)

/-- The constraint between two properties that an item takes part in (R69, rule 5; R150, R258): identifiers of the member not above and of the member not below. -/
def pairOf (id : Nat) : Option (Nat × Nat) :=
  if id = 0x2011 || id = 0x2012 then some (0x2011, 0x2012)
  else if id = 0x2019 || id = 0x201A then some (0x2019, 0x201A)
  else if id = 0x5030 || id = 0x5031 then some (0x5030, 0x5031)
  else none

/-- The set would leave an item's pair out of order. -/
def Dev.pairBroken (d : Dev) (who : Master) (ps : List (Word × Word)) (w : Word) : Bool :=
  match pairOf (itemId w) with
  | none => false
  | some (lo, hi) =>
    decide ((d.left who ps (propKey hi 0 (itemIx w))).toInt < (d.left who ps (propKey lo 0 (itemIx w))).toInt)

/-- The status of one PROP_SET item (R69, R70, R72). -/
def Dev.setItem (d : Dev) (who : Master) (ps : List (Word × Word)) (p : Word × Word) : Status :=
  let st := d.itemCheck who p.1 (some p.2)
  if st ≠ .ok then st
  else if d.pairBroken who ps p.1 then .badParam
  else if d.claimed .prop (pairKey who p.1) then .busy
  else .ok

/-- Write one instance: the value waits for the point of its EFFECT (R68, R70), and a PERSIST value for the next flush (R413). -/
def Dev.writeProp (d : Dev) (p : PropDef) (key : Nat) (v : Word) : Dev :=
  let d1 : Dev := { d with
    props := tput propReset d.props key v
    propStaged := d.propStaged.filter (fun e => e.1 != key) ++ [(key, p.effect)] }
  let d2 := if p.persist && !d.mgr.dirty.contains key then { d1 with mgr := { d1.mgr with dirty := d1.mgr.dirty ++ [key] } } else d1
  d2.claim .prop key

/-- Write one item of a set that passed. -/
def Dev.applyPair (who : Master) (d : Dev) (p : Word × Word) : Dev :=
  match propDef (itemId p.1) with
  | some pd => d.writeProp pd (itemKey pd who p.1) p.2
  | none => d

/-- The written values of one EFFECT come into force (R68, R70). -/
def Dev.commitProps (d : Dev) (eff : Nat) : Dev :=
  { d with
    force := (d.propStaged.filter (fun e => e.2 == eff)).foldl (fun f e => tput propReset f e.1 (d.written e.1)) d.force
    propStaged := d.propStaged.filter (fun e => e.2 != eff) }

/-- PROP_SET (R71, R72): all or none. -/
def goPropSet (t : Nat) (who : Master) (req : List Word) (d : Dev) : Dev :=
  d.mbxNow t { op := 0x021, f0Only := false, lenOk := fun l => decide (3 ≤ l) && decide (l ≤ 511) && l % 2 == 1, reserved := fun _ => false } who req (fun d =>
    let ps := setPairs req
    let sts := ps.map (d.setItem who ps)
    let st := firstFailing sts
    (st, sts.map (fun s => BitVec.ofNat 64 s.code), if st = .ok then ps.foldl (Dev.applyPair who) d else d))

def execPropSet (f : Nat) (req : List Word) (s : State) : Host.Outcome State Fault Refusal :=
  .next (s.act fun t d => goPropSet t (.fn f) req d)

/-- PROP_DESCRIBE (R68, R69). Of a property whose default differs by index it reports that of index 0 (DESIGN CHOICE, log 132: the request names no index). -/
def goPropDescribe (t : Nat) (who : Master) (req : List Word) (d : Dev) : Dev :=
  d.mbxNow t (fixedSpec 0x022 false 2 [(1, [(63, 36)])]) who req (fun d =>
    let w := wd req 1
    match propDef (itemId w) with
    | none => (.badParam, [], d)
    | some p =>
      judged d [(itemIx w != 0 || itemTen w != 0, .badParam), (!who.isF0 && p.access == 3, .notPermitted)] (fun d =>
        (.ok, [packW [(p.bits, 7, 0), (b2n p.signed, 1, 7), (p.kind, 4, 8), (p.effect, 4, 12), (p.access, 2, 16),
            (b2n p.tenanted, 1, 20), (b2n p.persist, 1, 21), (p.limit, 16, 32)],
          propWord (propDefault p 0), propWord p.lo, propWord p.hi], d)))

def execPropDescribe (f : Nat) (req : List Word) (s : State) : Host.Outcome State Fault Refusal :=
  .next (s.act fun t d => goPropDescribe t (.fn f) req d)

/-! Shutdown and enable of functions (R53, R54, R392, R393). -/

/-- A request of function `f` that is discarded has nobody left to answer. -/
def orphan (f : Nat) (p : Pend) : Pend := if p.caller = .fn f then { p with caller := .device } else p

/-- Discard the unfinished requests of function `f` (R53): effects that have taken hold remain; what waits behind another command is dropped. -/
def Dev.forgetRequests (d : Dev) (f : Nat) : Dev :=
  let mine (p : Pend) : Bool := decide (p.caller = .fn f)
  let power (r : PowerReq) : PowerReq := { r with pend := r.pend.map (orphan f) }
  let radio (r : Radio) : Radio := { r with startReq := r.startReq.map (orphan f), stopReqs := r.stopReqs.map (orphan f) }
  let wait : Option PowerReq := match d.gaf.waiting with
    | some r => (match r.pend with | some p => if mine p then none else some r | none => some r)
    | none => none
  { d.modFn f (fun s => { s with tags := [], waiting := [], reqBusy := false }) with
    wcx := { d.wcx with staged := d.wcx.staged.map (fun x => { x with pend := x.pend.map (orphan f) }) }
    mgr := { d.mgr with
      heldCmds := d.mgr.heldCmds.filter (fun j => !mine j.pend)
      nor := d.mgr.nor.map (fun j => { j with pend := orphan f j.pend }) }
    gaf := { d.gaf with req := d.gaf.req.map power, waiting := wait }
    fe := { d.fe with radio := tmap (fun _ => {}) (fun _ x => radio x) d.fe.radio } }

/-- The seal lock is released without its owner's request (R336): a run is abandoned, and its SEAL_RUN answers TIMEOUT (R343). -/
def Dev.sealForced (d : Dev) (t : Nat) : Dev :=
  let d1 := (({ d with sealEng := {} } : Dev).inc t 12 1).bump 38 5
  match d.sealEng.job with
  | some j => d1.respond t j.pend .timeout []
  | none => d1

/-- Steps 1 to 3 of a shutdown (R392). -/
def Dev.beginShut (d : Dev) (t f : Nat) (k : ShutKind) : Dev :=
  let lost := (d.fn f).reqBusy
  let d1 := d.forgetRequests f
  let d2 := d1.modFn f (fun s => { s with st := .shutdown, shut := k, shutStart := d.glb.up })
  let d3 := if lost then (d2.incMbx t f 0).bump (2 + f) 3 else d2
  let d4 := if d3.sealEng.held && d3.sealEng.owner == f then d3.sealForced t else d3
  (d4.ringsOf f).foldl (Dev.drainRing t) d4

/-- The shutdown of a function that an event asks for (R392, R393). Its own configuration space, MSI-X table and pending bits go back to their reset values, whatever the event (R54; the values PRESUMED, log 40). -/
def Dev.shutFn (d0 : Dev) (t f : Nat) (k : ShutKind) : Dev :=
  let s := d0.fn f
  let d := d0.modPcie f (fun _ => {})
  match s.st with
  | .off => d
  | .ready => d.beginShut t f k
  | .shutdown => if k = .disable then d.modFn f (fun s => { s with shut := .disable }) else d
  | .enablePending =>
    if k = .reset then d
    else if s.enableAfter then d.modFn f (fun s => { s with st := .shutdown, shut := .disable, enableAfter := false })
    else d.modFn f (fun s => { s with st := .off, enableStart := 0 })

/-- NumVFs, 0 while VF Enable is clear (R47, R52). -/
def Dev.setNumVfs (d : Dev) (n : Nat) : Dev :=
  { d with glb := { d.glb with pcie := { d.glb.pcie with numVfs := n, vfOn := decide (n ≠ 0), numWritten := if n = 0 then d.glb.pcie.numWritten else n } } }

/-- A Function Level Reset of `f` (R53, R54): one of F0 puts its SR-IOV capability back to reset and so clears VF Enable, which disables every virtual function first. -/
def Dev.flr (d : Dev) (t f : Nat) : Dev :=
  let d1 := if f = 0 then
      ((List.range 15).map (· + 1)).foldl (fun e v => e.shutFn t v .disable) { d with glb := { d.glb with pcie := { fn := d.glb.pcie.fn } } }
    else d
  d1.shutFn t f .reset

/-- In sleep a host's function event is a wake, and its own effect comes at the first boundary in Show (R387, R389). -/
def Dev.hostEvent (d : Dev) (f : Nat) (c : Instr) (act : Dev → Dev) : Dev :=
  if d.gaf.state = .show' && decide (d.gaf.phase ≠ .committed) && decide (d.gaf.phase ≠ .leaving) then act (d.wake 5 f)
  else let d1 := d.wake 5 f; { d1 with arrivals := d1.arrivals ++ [c] }

/-- FUNCTION_LEVEL_RESET (R53, R392). -/
def goFunctionLevelReset (t f : Nat) (d : Dev) : Dev := d.hostEvent f (.functionLevelReset f) (fun e => e.flr t f)

def execFunctionLevelReset (f : Nat) (s : State) : Host.Outcome State Fault Refusal :=
  .next (s.act fun t d => goFunctionLevelReset t f d)

/-- VF_DISABLE (R54): the functions above the new number of virtual functions shut down and end OFF. -/
def goVfDisable (t numVfs : Nat) (d : Dev) : Dev :=
  d.hostEvent 0 (.vfDisable numVfs) (fun e =>
    (((List.range 15).map (· + 1)).filter (fun f => decide (numVfs < f))).foldl (fun e f => e.shutFn t f .disable) (e.setNumVfs numVfs))

def execVfDisable (numVfs : Nat) (s : State) : Host.Outcome State Fault Refusal :=
  .next (s.act fun t d => goVfDisable t numVfs d)

/-- The enable of one function (R392, R393): a function that is OFF begins its enable; one whose shutdown for a disable still runs will be enabled after it. -/
def Dev.enableFn (d : Dev) (f : Nat) : Dev :=
  match (d.fn f).st with
  | .off => d.modFn f (fun _ => { st := .enablePending, enableStart := d.glb.up })
  | .shutdown =>
    if (d.fn f).shut = .disable then d.modFn f (fun s => { s with st := .enablePending, enableAfter := true, enableStart := d.glb.up }) else d
  | _ => d

/-- VF_ENABLE (R392, R393). -/
def goVfEnable (numVfs : Nat) (d : Dev) : Dev :=
  d.hostEvent 0 (.vfEnable numVfs) (fun e =>
    (((List.range 15).map (· + 1)).filter (fun f => decide (f ≤ numVfs))).foldl Dev.enableFn (e.setNumVfs numVfs))

def execVfEnable (numVfs : Nat) (s : State) : Host.Outcome State Fault Refusal :=
  .next (s.act fun _ d => goVfEnable numVfs d)

/-- No ring of function `f` still drains. -/
def Dev.drained (d : Dev) (f : Nat) : Bool := (d.ringsOf f).all (fun g => decide ((d.ring g).st ≠ .draining))

/-- A function's rings return to F0, stopped, with their registers at reset (R54, R310). -/
def Dev.returnRings (d : Dev) (f : Nat) : Dev := (d.ringsOf f).foldl (fun e g => dropStamps (e.modRing g (fun _ => ringReset g)) g) d

/-- SHUTDOWN_END (R392, R393): with the rings drained, the mailbox is cleared; the function is READY after a reset, OFF after a disable, or goes on to the enable that waits. -/
def goShutdownEnd (f : Nat) (d : Dev) : Dev :=
  let s := d.fn f
  if s.shut = .none || !d.drained f then d
  else
    let d1 := if s.shut = .disable then d.returnRings f else d
    d1.modFn f (fun _ =>
      if s.shut = .reset then { st := .ready }
      else if s.enableAfter then { st := .enablePending, enableStart := d.glb.up }
      else { st := .off })

def execShutdownEnd (f : Nat) (s : State) : Host.Outcome State Fault Refusal := .next (s.act fun _ d => goShutdownEnd f d)

/-- ENABLE_COMPLETE (R392, R393): the enable of a function whose shutdown is over gives READY with a clear mailbox slot. -/
def goEnableComplete (f : Nat) (d : Dev) : Dev :=
  if (d.fn f).st = .enablePending && decide ((d.fn f).shut = .none) then d.modFn f (fun _ => { st := .ready }) else d

def execEnableComplete (f : Nat) (s : State) : Host.Outcome State Fault Refusal := .next (s.act fun _ d => goEnableComplete f d)

/-- SHUTDOWN_COMPLETION_DISCARD (R392): in a shutdown, a completion that has found no array space for 1,000 beats is discarded. -/
def goShutdownCompletionDiscard (g : Nat) (d : Dev) : Dev :=
  if (d.fn (d.ring g).owner).shut = .none then d
  else
    let r := d.ring g
    let gone := r.done.filter (fun c => decide (c.since + 1000000 ≤ d.glb.up))
    let d1 := gone.foldl (fun e c => releaseStamps e g c.descId) d
    (d1.modRing g (fun r => { r with done := r.done.filter (fun c => !decide (c.since + 1000000 ≤ d.glb.up)) })).drainEnd g

def execShutdownCompletionDiscard (g : Nat) (s : State) : Host.Outcome State Fault Refusal :=
  .next (s.act fun _ d => goShutdownCompletionDiscard g d)

/-- MBX_STATE (R56). -/
def Dev.mbxState (d : Dev) (f : Nat) : Reg :=
  let s := d.fn f
  packR [(b2n s.reqBusy, 1, 0), (b2n s.respValid, 1, 1), (b2n (decide (s.tags.length = 32)), 1, 2), (b2n d.backPressed, 1, 3),
    (s.tags.length, 6, 8), (s.st.code, 4, 16), (b2n s.versionSeen, 1, 20)]

/-- HANDOFF (R39): a data-plane event is recorded with its true stamp at the boundary that samples it; one sampled after the second boundary is late. -/
def goHandoff (t : Nat) (h : Handoff) (d : Dev) : Dev :=
  let d1 : Dev := { d with glb := { d.glb with handoffs := insertBy Handoff.stamp h d.glb.handoffs, handoffWait := d.glb.handoffWait.filter (fun x => decide (x ≠ h)) } }
  if beatNo h.stamp + 2 < beatNo t then (d1.inc t 0 3).bump 1 3 else d1

def execHandoff (h : Handoff) (s : State) : Host.Outcome State Fault Refusal := .next (s.act fun t d => goHandoff t h d)

end Sys2Proof.Machine
end

