-- ==== Sys2Proof/Machine/Traffic.lean ====
section
/-! DEFINITION. The traffic manager (R302 to R323): fetching and completions, ring control, the queues toward the ports, policers and samples. -/
namespace Sys2Proof.Machine

/-! Ethernet ports as the queues reach them. -/

/-- A port nothing has changed. -/
def portReset : Nat → Port := fun _ => {}
/-- Port `p`. -/
def Dev.port (d : Dev) (p : Nat) : Port := tlook portReset d.emac.port p
/-- Change port `p`. -/
def Dev.modPort (d : Dev) (p : Nat) (f : Port → Port) : Dev := { d with emac := { d.emac with port := tmod portReset d.emac.port p f } }
/-- Address of a register of port `p`. -/
def emacAddr (p off : Nat) : Nat := 0x800000 + 0x1000 * (p + 1) + off
/-- EMAC_MAX_FRAME_p.MAX. -/
def Dev.maxFrame (d : Dev) (p : Nat) : Nat := rfld (d.reg (emacAddr p 8)) 13 0
/-- Egress queue `c` of a port. -/
def Port.queue (x : Port) (c : Nat) : List Pkt := tlook (fun _ => []) x.queues c

/-! Queues toward the ports (R312). -/

/-- Number of the queue of port `p`, tenant `t`, class `c`. -/
def tmQueueNo (p t c : Nat) : Nat := p * 128 + t * 8 + c
/-- The frames of a queue. -/
def Dev.tmq (d : Dev) (q : Nat) : List Pkt := tlook (fun _ => []) d.tm.queues q

/-- Octets that the shaper counts for a frame: its wire length, FCS and padding included, plus 20. -/
def shapedLen (p : Pkt) : Nat := Nat.max 64 (p.octets.length + 4) + 20

/-- The shaper of a tenant at a port lets the frame go: unshaped, or the 64 KiB burst lacks no more than leaves its bits. -/
def Dev.shaperOk (d : Dev) (p t : Nat) (x : Pkt) : Bool :=
  d.pv 0x6201 t p == 0 || decide (tlook (fun _ => 0) d.tm.lack (p * 16 + t) + 8 * shapedLen x ≤ 524288)

/-- Take the shaper's tokens. -/
def Dev.shaperTake (d : Dev) (p t : Nat) (x : Pkt) : Dev :=
  if d.pv 0x6201 t p = 0 then d
  else { d with tm := { d.tm with lack := tmod (fun _ => 0) d.tm.lack (p * 16 + t) (· + 8 * shapedLen x) } }

/-- Move the head frame of a queue to the EMAC. -/
def Dev.moveFrame (d : Dev) (p t c deficit : Nat) (x : Pkt) (rest : List Pkt) : Dev :=
  let q := tmQueueNo p t c
  let d1 : Dev := { d with tm := { d.tm with
    queues := tput (fun _ => []) d.tm.queues q rest
    deficit := tput (fun _ => 0) d.tm.deficit q (if rest.isEmpty then 0 else deficit - x.octets.length)
    turn := tput (fun _ => 0) d.tm.turn (p * 8 + c) (2 * t + 1) } }
  let d2 := (d1.shaperTake p t x).noteDelay q x.enq
  ((d2.modPort p (fun y => { y with queues := tmod (fun _ => []) y.queues c (fun l => l ++ [{ x with enq := d.glb.up }]) })).bump 36 p).bump 36 (4 + p) x.octets.length |>.hbmOctets 0 x.octets.length

/-- One step of the deficit round robin of a port's class (R312): serve the present tenant's head frame, or pass to the next tenant. -/
def Dev.drrStep (d : Dev) (p c : Nat) : Dev :=
  let turn := tlook (fun _ => 0) d.tm.turn (p * 8 + c)
  let t := turn / 2
  let q := tmQueueNo p t c
  let next (d : Dev) (deficit : Nat) : Dev := { d with tm := { d.tm with
    deficit := tput (fun _ => 0) d.tm.deficit q deficit
    turn := tput (fun _ => 0) d.tm.turn (p * 8 + c) (2 * ((t + 1) % 16)) } }
  match d.tmq q with
  | [] => next d 0
  | x :: rest =>
    let have' := tlook (fun _ => 0) d.tm.deficit q
    if !d.shaperOk p t x then next d have'
    else
      let def' := if turn % 2 = 1 then have' else have' + d.pv 0x6200 t p * 1024
      if x.octets.length ≤ def' then d.moveFrame p t c def' x rest else next d def'

/-- A class may be served: the EMAC queue holds fewer than two frames, and some tenant's head frame passes its shaper. -/
def Dev.drrReady (d : Dev) (p c : Nat) : Bool :=
  decide (((d.port p).queue c).length < 2) &&
  (List.range 16).any (fun t => match d.tmq (tmQueueNo p t c) with | [] => false | x :: _ => d.shaperOk p t x)

/-- Serve a class while it may be served; `n` bounds the rounds. -/
def Dev.pumpClass (p c : Nat) : Nat → Dev → Dev
  | 0, d => d
  | n + 1, d => if d.drrReady p c then Dev.pumpClass p c n (d.drrStep p c) else d

/-- Move frames into the egress queue of a class (R312): a round gives a tenant at least 1,024 octets, so 400 steps serve any frame. -/
def Dev.pump (d : Dev) (p c : Nat) : Dev := Dev.pumpClass p c 400 d

/-- Serve every class of a port. -/
def Dev.pumpPort (d : Dev) (p : Nat) : Dev := (List.range 8).foldl (fun e c => e.pump p c) d

/-- A frame is dropped at the tail of a queue (R315). -/
def Dev.tailDrop (d : Dev) (t ten : Nat) (desc : Option (Nat × Nat)) : Dev :=
  (((d.bump 36 14).step 0x6211 ten).dropped t ten).finish desc { status := 8 }

/-- A frame for a port joins its queue, or is dropped at the tail (R312, R315). -/
def Dev.toPort (d : Dev) (t p : Nat) (x : Pkt) : Dev :=
  let q := tmQueueNo p x.tenant x.tc
  if d.pv 0x6202 x.tenant (p * 8 + x.tc) * 1024 < queueOctets (d.tmq q) + x.octets.length then
    d.tailDrop t x.tenant x.desc
  else
    let d1 : Dev := { d with tm := { d.tm with queues := tmod (fun _ => []) d.tm.queues q (fun l => l ++ [{ x with enq := d.glb.up }]) } }
    (if x.desc.isNone then d1.hbmOctets 0 x.octets.length else d1).pump p x.tc

/-! The packet buffer (R315). -/

/-- Cells of 256 octets a frame takes. -/
def cellsOf (n : Nat) : Nat := (n + 255) / 256
/-- Cells of a list of frames. -/
def pktCells (l : List Pkt) : Nat := sumN (l.map (fun p => cellsOf p.octets.length))
/-- Cells of a list of MSDUs. -/
def msduCells (l : List Msdu) : Nat := sumN (l.map (fun m => cellsOf m.len))

/-- TM_BUF_USE.CELLS: frames fetched and not yet routed or reinjected (R308), those kept for the slow path (R295), and those in the traffic manager's queues, in the MAC's holding and waiting for a ring buffer. -/
def Dev.bufUse (d : Dev) : Nat :=
  pktCells d.rte.ring + pktCells d.rte.crew + sumN (d.rte.items.map (fun e => if e.2.used then cellsOf e.2.pkt.octets.length else 0)) +
  sumN (d.tm.queues.map (fun e => pktCells e.2)) + sumN (d.tm.ring.map (fun e => pktCells e.2.queue)) +
  sumN (d.mac.sta.map (fun e => msduCells e.2.queue)) + sumN (d.mac.bss.map (fun e => msduCells e.2.groupHeld + msduCells e.2.groupQueue))

/-- The packet-buffer region is full. -/
def Dev.bufFull (d : Dev) : Bool := decide (33554432 ≤ d.bufUse)

/-- Once the packet-buffer region is full, TM_INCIDENT.BUF_FULL is set, and the beat counts as one in which it was (R315). -/
def Dev.noteFull (d : Dev) (t : Nat) : Dev := if d.bufFull then ({ d with tm := { d.tm with full := true } } : Dev).inc t 10 0 else d

/-! Policers (R316 to R319). -/

/-- A policer nothing has written is off. -/
def policerReset : Nat → Policer := fun _ => {}
/-- Policer `i` = tenant x 256 + POLICER. -/
def Dev.policer (d : Dev) (i : Nat) : Policer := tlook policerReset d.tm.police i

/-- MODE. -/
def Policer.mode (x : Policer) : Nat := fld x.w2 63 62
/-- Size of the committed bucket, in 1/8,000 octets. -/
def Policer.cbs (x : Policer) : Nat := fld x.w4 23 0 * 8000
/-- Size of the excess or peak bucket, in 1/8,000 octets. -/
def Policer.ebs (x : Policer) : Nat := fld x.w4 55 32 * 8000
/-- OVERHEAD. -/
def Policer.overhead (x : Policer) : Int := sgn 8 (fld x.w2 39 32)

/-- Metered length in 1/8,000 octets (R317). -/
def Policer.metered (x : Policer) (len : Nat) : Nat := 8000 * (Int.toNat (max 1 ((len : Int) + x.overhead)))

/-- Colours. -/
inductive Colour
  | green | yellow | red
  deriving DecidableEq, Repr

/-- Pre-colour of a frame (R316). -/
def Policer.preColour (x : Policer) (p : Pkt) : Colour :=
  if !nbit x.w2.toNat 61 then .green
  else if !nbit x.w2.toNat 60 then (if p.srcKind = 0 && p.dei then .yellow else .green)
  else match dscpOf p.octets / 2 % 4 with
    | 2 => .yellow
    | 3 => .red
    | _ => .green

/-- Meter a frame (R316): its colour and the buckets after it. -/
def Policer.meter (x : Policer) (pre : Colour) (b : Nat) : Colour × Nat × Nat :=
  match x.mode with
  | 1 =>
    if pre = .green && decide (b ≤ x.tc) then (.green, x.tc - b, x.te)
    else if pre ≠ .red && decide (b ≤ x.te) then (.yellow, x.tc, x.te - b)
    else (.red, x.tc, x.te)
  | 2 =>
    if pre = .red || decide (x.te < b) then (.red, x.tc, x.te)
    else if pre = .yellow || decide (x.tc < b) then (.yellow, x.tc, x.te - b)
    else (.green, x.tc - b, x.te - b)
  | _ => (.green, x.tc, x.te)

/-- Police a frame of `len` octets in the form in which it leaves (R316 to R318): the frame with its DSCP as its colour's action leaves it, none when it is dropped, which is handed off (R39). -/
def Dev.police (d : Dev) (t i len : Nat) (p : Pkt) : Dev × Option Pkt :=
  let x := d.policer i
  let m := x.meter (x.preColour p) (x.metered len)
  let y : Policer := { x with tc := m.2.1, te := m.2.2 }
  let put (y : Policer) : Dev := { d with tm := { d.tm with police := tput policerReset d.tm.police i y } }
  let act (a dscp : Nat) (e : Dev) : Dev × Option Pkt :=
    if a = 0 then (e, some p)
    else if a = 1 then (e, some { p with octets := setDscp p.octets dscp })
    else (((e.step 0x6210 p.tenant).dropped t p.tenant).finish p.desc { status := 9 }, none)
  match m.1 with
  | .green => ((put { y with green := y.green + 1 }).bump 36 11, some p)
  | .yellow => act (fld x.w2 59 58) (fld x.w2 55 50) ((put { y with yellow := y.yellow + 1 }).bump 36 12)
  | .red => act (fld x.w2 57 56) (fld x.w2 49 44) ((put { y with red := y.red + 1 }).bump 36 13)

/-- A written setting comes into force (R319): tokens stay, clipped to the new sizes; a change of MODE fills both buckets. -/
def applyPolicer (x : Policer) (w2 w3 w4 : Word) : Policer :=
  let y := { x with w2 := w2, w3 := w3, w4 := w4 }
  if x.mode = y.mode then { y with tc := Nat.min x.tc y.cbs, te := Nat.min x.te y.ebs } else { y with tc := y.cbs, te := y.ebs }

/-- The tokens of one beat (R319): CIR x 1 µs, which srTCM gives to the excess bucket once the committed one is full, and PIR x 1 µs. -/
def refillPolicer (x : Policer) : Policer :=
  let cir := fld x.w2 31 0
  let pir := fld x.w3 63 32
  match x.mode with
  | 1 =>
    let c := Nat.min x.cbs (x.tc + cir)
    { x with tc := c, te := Nat.min x.ebs (x.te + (x.tc + cir - c)) }
  | 2 => { x with tc := Nat.min x.cbs (x.tc + cir), te := Nat.min x.ebs (x.te + pir) }
  | _ => x

/-- One beat of a shaper: Mb/s are bits per µs (R312). -/
def Dev.refillShaper (d : Dev) (k : Nat) : Dev :=
  let rate := d.pv 0x6201 (k % 16) (k / 16)
  { d with tm := { d.tm with lack := tmod (fun _ => 0) d.tm.lack k (fun l => if rate = 0 then 0 else l - rate) } }

/-- REFILL (R312, R319, R68): written policers and refill properties come into force, then every bucket gains its tokens, and frames held for want of tokens move on. -/
def goRefill (d : Dev) : Dev :=
  let d1 := d.commitProps 3
  let set := d1.tm.policeStaged.foldl (fun t e => tmod policerReset t e.1 (fun x => applyPolicer x e.2.1 e.2.2.1 e.2.2.2)) d1.tm.police
  let d2 : Dev := { d1 with tm := { d1.tm with policeStaged := [], police := tmap policerReset (fun _ x => refillPolicer x) set } }
  let d3 := (d2.tm.lack.map (·.1)).foldl (fun e k => e.refillShaper k) d2
  (List.range 4).foldl (fun e p => e.pumpPort p) d3

def execRefill (s : State) : Host.Outcome State Fault Refusal := .next (s.act fun _ d => goRefill d)

/-! Fetching (R304, R308). -/

/-- A master may reach the registers of ring `g` (R73, R321). -/
def Dev.reachesRing (d : Dev) (m : Master) (g : Nat) : Bool := (d.ring g).owner == m.tenant

/-- The ring holds a descriptor that the device may fetch (R307, R308, R309, R383). -/
def Dev.fetchable (d : Dev) (g : Nat) : Bool :=
  let r := d.ring g
  decide (r.st = .running) && decide (r.cons ≠ r.prod) && decide (r.inFlight < r.size - 1) && !d.backPressed &&
  !d.gaf.quiesced.testBit 3 && d.running

/-- A TX or WTX ring has not had its WEIGHT descriptors of the present round (R308). -/
def Dev.hasWeight (d : Dev) (g : Nat) : Bool := decide (tlook (fun _ => 0) d.tm.served g < Nat.max 1 (rfld (d.ring g).ctrl 7 0))

/-- The round is over: every TX or WTX ring that holds descriptors has had its WEIGHT of them. -/
def Dev.roundOver (d : Dev) : Bool := (List.range 128).all (fun h => (d.ring h).kind % 2 == 1 || !d.fetchable h || !d.hasWeight h)

/-- The ring may fetch its next descriptor: an RX or WRX ring at any time, a TX or WTX ring in its turn of the round robin (R308) and while the packet-buffer region has room for its frame (R315). -/
def Dev.mayFetch (d : Dev) (g : Nat) : Bool := d.fetchable g && ((d.ring g).kind % 2 == 1 || !d.bufFull && (d.hasWeight g || d.roundOver))

/-- Count a fetched descriptor toward its ring's WEIGHT; where the ring has had its WEIGHT, a new round begins. -/
def Dev.countFetch (d : Dev) (g : Nat) : Dev :=
  if (d.ring g).kind % 2 = 1 then d
  else { d with tm := { d.tm with served := if d.hasWeight g then tmod (fun _ => 0) d.tm.served g (· + 1) else tput (fun _ => 0) [] g 1 } }

/-- A descriptor's fields (R304). -/
def descOf (id : Nat) (w0 w1 : Word) : Desc :=
  { id := id, buf := w0.toNat, cookie := fld w1 63 48, len := fld w1 13 0, tsReq := nbit w1.toNat 39, bss := fld w1 37 32 }

/-- A malformed descriptor (R304). -/
def badDesc (kind : Nat) (w1 : Word) : Bool :=
  fld w1 47 40 != 0 || fld w1 38 38 != 0 || fld w1 31 14 != 0 || fld w1 13 0 == 0 ||
  (kind % 2 == 1 && decide (fld w1 13 0 < 64)) || (kind != 0 && nbit w1.toNat 39) ||
  decide (47 < fld w1 37 32) || (kind != 2 && fld w1 37 32 != 0)

/-- The radio of a BSS (R119). -/
def radioOf (b : Nat) : Nat := b / 16

/-- A radio nothing has touched. -/
def radioReset : Nat → Radio := fun _ => {}
/-- Radio `r`. -/
def Dev.radio (d : Dev) (r : Nat) : Radio := tlook radioReset d.fe.radio r
/-- Change radio `r`. -/
def Dev.modRadio (d : Dev) (r : Nat) (f : Radio → Radio) : Dev := { d with fe := { d.fe with radio := tmod radioReset d.fe.radio r f } }
/-- Change BSS `b`. -/
def Dev.modBss (d : Dev) (b : Nat) (f : Bss → Bss) : Dev := { d with mac := { d.mac with bss := tmod bssReset d.mac.bss b f } }
/-- Change the station record of a SID. -/
def Dev.modSta (d : Dev) (sid : Nat) (f : Sta → Sta) : Dev := { d with mac := { d.mac with sta := tmod staReset d.mac.sta sid f } }

/-- An instant lies in a service period (R146). -/
def Twt.inside (w : Twt) (t : Nat) : Bool :=
  let start := w.startTick * 1024000 + w.startBeat * 1000
  decide (start ≤ t) && decide ((t - start) % (w.intervalTicks * 1024000) < w.duration * 1000)

/-- The number of the service period that an instant lies in. -/
def Twt.period (w : Twt) (t : Nat) : Nat := (t - (w.startTick * 1024000 + w.startBeat * 1000)) / (w.intervalTicks * 1024000)

/-- The TWT agreements of a station, individual and broadcast (R146). -/
def Sta.schedules (s : Sta) : List Twt := s.twt ++ s.bcast

/-- A station is in a TWT agreement and outside its service periods. -/
def Sta.outside (s : Sta) (t : Nat) : Bool := !s.schedules.isEmpty && !s.schedules.any (fun w => w.inside t)

/-- A station dozes, or is treated as dozing outside its service periods (R144, R146). -/
def Dev.dozing (d : Dev) (t sid : Nat) : Bool := (d.sta sid).doze || (d.sta sid).outside t

/-- The link address of a station on a radio. -/
def Sta.link (s : Sta) (r : Nat) : Nat := match r with | 0 => s.linkA | 1 => s.linkB | _ => s.linkC

/-- The AID space of a BSS (R128): its own, or its AP MLD's. -/
def Dev.aidSpace (d : Dev) (b : Nat) : Nat := if (d.bssAt b).mld = 31 then b else 48 + (d.bssAt b).mld

/-- A station belongs to a BSS: it associated through it, or has a link in it (R126). -/
def Dev.inBss (d : Dev) (b : Nat) (s : Sta) : Bool :=
  s.used && (s.bss == b || (d.aidSpace s.bss == d.aidSpace b && s.link (radioOf b) != 0))

/-- Some station of a BSS dozes. -/
def Dev.someDoze (d : Dev) (t b : Nat) : Bool := d.mac.sta.any (fun e => d.inBss b e.2 && d.dozing t e.1)

/-- MSDUs that the MAC holds for a tenant (R313). -/
def Dev.macHeld (d : Dev) (ten : Nat) : List Msdu :=
  (d.mac.sta.flatMap (fun e => if e.2.used && (d.bssAt e.2.bss).tenant == ten then e.2.queue else [])) ++
  (d.mac.bss.flatMap (fun e => if e.2.tenant == ten then e.2.groupHeld ++ e.2.groupQueue else []))

/-- Octets of a list of MSDUs. -/
def msduOctets (l : List Msdu) : Nat := sumN (l.map (·.len))

/-- Octets that the MAC holds for a tenant. -/
def Dev.wifiHeld (d : Dev) (ten : Nat) : Nat := msduOctets (d.macHeld ten)

/-- A frame of `n` octets would take what the MAC holds for a tenant beyond its limit (R313, R315). -/
def Dev.wifiFull (d : Dev) (ten n : Nat) : Bool := decide (d.pv 0x6203 ten * 1048576 < d.wifiHeld ten + n)

/-- The MAC takes a WTX frame (R145, R304, R313): within its tenant's limit it joins the frames that the BSS sends in contention, as voice; a group-addressed one waits for the DTIM while some station dozes. -/
def Dev.takeWtx (d : Dev) (t g : Nat) (x : Desc) (data : List Byte) : Dev :=
  let b := d.bssAt x.bss
  let owner := (d.ring g).owner
  if owner ≠ 0 && b.running && b.tenant ≠ owner then d.finish (some (g, x.id)) { status := 6 }
  else if !b.running || !(d.radio (radioOf x.bss)).inService then d.finish (some (g, x.id)) { status := 8 }
  else if d.wifiFull b.tenant data.length then d.tailDrop t b.tenant (some (g, x.id))
  else
    let m : Msdu := { id := d.mac.nextId, ac := 3, len := data.length, entry := t, since := d.glb.up, ring := some g, cookie := x.id, data := data }
    let hold := nbit (octAt data 4) 0 && d.someDoze t x.bss
    let d1 := d.modBss x.bss (fun b => if hold then { b with groupHeld := b.groupHeld ++ [m] } else { b with groupQueue := b.groupQueue ++ [m] })
    { d1 with mac := { d1.mac with nextId := d1.mac.nextId + 1 } }

/-- DESCRIPTOR_FETCH (R304, R308, R309, R315): the words the device reads, and for TX and WTX the frame's octets, or none when the DMA fails. -/
def goDescriptorFetch (t g : Nat) (w0 w1 : Word) (data : Option (List Byte)) (d : Dev) : Dev :=
  if !d.mayFetch g then d
  else
    let r := d.ring g
    let x := descOf r.nextId w0 w1
    let d1 := ((d.countFetch g).modRing g (fun r => { r with nextId := r.nextId + 1, cons := (r.cons + 1) % r.size })).bump (2 + r.owner) 30 16
    let fly := d1.modRing g (fun r => { r with inflight := r.inflight ++ [x] })
    let bad := badDesc r.kind w1
    if r.kind % 2 = 1 then
      if bad then fly.completeDesc g x { status := 0xD, len := some 0 }
      else (d1.modRing g (fun r => { r with free := r.free ++ [x] })).serveQueue t g
    else
      let f1 := fly.bump (2 + r.owner) 8
      if bad then f1.completeDesc g x { status := 0xD }
      else if (r.kind = 0 && decide (x.len < 14)) || (r.kind = 2 && (decide (x.len < 24) || decide (2328 < x.len))) then f1.completeDesc g x { status := 3 }
      else match data with
        | none => f1.faultRing t g (some x.id)
        | some bytes =>
          let l := (bytes ++ List.replicate x.len 0).take x.len
          let f2 := ((f1.bump (2 + r.owner) 9 x.len).bump (2 + r.owner) 30 x.len).hbmOctets 0 x.len
          if r.kind = 2 then (f2.takeWtx t g x l).noteFull t
          else
            let p : Pkt := { octets := l, srcKind := 2, src := g, tenant := r.owner, desc := some (g, x.id), tsReq := x.tsReq }
            ({ f2 with rte := { f2.rte with ring := f2.rte.ring ++ [p] } } : Dev).noteFull t

def execDescriptorFetch (g : Nat) (w0 w1 : Word) (data : Option (List Byte)) (s : State) : Host.Outcome State Fault Refusal :=
  .next (s.act fun t d => goDescriptorFetch t g w0 w1 data d)

/-- COMPLETION_WRITE (R305, R307): completions that wait enter the array while there is room. -/
def goCompletionWrite (g : Nat) (d : Dev) : Dev := d.postAll g

def execCompletionWrite (g : Nat) (s : State) : Host.Outcome State Fault Refusal := .next (s.act fun _ d => goCompletionWrite g d)

/-- A WRX ring may run: no other WRX ring of its function runs or drains (R302, R309). -/
def Dev.wrxFree (d : Dev) (g : Nat) : Bool :=
  (d.ringsOf (d.ring g).owner).all (fun k => k == g || (d.ring k).kind != 3 || (d.ring k).stopped)

/-- Fields of TM_RING_CTRL other than ENABLE. -/
def ringFields : Reg := 0x700F00FF

/-- A write of TM_RING_CTRL (R309, R310). -/
def Dev.ringCtrl (d : Dev) (t g : Nat) (v : Reg) : Dev :=
  let on := v.getLsbD 31
  let d1 := d.modRing g (fun r =>
    let rest := if r.stopped then v &&& ringFields else r.ctrl &&& ringFields
    { r with ctrl := rest ||| (if on then 0x80000000 else 0) })
  let r := d1.ring g
  match r.st, on with
  | .stopped, true =>
    if rfld r.ctrl 19 16 < 6 || decide (15 < rfld r.ctrl 19 16) || (r.kind == 3 && !d1.wrxFree g) then
      (d1.modRing g (fun r => { r with cfgErr := true })).inc t 10 2
    else d1.modRing g (fun r => { r with
      st := .running, cfgErr := false, prod := 0, cons := 0, cqHead := 0, cqTail := 0, phase := true, inflight := [], free := []
      done := [], since := 0, firstAt := 0, queue := [] })
  | .running, false => d1.drainRing t g
  | .fault, false => dropStamps (d1.modRing g (fun r => { r with st := .stopped, inflight := [], free := [], done := [] })) g
  | _, _ => d1

/-- RING_ENABLE (R307, R309): ENABLE written 1. -/
def goRingEnable (t : Nat) (m : Master) (g : Nat) (v : Reg) (d : Dev) : Dev :=
  if d.reachesRing m g then d.ringCtrl t g (v ||| 0x80000000) else d

def execRingEnable (m : Master) (g : Nat) (v : Reg) (s : State) : Host.Outcome State Fault Refusal :=
  .next (s.act fun t d => goRingEnable t m g v d)

/-- RING_DISABLE (R309): ENABLE written 0. -/
def goRingDisable (t : Nat) (m : Master) (g : Nat) (v : Reg) (d : Dev) : Dev :=
  if d.reachesRing m g then d.ringCtrl t g (v &&& 0x7FFFFFFF) else d

def execRingDisable (m : Master) (g : Nat) (v : Reg) (s : State) : Host.Outcome State Fault Refusal :=
  .next (s.act fun t d => goRingDisable t m g v d)

/-- DRAIN_END (R309). -/
def goDrainEnd (g : Nat) (d : Dev) : Dev := d.drainEnd g

def execDrainEnd (g : Nat) (s : State) : Host.Outcome State Fault Refusal := .next (s.act fun _ d => goDrainEnd g d)

/-- DMA_ERR (R306, R309): a DMA to the ring's area (none) or to a descriptor's buffer failed. -/
def goDmaErr (t g : Nat) (desc : Option Nat) (d : Dev) : Dev := d.faultRing t g desc

def execDmaErr (g : Nat) (desc : Option Nat) (s : State) : Host.Outcome State Fault Refusal :=
  .next (s.act fun t d => goDmaErr t g desc d)

/-- RING_PROD (R307): the producer index, modulo the ring size. -/
def goRingProd (m : Master) (g : Nat) (v : Reg) (d : Dev) : Dev :=
  if d.reachesRing m g then d.modRing g (fun r => { r with prod := rfld v 14 0 % r.size }) else d

def execRingProd (m : Master) (g : Nat) (v : Reg) (s : State) : Host.Outcome State Fault Refusal :=
  .next (s.act fun _ d => goRingProd m g v d)

/-- RING_CQ_HEAD (R307): the completion head, modulo the ring size. -/
def goRingCqHead (m : Master) (g : Nat) (v : Reg) (d : Dev) : Dev :=
  if d.reachesRing m g then (d.modRing g (fun r => { r with cqHead := rfld v 14 0 % r.size })).postAll g else d

def execRingCqHead (m : Master) (g : Nat) (v : Reg) (s : State) : Host.Outcome State Fault Refusal :=
  .next (s.act fun _ d => goRingCqHead m g v d)

/-- The coalescing timer of a ring has run out (R311). -/
def Dev.coalDue (d : Dev) (g : Nat) : Bool :=
  let r := d.ring g
  let us := rfld r.coal 15 0
  us != 0 && r.firstAt != 0 && decide (r.firstAt + us * 1000 ≤ d.glb.up + 1)

/-- COAL_TIMER (R311). -/
def goCoalTimer (g : Nat) (d : Dev) : Dev := if d.coalDue g then d.fireRing g else d

def execCoalTimer (g : Nat) (s : State) : Host.Outcome State Fault Refusal := .next (s.act fun _ d => goCoalTimer g d)

/-! Samples (R320). -/

/-- Depth in octets of queue `q`, and the time in µs that its head frame has waited, 0 when it is empty. -/
def Dev.queueState (d : Dev) (t q : Nat) : Nat × Nat :=
  if q < 640 then
    let l := if q < 512 then d.tmq q else (d.ring (q - 512)).queue
    (queueOctets l, match l with | [] => 0 | x :: _ => (d.glb.up - x.enq) / 1000)
  else
    let l := d.macHeld (q - 640)
    (msduOctets l, maxN (l.map (fun m => (t - m.entry) / 1000)))

/-- One sample; every field saturates. -/
def Dev.sampleOf (d : Dev) (t q : Nat) : Word :=
  let x := d.queueState t q
  packW [(Nat.min 0xFFFFF ((x.1 + 1023) / 1024), 20, 0), (Nat.min 0xFFFFF x.2, 20, 20),
    (Nat.min 0xFFFFFF (tlook (fun _ => 0) d.tm.maxDelay q), 24, 40)]

/-- Put a sample before the older ones, of which 64 in all are kept; a queue whose samples are all 0 holds none. -/
def putSample (w : Word) (old : List Word) : List Word :=
  let l := (w :: old).take 64
  if l.all (fun v => decide (v = 0)) then [] else l

/-- QUEUE_SAMPLE (R320): one sample of each of the 656 queues at the tick boundary. -/
def goQueueSample (t : Nat) (d : Dev) : Dev :=
  { d with tm := { d.tm with
    samples := (List.range 656).foldl (fun s q => tmod (fun _ => []) s q (putSample (d.sampleOf t q))) d.tm.samples
    maxDelay := [], sampleTick := (tickOf t + 2 ^ 48 - 1) % 2 ^ 48 } }.hbmOctets 5 5248

def execQueueSample (s : State) : Host.Outcome State Fault Refusal := .next (s.act fun t d => goQueueSample t d)

/-! Mailbox commands (R323). -/

/-- A TENANT field of a command (R323, R343): a virtual function writes 0 and its own tenant is used; any other value from it is refused. -/
def tenantField (who : Master) (v : Nat) : Nat := if who.isF0 then v else who.tenant

/-- Rows that judge a TENANT field: its own number is a bad parameter, another tenant's is not permitted (R51, R69, R323). -/
def tenantRows (who : Master) (v : Nat) : List (Bool × Status) :=
  [(!who.isF0 && v != 0 && v != who.tenant, .notPermitted), (!who.isF0 && v != 0, .badParam)]

/-- TM_POLICER_WRITE (R319, R323). -/
def goTmPolicerWrite (t : Nat) (who : Master) (req : List Word) (d : Dev) : Dev :=
  d.mbxNow t (fixedSpec 0x660 false 5 [(1, [(63, 52), (47, 8)]), (2, [(43, 40)]), (3, [(31, 0)]), (4, [(63, 56), (31, 24)])]) who req (fun d =>
    let w2 := wd req 2
    let w3 := wd req 3
    let w4 := wd req 4
    let x : Policer := { w2 := w2, w3 := w3, w4 := w4 }
    let i := tenantField who (fld (wd req 1) 51 48) * 256 + fld (wd req 1) 7 0
    judged d (tenantRows who (fld (wd req 1) 51 48) ++ [
      (x.mode == 3 || fld w2 59 58 == 3 || fld w2 57 56 == 3 || decide (x.overhead < -64) || decide (63 < x.overhead) ||
        (x.mode != 0 && fld w4 23 0 == 0) || (x.mode == 2 && decide (fld w3 63 32 < fld w2 31 0)) || (x.mode != 2 && fld w3 63 32 != 0), .badParam),
      (d.claimed .policer i, .busy)]) (fun d =>
        (.ok, [], { d with tm := { d.tm with policeStaged := d.tm.policeStaged ++ [(i, w2, w3, w4)] } }.claim .policer i)))

def execTmPolicerWrite (f : Nat) (req : List Word) (s : State) : Host.Outcome State Fault Refusal :=
  .next (s.act fun t d => goTmPolicerWrite t (.fn f) req d)

/-- TM_POLICER_READ (R323): the setting in force and the frame counts. -/
def goTmPolicerRead (t : Nat) (who : Master) (req : List Word) (d : Dev) : Dev :=
  d.mbxNow t (fixedSpec 0x661 false 2 [(1, [(63, 52), (47, 8)])]) who req (fun d =>
    let i := tenantField who (fld (wd req 1) 51 48) * 256 + fld (wd req 1) 7 0
    judged d (tenantRows who (fld (wd req 1) 51 48)) (fun d =>
      let x := d.policer i
      (.ok, [wd req 1, x.w2, x.w3, x.w4, packW [(x.green, 48, 0)], packW [(x.yellow, 48, 0)], packW [(x.red, 48, 0)]], d)))

def execTmPolicerRead (f : Nat) (req : List Word) (s : State) : Host.Outcome State Fault Refusal :=
  .next (s.act fun t d => goTmPolicerRead t (.fn f) req d)

/-- A queue of R320 that master `who` may name (R323). -/
def Dev.ownsQueue (d : Dev) (who : Master) (q : Nat) : Bool :=
  who.isF0 ||
  (if q < 512 then q % 128 / 8 == who.tenant else if q < 640 then (d.ring (q - 512)).owner == who.tenant else q - 640 == who.tenant)

/-- TM_QUEUE_SAMPLE (R323): COUNT samples, newest first. -/
def goTmQueueSample (t : Nat) (who : Master) (req : List Word) (d : Dev) : Dev :=
  d.mbxNow t (fixedSpec 0x662 false 2 [(1, [(63, 42), (31, 7)])]) who req (fun d =>
    let q := fld (wd req 1) 41 32
    let n := fld (wd req 1) 6 0
    judged d [(decide (655 < q) || n == 0 || decide (64 < n), .badParam), (!d.ownsQueue who q, .notPermitted)] (fun d =>
      let l := tlook (fun _ => []) d.tm.samples q
      (.ok, packW [(d.tm.sampleTick, 48, 0)] :: (List.range n).map (fun i => l.getD i 0), d)))

def execTmQueueSample (f : Nat) (req : List Word) (s : State) : Host.Outcome State Fault Refusal :=
  .next (s.act fun t d => goTmQueueSample t (.fn f) req d)

end Sys2Proof.Machine
end

