-- ==== Sys2Proof/Machine/Ethernet.lean ====
section
/-! DEFINITION. The Ethernet ports (R260 to R277): enabling and links, the receive buffer and the pause it sends, received pause, the safety net, credit-shaped transmission, transmit stamps, and wakes. Times are in ns of the device's running time; a stored time is the time + 1, 0 for none, where its field says so. -/
namespace Sys2Proof.Machine

/-! Registers of a port. -/

/-- EMAC_FLOW_CTRL_p. -/
def Dev.flowCtrl (d : Dev) (p : Nat) : Reg := d.reg (emacAddr p 0x0C)
/-- MODE (R266): 3 acts as 0. -/
def Dev.flowMode (d : Dev) (p : Nat) : Nat := let m := rfld (d.flowCtrl p) 31 30; if m = 3 then 0 else m
/-- QUANTA. -/
def Dev.quanta (d : Dev) (p : Nat) : Nat := rfld (d.flowCtrl p) 15 0
/-- XOFF_KIB and XON_KIB in octets. -/
def Dev.xoffAt (d : Dev) (p : Nat) : Nat := rfld (d.reg (emacAddr p 0x10)) 25 16 * 1024
/-- XON_KIB in octets. -/
def Dev.xonAt (d : Dev) (p : Nat) : Nat := rfld (d.reg (emacAddr p 0x10)) 9 0 * 1024
/-- LIMIT_MS in ns, and whether the safety net is armed. -/
def Dev.safetyNs (d : Dev) (p : Nat) : Nat := rfld (d.reg (emacAddr p 0x14)) 25 16 * 1000000
/-- The safety net is armed. -/
def Dev.safetyOn (d : Dev) (p : Nat) : Bool := (d.reg (emacAddr p 0x14)).getLsbD 31
/-- DEAF_MS in ns. -/
def Dev.deafNs (d : Dev) (p : Nat) : Nat := rfld (d.reg (emacAddr p 0x14)) 6 0 * 1000000

/-- Rate of a rate code in units of 0.1 Mb/s (R260, R271). -/
def rateOf : Nat → Nat
  | 0 => 100000 | 1 => 250000 | 2 => 500000 | _ => 1000000

/-- FEC codes that a rate allows (R260). -/
def fecOk (rate fec : Nat) : Bool :=
  match rate with
  | 0 => decide (fec < 2)
  | 1 => decide (fec < 3)
  | _ => fec == 3

/-- Time of `bits` at a rate, in ns. -/
def bitsNs (bits rate : Nat) : Nat := bits * 10000 / rate

/-- Time of `q` pause quanta of 512 bit times at the rate in force (R267). -/
def Dev.quantaNs (d : Dev) (p q : Nat) : Nat := bitsNs (q * 512) (rateOf (d.port p).rateUsed)

/-- EMAC_PORT_STATUS_p. -/
def Dev.portStatus (d : Dev) (p : Nat) : Reg :=
  let x := d.port p
  packR [(b2n x.linkUp, 1, 0), (b2n x.anDone, 1, 1), (x.rateUsed, 2, 2), (x.fecUsed, 2, 4), (x.partnerPause, 2, 6), (b2n x.cfgErr, 1, 8)]

/-- EMAC_TS_STATE_p. -/
def Dev.tsFill (d : Dev) (p : Nat) : Reg := BitVec.ofNat 32 (d.port p).ts.length

/-! Classes (R266, R268): 0 to 7 for the priorities, 8 for the whole port. -/

/-- The classes of a port that may be paused. -/
def Dev.pausable (d : Dev) (p : Nat) : List Nat :=
  match d.flowMode p with
  | 1 => [8]
  | 2 => (List.range 8).filter (fun k => nbit (rfld (d.flowCtrl p) 23 16) k)
  | _ => []

/-- The pausable class that an egress queue belongs to. -/
def Dev.classOf (d : Dev) (p q : Nat) : Option Nat := (d.pausable p).find? (fun k => k == 8 || k == q)

/-- The pause of class `k` has run out. -/
def Dev.pauseOver (d : Dev) (p k : Nat) : Bool := decide (tlook (fun _ => 0) (d.port p).paused k ≤ d.glb.up)

/-- The peer holds class `k` paused: a pause is honoured only while RX_EN is 1 (R267). -/
def Dev.heldPaused (d : Dev) (p k : Nat) : Bool := (d.flowCtrl p).getLsbD 28 && !d.pauseOver p k

/-- Class `k` is deaf (R268). -/
def Dev.isDeaf (d : Dev) (p k : Nat) : Bool := decide (tlook (fun _ => 0) (d.port p).deaf k ≠ 0)

/-- A frame waits in class `k`. -/
def Dev.classWaits (d : Dev) (p k : Nat) : Bool := (List.range 8).any (fun q => (k == 8 || k == q) && !((d.port p).queue q).isEmpty)

/-- Egress queue `q` is paused. -/
def Dev.queuePaused (d : Dev) (p q : Nat) : Bool :=
  match d.classOf p q with
  | some k => d.heldPaused p k && !d.isDeaf p k
  | none => false

/-- Egress queue `q` belongs to a deaf class. -/
def Dev.queueDeaf (d : Dev) (p q : Nat) : Bool :=
  match d.classOf p q with
  | some k => d.isDeaf p k
  | none => false

/-- The watch of class `k` (R268): it runs only while the class is stuck. -/
def Dev.watchClass (d : Dev) (p k : Nat) : Dev :=
  let stuck := (d.pausable p).contains k && d.heldPaused p k && !d.isDeaf p k && d.classWaits p k
  d.modPort p (fun x => { x with
    stuck := tmod (fun _ => 0) x.stuck k (fun s => if !stuck then 0 else if s = 0 then d.glb.up + 1 else s) })

/-- The watches of every class of a port. -/
def Dev.watchPort (d : Dev) (p : Nat) : Dev := (List.range 9).foldl (fun e k => e.watchClass p k) d

/-! The receive buffer and the pause it sends (R265 to R267). -/

/-- Octets of the receive buffer. -/
def rxBufferOctets : Nat := 524288

/-- Octets in the receive buffer that belong to class `k`, those of the frames that wait at its head for the slow path among them (R295). -/
def Dev.occupancy (d : Dev) (p k : Nat) : Nat :=
  sumN ((d.port p).rx.map (fun e => if k = 8 || e.1 = k then e.2.octets.length else 0)) +
  sumN ((tlook (fun _ => []) d.rte.waiting p).map (fun e => if k = 8 || e.2.tc = k then e.2.octets.length else 0))

/-- Send a pause frame for a class. -/
def Dev.sendPause (d : Dev) (p k q : Nat) : Dev := d.modPort p (fun x => { x with pauseTx := x.pauseTx ++ [(k, q)] })

/-- Send pause for a class, and set its next repeat after QUANTA / 2 quanta. -/
def Dev.sendXoff (d : Dev) (p k : Nat) : Dev :=
  (d.sendPause p k (d.quanta p)).modPort p (fun x => { x with
    xoff := tput (fun _ => 0) x.xoff k (d.glb.up + bitsNs (d.quanta p * 256) (rateOf x.rateUsed) + 1) })

/-- The EMAC takes frames and sends pause: it has not quiesced (R383). -/
def Dev.emacAwake (d : Dev) : Bool := !d.gaf.quiesced.testBit 1 && d.running

/-- The buffer of class `k` has grown: pause is sent when it rises to XOFF_KIB. -/
def Dev.pauseRise (d : Dev) (p k : Nat) : Dev :=
  if (d.flowCtrl p).getLsbD 29 && d.emacAwake && tlook (fun _ => 0) (d.port p).xoff k == 0 &&
      decide (d.xoffAt p ≤ 524288) && decide (d.xoffAt p ≤ d.occupancy p k) then d.sendXoff p k else d

/-- Below this occupancy the peer may send again: XON_KIB, or XOFF_KIB where XON_KIB is not below it. -/
def Dev.resumeAt (d : Dev) (p : Nat) : Nat := if d.xonAt p < d.xoffAt p then d.xonAt p else d.xoffAt p

/-- The buffer of class `k` has shrunk: one frame with quanta 0 ends the pause. -/
def Dev.pauseFall (d : Dev) (p k : Nat) : Dev :=
  if tlook (fun _ => 0) (d.port p).xoff k ≠ 0 && decide (d.occupancy p k < d.resumeAt p) then
    let d1 := d.modPort p (fun x => { x with xoff := tput (fun _ => 0) x.xoff k 0 })
    if (d.flowCtrl p).getLsbD 29 && d.emacAwake then d1.sendPause p k 0 else d1
  else d

/-- The receive buffer of a port has shrunk. -/
def Dev.drainPause (d : Dev) (p : Nat) : Dev := (d.pausable p).foldl (fun e k => e.pauseFall p k) d

/-- Priority of a received frame (R266): PCP of its outer tag, or DEFAULT_PCP. -/
def Dev.rxPriority (d : Dev) (p : Nat) (octets : List Byte) : Nat :=
  if isTag (beAt octets 12 2) then octAt octets 14 / 32 else rfld (d.flowCtrl p) 26 24

/-- A stamp with a trim, in 64 bits (R272). -/
def stampOf (t : Nat) (trim : Int) : Nat := ((t : Int) + trim).toNat % 2 ^ 64

/-- ETHERNET_RECEIVE (R263, R265, R272, R383): a frame's octets without its FCS, whether the FCS is good, and when its message timestamp point passes. -/
def goEthernetReceive (t p : Nat) (octets : List Byte) (w : WireFacts) (d : Dev) : Dev :=
  let len := octets.length + 4
  if !(d.port p).linkUp then d
  else if !d.emacAwake then (d.bump 34 (8 * p + 5)).dropped t 0
  else if len < 64 then (d.bump 34 (8 * p + 2)).dropped t 0
  else if d.maxFrame p < len then (d.bump 34 (8 * p + 3)).dropped t 0
  else if !w.fcsOk then (d.bump 34 (8 * p + 4)).dropped t 0
  else if rxBufferOctets < d.occupancy p 8 + octets.length then ((d.bump 34 (8 * p + 5)).inc t 8 (12 + p)).dropped t 0
  else
    let k := d.rxPriority p octets
    let x : Pkt := { octets := octets, srcKind := 0, src := p, tenant := 0, rxStamp := some (stampOf (t + w.at') (d.pvi 0x6020 0 p)), enq := d.glb.up }
    let d1 := (d.bump 34 (8 * p) len).modPort p (fun y => { y with rx := y.rx ++ [(k, x)] })
    (d1.pausable p).foldl (fun e c => if c = 8 || c = k then e.pauseRise p c else e) d1

def execEthernetReceive (p : Nat) (octets : List Byte) (x : WireFacts) (s : State) : Host.Outcome State Fault Refusal :=
  .next (s.act fun t d => goEthernetReceive t p octets x d)

/-- PAUSE_REPEAT (R267): while the occupancy stays at or above XON_KIB. -/
def goPauseRepeat (p k : Nat) (d : Dev) : Dev :=
  let due := tlook (fun _ => 0) (d.port p).xoff k
  if due ≠ 0 && decide (due ≤ d.glb.up + 1) && (d.flowCtrl p).getLsbD 29 && d.emacAwake && decide (d.xonAt p ≤ d.occupancy p k) then d.sendXoff p k else d

def execPauseRepeat (p k : Nat) (s : State) : Host.Outcome State Fault Refusal := .next (s.act fun _ d => goPauseRepeat p k d)

/-! Credit (R271), in 1/10,000 bit: a slope of 0.1 Mb/s gives one unit each ns. -/

/-- EMAC_CBS_p_q in force: a write takes effect at the first frame start after it has landed. -/
def Dev.cbs (d : Dev) (p q : Nat) : Reg := tlook (fun _ => (0 : Reg)) (d.port p).cbs q
/-- A queue is shaped. -/
def Dev.cbsOn (d : Dev) (p q : Nat) : Bool := (d.cbs p q).getLsbD 31
/-- IDLE_SLOPE. -/
def Dev.idleSlope (d : Dev) (p q : Nat) : Nat := rfld (d.cbs p q) 19 0

/-- Credit kept between its bounds. -/
def Dev.clipCredit (d : Dev) (p q : Nat) (c : Int) : Int :=
  let rate : Int := rateOf (d.port p).rateUsed
  let slope : Int := d.idleSlope p q
  let big : Int := d.maxFrame p * 80000
  max (-(big * (rate - slope) / rate)) (min (big * slope / rate) c)

/-- Credit of a queue as it stands at `up`. The last frame ran from `creditAt` to `busyUntil`; a queue that holds a frame gains from its head frame's arrival on, and one that was empty when its frame ended has lost what was positive. -/
def Dev.creditNow (d : Dev) (p q up : Nat) : Int :=
  let x := d.port p
  let slope : Int := d.idleSlope p q
  let rate : Int := rateOf x.rateUsed
  let old := tlook (fun _ => (0 : Int)) x.credit q
  let txEnd := Nat.min up x.busyUntil
  let tx := txEnd - x.creditAt
  let c1 : Int :=
    if x.txq = q then
      let c := old + (slope - rate) * tx
      let empty := match x.queue q with | [] => true | h :: _ => decide (x.busyUntil < h.enq)
      if empty && decide (x.busyUntil ≤ up) then min 0 c else c
    else match x.queue q with
      | [] => old
      | h :: _ => old + slope * ((txEnd - Nat.max x.creditAt h.enq : Nat) : Int)
  let gap : Int := ((up - Nat.max x.creditAt x.busyUntil : Nat) : Int)
  let c2 : Int :=
    if d.queuePaused p q then c1 + slope * gap
    else if c1 < 0 then min 0 (c1 + slope * gap)
    else c1
  let c3 := d.clipCredit p q c2
  if (x.queue q).isEmpty && decide (0 < c3) then 0 else c3

/-- When the next frame of a port may start: at the end of the frame in transmission, or now. -/
def Dev.txStart (d : Dev) (p : Nat) : Nat := Nat.max d.glb.up (d.port p).busyUntil

/-- Bring every credit of a port up to date as of `up`. -/
def Dev.settleAt (d : Dev) (p up : Nat) : Dev :=
  let cs := (List.range 8).foldl (fun t q => tput (fun _ => (0 : Int)) t q (if d.cbsOn p q then d.creditNow p q up else 0)) ([] : Table Int)
  d.modPort p (fun x => { x with credit := cs, creditAt := Nat.max x.creditAt up, txq := if x.busyUntil ≤ up then 8 else x.txq })

/-- Bring every credit of a port up to date. -/
def Dev.settleCredit (d : Dev) (p : Nat) : Dev := d.settleAt p d.glb.up

/-- A frame starts (R271): what was written of the shapers takes effect, and the credits are clipped to the new bounds. -/
def Dev.loadCbs (d : Dev) (p : Nat) : Dev :=
  let d1 := d.modPort p (fun x => { x with cbs := (List.range 8).foldl (fun m q => tput (fun _ => (0 : Reg)) m q (d.reg (emacAddr p (0x40 + 4 * q)))) [] })
  d1.modPort p (fun x => { x with credit := (List.range 8).foldl (fun m q => tmod (fun _ => (0 : Int)) m q (fun c => if d1.cbsOn p q then d1.clipCredit p q c else 0)) x.credit })

/-- The shaper lets queue `q` send at the next frame boundary. -/
def Dev.shaperOpen (d : Dev) (p q : Nat) : Bool :=
  !d.cbsOn p q || decide (rateOf (d.port p).rateUsed ≤ d.idleSlope p q) || decide (0 ≤ d.creditNow p q (d.txStart p))

/-! Transmission (R263, R270, R274). -/

/-- A frame that MACsec must put its SecTAG around before the port may send it (R331). -/
def Dev.wantsSec (d : Dev) (p : Nat) (x : Pkt) : Bool :=
  let m := tlook (fun _ => ({} : MacsecPort)) d.wcx.macsec p
  m.en && !x.sec && beAt x.octets 12 2 != 0x888E && !m.bypass.contains (beAt x.octets 12 2)

/-- Queue `q` is eligible (R270). -/
def Dev.eligible (d : Dev) (p q : Nat) : Bool :=
  (match (d.port p).queue q with
    | [] => false
    | x :: _ => !d.wantsSec p x) &&
  !d.queuePaused p q && d.shaperOpen p q

/-- Discard the head frame of a deaf class (R268). -/
def Dev.shedOne (d : Dev) (t p q : Nat) : Dev :=
  match (d.port p).queue q with
  | [] => d
  | x :: rest =>
    (((d.modPort p (fun y => { y with queues := tput (fun _ => []) y.queues q rest })).step 0x6011 0 p |>.dropped t x.tenant).finish x.desc { status := 0xB }).pump p q |> (fun e => if ((e.port p).queue q).isEmpty then e.settleCredit p else e)

/-- Discard every frame that reaches the head of queue `q`; `n` bounds their number. -/
def Dev.shedQueue (t p q : Nat) : Nat → Dev → Dev
  | 0, d => d
  | n + 1, d => if ((d.port p).queue q).isEmpty then d else Dev.shedQueue t p q n (d.shedOne t p q)

/-- Frames that may still reach queue `q` of a port. -/
def Dev.queueReach (d : Dev) (p q : Nat) : Nat :=
  ((d.port p).queue q).length + sumN ((List.range 16).map (fun t => (d.tmq (tmQueueNo p t q)).length))

/-- Discard what stands at the head of the deaf classes of a port. -/
def Dev.shedDeaf (d : Dev) (t p : Nat) : Dev :=
  (List.range 8).foldl (fun e q => if e.queueDeaf p q then Dev.shedQueue t p q (e.queueReach p q) e else e) d

/-- The transmit stamp of the PTP client's Delay_Req comes to the client (R236, R274). -/
def Dev.ptpStamp (d : Dev) (s : Nat) : Dev := { d with bt := { d.bt with servo := { d.bt.servo with reqSent := some s } } }

/-- A frame's transmit stamp is taken: it enters the FIFO until its completion is posted, or is dropped when the FIFO holds 64 (R274). The result says whether it was kept. -/
def Dev.takeStamp (d : Dev) (t p : Nat) (x : Pkt) : Dev × Option Nat :=
  if !x.tsReq && !x.own then (d, none)
  else if 64 ≤ (d.port p).ts.length then (((d.inc t 8 (4 + p)).step 0x6012 0 p), none)
  else
    let s := stampOf t (d.pvi 0x6021 0 p)
    match x.desc with
    | some (g, id) => ((d.modPort p (fun y => { y with ts := y.ts ++ [(g, id, s)] })).handoff t .timestamp p, some s)
    | none => ((d.ptpStamp s).handoff t .timestamp p, some s)

/-- The last octet of the frame in transmission has left the port: a TX frame completes OK (R306). -/
def Dev.endFrame (d : Dev) (p : Nat) : Dev :=
  match (d.port p).ending with
  | some (g, id, s, lost) => (d.modPort p (fun y => { y with ending := none })).finish (some (g, id)) { status := 0, stamp := s, noTs := lost }
  | none => d

/-- A frame whose last octet has left by now completes. -/
def Dev.wireEnds (d : Dev) (p : Nat) : Dev := if (d.port p).busyUntil ≤ d.glb.up then d.endFrame p else d

/-- The port sends a frame of queue `q`: what is too short or too long is not sent (R263); any other is padded to 60 octets. It starts where the frame before it ends, within the beat. -/
def Dev.sendFrame (d : Dev) (t p q : Nat) (x : Pkt) (rest : List Pkt) : Dev :=
  let start := d.txStart p
  let d0 := (d.endFrame p).settleAt p start
  let d1 := d0.modPort p (fun y => { y with queues := tput (fun _ => []) y.queues q rest })
  let n := x.octets.length
  let d2 :=
    if n < 14 || decide (d.maxFrame p < n + 4) then ((d1.bump 34 (8 * p + 6)).dropped t x.tenant).finish x.desc { status := 3 }
    else
      let wire := Nat.max 60 n + 4
      let e1 := (d1.loadCbs p).takeStamp (t + (start - d.glb.up)) p x
      let ns := bitsNs (8 * (wire + 20)) (rateOf (d.port p).rateUsed)
      let clear := (tlook (fun _ => ({} : MacsecPort)) d.wcx.macsec p).en && !x.sec
      ((if clear then e1.1.bump 37 15 else e1.1).bump 34 (8 * p + 1) wire).modPort p (fun y => { y with
        busyUntil := start + ns, txq := q, sent := y.sent ++ [x.octets ++ List.replicate (60 - n) 0]
        ending := x.desc.map (fun k => (k.1, k.2, e1.2, x.tsReq && e1.2.isNone)) })
  (d2.pump p q).watchPort p

/-- FRAME_TRANSMIT (R270): at a frame boundary, within the present beat, of a port whose link is up, the head frame of the highest eligible queue. -/
def goFrameTransmit (t p : Nat) (d : Dev) : Dev :=
  let d1 := d.shedDeaf t p
  if !(d1.port p).linkUp || decide (d1.glb.up + 1000 ≤ (d1.port p).busyUntil) || !d1.running then d1
  else match ((List.range 8).reverse).find? (fun q => d1.eligible p q) with
    | none => d1
    | some q => match (d1.port p).queue q with
      | [] => d1
      | x :: rest => d1.sendFrame t p q x rest

def execFrameTransmit (p : Nat) (s : State) : Host.Outcome State Fault Refusal := .next (s.act fun t d => goFrameTransmit t p d)

/-! Received pause and the safety net (R266 to R268). -/

/-- Class `k` receives a pause of `q` quanta. -/
def Dev.takePause (d : Dev) (p k q : Nat) : Dev :=
  if !(d.pausable p).contains k || d.isDeaf p k then d
  else (d.modPort p (fun x => { x with paused := tput (fun _ => 0) x.paused k (if q = 0 then 0 else d.glb.up + d.quantaNs p q) })).watchClass p k

/-- PAUSE_FRAME (R266 to R268): every one is counted; it is honoured when RX_EN is 1, its kind is that of MODE and its class is not deaf. -/
def goPauseFrame (p : Nat) (x : PauseMsg) (d : Dev) : Dev :=
  if !(d.port p).linkUp then d
  else
    let d1 := d.bump 34 (8 * p + 7)
    if !(d.flowCtrl p).getLsbD 28 then d1
    else
      let d2 := d1.settleCredit p
      match x with
      | .pause q => if d.flowMode p = 1 then d2.takePause p 8 q else d1
      | .pfc qs => if d.flowMode p = 2 then qs.foldl (fun e c => e.takePause p c.1 c.2) d2 else d1

def execPauseFrame (p : Nat) (x : PauseMsg) (s : State) : Host.Outcome State Fault Refusal := .next (s.act fun _ d => goPauseFrame p x d)

/-- PAUSE_EXPIRY (R268): the pause of a class has run out; the class is unstuck. -/
def goPauseExpiry (p k : Nat) (d : Dev) : Dev :=
  if tlook (fun _ => 0) (d.port p).paused k ≠ 0 && d.pauseOver p k then
    ((d.settleCredit p).modPort p (fun x => { x with paused := tput (fun _ => 0) x.paused k 0 })).watchClass p k
  else d

def execPauseExpiry (p k : Nat) (s : State) : Host.Outcome State Fault Refusal := .next (s.act fun _ d => goPauseExpiry p k d)

/-- The stuck time of class `k` has reached LIMIT_MS, with EN = 1 (R268). -/
def Dev.tripDue (d : Dev) (p k : Nat) : Bool :=
  let s := tlook (fun _ => 0) (d.port p).stuck k
  s != 0 && d.safetyOn p && decide (s + d.safetyNs p ≤ d.glb.up + 1)

/-- SAFETY_NET_TRIP (R268). -/
def goSafetyNetTrip (t p k : Nat) (d : Dev) : Dev :=
  if !d.tripDue p k then d
  else
    let d1 := (((d.settleCredit p).inc t 8 (8 + p)).step 0x6010 0 p).handoff t .other (16 * p + k)
    (d1.modPort p (fun x => { x with
      stuck := tput (fun _ => 0) x.stuck k 0, deaf := tput (fun _ => 0) x.deaf k (d.glb.up + d.deafNs p + 1) })).shedDeaf t p

def execSafetyNetTrip (p k : Nat) (s : State) : Host.Outcome State Fault Refusal := .next (s.act fun t d => goSafetyNetTrip t p k d)

/-- DEAF_END (R268): the class is unpaused, and its watch stands at 0. -/
def goDeafEnd (p k : Nat) (d : Dev) : Dev :=
  let e := tlook (fun _ => 0) (d.port p).deaf k
  if e = 0 || decide (d.glb.up + 1 < e) then d
  else (d.settleCredit p).modPort p (fun x => { x with
    deaf := tput (fun _ => 0) x.deaf k 0, paused := tput (fun _ => 0) x.paused k 0, stuck := tput (fun _ => 0) x.stuck k 0 })

def execDeafEnd (p k : Nat) (s : State) : Host.Outcome State Fault Refusal := .next (s.act fun _ d => goDeafEnd p k d)

/-- A write of EMAC_FLOW_CTRL_p takes effect (R266, R267): one that changes MODE clears every pause timer and restarts the safety net's watch; in MODE 2 a priority that leaves PFC_EN is paused in neither direction any more, with no frame of its own for that (DESIGN CHOICE, log 148). -/
def Dev.flowWrite (d : Dev) (p : Nat) (v : Reg) : Dev :=
  let v1 := v &&& 0xF7FFFFFF
  let d1 := d.putReg (emacAddr p 0x0C) v1
  if rfld v1 31 30 = rfld (d.flowCtrl p) 31 30 then
    let stays (e : Nat × Nat) : Bool := (d1.pausable p).contains e.1
    d1.modPort p (fun x => { x with xoff := x.xoff.filter stays, paused := x.paused.filter stays, stuck := x.stuck.filter stays })
  else d1.modPort p (fun x => { x with xoff := [], paused := [], stuck := [] })

/-- FLOW_CTRL_WRITE (R267). -/
def goFlowCtrlWrite (m : Master) (p : Nat) (v : Reg) (d : Dev) : Dev := if m.isF0 then d.flowWrite p v else d

def execFlowCtrlWrite (m : Master) (p : Nat) (v : Reg) (s : State) : Host.Outcome State Fault Refusal :=
  .next (s.act fun _ d => goFlowCtrlWrite m p v d)

/-! Links (R260 to R262). -/

/-- A port keeps its link and its wake detector through Blackout (R275). -/
def Dev.wakePort (d : Dev) (p : Nat) : Bool := decide (p < 2) && (d.reg 0x800100).getLsbD (20 + p)

/-- The lanes that a port uses, in the order of its data (R260): at the one-lane rates L(2p+1) is powered down, drives no signal and ignores its input, and at RATE 3 LANE_SWAP exchanges the two. -/
def Dev.lanesOf (d : Dev) (p : Nat) : List Nat :=
  let v := d.reg (emacAddr p 0)
  if rfld v 25 24 = 3 then (if v.getLsbD 20 then [2 * p + 1, 2 * p] else [2 * p, 2 * p + 1]) else [2 * p]

/-- The transmitter of lane `l` is powered (R260, R370): its port uses it, and its domain is on or the port is wake-enabled. -/
def Dev.lanePowered (d : Dev) (l : Nat) : Bool := (d.lanesOf (l / 2)).contains l && (d.switchedOn || d.wakePort (l / 2) && d.mgr.booted)

/-- A port loses its link (R262); what waits in its queues stays. -/
def Dev.dropLink (d : Dev) (t p : Nat) : Dev :=
  if (d.port p).linkUp then (d.modPort p (fun x => { x with linkUp := false, anDone := false })).inc t 8 p else d

/-- A write of EMAC_PORT_CTRL_p (R261). -/
def Dev.portCtrl (d : Dev) (t p : Nat) (v : Reg) : Dev :=
  let a := emacAddr p 0
  let old := d.reg a
  let take := !old.getLsbD 31 || !v.getLsbD 31
  let v1 := (v &&& 0x80000000) ||| ((if take then v else old) &&& 0x4F1F0000)
  let bad := v1.getLsbD 31 && !fecOk (rfld v1 25 24) (rfld v1 27 26)
  let d1 := (d.putReg a v1).modPort p (fun x => { x with cfgErr := bad })
  if v1.getLsbD 31 then d1 else d1.dropLink t p

/-- PORT_ENABLE (R261): ENABLE written 1. -/
def goPortEnable (t : Nat) (m : Master) (p : Nat) (v : Reg) (d : Dev) : Dev :=
  if m.isF0 then d.portCtrl t p (v ||| 0x80000000) else d

def execPortEnable (m : Master) (p : Nat) (v : Reg) (s : State) : Host.Outcome State Fault Refusal :=
  .next (s.act fun t d => goPortEnable t m p v d)

/-- PORT_DISABLE (R261): ENABLE written 0. -/
def goPortDisable (t : Nat) (m : Master) (p : Nat) (v : Reg) (d : Dev) : Dev :=
  if m.isF0 then d.portCtrl t p (v &&& 0x7FFFFFFF) else d

def execPortDisable (m : Master) (p : Nat) (v : Reg) (s : State) : Host.Outcome State Fault Refusal :=
  .next (s.act fun t d => goPortDisable t m p v d)

/-- A port may have a link: enabled with an allowed pair, the SerDes reference running (R261, R262), while the device runs or, for a wake-enabled port, while it sleeps (R275). -/
def Dev.mayLink (d : Dev) (p : Nat) : Bool :=
  (d.reg (emacAddr p 0)).getLsbD 31 && !(d.port p).cfgErr && d.mgr.ref156 && (d.running || d.wakePort p && !d.gaf.held && !d.gaf.crit)

/-! Wakes (R275 to R277). -/

/-- Pattern k matches a frame (R276). -/
def Dev.patternHit (d : Dev) (octets : List Byte) (k : Nat) : Bool :=
  let mask (i : Nat) : Bool := (d.reg (0x800C00 + 16 * k + 4 * (i / 32))).getLsbD (i % 32)
  let set := (List.range 128).filter mask
  (d.reg 0x800100).getLsbD k && !set.isEmpty && set.all (fun i => decide (i < octets.length)) &&
  set.all (fun i => nbits (d.reg (0x800400 + 128 * k + 4 * (i / 4))).toNat (8 * (i % 4) + 7) (8 * (i % 4)) == octAt octets i)

/-- The port's address in six octets. -/
def Dev.portAddr (d : Dev) (p : Nat) : List Byte :=
  beBytes (rfld (d.reg (emacAddr p 0x1C)) 15 0 * 2 ^ 32 + (d.reg (emacAddr p 0x18)).toNat) 6

/-- A list begins with another. -/
def startsWith : List Byte → List Byte → Bool
  | [], _ => true
  | _ :: _, [] => false
  | a :: as, b :: bs => a == b && startsWith as bs

/-- Some tail of a list begins with another. -/
def holdsRun (needle : List Byte) : List Byte → Bool
  | [] => needle.isEmpty
  | b :: bs => startsWith needle (b :: bs) || holdsRun needle bs

/-- A magic packet for a port (R276): anywhere behind the source address, six 0xFF octets and 16 copies of the port's address. -/
def Dev.magicHit (d : Dev) (p : Nat) (octets : List Byte) : Bool :=
  holdsRun (List.replicate 6 0xFF ++ (List.replicate 16 (d.portAddr p)).flatten) (octets.drop 12)

/-- Cause code and pattern of a wake on port `p`, if it is one: pattern before magic before link (R277). -/
def Dev.wakeCause (d : Dev) (p : Nat) (x : WakeFact) : Option (Nat × Nat) :=
  let c := d.reg 0x800100
  if 2 ≤ p || !c.getLsbD (20 + p) then none
  else match x with
    | .frame octets =>
      match (List.range 16).find? (fun k => d.patternHit octets k) with
      | some k => some (0, k)
      | none => if c.getLsbD (16 + p) && d.magicHit p octets then some (1, 0) else none
    | .link => if c.getLsbD (18 + p) then some (2, 0) else none

/-- Order of two causes that fall in one beat: E0 before E1, then pattern, magic, link, then the lowest pattern (R277). -/
def wakeKey (w : Reg) : Nat := rfld w 8 8 * 64 + rfld w 7 6 * 16 + rfld w 3 0

/-- A wake may act: an entry is in its poll or past its commit, or the device sleeps (R388). -/
def Dev.wakeable (d : Dev) : Bool :=
  match d.gaf.phase with
  | .poll => true
  | .committed => true
  | .idle => decide (d.gaf.state ≠ .show')
  | _ => false

/-- A wake-enabled port raises a wake event, if what it has seen is one (R275, R277, R387). -/
def Dev.portWake (d : Dev) (t p : Nat) (x : WakeFact) : Dev :=
  if !d.wakeable then d
  else match d.wakeCause p x with
    | none => d
    | some (c, k) =>
      let w := packR [(1, 1, 31), (p, 1, 8), (c, 2, 6), (k, 4, 0)]
      let e := d.emac
      let d1 : Dev :=
        if !e.wakeStatus.getLsbD 31 then { d with emac := { e with wakeStatus := w, wakeBeat := beatNo d.glb.up + 1 } }.markSet 0x0800104 31
        else if e.wakeBeat = beatNo d.glb.up + 1 && decide (wakeKey w < wakeKey e.wakeStatus) then { d with emac := { e with wakeStatus := w } }
        else d
      (d1.inc t 8 (16 + p)).wake 4

/-- ETHERNET_WAKE (R275, R277, R387). -/
def goEthernetWake (t p : Nat) (x : WakeFact) (d : Dev) : Dev := d.portWake t p x

def execEthernetWake (p : Nat) (x : WakeFact) (s : State) : Host.Outcome State Fault Refusal := .next (s.act fun t d => goEthernetWake t p x d)

/-! Changes of link state (R260 to R262, R275). -/

/-- LINK_UP (R260, R261): with the reference running; a change of link state wakes a port that is set to. -/
def goLinkUp (t p : Nat) (x : LinkFacts) (d : Dev) : Dev :=
  let d0 : Dev := if x.refBack then { d with mgr := { d.mgr with ref156 := true } } else d
  let v := d0.reg (emacAddr p 0)
  let an := v.getLsbD 30
  if !d0.mayLink p || (d0.port p).linkUp || (an && !x.anDone) then d0
  else (d0.modPort p (fun y => { y with
    linkUp := true, anDone := an, rateUsed := rfld v 25 24, fecUsed := rfld v 27 26, partnerPause := if an then x.partnerPause % 4 else 0 })).portWake t p .link

def execLinkUp (p : Nat) (x : LinkFacts) (s : State) : Host.Outcome State Fault Refusal := .next (s.act fun t d => goLinkUp t p x d)

/-- A port's link goes down, which wakes a port that is set to (R262, R275). -/
def Dev.linkFails (d : Dev) (t p : Nat) : Dev := if (d.port p).linkUp then (d.dropLink t p).portWake t p .link else d

/-- LINK_DOWN (R262): one port's link is lost, or the SerDes reference fails and with it every link until it returns. -/
def goLinkDown (t : Nat) (x : LinkLoss) (d : Dev) : Dev :=
  match x with
  | .port p => d.linkFails t p
  | .ref156 => (List.range 4).foldl (fun e p => e.linkFails t p) { d with mgr := { d.mgr with ref156 := false } }

def execLinkDown (x : LinkLoss) (s : State) : Host.Outcome State Fault Refusal := .next (s.act fun t d => goLinkDown t x d)

end Sys2Proof.Machine
end

