-- ==== Sys2Proof/Machine/Fem.lean ====
section
/-! DEFINITION. Chains, their ports and their FEM lines as the radio's activity sets them (R204, R212, R213, R216, R226); the lines stand at the level to which the sequences of R212 settle. -/
namespace Sys2Proof.Machine

/-- A chain nothing has changed. -/
def chainReset : Nat → Chain := fun _ => {}
/-- Chain `c`, 0 to 47. -/
def Dev.chain (d : Dev) (c : Nat) : Chain := tlook chainReset d.fe.chain c
/-- Change a chain. -/
def Dev.modChain (d : Dev) (c : Nat) (f : Chain → Chain) : Dev := { d with fe := { d.fe with chain := tmod chainReset d.fe.chain c f } }
/-- The chains of a radio. -/
def chainsOf (r : Nat) : List Nat := (List.range 16).map (fun i => 16 * r + i)
/-- The home port of a chain (R227): 0 = port 1, 1 = port 2. -/
def Dev.homePort (d : Dev) (c : Nat) : Nat := d.pv 0x4050 0 c % 2
/-- The chain is in a diversity mode. -/
def Dev.diversity (d : Dev) (c : Nat) : Bool := decide (2 ≤ d.pv 0x4050 0 c)
/-- FE_CHAIN_CTRL of a chain. -/
def chainCtrlAddr (c : Nat) : Nat := 0x600100 + 4 * c
/-- The chain is under override (R226). -/
def Dev.overridden (d : Dev) (c : Nat) : Bool := (d.reg (chainCtrlAddr c)).getLsbD 31

/-- Set the lines and the port of a chain that is not under override. -/
def Dev.setFem (d : Dev) (c : Nat) (pa lna byp : Bool) (port : Nat) : Dev :=
  if d.overridden c then d else d.modChain c (fun x => { x with pa := pa, lna := lna, byp := byp, port := port })

/-! What a radio is doing. -/

/-- Play state of a radio. -/
def playReset : Nat → Play := fun _ => {}
/-- Play state of a radio. -/
def Dev.play (d : Dev) (r : Nat) : Play := tlook playReset d.pln.play r
/-- Change the play state of a radio. -/
def Dev.modPlay (d : Dev) (r : Nat) (f : Play → Play) : Dev := { d with pln := { d.pln with play := tmod playReset d.pln.play r f } }

/-- A modem that receives nothing. -/
def rxReset : Nat → Rx := fun _ => {}
/-- The reception of radio `r`. -/
def Dev.rx (d : Dev) (r : Nat) : Rx := tlook rxReset d.mdm.rx r
/-- Change it. -/
def Dev.modRx (d : Dev) (r : Nat) (f : Rx → Rx) : Dev := { d with mdm := { d.mdm with rx := tmod rxReset d.mdm.rx r f } }

/-- The radio listens or receives: in service and LOCKED (R206). -/
def Dev.hears (d : Dev) (r : Nat) : Bool := (d.radio r).inService && decide ((d.radio r).synth = .locked)

/-- PPDUs on a radio's air, those of a TXOP that are still to come among them: first sample and end. -/
def Dev.spans (d : Dev) (r : Nat) : List (Nat × Nat) := tlook (fun _ => []) d.mac.spans r

/-- Change them. -/
def Dev.modSpans (d : Dev) (r : Nat) (f : List (Nat × Nat) → List (Nat × Nat)) : Dev :=
  { d with mac := { d.mac with spans := tmod (fun _ => []) d.mac.spans r f } }

/-- The radio transmits at an instant, with the synthesiser locked (R208, R212). -/
def Dev.sends (d : Dev) (t r : Nat) : Bool :=
  decide ((d.radio r).synth = .locked) && (d.spans r).any (fun x => decide (x.1 ≤ t) && decide (t < x.2))

/-- The radio transmits or turns around in the `ns` that begin at an instant (R153, R166, R211): from 4 µs before the first sample of a PPDU to 2 µs after its last. -/
def Dev.turning (d : Dev) (t r : Nat) (ns : Nat := 1) : Bool :=
  (d.spans r).any (fun x => decide (x.1 < t + ns + 4000) && decide (t < x.2 + 2000))

/-- The radio's domain is off, held in reset, or ordered to switch off, or the device is on its way to Interval or in it (R213, R368). -/
def Dev.femOff (d : Dev) : Bool := !d.running || decide (d.gaf.state ≠ .show') || decide (d.gaf.phase = .committed)

/-- The levels of FEM_PA, FEM_LNA, FEM_BYP and FEM_SEL of a chain as the board sees them, none while they float: before boot, in reset and while the domain is off (R213, R370). -/
def Dev.femLines (d : Dev) (c : Nat) : Option (Bool × Bool × Bool × Bool) :=
  if !d.switchedOn then none
  else let x := d.chain c; some (x.pa, x.lna, x.byp, x.port == 1)

/-- The chains in use: those of the take on the air, else all, but for those under calibration (R152, R212, R219). -/
def Dev.activeMask (d : Dev) (r : Nat) : Nat :=
  (if (d.play r).phase = .onAir then (d.play r).mask else 65535) &&&
  sumN ((List.range 16).map (fun i => b2n (!(d.chain (16 * r + i)).calibrating) * 2 ^ i))

/-- The lines and port of a chain as its sequence leaves them (R212, R213, R216): all low while the radio is OFF or calibrates or the chain does, or its domain is off or about to be, which selects port 1; the low-noise amplifier while the radio receives, on the port and with the bypass that the reception has; FEM_PA on the home port while a PPDU is sent; else the low-noise amplifier on the home port. A chain outside the take's mask has neither. -/
def Dev.femChain (d : Dev) (t c : Nat) : Dev :=
  let r := c / 16
  let x := d.chain c
  if d.femOff || decide ((d.radio r).synth = .off) || decide ((d.radio r).synth = .calibrating) || x.calibrating then d.setFem c false false false 0
  else if (d.rx r).receiving then d.setFem c false (nbit (d.activeMask r) (c % 16)) x.byp x.port
  else if d.sends t r then d.setFem c (nbit (d.activeMask r) (c % 16)) false false (d.homePort c)
  else d.setFem c false (nbit (d.activeMask r) (c % 16)) false (d.homePort c)

/-- Every chain of a radio follows its sequence. -/
def Dev.femSettle (d : Dev) (t r : Nat) : Dev := (chainsOf r).foldl (fun e c => e.femChain t c) d

/-- Every chain of the device follows its sequence. -/
def Dev.femAll (d : Dev) (t : Nat) : Dev := (List.range 3).foldl (fun e r => e.femSettle t r) d

/-- The present beat is not idle on a radio. -/
def Dev.busyNow (d : Dev) (t r : Nat) : Dev := d.modRx r (fun x => { x with busyUntil := Nat.max x.busyUntil (t + 1) })

/-- A beat has passed (R212): PPDUs that began or ended in it move the lines, and those whose turnaround ended before it are forgotten, but for the end of the last. -/
def Dev.femTurn (d : Dev) (t r : Nat) : Dev :=
  let l := d.spans r
  if l.isEmpty then d
  else
    let past := l.filter (fun x => decide (x.2 + 3000 ≤ t))
    let d1 := if past.isEmpty then d
      else (d.modSpans r (fun y => y.filter (fun x => !decide (x.2 + 3000 ≤ t)))).modRx r (fun y => { y with sentTo := past.foldl (fun m x => Nat.max m x.2) y.sentTo })
    d1.femSettle t r

/-- What a radio sends is cut off at an instant. -/
def Dev.cutAir (d : Dev) (t r : Nat) : Dev :=
  if (d.spans r).isEmpty then d else d.modSpans r (fun l => (l.filter (fun x => decide (x.1 < t))).map (fun x => (x.1, Nat.min x.2 t)))

/-! Power detectors (R222). -/

/-- A power-detector reading (R222): it saturates, and one above PDET_ALARM sets PDET_HIGH. -/
def Dev.pdet (d : Dev) (t tick c : Nat) (level : Int) : Dev :=
  let v := max (-40) (min 32 level)
  let d1 := d.putReg (0x600200 + 4 * c) (packR [(unsgn 16 v, 16, 0), (tick % 65536, 16, 16)])
  if d.pvi 0x4012 0 (c / 16) < v then (d1.bump (30 + c / 16) 24).inc t 6 5 else d1

/-- A PPDU goes on the air, `x.at'` ns from `t` (R212, R222): the readings of the chains that transmit, for a data field of 8 µs or more, are written at its end, with the tick in which it began. -/
def Dev.sendPpdu (t r : Nat) (d : Dev) (x : PpduAir) : Dev :=
  let s := t + x.at'
  let mine := x.pdet.filter (fun y => y.chain / 16 == r && nbit (d.activeMask r) (y.chain % 16) && decide (8000 ≤ y.dataNs))
  let d1 := d.modSpans r (· ++ [(s, s + x.ns)])
  if mine.isEmpty then d1 else { d1 with fe := { d1.fe with readings := d1.fe.readings ++ mine.map (fun y => (s + x.ns, tickOf s, y.chain, y.level)) } }

/-- PPDUs go on the air, and the lines follow. -/
def Dev.sendAir (d : Dev) (t r : Nat) (l : List PpduAir) : Dev := (l.foldl (Dev.sendPpdu t r) d).femSettle t r

/-- The PPDUs of a take or TXOP of `ns`: those named that lie within it or, where none is named, one as long as it. -/
def ppdusOf (ns : Nat) (l : List PpduAir) : List PpduAir := if l.isEmpty then [{ ns := ns }] else l.filter (fun x => decide (x.at' + x.ns ≤ ns))

/-- Write the readings of the PPDUs that have ended. -/
def Dev.landPdet (d : Dev) (t : Nat) : Dev :=
  let due := d.fe.readings.filter (fun x => decide (x.1 ≤ t))
  if due.isEmpty then d
  else due.foldl (fun e x => e.pdet t x.2.1 x.2.2.1 x.2.2.2) { d with fe := { d.fe with readings := d.fe.readings.filter (fun x => !decide (x.1 ≤ t)) } }

/-! Channels and grants (R203, R223). -/

/-- Bandwidth in MHz of a code of R81. -/
def bwMhz (bw : Nat) : Nat := 20 * 2 ^ bw

/-- Lower edge in MHz of a channel. -/
def lowEdge (centre bw : Nat) : Nat := centre - bwMhz bw / 2

/-- The channel on which a radio's sheets for a tick are drafted (R229). -/
def Dev.chanAt (d : Dev) (r tick : Nat) : Option Channel :=
  match (d.radio r).change with
  | some (at', c) => if at' ≤ tick then some c else (d.radio r).chan
  | none => (d.radio r).chan

/-- The grant set in force in a tick (R223). -/
def Dev.grantAt (d : Dev) (tick : Nat) : Option Grant :=
  match (d.fe.grants.filter (fun g => decide (g.eff ≤ tick))).getLast? with
  | some g => if tick < g.expiry then some g else none
  | none => none

/-- A range of the set in force in a tick contains the whole channel (R223). -/
def Dev.covered (d : Dev) (tick : Nat) (c : Channel) : Bool :=
  match d.grantAt tick with
  | some g => g.ranges.any (fun x => decide (x.2.1 ≤ lowEdge c.centre c.bw) && decide (lowEdge c.centre c.bw + bwMhz c.bw ≤ x.2.2))
  | none => false

/-- Radio C is muted in a tick, under the power mode given (R223). -/
def Dev.mutedIn (d : Dev) (r tick mode : Nat) : Bool :=
  r == 2 && mode == 1 && (match d.chanAt r tick with | some c => !d.covered tick c | none => false)

/-- A judgement made ahead of the tick: with the mode most recently written (R223). -/
def Dev.mutedAhead (d : Dev) (r tick : Nat) : Bool := d.mutedIn r tick (d.written (propKey 0x4030 0 0)).toNat

/-- A transmission of a radio in service is held, for want of lock or of a grant (R208, R223). -/
def Dev.held (d : Dev) (r : Nat) : Dev :=
  if (d.radio r).inService && (decide ((d.radio r).synth ≠ .locked) || (d.radio r).muted) then d.bump (30 + r) 22 else d

/-- A response falls due (R208, R212, R222, R223): unlocked, it is not sent, counted and flagged; muted, it is held; else it goes out, and ends `ns` from now. -/
def Dev.respondAir (d : Dev) (t r ns : Nat) (readings : List PdetRead) : Dev :=
  if (d.radio r).inService && decide ((d.radio r).synth ≠ .locked) then (d.bump (30 + r) 21).inc t 6 1
  else if (d.radio r).muted then d.held r
  else if !(d.radio r).inService then d
  else d.sendAir t r [{ ns := ns, pdet := readings }]

/-! Coefficient sets and calibration (R215 to R220). -/

/-- What a coefficient set belongs to: centre, bandwidth and IF. -/
def calKey (c : Channel) : Channel := { c with primary := 0 }

/-- Image rejection of a chain's set for a channel. -/
def Chain.image (x : Chain) (c : Channel) : Option Nat := (x.sets.find? (fun s => decide (s.1 = calKey c))).map (·.2)

/-- Put a set first; the least recently used of more than eight goes (R215). -/
def Chain.keepSet (x : Chain) (c : Channel) (image : Nat) : Chain :=
  { x with sets := ((calKey c, image) :: x.sets.filter (fun s => decide (s.1 ≠ calKey c))).take 8 }

/-- The result kept of a step. -/
def Chain.result (x : Chain) (step : Nat) : Option CalStep := x.kept.find? (fun y => y.step == step)

/-- Keep a step's result; one outside its limit gives way to a better one that is stored (R217, R220). -/
def Chain.keepStep (x : Chain) (y : CalStep) : Chain :=
  match x.result y.step with
  | some old => if !y.inLimit && decide (y.merit < old.merit) then x else { x with kept := x.kept.map (fun z => if z.step = y.step then y else z) }
  | none => { x with kept := x.kept ++ [y] }

/-- A set for the channel is used again. -/
def Chain.useSet (x : Chain) (c : Channel) : Chain := match x.image c with | some i => x.keepSet c i | none => x

/-- °C of the sensor assigned to a radio (R400). -/
def Dev.radioTemp (d : Dev) (r : Nat) : Int := d.temp (2 * r)

/-- A chain of a radio in service meets a condition of R219. -/
def Dev.calDue (d : Dev) (t c : Nat) : Bool :=
  let r := c / 16
  let x := d.chain c
  (d.radio r).inService &&
  (decide (x.calTick + d.pv 0x4040 0 r ≤ tickOf t) || decide (d.pv 0x4041 0 r ≤ (d.radioTemp r - x.calTemp).natAbs) ||
    (match (d.radio r).chan with | some ch => (x.image ch).isNone | none => false))

/-- A chain falls due. -/
def Dev.setDue (d : Dev) (t c : Nat) : Dev := d.modChain c (fun x => if x.due then x else { x with due := true, dueTick := tickOf t })

end Sys2Proof.Machine
end

