-- ==== Sys2Proof/Machine/Hash.lean ====
section
/-! DEFINITION. Check values and hashes: the CRCs of R337 and R339, SHA-256, SHA-384 and HMAC (PRESUMED, log 10: the functions of FIPS 180-4 and RFC 2104, which the spec names and does not restate). -/
namespace Sys2Proof.Machine

/-! CRCs. -/

/-- Width of a CRC by POLY (R337). -/
def crcWidth : Nat → Nat
  | 0 => 32 | 1 => 32 | 2 => 16 | _ => 8

/-- The register after START (R337); reflected for POLY 0 and 1. -/
def crcInit : Nat → Nat
  | 0 => 0xFFFFFFFF | 1 => 0xFFFFFFFF | 2 => 0xFFFF | _ => 0

/-- The value XORed to give RESULT (R337). -/
def crcFinal : Nat → Nat
  | 0 => 0xFFFFFFFF | 1 => 0xFFFFFFFF | _ => 0

/-- One step of a reflected register: shift out the low bit. -/
def crcShiftR (poly reg : Nat) : Nat := if reg % 2 = 1 then (reg / 2) ^^^ poly else reg / 2

/-- One step of a register of `w` bits that is not reflected: shift out the high bit. -/
def crcShiftL (w poly reg : Nat) : Nat :=
  if reg.testBit (w - 1) then (reg * 2 % 2 ^ w) ^^^ poly else reg * 2 % 2 ^ w

/-- Apply `f` n times. -/
def iter {α : Type} (f : α → α) : Nat → α → α
  | 0, x => x
  | n + 1, x => iter f n (f x)

/-- Feed one octet (R339): the polynomials of R337, reversed for the reflected ones. -/
def crcFeed (poly reg octet : Nat) : Nat :=
  match poly with
  | 0 => iter (crcShiftR 0xEDB88320) 8 (reg ^^^ octet)
  | 1 => iter (crcShiftR 0x82F63B78) 8 (reg ^^^ octet)
  | 2 => iter (crcShiftL 16 0x1021) 8 (reg ^^^ (octet * 256))
  | _ => iter (crcShiftL 8 0x07) 8 (reg ^^^ octet)

/-- Feed octets in order. -/
def crcFeeds (poly : Nat) (reg : Nat) : List Byte → Nat
  | [] => reg
  | b :: rest => crcFeeds poly (crcFeed poly reg b.toNat) rest

/-- The check value of octets without folding (R337). -/
def crcOf (poly : Nat) (l : List Byte) : Nat := crcFeeds poly (crcInit poly) l ^^^ crcFinal poly

/-- The register after START: the address and sequence number folded in as AF and SF say (R339). -/
def crcStart (poly : Nat) (af sf : Bool) (addr seq : Nat) : Nat :=
  let r0 := crcInit poly
  let r1 := if af then crcFeeds poly r0 (leBytes addr 6) else r0
  if sf then crcFeeds poly r1 (leBytes seq 2) else r1

/-! SHA-2 and HMAC. -/

/-- The eight working variables. -/
structure ShaReg (w : Nat) where
  a : BitVec w
  b : BitVec w
  c : BitVec w
  d : BitVec w
  e : BitVec w
  f : BitVec w
  g : BitVec w
  h : BitVec w

/-- The rotation amounts and constants of one SHA-2 function. -/
structure ShaDef (w : Nat) where
  bigA : BitVec w → BitVec w
  bigE : BitVec w → BitVec w
  smallA : BitVec w → BitVec w
  smallB : BitVec w → BitVec w
  k : List (BitVec w)

/-- Word `i` of the window. -/
def win {w : Nat} (l : List (BitVec w)) (i : Nat) : BitVec w := l.getD i 0

/-- The rounds of one block: the window holds the next sixteen words of the schedule. -/
def shaRounds {w : Nat} (D : ShaDef w) : List (BitVec w) → List (BitVec w) → ShaReg w → ShaReg w
  | [], _, r => r
  | k :: ks, l, r =>
    let t1 := r.h + D.bigE r.e + ((r.e &&& r.f) ^^^ (~~~r.e &&& r.g)) + k + win l 0
    let t2 := D.bigA r.a + ((r.a &&& r.b) ^^^ (r.a &&& r.c) ^^^ (r.b &&& r.c))
    let next := D.smallB (win l 14) + win l 9 + D.smallA (win l 1) + win l 0
    shaRounds D ks (l.drop 1 ++ [next]) ⟨t1 + t2, r.a, r.b, r.c, r.d + t1, r.e, r.f, r.g⟩

/-- One block. -/
def shaBlock {w : Nat} (D : ShaDef w) (r : ShaReg w) (l : List (BitVec w)) : ShaReg w :=
  let q := shaRounds D D.k l r
  ⟨r.a + q.a, r.b + q.b, r.c + q.c, r.d + q.d, r.e + q.e, r.f + q.f, r.g + q.g, r.h + q.h⟩

/-- `n` big-endian words of `k` octets. -/
def beWords (w k : Nat) : Nat → List Byte → List (BitVec w)
  | 0, _ => []
  | n + 1, l => BitVec.ofNat w (ofBe (l.take k)) :: beWords w k n (l.drop k)

/-- `n` blocks of sixteen words of `k` octets. -/
def shaBlocks {w : Nat} (D : ShaDef w) (k : Nat) : Nat → List Byte → ShaReg w → ShaReg w
  | 0, _, r => r
  | n + 1, l, r => shaBlocks D k n (l.drop (16 * k)) (shaBlock D r (beWords w k 16 l))

/-- The message, a set bit, zeros and the length in bits, for blocks of `blk` octets. -/
def shaPad (blk lenOctets : Nat) (m : List Byte) : List Byte :=
  let z := (blk - (m.length + 1 + lenOctets) % blk) % blk
  m ++ [0x80] ++ List.replicate z 0 ++ beBytes (8 * m.length) lenOctets

/-- The fractional parts of the cube roots of the first 80 primes to 64 bits, eight to a row, the first in the highest bits: the round constants of both functions (SHA-256 takes the high half of the first 64). -/
def cubeRoots : List Nat := [
  0x428a2f98d728ae227137449123ef65cdb5c0fbcfec4d3b2fe9b5dba58189dbbc3956c25bf348b53859f111f1b605d019923f82a4af194f9bab1c5ed5da6d8118,
  0xd807aa98a303024212835b0145706fbe243185be4ee4b28c550c7dc3d5ffb4e272be5d74f27b896f80deb1fe3b1696b19bdc06a725c71235c19bf174cf692694,
  0xe49b69c19ef14ad2efbe4786384f25e30fc19dc68b8cd5b5240ca1cc77ac9c652de92c6f592b02754a7484aa6ea6e4835cb0a9dcbd41fbd476f988da831153b5,
  0x983e5152ee66dfaba831c66d2db43210b00327c898fb213fbf597fc7beef0ee4c6e00bf33da88fc2d5a79147930aa72506ca6351e003826f142929670a0e6e70,
  0x27b70a8546d22ffc2e1b21385c26c9264d2c6dfc5ac42aed53380d139d95b3df650a73548baf63de766a0abb3c77b2a881c2c92e47edaee692722c851482353b,
  0xa2bfe8a14cf10364a81a664bbc423001c24b8b70d0f89791c76c51a30654be30d192e819d6ef5218d69906245565a910f40e35855771202a106aa07032bbd1b8,
  0x19a4c116b8d2d0c81e376c085141ab532748774cdf8eeb9934b0bcb5e19b48a8391c0cb3c5c95a634ed8aa4ae3418acb5b9cca4f7763e373682e6ff3d6b2b8a3,
  0x748f82ee5defb2fc78a5636f43172f6084c87814a1f0ab728cc702081a6439ec90befffa23631e28a4506cebde82bde9bef9a3f7b2c67915c67178f2e372532b,
  0xca273eceea26619cd186b8c721c0c207eada7dd6cde0eb1ef57d4f7fee6ed17806f067aa72176fba0a637dc5a2c898a6113f9804bef90dae1b710b35131c471b,
  0x28db77f523047d8432caab7b40c724933c9ebe0a15c9bebc431d67c49c100d4c4cc5d4becb3e42b6597f299cfc657e2a5fcb6fab3ad6faec6c44198c4a475817]

/-- The `i`-th of the eight words of `w` bits in a row. -/
def rowWord (w row i : Nat) : Nat := row / 2 ^ (w * (7 - i)) % 2 ^ w

/-- Words of `w` bits from rows of eight. -/
def rowWords (w : Nat) (rows : List Nat) : List (BitVec w) :=
  rows.flatMap (fun r => (List.range 8).map (fun i => BitVec.ofNat w (rowWord w r i)))

/-- The working variables that a row of eight words gives. -/
def ShaReg.ofRow (w row : Nat) : ShaReg w :=
  let x (i : Nat) : BitVec w := BitVec.ofNat w (rowWord w row i)
  ⟨x 0, x 1, x 2, x 3, x 4, x 5, x 6, x 7⟩

/-- The eight working variables as octets, each word most significant octet first. -/
def ShaReg.octets {w : Nat} (r : ShaReg w) : List Byte :=
  [r.a, r.b, r.c, r.d, r.e, r.f, r.g, r.h].flatMap (fun x => beBytes x.toNat (w / 8))

/-- SHA-256. -/
def sha256Def : ShaDef 32 := {
  bigA := fun x => x.rotateRight 2 ^^^ x.rotateRight 13 ^^^ x.rotateRight 22
  bigE := fun x => x.rotateRight 6 ^^^ x.rotateRight 11 ^^^ x.rotateRight 25
  smallA := fun x => x.rotateRight 7 ^^^ x.rotateRight 18 ^^^ (x >>> 3)
  smallB := fun x => x.rotateRight 17 ^^^ x.rotateRight 19 ^^^ (x >>> 10)
  k := (rowWords 64 (cubeRoots.take 8)).map (fun (x : BitVec 64) => (x >>> 32).setWidth 32) }

/-- SHA-256 of a message, 32 octets. -/
def sha256 (m : List Byte) : List Byte :=
  let p := shaPad 64 8 m
  (shaBlocks sha256Def 4 (p.length / 64) p (ShaReg.ofRow 32
    0x6a09e667bb67ae853c6ef372a54ff53a510e527f9b05688c1f83d9ab5be0cd19)).octets

/-- SHA-384. -/
def sha384Def : ShaDef 64 := {
  bigA := fun x => x.rotateRight 28 ^^^ x.rotateRight 34 ^^^ x.rotateRight 39
  bigE := fun x => x.rotateRight 14 ^^^ x.rotateRight 18 ^^^ x.rotateRight 41
  smallA := fun x => x.rotateRight 1 ^^^ x.rotateRight 8 ^^^ (x >>> 7)
  smallB := fun x => x.rotateRight 19 ^^^ x.rotateRight 61 ^^^ (x >>> 6)
  k := rowWords 64 cubeRoots }

/-- SHA-384 of a message, 48 octets. -/
def sha384 (m : List Byte) : List Byte :=
  let p := shaPad 128 16 m
  ((shaBlocks sha384Def 8 (p.length / 128) p (ShaReg.ofRow 64
    0xcbbb9d5dc1059ed8629a292a367cd5079159015a3070dd17152fecd8f70e593967332667ffc00b318eb44a8768581511db0c2e0d64f98fa747b5481dbefa4fa4)).octets).take 48

/-- HMAC over a hash with blocks of `blk` octets. -/
def hmac (hash : List Byte → List Byte) (blk : Nat) (key m : List Byte) : List Byte :=
  let k0 := if blk < key.length then hash key else key
  let k := k0 ++ List.replicate (blk - k0.length) 0
  hash (k.map (· ^^^ 0x5C) ++ hash (k.map (· ^^^ 0x36) ++ m))

/-- HMAC-SHA-256. -/
def hmac256 (key m : List Byte) : List Byte := hmac sha256 64 key m
/-- HMAC-SHA-384. -/
def hmac384 (key m : List Byte) : List Byte := hmac sha384 128 key m

end Sys2Proof.Machine
end

