-- ==== Sys2Proof/Machine/Retake.lean ====
section
/-! DEFINITION. The sending side of Retake (R189 to R191, R194 to R196, R199): peers, aligned PPDUs, the originals kept until their MPDUs complete, and copy PSDUs with their maps. -/
namespace Sys2Proof.Machine

/-! Peers. -/

/-- A station without Retake. -/
def peerReset : Nat → Peer := fun _ => {}
/-- Retake as negotiated with a station. -/
def Dev.peer (d : Dev) (sid : Nat) : Peer := tlook peerReset d.dec.peers sid
/-- Change it. -/
def Dev.modPeer (d : Dev) (sid : Nat) (f : Peer → Peer) : Dev := { d with dec := { d.dec with peers := tmod peerReset d.dec.peers sid f } }

/-! Rates and lengths (R190, R195). -/

/-- Code rate by MCS (IEEE 802.11): 0 = 1/2, 1 = 2/3, 2 = 3/4, 3 = 5/6. -/
def mcsRate (mcs : Nat) : Nat :=
  match mcs with
  | 0 | 1 | 3 => 0
  | 5 => 1
  | 2 | 4 | 6 | 8 | 10 | 12 => 2
  | _ => 3

/-- Information bits of a codeword in aligned mode (R190). -/
def infoBits (rate : Nat) : Nat := match rate with | 0 => 972 | 1 => 1296 | 2 => 1458 | _ => 1620

/-- Most runs that a map holds, by code rate. -/
def maxRuns (rate : Nat) : Nat := match rate with | 0 => 17 | 1 => 24 | 2 => 28 | _ => 31

/-- Most codewords of an aligned PSDU (R190). -/
def maxPsduCw : Nat := 65536

/-- Octets of an A-MPDU subframe: a 4-octet delimiter, and the MPDU filled to a multiple of 4 (R140). -/
def subframe (n : Nat) : Nat := 4 + (n + 3) / 4 * 4

/-- Octets of the MPDU that carries some MSDUs, alone or as an A-MSDU, with 30 octets of header and FCS (PRESUMED, IEEE 802.11; log 115). -/
def mpduLen (mine : List Msdu) : Nat :=
  30 + (if mine.length = 1 then sumN (mine.map (·.len)) else sumN (mine.map (fun m => (14 + m.len + 3) / 4 * 4)))

/-- Codewords of a subframe (R190); one that begins after SERVICE, in codeword 0, shares it with those 16 bits. -/
def cwCount (rate : Nat) (afterService : Bool) (octets : Nat) : Nat :=
  ((if afterService then 16 else 0) + 8 * octets + infoBits rate - 1) / infoBits rate

/-- TID and sequence number of an MSDU's MPDU. -/
def Msdu.key (m : Msdu) : Nat × Nat := (m.tid, m.seq.getD 4096)

/-- The MPDU that an original was. -/
def Original.key (o : Original) : Nat × Nat := (o.tid, o.seq)

/-! Copies (R194 to R196, R199). -/

/-- The window of an original is open in a tick (R194). -/
def Original.openIn (o : Original) (tick : Nat) : Bool := decide (tick < o.tick + 3)

/-- A copy of an original may go out on a radio in a tick (R189): within its window, on the radio of the original unless the client combines across links. -/
def Peer.mayCopy (p : Peer) (o : Original) (r tick : Nat) : Bool := p.dl && o.openIn tick && (p.cross || o.radio == r)

/-- Codewords of copies that are outstanding. -/
def Peer.outstanding (p : Peer) : Nat := sumN ((p.sent.filter (fun o => o.copied.isSome)).map (·.count))

/-- The originals that a PPDU copies, in order, as far as RETAIN_CW, the runs of a map and the field M allow (R195, R199): `n` codewords and `runs` runs are left. -/
def chooseCopies : Nat → Nat → List Original → List Original
  | _, 0, _ => []
  | _, _, [] => []
  | n, runs + 1, o :: rest => if o.count ≤ n then o :: chooseCopies (n - o.count) runs rest else chooseCopies n (runs + 1) rest

/-- The run of an original's codewords. -/
def Original.run (o : Original) : Run := ⟨o.rsn, o.seed, o.first, o.count⟩

/-- The six octets of a run (R195). -/
def Run.bytes (x : Run) : List Byte := [BitVec.ofNat 8 x.rsn, BitVec.ofNat 8 (2 * x.seed)] ++ beBytes x.first 2 ++ beBytes x.count 2

/-- The octets of a Retake map (R195). -/
def buildMap (l : List Run) : List Byte :=
  let body := [0x52, 0x54, 0x4B, 0x01, BitVec.ofNat 8 l.length] ++ beBytes (sumN (l.map (·.count))) 2 ++ [0] ++ l.flatMap Run.bytes
  body ++ beBytes (crcOf 0 body) 4

/-! Aligned PPDUs (R190, R191). -/

/-- The codewords of the MPDUs that a PPDU sends anew, from codeword `at'` on: the first codeword and the count of each, none for what goes beyond the PSDU's 65,536. -/
def layOut (rate : Nat) : Nat → List (List Msdu) → List (List Msdu × Option (Nat × Nat))
  | _, [] => []
  | at', x :: rest =>
    let n := cwCount rate (at' == 0) (subframe (mpduLen x))
    if at' + n ≤ maxPsduCw then (x, some (at', n)) :: layOut rate (at' + n) rest else (x, none) :: layOut rate at' rest

/-- An aligned PPDU to a station with downlink Retake takes the peer's next RSN, unless that was used within 3 ticks. -/
def Peer.rsnFree (p : Peer) (tick : Nat) : Bool :=
  let last := tlook (fun _ => 0) p.lastUse p.rsn
  last == 0 || decide (last + 2 < tick + 1)

/-- The original of an MPDU sent anew in an aligned PPDU. -/
def Original.make (x : List Msdu) (tick r rsn seed rate : Nat) (span : Nat × Nat) : Original :=
  let m := x.headD { id := 0, ac := 0, len := 0, entry := 0 }
  { tid := m.tid, seq := m.seq.getD 0, tick := tick, radio := r, rsn := rsn, seed := seed, rate := rate, first := span.1, count := span.2
    retry := x.any (fun m => decide (0 < m.retries)) }

/-- SERVICE of a PPDU (R190): ALIGNED in bit 15 and the RSN in bits 14:7 of an aligned one; the other bits, and all of them in another PPDU, are 0 (PRESUMED, IEEE 802.11; log 120). -/
def serviceField (aligned : Bool) (rsn : Nat) : Nat := if aligned then 2 ^ 15 + rsn % 256 * 2 ^ 7 else 0

/-- A radio sends a PPDU with this SERVICE field. -/
def Dev.withService (d : Dev) (r v : Nat) : Dev := { d with mac := { d.mac with service := tput (fun _ => 0) d.mac.service r v } }

/-- A PPDU with some of a station's MSDUs starts (R190, R191, R195, R196, R199). Where downlink Retake is in force and the PPDU is LDPC, it is aligned: MPDUs to be copied go as codewords under a Retake map, the others as new originals with Retry set where they have failed before. The scrambler's seed is the sender's choice and so a free value (log 120); what the PSDU has no room for does not start. -/
def Dev.alignPpdu (d : Dev) (t r sid : Nat) (form : PpduForm) (ids : List Nat) : Dev :=
  let p := d.peer sid
  let tick := tickOf t
  let q := (d.sta sid).queue.filter (fun m => m.onAir == some r && ids.contains m.id)
  if q.isEmpty then d
  else if !p.dl || form.bcc || !p.rsnFree tick then d.withService r (serviceField false 0)
  else
    let keys := (q.map Msdu.key).eraseDups
    let able := if form.copies then keys.filterMap (fun k => p.sent.find? (fun o => o.key == k && o.rate == form.rate && p.mayCopy o r tick && o.copied.isNone)) else []
    let copies := chooseCopies (Nat.min 65535 (p.retainCw - p.outstanding)) (maxRuns form.rate) able
    let m := sumN (copies.map (·.count))
    let anew := (keys.filter (fun k => !copies.any (fun o => o.key == k))).map (fun k => q.filter (fun m => m.key == k))
    let laid := layOut form.rate (if m = 0 then 0 else m + 1) anew
    let seed := 1 + d.free.toNat % 127
    let made := laid.filterMap (fun x => x.2.map (Original.make x.1 tick r p.rsn seed form.rate))
    let out := laid.filter (fun x => x.2.isNone)
    let d1 := (d.drew.withService r (serviceField true p.rsn)).modPeer sid (fun p => { p with
      rsn := (p.rsn + 1) % 256, lastUse := tput (fun _ => 0) p.lastUse p.rsn (tick + 1)
      sent := (p.sent.filter (fun o => !made.any (fun n => n.key == o.key))).map (fun o => if copies.any (fun c => c.key == o.key) then { o with copied := some r } else o) ++ made
      map := if copies.isEmpty then p.map else buildMap (copies.map Original.run) })
    let d2 := if out.isEmpty then d1 else d1.modSta sid (fun s => { s with queue := s.queue.map (fun y =>
      if out.any (fun x => x.1.any (fun z => z.id == y.id)) then { y with onAir := none, started := decide (0 < y.retries) } else y) })
    let d3 := d2.bump (27 + r) 14
    if m = 0 then d3 else d3.bump (27 + r) 15 m

/-- The originals of a station are kept until their MPDUs complete (R196). -/
def Dev.keepOriginals (d : Dev) (sid : Nat) : Dev :=
  if (d.peer sid).sent.isEmpty then d
  else d.modPeer sid (fun p => { p with sent := p.sent.filter (fun o => (d.sta sid).queue.any (fun m => m.key == o.key)) })

/-- The copies to a station on a radio are no longer outstanding. -/
def Dev.settleCopies (d : Dev) (r sid : Nat) : Dev :=
  if (d.peer sid).sent.any (fun o => o.copied == some r) then
    d.modPeer sid (fun p => { p with sent := p.sent.map (fun o => if o.copied == some r then { o with copied := none } else o) })
  else d

/-- A cast entry's RETAKE is within the retention window of a tick (R189): in the uplink, of a codeword kept of the station; in the downlink, of an original that may be copied on the radio. -/
def Dev.retakeOpen (d : Dev) (r tick : Nat) (e : CastEntry) : Bool :=
  if e.uplink then (d.peer e.sid).ul && d.dec.slots.any (fun x => x.sid == e.sid && x.gone.isNone && decide (tick < x.expiry))
  else (d.peer e.sid).sent.any (fun o => (d.peer e.sid).mayCopy o r tick)

end Sys2Proof.Machine
end

