-- ==== Sys2Proof/Machine/Mac.lean ====
section
/-! DEFINITION. The wireless MAC (R119 to R150): BSSs, stations, MSDUs and their completions, contention traffic, and what is received. -/
namespace Sys2Proof.Machine

/-! Queues of the MAC (R142 to R148). -/

/-- Access category of a TID (IEEE 802.11): 0 BK, 1 BE, 2 VI, 3 VO. -/
def acOf (tid : Nat) : Nat := match tid with | 1 | 2 => 0 | 0 | 3 => 1 | 4 | 5 => 2 | _ => 3

/-! The sheet a radio plays (R92). -/

/-- Show time at the start of the tick. -/
def tickStart (t : Nat) : Nat := t / 1024000 * 1024000

/-- The sheet a radio plays now. -/
def Dev.playing (d : Dev) (t r : Nat) : Option Sheet :=
  let s := d.sheet r (tickOf t)
  if s.state = .playing && s.tick == tickOf t then some s else none

/-- A take has been shed (R99). -/
def Dev.isShed (d : Dev) (t r k : Nat) : Bool := d.pln.shed.contains (r, tickOf t, k)

/-- The next take from `k` on that has not been shed; `n` bounds the search. -/
def Dev.skipShed (d : Dev) (t r : Nat) : Nat → Nat → Nat
  | 0, k => k
  | n + 1, k => if d.isShed t r k then d.skipShed t r n (k + 1) else k

/-- The take that the radio turns to next, with the sheet. -/
def Dev.curTake (d : Dev) (t r : Nat) : Option (Sheet × Nat) :=
  match d.playing t r with
  | none => none
  | some s =>
    let k := d.skipShed t r 16 (d.play r).cur
    if k < s.takeCount then some (s, k) else none

/-- An EMLSR station is being served on another radio (R136), by a take or by a contention TXOP. -/
def Dev.emlsrBusy (d : Dev) (t r sid : Nat) : Bool :=
  (d.sta sid).emlsr && (List.range 3).any (fun q => q != r &&
    ((decide ((d.play q).phase = .onAir) &&
      (match d.playing t q with
        | some s => (s.castOf (d.play q).cur).any (fun e => e.sid == sid && !e.void)
        | none => false)) ||
    (decide (t < tlook (fun _ => 0) d.mac.txopEnd q) && (tlook (fun _ => []) d.mac.serving q).contains sid)))

/-! Sequence numbers and the start of MPDUs (R130, R135, R139, R140). -/

/-- Key slots. -/
def keySlots : Nat := 12288

/-- Longest MPDU by MPDU_MAX (R130, R140). -/
def mpduCap (code : Nat) : Nat := if code = 0 then 3895 else if code = 1 then 7991 else 11454

/-- Most octets of an A-MSDU to a station: 3,839 with MPDU_MAX 0, which stands for a station without VHT, HE or EHT (R130); else what an MPDU holds beside its 26-octet header and FCS (PRESUMED, IEEE 802.11). -/
def amsduCap (code : Nat) : Nat := if code = 0 then 3839 else mpduCap code - 30

/-- Nothing in the A-MSDU of a TID. -/
def openReset : Nat → Nat × Option Nat := fun _ => (0, none)

/-- Number the MSDUs that start now on a radio (R135): those of one TID fill A-MSDUs, each of one sequence number, as far as the station's limit lets them (DESIGN CHOICE, log 115); of enciphered ones, an A-MSDU holds those that one operation enciphered (R324). `open'` holds, for each TID, the octets in the A-MSDU being filled, and the operation that enciphered it. -/
def numberStarted (r cap : Nat) (ids : List Nat) : Table Nat → Table (Nat × Option Nat) → List Msdu → List Msdu × Table Nat
  | seqs, _, [] => ([], seqs)
  | seqs, open', m :: rest =>
    if !ids.contains m.id then let y := numberStarted r cap ids seqs open' rest; (m :: y.1, y.2)
    else if m.seq.isSome then let y := numberStarted r cap ids seqs open' rest; ({ m with started := true, onAir := some r } :: y.1, y.2)
    else
      let next := tlook (fun _ => 0) seqs m.tid
      let held := tlook openReset open' m.tid
      let n := 14 + m.len
      let joins := held.1 != 0 && held.2 == m.enc && decide (held.1 + n ≤ cap)
      let seq := if joins then (next + 4095) % 4096 else next
      let y := numberStarted r cap ids (if joins then seqs else tput (fun _ => 0) seqs m.tid ((next + 1) % 4096))
        (tput openReset open' m.tid (if joins then (held.1 + n + 3) / 4 * 4 else (n + 3) / 4 * 4, m.enc)) rest
      ({ m with started := true, onAir := some r, seq := some seq } :: y.1, y.2)

/-- Octets that the MPDUs of some MSDUs of one TID occupy, one MPDU for each sequence number. -/
def mpduOctets (l : List Msdu) : Nat := sumN (((l.map (·.seq)).eraseDups).map (fun q => subframe (mpduLen (l.filter (fun m => m.seq == q)))))

/-- TIDs of a list of MSDUs. -/
def tidsOf (l : List Msdu) : List Nat := (l.map (·.tid)).eraseDups

/-- The MSDUs that carry a station's MPDUs of one PPDU lie within the transmit windows (R139, R140): from the oldest MPDU of a TID that has not completed, as many sequence numbers as the agreement has, or one without an agreement. -/
def Sta.inWindows (s : Sta) (q : List Msdu) (ids : List Nat) : Bool :=
  let mine := q.filter (fun m => ids.contains m.id)
  (tidsOf mine).all (fun i =>
    let base := ((q.find? (fun m => m.tid == i && m.seq.isSome)).bind (·.seq)).getD 0
    (mine.filter (fun m => m.tid == i)).all (fun m => decide ((m.seq.getD 0 + 4096 - base) % 4096 < Nat.max 1 (tlook (fun _ => 0) s.baTx i))))

/-- One A-MPDU of at most `cap` octets to a station holds some MSDUs (R140). -/
def Sta.ampduHolds (s : Sta) (r cap : Nat) (ids : List Nat) : Bool :=
  let q := (numberStarted r (if s.ht then amsduCap s.mpduMax else 0) ids s.txSeq [] s.queue).1
  let mine := q.filter (fun m => ids.contains m.id)
  decide (sumN ((tidsOf mine).map (fun i => mpduOctets (mine.filter (fun m => m.tid == i)))) ≤ cap) && s.inWindows q ids

/-- The first of some MSDUs, as many as one A-MPDU holds, or one that goes alone; `n` of them are tried at most. -/
def Sta.ampduIds (s : Sta) (r cap : Nat) : Nat → List Nat → List Nat
  | 0, _ => []
  | n + 1, l => if n = 0 || s.ampduHolds r cap (l.take (n + 1)) then l.take (n + 1) else Sta.ampduIds s r cap n l

/-- MSDUs of a station that may start on the air, in queue order: those named that are on no other radio's air, and enciphered where the station has a pairwise key (R26). -/
def Sta.startable (s : Sta) (ids : List Nat) : List Nat :=
  (s.queue.filter (fun m => ids.contains m.id && m.onAir.isNone && (m.enc.isSome || decide (keySlots ≤ s.ptk)))).map (·.id)

/-- A PPDU with MPDUs that carry some of a station's MSDUs starts on a radio (R135, R140): its A-MPDU takes as many as it holds, and the others wait. -/
def Sta.start (s : Sta) (r cap : Nat) (ids : List Nat) : Sta :=
  let l := s.startable ids
  let y := numberStarted r (if s.ht then amsduCap s.mpduMax else 0) (s.ampduIds r cap l.length l) s.txSeq [] s.queue
  { s with queue := y.1, txSeq := y.2 }

/-- Most octets of one A-MPDU to a station (R140): the station's limit, 8,388,607, and property 0x2032 of the radio. -/
def Dev.ampduCap (d : Dev) (r sid : Nat) : Nat := Nat.min (Nat.min (2 ^ (13 + (d.sta sid).ampduExp) - 1) 8388607) (d.pv 0x2032 0 r)

/-- A PPDU with some MSDUs of a station starts on the air (R140, R143, R190). -/
def Dev.startMsdus (d : Dev) (t r sid : Nat) (form : PpduForm) (ids : List Nat) : Dev :=
  (d.modSta sid (fun s => s.start r (d.ampduCap r sid) ids)).alignPpdu t r sid form ids

/-- Something of the take on the air ends by the start of beat 1,000 (R96). -/
def byCut (t e : Nat) : Bool := decide (e ≤ tickStart t + 1000000)

/-- A PPDU of a take may start (R96): with the synthesiser locked (R206, R209), and early enough to end by beat 1,000 with what it solicits. -/
def Later.fits (x : Later) (t : Nat) : Bool := byCut t (Nat.max t x.at' + x.airNs)

/-- The start of some PPDU of the take has come. -/
def Play.due (p : Play) (t : Nat) : Bool := p.later.any (fun x => decide (x.at' ≤ t)) || p.air.any (fun x => decide (x.at' ≤ t))

/-- All that is still to come of a take comes later by `ns`. -/
def Play.delay (p : Play) (ns : Nat) : Play :=
  { p with later := p.later.map (fun x => { x with at' := x.at' + ns }), air := p.air.map (fun x => { x with at' := x.at' + ns }), triggers := p.triggers.map (fun x => (x.1 + ns, x.2)) }

/-- A take whose next PPDU falls due while the synthesiser is not locked holds it, and what follows it, for a beat (R209). -/
def Dev.holdPpdus (d : Dev) (t r : Nat) : Dev :=
  if decide ((d.radio r).synth ≠ .locked) && (d.play r).due t then d.modPlay r (fun p => p.delay 1000) else d

/-- The PPDUs of a take whose start has come (R96, R143, R208): not while the synthesiser is not locked, and one that no longer ends by beat 1,000 is not sent. -/
def Dev.startPpdus (d : Dev) (t r : Nat) : Dev :=
  if !(d.play r).due t || decide ((d.radio r).synth ≠ .locked) then d
  else
    let due := (d.play r).later.filter (fun x => decide (x.at' ≤ t) && x.fits t)
    let air := (d.play r).air.filter (fun x => decide (x.at' ≤ t) && byCut t (x.at' + x.ns))
    let d1 := d.modPlay r (fun p => { p with later := p.later.filter (fun x => !decide (x.at' ≤ t)), air := p.air.filter (fun x => !decide (x.at' ≤ t)) })
    ((due.map (fun x => { x with id := 0 })).eraseDups).foldl (fun e g =>
      e.startMsdus t r g.sid g.form ((due.filter (fun x => { x with id := 0 } == g)).map (·.id))) (air.foldl (Dev.sendPpdu 0 r) d1)

/-- A take without what is still to come for a station: a PPDU for nobody else is not sent. -/
def Play.without (p : Play) (sid : Nat) : Play :=
  let rest := p.later.filter (fun x => x.sid != sid)
  { p with later := rest, air := p.air.filter (fun y => !p.later.any (fun x => x.at' == y.at') || rest.any (fun x => x.at' == y.at')) }

/-- A station is sent no further PPDU in the takes on the air (R132, R144). -/
def Dev.cutShort (d : Dev) (sid : Nat) : Dev :=
  (List.range 3).foldl (fun e r => if (e.play r).later.any (fun x => x.sid == sid) then e.modPlay r (fun p => p.without sid) else e) d

/-- A trigger names a station no more; one that names nobody is not sent. -/
def withoutUser (sid : Nat) (l : List (Nat × List (Nat × Int))) : List (Nat × List (Nat × Int)) :=
  (l.map (fun x => (x.1, x.2.filter (fun u => u.1 != sid)))).filter (fun x => !x.2.isEmpty)

/-- No uplink from a station is solicited in the takes on the air (R132). -/
def Dev.unsolicited (d : Dev) (sid : Nat) : Dev :=
  (List.range 3).foldl (fun e r =>
    if (e.play r).triggers.any (fun x => x.2.any (fun u => u.1 == sid)) then e.modPlay r (fun p => { p with triggers := withoutUser sid p.triggers }) else e) d

/-- Bring BACKLOG of a call sheet up to date with the station's queue (R90). -/
def Dev.syncBacklog (d : Dev) (sid : Nat) : Dev :=
  let q := (d.sta sid).queue
  let n (ac : Nat) : Nat := msduOctets (q.filter (fun m => m.ac == ac)) % 2 ^ 40
  d.modCall sid (fun c => { c with backlogBk := n 0, backlogBe := n 1, backlogVi := n 2, backlogVo := n 3 })

/-- An MSDU's completion (R148): counted, and reported to the ring it came from. -/
def Dev.msduDone (d : Dev) (r : Nat) (m : Msdu) (code : Nat) : Dev :=
  (d.bump (21 + r) (11 + code)).finish (m.ring.map (fun g => (g, m.cookie))) { status := code }

/-- The tenant of a station. -/
def Dev.staTenant (d : Dev) (sid : Nat) : Nat := (d.bssAt (d.sta sid).bss).tenant

/-- An MSDU leaves what the MAC holds for its tenant (R320). -/
def Dev.leftMac (d : Dev) (ten : Nat) (m : Msdu) : Dev := d.noteDelay (640 + ten) m.since

/-- Complete a frame of a BSS's own queue and take it out. -/
def Dev.bssOut (d : Dev) (r b : Nat) (m : Msdu) (code : Nat) : Dev :=
  ((d.leftMac (d.bssAt b).tenant m).modBss b (fun x => { x with
    groupHeld := x.groupHeld.filter (fun y => y.id != m.id), groupQueue := x.groupQueue.filter (fun y => y.id != m.id) })).msduDone r m code

/-- Complete an MSDU of a station's queue and take it out. -/
def Dev.msduOut (d : Dev) (r sid : Nat) (m : Msdu) (code : Nat) : Dev :=
  ((((d.leftMac (d.staTenant sid) m).modSta sid (fun s => { s with
    queue := s.queue.filter (fun x => x.id != m.id), released := s.released.filter (· != m.id) })).syncBacklog sid).keepOriginals sid).msduDone r m code

/-- Lifetime in ns of an MSDU (R143, R150). -/
def Dev.lifeNs (d : Dev) (ten ac : Nat) : Nat := d.pv 0x2021 ten ac * 1000000

/-- How one MSDU fared on the air (R142, R143): acknowledged ones complete OK; the others count a retry and complete RETRY_LIMIT, LIFETIME or, for a removed station, STA_GONE, or wait for the next attempt. -/
def Dev.staOutcome (d : Dev) (t r sid : Nat) (m : Msdu) (acked : Bool) : Dev :=
  let ten := d.staTenant sid
  if acked then d.msduOut r sid m 0
  else if !(d.sta sid).used then d.msduOut r sid m 4
  else
    let d1 := d.bump (21 + r) 27
    if d.pv 0x2020 ten m.ac < m.retries + 1 then d1.msduOut r sid m 1
    else if m.entry + d.lifeNs ten m.ac ≤ t then d1.msduOut r sid m 2
    else d1.modSta sid (fun s => { s with queue := s.queue.map (fun x => if x.id = m.id then { x with retries := x.retries + 1, started := true, onAir := none } else x) })

/-- The BSS that holds a frame of its own to send, by the frame's number. -/
def Dev.bssFrame (d : Dev) (id : Nat) : Option (Nat × Msdu) :=
  d.mac.bss.findSome? (fun e => (e.2.groupQueue.find? (fun m => m.id == id)).map (fun m => (e.1, m)))

/-- Apply one outcome, of a station's MSDU or of a frame that a BSS sends (group-addressed or from a WTX ring). -/
def Dev.outcome (d : Dev) (t r : Nat) (o : MsduOutcome) : Dev :=
  let d0 := d.bump (21 + r) 23
  match (d.sta o.sid).queue.find? (fun m => m.id == o.id) with
  | some m => (d0.bump (21 + r) 25 m.len).staOutcome t r o.sid m o.acked
  | none =>
    match d.bssFrame o.id with
    | none => d
    | some (b, m) =>
      let d1 := d0.bump (21 + r) 25 m.len
      if o.acked then d1.bssOut r b m 0
      else if d.pv 0x2020 (d.bssAt b).tenant m.ac < m.retries + 1 then (d1.bump (21 + r) 27).bssOut r b m 1
      else (d1.bump (21 + r) 27).modBss b (fun x => { x with groupQueue := x.groupQueue.map (fun y => if y.id = m.id then { y with retries := y.retries + 1, started := true } else y) })

/-- A TID of a station is mapped on a radio, downlink or uplink (R130, R131). -/
def Dev.tidOn (d : Dev) (sid r tid : Nat) (up : Bool) : Bool :=
  nbit (if up then (d.sta sid).ulMap else (d.sta sid).dlMap) (3 * tid + r)

/-- Some TID of an access category is mapped on a radio, downlink or uplink (R131). -/
def Dev.acOn (d : Dev) (sid r ac : Nat) (up : Bool) : Bool :=
  (List.range 8).any (fun t => acOf t == ac && d.tidOn sid r t up)

/-! What goes on the air enciphered (R26, R147). -/

/-- A management frame is robust (PRESUMED, IEEE 802.11): Disassociation, Deauthentication, and action frames of a category that is not public. -/
def robustFrame (f : List Byte) : Bool :=
  let k := octAt f 0 / 16
  k == 10 || k == 12 || (k == 13 && !([4, 7, 11, 15, 20, 127] : List Nat).contains (octAt f 24))

/-- The station of a BSS that an individually addressed frame is for. -/
def Dev.frameSta (d : Dev) (b : Nat) (f : List Byte) : Option Nat :=
  (d.mac.sta.find? (fun e => d.inBss b e.2 && e.2.link (radioOf b) == beAt f 4 6)).map (·.1)

/-- A frame that a BSS sends must be enciphered first: a robust one, to a station with PMF or, group-addressed, on a BSS with PMF. -/
def Dev.frameWantsKey (d : Dev) (b : Nat) (f : List Byte) : Bool :=
  robustFrame f &&
  (if nbit (octAt f 4) 0 then (d.bssAt b).pmf != 0 else match d.frameSta b f with | some sid => (d.sta sid).pmf | none => false)

/-- No unprotected copy of what an outcome is about can have been sent (R26): a keyed station's MSDU has been enciphered, and a protected frame of a BSS too. -/
def Dev.sealed (d : Dev) (o : MsduOutcome) : Bool :=
  match (d.sta o.sid).queue.find? (fun m => m.id == o.id) with
  | some m => m.enc.isSome || decide (keySlots ≤ (d.sta o.sid).ptk)
  | none => match d.bssFrame o.id with
    | some (b, m) => m.enc.isSome || !d.frameWantsKey b m.data
    | none => true

/-- A frame of a BSS is group-addressed. -/
def groupFrame (m : Msdu) : Bool := nbit (octAt m.data 4) 0

/-- A BSS may send a frame of its own now (R145): a group-addressed one waits for the DTIM while some station dozes. -/
def Dev.frameFree (d : Dev) (t b : Nat) (m : Msdu) : Bool := !groupFrame m || m.dtim || !d.someDoze t b

/-- The MSDU of a station that an outcome is about. -/
def Dev.outMsdu (d : Dev) (o : MsduOutcome) : Option Msdu := (d.sta o.sid).queue.find? (fun m => m.id == o.id)

/-- A TXOP of BSS `b` for an access category may carry what an outcome is about (R131, R136 to R138, R144 to R146): a station's MSDU of that access category, where the station has a link in the BSS and its TID is mapped on the radio, to a dozing station only once it has been released, to an EMLSR station only while no other radio serves it, and not while it is on another radio's air; or a frame of the BSS's own. -/
def Dev.mayReach (d : Dev) (t r b ac : Nat) (o : MsduOutcome) : Bool :=
  d.sealed o &&
  (match d.outMsdu o with
    | some m => m.ac == ac && m.onAir.isNone && d.inBss b (d.sta o.sid) && d.tidOn o.sid r m.tid false &&
        (!d.dozing t o.sid || (d.sta o.sid).released.contains o.id) && !d.emlsrBusy t r o.sid
    | none => match d.bssFrame o.id with
      | some (k, m) => k == b && m.ac == ac && d.frameFree t b m
      | none => false)

/-- A PPDU with the MSDU has started in the take on a radio's air (R131, R143, R144). -/
def Dev.wasSent (d : Dev) (r : Nat) (o : MsduOutcome) : Bool := (d.outMsdu o).any (fun m => m.onAir == some r)

/-- Data PPDUs to a station among the `n` that were sent: an exchange with an EMLSR station opens with an MU-RTS, which is one of them (R136). -/
def Dev.dataPpdus (d : Dev) (sid n : Nat) : Nat := if (d.sta sid).emlsr then n - 1 else n

/-- The outcomes that a take of `n` PPDUs, the longest of `longest` ns, can have had on a radio: of what was on the air, to stations that were sent a PPDU of data, none of it longer than R140 lets it be. -/
def Dev.carried (d : Dev) (r n longest : Nat) (l : List MsduOutcome) : List MsduOutcome :=
  if 5484000 < longest then [] else l.filter (fun o => d.wasSent r o && d.dataPpdus o.sid n != 0)

/-! Block-ack agreements as the originator (R139). -/

/-- The MAC has a frame of its own to send: 1 ADDBA Response, 2 SA Query Response, 3 SA Query Request, 4 TWT accept, 5 TWT alternate or dictate, 6 ADDBA Request. -/
def Dev.ownFrame (d : Dev) (sid kind : Nat) : Dev := { d with mac := { d.mac with ownTx := d.mac.ownTx ++ [{ sid := sid, kind := kind }] } }

/-- An ADDBA Request for a TID of a station that has neither an agreement nor a request outstanding: it asks for property 0x2030. When to ask is the MAC's own choice (DESIGN CHOICE, log 116): as an MSDU of the TID is queued. -/
def Dev.askBa (d : Dev) (sid tid : Nat) : Dev :=
  if tlook (fun _ => 0) (d.sta sid).baTx tid ≠ 0 || tlook (fun _ => 0) (d.sta sid).baAsk tid ≠ 0 then d
  else (d.modSta sid (fun s => { s with baAsk := tput (fun _ => 0) s.baAsk tid (d.pv 0x2030) })).ownFrame sid 6

/-- MSDU length of an Ethernet II frame: its addresses go, an RFC 1042 header of 6 octets comes before the EtherType (R141, R280). -/
def msduLen (octets : List Byte) : Nat := octets.length - 6

/-- A frame as the MSDU of R280, behind its two addresses: an RFC 1042 header takes its place before the EtherType (R294). -/
def msduOf (f : List Byte) : List Byte := f.take 12 ++ [0xAA, 0xAA, 0x03, 0, 0, 0] ++ f.drop 12

/-- A frame bound for a station joins its access category's queue (R141, R145, R313). -/
def Dev.toStation (d : Dev) (t sid : Nat) (p : Pkt) : Dev :=
  let s := d.sta sid
  let r := radioOf s.bss
  let n := msduLen p.octets
  let m : Msdu := { id := d.mac.nextId, ac := acOf p.tc, tid := p.tc % 8, len := n, entry := t, since := d.glb.up, ring := p.desc.map (·.1), cookie := (p.desc.map (·.2)).getD 0, data := msduOf p.octets }
  if !s.used then (d.dropped t p.tenant).msduDone r m 4
  else if 2304 < n then (d.dropped t (d.staTenant sid)).msduDone r m 3
  else if d.wifiFull (d.staTenant sid) n then d.tailDrop t (d.staTenant sid) p.desc
  else if d.dozing t sid && decide (d.pv 0x2041 (d.staTenant sid) * 1024 < msduOctets s.queue + n) then (d.dropped t (d.staTenant sid)).msduDone r m 7
  else
    let d1 := ((d.modSta sid (fun s => { s with queue := s.queue ++ [m] })).syncBacklog sid).askBa sid (p.tc % 8)
    let d2 := if d.dozing t sid then d1.bump (21 + r) 28 else d1
    (({ d2 with mac := { d2.mac with nextId := d2.mac.nextId + 1 } } : Dev).bump 36 8).bump 36 9 n |>.hbmOctets 0 (if p.desc.isNone then n else 0)

/-! BSSs (R119 to R126). -/

/-- Running BSSs other than `b`. -/
def Dev.otherBss (d : Dev) (b : Nat) : List (Nat × Bss) := d.mac.bss.filter (fun e => e.1 != b && e.2.running)

/-- Running BSSs of a radio that use beacon phase `p`. -/
def Dev.phaseUse (d : Dev) (r p : Nat) : Nat := (d.mac.bss.filter (fun e => e.2.running && radioOf e.1 == r && e.2.phase == p)).length

/-- The lowest phase below `k` that is used least (R123). -/
def Dev.choosePhase (d : Dev) (r k : Nat) : Nat :=
  ((List.range k).foldl (fun (best : Nat × Nat) p => if d.phaseUse r p < best.2 then (p, d.phaseUse r p) else best) (0, d.phaseUse r 0)).1

/-- BSS_START (R123, R125). The DTIM count starts at 0, so that the first beacon is a DTIM (DESIGN CHOICE, log 112, beside R124); what the planner reckons for the airtime of the first beacon is a free value, that of the last one sent taking its place (log 113). -/
def goBssStart (t : Nat) (who : Master) (req : List Word) (template : Option (List Byte)) (d : Dev) : Dev :=
  d.mbxNow t (fixedSpec 0x200 true 5 [(1, [(63, 48)]), (2, [(63, 44), (15, 14)]), (4, [(63, 12)])]) who req (fun d =>
    let w2 := wd req 2
    let bssid := fld (wd req 1) 47 0
    let ten := fld w2 43 40
    let k := fld w2 39 24
    let dtim := fld w2 23 16
    let pmf := fld w2 13 12
    let bp := nbit w2.toNat 11
    let mld := fld w2 10 6
    let b := fld w2 5 0
    let len := fld (wd req 4) 11 0
    let x := d.bssAt b
    let bytes : List Byte := if len = 0 then [] else ((template.getD []) ++ List.replicate len 0).take len
    judged d [
      (decide (47 < b) || pmf == 3 || (bp && pmf == 0) || k == 0 || dtim == 0 || decide (1000 < k) || decide (2048 < len) ||
        fld (wd req 3) 1 0 != 0 || (decide (16 ≤ mld) && mld != 31), .badParam),
      (x.running && (x.bssid != bssid || x.tenant != ten || x.mld != mld || x.beaconTu != k || x.dtim != dtim || x.pmf != pmf || x.beaconProt != bp), .wrongState),
      (mld != 31 && (d.otherBss b).any (fun e => e.2.mld == mld && (radioOf e.1 == radioOf b || e.2.tenant != ten)), .wrongState),
      ((d.otherBss b).any (fun e => e.2.bssid == bssid), .wrongState),
      (!(d.radio (radioOf b)).inService, .wrongState),
      (len != 0 && template.isNone, .timeout)] (fun d =>
        let d0 := d.bump 2 30 len
        if x.running then (.ok, [packW [(x.phase, 16, 0)]], d0.modBss b (fun x => { x with nextTemplate := some bytes }))
        else
          let ph := d.choosePhase (radioOf b) k
          (.ok, [packW [(ph, 16, 0)]], (d0.modBss b (fun x => {
            running := true, bssid := bssid, tenant := ten, mld := mld, beaconTu := k, dtim := dtim, pmf := pmf, beaconProt := bp
            template := bytes, phase := ph, firstTick := tickOf t + 2, updCount := x.updCount, beaconNs := d.free.toNat % 1024000 })).drew)))

def execBssStart (f : Nat) (req : List Word) (template : Option (List Byte)) (s : State) : Host.Outcome State Fault Refusal :=
  .next (s.act fun t d => goBssStart t (.fn f) req template d)

/-- Release what is left of a removed station's queue. -/
def Dev.goneRest (d : Dev) (sid : Nat) : Dev :=
  (d.sta sid).queue.foldl (fun e m => e.msduOut (radioOf (d.sta sid).bss) sid m 4) d

/-- Remove a station (R132, R198): its call sheet is no longer valid, queued MSDUs complete STA_GONE, drafts drop the SID, its agreements and retained Retake data end, no uplink from it is solicited, and the SID is reserved (R133) with its addresses, from which nothing more is answered. What it sent that is still held, for reordering or for the cipher, is discarded undelivered (DESIGN CHOICE, log 138, beside R132). -/
def Dev.removeSta (d : Dev) (t sid : Nat) : Dev :=
  let s := d.sta sid
  let d1 := (s.queue.filter (fun m => m.onAir.isNone)).foldl (fun e m => e.msduOut (radioOf s.bss) sid m 4) d
  let d2 := ((d1.modSta sid (fun s => { bss := s.bss, queue := s.queue, addr := s.addr, linkA := s.linkA, linkB := s.linkB, linkC := s.linkC })).cutShort sid).unsolicited sid
  let d3 := d2.modCall sid (fun c => { c with valid := false, retake := false })
  { d3 with
    mac := { d3.mac with removed := d3.mac.removed ++ [(sid, tickOf t)], ownTx := d3.mac.ownTx.filter (fun x => x.sid != sid), unverified := d3.mac.unverified.filter (fun x => x.sid != sid) }
    mdm := { d3.mdm with steering := (List.range 3).foldl (fun m r => tdel (r * 4096 + sid) m) d3.mdm.steering, sounded := (List.range 3).foldl (fun m r => tdel (r * 4096 + sid) m) d3.mdm.sounded }
    pln := { d3.pln with sheets := tmap sheetReset (fun _ x => x.dropSid sid) d3.pln.sheets }
    dec := { d3.dec with
      slots := d3.dec.slots.filter (fun x => x.sid != sid), peers := tdel sid d3.dec.peers
      passed := d3.dec.passed.filter (fun x => x.1 != sid), running := d3.dec.running.map (fun x => if x.sid = sid && x.combine then { x with toMac := false } else x) } }

/-- Stations associated through a BSS, and those with a link in it, in SID order (R126). -/
def Dev.bssStations (d : Dev) (b : Nat) : List Nat :=
  (d.mac.sta.filter (fun e => d.inBss b e.2)).map (·.1)

/-- BSS_STOP (R126). -/
def goBssStop (t : Nat) (who : Master) (req : List Word) (d : Dev) : Dev :=
  d.mbxNow t (fixedSpec 0x201 true 2 [(1, [(63, 9), (7, 6)])]) who req (fun d =>
    let b := fld (wd req 1) 5 0
    let force := nbit (wd req 1).toNat 8
    let sids := d.bssStations b
    judged d [(decide (47 < b), .badParam), (!(d.bssAt b).running, .wrongState), (!force && !sids.isEmpty, .wrongState)] (fun d =>
      let d1 := sids.foldl (fun e sid => e.removeSta t sid) d
      let x := d1.bssAt b
      let d2 := d1.modBss b (fun x => { x with running := false, groupHeld := [], groupQueue := [], nextTemplate := none, bcastTwt := [], deauth := true, enc := [] })
      (.ok, [], (x.groupHeld ++ x.groupQueue).foldl (fun e m => (e.leftMac x.tenant m).finish (m.ring.map (fun g => (g, m.cookie))) { status := 8 }) d2)))

def execBssStop (f : Nat) (req : List Word) (s : State) : Host.Outcome State Fault Refusal :=
  .next (s.act fun t d => goBssStop t (.fn f) req d)

/-! Stations (R127 to R134). -/

/-- The three link addresses of a request's words 3 to 5. -/
def staLinks (req : List Word) : List Nat := [fld (wd req 3) 47 0, fld (wd req 4) 47 0, fld (wd req 5) 47 0]

/-- LINKS (R90): the radios that hold a link. -/
def linkMask (a b c : Nat) : Nat := b2n (a != 0) + 2 * b2n (b != 0) + 4 * b2n (c != 0)

/-- A TID map sets a bit for a radio without a link. -/
def mapBad (links map : Nat) : Bool := (List.range 24).any (fun i => nbit map i && !nbit links (i % 3))

/-- Addresses that a station record uses. -/
def Sta.addrs (s : Sta) : List Nat := [s.addr, s.linkA, s.linkB, s.linkC].filter (· != 0)

/-- SIDs in use or awaiting release (R133). -/
def Dev.sidTaken (d : Dev) (sid : Nat) : Bool := (d.sta sid).used || d.mac.removed.any (fun x => x.1 == sid)

/-- The lowest SID that is neither in use nor awaiting release (R130). -/
def Dev.freeSid (d : Dev) : Option Nat := (List.range 4096).find? (fun sid => !d.sidTaken sid)

/-- Claims of a STA_ADD (R131): the AID and every address within the AID space. -/
def staClaims (space aid : Nat) (addrs : List Nat) : List Nat :=
  (2 * (space * 2048 + aid)) :: addrs.map (fun a => 2 * (space * 2 ^ 48 + a) + 1)

/-- Length and reserved fields of STA_ADD. -/
def staAddSpec : CmdSpec := fixedSpec 0x210 false 8 [(1, [(63, 48)]), (2, [(63, 57), (52, 49), (31, 26), (15, 0)]), (3, [(63, 48)]),
  (4, [(63, 48)]), (5, [(63, 48)]), (6, [(63, 48)]), (7, [(63, 24), (20, 20), (12, 12), (4, 4)])]

/-- STA_ADD (R130, R131). The records that its WRONG_STATE row meets are those that stood before the beat; one made in this beat is the winner of a contest, which the BUSY row judges (DEDUCED, log 137). Whether a station with MPDU_MAX 0 has HT is not in the request, and is a free value (log 115). -/
def goStaAdd (t : Nat) (who : Master) (req : List Word) (d : Dev) : Dev :=
  d.mbxNow t staAddSpec who req (fun d =>
    let w2 := wd req 2
    let addr := fld (wd req 1) 47 0
    let mld := nbit w2.toNat 56
    let emlsr := nbit w2.toNat 55
    let b := fld w2 48 43
    let aid := fld w2 42 32
    let ls := staLinks req
    let links := linkMask (ls.getD 0 0) (ls.getD 1 0) (ls.getD 2 0)
    let ul := fld (wd req 6) 47 24
    let dl := fld (wd req 6) 23 0
    let caps := fld (wd req 7) 23 0
    let x := d.bssAt b
    let space := d.aidSpace b
    let addrs := addr :: ls.filter (· != 0)
    let hasBss (r : Nat) : Bool := x.mld != 31 && d.mac.bss.any (fun e => e.2.running && e.2.mld == x.mld && radioOf e.1 == r)
    let mates := d.mac.sta.filter (fun e => e.2.used && d.aidSpace e.2.bss == space && !d.claimed .sid (2 * (space * 2048 + e.2.aid)))
    let claims := staClaims space aid addrs
    judged d [
      (!who.isF0 && decide (b ≤ 47) && (!x.running || x.tenant != who.tenant), .notPermitted),
      (decide (47 < b) || aid == 0 || decide (2007 < aid) || fld w2 25 24 == 3 || decide (10 < fld w2 23 20) || links == 0 ||
        (mld && x.running && (List.range 3).any (fun r => nbit links r && !hasBss r)) || mapBad links ul || mapBad links dl ||
        (List.range 3).any (fun r => decide (maxBw r < nbits caps (8 * r + 7) (8 * r + 5))) || (emlsr && !mld) ||
        (!mld && (links != 2 ^ radioOf b || ls.getD (radioOf b) 0 != addr)), .badParam),
      (!x.running, .wrongState),
      (mates.any (fun e => e.2.aid == aid) || mates.any (fun e => e.2.addrs.any (fun a => addrs.contains a)), .wrongState),
      (claims.any (fun k => d.claimed .sid k), .busy),
      (d.freeSid.isNone, .noResource)] (fun d =>
        let sid := d.freeSid.getD 0
        let d1 := d.modSta sid (fun _ => {
          used := true, addr := addr, mld := mld, emlsr := emlsr, pmf := nbit w2.toNat 54, retakeOffered := nbit w2.toNat 53, bss := b, aid := aid
          mpduMax := fld w2 25 24, ampduExp := fld w2 23 20, uapsd := fld w2 19 16, linkA := ls.getD 0 0, linkB := ls.getD 1 0, linkC := ls.getD 2 0
          ulMap := ul, dlMap := dl, caps := caps, ht := fld w2 25 24 != 0 || d.free.getLsbD 0 })
        let d2 := d1.modCall sid (fun _ => { valid := true, tenant := x.tenant, bss := b, links := links, trackPref := d.pv 0x1032 0 sid, cfoEst := 0x8000 })
        (.ok, [packW [(sid, 12, 0)]], claims.foldl (fun e k => e.claim .sid k) (if fld w2 25 24 = 0 then d2.drew else d2))))

def execStaAdd (f : Nat) (req : List Word) (s : State) : Host.Outcome State Fault Refusal :=
  .next (s.act fun t d => goStaAdd t (.fn f) req d)

/-- The rows that STA_REMOVE and STA_QUERY judge (R132, R134). -/
def Dev.sidRows (d : Dev) (who : Master) (sid : Nat) : List (Bool × Status) :=
  [(!(d.sta sid).used, .wrongState), (!d.ownsSta who sid, .notPermitted)]

/-- STA_REMOVE (R132). -/
def goStaRemove (t : Nat) (who : Master) (req : List Word) (d : Dev) : Dev :=
  d.mbxNow t (fixedSpec 0x211 false 2 [(1, [(63, 12)])]) who req (fun d =>
    let sid := fld (wd req 1) 11 0
    judged d (d.sidRows who sid) (fun d => (.ok, [], d.removeSta t sid)))

def execStaRemove (f : Nat) (req : List Word) (s : State) : Host.Outcome State Fault Refusal :=
  .next (s.act fun t d => goStaRemove t (.fn f) req d)

/-- PS of a station (R134): 2 outside the service periods of its TWT agreements, 1 dozing, else 0. -/
def Sta.ps (s : Sta) (t : Nat) : Nat :=
  if s.outside t then 2 else if s.doze then 1 else 0

/-- A bit map of the TIDs 0 to 7 that pass a test. -/
def tidMap (f : Nat → Bool) : Nat := sumN ((List.range 8).map (fun i => b2n (f i) * 2 ^ i))

/-- A receive agreement that has not been made. -/
def baReset : Nat → BaRx := fun _ => {}

/-- STA_QUERY (R134). -/
def goStaQuery (t : Nat) (who : Master) (req : List Word) (d : Dev) : Dev :=
  d.mbxNow t (fixedSpec 0x212 false 2 [(1, [(63, 12)])]) who req (fun d =>
    let sid := fld (wd req 1) 11 0
    judged d (d.sidRows who sid) (fun d =>
      let s := d.sta sid
      let c := d.callOf sid
      let w2 := packW [(sid, 12, 0), (s.uapsd, 4, 16), (s.ampduExp, 4, 20), (s.mpduMax, 2, 24), (s.aid, 11, 32), (s.bss, 6, 43),
        (d.staTenant sid, 4, 49), (b2n s.retakeOffered, 1, 53), (b2n s.pmf, 1, 54), (b2n s.emlsr, 1, 55), (b2n s.mld, 1, 56),
        (c.links, 3, 57), (s.ps t, 2, 60), (b2n c.retake, 1, 62)]
      let w7 := packW [(tidMap (fun i => tlook (fun _ => 0) s.baTx i != 0), 8, 0), (tidMap (fun i => (tlook baReset s.baRx i).on), 8, 8), (s.ptk, 14, 16)]
      (.ok, [packW [(s.addr, 48, 0)], w2, packW [(s.linkA, 48, 0)], packW [(s.linkB, 48, 0)], packW [(s.linkC, 48, 0)],
        packW [(s.dlMap, 24, 0), (s.ulMap, 24, 24)], w7], d)))

def execStaQuery (f : Nat) (req : List Word) (s : State) : Host.Outcome State Fault Refusal :=
  .next (s.act fun t d => goStaQuery t (.fn f) req d)

/-- SID_RELEASE (R133): SIDs removed at least two ticks ago may be used again. -/
def goSidRelease (t : Nat) (d : Dev) : Dev :=
  let due := d.mac.removed.filter (fun x => decide (x.2 + 2 ≤ tickOf t))
  let d1 := due.foldl (fun e x => e.goneRest x.1) d
  { d1 with mac := { d1.mac with
    removed := d1.mac.removed.filter (fun x => !decide (x.2 + 2 ≤ tickOf t))
    sta := due.foldl (fun m x => tdel x.1 m) d1.mac.sta } }

def execSidRelease (s : State) : Host.Outcome State Fault Refusal := .next (s.act fun t d => goSidRelease t d)

/-- WMAC_STA_COUNT. -/
def Dev.staCount (d : Dev) : Reg := packR [((d.mac.sta.filter (fun e => e.2.used)).length, 13, 0), (d.mac.removed.length, 13, 16)]

/-! Contention traffic (R94, R123, R124, R138). -/

/-- The radio may transmit: in service, locked, not muted (R98, R223). -/
def Dev.mayTransmit (d : Dev) (r : Nat) : Bool :=
  (d.radio r).inService && decide ((d.radio r).synth = .locked) && !(d.radio r).muted

/-- Start of the ES beat of the radio's next take, in this tick or the next; none when neither sheet has one to come (R94). -/
def Dev.nextEs (d : Dev) (t r : Nat) : Option Nat :=
  let now := d.sheet r (tickOf t)
  let nxt := d.sheet r (tickOf t + 1)
  let k := d.skipShed t r 16 (d.play r).cur
  if now.state = .playing && now.tick == tickOf t && decide (k < now.takeCount) then some (tickStart t + (now.take k).es * 1000)
  else if nxt.tick == tickOf t + 1 && decide (nxt.state ≠ .dark) && decide (nxt.state ≠ .empty) && decide (0 < nxt.takeCount) then
    some (tickStart t + 1024000 + (nxt.take 0).es * 1000)
  else none

/-- A full calibration or a channel change of the radio begins at beat 1,000 of this tick (R218, R229). -/
def Dev.leavesAt1000 (d : Dev) (t r : Nat) : Bool :=
  (d.radio r).fullCalAt.contains (tickOf t + 1) ||
  (match (d.radio r).change with | some (k, _) => k == tickOf t + 1 | none => false)

/-- The medium of radio `r` is free for contention traffic of `ns` nanoseconds (R93, R94, R153, R228): the first tick after the radio's start has come, the modem receives nothing, no take contends or is on the air, no other TXOP runs, and it ends by the next take's ES beat, or by beat 1,000 where the radio leaves the channel then (R218, R229). -/
def Dev.txopFits (d : Dev) (t r ns : Nat) : Bool :=
  d.mayTransmit r && decide ((d.radio r).airFrom ≤ tickOf t) && !(d.rx r).receiving && decide ((d.play r).phase = .idle) && decide (tlook (fun _ => 0) d.mac.txopEnd r ≤ t) &&
  (match d.nextEs t r with | some e => decide (t + ns ≤ e) | none => true) &&
  (!d.leavesAt1000 t r || decide (t + ns ≤ tickStart t + 1000000))

/-- A TXOP lasts until `t + ns`, and its PPDUs go on the air (R212). -/
def Dev.air (d : Dev) (t r ns : Nat) (l : List PpduAir) : Dev :=
  ({ d with mac := { d.mac with txopEnd := tput (fun _ => 0) d.mac.txopEnd r (t + ns) } } : Dev).sendAir t r l

/-- A beacon of BSS `b` is due: this tick is a TBTT and its beacon is neither sent nor skipped (R123). -/
def Dev.beaconOwed (d : Dev) (t b : Nat) : Bool :=
  let x := d.bssAt b
  x.running && x.beaconTu != 0 && decide (x.firstTick ≤ tickOf t) && tickOf t % x.beaconTu == x.phase && x.beaconDue != tickOf t + 1

/-- The advertised EDCA set of a BSS (R137): AIFSN, ECWmin, ECWmax and TXOP limit of each access category. -/
def Dev.advSet (d : Dev) (b : Nat) : List Nat := (List.range 4).flatMap (fun ac => (List.range 4).map (fun k => d.pv (0x2018 + k) 0 (4 * b + ac)))

/-- A change of a BSS's advertised set comes into force at this tick boundary: the next beacon says so (R137). -/
def Dev.markAdv (d : Dev) : Dev :=
  let moved (b : Nat) : Bool := (List.range 4).any (fun ac => (List.range 4).any (fun k =>
    decide ((d.written (propKey (0x2018 + k) 0 (4 * b + ac))).toNat ≠ d.pv (0x2018 + k) 0 (4 * b + ac))))
  { d with mac := { d.mac with bss := tmap bssReset (fun b x => if x.running && moved b then { x with updPending := true } else x) d.mac.bss } }

/-- TSF of every BSS (R122): show time in µs. -/
def tsf (t : Nat) : Nat := t / 1000 % 2 ^ 64

/-- The TIM of a beacon (R124, R145): the AIDs of dozing stations with buffered MSDUs and, in a DTIM, 0 for group-addressed frames. -/
def Dev.timOf (d : Dev) (t b : Nat) : List Nat :=
  (if (d.bssAt b).dtimCount = 0 && (!(d.bssAt b).groupHeld.isEmpty || (d.bssAt b).groupQueue.any (fun m => !d.frameFree t b m)) then [0] else []) ++
  (d.mac.sta.filter (fun e => d.inBss b e.2 && d.dozing t e.1 && !e.2.queue.isEmpty)).map (fun e => e.2.aid)

/-- Capability Information as the MAC builds it (R124): ESS, and bits that the spec does not state and that are free values (log 136). -/
def Dev.capability (d : Dev) : Nat := 1 + 2 * (d.free.toNat % 32768)

/-- What the MAC builds of a beacon (R122, R124, R137). -/
def Dev.buildBeacon (d : Dev) (t b : Nat) : Beacon :=
  let x := d.bssAt b
  { tsf := tsf t, interval := x.beaconTu, capability := d.capability, dtimCount := x.dtimCount, dtimPeriod := x.dtim, tim := d.timOf t b, edca := d.advSet b
    updCount := if x.updPending then (x.updCount + 1) % 16 else x.updCount
    links := if x.mld = 31 then [] else (d.mac.bss.filter (fun e => e.2.running && e.2.mld == x.mld)).map (·.1) }

/-- What the MAC builds of a probe response (R124), which has no TIM. -/
def Dev.buildProbe (d : Dev) (t b : Nat) : Beacon := { d.buildBeacon t b with dtimCount := 0, dtimPeriod := 0, tim := [], updCount := (d.bssAt b).updCount }

/-- A frame of a BSS is a probe response. -/
def isProbeResp (m : Msdu) : Bool := octAt m.data 0 == 0x50

/-- A DTIM releases the group-addressed frames of a BSS (R145). -/
def Bss.releaseGroup (x : Bss) : Bss :=
  { x with groupQueue := (x.groupQueue ++ x.groupHeld).map (fun m => if groupFrame m then { m with dtim := true } else m), groupHeld := [] }

/-- A TBTT has passed (R124): the DTIM count moves on. -/
def Bss.tbtt (x : Bss) (tick : Nat) : Bss := { x with beaconDue := tick + 1, dtimCount := if x.dtim = 0 then 0 else (x.dtimCount + 1) % x.dtim }

/-- BEACON (R122 to R124, R137, R145, R147): the beacon of this TBTT is sent, protected where the BSS protects its beacons; a new template and a new parameter-set count come with it, and a DTIM releases the group-addressed frames. -/
def goBeacon (t b : Nat) (x : BeaconAir) (d : Dev) : Dev :=
  let r := radioOf b
  if !(d.beaconOwed t b && (!(d.bssAt b).beaconProt || (d.bssAt b).enc.contains 3) && d.txopFits t r x.ns && decide (beatOf t < 1000)) then (if d.beaconOwed t b then d.held r else d)
  else
    let d1 := d.modBss b (fun z =>
      let y := { z.tbtt (tickOf t) with
        template := z.nextTemplate.getD z.template, nextTemplate := none
        updCount := if z.updPending then (z.updCount + 1) % 16 else z.updCount, updPending := false
        beacon := some (d.buildBeacon t b), beaconNs := x.ns, enc := z.enc.filter (· != 3) }
      if z.dtimCount = 0 then y.releaseGroup else y)
    (((d1.air t r x.ns [{ ns := x.ns, pdet := x.pdet }]).bump (21 + r) 9).bump (21 + r) 21).drew

def execBeacon (b : Nat) (air : BeaconAir) (s : State) : Host.Outcome State Fault Refusal := .next (s.act fun t d => goBeacon t b air d)

/-- BEACON_SKIPPED (R124): a beacon that has not started by beat 999 of its TBTT tick is not sent. -/
def goBeaconSkipped (t b : Nat) (d : Dev) : Dev :=
  if d.beaconOwed t b && decide (1000 ≤ beatOf t) then
    ((d.modBss b (fun x => x.tbtt (tickOf t))).bump (21 + radioOf b) 10).inc t 3 3
  else d

def execBeaconSkipped (b : Nat) (s : State) : Host.Outcome State Fault Refusal := .next (s.act fun t d => goBeaconSkipped t b d)

/-- TXOP limit in ns of the AP's own parameters, 0 for one exchange (R137). -/
def Dev.txopLimit (d : Dev) (b ac : Nat) : Nat := d.pv 0x2013 0 (b * 4 + ac) * 32000

/-- The stations that outcomes are about. -/
def Dev.txopStas (d : Dev) (l : List MsduOutcome) : List Nat :=
  ((l.filter (fun o => (d.outMsdu o).isSome)).map (·.sid)).eraseDups

/-- Number of the PPDU that carries an MSDU of a station. -/
def ppduNo (x : TxopFacts) (sid id : Nat) : Nat := ((x.ppduOf.find? (fun y => y.1 == sid && y.2.1 == id)).map (·.2.2)).getD 0

/-- The PPDUs of a TXOP to a station start, in order (R190, R191): its MSDUs by the PPDU that carries each. -/
def Dev.startTxop (d : Dev) (t r sid : Nat) (x : TxopFacts) (ids : List Nat) : Dev :=
  let no (i : Nat) : Nat := ppduNo x sid i
  let form : PpduForm := { rate := ((x.rates.find? (fun y => y.1 == sid)).map (·.2)).getD 0, bcc := x.bcc.contains sid }
  (sortBy id ((ids.map no).eraseDups)).foldl (fun e k => e.startMsdus t r sid form (ids.filter (fun i => no i == k))) d

/-- The PPDUs that carry what outcomes are about start on the air. -/
def Dev.startAll (d : Dev) (t r : Nat) (x : TxopFacts) (l : List MsduOutcome) : Dev :=
  (d.txopStas l).foldl (fun e sid => e.startTxop t r sid x ((l.filter (fun o => o.sid == sid)).map (·.id))) d

/-- Frames of BSSs' own that outcomes are about. -/
def Dev.ownOutcomes (d : Dev) (l : List MsduOutcome) : List MsduOutcome := l.filter (fun o => (d.outMsdu o).isNone && (d.bssFrame o.id).isSome)

/-- A TXOP keeps to its bounds (R102, R137, R138): a TXOP limit of 0 allows one exchange, with one station or of one frame of the BSS's own, with its MU-RTS before it for an EMLSR station, and where no take plays no PPDU goes to several stations. -/
def Dev.txopBounds (d : Dev) (t b ac : Nat) (x : TxopFacts) : Bool :=
  let stas := d.txopStas x.outcomes
  let limit := d.txopLimit b ac
  (if limit = 0 then decide (x.ppdus ≤ 1 + b2n (stas.any (fun sid => (d.sta sid).emlsr))) && decide (stas.length + (d.ownOutcomes x.outcomes).length ≤ 1) else decide (x.durationNs ≤ limit)) &&
  (((d.playing t (radioOf b)).map (fun s => decide (0 < s.takeCount))).getD false || decide (stas.length ≤ x.ppdus))

/-- The frames of its own that a BSS can send leave the MAC (R129, R147): all but those of stations with PMF that still wait for the cipher. -/
def Dev.sendOwn (d : Dev) (b : Nat) : Dev :=
  { d with mac := { d.mac with ownTx := d.mac.ownTx.filter (fun y => (d.sta y.sid).bss != b || ((d.sta y.sid).pmf && !y.enc)) } }

/-- A queue's attempt ended (R93, R137): its contention window is back at its least after a success, and doubles when nothing was acknowledged. -/
def Dev.backedOff (d : Dev) (b ac : Nat) (l : List MsduOutcome) : Dev :=
  if l.isEmpty && (tlook (fun _ => 0) d.mac.backoffs (4 * b + ac)) = 0 then d
  else { d with mac := { d.mac with backoffs := tmod (fun _ => 0) d.mac.backoffs (4 * b + ac) (fun n => if l.isEmpty || l.any (fun o => o.acked) then 0 else n + 1) } }

/-- Contention window in slots of an ordinary queue (R137): 2^ECW - 1, with ECW from ECWmin up to ECWmax. -/
def Dev.cwSlots (d : Dev) (b ac : Nat) : Nat :=
  2 ^ Nat.min (d.pv 0x2012 0 (4 * b + ac)) (d.pv 0x2011 0 (4 * b + ac) + tlook (fun _ => 0) d.mac.backoffs (4 * b + ac)) - 1

/-- What a DTIM has released goes directly after it (R145): while a BSS has such frames, its TXOPs carry them and nothing else. -/
def Dev.directly (d : Dev) (b : Nat) (l : List MsduOutcome) : List MsduOutcome :=
  if (d.bssAt b).groupQueue.any (fun m => m.dtim) then l.filter (fun o => (d.outMsdu o).isNone && (d.bssFrame o.id).any (fun x => x.2.dtim)) else l

/-- The frames of a BSS's own that a TXOP has PPDUs left for (R140): one for each, beside those to stations. -/
def Dev.ownSent (d : Dev) (x : TxopFacts) (l : List MsduOutcome) : List MsduOutcome :=
  let used := ((l.filter (fun o => (d.outMsdu o).isSome)).map (fun o => ppduNo x o.sid o.id)).eraseDups.length
  (d.ownOutcomes l).take (x.ppdus - used)

/-- The MSDUs of stations that a TXOP's PPDUs can carry (R136, R140). -/
def Dev.staSent (d : Dev) (x : TxopFacts) (l : List MsduOutcome) : List MsduOutcome :=
  l.filter (fun o => (d.outMsdu o).isSome && decide (ppduNo x o.sid o.id < d.dataPpdus o.sid x.ppdus))

/-- CONTENTION_TXOP (R94, R136 to R138, R140, R145): a TXOP of BSS `b` for an access category, bounded by its TXOP limit and by the next take. -/
def goContentionTxop (t b ac : Nat) (x : TxopFacts) (d : Dev) : Dev :=
  let r := radioOf b
  let mine := (d.bssAt b).running || (d.bssAt b).deauth
  if !(mine && d.txopFits t r x.durationNs && d.txopBounds t b ac x) then (if mine then d.held r else d)
  else
    let l := if 5484000 < x.longestNs then [] else d.directly b (x.outcomes.filter (d.mayReach t r b ac))
    let sta := d.staSent x l
    let own := d.ownSent x l
    let d1 := (d.air t r x.durationNs (ppdusOf x.durationNs x.air)).bump (21 + r) 21 x.ppdus
    let d2 := d1.modBss b (fun y => { y with
      deauth := y.deauth && y.pmf != 0 && !y.enc.contains 2, enc := y.enc.filter (· != 2)
      probe := if own.any (fun o => (d.bssFrame o.id).any (fun z => isProbeResp z.2)) then some (d.buildProbe t b) else y.probe })
    let d3 : Dev := { d2.sendOwn b with mac := { (d2.sendOwn b).mac with serving := tput (fun _ => []) d2.mac.serving r (d.txopStas l) } }
    let d4 := d3.startAll t r x sta
    let sent := sta.filter (d4.wasSent r) ++ own
    (sent.foldl (fun e o => e.outcome t r o) d4).backedOff b ac sent

def execContentionTxop (b ac : Nat) (x : TxopFacts) (s : State) : Host.Outcome State Fault Refusal :=
  .next (s.act fun t d => goContentionTxop t b ac x d)

/-- The lifetime of a frame that a BSS holds or queues has expired. -/
def Dev.bssLifetime (d : Dev) (t b id : Nat) : Dev :=
  match ((d.bssAt b).groupHeld ++ (d.bssAt b).groupQueue).find? (fun m => m.id == id) with
  | none => d
  | some m =>
    if m.entry + d.lifeNs (d.bssAt b).tenant m.ac ≤ t then
      d.bssOut (radioOf b) b m 2
    else d

/-- LIFETIME (R143): an MSDU that is not on the air and whose lifetime has expired; 4,096 + b stands for BSS b's own frames. -/
def goLifetime (t sid id : Nat) (d0 : Dev) : Dev :=
  let d := (List.range 3).foldl (fun e r => e.startPpdus t r) d0
  match (d.sta sid).queue.find? (fun m => m.id == id) with
  | none => if sid < 4096 then d else d.bssLifetime t (sid - 4096) id
  | some m =>
    if m.onAir.isNone && decide (m.entry + d.lifeNs (d.staTenant sid) m.ac ≤ t) then
      d.msduOut (radioOf (d.sta sid).bss) sid m 2
    else d

def execLifetime (sid id : Nat) (s : State) : Host.Outcome State Fault Refusal := .next (s.act fun t d => goLifetime t sid id d)

/-! Reception (R129, R139, R141, R144 to R149). -/

/-- MSDUs go to the router's wireless intake (R27, R280), unless the cipher holds them until verified (R332). -/
def Dev.deliver (d : Dev) (t r sid : Nat) (h : Held) : Dev :=
  if h.prot then d
  else
    let ok := h.msdus.filter (fun m => decide (m.length ≤ 12 + 2304))
    let long := h.msdus.length - ok.length
    let d1 := if long = 0 then d else (d.bump (21 + r) 3 long).dropped t (d.staTenant sid)
    { d1 with rte := { d1.rte with wireless := d1.rte.wireless ++ ok.map (fun m =>
        { octets := m, srcKind := 1, src := sid, tenant := d.staTenant sid, enq := t }) } }

/-- Change a receive agreement. -/
def Dev.modBa (d : Dev) (sid tid : Nat) (f : BaRx → BaRx) : Dev := d.modSta sid (fun s => { s with baRx := tmod baReset s.baRx tid f })

/-- The receive agreement of a station's TID. -/
def Dev.ba (d : Dev) (sid tid : Nat) : BaRx := tlook baReset (d.sta sid).baRx tid

/-- Release the MPDUs that are next in sequence, up to one that the cipher has yet to verify; `n` bounds them. -/
def Dev.releaseRun (t r sid tid : Nat) : Nat → Dev → Dev
  | 0, d => d
  | n + 1, d =>
    let x := d.ba sid tid
    match x.held.find? (fun h => h.seq == x.next && !h.prot) with
    | none => d
    | some h =>
      Dev.releaseRun t r sid tid n
        ((d.modBa sid tid (fun x => { x with next := (x.next + 1) % 4096, held := x.held.filter (fun y => y.seq != h.seq) })).deliver t r sid h)

/-- How far a sequence number lies ahead of the next one expected. -/
def BaRx.ahead (x : BaRx) (seq : Nat) : Nat := (seq + 4096 - x.next) % 4096

/-- Move the window start to `next`, releasing in order what lies before it, and then what follows in sequence. -/
def Dev.moveWindow (d : Dev) (t r sid tid next : Nat) : Dev :=
  let x := d.ba sid tid
  let old := sortBy (fun h => x.ahead h.seq) (x.held.filter (fun h => decide (x.ahead h.seq < x.ahead next)))
  let d1 := old.foldl (fun e h => e.deliver t r sid h) (d.modBa sid tid (fun y => { y with
    next := next, held := y.held.filter (fun h => decide (¬ x.ahead h.seq < x.ahead next)) }))
  Dev.releaseRun t r sid tid 1024 d1

/-- A protected MPDU that passed the checks waits for its verdict (R27, R149). -/
def Dev.await (d : Dev) (sid : Nat) (x : RxMpdu) : Dev := { d with mac := { d.mac with unverified := d.mac.unverified ++ [{ sid := sid, mpdu := x }] } }

/-- A received frame is dropped, counted by its class and handed off (R39, R149). -/
def Dev.rxDrop (d : Dev) (t r b slot : Nat) : Dev := (d.bump (21 + r) slot).dropped t (d.bssAt b).tenant

/-- A data MPDU (R135, R139, R149): duplicates and MPDUs outside the window are dropped, the others are reordered, a protected one with its contents still to come from the cipher. -/
def Dev.rxData (d : Dev) (t r sid tid : Nat) (m : RxMpdu) (h : Held) : Dev :=
  let x := d.ba sid tid
  let wait (e : Dev) : Dev := if h.prot then e.await sid m else e
  if !x.on then
    if tlook (fun _ => 0) (d.sta sid).lastSeq tid = h.seq + 1 then d.rxDrop t r m.bss 4
    else wait ((d.modSta sid (fun s => { s with lastSeq := tput (fun _ => 0) s.lastSeq tid (h.seq + 1) })).deliver t r sid h)
  else
    let a := x.ahead h.seq
    if 2048 ≤ a then d.rxDrop t r m.bss 5
    else if x.held.any (fun y => y.seq == h.seq) then d.rxDrop t r m.bss 4
    else
      let d1 := if x.window ≤ a then d.moveWindow t r sid tid ((h.seq + 4097 - x.window) % 4096) else d
      wait (Dev.releaseRun t r sid tid 1024 (d1.modBa sid tid (fun y => { y with held := y.held ++ [h] })))

/-- The cipher has settled a protected data MPDU (R27, R135): its MSDUs, none when it failed, take its place among those held for reordering, or leave at once where it holds none. -/
def Dev.rxSettled (d : Dev) (t r sid tid seq : Nat) (msdus : List (List Byte)) : Dev :=
  if (d.ba sid tid).held.any (fun h => h.seq == seq && h.prot) then
    Dev.releaseRun t r sid tid 1024 (d.modBa sid tid (fun y => { y with held := y.held.map (fun h => if h.seq = seq then { h with msdus := msdus, prot := false } else h) }))
  else d.deliver t r sid ⟨seq, t, msdus, false⟩

/-- End a receive agreement: what is held is released in order. -/
def Dev.endBa (d : Dev) (t r sid tid : Nat) : Dev :=
  let x := d.ba sid tid
  (sortBy (fun h => x.ahead h.seq) x.held).foldl (fun e h => e.deliver t r sid h) (d.modBa sid tid (fun _ => {}))

/-- REORDER_TIMEOUT (R139): the oldest gap has waited for property 0x2031. -/
def goReorderTimeout (t sid tid : Nat) (d : Dev) : Dev :=
  let x := d.ba sid tid
  match sortBy (fun h => x.ahead h.seq) x.held with
  | [] => d
  | h :: _ =>
    if h.seq ≠ x.next && (x.held.any (fun y => decide (y.time + d.pv 0x2031 * 1000000 ≤ t))) then
      (d.moveWindow t (radioOf (d.sta sid).bss) sid tid h.seq).bump (21 + radioOf (d.sta sid).bss) 19
    else d

def execReorderTimeout (sid tid : Nat) (s : State) : Host.Outcome State Fault Refusal := .next (s.act fun t d => goReorderTimeout t sid tid d)

/-- The station that sent a frame on radio `r` to BSS `b`. -/
def Dev.sender (d : Dev) (r b ta : Nat) : Option Nat :=
  (d.mac.sta.find? (fun e => e.2.used && e.2.link r == ta && d.aidSpace e.2.bss == d.aidSpace b)).map (·.1)

/-- A management frame for the host (R129), with the time at which its reception ended (R305). -/
def Dev.rxMgmt (d : Dev) (t r b sid ended : Nat) (body : List Byte) : Dev :=
  let e := d.toMgmt t (d.bssAt b).tenant b { octets := body, srcKind := 1, src := sid, tenant := (d.bssAt b).tenant, rxStamp := some ended, tc := b }
  if (d.mgmtRing (d.bssAt b).tenant).isSome then e.bump (21 + r) 31 else e

/-- A U-APSD trigger from a dozing station on an access category that is trigger-enabled releases what is buffered for its delivery-enabled ones (R145). -/
def Dev.uapsdTrigger (d : Dev) (t sid tid : Nat) : Dev :=
  if d.dozing t sid && nbit (d.sta sid).uapsd (acOf tid) then
    d.modSta sid (fun s => { s with released := s.released ++ (s.queue.filter (fun m => nbit s.uapsd m.ac && !s.released.contains m.id)).map (·.id) })
  else d

/-- The frame is a management frame, for the MAC or for the host (R129, R146). -/
def isMgmt : RxKind → Bool
  | .addbaReq _ _ _ _ | .addbaResp _ _ _ _ | .delba _ _ _ | .saQueryReq | .saQueryResp | .twtReq _ _ _ _ _ _ | .twtTeardown _ | .mgmt _ | .assocReq _ => true
  | _ => false

/-- A management frame with the octets that the cipher gave in clear. -/
def withBody (k : RxKind) (b : List Byte) : RxKind :=
  match k with
  | .addbaReq tid size ssn _ => .addbaReq tid size ssn b
  | .addbaResp tid size ok _ => .addbaResp tid size ok b
  | .delba tid ini _ => .delba tid ini b
  | .twtReq bc us st sb du _ => .twtReq bc us st sb du b
  | .twtTeardown _ => .twtTeardown b
  | .mgmt _ => .mgmt b
  | .assocReq _ => .assocReq b
  | k => k

/-- A TWT request (R146): whole ticks are accepted while there is room; any other is answered with the schedule rounded up to the next whole tick. -/
def Dev.twtAsked (d : Dev) (sid : Nat) (broadcast : Bool) (us startTick startBeat duration : Nat) : Dev :=
  let w : Twt := ⟨Nat.min 65535 (Nat.max 1 ((us + 1023) / 1024)), startTick, startBeat, duration⟩
  let fits := us % 1024 == 0 && decide (1 ≤ us / 1024) && decide (us / 1024 ≤ 65535) && decide (startBeat < 1024)
  let b := (d.sta sid).bss
  let joined := (d.bssAt b).bcastTwt.contains w
  if broadcast && fits && (joined || decide ((d.bssAt b).bcastTwt.length < 8)) then
    ((if joined then d else d.modBss b (fun y => { y with bcastTwt := y.bcastTwt ++ [w] })).modSta sid (fun s =>
      { s with bcast := if s.bcast.contains w then s.bcast else s.bcast ++ [w] })).ownFrame sid 4
  else if !broadcast && fits && decide ((d.sta sid).twt.length < 2) then (d.modSta sid (fun s => { s with twt := s.twt ++ [w] })).ownFrame sid 4
  else (d.modSta sid (fun s => { s with offer := some w })).ownFrame sid 5

/-- What the MAC does with a frame of a station it knows (R129, R139, R144 to R147). TWT setup and teardown frames, which R146 has the AP answer and R129 does not list, are both answered and sent to the management ring (DEDUCED, log 114); block-ack action frames of TIDs over 7 go there alone. An ADDBA Request with buffer size 0, which R139 does not name, is granted as one for 1,024 (DESIGN CHOICE, log 139); a TWT teardown ends all of the station's agreements (DESIGN CHOICE, log 140). A protected management frame waits for the cipher before it acts. -/
def Dev.rxKnown (d : Dev) (t r sid : Nat) (x : RxMpdu) : Dev :=
  let host (e : Dev) (body : List Byte) : Dev := e.rxMgmt t r x.bss sid x.ended body
  if x.protected' && isMgmt x.kind then d.await sid x
  else match x.kind with
  | .ctrl => d
  | .nullData => d
  | .qosNull tid => d.uapsdTrigger t sid tid
  | .bar tid ssn => if (d.ba sid tid).on && decide ((d.ba sid tid).ahead ssn < 2048) then d.moveWindow t r sid tid (ssn % 4096) else d
  | .saQueryResp => d
  | .psPoll => d.modSta sid (fun s =>
      match s.queue.find? (fun m => !s.released.contains m.id) with
      | some m => { s with released := s.released ++ [m.id] }
      | none => s)
  | .addbaReq tid size ssn body =>
    if 8 ≤ tid then host d body else
    let w := Nat.min (d.pv 0x2030) (if size = 0 then 1024 else Nat.min size 1024)
    ((d.endBa t r sid tid).modBa sid tid (fun _ => { window := w, next := ssn % 4096, on := true })).ownFrame sid 1
  | .addbaResp tid size accepted body =>
    if 8 ≤ tid then host d body else
    let asked := tlook (fun _ => 0) (d.sta sid).baAsk tid
    if asked = 0 then d
    else d.modSta sid (fun s => { s with
      baAsk := tput (fun _ => 0) s.baAsk tid 0
      baTx := tput (fun _ => 0) s.baTx tid (if accepted then (if size = 0 then asked else Nat.min size asked) else 0) })
  | .delba tid byInitiator body =>
    if 8 ≤ tid then host d body
    else if byInitiator then d.endBa t r sid tid else d.modSta sid (fun s => { s with baTx := tput (fun _ => 0) s.baTx tid 0 })
  | .saQueryReq => d.ownFrame sid 2
  | .twtReq broadcast us startTick startBeat duration body => host (d.twtAsked sid broadcast us startTick startBeat duration) body
  | .twtTeardown body => host (d.modSta sid (fun s => { s with twt := [], bcast := [] })) body
  | .data tid seq msdus => (d.uapsdTrigger t sid tid).rxData t r sid tid x ⟨seq % 4096, t, if x.protected' then [] else msdus, x.protected'⟩
  | .mgmt body => host d body
  | .assocReq body => host d body

/-- PM of a received frame (R144): a station that begins to doze is sent no further PPDU of the takes on the air. -/
def Dev.pmSeen (d : Dev) (sid : Nat) (pm : Bool) : Dev :=
  let d1 := d.modSta sid (fun s => { s with doze := pm, released := if pm then s.released else [] })
  if pm then d1.cutShort sid else d1

/-- The drop of a frame from a transmitter that is no station of its BSS (R129, R149): a station with a record elsewhere sends a class 2 or class 3 frame before association (DEDUCED, log 117), any other is an unknown transmitter. -/
def Dev.strangerSlot (d : Dev) (ta : Nat) : Nat := if d.mac.sta.any (fun e => e.2.used && e.2.addrs.contains ta) then 8 else 6

/-- A management frame repeats the one received before it from the same transmitter (R149): Retry, and its sequence number again. -/
def Dev.mgmtAgain (d : Dev) (sid : Option Nat) (x : RxMpdu) : Bool :=
  isMgmt x.kind && x.retry &&
  (match sid with | some k => tlook (fun _ => 0) (d.sta k).lastSeq 16 | none => tlook (fun _ => 0) d.mac.strangers x.ta) == x.seq % 4096 + 1

/-- Note the sequence number of a management frame. -/
def Dev.noteMgmt (d : Dev) (sid : Option Nat) (x : RxMpdu) : Dev :=
  if !isMgmt x.kind then d
  else match sid with
    | some k => d.modSta k (fun s => { s with lastSeq := tput (fun _ => 0) s.lastSeq 16 (x.seq % 4096 + 1) })
    | none => { d with mac := { d.mac with strangers := tput (fun _ => 0) d.mac.strangers x.ta (x.seq % 4096 + 1) } }

/-- The octets of a management frame that goes to the host from a transmitter without a record: a class 1 frame, or an association request (R129). -/
def strangerBody (x : RxMpdu) : Option (List Byte) :=
  match x.kind with
  | .assocReq body => some body
  | .mgmt body => if x.cls = 1 then some body else none
  | _ => none

/-- One MPDU of a received PPDU, through the drops of R149 in their order. -/
def Dev.rxMpdu (d : Dev) (t r : Nat) (x : RxMpdu) : Dev :=
  if !x.fcsOk then d.rxDrop t r x.bss 0
  else if 11454 < x.len then (d.rxDrop t r x.bss 1).inc t 3 0
  else if 8388607 ≤ x.offset then (d.rxDrop t r x.bss 2).inc t 3 1
  else if !(d.bssAt x.bss).running || radioOf x.bss ≠ r then d
  else
    let who := d.sender r x.bss x.ta
    let d0 := (d.bump (21 + r) 24).bump (21 + r) 26 x.len
    if d.mgmtAgain who x then d.rxDrop t r x.bss 4
    else
    let d1 := d0.noteMgmt who x
    match who with
    | none =>
      (match strangerBody x with
        | some body => if x.protected' then d1.await 4096 x else d1.rxMgmt t r x.bss 0xFFF x.ended body
        | none => if x.cls ≠ 1 then d.rxDrop t r x.bss (d.strangerSlot x.ta) else d1)
    | some sid =>
      let s := d.sta sid
      let assoc := match x.kind with | .assocReq _ => true | _ => false
      if s.pmf && x.robust && !x.protected' && !x.group && !assoc then (d.rxDrop t r x.bss 7).inc t 3 2
      else
        let d2 := d1.pmSeen sid x.pm
        let d3 := if assoc && s.pmf && !x.protected' then (d2.ownFrame sid 3).bump (21 + r) 30 else d2
        d3.rxKnown t r sid x

/-- What the end of its reception leaves of a PPDU (R159, R165): nothing that ended later when it was not received to its end, and nothing of a solicited user whose status was not OK. -/
def Dev.lostTo (d : Dev) (r ppdu ended : Nat) (sid : Option Nat) : Bool :=
  match (d.rx r).done.find? (fun y => y.start == ppdu) with
  | some y => ((!y.ok && decide (y.ended < ended)) || (match sid with | some s => y.bad.contains s | none => false))
  | none => false

/-- The radio has received an MPDU (R206): it hears, or it did until the MPDU's PPDU ended. -/
def Dev.rxTaken (d : Dev) (r : Nat) (x : RxMpdu) : Bool :=
  (d.hears r || (d.rx r).done.any (fun y => y.start == x.ppdu)) && !d.lostTo r x.ppdu x.ended (d.sender r x.bss x.ta)

/-- An address belonged to a station that has been removed, and belongs to no station now (R132). -/
def Dev.goneAddr (d : Dev) (r b ta : Nat) : Bool :=
  d.mac.sta.any (fun e => !e.2.used && e.2.addrs.contains ta) && (d.sender r b ta).isNone

/-- An MPDU calls for a response (R132, R159, R208): individually addressed to a running BSS, sound, of a PPDU that reached its end, of an acknowledgement policy or a control frame that asks for one (an RTS asks for a CTS), and not from the addresses of a removed station. -/
def Dev.calls (d : Dev) (r : Nat) (x : RxMpdu) : Bool :=
  x.fcsOk && decide (x.len ≤ 11454) && !x.group && !x.noAck && !d.goneAddr r x.bss x.ta && (d.bssAt x.bss).running && radioOf x.bss == r &&
  !(d.rx r).done.any (fun y => y.start == x.ppdu && !y.ok)

/-- MPDU_RECEIVE (R129, R139, R149, R159, R206, R208): the MPDUs of one received PPDU, in order, and the response that they call for. -/
def goMpduReceive (t r : Nat) (frames : List RxMpdu) (d : Dev) : Dev :=
  let l := frames.filter (d.rxTaken r)
  if l.isEmpty then d
  else
    let due := l.filter (d.calls r)
    let d1 := l.foldl (fun e x => e.rxMpdu t r x) (d.bump (21 + r) 22)
    if due.isEmpty then d1 else d1.respondAir t r ((due.map (·.respNs)).foldl Nat.max 0) (due.flatMap (·.respPdet))

def execMpduReceive (r : Nat) (frames : List RxMpdu) (s : State) : Host.Outcome State Fault Refusal :=
  .next (s.act fun t d => goMpduReceive t r frames d)

/-- A service period begins at an instant (R146). -/
def Twt.begins (w : Twt) (t : Nat) : Bool :=
  let start := w.startTick * 1024000 + w.startBeat * 1000
  decide (start ≤ t) && (t - start) % (w.intervalTicks * 1024000) == 0

/-- Count the TWT service periods that begin at a boundary, a station's own and a BSS's broadcast ones, for the radio of the BSS (R146, R446). -/
def Dev.countTwt (d : Dev) (t : Nat) : Dev :=
  let count (e : Dev) (b : Nat) (l : List Twt) : Dev := e.bump (21 + radioOf b) 29 (l.filter (fun w => w.begins t)).length
  d.mac.bss.foldl (fun e x => if x.2.running then count e x.1 x.2.bcastTwt else e)
    (d.mac.sta.foldl (fun e x => if x.2.used then count e x.2.bss x.2.twt else e) d)

end Sys2Proof.Machine
end

