-- ==== Sys2Proof/Machine/Coding.lean ====
section
/-! DEFINITION. The coding cluster (R171, R182 to R202): LLRs, the order in which codewords get the cores and how they end, Retake retention, maps and combining, and RETAKE_PEER. -/
namespace Sys2Proof.Machine

/-! Decoding one codeword (R171, R184 to R187). -/

/-- The LLRs that the modem hands over (R171): 6 bits, saturating at ±31. -/
def handLlrs (l : List Int) : List Int := l.map (fun v => max (-31) (min 31 v))

/-- Outcomes of a codeword (R187). -/
inductive CwOutcome
  | pass | passCombined | failMaxiter | failStall | failDeadline
  deriving DecidableEq, Repr

/-- The code of an outcome (R187). -/
def CwOutcome.code : CwOutcome → Nat
  | .pass => 0 | .passCombined => 1 | .failMaxiter => 2 | .failStall => 3 | .failDeadline => 4

/-- Time of one iteration in ns (R182). -/
def iterNs (length : Nat) : Nat := if length = 1944 then 81 else if length = 1296 then 54 else 27

/-- Unsatisfied checks after iteration `n`; the count stays where the operand's list ends. -/
def unsatAt (l : List Nat) (n : Nat) : Nat := l.getD (n - 1) (l.getLastD 1)

/-- The end of a codeword on a core (R185): iterations from `it` on, `left` bounding them; the outcome and the iterations run. -/
def ldpcRun (maxIter : Nat) (early : Bool) (start ns deadline : Nat) (l : List Nat) : Nat → Nat → CwOutcome × Nat
  | 0, it => (.failMaxiter, it - 1)
  | left + 1, it =>
    if unsatAt l it = 0 then (.pass, it)
    else if maxIter ≤ it then (.failMaxiter, it)
    else if early && decide (4 ≤ it) && decide (unsatAt l (it - 3) ≤ unsatAt l it) then (.failStall, it)
    else if deadline < start + (it + 1) * ns then (.failDeadline, it)
    else ldpcRun maxIter early start ns deadline l left (it + 1)

/-- Deadline of a codeword (R184). -/
def cwDeadline (cw : Codeword) : Nat := cw.lastLlr + 6000

/-- A codeword that gets no iteration: hard decisions on its input (R186). -/
def hardEnd (cw : Codeword) : CwOutcome × Nat := (if cw.hardZero then .pass else .failDeadline, 0)

/-- When the first of the cores is free (R184). -/
def Dev.coreFreeAt (d : Dev) : Nat := d.dec.cores.foldl Nat.min (d.dec.cores.headD 0)

/-- When a codeword's decoding begins: its last LLR is in and a core is free (R184). -/
def Dev.cwStart (d : Dev) (cw : Codeword) : Nat := Nat.max cw.lastLlr d.coreFreeAt

/-- The first core that is free at `m` is taken until `x`. -/
def takeCore (m x : Nat) : List Nat → List Nat
  | [] => []
  | y :: rest => if y = m then x :: rest else y :: takeCore m x rest

/-- The cores after a codeword that ran `n` iterations; one without an iteration takes none (R184, R186). -/
def Dev.coresAfter (d : Dev) (cw : Codeword) (n : Nat) : List Nat :=
  if n = 0 then d.dec.cores else takeCore d.coreFreeAt (d.cwStart cw + n * iterNs cw.length) d.dec.cores

/-- How a codeword ends, before Retake is considered; one whose first iteration would end after its deadline gets none (R184 to R186). -/
def Dev.cwEnd (d : Dev) (cw : Codeword) : CwOutcome × Nat :=
  let start := d.cwStart cw
  if cwDeadline cw < start + iterNs cw.length then hardEnd cw
  else ldpcRun (d.pv 0x3050 0 cw.radio) (d.pv 0x3051 == 1) start (iterNs cw.length) (cwDeadline cw) cw.unsat 20 1

/-- When a codeword that ran `n` iterations ends (R185, R186). -/
def Dev.cwEnds (d : Dev) (cw : Codeword) (n : Nat) : Nat := if n = 0 then cwDeadline cw else d.cwStart cw + n * iterNs cw.length

/-! Retake maps (R195, R198). -/

/-- Runs of a map from an octet on. -/
def mapRuns (l : List Byte) : Nat → Nat → List Run
  | 0, _ => []
  | n + 1, i => ⟨octAt l i, octAt l (i + 1) / 2, beAt l (i + 2) 2, beAt l (i + 4) 2⟩ :: mapRuns l n (i + 6)

/-- Two runs name a codeword in common. -/
def Run.meets (a b : Run) : Bool := a.rsn == b.rsn && decide (a.first < b.first + b.count) && decide (b.first < a.first + a.count)

/-- Some two runs overlap. -/
def runsOverlap : List Run → Bool
  | [] => false
  | x :: rest => rest.any (fun y => x.meets y) || runsOverlap rest

/-- The map of a copy PSDU, none for a bad one (R198). A wrong SIGNATURE and a COUNT of 0, which the rows of R198 do not list, make a bad map as well (DESIGN CHOICE, log 121, beside R195). -/
def parseMap (cw : Codeword) : Option (List Run) :=
  let l := cw.map
  let n := octAt l 4
  let runs := mapRuns l n 8
  let m := beAt l 5 2
  let body := l.take (8 + 6 * n)
  if n = 0 || decide (maxRuns cw.rate < n) || beAt l 0 4 != 0x52544B01 || decide (l.length < 12 + 6 * n) || runs.any (fun x => x.count == 0) || beAt l (8 + 6 * n) 4 != crcOf 0 body ||
      m != sumN (runs.map (·.count)) || runsOverlap runs || decide (cw.psduCodewords < m + 1) then none
  else some runs

/-- The original that codeword number `i`, from 0, of a map copies: RSN and index. -/
def copyOf : List Run → Nat → Option (Nat × Nat)
  | [], _ => none
  | x :: rest, i => if i < x.count then some (x.rsn, x.first + i) else copyOf rest (i - x.count)

/-! Retake slots (R192 to R198). -/

/-- Slots holding kept codewords (DEC_RETAIN_USE). -/
def Dev.retainUse (d : Dev) : Nat := d.dec.slots.length
/-- Change the slots. -/
def Dev.modSlots (d : Dev) (f : List Slot → List Slot) : Dev := { d with dec := { d.dec with slots := f d.dec.slots } }
/-- A slot holds the codeword of a station's PPDU and index. -/
def Slot.isAt (x : Slot) (sid rsn index : Nat) : Bool := x.sid == sid && x.rsn == rsn && x.index == index
/-- Release the slot of an identity. -/
def Dev.releaseSlot (d : Dev) (sid rsn index : Nat) : Dev := d.modSlots (fun l => l.filter (fun x => !x.isAt sid rsn index))

/-- Add LLRs, saturating at ±127 (R197). -/
def addLlrs : List Int → List Int → List Int
  | x :: xs, y :: ys => max (-127) (min 127 (x + y)) :: addLlrs xs ys
  | xs, [] => xs
  | [], ys => ys

/-- Keep a codeword (R193, R194, R198). -/
def Dev.keepCw (d : Dev) (t : Nat) (cw : Codeword) : Dev :=
  if 524288 ≤ d.dec.slots.length then (d.bump (27 + cw.radio) 13).inc t 5 1
  else
    let x : Slot := { sid := cw.sid, rsn := cw.rsn, index := cw.index, rate := cw.rate, seed := cw.seed, expiry := tickOf cw.ppdu + 3
                      llrs := cw.llrs.map (fun v => max (-127) (min 127 v)) }
    ((d.releaseSlot cw.sid cw.rsn cw.index).modSlots (fun l => l ++ [x])).bump (27 + cw.radio) 7 |>.hbmOctets 2 2048

/-- A codeword's end is settled: its outcome stands when its decoding ends. -/
def Dev.cwOutcome (d : Dev) (ends : Nat) (cw : Codeword) (o : CwOutcome) (iters : Nat) (toMac : Bool := true) (combine : Bool := false) : Dev :=
  { d with dec := { d.dec with running := d.dec.running ++
      [{ ends := ends, radio := cw.radio, sid := cw.sid, code := o.code, iters := iters, combined := o == .passCombined, toMac := toMac, combine := combine }] } }

/-- A codeword has ended (R39, R187, R201): counted, handed to the MAC with the show time of its end, and an incident for a missed deadline. -/
def Dev.cwEnded (d : Dev) (t : Nat) (x : CwRun) : Dev :=
  let fails := decide (2 ≤ x.code)
  let d1 := (d.bump (27 + x.radio) x.code).bump (27 + x.radio) 5 x.iters
  let d2 := if x.toMac then
      ({ d1 with dec := { d1.dec with outcomes := d1.dec.outcomes ++ [(x.code, x.sid)] } } : Dev).handoff x.ends (if fails then .decodeFailure else .codewordOutcome) x.sid
    else d1
  let d3 := if fails then d2.step 0x3070 0 x.radio else d2
  let d4 := if x.combined then (d3.bump (27 + x.radio) 9).step 0x3072 0 x.radio else d3
  if x.code = 4 then d4.inc t 5 0 else d4

/-- The decode that holds a slot has ended (R198): that of the combine that settled it, or, past the slot's window, of one that failed. -/
def Slot.overBy (x : Slot) (t : Nat) : Bool :=
  x.gone.any (fun k => decide (k ≤ t)) || (decide (x.expiry ≤ tickOf t) && x.busy.any (fun k => decide (k ≤ t)))

/-- What has ended by a boundary: codewords in the order of their ends, and the slots that their combines release. -/
def Dev.landCws (d : Dev) (t : Nat) : Dev :=
  let due := sortBy (·.ends) (d.dec.running.filter (fun x => decide (x.ends ≤ t)))
  if due.isEmpty then d
  else due.foldl (fun e x => e.cwEnded t x) { d with dec := { d.dec with
    running := d.dec.running.filter (fun x => !decide (x.ends ≤ t)), slots := d.dec.slots.filter (fun x => !x.overBy t) } }

/-- A codeword of the PPDU's own RSN: codeword 0 settles whether the PPDU's failures are kept (R193, R198). -/
def Dev.ownCw (d : Dev) (t : Nat) (cw : Codeword) (o : CwOutcome) : Dev :=
  let key := (cw.sid, cw.radio, cw.rsn)
  let d1 : Dev :=
    if cw.index ≠ 0 then d
    else
      let rest := d.dec.passed.filter (fun x => !(x.1 == cw.sid && x.2.1 == cw.radio))
      if 2 ≤ o.code then { d with dec := { d.dec with passed := rest } }
      else { d with dec := { d.dec with passed := rest ++ [key], slots := d.dec.slots.filter (fun x => !(x.sid == cw.sid && x.rsn == cw.rsn && x.gone.isNone)) } }
  if d1.dec.passed.contains key && (decide (2 ≤ o.code) || cw.fcsFailed) then d1.keepCw t cw else d1

/-- A copy (R192, R197, R198): the slot that matches it, when there is one that may combine. A copy whose rate differs from the slot's is not read from it, so that the mismatch comes before a failing read (DESIGN CHOICE, log 122, beside R198). -/
def Dev.endCopy (d : Dev) (t ends : Nat) (cw : Codeword) (rsn index : Nat) (e : CwOutcome × Nat) : Dev :=
  match d.dec.slots.find? (fun x => x.isAt cw.sid rsn index && x.gone.isNone && decide (cw.lastLlr < x.expiry * 1024000)) with
  | none => d.cwOutcome ends cw e.1 e.2
  | some x =>
    if x.rate ≠ cw.rate then (((d.bump (27 + cw.radio) 11).inc t 5 3).cwOutcome ends cw e.1 e.2)
    else if cw.readError then (((d.releaseSlot cw.sid rsn index).bump (27 + cw.radio) 12).inc t 5 2).cwOutcome ends cw e.1 e.2
    else
      let d1 := ((d.bump (27 + cw.radio) 8).step 0x3071 0 cw.radio).hbmOctets 2 2048
      let used (f : Slot → Slot) : Dev := d1.modSlots (fun l => l.map (fun y => if y.isAt cw.sid rsn index then f { y with combines := y.combines + 1 } else y))
      if e.1 = .pass then (used (fun y => { y with gone := some ends })).cwOutcome ends cw .passCombined e.2 true true
      else (used (fun y => { y with llrs := addLlrs y.llrs cw.llrs, busy := some ends })).cwOutcome ends cw e.1 e.2 true true

/-- The map of a copy PSDU: noted, or the PSDU is discarded as MAP_BAD (R198). -/
def Dev.takeMap (d : Dev) (t : Nat) (cw : Codeword) (o : CwOutcome) : Dev :=
  let key := cw.radio * 4096 + cw.sid
  match parseMap cw with
  | some runs => ({ d with dec := { d.dec with maps := tput (fun _ => []) d.dec.maps key runs } } : Dev).ownCw t cw o
  | none =>
    let d1 : Dev := { d with dec := { d.dec with
      maps := tput (fun _ => []) d.dec.maps key [], bad := d.dec.bad ++ [key]
      passed := d.dec.passed.filter (fun x => !(x.1 == cw.sid && x.2.1 == cw.radio)) } }
    (d1.bump (27 + cw.radio) 10).inc t 5 4

/-- The first codeword of a PPDU: a PSDU discarded before it has ended. -/
def Dev.newPsdu (d : Dev) (cw : Codeword) : Dev :=
  if cw.index = 0 && d.dec.bad.contains (cw.radio * 4096 + cw.sid) then { d with dec := { d.dec with bad := d.dec.bad.filter (· != cw.radio * 4096 + cw.sid) } } else d

/-- How a codeword ends, with Retake where uplink Retake is in force (R185 to R198); nothing of a discarded PSDU goes to the MAC. -/
def Dev.endCw (d0 : Dev) (t ends : Nat) (cw : Codeword) (e : CwOutcome × Nat) : Dev :=
  let d := d0.newPsdu cw
  let key := cw.radio * 4096 + cw.sid
  if !cw.aligned || !(d.peer cw.sid).ul then d.cwOutcome ends cw e.1 e.2
  else if !cw.copyPsdu then (d.ownCw t cw e.1).cwOutcome ends cw e.1 e.2
  else if cw.index = 0 then let d1 := d.takeMap t cw e.1; d1.cwOutcome ends cw e.1 e.2 (!d1.dec.bad.contains key)
  else if d.dec.bad.contains key then d.cwOutcome ends cw e.1 e.2 false
  else
    let runs := tlook (fun _ => []) d.dec.maps key
    match copyOf runs (cw.index - 1) with
    | some (rsn, index) => d.endCopy t ends cw rsn index e
    | none => if runs.isEmpty then d.cwOutcome ends cw e.1 e.2 else (d.ownCw t cw e.1).cwOutcome ends cw e.1 e.2

/-- A waiting codeword takes the first free core, or ends at its deadline without one (R184 to R186). -/
def Dev.serveCw (d : Dev) (t : Nat) (cw : Codeword) : Dev :=
  let e := d.cwEnd cw
  ({ d with dec := { d.dec with cores := d.coresAfter cw e.2 } } : Dev).endCw t (d.cwEnds cw e.2) cw e

/-- The place of a waiting codeword (R184): the earliest deadline first, then radio A before B before C; the order of hand-off stays for the rest. -/
def cwPlace (cw : Codeword) : Nat := cwDeadline cw * 4 + cw.radio

/-- The codewords whose last LLR came before a boundary get their cores. Every later one has a later deadline, so that their order is settled. -/
def Dev.serve (d : Dev) (t : Nat) : Dev :=
  let due := sortBy cwPlace (d.dec.waiting.filter (fun cw => decide (cw.lastLlr < t)))
  if due.isEmpty then d
  else due.foldl (fun e cw => e.serveCw t cw) { d with dec := { d.dec with waiting := d.dec.waiting.filter (fun cw => !decide (cw.lastLlr < t)) } }

/-- CODEWORD_DECODE (R165, R171, R184): the modem hands in a codeword with its last LLR, and it waits for a core, unless it ended after a reception that did not end OK. -/
def goCodewordDecode (cw : Codeword) (d : Dev) : Dev :=
  if d.lostTo cw.radio cw.ppdu cw.lastLlr (some cw.sid) then d
  else { d with dec := { d.dec with waiting := d.dec.waiting ++ [{ cw with llrs := handLlrs cw.llrs }] } }

def execCodewordDecode (cw : Codeword) (s : State) : Host.Outcome State Fault Refusal := .next (s.act fun _ d => goCodewordDecode cw d)

/-- DECODE_DEADLINE (R186): the codeword still waits when its deadline arrives. -/
def goDecodeDeadline (t : Nat) (cw : Codeword) (d : Dev) : Dev :=
  let x := { cw with llrs := handLlrs cw.llrs }
  ({ d with dec := { d.dec with waiting := d.dec.waiting.erase x } } : Dev).endCw t (cwDeadline cw) x (hardEnd cw)

def execDecodeDeadline (cw : Codeword) (s : State) : Host.Outcome State Fault Refusal := .next (s.act fun t d => goDecodeDeadline t cw d)

/-- RETAKE_EXPIRED (R194, R198, R201): slots whose window ended at this boundary are released, but for one of whose combines the decode still runs; those that no copy used are counted. -/
def goRetakeExpired (t : Nat) (d : Dev) : Dev :=
  let isOver (x : Slot) : Bool := x.gone.isNone && decide (x.expiry ≤ tickOf t) && !x.busy.any (fun k => decide (t < k))
  let unused := (d.dec.slots.filter (fun x => isOver x && x.combines == 0)).length
  let d1 := d.modSlots (fun l => l.filter (fun x => !isOver x))
  if unused = 0 then d1 else d1.step 0x3073 0 0 unused

def execRetakeExpired (s : State) : Host.Outcome State Fault Refusal := .next (s.act fun t d => goRetakeExpired t d)

/-! RETAKE_PEER (R189, R202). -/

/-- RETAKE_PEER (R189, R202). -/
def goRetakePeer (t : Nat) (who : Master) (req : List Word) (d : Dev) : Dev :=
  d.mbxNow t (fixedSpec 0x310 false 3 [(1, [(63, 12)]), (2, [(63, 40), (28, 16)])]) who req (fun d =>
    let sid := fld (wd req 1) 11 0
    let w := wd req 2
    let dl := nbit w.toNat 31
    let ul := nbit w.toNat 30
    let s := d.sta sid
    judged d [
      (s.used && !d.ownsSta who sid, .notPermitted),
      (fld w 39 32 != 1 || (!dl && !ul), .badParam),
      (!s.used || !s.retakeOffered || (d.peer sid).accepted, .wrongState)] (fun d =>
        if d.pv 0x3060 (d.staTenant sid) = 0 then (.ok, [0], d)
        else
          let cross := dl && nbit w.toNat 29
          let d1 := (d.modPeer sid (fun _ => { accepted := true, ul := ul, dl := dl, cross := cross, retainCw := fld w 15 0 })).modCall sid
            (fun c => { c with retake := true })
          (.ok, [packW [(b2n dl, 1, 0), (b2n ul, 1, 1), (b2n cross, 1, 2)]], d1)))

def execRetakePeer (f : Nat) (req : List Word) (s : State) : Host.Outcome State Fault Refusal :=
  .next (s.act fun t d => goRetakePeer t (.fn f) req d)

end Sys2Proof.Machine
end

