-- ==== Sys2Proof/Machine/Cues.lean ====
section
/-! DEFINITION. Cues of the Big Top as the planner and the member read and write them (R248, R250 to R257). -/
namespace Sys2Proof.Machine

/-! Channels. -/

/-- Lower edges of the 20 MHz subchannels of a channel that are not punctured; bit `off + i` of `punct` is subchannel i. -/
def subEdges (low n off punct : Nat) : List Nat :=
  ((List.range n).filter (fun i => !nbit punct (off + i))).map (fun i => low + 20 * i)

/-- First subchannel of the operating channel that a take of code `bw` covers: the aligned group that holds the primary (R81). -/
def takeFirst (primary bw : Nat) : Nat := primary / 2 ^ bw * 2 ^ bw

/-- The subchannels that a take occupies, by lower edge in MHz (R81, R255). -/
def takeEdges (c : Channel) (x : TakeRec) : List Nat :=
  let f := takeFirst c.primary x.bw
  subEdges (lowEdge c.centre c.bw + 20 * f) (2 ^ x.bw) f x.puncture

/-! RUs and MRUs by their code (R83): the RU Allocation subfield of IEEE 802.11be, whose tables the spec does not repeat (PRESUMED, log 109). Bits 7:1 give the kind and place within 80 MHz, PS160 and bit 0 the 80 MHz segment. -/

/-- Tones of an RU or MRU. -/
def ruTones (ru : Nat) : Nat :=
  let i := ru % 256 / 2
  if i < 37 then 26 else if i < 53 then 52 else if i < 61 then 106 else if i < 65 then 242 else if i < 67 then 484
  else if i < 68 then 996 else if i < 69 then 1992 else if i < 70 then 3984 else if i < 82 then 78 else if i < 90 then 132
  else if i < 94 then 726 else if i < 96 then 1480 else if i < 100 then 1722 else if i < 104 then 2476 else if i < 105 then 2988
  else if i < 107 then 3472 else 0

/-- The 20 MHz subchannels of a channel that an RU or MRU touches: the first and how many; an MRU of several 242-tone RUs or more counts with the 80, 160 or 320 MHz that it lies in. -/
def ruSpan (ru : Nat) : Nat × Nat :=
  let seg := (ru / 256 % 2) * 2 + ru % 2
  let i := ru % 256 / 2
  if i < 18 then (4 * seg + i / 9, 1) else if i = 18 then (4 * seg + 1, 2) else if i < 37 then (4 * seg + 2 + (i - 19) / 9, 1)
  else if i < 53 then (4 * seg + (i - 37) / 4, 1) else if i < 61 then (4 * seg + (i - 53) / 2, 1) else if i < 65 then (4 * seg + (i - 61), 1)
  else if i < 67 then (4 * seg + 2 * (i - 65), 2) else if i < 68 then (4 * seg, 4) else if i < 69 then (seg / 2 * 8, 8)
  else if i < 70 then (0, 16) else if i < 82 then (4 * seg + (i - 70) / 3, 1) else if i < 90 then (4 * seg + (i - 82) / 2, 1)
  else if i < 94 then (4 * seg, 4) else if i < 100 then (seg / 2 * 8, 8) else (0, 16)

/-- Code of the same tones once the channel begins `k` subchannels higher: 8 leave the lower 160 MHz, 4 the lower 80 MHz, and 2 or 1 move the place within 80 MHz by a half or a quarter of the places of its kind. -/
def ruLower (k ru : Nat) : Nat :=
  let i := ru % 256 / 2
  if k = 8 then ru - 256
  else if k = 4 then ru - 1
  else ru - 2 * (if i < 37 then (if k = 2 then 19 else 9) else if i < 53 then 4 * k else if i < 61 then 2 * k else if i < 65 then k
    else if i < 67 then 1 else if i < 82 then 3 * k else 2 * k)

/-- The half of a channel of 2 `k` subchannels that begins at subchannel `lo` of it, 0 or `k`, holds an RU. -/
def ruInHalf (k lo ru : Nat) : Bool := decide (lo ≤ (ruSpan ru).1) && decide ((ruSpan ru).1 + (ruSpan ru).2 ≤ lo + k)

/-! Cue bodies (R248). -/

/-- A cue entry from its word. -/
def cueEntry (w : Nat) : Nat × Bool × Nat × Nat := (nbits w 31 20, nbit w 19, nbits w 18 10, nbits w 9 6)

/-- Parse `n` entries; bits 5:0 are 0. -/
def parseEntries : Nat → List Byte → Option (List (Nat × Bool × Nat × Nat) × List Byte)
  | 0, l => some ([], l)
  | n + 1, l =>
    if l.length < 4 || beAt l 0 4 % 64 ≠ 0 then none
    else match parseEntries n (l.drop 4) with
      | some (es, rest) => some (cueEntry (beAt l 0 4) :: es, rest)
      | none => none

/-- A take record: ES, END, KIND, N_ENTRIES, OBSS_PD. -/
def parseTake (l : List Byte) : Option (Nat × Nat × Nat × Nat × Nat) :=
  let es := beAt l 0 2
  let e := beAt l 2 2
  let n := octAt l 5
  if l.length < 8 || decide (1000 < e) || decide (e < es) || decide (4 < octAt l 4) || n == 0 || decide (148 < n) || octAt l 7 != 0 then none
  else some (es, e, octAt l 4, n, octAt l 6)

/-- Parse `n` take records. -/
def parseTakes : Nat → List Byte → Option (List (Nat × Nat × Nat × Nat × Nat) × List Byte)
  | 0, l => some ([], l)
  | n + 1, l =>
    match parseTake l, parseTakes n (l.drop 8) with
    | some x, some (xs, rest) => some (x :: xs, rest)
    | _, _ => none

/-- Give each take record its entries. -/
def fillTakes (r centre bw punct : Nat) : List (Nat × Nat × Nat × Nat × Nat) → List Byte → Option (List CueTake × List Byte)
  | [], l => some ([], l)
  | (es, e, k, n, pd) :: xs, l =>
    match parseEntries n l with
    | none => none
    | some (ents, rest) =>
      match fillTakes r centre bw punct xs rest with
      | none => none
      | some (ts, rest') => some ({ radio := r, centre := centre, bw := bw, puncture := punct, es := es, endBeat := e, kind := k, obssPd := pd, entries := ents } :: ts, rest')

/-- One radio section. -/
def parseSection (r : Nat) (l : List Byte) : Option (List CueTake × List Byte) :=
  let n := octAt l 1
  if l.length < 8 || octAt l 0 != r || decide (16 < n) || decide (maxBw r < octAt l 4) || octAt l 5 != 0 then none
  else match parseTakes n (l.drop 8) with
    | none => none
    | some (ts, rest) => fillTakes r (beAt l 2 2) (octAt l 4) (beAt l 6 2) ts rest

/-- A cue body parses exactly to its length, with no field out of range (R250). -/
def parseCue (l : List Byte) : Option (List CueTake) :=
  match parseSection 0 l with
  | none => none
  | some (a, l1) =>
    match parseSection 1 l1 with
    | none => none
    | some (b, l2) =>
      match parseSection 2 l2 with
      | some (c, []) => some (a ++ b ++ c)
      | _ => none

/-- The octets of one radio's section for its sheet. -/
def sectionOctets (r : Nat) (c : Option Channel) (s : Sheet) : List Byte :=
  match c with
  | none => [BitVec.ofNat 8 r, 0, 0, 0, 0, 0, 0, 0]
  | some ch =>
    let ks := List.range s.takeCount
    let punct := (ks.map (fun k => (s.take k).puncture)).foldl (fun a b => a &&& b) (if s.takeCount = 0 then 0 else 65535)
    [BitVec.ofNat 8 r, BitVec.ofNat 8 s.takeCount] ++ beBytes ch.centre 2 ++ [BitVec.ofNat 8 ch.bw, 0] ++ beBytes punct 2 ++
    ks.flatMap (fun k => let x := s.take k
      beBytes x.es 2 ++ beBytes x.endBeat 2 ++ [BitVec.ofNat 8 x.kind, BitVec.ofNat 8 x.castCount, BitVec.ofNat 8 x.obssPd, 0]) ++
    ks.flatMap (fun k => (s.castOf k).flatMap (fun e =>
      beBytes (packN [(e.nss, 4, 6), (e.ru, 9, 10), (b2n e.uplink, 1, 19), (e.sid, 12, 20)]) 4))

/-- The body of the member's own cue for a tick. -/
def Dev.cueBody (d : Dev) (tick : Nat) : List Byte :=
  (List.range 3).flatMap (fun r => sectionOctets r (if (d.radio r).inService then d.chanAt r tick else none) (d.sheet r tick))

/-- Cut a body into segments of at most 1,440 octets; `n` bounds them. -/
def segments : Nat → List Byte → List (List Byte)
  | 0, _ => []
  | n + 1, l => if l.length ≤ 1440 then [l] else l.take 1440 :: segments n (l.drop 1440)

/-! Coordination for a tick (R252, R254). -/

/-- The neighbour set in force at a tick's beat 0. -/
def Dev.setAt (d : Dev) (tick : Nat) : List Nat := ((d.bt.sets.find? (fun s => decide (s.1 ≤ tick))).map (·.2)).getD []

/-- The neighbour set that governs the planning of tick T (R254). -/
def Dev.neighbours (d : Dev) (tick : Nat) : List Nat := d.setAt (tick - 2)

/-- The body of a cue whose segments are all held. -/
def Cue.body (c : Cue) : List Byte := (sortBy (·.1) c.segs).flatMap (·.2)

/-- The takes of a coordinated neighbour's cue for a tick (R252, R254), none when it is uncoordinated. -/
def Dev.cueOf (d : Dev) (tick chip : Nat) : Option (List CueTake) :=
  if d.bt.left.any (fun x => x.1 == chip && decide (x.2 ≤ tick)) then none
  else
    let l := d.bt.cues.filter (fun c => c.chip == chip && c.tick == tick)
    if l.any (fun c => c.clash) then none
    else match l.find? (fun c => c.complete && !c.late && !c.bad) with
      | some c => parseCue c.body
      | none => none

/-- The member plans in coordinated mode: COORDINATED or HOLDOVER, and not leaving (R234, R245). -/
def Dev.coordinating (d : Dev) : Bool := (decide (d.bt.mode = .coordinated) || decide (d.bt.mode = .holdover)) && d.bt.leaveTick.isNone

/-- A tick is planned in coordinated mode: those drafted before the member entered it are independent (R243). -/
def Dev.coordinatingFor (d : Dev) (tick : Nat) : Bool := d.coordinating && decide (d.bt.coordFrom ≤ tick)

/-- The neighbours coordinated for a tick with their takes. -/
def Dev.coordinated (d : Dev) (tick : Nat) : List (Nat × List CueTake) :=
  (d.neighbours tick).filterMap (fun c => (d.cueOf tick c).map (fun ts => (c, ts)))

/-- Own and neighbour takes overlap (R255): a window runs from ES to before END (R81), and one of no beat overlaps nothing. -/
def overlap (c : Channel) (x : TakeRec) (y : CueTake) : Bool :=
  decide (Nat.max x.es y.es < Nat.min x.endBeat y.endBeat) &&
  (takeEdges c x).any (fun e => (subEdges (lowEdge y.centre y.bw) (2 ^ y.bw) 0 y.puncture).contains e)

/-- The cross-channel estimate of a client that a radio may use in a tick: one no older than the radio's XEST_MAX_AGE (R175). -/
def Dev.crossOf (d : Dev) (r tick chip sid : Nat) : Option CrossEst :=
  (d.mdm.cross.find? (fun e => e.1 == r && e.2.1.chip == chip && e.2.1.sid == sid && decide (tick ≤ e.2.2 + d.pv 0x3022 0 r))).map (·.2.1)

/-- Its power. -/
def Dev.crossPower (d : Dev) (r tick chip sid : Nat) : Option Int := (d.crossOf r tick chip sid).map (·.power)

/-- Rank of a null candidate (R256): by power, strongest first, those without an estimate last, then by chip and SID; a number to sort by. -/
def nullRank (p : Option Int) (chip sid : Nat) : Nat :=
  (match p with | some v => (100000 - v).toNat | none => 200000) * 2 ^ 26 + chip * 4096 + sid

/-- Candidates for the null list of a take: null entry and NSS + 1, in rank order. -/
def Dev.nullCandidates (d : Dev) (r tick : Nat) (c : Channel) (x : TakeRec) (cues : List (Nat × List CueTake)) : List (NullEntry × Nat) :=
  let l := cues.flatMap (fun n => (n.2.filter (fun y => overlap c x y)).flatMap (fun y =>
    (y.entries.filter (fun e => !e.2.1)).map (fun e => (({ chip := n.1, sid := e.1 } : NullEntry), e.2.2.2 + 1))))
  sortBy (fun e => nullRank (d.crossPower r tick e.1.chip e.1.sid) e.1.chip e.1.sid) l

/-- A neighbour's cue for a tick has been settled as late, clashing or bad. -/
def Dev.cueSettled (d : Dev) (tick chip : Nat) : Bool := d.bt.cues.any (fun c => c.chip == chip && c.tick == tick && (c.late || c.clash || c.bad))

/-- Count a late cue (R251). -/
def Dev.countLate (d : Dev) (t : Nat) : Dev := ((d.step 0x5041).bump 33 3).inc t 7 1

/-- At the final pass every neighbour's cue that is neither held nor withdrawn by a leave message is late (R89, R245, R251); cues of past ticks go. -/
def Dev.lateCues (d : Dev) (t tick : Nat) : Dev :=
  let d0 : Dev := { d with bt := { d.bt with cues := d.bt.cues.filter (fun c => decide (tick ≤ c.tick + 1)) } }
  if !d0.coordinatingFor tick then d0
  else (d0.neighbours tick).foldl (fun e c =>
    if (e.cueOf tick c).isSome || e.cueSettled tick c || e.bt.left.any (fun x => x.1 == c && decide (x.2 ≤ tick)) then e
    else
      let mark : Cue := { chip := c, tick := tick, src := 0, segCount := 0, late := true }
      ({ e with bt := { e.bt with cues := mark :: e.bt.cues.filter (fun x => !(x.chip == c && x.tick == tick)) } } : Dev).countLate t) d0

end Sys2Proof.Machine
end

