-- ==== Sys2Proof/Machine/Planner.lean ====
section
/-! DEFINITION. The tick planner (R76 to R118, R475): drafts, the fit pass, the final pass, picture lock, and the play of sheets. -/
namespace Sys2Proof.Machine

/-! The fit pass (R107). -/

/-- A take of one of the three sheets under work. -/
abbrev RPart := Nat × Part

/-- Takes of the sheets of a tick that are still in their passes (DRAFTING or READY). -/
def Dev.openParts (d : Dev) (tick : Nat) : List RPart :=
  (List.range 3).flatMap (fun r =>
    let s := d.sheet r tick
    if s.tick == tick && (s.state == .drafting || s.state == .ready) then s.parts.map (fun p => (r, p)) else [])

/-- Cost of the sheets under work. -/
def Dev.partsCost (d : Dev) (ps : List RPart) : Nat := sumN (ps.map (fun x => d.takeCost x.1 x.2.hd))

/-- The first element with the greatest key among those that pass a test; ties go to the earlier one. -/
def firstMax {α : Type} (ok : α → Bool) (key : α → Nat) (l : List α) : Option α :=
  l.foldl (fun (best : Option α) x =>
    if ok x then (match best with | some b => if key b < key x then some x else best | none => some x) else best) none

/-- A take's place among the sheets. -/
def samePart (a b : RPart) : Bool := a.1 == b.1 && a.2.num == b.2.num

/-- Replace one take. -/
def putPart (x : RPart) (l : List RPart) : List RPart := l.map (fun y => if samePart x y then x else y)

/-- Cast of a take whose channel is halved before a cue is sent (R107): which members still fit, and the RU code of each one's new place, follow from tables of IEEE 802.11 that the spec does not state, so both are free values (log 11). -/
def repack : List CastEntry → Dev → List CastEntry × Dev
  | [], d => ([], d)
  | e :: rest, d =>
    let v := d.free.toNat
    let x := repack rest d.drew
    if v.testBit 9 then ({ e with ru := v % 512 } :: x.1, x.2) else x

/-- Members in the order in which the packing takes them: by METRIC, highest first, then by SID (R107). -/
def packOrder (d : Dev) (l : List CastEntry) : List CastEntry :=
  sortBy (fun e => (2 ^ 32 - 1 - (d.callOf e.sid).metric) * 4096 + e.sid) l

/-- Cast of a take whose channel is halved after its cue was sent (R88, R107): exactly the members whose tones lie in the half kept, which begins at subchannel `lo` of the channel and has `k`, on those same tones, under the codes of the narrower channel. -/
def keepHalf (k lo : Nat) (l : List CastEntry) : List CastEntry :=
  (l.filter (fun e => ruInHalf k lo e.ru)).map (fun e => if lo = 0 then e else { e with ru := ruLower k e.ru })

/-- The cast after the halving. -/
def Dev.halvedCast (d : Dev) (sent : Bool) (primary bw : Nat) (l : List CastEntry) : List CastEntry × Dev :=
  if sent then (keepHalf (2 ^ bw) (primary / 2 ^ bw % 2 * 2 ^ bw) l, d) else repack (packOrder d l) d

/-- The subchannels of a take's channel, as bits of PUNCTURE (R81). -/
def Dev.takeSubs (d : Dev) (r tick bw : Nat) : Nat :=
  (2 ^ 2 ^ bw - 1) * 2 ^ takeFirst (((d.chanAt r tick).map (·.primary)).getD 0) bw

/-- Step 2 of the fit: the half of the channel that holds the primary stays, with its PUNCTURE bits. -/
def narrowPart (d : Dev) (sent : Bool) (tick : Nat) (x : RPart) : List RPart × Dev :=
  let bw := x.2.hd.bw - 1
  let keep := d.takeSubs x.1 tick bw
  let c := d.halvedCast sent (((d.chanAt x.1 tick).map (·.primary)).getD 0) bw x.2.cast
  if c.1.isEmpty then ([], c.2)
  else
    let hd := { x.2.hd with bw := bw, puncture := x.2.hd.puncture &&& keep, tracked := (c.1.filter (fun e => e.tracked)).length }
    ([(x.1, { x.2 with hd := hd, cast := c.1 })], c.2)

/-- Planned octets of a take. -/
def Part.octets (p : Part) : Nat := sumN (p.cast.map (·.bytes))

/-- One reduction: chains first, bandwidth second, takes last (R107). -/
def fitStep (d : Dev) (sent : Bool) (tick : Nat) (l : List RPart) : List RPart × Dev :=
  match firstMax (fun x : RPart => decide (x.2.hd.streams + x.2.hd.nullDims < popcount x.2.hd.chainMask 16)) (fun x => d.perChain x.1 x.2.hd) l with
  | some x =>
    let m := x.2.hd.chainMask
    let top := 2 ^ ((highBit m 16).getD 0)
    (putPart (x.1, { x.2 with hd := { x.2.hd with chainMask := m - top } }) l, d)
  | none =>
    match firstMax (fun x : RPart => decide (0 < x.2.hd.bw)) (fun x => x.2.hd.bw) l with
    | some x =>
      let n := narrowPart d sent tick x
      (l.flatMap (fun y => if samePart x y then n.1 else [y]), n.2)
    | none =>
      match firstMax (fun _ : RPart => true) (fun x => (2 ^ 40 - x.2.octets) * 1024 + (2 - x.1) * 32 + x.2.num) l with
      | some x => (l.filter (fun y => !samePart x y), d)
      | none => (l, d)

/-- Reduce until the cost meets the budget; `n` bounds the steps. -/
def fitLoop (budget : Nat) (sent : Bool) (tick : Nat) : Nat → List RPart → Dev → List RPart × Dev
  | 0, l, d => (l, d)
  | n + 1, l, d =>
    if 1000 * budget < d.partsCost l then
      let x := fitStep d sent tick l
      fitLoop budget sent tick n x.1 x.2
    else (l, d)

/-- A sheet after the fit pass. One that was READY and must change goes back to DRAFTING for it, as firmware may have it (R86, R475), and is READY again at its end (DEDUCED, log 118). -/
def fitSheet (budget : Nat) (ps : List Part) (s : Sheet) : Sheet :=
  let s1 := if s.parts = ps then s else s.withParts ps
  { (if s.state = .ready then s1.readied else s1) with budgetUj := budget }

/-- The fit pass on the sheets of a tick (R104, R107): at most 16 chains, 4 halvings and 1 removal for each of 48 takes. -/
def Dev.fit (d : Dev) (tick : Nat) : Dev :=
  let sent := d.bt.cueSent == tick + 1
  let x := fitLoop d.pln.budget sent tick 1100 (d.openParts tick) d
  (List.range 3).foldl (fun e r =>
    e.modSheet r tick (fun s =>
      if s.tick == tick && (s.state == .drafting || s.state == .ready) then fitSheet d.pln.budget ((x.1.filter (fun y => y.1 == r)).map (·.2)) s
      else s)) x.2

/-! The draft (R76, R90, R111, R112). -/

/-- CFO_EST as a number, none for no estimate. -/
def CallSheet.cfo (c : CallSheet) : Option Int := if c.cfoEst = 0x8000 then none else some (sgn 16 c.cfoEst)

/-- |CFO_EST| for ranking: no estimate counts as 500 (R112). -/
def CallSheet.cfoAbs (c : CallSheet) : Nat := match c.cfo with | some v => v.natAbs | none => 500

/-- A cast member needs tracking (R112). -/
def Dev.needsTrack (d : Dev) (tick : Nat) (c : CallSheet) : Bool :=
  c.trackPref == 1 || c.cfo.isNone || decide (d.pv 0x1033 < c.cfoAbs) || decide (c.cfoFullTick + d.pv 0x1031 < tick)

/-- The latest tick not after `tick` whose bits 15:0 are `low` (R112). -/
def fullTick (tick low : Nat) : Nat := tick - (tick + 65536 - low) % 65536

/-- The metric of R111 for a station on a radio and access category. -/
def Dev.metricOf (d : Dev) (tick r ac : Nat) (c : CallSheet) : Nat :=
  let rate := match r with | 0 => c.rateA | 1 => c.rateB | _ => c.rateC
  let m := d.pv 0x1021 c.tenant ac * rate * 1024 / (c.servedAvg + 1)
  if d.pv 0x1022 < (tick + 2 ^ 32 - c.lastServed) % 2 ^ 32 then 2 * m else m

/-- BACKLOG of an access category. -/
def CallSheet.backlog (c : CallSheet) (ac : Nat) : Nat :=
  match ac with | 0 => c.backlogBk | 1 => c.backlogBe | 2 => c.backlogVi | _ => c.backlogVo

/-- METRIC after the snapshot's computations, radio by radio and access category by access category; a metric beyond 32 bits is a free value (log 12). -/
def Dev.lastMetric (d : Dev) (tick : Nat) (c : CallSheet) : Nat :=
  let l := (List.range 3).flatMap (fun r => if nbit c.links r then (List.range 4).filterMap (fun ac => if c.backlog ac = 0 then none else some (d.metricOf tick r ac c)) else [])
  match l.getLast? with
  | none => c.metric
  | some m => if m < 2 ^ 32 then m else d.free.toNat % 2 ^ 32

/-- What the planner writes into a valid call sheet at the snapshot: TRACK_PREF, the running average, the estimate's full tick and METRIC. -/
def Dev.snapCall (d : Dev) (tick sid : Nat) (c : CallSheet) : CallSheet :=
  if !c.valid then c
  else
    let old := tlook callReset d.pln.snap sid
    let c1 := { c with
      trackPref := d.pv 0x1032 0 sid
      servedAvg := (15 * c.servedAvg + c.servedTick) / 16, servedTick := 0
      cfoFullTick := if c.cfoTick = old.cfoTick && old.valid then c.cfoFullTick else fullTick tick c.cfoTick }
    { c1 with metric := d.lastMetric tick c1 }

/-- A TWT station is cast only in a window that lies inside one of its service periods (R146). -/
def Dev.twtOk (d : Dev) (tick : Nat) (x : TakeRec) (sid : Nat) : Bool :=
  let s := d.sta sid
  let a := tick * 1024000 + x.es * 1000
  let b := tick * 1024000 + x.endBeat * 1000
  s.schedules.isEmpty || s.schedules.any (fun w => w.inside a && (decide (b ≤ a) || (w.inside (b - 1) && w.period a == w.period (b - 1))))

/-- A station may be cast in a take (R91, R112, R131, R146). -/
def Dev.mayCast (d : Dev) (r tick : Nat) (x : TakeRec) (e : CastEntry) : Bool :=
  let c := d.callOf e.sid
  c.valid && nbit c.links r && decide (e.mcs ≤ 13) && d.acOn e.sid r e.ac e.uplink && !(e.uplink && c.ulExcluded) && d.twtOk tick x e.sid

/-- Beats that the beacons of a radio take in a tick, by those BSSs whose TBTT it holds (R123). -/
def Dev.beaconBeats (d : Dev) (r tick : Nat) : Nat :=
  (sumN ((d.mac.bss.filter (fun e => e.2.running && radioOf e.1 == r && e.2.beaconTu != 0 && decide (e.2.firstTick ≤ tick) && tick % e.2.beaconTu == e.2.phase)).map
    (fun e => e.2.beaconNs)) + 999) / 1000

/-- The lowest ES of a radio's takes in a tick: 380 with a full calibration (R218), 40 with a channel change (R229), and the end of the airtime of the beacons due (R123). -/
def Dev.minEs (d : Dev) (r tick : Nat) : Nat :=
  Nat.max (d.beaconBeats r tick)
    (if (d.radio r).fullCalAt.contains tick then 380
    else match (d.radio r).change with
      | some (k, _) => if k = tick then 40 else 0
      | none => 0)

/-- A take that begins no earlier than `m` (R123, R218, R229): its ES moves there where its window still holds it; a take that cannot move, or may not once its cue is sent (R88), is not planned. -/
def Part.from' (m : Nat) (sent : Bool) (p : Part) : Option Part :=
  if m ≤ p.hd.es then some p
  else if !sent && decide (m ≤ p.hd.ls) && decide (p.hd.txBeats + p.hd.rxBeats ≤ p.hd.endBeat - m) then some { p with hd := { p.hd with es := m } }
  else none

/-- A cast entry as the planner keeps it: RETAKE only for a station for which it is in force, within the retention window (R189). -/
def Dev.castKept (d : Dev) (r tick : Nat) (e : CastEntry) : CastEntry := { e with retake := e.retake && (d.callOf e.sid).retake && d.retakeOpen r tick e }

/-- No feedback report of a station. -/
def steerReset : Nat → Steer := fun _ => {}

/-- A station may be served with steering on a radio in a draft of tick `now` (R174): its report is no older than STEER_MAX_AGE, and it has been sounded within SOUND_INTERVAL, since the planner sounds every station that it steers that often (DEDUCED, log 123). -/
def Dev.steerable (d : Dev) (r now sid : Nat) : Bool :=
  let at' := (tlook steerReset d.mdm.steering (r * 4096 + sid)).tick1
  let last := tlook (fun _ => 0) d.mdm.sounded (r * 4096 + sid)
  at' != 0 && decide (now + 1 ≤ at' + d.pv 0x3021 0 r) && last != 0 && decide (now + 1 ≤ last + d.pv 0x3020 0 r)

/-- Two downlink entries stand on one RU: an MU-MIMO group. -/
def sameGroup (a b : CastEntry) : Bool := !a.uplink && !b.uplink && a.ru == b.ru

/-- No station without steering is in an MU-MIMO group (R174): it leaves a group that others keep up. -/
def Dev.muKept (d : Dev) (r now : Nat) (l : List CastEntry) : List CastEntry :=
  ((List.zipIdx l).filter (fun x => d.steerable r now x.1.sid ||
    !(List.zipIdx l).any (fun y => y.2 != x.2 && sameGroup x.1 y.1 && (d.steerable r now y.1.sid || decide (y.2 < x.2))))).map (·.1)

/-- What the detector serves on one RU in the uplink (R171): at most 8 users and 16 streams. -/
def detectorFits (l : List CastEntry) : List CastEntry :=
  l.foldl (fun acc e =>
    let same := acc.filter (fun y => e.uplink && y.uplink && y.ru == e.ru)
    if same.length < 8 && decide (sumN (same.map (fun y => y.nss + 1)) + e.nss + 1 ≤ 16) then acc ++ [e] else acc) []

/-- A sheet has takes, and every one of them leaves the chain out. -/
def leavesOut (s : Sheet) (i : Nat) : Bool := decide (0 < s.takeCount) && (List.range s.takeCount).all (fun k => !nbit (s.take k).chainMask i)

/-- The chain of a radio that the draft for a tick leaves out (R219, R476): the one due longest that neither of the two sheets before leaves out already. -/
def Dev.outChain (d : Dev) (t r tick : Nat) : Option Nat :=
  let ok (i : Nat) : Bool :=
    let c := 16 * r + i
    ((d.chain c).due || d.calDue t c) && !(d.chain c).calibrating &&
    [tick - 2, tick - 1].all (fun k => !((d.sheet r k).tick == k && leavesOut (d.sheet r k) i))
  ((sortBy (fun i => (if (d.chain (16 * r + i)).due then (d.chain (16 * r + i)).dueTick else tickOf t) * 16 + i) ((List.range 16).filter ok))).head?

/-- A take without a chain, its STREAMS and NULL_DIMS within the chains that remain (R476); one that had no other takes the next chain of the radio in its place (DESIGN CHOICE, log 108). -/
def withoutChain (i : Nat) (p : Part) : Part :=
  if nbit p.hd.chainMask i then
    let m := if p.hd.chainMask % 65536 = 2 ^ i then 2 ^ ((i + 1) % 16) else p.hd.chainMask - 2 ^ i
    let s := Nat.min p.hd.streams (popcount m 16)
    { p with hd := { p.hd with chainMask := m, streams := s, nullDims := Nat.min p.hd.nullDims (popcount m 16 - s) } }
  else p

/-! Shares, caps, floors and rank (R109 to R111). -/

/-- The live members of a take that was on the air for `beats` share its airtime by their tones (R109). -/
def Dev.giveAir (d : Dev) (tick r beats : Nat) (cast : List CastEntry) : Dev :=
  let live := cast.filter (fun e => !e.void)
  let all := Nat.max 1 (sumN (live.map (fun e => ruTones e.ru)))
  { d with pln := { d.pln with air := d.pln.air ++ live.map (fun e =>
      ({ tick := tick, radio := r, tenant := d.staTenant e.sid, ac := e.ac, ns := beats * 1000 * ruTones e.ru / all } : Airtime)) } }

/-- Airtime on a radio over the last SHARE_WINDOW ticks, of what passes a test (R109). -/
def Dev.airIn (d : Dev) (tick r : Nat) (ok : Airtime → Bool) : Nat :=
  sumN ((d.pln.air.filter (fun a => a.radio == r && decide (tick ≤ a.tick + d.pv 0x1011) && ok a)).map (·.ns))

/-- A per-mille value out of several, which are scaled in proportion when they sum to more than 1,000 (R109, R110). -/
def scaled (all : List Nat) (v : Nat) : Nat := if 1000 < sumN all then v * 1000 / sumN all else v

/-- A guarantee of `v` per mille of `all` that `given` does not meet. -/
def unmet (v given all : Nat) : Bool := v != 0 && (all == 0 || decide (given * 1000 < v * all))

/-- A tenant's share of a radio is not met (R109). -/
def Dev.shareUnmet (d : Dev) (tick r ten : Nat) : Bool :=
  unmet (scaled ((List.range 16).map (fun k => d.pv 0x1010 k r)) (d.pv 0x1010 ten r)) (d.airIn tick r (fun a => a.tenant == ten)) (d.airIn tick r (fun _ => true))

/-- A tenant has what its cap on a radio allows, and claims no share (R109). -/
def Dev.capped (d : Dev) (tick r ten : Nat) : Bool :=
  let cap := d.pv 0x1012 ten r
  let all := d.airIn tick r (fun _ => true)
  decide (cap < 1000) && !d.shareUnmet tick r ten && (cap == 0 || (all != 0 && decide (cap * all ≤ d.airIn tick r (fun a => a.tenant == ten) * 1000)))

/-- An access category's floor within its tenant's airtime on a radio is not met (R110). -/
def Dev.floorUnmet (d : Dev) (tick r ten ac : Nat) : Bool :=
  unmet (scaled ((List.range 4).map (fun k => d.pv 0x1020 ten k)) (d.pv 0x1020 ten ac))
    (d.airIn tick r (fun a => a.tenant == ten && a.ac == ac)) (d.airIn tick r (fun a => a.tenant == ten))

/-- Rank for casting, lowest first (R109 to R111): backlog at the snapshot, an unmet share, an unmet floor, the metric, the SID. The AP holds no backlog of an uplink, so that an uplink entry counts as backlogged. -/
def Dev.castRank (d : Dev) (tick r : Nat) (e : CastEntry) : Nat :=
  let c := d.callOf e.sid
  let m := d.metricOf tick r e.ac c
  let idle := !e.uplink && (tlook callReset d.pln.snap e.sid).backlog e.ac == 0
  ((4 * b2n idle + 2 * b2n (!d.shareUnmet tick r c.tenant) + b2n (!d.floorUnmet tick r c.tenant e.ac)) * 2 ^ 64 + (2 ^ 64 - 1 - m % 2 ^ 64)) * 4096 + e.sid % 4096

/-- The `n` entries of a cast that rank first, in their own order (R78, R111). -/
def Dev.chooseCast (d : Dev) (tick r n : Nat) (l : List CastEntry) : List CastEntry :=
  let first := ((sortBy (fun x => d.castRank tick r x.1) (List.zipIdx l)).take n).map (·.2)
  ((List.zipIdx l).filter (fun x => first.contains x.2)).map (·.1)

/-- The planner may give a take's airtime to an entry (R91, R109, R112, R131, R146). -/
def Dev.castable (d : Dev) (r tick : Nat) (x : TakeRec) (e : CastEntry) : Bool := d.mayCast r tick x e && !d.capped (tick - 2) r (d.callOf e.sid).tenant

/-- Octets of an access category of a station that takes drafted before already plan. -/
def plannedOctets (before : List CastEntry) (sid ac : Nat) : Nat := sumN ((before.filter (fun e => e.sid == sid && e.ac == ac && !e.uplink)).map (·.bytes))

/-- The stations that a downlink take could serve beside those proposed for it (R109 to R111): every access category with backlog at the snapshot, less what is planned already, that may be cast. -/
def Dev.backlogged (d : Dev) (r tick : Nat) (x : TakeRec) (before l : List CastEntry) : List CastEntry :=
  (d.pln.snap.flatMap (fun c => (List.range 4).filterMap (fun ac =>
    let n := c.2.backlog ac - plannedOctets before c.1 ac
    if n = 0 || l.any (fun e => e.sid == c.1 && e.ac == ac && !e.uplink) then none
    else some { sid := c.1, ac := ac, bytes := Nat.min n 16777215 }))).filter (d.castable r tick x)

/-- Give the places of a cast (its RUs, streams and MCSs as the firmware packed them) to those chosen: whoever was proposed and stays keeps the place proposed, and the others take the places that fall free, in order. -/
def seat (chosen extra : List CastEntry) : List CastEntry → List CastEntry
  | [] => []
  | p :: rest =>
    if p.uplink || chosen.contains p then p :: seat chosen extra rest
    else match extra with
      | e :: more => { p with sid := e.sid, ac := e.ac, bytes := e.bytes, retake := false } :: seat chosen more rest
      | [] => seat chosen [] rest

/-- Who is cast in a drafted take (R109 to R111): the downlink places that the firmware packed go to the entries that rank first among those proposed and all that have backlog. A sounding names whom the firmware has it name (R174), and an uplink's members are as proposed. -/
def Dev.seated (d : Dev) (r tick : Nat) (x : TakeRec) (before l : List CastEntry) : List CastEntry :=
  if x.kind = 3 then l.filter (d.castable r tick x)
  else
    let ups := l.filter (fun e => !e.uplink || d.castable r tick x e)
    let down := ups.filter (fun e => !e.uplink)
    let first := (sortBy (d.castRank (tick - 2) r) (down.filter (d.castable r tick x) ++ d.backlogged r tick x before down)).take down.length
    seat first (first.filter (fun e => !down.contains e)) ups

/-- A drafted take as the mode has it (R81, R88, R151, R171, R174, R234, R256, R257): of a bandwidth that the radio has, and in coordinated mode NULL_RESERVE dimensions for nulls and COORD_OBSS_PD, else none and CONS_OBSS_PD; no nulls and no tracked users yet; `before` is what the takes drafted before it plan. -/
def Dev.draftPart (d : Dev) (r tick : Nat) (before : List CastEntry) (p : Part) : Part :=
  let dims := if d.coordinatingFor tick then d.pv 0x5032 0 r else 0
  let hd := { p.hd with
    bw := Nat.min p.hd.bw (maxBw r), nullDims := dims, prot := 0, tracked := 0, streams := Nat.min p.hd.streams (16 - dims)
    obssPd := unsgn 8 (d.pvi (if d.coordinatingFor tick then 0x5031 else 0x5030) 0 r), puncture := p.hd.puncture &&& d.takeSubs r tick p.hd.bw }
  let may := detectorFits (d.seated r tick p.hd before p.cast)
  let cast := ((d.chooseCast (tick - 2) r (d.pv 0x1051 0 r) (if p.hd.kind = 4 then may else d.muKept r (tick - 2) may)).map (d.castKept r tick)).map
    (fun e => { e with tracked := false, void := false })
  { p with hd := hd, cast := cast, nulls := [] }

/-- The drafted takes of one radio, as the planner's rules admit them. How many takes there are, when, and how many places of what size each has is the firmware's own packing; who gets the places follows from shares, caps, floors and the metric (DESIGN CHOICE, log 109). -/
def Dev.draftParts (d : Dev) (t r tick : Nat) (s : Sheet) : List RPart :=
  let ps := (({ s with takeCount := Nat.min s.takeCount 16, nums := [] } : Sheet).parts.filterMap (Part.from' (d.minEs r tick) false)).take (d.pv 0x1050 0 r)
  let l := (ps.foldl (fun acc p => acc ++ [d.draftPart r tick (acc.flatMap (·.cast)) p]) []).filter (fun p => !p.cast.isEmpty)
  (match d.outChain t r tick with
    | some i => l.map (withoutChain i)
    | none => l).map (fun p => (r, p))

/-- One take, the takes before it done: an EMLSR station leaves it when one of those holds it in an overlapping window (R136). -/
def Dev.emlsrPart (d : Dev) (held : List (Nat × Nat × Nat)) (x : RPart) : RPart :=
  (x.1, { x.2 with cast := x.2.cast.filter (fun e =>
    !((d.sta e.sid).emlsr && held.any (fun h => h.1 == e.sid && decide (h.2.1 < x.2.hd.endBeat) && decide (x.2.hd.es < h.2.2)))) })

/-- Leave EMLSR stations out of the takes that lose them (R136): in the order of ES, then radio, then take, each stays in the first of the takes whose windows overlap. -/
def Dev.dropEmlsr (d : Dev) (all : List RPart) : List RPart :=
  let order := sortBy (fun x => (x.2.hd.es * 4 + x.1) * 32 + x.2.num) all
  let kept := order.foldl (fun (acc : List (Nat × Nat × Nat) × List RPart) x =>
    let y := d.emlsrPart acc.1 x
    (acc.1 ++ y.2.cast.map (fun e => (e.sid, y.2.hd.es, y.2.hd.endBeat)), acc.2 ++ [y])) ([], [])
  (all.map (fun x => (kept.2.find? (fun y => samePart x y)).getD x)).filter (fun x => !x.2.cast.isEmpty)

/-- A take-log record (R101). -/
def Dev.logTake (d : Dev) (x : TakeLogRec) : Dev :=
  { d with pln := { d.pln with log := d.pln.log ++ [x] } }.bump (18 + x.radio) (8 + x.code)

/-- PPDUs of a plan that were never started: the sheet does not give their number, so it is a free value of 0 to 255 (R101, log 13). -/
def Dev.planFree (d : Dev) : Nat := d.free.toNat % 256

/-- Count lost allocations in the call sheets (R90). -/
def Dev.countMissed (d : Dev) (l : List CastEntry) : Dev :=
  l.foldl (fun e x => e.modCall x.sid (fun c => { c with missed := (c.missed + 1) % 2 ^ 48 })) d

/-- A shed take's record, its completion's hand-off (R39) and its cast's losses (R99). -/
def Dev.shedRecord (d : Dev) (t r tick k endBeat : Nat) : Dev :=
  (((d.logTake { tick := tick, radio := r, take := k, code := 4, sent := 0, abandoned := d.planFree, served := 0, startBeat := 0x3FF, endBeat := endBeat }).drew).handoff
    t .takeCompletion (r * 16 + k)).countMissed ((d.sheet r tick).castOf k)

/-! The final pass (R89, R112, R256, R257). -/

/-- Rank of a member that needs tracking: TRACK_PREF 1 first, then |CFO_EST| descending, then SID (R112). -/
def trackRank (pref : Bool) (c : CallSheet) (sid : Nat) : Nat :=
  (if pref && c.trackPref == 1 then 0 else 2 ^ 40) + (40000 - c.cfoAbs) * 4096 + sid

/-- The call sheet of a station with the TRACK_PREF that applies to the sheets in their final pass (R78). -/
def Dev.callNow (d : Dev) (sid : Nat) : CallSheet := { d.callOf sid with trackPref := d.pv 0x1032 0 sid }

/-- A station gets UL_EXCLUDED (R112): an estimate beyond 5 %, or tracking that it needs and never gets. -/
def Dev.excludes (d : Dev) (tick : Nat) (c : CallSheet) : Bool :=
  (c.cfo.isSome && decide (500 < c.cfoAbs)) || (c.trackPref == 2 && d.needsTrack tick c)

/-- A take with tracked users (R112). -/
def tracksUsers (p : Part) : Bool := p.hd.kind == 1 || p.hd.kind == 2

/-- SIDs that the final pass finds excluded among the uplink members of a take (R112). -/
def Dev.excludedIn (d : Dev) (tick : Nat) (p : Part) : List Nat :=
  if tracksUsers p then ((p.cast.filter (fun e => e.uplink && d.excludes tick (d.callNow e.sid))).map (·.sid)) else []

/-- Tracked users of one take (R112): those that need tracking, at most 16, the excluded and the rest of them removed from the uplink part; free places go to others. -/
def Dev.trackPart (d : Dev) (tick : Nat) (p : Part) : Part :=
  if !tracksUsers p then { p with hd := { p.hd with tracked := 0 }, cast := p.cast.map (fun e => { e with tracked := false }) }
  else
    let out := d.excludedIn tick p
    let ups := p.cast.filter (fun e => e.uplink && !out.contains e.sid)
    let need := sortBy (fun e => trackRank true (d.callNow e.sid) e.sid) (ups.filter (fun e => d.needsTrack tick (d.callNow e.sid)))
    let first := (need.take 16).map (·.sid)
    let gone := out ++ (need.drop 16).map (·.sid)
    let rest := sortBy (fun e => trackRank false (d.callNow e.sid) e.sid) (ups.filter (fun e =>
      !(need.map (·.sid)).contains e.sid && (d.callNow e.sid).trackPref != 2))
    let fill := if d.pv 0x1030 = 1 then (rest.take (16 - first.length)).map (·.sid) else []
    let keep := (p.cast.filter (fun e => !(e.uplink && gone.contains e.sid))).map (fun e =>
      { e with tracked := e.uplink && (first ++ fill).contains e.sid })
    { p with hd := { p.hd with tracked := (keep.filter (fun e => e.tracked)).length }, cast := keep }

/-- Null list of one take (R256). -/
def Dev.nullPart (d : Dev) (r tick : Nat) (cues : List (Nat × List CueTake)) (p : Part) : Part :=
  match d.chanAt r tick with
  | none => { p with hd := { p.hd with nullDims := 0, prot := 0 }, nulls := [] }
  | some c =>
    let l := (d.nullCandidates r tick c p.hd cues).take 32
    let dims := Nat.min (sumN (l.map (·.2))) (Nat.min p.hd.nullDims (popcount p.hd.chainMask 16 - p.hd.streams))
    if dims = 0 then { p with hd := { p.hd with nullDims := 0, prot := 0 }, nulls := [] }
    else { p with hd := { p.hd with nullDims := dims, prot := l.length }, nulls := l.map (·.1) }

/-- COORD_MAP: bit i is neighbour i of the set, coordinated for the tick (R259). -/
def Dev.coordBits (d : Dev) (tick : Nat) : Nat :=
  sumN ((List.zipIdx (d.neighbours tick)).map (fun x => b2n (d.cueOf tick x.1).isSome * 2 ^ x.2))

/-- The lower of two thresholds in dBm, in 8 bits. -/
def minPd (a b : Nat) : Nat := if sgn 8 a < sgn 8 b then a else b

/-- A take as the final pass leaves it, but for its nulls and tracked users (R78, R81, R88): TENANT_CAP, MAX_CAST and the channel in force, and a threshold that a cue already sent lets it only lower. -/
def Dev.finalPart (d : Dev) (r tick pd : Nat) (sent : Bool) (p : Part) : Part :=
  { p with
    hd := { p.hd with obssPd := if sent then minPd p.hd.obssPd pd else pd, puncture := p.hd.puncture &&& d.takeSubs r tick p.hd.bw }
    cast := d.chooseCast (tick - 1) r (d.pv 0x1051 0 r) (p.cast.filter (fun e => !d.capped (tick - 1) r (d.callOf e.sid).tenant)) }

/-- FINAL_PASS (R76, R78, R88, R89, R103, R112, R123, R245, R256, R257), with the cues of the tick where the own one has been sent, even by a member that has left since: MAX_TAKES, MAX_CAST and TENANT_CAP as they stand by beat 768, beacons that have fallen due since the draft, tracked users, nulls and thresholds of the sheets for the next tick, each of which becomes READY, but for the radios whose drafting tasks are starved. -/
def goFinalPass (t : Nat) (starved : List Nat) (d0 : Dev) : Dev :=
  let tick := tickOf t + 1
  let d := d0.lateCues t tick
  let sent := d.bt.cueSent == tick + 1
  let cues := if sent then d.coordinated tick else []
  let all := sent && (d.neighbours tick).all (fun c => (d.cueOf tick c).isSome)
  let one (r : Nat) (s : Sheet) : Sheet :=
    if s.state ≠ .drafting || s.tick ≠ tick || starved.contains r then s
    else
      let pd := unsgn 8 (d.pvi (if all then 0x5031 else 0x5030) 0 r)
      let ps := ((s.parts.filterMap (Part.from' (d.minEs r tick) sent)).take (d.pv 0x1050 0 r)).map (fun p => d.nullPart r tick cues (d.trackPart tick (d.finalPart r tick pd sent p)))
      (s.withParts (ps.filter (fun p => !p.cast.isEmpty))).readied
  let passed (r : Nat) : Bool := (d.sheet r tick).state == .drafting && (d.sheet r tick).tick == tick && !starved.contains r
  let out := ((List.range 3).filter passed).flatMap (fun r => (d.sheet r tick).parts.flatMap (d.excludedIn tick))
  let d2 := out.foldl (fun e sid => e.modCall sid (fun c => { c with ulExcluded := true })) d
  let d1 := (List.range 3).foldl (fun e r => e.modSheet r tick (one r)) d2
  { d1 with bt := { d1.bt with finalTick := tick, coordMap := if sent || d.coordinatingFor tick then d.coordBits tick else 0 } }

def execFinalPass (starved : List Nat) (s : State) : Host.Outcome State Fault Refusal :=
  .next (s.act fun t d => goFinalPass t starved d)

/-! Playing a sheet (R92 to R101). -/

/-- Mark the cast entries of a take whose stations are gone (R97). -/
def Dev.markVoid (d : Dev) (r tick k : Nat) : Dev :=
  d.modSheet r tick (fun s =>
    let x := s.take k
    { s with cast := (List.range x.castCount).foldl (fun m i =>
        tmod castReset m (x.castOffset + i) (fun e => if d.gone e.sid then { e with void := true } else e)) s.cast })

/-- A live entry has something to send or solicit (R97, R144): a sounding solicits every one that is not VOID. -/
def Dev.entryLive (d : Dev) (t r : Nat) (kind : Nat) (e : CastEntry) : Bool :=
  !e.void &&
  (kind == 3 || (!d.emlsrBusy t r e.sid && e.bytes != 0 && (e.uplink || (!d.dozing t e.sid && (d.callOf e.sid).backlog e.ac != 0))))

/-- End the present take of a radio, in beat `b` of the tick: the radio turns to receive, within 2 µs (R211, R212). -/
def Dev.endTake (d : Dev) (t r k b : Nat) : Dev :=
  let d1 := d.modPlay r (fun p => { p with phase := .idle, cur := k + 1, lastEnd := b, later := [], mask := 0, weights := none, triggers := [], air := [] })
  if (d.play r).phase = .onAir then ((d1.modRx r (fun x => { x with preset := none, named := [] })).cutAir t r).femSettle t r else d1

/-- A take ended in beat `b`: its record, and the hand-off of its completion (R39, R101). -/
def Dev.takeDone (d : Dev) (t r k code sent abandoned served startBeat b : Nat) : Dev :=
  ((d.logTake { tick := tickOf t, radio := r, take := k, code := code, sent := sent, abandoned := abandoned, served := served, startBeat := startBeat, endBeat := b }).endTake t r k b).handoff
    t (if code = 1 then .missedCue else .takeCompletion) (16 * r + k)

/-- A take that is not on the air has let the end of its LS beat pass, and the take before it has ended (R95, R98). -/
def Dev.pastLs (d : Dev) (t r : Nat) : Option (Sheet × Nat) :=
  match d.curTake t r with
  | none => none
  | some (s, k) => if (d.play r).phase ≠ .onAir && decide (tickStart t + ((s.take k).ls + 1) * 1000 ≤ t) then some (s, k) else none

/-- The beat in which a take that never started is declared: LS, or the beat in which the take before it ended if that is later (R95, R101). -/
def Dev.declBeat (d : Dev) (r : Nat) (s : Sheet) (k : Nat) : Nat := max (s.take k).ls (d.play r).lastEnd

/-- Declare a missed cue (R95). -/
def Dev.declareMissed (d : Dev) (t r : Nat) (s : Sheet) (k : Nat) : Dev :=
  (((d.countMissed (s.castOf k)).step 0x1060 0 r).takeDone t r k 1 0 d.planFree 0 0x3FF (d.declBeat r s k)).drew

/-- Declare a take that found its synthesiser unlocked (R98). -/
def Dev.declareUnlocked (d : Dev) (t r : Nat) (s : Sheet) (k : Nat) : Dev :=
  (((((d.countMissed (s.castOf k)).step 0x4060 0 r).bump (30 + r) 20).inc t 6 1).takeDone t r k 3 0 d.planFree 0 0x3FF (d.declBeat r s k)).drew

/-- Cast entries of a take that an EMLSR station's service on another radio makes it skip (R136). -/
def Dev.emlsrSkips (d : Dev) (t r : Nat) (cast : List CastEntry) : Nat := (cast.filter (fun e => !e.void && d.emlsrBusy t r e.sid)).length

/-- Count skipped EMLSR entries. -/
def Dev.countSkips (d : Dev) (r n : Nat) : Dev := if n = 0 then d else d.bump (21 + r) 20 n

/-- The next take begins to contend, with the AP's own EDCA parameters for its AC in TX_BSS (R92, R93, R137); one with nothing to send or solicit completes EMPTY (R97). -/
def Dev.contend (d : Dev) (t r : Nat) (s : Sheet) (k : Nat) : Dev :=
  let x := s.take k
  let d1 := (d.markVoid r (tickOf t) k).modPlay r (fun p => { p with cur := k })
  let cast := (d1.sheet r (tickOf t)).castOf k
  if cast.any (d1.entryLive t r x.kind) then
    d1.modPlay r (fun p => { p with phase := .contending, contendBeat := beatOf t, aifsn := d.pv 0x2010 0 (x.txBss * 4 + x.ac), window := 2 ^ d.pv 0x2011 0 (x.txBss * 4 + x.ac) - 1 })
  else (d1.countSkips r (d1.emlsrSkips t r cast)).takeDone t r k 5 0 0 0 0x3FF (beatOf t)

/-- What follows the end of a take at once: the next take contends if its ES has passed (R92), and one whose LS has passed is declared (R95, R98), be it one that has nothing to send or solicit (DESIGN CHOICE, log 110, beside R97); `n` bounds the takes. -/
def Dev.nextTake (t r : Nat) : Nat → Dev → Dev
  | 0, d => d
  | n + 1, d =>
    match d.curTake t r with
    | none => d
    | some (s, k) =>
      if (d.play r).phase ≠ .idle then d
      else if (d.pastLs t r).isSome then
        Dev.nextTake t r n (if (d.radio r).synth = .locked then d.declareMissed t r s k else d.declareUnlocked t r s k)
      else if tickStart t + (s.take k).es * 1000 ≤ t then Dev.nextTake t r n (d.contend t r s k)
      else d

/-- TAKE_CONTEND (R92, R97): at the later of its ES beat and the end of the take before it, the take begins to contend. -/
def goTakeContend (t r : Nat) (d : Dev) : Dev :=
  match d.curTake t r with
  | none => d
  | some (s, k) =>
    if (d.play r).phase ≠ .idle || decide (t < tickStart t + (s.take k).es * 1000) then d
    else Dev.nextTake t r 16 (d.contend t r s k)

def execTakeContend (r : Nat) (s : State) : Host.Outcome State Fault Refusal := .next (s.act fun t d => goTakeContend t r d)

/-- Start the play of a tick's locked sheet, with takes shed before the tick completing at its beat 0 (R77, R99). -/
def Dev.openPlay (d : Dev) (t r : Nat) : Dev :=
  let tick := tickOf t
  let d1 : Dev := { d with pln := { d.pln with play := tput playReset d.pln.play r {} } }
  let s := d1.sheet r tick
  if s.state = .locked && s.tick == tick then
    let d2 := d1.modSheet r tick (fun s => { s with state := .playing })
    (d2.pln.shed.filter (fun x => x.1 == r && x.2.1 == tick)).foldl (fun e x => e.shedRecord t r tick x.2.2 0) d2
  else d1

/-- The opening of a tick's draft (R76, R77, R90): the tick's sheets begin to play, the call sheets are snapped, and what lies in the past goes. -/
def Dev.openTick (d : Dev) (t : Nat) : Dev :=
  let tick := tickOf t
  let d0 := (List.range 3).foldl (fun e r => e.openPlay t r) d
  let d1 := (List.range 3).foldl (fun e r => Dev.nextTake t r 16 e) d0
  let calls := tmap callReset (fun k x => d1.snapCall tick k x) d1.pln.call
  let d2 : Dev := { d1 with pln := { d1.pln with
    call := calls, snap := calls
    log := d1.pln.log.filter (fun x => decide (tick ≤ x.tick + 64))
    air := d1.pln.air.filter (fun x => decide (tick ≤ x.tick + 4096))
    shed := d1.pln.shed.filter (fun x => decide (tick ≤ x.2.1))
    fresh := d1.pln.fresh.filter (fun x => decide (tick ≤ x.2.1))
    forced := d1.pln.forced.filter (fun x => decide (tick < x.first + x.count)) } }
  if calls.any (fun e => e.2.valid) then d2.drew else d2

/-- The sheet of a radio for a tick is still being drafted. -/
def Dev.inDraft (d : Dev) (r tick : Nat) : Bool := (d.sheet r tick).state == .drafting && (d.sheet r tick).tick == tick

/-- The tick that a draft sent now is for (R76): two ticks on or, up to beat 255, the next tick, whose draft opened a tick ago. -/
def Dev.draftTick (d : Dev) (t : Nat) (x : Draft) : Nat :=
  if x.sheet.tick = tickOf t + 1 && decide (beatOf t ≤ 255) && d.inDraft x.radio (tickOf t + 1) then tickOf t + 1 else tickOf t + 2

/-- The slots of the tick before take empty drafts for two ticks on (R77). -/
def Dev.openSlots (d : Dev) (tick : Nat) : Dev :=
  (List.range 3).foldl (fun e r =>
    e.modSheet r tick (fun _ => { state := .drafting, tick := tick % 2 ^ 48, coord := e.coordinatingFor tick, budgetUj := e.pln.budget })) d

/-- The downlink stations of a drafted sheet whose reports are fresh (R174): the age check is made at draft time, and stands. -/
def Dev.noteFresh (d : Dev) (r tick : Nat) (ps : List RPart) : Dev :=
  let sids := ((ps.filter (fun x => x.1 == r)).flatMap (fun x => (x.2.cast.filter (fun e => !e.uplink)).map (·.sid))).eraseDups
  { d with pln := { d.pln with fresh := d.pln.fresh.filter (fun x => !(x.1 == r && x.2.1 == tick)) ++ (sids.filter (d.steerable r (tick - 2))).map (fun i => (r, tick, i)) } }

/-- The firmware's drafts for a tick enter the sheets that are in draft, costed against the most recent budget (R76, R104). COST_NJ and BUDGET_UJ of a draft before its first fit are that cost and that budget, and nothing is reduced before the fit pass (DESIGN CHOICE, log 111, beside R80). -/
def Dev.putDrafts (d : Dev) (t tick : Nat) (drafts : List Draft) : Dev :=
  let of (r : Nat) : Option Sheet := (drafts.find? (fun x => x.radio == r && d.draftTick t x == tick)).map (·.sheet)
  let ps := d.dropEmlsr ((List.range 3).flatMap (fun r =>
    if !d.inDraft r tick then [] else match of r with
      | some s => d.draftParts t r tick s
      | none => (d.sheet r tick).parts.map (fun p => (r, p))))
  (List.range 3).foldl (fun e r =>
    let mine := (ps.filter (fun x => x.1 == r)).map (·.2)
    if !d.inDraft r tick then e else match of r with
      | some s => (e.noteFresh r tick ps).modSheet r tick (fun old => d.costed r { ({ old with fw := s.fw } : Sheet).withParts mine with nums := [], budgetUj := d.pln.budget })
      | none => e.modSheet r tick (fun old => if old.parts = mine then old else old.withParts mine)) d

/-- DRAFT_OPEN (R76, R77, R88, R90, R112): the sheets of this tick begin to play, the call sheets are snapped, and the slots of the tick before take the drafts for two ticks on; from then to beat 255 of the next tick the firmware sends what it drafts. What it drafts is its own choice and comes with the command; the planner's rules are applied to it. -/
def goDraftOpen (t : Nat) (drafts : List Draft) (d : Dev) : Dev :=
  let tick := tickOf t
  let d1 := if d.pln.opened = tick + 1 then d
    else ({ d.openTick t with pln := { (d.openTick t).pln with opened := tick + 1 } } : Dev).openSlots (tick + 2)
  if drafts.isEmpty then d1 else (d1.putDrafts t (tick + 1) drafts).putDrafts t (tick + 2) drafts

def execDraftOpen (drafts : List Draft) (s : State) : Host.Outcome State Fault Refusal :=
  .next (s.act fun t d => goDraftOpen t drafts d)

/-- MSDUs of a station that an entry's planned octets carry: from the head of its access category's queue (R144), those whose TID may use the radio (R131) and that no other radio has on the air (R136), by number. -/
def plannedMsdus (ac : Nat) (may : Nat → Bool) : Nat → List Msdu → List Nat
  | _, [] => []
  | n, m :: rest =>
    if m.ac = ac && may m.tid && m.onAir.isNone && decide (0 < n) then m.id :: plannedMsdus ac may (n - m.len) rest else plannedMsdus ac may n rest

/-- A cast entry's plan (R101, R143, R190): the MSDUs of the PPDU that starts with the take are on the air, the others wait for theirs. -/
def Dev.planEntry (d : Dev) (t r : Nat) (facts : TakeStartFacts) (c : CastEntry) : Dev :=
  let ids := plannedMsdus c.ac (fun i => d.tidOn c.sid r i false) c.bytes (d.sta c.sid).queue
  let wait := facts.later.filter (fun x => x.sid == c.sid && ids.contains x.id)
  let form : PpduForm := { rate := mcsRate c.mcs, copies := c.retake, bcc := facts.bcc.contains c.sid }
  (d.startMsdus t r c.sid form (ids.filter (fun i => !wait.any (fun x => x.id == i)))).modPlay r
    (fun p => { p with later := p.later ++ wait.map (fun x => { sid := x.sid, id := x.id, at' := t + x.ns, airNs := x.airNs, form := form }) })

/-- An ordinary queue whose backoff expired with a take's suffers an internal collision (R93): its contention window doubles, and no frame's retries count (PRESUMED, IEEE 802.11; log 119). -/
def Dev.collide (d : Dev) (q : Nat × Nat) : Dev :=
  { d with mac := { d.mac with backoffs := tmod (fun _ => 0) d.mac.backoffs (q.1 * 4 + q.2) (fun n => n + 1) } }

/-- A sounding begins (R172, R174): an NDP Announcement that names the live cast, an NDP with one LTF for each chain of the take, and for each station the finest grouping whose report stays within 64 KiB. -/
def Dev.sound (d : Dev) (t r : Nat) (x : TakeRec) (cast : List CastEntry) (sizes : List (Nat × Nat)) : Dev :=
  let sids := (cast.filter (fun e => !e.void)).map (·.sid)
  let ng (sid : Nat) : Nat := if ((sizes.find? (fun y => y.1 == sid)).map (·.2)).getD 0 ≤ 65536 then 4 else 16
  ({ d with mdm := { d.mdm with
      sounding := tput (fun _ => {}) d.mdm.sounding r { named := sids.map (fun i => (i, ng i)), ltfs := popcount x.chainMask 16, bw := x.bw }
      sounded := sids.foldl (fun m i => tput (fun _ => 0) m (r * 4096 + i) (tickOf t + 1)) d.mdm.sounded } } : Dev).bump (24 + r) 16

/-- A take is on the air, with its chains, its weights, its triggers whose responses end by beat 1,000, and its sounding if it is one (R81, R96, R162, R172, R176, R212). -/
def Dev.takeOnAir (d : Dev) (t r k : Nat) (x : TakeRec) (cast : List CastEntry) (facts : TakeStartFacts) : Dev :=
  let d1 := d.modPlay r (fun p => { p with
    phase := .onAir, startBeat := beatOf t, mask := x.chainMask % 65536, triggers := (facts.triggers.filter (fun y => byCut t (t + y.ns + y.respNs))).map (fun y => (t + y.ns, y.users))
    weights := d.mdm.weights.find? (fun w => w.radio == r && w.tick == tickOf t && w.take == k) })
  if x.kind = 3 then d1.sound t r x cast facts.fbSize else d1

/-- TAKE_START (R93, R96, R97, R98, R136, R153, R222): the medium is won no later than the end of beat LS with the synthesiser locked and nothing being received, the first PPDU ends by beat 1,000 with its response, and the planned frames go on the air; a take whose stations have all gone since it began to contend is EMPTY. -/
def goTakeStart (t r : Nat) (facts : TakeStartFacts) (d : Dev) : Dev :=
  match d.curTake t r with
  | none => d
  | some (s, k) =>
    let x := s.take k
    if (d.play r).phase = .contending && !d.mayTransmit r then d.held r
    else if (d.play r).phase ≠ .contending || (d.rx r).receiving || decide (t < tickStart t + x.es * 1000) || decide (tickStart t + (x.ls + 1) * 1000 < t) ||
        decide (t < tlook (fun _ => 0) d.mac.txopEnd r) || decide (tickStart t + 1000000 < t + Nat.max 1 facts.airNs) then d
    else
      let d0 := d.markVoid r (tickOf t) k
      let cast := (d0.sheet r (tickOf t)).castOf k
      if !cast.any (d0.entryLive t r x.kind) then
        Dev.nextTake t r 16 (((d0.countSkips r (d0.emlsrSkips t r cast)).takeDone t r k 5 0 0 0 0x3FF (d.play r).contendBeat).modPlay r (fun p => { p with lastEnd := beatOf t }))
      else
        let d1 := (d0.countSkips r (d0.emlsrSkips t r cast)).takeOnAir t r k x cast facts
        let d2 := (cast.filter (fun c => !c.uplink && d0.entryLive t r x.kind c)).foldl (fun e c => e.planEntry t r facts c) d1
        let d3 := (facts.collided.filter (fun q => radioOf q.1 == r)).foldl (fun e q => e.collide q) d2
        let l := ppdusOf facts.airNs (facts.air.filter (fun y => y.at' == 0))
        (d3.modPlay r (fun p => { p with air := (facts.air.filter (fun y => y.at' != 0)).map (fun y => { y with at' := t + y.at' }) })).sendAir t r l

def execTakeStart (r : Nat) (facts : TakeStartFacts) (s : State) : Host.Outcome State Fault Refusal :=
  .next (s.act fun t d => goTakeStart t r facts d)

/-- What a take left unsettled is no longer on its radio's air, and its copies are no longer outstanding (R199). -/
def Dev.offAir (d : Dev) (r : Nat) (cast : List CastEntry) : Dev :=
  cast.foldl (fun e c => (e.modSta c.sid (fun st => { st with queue := st.queue.map (fun m => if m.onAir = some r then { m with onAir := none } else m) })).settleCopies r c.sid) d

/-- Count the PPDUs that a take sent with nulls (R177). -/
def Dev.countNulls (d : Dev) (r sent : Nat) : Dev :=
  if (d.play r).weights.any (fun w => w.dims != 0 && !w.nulls.isEmpty) && sent != 0 then d.bump (24 + r) 17 sent else d

end Sys2Proof.Machine

namespace Sys2Proof

/-- Octets that a take moved for a place of its cast. -/
def TakeFacts.movedFor (f : TakeFacts) (i : Nat) : Nat := Machine.sumN ((f.octets.filter (fun x => x.1 == i)).map (·.2))

end Sys2Proof

namespace Sys2Proof.Machine

/-- Settle what a take did (R90, R101, R109, R131, R140, R142, R144): outcomes of the MSDUs whose PPDUs started, octets served, LAST_SERVED, and the airtime of its members. -/
def Dev.settleTake (d0 : Dev) (t r : Nat) (cast : List CastEntry) (f : TakeFacts) : Dev :=
  let d := (d0.startPpdus t r).giveAir (tickOf t) r (beatOf t - (d0.play r).startBeat) cast
  let d1 := ((d.carried r f.sent f.longestNs f.outcomes).foldl (fun e o => e.outcome t r o) ((d.bump (21 + r) 21 f.sent).countNulls r f.sent)).offAir r cast
  (List.zipIdx cast).foldl (fun e x =>
    if x.1.void then e
    else e.modCall x.1.sid (fun c => { c with
      servedTick := c.servedTick + f.movedFor x.2
      lastServed := if f.served.contains x.2 then tickOf t % 2 ^ 32 else c.lastServed })) d1

/-- Live entries that were served (R101). -/
def usersServed (cast : List CastEntry) (f : TakeFacts) : Nat :=
  ((List.zipIdx cast).filter (fun x => !x.1.void && f.served.contains x.2)).length

/-- TAKE_COMPLETION (R100, R101): the take's last PPDU, or the last response to it, has ended. -/
def goTakeCompletion (t r : Nat) (f : TakeFacts) (d : Dev) : Dev :=
  match d.curTake t r with
  | none => d
  | some (s, k) =>
    if (d.play r).phase ≠ .onAir then d
    else
      let cast := s.castOf k
      let d1 := d.settleTake t r cast f
      Dev.nextTake t r 16 (d1.takeDone t r k 0 (Nat.min 255 f.sent) (Nat.min 255 f.abandoned) (usersServed cast f) (d.play r).startBeat (beatOf t))

def execTakeCompletion (r : Nat) (f : TakeFacts) (s : State) : Host.Outcome State Fault Refusal :=
  .next (s.act fun t d => goTakeCompletion t r f d)

/-- MISSED_CUE (R95): the medium was not won by the end of beat LS. -/
def goMissedCue (t r : Nat) (d : Dev) : Dev :=
  match d.pastLs t r with
  | none => d
  | some (s, k) => Dev.nextTake t r 16 (d.declareMissed t r s k)

def execMissedCue (r : Nat) (s : State) : Host.Outcome State Fault Refusal := .next (s.act fun t d => goMissedCue t r d)

/-- OVERRUN_CUT (R90, R96): the take is cut at beat 1,000. -/
def goOverrunCut (t r : Nat) (f : TakeFacts) (d : Dev) : Dev :=
  match d.curTake t r with
  | none => d
  | some (s, k) =>
    if (d.play r).phase ≠ .onAir || decide (beatOf t < 1000) then d
    else
      let cast := s.castOf k
      let lost := ((List.zipIdx cast).filter (fun x => decide (f.movedFor x.2 < x.1.bytes))).map (·.1)
      let d1 := (((d.settleTake t r cast f).countMissed lost).step 0x1062 0 r).inc t 2 6
      Dev.nextTake t r 16 (d1.takeDone t r k 2 (Nat.min 255 f.sent) (Nat.min 255 f.abandoned) (usersServed cast f) (d.play r).startBeat (beatOf t))

def execOverrunCut (r : Nat) (f : TakeFacts) (s : State) : Host.Outcome State Fault Refusal :=
  .next (s.act fun t d => goOverrunCut t r f d)

/-- UNLOCKED (R98): the synthesiser did not reach lock by the end of beat LS. -/
def goUnlocked (t r : Nat) (d : Dev) : Dev :=
  match d.pastLs t r with
  | none => d
  | some (s, k) =>
    if (d.radio r).synth = .locked then d
    else Dev.nextTake t r 16 (d.declareUnlocked t r s k)

def execUnlocked (r : Nat) (s : State) : Host.Outcome State Fault Refusal := .next (s.act fun t d => goUnlocked t r d)

/-- Shed one take that has not started (R99, R380): of a sheet that plays, it completes at once; of a sheet that has yet to play, at beat 0 of its own tick. -/
def Dev.shedTake (d : Dev) (t r tick k : Nat) : Dev :=
  if d.pln.shed.contains (r, tick, k) then d
  else
    let d1 := ({ d with pln := { d.pln with shed := d.pln.shed ++ [(r, tick, k)] } } : Dev).step 0x9042 0 r
    if tick ≠ tickOf t || (d.sheet r tick).state ≠ .playing then d1
    else
      let d2 := d1.shedRecord t r tick k (beatOf t)
      if (d2.play r).cur = k && decide ((d2.play r).phase = .contending) then d2.endTake t r k (beatOf t) else d2

/-- A take ended without starting, or has been shed, and counts no more (R380). -/
def Dev.endedUnstarted (d : Dev) (r tick k : Nat) : Bool :=
  d.pln.shed.contains (r, tick, k) ||
  d.pln.log.any (fun x => x.radio == r && x.tick == tick && x.take == k && (x.code == 1 || x.code == 3 || x.code == 5))

/-- A take has started or ended. -/
def Dev.takeBegun (d : Dev) (t r tick k : Nat) : Bool :=
  tick == tickOf t && (d.sheet r tick).state == .playing && (decide (k < (d.play r).cur) || (k == (d.play r).cur && decide ((d.play r).phase = .onAir)))

/-- Radio and number of the takes of a tick's locked sheets. -/
def Dev.lockedTakes (d : Dev) (tick : Nat) : List (Nat × Nat) :=
  (List.range 3).flatMap (fun r =>
    let s := d.sheet r tick
    if s.tick == tick && (s.state == .locked || s.state == .playing) then (List.range s.takeCount).map (fun k => (r, k)) else [])

/-- COST_NJ of the tick's remaining takes (R380). -/
def Dev.remainingCost (d : Dev) (tick : Nat) : Nat :=
  sumN (((d.lockedTakes tick).filter (fun x => !d.endedUnstarted x.1 tick x.2)).map (fun x => ((d.sheet x.1 tick).take x.2).costNj))

/-- The takes of a tick that have not started: latest ES first, then radio C, B, A (R380). -/
def Dev.shedOrder (d : Dev) (t tick : Nat) : List (Nat × Nat) :=
  sortBy (fun x => ((1024 - ((d.sheet x.1 tick).take x.2).es) * 4 + (3 - x.1)) * 32 + (31 - x.2))
    ((d.lockedTakes tick).filter (fun x => !d.endedUnstarted x.1 tick x.2 && !d.takeBegun t x.1 tick x.2))

/-- Shed takes one by one until the rest fits the revised budget; a budget of 0 sheds all that have not started (R380). -/
def Dev.shedTick (d : Dev) (t tick budget : Nat) : Dev :=
  (d.shedOrder t tick).foldl (fun e x =>
    if budget = 0 || decide (1000 * budget < e.remainingCost tick) then (e.shedTake t x.1 tick x.2).bump 42 6 else e) d

/-! Picture lock (R86, R102, R103, R114). -/

/-- Running totals of a picture lock: the device, allocations and cost so far, and the results and reasons by radio. -/
structure LockRun where
  dev : Dev
  allocs : Nat := 0
  cost : Nat := 0
  results : List (Nat × Nat) := []

/-- A radio's sheet goes dark with a RESULT code and a REASON. -/
def LockRun.darken (x : LockRun) (r tick result reason : Nat) : LockRun :=
  { x with
    dev := (((x.dev.modSheet r tick (fun s => { s with state := .dark, tick := tick % 2 ^ 48 })).step 0x1061 0 r).bump (18 + r) result)
    results := x.results ++ [(result, reason)] }

/-- PLN_CTRL.EN of a radio. -/
def Dev.plnEnabled (d : Dev) (r : Nat) : Bool := (d.reg 0x200000).getLsbD r

/-- A radio is forced dark in a tick, by request or for want of a grant (R116, R223). -/
def Dev.forcedDark (d : Dev) (r tick : Nat) : Bool :=
  d.mutedAhead r tick ||
  d.pln.forced.any (fun x => x.radio == r && decide (x.first ≤ tick) && decide (tick < x.first + x.count))

/-- Judge one radio (R86): whether it is enabled first, and then whether it is forced dark, by request, for want of a grant or by the step of show time that has made the sheet DARK already (R114, R238). -/
def LockRun.judge (t tick : Nat) (x : LockRun) (r : Nat) : LockRun :=
  let d := x.dev
  let s := d.sheet r tick
  let cost := d.sheetCost r s
  if !d.plnEnabled r then x.darken r tick 5 0
  else if d.forcedDark r tick || (s.state = .dark && s.tick == tick) then x.darken r tick 4 0
  else if s.state ≠ .ready || s.tick ≠ tick then { x with dev := d.inc t 2 r }.darken r tick 2 0
  else match sheetReason r s with
    | some reason => { x with dev := d.inc t 2 3 }.darken r tick 3 reason
    | none =>
      if 1024 < x.allocs + s.allocs then { x with dev := d.inc t 2 4 }.darken r tick 6 0
      else if 1000 * d.pln.budget < x.cost + cost then
        { x with dev := (d.modSheet r tick (fun s => d.costed r s)).inc t 2 5 }.darken r tick 7 0
      else
        let res := if 0 < s.takeCount then 0 else 1
        { dev := (((d.modSheet r tick (fun s => { d.costed r s with state := .locked })).bump (18 + r) res).bump (18 + r) 14 s.allocs).bump (18 + r) 15 s.takeCount
          allocs := x.allocs + s.allocs, cost := x.cost + cost, results := x.results ++ [(res, 0)] }

/-- Weights of one locked take (R174, R176, R177): steering, with the report that is there now, for the downlink stations whose reports were fresh at draft time; and where the take has a null list and dimensions for it, nulls toward the listed clients, of which those without a usable estimate are skipped and counted. -/
def Dev.weighTake (d : Dev) (t r tick k : Nat) : Dev :=
  let s := d.sheet r tick
  let x := s.take k
  let steer := ((s.castOf k).filter (fun e => !e.uplink && d.pln.fresh.contains (r, tick, e.sid) && (tlook steerReset d.mdm.steering (r * 4096 + e.sid)).tick1 != 0)).map (fun e => (e.sid, (tlook steerReset d.mdm.steering (r * 4096 + e.sid)).tick1 - 1))
  let l := if x.prot = 0 || x.nullDims = 0 then [] else (List.range x.prot).map (fun i => tlook nullReset s.nulls (32 * k + i))
  let ok := l.filterMap (fun e => (d.crossOf r tick e.chip e.sid).map (fun c => (e.chip, e.sid, c.subs)))
  let w : Weights := { radio := r, tick := tick, take := k, dims := if x.prot = 0 then 0 else x.nullDims, steer := steer, nulls := ok }
  let d1 : Dev := { d with mdm := { d.mdm with weights := d.mdm.weights ++ [w] } }
  if ok.length = l.length then d1 else (d1.bump (24 + r) 15 (l.length - ok.length)).inc t 4 3

/-- Weights of the locked sheets of a tick. -/
def Dev.weigh (d : Dev) (t tick : Nat) : Dev :=
  let d0 : Dev := { d with mdm := { d.mdm with weights := d.mdm.weights.filter (fun w => decide (tick ≤ w.tick + 1)) } }
  (List.range 3).foldl (fun e r =>
    let s := e.sheet r tick
    if s.state = .locked && s.tick == tick then (List.range s.takeCount).foldl (fun e k => e.weighTake t r tick k) e else e) d0

/-- PICTURE_LOCK (R86, R104, R114, R176): the sheets of the next tick are judged, radio A first; then a held revision is written to PLN_BUDGET, and a safety action that met unlocked sheets sheds their takes (R380). -/
def goPictureLock (t : Nat) (d : Dev) : Dev :=
  let tick := tickOf t + 1
  let x := (List.range 3).foldl (LockRun.judge t tick) { dev := d }
  let res (i : Nat) : Nat × Nat := x.results.getD i (5, 0)
  let d1 := x.dev
  let d2 : Dev := { d1 with
    pln := { d1.pln with
      lockCost := x.cost, lockTick := tick % 2 ^ 48
      lockStatus := packR [((res 0).1, 4, 0), ((res 1).1, 4, 4), ((res 2).1, 4, 8), ((res 0).2, 4, 12), ((res 1).2, 4, 16), ((res 2).2, 4, 20)]
      budget := d1.pln.heldRevision.getD d1.pln.budget, heldRevision := none }
    gaf := { d1.gaf with lockedCost := ((tick, x.cost) :: d1.gaf.lockedCost).take 4 } }
  let d3 := d2.weigh t tick
  match d3.gaf.shedAtLock with
  | none => d3
  | some b => ({ d3 with gaf := { d3.gaf with shedAtLock := none } } : Dev).shedTick t tick b

def execPictureLock (s : State) : Host.Outcome State Fault Refusal := .next (s.act fun t d => goPictureLock t d)

/-! Mailbox commands (R115 to R118). -/

/-- PLN_STATUS (R115). The last complete tick is the one before the present one by number; where a step of show time passed over that one (R238), the counts are 0 (DESIGN CHOICE, log 135). -/
def goPlnStatus (t : Nat) (who : Master) (req : List Word) (d : Dev) : Dev :=
  d.mbxNow t (fixedSpec 0x100 false 1 []) who req (fun d =>
    let last := d.pln.log.filter (fun x => x.tick + 1 == tickOf t)
    let n (p : Nat → Bool) : Nat := (last.filter (fun x => p x.code)).length
    (.ok, [packW [(d.pln.lockTick, 48, 0)], packW [(d.pln.lockStatus.toNat, 32, 0)],
      packW [(d.pln.budget, 32, 0), ((d.pln.lockCost + 999) / 1000, 32, 32)],
      packW [(n (· == 0), 8, 0), (n (· == 1), 8, 8), (n (· == 2), 8, 16), (n (fun c => decide (3 ≤ c)), 8, 24)]], d))

def execPlnStatus (f : Nat) (req : List Word) (s : State) : Host.Outcome State Fault Refusal :=
  .next (s.act fun t d => goPlnStatus t (.fn f) req d)

/-- Cut forcing of the named radios short at a tick (R116). -/
def cutForced (radios first : Nat) (x : Forced) : Option Forced :=
  if !nbit radios x.radio then some x
  else if first ≤ x.first then none
  else some { x with count := Nat.min x.count (first - x.first) }

/-- The picture lock for a tick has occurred or occurs in this beat (R116). -/
def lockPassed (t tick : Nat) : Bool := decide (tick ≤ tickOf t) || (decide (tick = tickOf t + 1) && decide (896 ≤ beatOf t))

/-- PLN_FORCE_DARK (R116). -/
def goPlnForceDark (t : Nat) (who : Master) (req : List Word) (d : Dev) : Dev :=
  d.mbxNow t (fixedSpec 0x110 true 3 [(1, [(63, 48)]), (2, [(63, 19)])]) who req (fun d =>
    let first := fld (wd req 1) 47 0
    let radios := fld (wd req 2) 18 16
    let count := fld (wd req 2) 15 0
    judged d [(radios == 0, .badParam), (lockPassed t first, .late)] (fun d =>
      let kept := d.pln.forced.filterMap (cutForced radios first)
      let new := if count = 0 then [] else ((List.range 3).filter (fun r => nbit radios r)).map (fun r => ({ radio := r, first := first, count := count } : Forced))
      (.ok, [], { d with pln := { d.pln with forced := kept ++ new } })))

def execPlnForceDark (f : Nat) (req : List Word) (s : State) : Host.Outcome State Fault Refusal :=
  .next (s.act fun t d => goPlnForceDark t (.fn f) req d)

/-- PLN_SHEET_READ (R117). -/
def goPlnSheetRead (t : Nat) (who : Master) (req : List Word) (d : Dev) : Dev :=
  d.mbxNow t (fixedSpec 0x120 true 2 [(1, [(63, 55)])]) who req (fun d =>
    let part := fld (wd req 1) 54 50
    let r := fld (wd req 1) 49 48
    let tick := fld (wd req 1) 47 0
    let s := d.sheet r tick
    let dark := decide (s.state = .dark)
    judged d [
      (r == 3, .badParam),
      (!(s.tick == tick && (s.state == .locked || s.state == .playing || dark)), .wrongState),
      (part != 0 && (decide (s.takeCount ≤ part - 1) || dark), .badParam)] (fun d =>
        let body :=
          if part = 0 then s.header r ++ (if dark then [] else (List.range s.takeCount).flatMap s.takeWords)
          else (s.castOf (part - 1)).map castWord
        (.ok, body, d)))

def execPlnSheetRead (f : Nat) (req : List Word) (s : State) : Host.Outcome State Fault Refusal :=
  .next (s.act fun t d => goPlnSheetRead t (.fn f) req d)

/-- PLN_TAKE_LOG (R118). -/
def goPlnTakeLog (t : Nat) (who : Master) (req : List Word) (d : Dev) : Dev :=
  d.mbxNow t (fixedSpec 0x130 true 2 [(1, [(63, 48)])]) who req (fun d =>
    let tick := fld (wd req 1) 47 0
    judged d [(decide (tickOf t ≤ tick) || decide (tick + 64 < tickOf t), .wrongState)] (fun d =>
      (.ok, (sortBy (fun x => 16 * x.radio + x.take) (d.pln.log.filter (fun x => x.tick == tick))).flatMap logRecWords, d)))

def execPlnTakeLog (f : Nat) (req : List Word) (s : State) : Host.Outcome State Fault Refusal :=
  .next (s.act fun t d => goPlnTakeLog t (.fn f) req d)

end Sys2Proof.Machine
end

