-- ==== Sys2Proof/Machine/Modem.lean ====
section
/-! DEFINITION. The modems (R151 to R181): detection, capture, reports, noise, estimates, and the two reads. -/
namespace Sys2Proof.Machine

/-! Receptions. -/

/-- STATE of MDM_RX_STATE. -/
def Dev.rxState (d : Dev) (t r : Nat) : Nat :=
  match (d.radio r).synth with
  | .starting | .settling | .calibrating => 4
  | .off | .fault => 0
  | .locked =>
    if !(d.radio r).inService then 0
    else if (d.rx r).receiving then 2
    else if d.turning t r then 3
    else 1

/-- MDM_RX_STATE. -/
def Dev.mdmRxState (d : Dev) (t : Nat) : Reg := packR [(d.rxState t 0, 4, 0), (d.rxState t 1, 4, 4), (d.rxState t 2, 4, 8)]

/-- Each chain in diversity keeps its home port unless the other one is stronger by DIV_HYST (R216). -/
def Dev.choosePort (d : Dev) (r : Nat) (x : Nat × Int × Int) : Dev :=
  let c := x.1
  if d.diversity c && decide (c / 16 = r) && nbit (d.activeMask r) (c % 16) then
    let home := d.homePort c
    let ph := if home = 0 then x.2.1 else x.2.2
    let po := if home = 0 then x.2.2 else x.2.1
    let port := if ph + d.pvi 0x4051 0 r ≤ po then 1 - home else home
    let d1 := if d.overridden c then d else d.modChain c (fun y => { y with port := port })
    if port = home then d1 else d1.bump (30 + r) 25
  else d

/-- The AGC sets FEM_BYP before it freezes (R227). -/
def Dev.agcBypass (d : Dev) (r : Nat) (power : Int) : Dev :=
  if d.pvi 0x4022 0 r < power then
    (chainsOf r).foldl (fun e c => if e.overridden c || !nbit (d.activeMask r) (c % 16) then e else e.modChain c (fun y => { y with byp := true })) d
  else d

/-- Gains lie between 0 and 96 dB (R160). -/
def gainsOf (l : List (Nat × Nat)) : List (Nat × Nat) := l.map (fun x => (x.1, Nat.min 96 x.2))

/-- The correlators of a radio run (R153, R206): it hears, and neither transmits nor turns around. -/
def Dev.correlates (d : Dev) (t r : Nat) (transmitting : Bool) : Bool :=
  decide (r < 3) && d.hears r && !transmitting && !d.turning t r

/-- Barker correlators run on radio A alone, while property 0x3006 is 1 (R151, R156). -/
def Dev.barker (d : Dev) (r : Nat) : Bool := r == 0 && d.pv 0x3006 0 r != 0

/-- The converters clipped while the gain was frozen (R161). -/
def Dev.clip (d : Dev) (t r : Nat) (clipped : Bool) : Dev := if clipped && (d.rx r).receiving then (d.bump (24 + r) 10).inc t 4 0 else d

/-- The converters clip at the time that the reception's start brought (R161). -/
def Dev.clipDue (d : Dev) (t r : Nat) : Dev :=
  if (d.rx r).clipAt.any (fun k => decide (k ≤ t)) then (d.clip t r (d.rx r).frozen).modRx r (fun x => { x with clipAt := none }) else d

/-- DETECTION (R153, R156, R160 to R162, R216): the first correlator's outputs reach their thresholds while the radio listens; a reception starts, and the gains settle and freeze on it. -/
def goDetection (t r : Nat) (x : Detect) (d : Dev) : Dev :=
  if !d.correlates t r x.transmitting || (d.rx r).receiving || decide (x.corr < d.pv 0x3002 0 r) || decide (x.power < d.pvi 0x3001 0 r) ||
      (x.dsss && !d.barker r) then d
  else
    let d1 := ((d.modRx r (fun y => { y with
      receiving := true, start := t - x.sinceNs, detected := t, level := x.power, frozen := true, dsss := x.dsss, solicited := x.solicited
      lsigPassed := false, lostDb := 0, busyBeat := true, sfdAt := x.sfdNs.map (t + ·), gains := gainsOf x.gains, stf := none, clipAt := x.clipNs.map (t + ·) })).bump (24 + r) 9).femSettle t r
    let d2 := if x.dsss || x.solicited then d1 else x.ports.foldl (fun e y => e.choosePort r y) d1
    d2.agcBypass r x.power

def execDetection (r : Nat) (x : Detect) (s : State) : Host.Outcome State Fault Refusal := .next (s.act fun t d => goDetection t r x d)

/-- A trigger's SIFS has ended (R162): the AGC is preset to the strongest target it set plus 6 dB, and the trigger's users are the ones whose TB PPDU is awaited. -/
def Dev.presetAgc (d : Dev) (t r : Nat) : Dev :=
  match ((d.play r).triggers.filter (fun x => decide (x.1 ≤ t))).getLast? with
  | none => d
  | some y =>
    let d1 := d.modPlay r (fun p => { p with triggers := p.triggers.filter (fun x => !decide (x.1 ≤ t)) })
    match y.2 with
    | [] => d1
    | u :: rest =>
      let v := rest.foldl (fun m x => max m x.2) u.2 + 6
      d1.modRx r (fun z => { z with preset := some v, named := y.2.map (·.1), level := if z.receiving then z.level else v, frozen := if z.receiving then z.frozen else false })

/-- The later STF of a reception (R161): the gains unfreeze where it begins, and are frozen again, re-adjusted by at most 12 dB, 2 µs after that. -/
def Rx.stfStep (x : Rx) (t : Nat) : Rx :=
  match x.stf with
  | none => x
  | some (s, v) =>
    if !x.receiving || decide (t < s) then x
    else if t < s + 2000 then { x with frozen := false }
    else
      let k := max (-12) (min 12 v)
      { x with frozen := true, stf := none, level := x.level + k, gains := x.gains.map (fun y => (y.1, (max 0 (min 96 ((y.2 : Int) - k))).toNat)) }

/-- What the AGC of a radio does on its own by a boundary (R161, R162). -/
def Dev.agcStep (d : Dev) (t r : Nat) : Dev :=
  let d1 := (d.presetAgc t r).clipDue t r
  if (d1.rx r).stf.isSome then d1.modRx r (fun x => x.stfStep t) else d1

/-! Reports (R164, R165). -/

/-- Tolerance of a user's class in units of CFO (R167). -/
def classLimit (tracked : Bool) : Int := if tracked then 500 else 150

/-- A solicited user lies outside its class tolerance (R167, R168). -/
def outOfTol (u : UserReport) : Bool :=
  u.tb && ((match u.cfo with | some c => decide (classLimit u.tracked < c) || decide (c < -classLimit u.tracked) | none => false) ||
    decide (400 < u.timing) || decide (u.timing < -400))

/-- The CFO field: saturating, 0x8000 when not measured. -/
def cfoField (c : Option Int) : Nat := match c with | some v => unsgn 16 (max (-2500) (min 2500 v)) | none => 0x8000

/-- Words 0 to 3 of a report; `noise` is the NOISE field. -/
def reportWords (start r status : Nat) (u : UserReport) (noise dur newc : Nat) : List Word :=
  [packW [(tickOf start, 48, 0), (r, 2, 48), (status, 4, 50), (beatOf start, 10, 54)],
   packW [(if u.tb then unsgn 16 u.timing else 0, 16, 0), (cfoField u.cfo, 16, 16), (b2n u.sidValid, 1, 33), (b2n u.tb, 1, 34), (b2n (outOfTol u), 1, 35),
    (b2n u.tracked, 1, 36), (u.nss, 4, 37), (u.mcs, 4, 41), (u.bw, 3, 45), (u.format, 4, 48), (u.sid, 12, 52)],
   packW [(noise, 8, 0), (u.agcGain, 8, 8), (u.chains, 16, 16), (u.evm, 8, 32), (u.snrMin, 8, 40), (u.snrAvg, 8, 48), (unsgn 8 u.rssi, 8, 56)],
   packW [(if u.tb then u.ru else 0, 9, 24), (newc, 8, 40), (dur, 16, 48)]]

/-- No entry is measured in a noise report. -/
def noiseReset : Nat → BitVec 16 := fun _ => 0x8000

/-- The NOISE field (R164): how the chains of the last complete tick's noise report combine is open, so that the field is a free value no lower than the least and no higher than the greatest of the primary subchannel's entries, and wholly free where there is none (log 4). -/
def Dev.noiseField (d : Dev) (t r : Nat) : Nat :=
  let w := d.free.toNat
  match d.mdm.noise.find? (fun x => x.1 == r && x.2.tick + 1 == tickOf t) with
  | none => w % 256
  | some (_, y) =>
    let es := ((List.range 16).map (fun c => (tlook noiseReset y.entries (c * y.nSub + y.primary)).toNat)).filter (· != 0x8000)
    match es.map (fun e => sgn 16 e) with
    | [] => w % 256
    | e :: rest =>
      let lo := (rest.foldl min e) / 4
      let hi := -((-(rest.foldl max e)) / 4)
      unsgn 8 (lo + ((w % ((hi - lo).toNat + 1) : Nat) : Int))

/-- AGC_GAIN (R164): within 0 to 96 dB, and within the gains at which the chains froze. -/
def Rx.gainField (x : Rx) (v : Nat) : Nat :=
  match x.gains.map (·.2) with
  | [] => Nat.min 96 v
  | g :: rest => Nat.max (rest.foldl Nat.min g) (Nat.min (rest.foldl Nat.max g) v)

/-- Write one report: the log, the latest of its station, and the counts; SID_VALID stands for an associated station alone (R164). -/
def Dev.report (d : Dev) (t r status : Nat) (u0 : UserReport) (newc : Nat) : Dev :=
  let x := d.rx r
  let u := { u0 with agcGain := x.gainField u0.agcGain, chains := u0.chains &&& d.activeMask r, sidValid := u0.sidValid && (d.sta u0.sid).used }
  let ws := reportWords x.start r status u (d.noiseField t r) ((t - x.start) / 1000) newc
  let n := tlook (fun _ => 0) d.mdm.logCount r
  let d1 : Dev := { d with mdm := { d.mdm with
    log := tput (fun _ => []) d.mdm.log (r * 4096 + n % 4096) ws
    logCount := tput (fun _ => 0) d.mdm.logCount r (n + 1)
    latest := if u.sidValid then tput (fun _ => []) d.mdm.latest (r * 4096 + u.sid) ws else d.mdm.latest } }
  let d2 := ((d1.drew).bump (24 + r) (status % 8)).bump (24 + r) (20 + Nat.min u.format 10)
  let d3 := if status = 1 then d2.step 0x3040 0 r else if status = 2 then d2.step 0x3041 0 r else d2
  let d4 := if u.tracked then d3.bump (24 + r) 12 else d3
  if outOfTol u then (d4.bump (24 + r) 11).inc t 4 1 else d4

/-- What a modem cannot yet know of an aborted reception is free (log 4); its power is the frozen level. Of a solicited user the carrier offset and arrival are not measured, since the estimate is the reception's to the end (R167, R169; DEDUCED, log 143), and the format is one of the two TB formats. -/
def Dev.openReport (d : Dev) (r : Nat) : UserReport :=
  let w := d.free
  let x := d.rx r
  { sid := fld w 11 0, sidValid := nbit w.toNat 12, bw := fld w 19 17 % 5, mcs := fld w 23 20
    format := if x.solicited then 7 + 2 * fld w 13 13 else if fld w 16 13 ≤ 9 then fld w 16 13 else 15
    nss := fld w 27 24, tb := x.solicited, cfo := if x.solicited then none else some (sgn 16 (fld w 43 28)), rssi := x.level
    snrAvg := fld (Config.free (d.freeN + 1)) 7 0, snrMin := fld (Config.free (d.freeN + 1)) 15 8, evm := fld (Config.free (d.freeN + 1)) 23 16
    chains := fld (Config.free (d.freeN + 1)) 39 24, agcGain := fld (Config.free (d.freeN + 1)) 47 40 % 97 }

/-- The report of a false detection: nothing about a transmitter is known (R155, R165). -/
def Dev.falseReport (d : Dev) (r : Nat) : UserReport :=
  let y := d.openReport r
  { rssi := y.rssi, snrAvg := y.snrAvg, snrMin := y.snrMin, evm := y.evm, chains := y.chains, agcGain := y.agcGain }

/-- The cast members that the trigger of a solicited TB PPDU named (R164): those of the trigger whose SIFS ended last or, where the command told of none, the uplink members of the take on the air, and of a sounding all of them. -/
def Dev.tbCast (d : Dev) (t r : Nat) : List CastEntry :=
  match d.curTake t r with
  | some (s, k) =>
    if (d.play r).phase ≠ .onAir then []
    else (s.castOf k).filter (fun e => !e.void && (if (d.rx r).named.isEmpty then e.uplink || (s.take k).kind == 3 else (d.rx r).named.contains e.sid))
  | none => []

/-- What State holds of a solicited user: its station, class and RU (R164, R167). -/
def userOfCast (u : UserReport) (e : CastEntry) : UserReport := { u with sid := e.sid, sidValid := true, tb := true, tracked := e.tracked, ru := e.ru }

/-- A solicited user of whom there is no measurement: its streams and MCS are those it was asked for (R83, R164). -/
def plannedUser (u : UserReport) (e : CastEntry) : UserReport := userOfCast { u with nss := e.nss, mcs := e.mcs } e

/-- The modem's gain unfreezes and the correlator resumes; `held` keeps the chains' ports for a capture (R161, R216). `y` is what the reception leaves. -/
def Dev.stopRx (d : Dev) (t r : Nat) (y : RxDone) (heard held : Bool) (chains : Nat) : Dev :=
  let d1 := d.modRx r (fun x => { x with
    receiving := false, frozen := false, dsss := false, solicited := false, lsigPassed := false, lostDb := 0, busyBeat := true, sfdAt := none, stf := none, clipAt := none
    preset := if x.solicited then none else x.preset, named := if x.solicited then [] else x.named
    done := y :: x.done.filter (fun z => decide (t < z.ended + 1024000)) })
  let d2 := if heard then (List.range 16).foldl (fun e i => if nbit chains i then e.modChain (16 * r + i) (fun z => { z with lastPort := some z.port }) else e) d1 else d1
  if held then d2 else d2.femSettle t r

/-- One report of an aborted reception, its open parts drawn. -/
def Dev.abortReport (d : Dev) (t r status newc : Nat) (u : UserReport) : Dev := ({ d with freeN := d.freeN + 2 } : Dev).report t r status u newc

/-- End a reception short of its end: one report or, for a solicited TB PPDU, one for each cast member that the trigger named, with the details that the rules leave open (R164). -/
def Dev.abortRx (d0 : Dev) (t r status newc : Nat) (held : Bool) : Dev :=
  let d := d0.clipDue t r
  let x := d.rx r
  let cast := if x.solicited && status != 2 then d.tbCast t r else []
  let u := if status = 2 then d.falseReport r else d.openReport r
  let d1 := if cast.isEmpty then d.abortReport t r status newc u else cast.foldl (fun e c => e.abortReport t r status newc (plannedUser (e.openReport r) c)) d
  d1.stopRx t r ⟨x.start, t, false, []⟩ (status != 2) held (u.chains &&& d.activeMask r)

/-- A loss of lock or a switch-off ends a reception in progress as TRUNCATED (R209). -/
def Dev.truncateRx (d : Dev) (t r : Nat) : Dev := if (d.rx r).receiving then d.abortRx t r 7 (d.rx r).lostDb false else d

/-- The L-SIG check fails (R155). -/
def Dev.lsigFails (d : Dev) (r : Nat) (x : LSig) : Bool :=
  !x.parityOk || !x.rateOk || x.length == 0 || decide (5484 < x.durationUs) || decide (x.quality < d.pv 0x3003 0 r)

/-- LSIG_CHECK (R155, R161): a detection that fails the check ends as FALSE_DETECT; of one that passes, the later STF at which the AGC re-adjusts is known. -/
def goLsigCheck (t r : Nat) (x : LSig) (d : Dev) : Dev :=
  if !(d.rx r).receiving || (d.rx r).dsss || (d.rx r).lsigPassed then d
  else
    let d1 := d.clip t r x.clipped
    if d1.lsigFails r x then d1.abortRx t r 2 (d1.rx r).lostDb false
    else d1.modRx r (fun y => { y with lsigPassed := true, stf := x.stf.map (fun z => (y.start + z.1, z.2)) })

def execLsigCheck (r : Nat) (x : LSig) (s : State) : Host.Outcome State Fault Refusal := .next (s.act fun t d => goLsigCheck t r x d)

/-- A DSSS reception has found no SFD within 144 µs of its detection (R156). -/
def Rx.noSfd (x : Rx) (t : Nat) : Bool :=
  x.receiving && x.dsss && decide (x.detected + 144000 ≤ t) && !x.sfdAt.any (fun k => decide (k ≤ x.detected + 144000))

/-- DSSS_SFD_TIMEOUT (R156): no SFD within 144 µs of a DSSS detection, or a header that fails its CRC. -/
def goDsssSfdTimeout (t r : Nat) (headerCrcFailed : Bool) (d : Dev) : Dev :=
  if ((d.rx r).receiving && (d.rx r).dsss && headerCrcFailed) || (d.rx r).noSfd t then d.abortRx t r 2 (d.rx r).lostDb false
  else d

def execDsssSfdTimeout (r : Nat) (headerCrcFailed : Bool) (s : State) : Host.Outcome State Fault Refusal :=
  .next (s.act fun t d => goDsssSfdTimeout t r headerCrcFailed d)

/-- A newcomer is lost and counted (R157, R159). -/
def Dev.loseNewcomer (d : Dev) (r : Nat) (power : Int) : Dev :=
  ((d.modRx r (fun y => { y with lostDb := Nat.max y.lostDb (power - y.level).toNat })).step 0x3042 0 r).bump (24 + r) 8

/-- The newcomer exceeds the frozen level by the margin, and nothing keeps it out (R157, R159). -/
def Dev.captures (d : Dev) (r : Nat) (power : Int) (txStarts : Bool) : Bool :=
  !txStarts && !((d.rx r).solicited && d.pv 0x3005 0 r == 0) && decide ((d.rx r).level + d.pvi 0x3004 0 r ≤ power)

/-- The L-SIG check of the reception in progress fails at the same instant (R159). -/
def Dev.falseAt (d : Dev) (r : Nat) (lsig : Option LSig) : Bool :=
  match lsig with
  | some y => !(d.rx r).dsss && !(d.rx r).lsigPassed && d.lsigFails r y
  | none => false

/-- CAPTURE (R153, R156 to R159): the second correlator, which runs while the radio neither transmits nor turns around, declares a newcomer during a reception. Its preamble began 1.6 µs to 4.0 µs earlier (R158). -/
def goCapture (t r : Nat) (power : Int) (lsig : Option LSig) (x : Newcomer) (d0 : Dev) : Dev :=
  if !(d0.rx r).receiving || !d0.correlates t r false && !x.txStarts || !d0.hears r || (x.dsss && !d0.barker r) then d0
  else
    let d := (d0.clipDue t r).clip t r x.clipped
    if d.captures r power x.txStarts then
      let excess := (power - (d.rx r).level).toNat
      let d1 := if d.falseAt r lsig then d.abortRx t r 2 (d.rx r).lostDb true else d.abortRx t r 1 excess true
      let since := Nat.max 1600 (Nat.min 4000 x.sinceNs)
      (d1.modRx r (fun y => { y with
        receiving := true, start := t - since, detected := t, level := power, frozen := true, dsss := x.dsss, solicited := x.solicited, sfdAt := x.sfdNs.map (t + ·)
        gains := gainsOf x.gains, clipAt := x.clipNs.map (t + ·) })).bump (24 + r) 9
    else
      let d1 := d.loseNewcomer r power
      match lsig with
      | some y => goLsigCheck t r y d1
      | none => d1

def execCapture (r : Nat) (power : Int) (lsig : Option LSig) (x : Newcomer) (s : State) : Host.Outcome State Fault Refusal :=
  .next (s.act fun t d => goCapture t r power lsig x d)

/-! Spatial reuse (R163). -/

/-- The BSS colour that a beacon template's HE Operation element (255, extension 36) gives, none when it is absent or disabled; `n` bounds the elements (log 15). -/
def templateColour : Nat → List Byte → Option Nat
  | 0, _ => none
  | n + 1, l =>
    let len := octAt l 1
    if l.length < 2 + len || l.isEmpty then none
    else if octAt l 0 = 255 && octAt l 2 = 36 && decide (5 ≤ len) then
      if nbit (octAt l 6) 7 then none else some (octAt l 6 % 64)
    else templateColour n (l.drop (2 + len))

/-- The colour belongs to a running BSS of the radio. -/
def Dev.ownColour (d : Dev) (r colour : Nat) : Bool :=
  d.mac.bss.any (fun e => e.2.running && radioOf e.1 == r && templateColour 1024 e.2.template == some colour)

/-- The OBSS_PD threshold in force (R163). -/
def Dev.obssPd (d : Dev) (t r : Nat) : Int :=
  match d.curTake t r with
  | some (s, k) => if (d.play r).phase = .onAir then sgn 8 (s.take k).obssPd else d.pvi 0x5030 0 r
  | none => d.pvi 0x5030 0 r

/-- SR_ABORT (R163): a PPDU of a foreign colour below the threshold is left. -/
def goSrAbort (t r colour : Nat) (power : Int) (d : Dev) : Dev :=
  if (d.rx r).receiving && !(d.rx r).solicited && !d.ownColour r colour && decide (power < d.obssPd t r) then d.abortRx t r 6 (d.rx r).lostDb false
  else d

def execSrAbort (r colour : Nat) (power : Int) (s : State) : Host.Outcome State Fault Refusal := .next (s.act fun t d => goSrAbort t r colour power d)

/-! The end of a reception. -/

/-- The radio supports a format at a bandwidth, a number of streams (minus 1) and an MCS (R151). Those of IEEE 802.11 for each format are PRESUMED (log 124): HT up to 40 MHz with MCS 0 to 7 for each stream, VHT up to 160 MHz and MCS 9, HE up to 160 MHz and MCS 11, ER SU at 20 MHz up to MCS 2, EHT up to MCS 15. -/
def formatOk (r format bw nss mcs : Nat) : Bool :=
  decide (bw ≤ maxBw r) &&
  (match format with
   | 0 => r == 0 && bw == 0 && nss == 0 && mcs == 0
   | 1 => (r != 0 || bw == 0) && nss == 0 && decide (mcs < 8)
   | 2 => (r == 0 || r == 1) && decide (bw ≤ 1) && decide (nss < 4) && decide (mcs < 8)
   | 3 => r == 1 && decide (bw ≤ 3) && decide (nss < 8) && decide (mcs ≤ 9)
   | 4 | 6 | 7 => decide (bw ≤ 3) && decide (nss < 8) && decide (mcs ≤ 11)
   | 5 => bw == 0 && decide (nss < 8) && decide (mcs ≤ 2)
   | 8 | 9 => decide (nss < 16) && decide (mcs ≤ 15)
   | _ => false)

/-- Streams of a PPDU that the receiver must separate at once: the most on one RU, over the users that sent (R152; DEDUCED, log 125). -/
def ppduStreams (us0 : List UserReport) : Nat :=
  let us := us0.filter (fun u => u.status != 5)
  (us.map (fun u => sumN ((us.filter (fun v => v.ru == u.ru)).map (fun v => v.nss + 1)))).foldl Nat.max 0

/-- Most streams of a format, over its users (R151). -/
def formatStreams (format : Nat) : Nat := match format with | 0 | 1 => 1 | 2 => 4 | 8 | 9 => 16 | _ => 8

/-- STATUS of a user's report: a PPDU beyond what the radio supports, or with more streams than receiving chains, is UNSUPPORTED (R151, R152). -/
def Dev.userStatus (d : Dev) (r streams : Nat) (u : UserReport) : Nat :=
  if u.status = 0 && (!formatOk r u.format u.bw u.nss u.mcs || decide (formatStreams u.format < streams) || decide (popcount (d.activeMask r) 16 < streams)) then 4 else u.status % 8

/-- The call-sheet estimates of an OK reception (R169, R170): word 6 from a solicited user, RATE_EST of the radio from any station; a rate the link table does not give is free (log 4). -/
def Dev.estimates (d : Dev) (r status : Nat) (u : UserReport) : Dev :=
  if status ≠ 0 || !u.sidValid || !(d.sta u.sid).used then d
  else
    let tick := tickOf (d.rx r).start
    let d1 := if u.tb then
        d.modCall u.sid (fun c =>
          let c1 := { c with cfoEst := cfoField u.cfo, cfoTick := tick % 65536, timingEst := unsgn 16 u.timing }
          { c1 with ulExcluded := c.ulExcluded && d.excludes tick { c1 with cfoFullTick := tick } })
      else d
    let rate := u.rate.getD d1.free.toNat
    (d1.modCall u.sid (fun c => match r with
      | 0 => { c with rateA := rate % 65536 }
      | 1 => { c with rateB := rate % 65536 }
      | _ => { c with rateC := rate % 65536 })).drew

/-- The radio's last sounding named a station (R172). -/
def Dev.namedIn (d : Dev) (r sid : Nat) : Bool := (tlook (fun _ => {}) d.mdm.sounding r).named.any (fun y => y.1 == sid)

/-- A feedback report (R173): stored in place of the old one, or discarded, counted and flagged. -/
def Dev.feedback (d : Dev) (t r : Nat) (f : Feedback) : Dev :=
  if decide (65536 < f.len) || !d.namedIn r f.sid || d.gone f.sid then (d.bump (24 + r) 14).inc t 4 2
  else ((({ d with mdm := { d.mdm with steering := tput steerReset d.mdm.steering (r * 4096 + f.sid) ⟨tickOf t + 1, f.len, f.octets.take f.len⟩ } } : Dev).bump (24 + r) 13).hbmOctets 3 f.len)

/-- Lower edges of the subchannels, not punctured, that a cued allocation touches. -/
def CueTake.ruEdges (y : CueTake) (ru : Nat) : List Nat :=
  let s := ruSpan ru
  (subEdges (lowEdge y.centre y.bw) (2 ^ y.bw) 0 y.puncture).filter (fun e =>
    let k := (e - lowEdge y.centre y.bw) / 20
    decide (s.1 ≤ k) && decide (k < s.1 + s.2))

/-- Subchannels of the radio's operating channel on which a neighbour's cue lets the modem estimate a foreign client: those of the RU that it names, in its beats (R175). -/
def Dev.crossSubs (d : Dev) (t r chip sid : Nat) : Nat :=
  match (d.radio r).chan with
  | none => 0
  | some c =>
    let es := (((d.cueOf (tickOf t) chip).getD []).filter (fun y => decide (y.es ≤ beatOf t) && decide (beatOf t ≤ y.endBeat))).flatMap (fun y =>
      (y.entries.filter (fun e => e.1 == sid && e.2.1)).flatMap (fun e => y.ruEdges e.2.2.1))
    sumN ((List.range (2 ^ c.bw)).map (fun i => b2n (es.contains (lowEdge c.centre c.bw + 20 * i)) * 2 ^ i))

/-- A radio has sent nothing since an instant, nor sends now. -/
def Dev.quietSince (d : Dev) (r t0 : Nat) : Bool := decide ((d.rx r).sentTo ≤ t0) && (d.spans r).all (fun x => decide (x.2 ≤ t0))

/-- A cross-channel estimate (R175): by chip and SID, over the overlapping subchannels; a full table loses its least recently written entry. -/
def Dev.keepCross (d : Dev) (t r : Nat) (x : CrossEst) : Dev :=
  let rest := d.mdm.cross.filter (fun e => !(e.1 == r && e.2.1.chip == x.chip && e.2.1.sid == x.sid))
  let mine := (rest.filter (fun e => e.1 == r)).length
  let kept := if 4096 ≤ mine then rest.eraseP (fun e => e.1 == r) else rest
  ({ d with mdm := { d.mdm with cross := kept ++ [(r, x, tickOf t)] } } : Dev).bump (24 + r) 18

/-- An estimate that a reception brought: of a neighbour's client, over the subchannels that its cue and the reception share. -/
def Dev.putCross (d : Dev) (t r : Nat) (x : CrossEst) : Dev :=
  let subs := d.crossSubs t r x.chip x.sid &&& x.subs
  if subs = 0 || !(d.neighbours (tickOf t)).contains x.chip then d else d.keepCross t r { x with subs := subs }

/-- The foreign clients whose uplink allocations in a neighbour's cue ended with the beat before, with the subchannels that the radio shares (R175). -/
def Dev.crossDue (d : Dev) (t r : Nat) : List (Nat × Nat × Nat) :=
  if (d.bt.cues.any (fun c => c.tick == tickOf t)) && d.hears r then
    match (d.radio r).chan with
    | none => []
    | some c => (d.neighbours (tickOf t)).flatMap (fun chip =>
        (((d.cueOf (tickOf t) chip).getD []).filter (fun y => y.endBeat == beatOf t && decide (y.es < y.endBeat) && d.quietSince r (tickStart t + y.es * 1000))).flatMap (fun y =>
          (y.entries.filter (fun e => e.2.1)).map (fun e =>
            let es := y.ruEdges e.2.2.1
            (chip, e.1, sumN ((List.range (2 ^ c.bw)).map (fun i => b2n (es.contains (lowEdge c.centre c.bw + 20 * i)) * 2 ^ i))))))
  else []

/-- Estimates that the modem gathers whether or not a reception brought them (R175): of the allocations that have just ended in beats in which the radio sent nothing; what they show of a client's power is a free value (log 4). -/
def Dev.gatherCross (d : Dev) (t r : Nat) : Dev :=
  (d.crossDue t r).foldl (fun e x =>
    if x.2.2 = 0 || e.mdm.cross.any (fun y => y.1 == r && y.2.1.chip == x.1 && y.2.1.sid == x.2.1 && y.2.2 == tickOf t) then e
    else (e.keepCross t r { chip := x.1, sid := x.2.1, subs := x.2.2, power := sgn 8 (fld e.free 7 0) }).drew) d

/-- The users of an ended reception: of a solicited TB PPDU the cast members that the trigger named, MISSING those of whom nothing came (R164, R165). -/
def Dev.rxUsers (d : Dev) (t r : Nat) (l : List UserReport) : List UserReport :=
  if !(d.rx r).solicited then [{ l.headD {} with tb := false, ru := 0 }]
  else
    let cast := d.tbCast t r
    if cast.isEmpty then l.map (fun u => { u with tb := true })
    else (List.zipIdx cast).map (fun e => match l.find? (fun u => u.sid == e.1.sid) with
      | some u => if u.status = 5 then plannedUser { u with cfo := none, timing := 0 } e.1 else userOfCast u e.1
      | none => plannedUser { ({ d with freeN := d.freeN + 2 * e.2 } : Dev).openReport r with status := 5 } e.1)

/-- What the end of a reception leaves (R165): a PPDU that is not supported has not been decoded at all. -/
def RxDone.ofEnd (start t : Nat) (solicited : Bool) (us : List (UserReport × Nat)) : RxDone :=
  if solicited then ⟨start, t, true, (us.filter (fun u => u.2 != 0)).map (fun u => u.1.sid)⟩
  else match us with
    | [] => ⟨start, t, true, []⟩
    | u :: _ => ⟨start, if u.2 = 4 then start else t, u.2 == 0, []⟩

/-- RECEPTION_END (R164 to R175): one report, or one per solicited cast member, with the estimates, feedback and incidents that go with it; the detector took the streams in the order of their SNR after MMSE, of which R171 does not say whether it rises or falls: the strongest first (DESIGN CHOICE, log 142). -/
def goReceptionEnd (t r : Nat) (x : RxEnd) (d0 : Dev) : Dev :=
  let y := d0.rx r
  if !y.receiving then d0
  else
    let d := (d0.clipDue t r).clip t r x.clipped
    let users := d.rxUsers t r x.reports
    let us := users.map (fun u => (u, d.userStatus r (ppduStreams users) u))
    let d1 := if users.any (fun u => u.status == 5) then ({ d with freeN := d.freeN + 2 * users.length } : Dev) else d
    let d2 := us.foldl (fun e u => ((e.report t r u.2 u.1 y.lostDb).estimates r u.2 u.1).bump (27 + r) 6 (if u.2 = 4 then 0 else u.1.bccOctets)) d1
    let d3 := x.feedback.foldl (fun e f => e.feedback t r f) d2
    let d4 := x.cross.foldl (fun e c => e.putCross t r c) d3
    let d5 := d4.modRx r (fun z => { z with sic := (sortBy (fun k => 4096 - k.2) x.snr).map (·.1) })
    d5.stopRx t r (RxDone.ofEnd y.start t y.solicited us) true false ((users.headD {}).chains &&& d.activeMask r)

def execReceptionEnd (r : Nat) (x : RxEnd) (s : State) : Host.Outcome State Fault Refusal := .next (s.act fun t d => goReceptionEnd t r x d)

/-! Noise (R166, R180). -/

/-- The operating channel of the tick that ends: the one before a change made in it (R166, R229). -/
def Dev.tickChan (d : Dev) (r : Nat) : Option Channel := if (d.rx r).noiseChan.isSome then (d.rx r).noiseChan else (d.radio r).chan

/-- 20 MHz subchannels of that channel. -/
def Dev.nSub (d : Dev) (r : Nat) : Nat := match d.tickChan r with | some c => 2 ^ c.bw | none => 1

/-- Chains of a radio that were idle for NOISE_MIN_IDLE beats of the tick, by bit: a chain's beats under calibration are not idle for it (R166, R219). -/
def Dev.noiseChains (d : Dev) (r : Nat) : Nat :=
  let x := d.rx r
  sumN ((List.range 16).map (fun c => b2n (decide (d.pv 0x3010 0 r ≤ x.idleBeats - tlook (fun _ => 0) x.chainBusy c)) * 2 ^ c))

/-- The noise report of a radio for the tick that ends; what it measured is free until NOISE_REPORT tells it (log 4). -/
def Dev.noiseRep (d : Dev) (t r : Nat) : NoiseRep :=
  let n := d.nSub r
  let chains := d.noiseChains r
  { tick := tickOf t - 1, idle := Nat.min (d.rx r).idleBeats 1023, nSub := n, primary := ((d.tickChan r).map (·.primary)).getD 0
    inService := (d.radio r).inService, measured := chains
    entries := ((List.range (16 * n)).filter (fun k => nbit chains (k / n))).foldl (fun e k => tput noiseReset e k (BitVec.ofNat 16 ((Config.free (d.freeN + k)).toNat))) [] }

/-- At the tick boundary, before anything sampled there, each radio's report of the tick just ended is stored, and the 64 latest are kept (R166, R180). -/
def Dev.openNoise (d : Dev) (t : Nat) : Dev :=
  if tickOf t = 0 then d
  else (List.range 3).foldl (fun e r =>
    let rep := e.noiseRep t r
    let e1 : Dev := { e with
      freeN := if rep.measured = 0 then e.freeN else e.freeN + 16 * rep.nSub
      mdm := { e.mdm with noise := e.mdm.noise.filter (fun x => !(x.1 == r && decide (x.2.tick + 64 < tickOf t))) ++ [(r, rep)] } }
    (e1.modRx r (fun y => { y with idleBeats := 0, chainBusy := [], noiseChan := none })).bump (24 + r) 31) d

/-- The measured means of a radio in its report. -/
def NoiseRep.fill (x : NoiseRep) (means : List NoiseMean) : NoiseRep :=
  let l := means.filter (fun m => decide (m.chain < 16) && nbit x.measured m.chain && decide (m.sub < x.nSub))
  { x with entries := l.foldl (fun e m => tput noiseReset e (m.chain * x.nSub + m.sub) (BitVec.ofNat 16 (unsgn 16 m.level))) x.entries }

/-- NOISE_REPORT (R166): what the radios measured over the idle beats of the tick just ended. -/
def goNoiseReport (t : Nat) (means : List NoiseMean) (d : Dev) : Dev :=
  { d with mdm := { d.mdm with noise := d.mdm.noise.map (fun x =>
      if x.2.tick + 1 = tickOf t then (x.1, x.2.fill (means.filter (fun m => m.radio == x.1))) else x) } }

def execNoiseReport (means : List NoiseMean) (s : State) : Host.Outcome State Fault Refusal := .next (s.act fun t d => goNoiseReport t means d)

/-- Words of a noise report (R180). -/
def NoiseRep.words (x : NoiseRep) : List Word :=
  packW [(x.primary, 4, 0), (x.nSub, 5, 8), (x.idle, 10, 16)] ::
  (List.range (4 * x.nSub)).map (fun w => packW ((List.range 4).map (fun j => ((tlook noiseReset x.entries (4 * w + j)).toNat, 16, 16 * j))))

/-- MDM_NOISE_READ (R180). -/
def goMdmNoiseRead (t : Nat) (who : Master) (req : List Word) (d : Dev) : Dev :=
  d.mbxNow t (fixedSpec 0x300 false 2 [(1, [(63, 50)])]) who req (fun d =>
    let r := fld (wd req 1) 49 48
    let tick := fld (wd req 1) 47 0
    let rep := (d.mdm.noise.find? (fun x => x.1 == r && x.2.tick == tick)).map (·.2)
    judged d [(r == 3, .badParam), (!((rep.map (·.inService)).getD false), .wrongState),
      (decide (tickOf t ≤ tick) || decide (tick + 64 < tickOf t), .wrongState)] (fun d =>
        (.ok, ((rep.map NoiseRep.words).getD []), d)))

def execMdmNoiseRead (f : Nat) (req : List Word) (s : State) : Host.Outcome State Fault Refusal :=
  .next (s.act fun t d => goMdmNoiseRead t (.fn f) req d)

/-- MDM_QUALITY_READ (R181). -/
def goMdmQualityRead (t : Nat) (who : Master) (req : List Word) (d : Dev) : Dev :=
  d.mbxNow t (fixedSpec 0x301 false 2 [(1, [(63, 12)])]) who req (fun d =>
    let sid := fld (wd req 1) 11 0
    let rep (r : Nat) : List Word := tlook (fun _ => []) d.mdm.latest (r * 4096 + sid)
    judged d [((d.sta sid).used && !d.ownsSta who sid, .notPermitted), (!(d.sta sid).used, .wrongState)] (fun d =>
      (.ok, packW [(sumN ((List.range 3).map (fun r => b2n (!(rep r).isEmpty) * 2 ^ r)), 3, 0)] ::
        (List.range 3).flatMap (fun r => (List.range 4).map (fun i => wd (rep r) i)), d)))

def execMdmQualityRead (f : Nat) (req : List Word) (s : State) : Host.Outcome State Fault Refusal :=
  .next (s.act fun t d => goMdmQualityRead t (.fn f) req d)

end Sys2Proof.Machine
end

