-- ==== Sys2Proof/Machine/FrontEnd.lean ====
section
/-! DEFINITION. The aerial front-end (R203 to R232): synthesisers, channel changes, calibrations, grants, chain overrides, and the commands. -/
namespace Sys2Proof.Machine

/-- Code of a synthesiser state (R205). -/
def Synth.code : Synth → Nat
  | .off => 0 | .starting => 1 | .locked => 2 | .settling => 3 | .calibrating => 4 | .fault => 5

/-- FE_SYNTH_STATE. -/
def Dev.feSynthState (d : Dev) : Reg :=
  packR [((d.radio 0).synth.code, 4, 0), ((d.radio 1).synth.code, 4, 4), ((d.radio 2).synth.code, 4, 8)]

/-! Valid channels (R203). The centres are those of IEEE 802.11-2020 and 802.11be, which the rule names (log 16). -/

/-- `c` is one of the `n` centres that begin at `lo`, `step` apart. -/
def onGrid (c lo step n : Nat) : Bool := decide (lo ≤ c) && (c - lo) % step == 0 && decide ((c - lo) / step < n)

/-- The centre is one of the band's for the bandwidth, with the whole channel inside one range of the radio. -/
def centreOk (r bw c : Nat) : Bool :=
  match r, bw with
  | 0, 0 => onGrid c 2412 5 13
  | 0, 1 => onGrid c 2422 5 9
  | 1, 0 => onGrid c 5180 20 4 || onGrid c 5745 20 8
  | 1, 1 => onGrid c 5190 40 2 || onGrid c 5755 40 4
  | 1, 2 => c == 5210 || onGrid c 5775 80 2
  | 1, 3 => c == 5815
  | 2, 0 => c == 5935 || onGrid c 5955 20 59
  | 2, 1 => onGrid c 5965 40 29
  | 2, 2 => onGrid c 5985 80 14
  | 2, 3 => onGrid c 6025 160 7
  | 2, 4 => onGrid c 6105 160 6
  | _, _ => false

/-- Channel fields of a word (R227). -/
def channelOf (w : Word) : Channel := { ifc := fld w 29 28, primary := fld w 27 24, bw := fld w 20 18, centre := fld w 15 0 }

/-- The word of a channel. -/
def Channel.word (c : Channel) : Word := packW [(c.centre, 16, 0), (c.bw, 3, 18), (c.primary, 4, 24), (c.ifc, 2, 28)]

/-- A channel may be set on a radio (R203, R229). -/
def channelOk (r : Nat) (c : Channel) : Bool := decide (c.ifc < 3) && centreOk r c.bw c.centre && decide (c.primary < 2 ^ c.bw)

/-! Calibration (R216 to R220). -/

/-- CALIBRATION_DUE (R219). -/
def goCalibrationDue (t c : Nat) (d : Dev) : Dev := if c < 48 && d.calDue t c then d.setDue t c else d

def execCalibrationDue (chain : Nat) (s : State) : Host.Outcome State Fault Refusal := .next (s.act fun t d => goCalibrationDue t chain d)

/-- A full calibration of the radio begins (R217, R218). -/
def Dev.beginFull (d : Dev) (t r : Nat) : Dev :=
  let d1 := d.truncateRx t r
  let d2 := (chainsOf r).foldl (fun e c => e.modChain c (fun x => { x with calibrating := true })) d1
  (d2.modRadio r (fun x => { x with synth := .calibrating, entered := d2.glb.up, calAtLock := true })).femSettle t r

/-- FULL_CALIBRATION (R218): from beat 1,000 of the tick before the scheduled one, or at the lock that owes one. -/
def goFullCalibration (t r : Nat) (d : Dev) : Dev :=
  let x := d.radio r
  let due := x.fullCalAt.any (fun k => decide (k ≤ tickOf t + 1) && (decide (k ≤ tickOf t) || decide (1000 ≤ beatOf t)))
  if !x.inService || !(due || x.calAtLock) then d
  else
    let d1 := d.modRadio r (fun x => { x with fullCalAt := x.fullCalAt.filter (fun k => decide (tickOf t + 1 < k)), calAtLock := true })
    if x.synth = .locked then d1.beginFull t r else d1

def execFullCalibration (r : Nat) (s : State) : Host.Outcome State Fault Refusal := .next (s.act fun t d => goFullCalibration t r d)

/-- The playing sheet of a radio leaves a chain out of every take (R219, R476). -/
def Dev.chainFree (d : Dev) (t c : Nat) : Bool :=
  let s := d.sheet (c / 16) (tickOf t)
  (s.state = .playing || s.state = .locked) && s.tick == tickOf t && (List.range s.takeCount).all (fun k => !nbit (s.take k).chainMask (c % 16))

/-- ROLLING_CALIBRATION (R219): a due chain that the tick's sheet leaves out calibrates from beat 0; one chain of a radio at a time. -/
def goRollingCalibration (t c : Nat) (d : Dev) : Dev :=
  let r := c / 16
  if decide (c < 48) && (d.chain c).due && d.hears r && decide (beatOf t = 0) && d.chainFree t c && (chainsOf r).all (fun k => !(d.chain k).calibrating) then
    (d.modChain c (fun x => { x with calibrating := true })).femChain t c
  else d

def execRollingCalibration (chain : Nat) (s : State) : Host.Outcome State Fault Refusal :=
  .next (s.act fun t d => goRollingCalibration t chain d)

/-- Keep the result of SYN_BAND for a radio; one outside its limit gives way to a better one that is stored (R217, R220). -/
def Dev.keepBand (d : Dev) (r : Nat) (y : CalStep) : Dev :=
  d.modRadio r (fun x => { x with band := if !y.inLimit && x.band.any (fun o => decide (y.merit < o.2)) then x.band else some (y.value, y.merit) })

/-- Keep what the steps of one chain gave (R217, R220): RX_IQ for the channel in force, where 48 dB is its limit, and the others; a step outside its limit keeps the better result. -/
def Dev.keepSteps (d : Dev) (r : Nat) (y : ChainCal) : Dev :=
  let ch := (d.radio r).chan.getD {}
  let d1 := (y.steps.filter (fun z => z.step == 0)).foldl (fun e z => e.keepBand r z) d
  d1.modChain y.chain (fun x =>
    let x1 := (y.steps.filter (fun z => z.step != 0)).foldl Chain.keepStep x
    match y.image with
    | some i => x1.keepSet ch (if i < 192 then Nat.max i ((x.image ch).getD 0) else i)
    | none => x1)

/-- Steps of a chain that fell outside their limits. -/
def calFailures (y : ChainCal) : Nat := (y.steps.filter (fun z => !z.inLimit)).length + b2n (y.image.any (fun i => decide (i < 192)))

/-- A chain's calibration has completed (R217, R220). -/
def Dev.chainResult (d : Dev) (t r : Nat) (y : ChainCal) : Dev :=
  let d1 := (d.keepSteps r y).modChain y.chain (fun x => { x with
    due := false, calibrating := false, calOk := calFailures y == 0, calTick := tickOf t, calTemp := d.radioTemp r })
  if calFailures y = 0 then d1 else (d1.bump (30 + r) 23 (calFailures y)).inc t 6 2

/-- The steps of the catalogue that a chain runs, RX_IQ apart. -/
def chainSteps : List Nat := [1, 2, 3, 5, 6, 7]

/-- What the steps measured for which the command names no result is a free value (log 4). -/
def Dev.resultOf (d : Dev) (results : List ChainCal) (c : Nat) : ChainCal × Dev :=
  let w := d.free
  let y := (results.find? (fun y => y.chain == c)).getD { chain := c, image := none }
  let rest := (chainSteps.filter (fun k => !y.steps.any (fun z => z.step == k))).map (fun k => ({ step := k, value := fld w (8 * k + 7) (8 * k) } : CalStep))
  ({ y with image := some (y.image.getD (192 + fld w 5 0)), steps := y.steps ++ rest }, d.drew)

/-- Keep the results of a list of chains. -/
def Dev.keepResults (t r : Nat) (results : List ChainCal) : List Nat → Dev → Dev
  | [], d => d
  | c :: rest, d => let y := d.resultOf results c; keepResults t r results rest (y.2.chainResult t r y.1)

/-- The band that SYN_BAND kept in a full calibration, free where no result names it (log 4). -/
def Dev.ensureBand (d : Dev) (r : Nat) (results : List ChainCal) : Dev :=
  if results.any (fun y => y.chain / 16 == r && y.steps.any (fun z => z.step == 0)) then d
  else (d.keepBand r { step := 0, value := fld d.free 15 0 }).drew

/-- Judge whether radio C is muted in the present tick (R223). The rule holds transmissions, and does not say whether a TXOP that is on the air already is cut: it runs to its end (DESIGN CHOICE, log 144). -/
def Dev.judgeMute (d : Dev) (t : Nat) : Dev :=
  let m := (d.radio 2).inService && d.mutedIn 2 (tickOf t) (d.pv 0x4030)
  let d1 := d.modRadio 2 (fun x => { x with muted := m })
  if m then d1.inc t 6 4 else d1

/-- A radio start has completed (R223, R228): the radio is in service, radio C's mute is judged, and from the next tick contention traffic may run and Gulmet has set its enable bit. -/
def Dev.startDone (d : Dev) (t r : Nat) : Dev :=
  match (d.radio r).startTick with
  | none => d
  | some _ =>
    let d0 := d.modRadio r (fun x => { x with inService := true, startTick := none, startReq := none, enableAt := some (tickOf t + 1), airFrom := tickOf t + 1 })
    let d1 := if r = 2 then d0.judgeMute t else d0
    match (d.radio r).startReq with
    | some p => d1.respond t p .ok []
    | none => d1

/-- CALIBRATION_DONE (R204, R217, R218, R220): a chain that has calibrated is back on its home port. -/
def goCalibrationDone (t r : Nat) (full : Bool) (results : List ChainCal) (d : Dev) : Dev :=
  if full then
    if (d.radio r).synth ≠ .calibrating then d
    else
      let d1 := Dev.keepResults t r results (chainsOf r) (d.ensureBand r results)
      let d2 := (d1.modRadio r (fun x => { x with synth := .locked, entered := d1.glb.up, calAtLock := false, fullCalTick := tickOf t })).bump (30 + r) 16
      ((d2.startDone t r).femSettle t r).busyNow t r
  else if (d.radio r).synth ≠ .locked then d
  else
    let cs := (chainsOf r).filter (fun c => (d.chain c).calibrating)
    let d1 := Dev.keepResults t r results cs d
    cs.foldl (fun e c => ((e.bump (30 + r) (c % 16)).modChain c (fun x => { x with port := e.homePort c, byp := false })).femChain t c) d1

def execCalibrationDone (r : Nat) (full : Bool) (results : List ChainCal) (s : State) : Host.Outcome State Fault Refusal :=
  .next (s.act fun t d => goCalibrationDone t r full results d)

/-! Synthesisers (R205 to R210, R228, R229). -/

/-- The synthesiser enters STARTING. -/
def Dev.enterStarting (d : Dev) (t r : Nat) : Dev := (d.modRadio r (fun x => { x with synth := .starting, entered := d.glb.up })).femSettle t r

/-- STARTING (R228): at the boundary that begins tick S the radio starts on its stored channel and owes a full calibration. -/
def goStarting (t r : Nat) (d : Dev) : Dev :=
  let x := d.radio r
  match x.startTick with
  | some s =>
    if s ≤ tickOf t && decide (x.synth = .off) then
      (d.modRadio r (fun x => { x with chan := x.stored, failedPasses := 0, calAtLock := true })).enterStarting t r
    else d
  | none => d

def execStarting (r : Nat) (s : State) : Host.Outcome State Fault Refusal := .next (s.act fun t d => goStarting t r d)

/-- Time in ns within which the present acquisition must lock (R206, R207). -/
def lockLimit (s : Synth) : Nat := match s with | .starting => 200000 | _ => 60000

/-- LOCKED (R206): the synthesiser locks within its limit, with the 40 MHz reference present; a calibration owed begins at once. -/
def goLocked (t r : Nat) (d : Dev) : Dev :=
  let x := d.radio r
  if (x.synth ≠ .starting ∧ x.synth ≠ .settling) ∨ x.entered + lockLimit x.synth < d.glb.up ∨ d.mgr.ref40 = false then d
  else
    let d1 := d.modRadio r (fun x => { x with
      synth := .locked, entered := d.glb.up, failedPasses := 0, change := if x.changeBegun then none else x.change, changeBegun := false })
    if x.calAtLock then d1.beginFull t r else (d1.femSettle t r).busyNow t r

def execLocked (r : Nat) (s : State) : Host.Outcome State Fault Refusal := .next (s.act fun t d => goLocked t r d)

/-- FAULT after three failed restarts (R207); a pending start ends TIMEOUT with the radio OFF (R228). -/
def Dev.synthFault (d : Dev) (t r : Nat) : Dev :=
  let x := d.radio r
  let d1 := (d.inc t 6 3).bump (30 + r) 19
  match x.startTick with
  | some _ =>
    let d2 := d1.modRadio r (fun x => { x with synth := .off, entered := d1.glb.up, startTick := none, startReq := none, calAtLock := false, chan := none })
    (match x.startReq with | some p => d2.respond t p .timeout [] | none => d2).femSettle t r
  | none => d1.modRadio r (fun x => { x with synth := .fault, entered := d1.glb.up })

/-- A pass has failed: another restart, or FAULT. -/
def Dev.passFailed (d : Dev) (t r : Nat) : Dev :=
  let n := (d.radio r).failedPasses + 1
  if 4 ≤ n then d.synthFault t r
  else ((d.modRadio r (fun x => { x with failedPasses := n })).enterStarting t r).bump (30 + r) 18

/-- STARTING_FAIL (R207): 200 µs in STARTING without lock. -/
def goStartingFail (t r : Nat) (d : Dev) : Dev :=
  if (d.radio r).synth = .starting ∧ (d.radio r).entered + 200000 ≤ d.glb.up then d.passFailed t r else d

def execStartingFail (r : Nat) (s : State) : Host.Outcome State Fault Refusal := .next (s.act fun t d => goStartingFail t r d)

/-- What a chain had completed of a calibration that breaks off is kept (R218), and a step outside its limit shows until a later calibration passes every step (R220). -/
def Dev.keepBroken (d : Dev) (t r : Nat) (y : ChainCal) : Dev :=
  let d1 := d.keepSteps r y
  if calFailures y = 0 then d1 else ((d1.modChain y.chain (fun x => { x with calOk := false })).bump (30 + r) 23 (calFailures y)).inc t 6 2

/-- The radio has lost lock (R207, R209, R218): a reception is TRUNCATED, the PPDU on the air stops, without detector readings, and with it a TXOP, while a take holds those to come; a rolling calibration is abandoned, and of a full one, which will run again, the results of the steps that had completed stay in use. -/
def Dev.loseLock (d : Dev) (t r : Nat) (completed : List ChainCal) : Dev :=
  let d0 := if (d.radio r).synth = .calibrating then (completed.filter (fun y => y.chain / 16 == r)).foldl (fun e y => e.keepBroken t r y) d else d
  let d1 := d0.truncateRx t r
  let d2 := (chainsOf r).foldl (fun e c => e.modChain c (fun x => { x with calibrating := false })) d1
  let d3 := d2.modRadio r (fun x => { x with synth := .settling, entered := d2.glb.up, failedPasses := 0 })
  let cut (m : Table Nat) : Table Nat := if t < tlook (fun _ => 0) m r then tput (fun _ => 0) m r t else m
  let d4 : Dev := ({ d3 with
    mac := { d3.mac with txopEnd := cut d3.mac.txopEnd }
    fe := { d3.fe with readings := d3.fe.readings.filter (fun x => x.2.2.1 / 16 != r) } } : Dev).cutAir t r
  (((d4.step 0x4061 0 r).bump (30 + r) 17).inc t 6 0).femSettle t r

/-- LOSS_OF_LOCK (R207): a loss is one that the detector reports in LOCKED or CALIBRATING. -/
def goLossOfLock (t : Nat) (x : LockLoss) (d : Dev) : Dev :=
  if (d.radio x.radio).synth = .locked ∨ (d.radio x.radio).synth = .calibrating then d.loseLock t x.radio x.completed else d

def execLossOfLock (x : LockLoss) (s : State) : Host.Outcome State Fault Refusal := .next (s.act fun t d => goLossOfLock t x d)

/-- REACQUISITION_TIMEOUT (R207): 60 µs in SETTLING without lock. A channel or IF change that does not lock, for which the rule gives no restart, restarts through STARTING and counts alike (DESIGN CHOICE, log 126). -/
def goReacquisitionTimeout (t r : Nat) (d : Dev) : Dev :=
  if (d.radio r).synth = .settling ∧ (d.radio r).entered + 60000 ≤ d.glb.up then d.passFailed t r else d

def execReacquisitionTimeout (r : Nat) (s : State) : Host.Outcome State Fault Refusal := .next (s.act fun t d => goReacquisitionTimeout t r d)

/-- What a full calibration that breaks off had measured, where no operand brings it (R217, R218): how many of the catalogue's steps had completed, on all chains at once, and their results are free values (log 4). -/
def Dev.brokenOff (d : Dev) (r : Nat) : List ChainCal :=
  let n := fld (Config.free d.freeN) 3 0 % 9
  (chainsOf r).map (fun c =>
    let w := Config.free (d.freeN + 1 + c)
    let steps := ((if c = 16 * r then 0 :: chainSteps else chainSteps).filter (fun k => decide (k < n))).map (fun k => ({ step := k, value := fld w (8 * k + 7) (8 * k) } : CalStep))
    { chain := c, image := if 4 < n then some (fld w 39 32) else none, steps := steps })

/-- REF40_LOST (R210, R421): every radio loses lock. -/
def goRef40Lost (t : Nat) (d : Dev) : Dev :=
  let d1 : Dev := { d with mgr := { d.mgr with ref40 := false } }
  (List.range 3).foldl (fun e r => { goLossOfLock t { radio := r, completed := e.brokenOff r } e with freeN := e.freeN + 49 }) (d1.inc t 17 4)

def execRef40Lost (s : State) : Host.Outcome State Fault Refusal := .next (s.act fun t d => goRef40Lost t d)

/-- The responses of the stops of a radio. -/
def Dev.answerStops (d : Dev) (t r : Nat) : Dev :=
  ((d.radio r).stopReqs.foldl (fun e p => e.respond t p .ok []) d).modRadio r (fun x => { x with stopReqs := [] })

/-- RADIO_STOP (R228): the radio goes OFF at the tick boundary; a change that has begun leaves its channel stored. -/
def goRadioStop (t r : Nat) (d : Dev) : Dev :=
  match (d.radio r).stopTick with
  | some s =>
    if s ≤ tickOf t then
      let d1 := d.truncateRx t r
      let d2 := (chainsOf r).foldl (fun e c => e.modChain c (fun x => { x with calibrating := false, due := false })) d1
      (((d2.cutAir t r).modRadio r (fun x => { x with
        synth := .off, entered := d2.glb.up, inService := false, stored := x.chan, chan := none, stopTick := none, change := none, changeBegun := false
        fullCalAt := [], calAtLock := false, muted := false, enableAt := none })).femSettle t r).answerStops t r
    else d
  | none => d

def execRadioStop (r : Nat) (s : State) : Host.Outcome State Fault Refusal := .next (s.act fun t d => goRadioStop t r d)

/-- CHANNEL_CHANGE (R215, R219, R229): from beat 1,000 of the tick before CHANGE_TICK the synthesiser settles on the new channel; chains without a set for it fall due. A radio in FAULT stores the channel, its change is over, and it stays in FAULT (DESIGN CHOICE, log 127, beside R229). -/
def goChannelChange (t r : Nat) (d : Dev) : Dev :=
  let x := d.radio r
  match x.change with
  | none => d
  | some (k, c) =>
    if x.changeBegun || !x.inService || !(decide (k ≤ tickOf t) || (decide (k = tickOf t + 1) && decide (1000 ≤ beatOf t))) then d
    else
      let d1 := (chainsOf r).foldl (fun e i => if ((e.chain i).image c).isNone then e.setDue t i else e.modChain i (fun y => y.useSet c)) (d.truncateRx t r)
      let d2 := (d1.modRx r (fun y => { y with noiseChan := x.chan })).modRadio r (fun x => { x with chan := some c, stored := some c })
      let d3 := (chainsOf r).foldl (fun e i => e.modChain i (fun y => { y with calibrating := false })) d2
      (if x.synth = .fault then d3.modRadio r (fun x => { x with change := none })
       else (d3.modRadio r (fun x => { x with
        synth := if x.synth = .starting then .starting else .settling, entered := if x.synth = .starting then x.entered else d3.glb.up
        failedPasses := if x.synth = .starting then x.failedPasses else 0, changeBegun := true })).femSettle t r).bump (30 + r) 28

def execChannelChange (r : Nat) (s : State) : Host.Outcome State Fault Refusal := .next (s.act fun t d => goChannelChange t r d)

/-! Grants (R223, R232). -/

/-- GRANT_EFFECT (R223): at beat 0 of tick E a delivered set takes the place of the earlier ones. -/
def goGrantEffect (t : Nat) (d : Dev) : Dev :=
  let old := d.fe.grants.filter (fun g => decide (g.eff ≤ tickOf t))
  let d1 : Dev := { d with fe := { d.fe with grants := old.getLast?.toList ++ d.fe.grants.filter (fun g => decide (tickOf t < g.eff)) } }
  d1.judgeMute t

def execGrantEffect (s : State) : Host.Outcome State Fault Refusal := .next (s.act fun t d => goGrantEffect t d)

/-- GRANT_EXPIRY (R223): at beat 0 of EXPIRY_TICK a set with no newer one in force covers no more. -/
def goGrantExpiry (t : Nat) (d : Dev) : Dev :=
  let d1 := goGrantEffect t d
  ({ d1 with fe := { d1.fe with grants := d1.fe.grants.filter (fun g => !(decide (g.eff ≤ tickOf t) && decide (g.expiry ≤ tickOf t))) } } : Dev).judgeMute t

def execGrantExpiry (s : State) : Host.Outcome State Fault Refusal := .next (s.act fun t d => goGrantExpiry t d)

/-- Output power of a chain in 0.25 dBm (R221). -/
def Dev.chainPower (d : Dev) (t c : Nat) : Int :=
  let r := c / 16
  let base := d.pvi 0x4010 0 r + d.pvi 0x4011 0 c
  let cap : Option Int :=
    if r ≠ 2 then none
    else if d.pv 0x4030 = 0 then some (d.pvi 0x4031)
    else match d.grantAt (tickOf t), (d.radio 2).chan with
      | some g, some ch =>
        let l := g.ranges.filter (fun x => decide (x.2.1 ≤ lowEdge ch.centre ch.bw) && decide (lowEdge ch.centre ch.bw + bwMhz ch.bw ≤ x.2.2))
        match l with
        | [] => none
        | x :: rest => some (rest.foldl (fun m y => min m y.1) x.1)
      | _, _ => none
  max (-80) (min 24 (match cap with | some v => min base v | none => base))

/-! Overrides (R224, R226). -/

/-- FE_CHAIN_CTRL (R224, R226): a write as it stands; under override the lines follow its fields, and without it the chain rejoins the sequence of its radio. -/
def goFeChainCtrl (t : Nat) (m : Master) (c : Nat) (v : Reg) (d : Dev) : Dev :=
  if !m.isF0 || decide (48 ≤ c) then d
  else
    let w := v &&& 0xF8000000
    let d1 := (d.putReg (chainCtrlAddr c) w).bump (30 + c / 16) 27
    if w.getLsbD 31 then
      (d1.modChain c (fun x => { x with pa := w.getLsbD 30, lna := w.getLsbD 29, byp := w.getLsbD 28, port := b2n (w.getLsbD 27) })).inc t 6 6
    else (d1.modChain c (fun x => { x with port := d1.homePort c, byp := false })).femChain t c

def execFeChainCtrl (m : Master) (chain : Nat) (value : Reg) (s : State) : Host.Outcome State Fault Refusal :=
  .next (s.act fun t d => goFeChainCtrl t m chain value d)

/-! What the tick boundary brings (R223, R228). -/

/-- Gulmet sets a started radio's enable bit, and radio C's mute is judged and counted. -/
def Dev.radioTick (d : Dev) (t : Nat) : Dev :=
  let d1 := (List.range 3).foldl (fun e r =>
    match (e.radio r).enableAt with
    | some k => if k ≤ tickOf t then (e.putReg 0x200000 (e.reg 0x200000 ||| BitVec.ofNat 32 (2 ^ r))).modRadio r (fun x => { x with enableAt := none }) else e
    | none => e) d
  let d2 := d1.judgeMute t
  if (d2.radio 2).muted then d2.bump 32 26 else d2

/-! Mailbox commands (R228 to R232). -/

/-- A start of the radio is pending (R228). -/
def Dev.startPending (d : Dev) (r : Nat) : Bool := (d.radio r).startTick.isSome

/-- FE_RADIO_CTRL (R228). -/
def goFeRadioCtrl (t : Nat) (who : Master) (req : List Word) (d : Dev) : Dev :=
  d.mbx t (fixedSpec 0x400 true 2 [(1, [(63, 50), (47, 1)])]) who req (fun p d =>
    let r := fld (wd req 1) 49 48
    let stop := nbit (wd req 1).toNat 0
    let x := d.radio r
    match firstOf [
      (r == 3, .badParam),
      (d.startPending r, .wrongState),
      (!stop && (x.inService || x.stored.isNone), .wrongState),
      (stop && (x.synth == .off || d.mac.bss.any (fun e => e.2.running && radioOf e.1 == r)), .wrongState)] with
    | some st => d.respond t p st []
    | none =>
      let d1 := d.respond t p .pending []
      if stop then
        (d1.putReg 0x200000 (d1.reg 0x200000 &&& ~~~ BitVec.ofNat 32 (2 ^ r))).modRadio r (fun x => { x with
          stopTick := some (tickOf t + 1), stopReqs := x.stopReqs ++ [p], enableAt := none, change := if x.changeBegun then x.change else none })
      else d1.modRadio r (fun x => { x with startTick := some (tickOf t + 1), startReq := some p }))

def execFeRadioCtrl (f : Nat) (req : List Word) (s : State) : Host.Outcome State Fault Refusal :=
  .next (s.act fun t d => goFeRadioCtrl t (.fn f) req d)

/-- The grant check of FE_CHANNEL_SET (R223, R229). -/
def Dev.grantRefuses (d : Dev) (t r change : Nat) (c : Channel) : Bool :=
  r == 2 && (d.written (propKey 0x4030 0 0)).toNat == 1 && !d.covered (if (d.radio r).synth = .off then tickOf t else change) c

/-- FE_CHANNEL_SET (R229). -/
def goFeChannelSet (t : Nat) (who : Master) (req : List Word) (d : Dev) : Dev :=
  d.mbxNow t (fixedSpec 0x401 true 3 [(1, [(63, 48)]), (2, [(63, 30), (23, 21)])]) who req (fun d =>
    let change := fld (wd req 1) 47 0
    let r := fld (wd req 2) 17 16
    let c := channelOf (wd req 2)
    let off := decide ((d.radio r).synth = .off)
    judged d [
      (r == 3 || !channelOk r c, .badParam),
      (off && change != 0, .badParam),
      (d.startPending r, .wrongState),
      (!off && decide (change < tickOf t + 3), .late),
      (d.grantRefuses t r change c, .wrongState)] (fun d =>
        (.ok, [], d.modRadio r (fun x => if off then { x with stored := some c } else { x with change := some (change, c), changeBegun := false }))))

def execFeChannelSet (f : Nat) (req : List Word) (s : State) : Host.Outcome State Fault Refusal :=
  .next (s.act fun t d => goFeChannelSet t (.fn f) req d)

/-- FE_CALIBRATE (R230). -/
def goFeCalibrate (t : Nat) (who : Master) (req : List Word) (d : Dev) : Dev :=
  d.mbxNow t (fixedSpec 0x402 true 3 [(1, [(63, 48)]), (2, [(63, 50), (47, 9), (7, 6)])]) who req (fun d =>
    let tick := fld (wd req 1) 47 0
    let r := fld (wd req 2) 49 48
    let full := nbit (wd req 2).toNat 8
    let c := fld (wd req 2) 5 0
    judged d [
      (r == 3 || (!full && (c / 16 != r || tick != 0)), .badParam),
      (d.startPending r, .wrongState),
      (!(d.radio r).inService, .wrongState),
      (full && decide (tick < tickOf t + 3), .late)] (fun d =>
        (.ok, [], if full then d.modRadio r (fun x => { x with fullCalAt := x.fullCalAt.filter (· != tick) ++ [tick] }) else d.setDue t c)))

def execFeCalibrate (f : Nat) (req : List Word) (s : State) : Host.Outcome State Fault Refusal :=
  .next (s.act fun t d => goFeCalibrate t (.fn f) req d)

/-- Word 4 + k of FE_STATUS (R231). IMAGE of an OFF radio, which has no channel in force, is that of the set for its stored channel (DESIGN CHOICE, log 145). -/
def Dev.chainWord (d : Dev) (r k : Nat) : Word :=
  let c := 16 * r + k
  let x := d.chain c
  let ch := (if (d.radio r).synth = .off then (d.radio r).stored else (d.radio r).chan).getD {}
  packW [(x.calTick, 48, 0), (b2n x.calibrating, 1, 53), (b2n x.calOk, 1, 54), (x.lastPort.getD (d.homePort c), 1, 55), ((x.image ch).getD 0, 8, 56)]

/-- FE_STATUS (R231). CHANNEL reads 0 for a radio that has no channel in force or stored (DESIGN CHOICE, log 128, beside R231). -/
def goFeStatus (t : Nat) (who : Master) (req : List Word) (d : Dev) : Dev :=
  d.mbxNow t (fixedSpec 0x403 false 2 [(1, [(63, 50), (47, 0)])]) who req (fun d =>
    let r := fld (wd req 1) 49 48
    let x := d.radio r
    let ch := if x.synth = .off then x.stored else x.chan
    judged d [(r == 3, .badParam)] (fun d =>
      (.ok, [(match ch with | some c => c.word | none => 0), packW [((match x.change with | some c => c.1 | none => 0), 48, 0)],
        packW [(x.fullCalTick, 48, 0), (b2n x.muted, 1, 59), (x.synth.code, 4, 60)]] ++ (List.range 16).map (d.chainWord r), d)))

def execFeStatus (f : Nat) (req : List Word) (s : State) : Host.Outcome State Fault Refusal :=
  .next (s.act fun t d => goFeStatus t (.fn f) req d)

/-- A range word of FE_6G_GRANT: limit, low and high. -/
def grantRange (w : Word) : Int × Nat × Nat := (sgn 8 (fld w 39 32), fld w 15 0, fld w 31 16)

/-- A range that FE_6G_GRANT does not admit (R232). -/
def badRange (x : Int × Nat × Nat) : Bool :=
  decide (x.2.2 ≤ x.2.1) || decide (x.2.1 < 5925) || decide (7125 < x.2.2) || decide (x.1 < -80) || decide (24 < x.1)

/-- FE_6G_GRANT (R223, R232). -/
def goFe6gGrant (t : Nat) (who : Master) (req : List Word) (d : Dev) : Dev :=
  let n := fld (wd req 1) 51 48
  let ws := (List.range n).map (fun i => wd req (2 + i))
  let sp : CmdSpec := { op := 0x410, f0Only := true, lenOk := fun l => l == 2 + n, reserved := fun q => resv (wd q 1) [(63, 52)] || ws.any (fun w => resv w [(63, 40)]) }
  d.mbxNow t sp who req (fun d =>
    let expiry := fld (wd req 1) 47 0
    let ranges := ws.map grantRange
    judged d [
      (decide (8 < n) || ranges.any badRange || (n == 0 && expiry != 0), .badParam),
      (n != 0 && decide (expiry ≤ tickOf t + 2), .late)] (fun d =>
        (.ok, [], { d with fe := { d.fe with grants := d.fe.grants ++ [⟨tickOf t + 2, expiry, ranges⟩] } })))

def execFe6gGrant (f : Nat) (req : List Word) (s : State) : Host.Outcome State Fault Refusal :=
  .next (s.act fun t d => goFe6gGrant t (.fn f) req d)

end Sys2Proof.Machine
end

