-- ==== Sys2Proof/Machine/BigTop.lean ====
section
/-! DEFINITION. Big Top venue coordination (R233 to R259): membership, alignment of show time, coordinated mode, cues, and the commands. -/
namespace Sys2Proof.Machine

/-! The estimate (R239). -/

/-- Code of a mode (R234). -/
def BtMode.code : BtMode → Nat
  | .off => 0 | .independent => 1 | .aligning => 2 | .coordinated => 3 | .holdover => 4

/-- The estimate is valid (BT_ALIGN.VALID). -/
def Bt.valid (b : Bt) : Bool := decide (b.mode = .aligning) || decide (b.mode = .coordinated) || decide (b.mode = .holdover)

/-- Alignment error that the source shows while it is usable (R239). -/
def Dev.srcEst (d : Dev) : Nat :=
  let b := d.bt
  if b.source = 1 then b.servo.clapAlign + d.pv 0x501A
  else b.servo.offset.natAbs + d.pv 0x5017 + (if b.source = 2 then b.servo.hostErr else 0)

/-- Alignment error in ns (R239); 0 while there is none. -/
def Dev.btEst (d : Dev) : Nat :=
  let b := d.bt
  if !b.valid then 0
  else if b.mode = .holdover then b.servo.estAtCorr + d.pv 0x5012 * (d.glb.up - b.servo.lastCorr) / 1000000000
  else d.srcEst

/-- BT_STATE. -/
def Dev.btState (d : Dev) : Reg :=
  if d.bt.mode = .off then 0 else packR [(d.bt.chip, 14, 0), (d.bt.mode.code, 3, 16), (d.bt.source, 2, 20)]

/-- BT_ALIGN. -/
def Dev.btAlign (d : Dev) : Reg := packR [(Nat.min d.btEst 16777215, 24, 0), (b2n d.bt.valid, 1, 31)]

/-- Change the member. -/
def Dev.modBt (d : Dev) (f : Bt → Bt) : Dev := { d with bt := f d.bt }

/-- A joined member pulses CLAP_OUT at an instant (R241): a tick boundary whose number CLAP_DIV divides. -/
def Dev.pulses (d : Dev) (t : Nat) : Bool :=
  decide (d.bt.mode ≠ .off) && decide (d.gaf.state = .show') && t % 1024000 == 0 && tickOf t % Nat.max 1 (d.pv 0x5018) == 0

/-- The member pulsed the boundary of the present tick (R242). -/
def Dev.pulsed (d : Dev) (t : Nat) : Bool := d.bt.pulse == tickOf t + 1

/-- Level of CLAP_OUT (R241): high for 8 µs from the tick boundary at which it rose. -/
def Dev.clapOut (d : Dev) (t : Nat) : Bool := d.pulsed t && decide (t % 1024000 < 8000)

/-- CLAP_OUT as the board sees it, none while it floats (R370). -/
def Dev.clapLine (d : Dev) (t : Nat) : Option Bool := if d.switchedOn then some (d.clapOut t) else none
/-- Change the servo. -/
def Dev.modServo (d : Dev) (f : Servo → Servo) : Dev := d.modBt (fun b => { b with servo := f b.servo })

/-! Frames (R246, R247). -/

/-- The header and body of a frame of the member's own. -/
def Dev.btOctets (d : Dev) (msg tick seg : Nat) (body : List Byte) : List Byte :=
  [1, BitVec.ofNat 8 msg] ++ beBytes d.bt.venue 2 ++ beBytes d.bt.chip 2 ++ beBytes tick 6 ++
  [BitVec.ofNat 8 seg, if d.bt.mode = .holdover then 0x80 else 0] ++ beBytes body.length 2 ++
  beBytes (if d.bt.valid then Nat.min d.btEst 0xFFFFFFFE else 0xFFFFFFFF) 4 ++ body

/-- An Ethernet frame with the member's group address, tag and EtherType 0x88B5 from port `p`. -/
def Dev.btFrame (d : Dev) (p : Nat) (octets : List Byte) : List Byte :=
  beBytes d.bt.group 6 ++ beBytes (rfld (d.reg (emacAddr p 0x1C)) 15 0 * 2 ^ 32 + (d.reg (emacAddr p 0x18)).toNat) 6 ++
  beBytes 0x8100 2 ++ beBytes (d.bt.pcp * 8192 + d.bt.vlan) 2 ++ beBytes 0x88B5 2 ++ octets

/-- Send a frame on each port named in BT_JOIN. -/
def Dev.btSend (d : Dev) (t msg tick seg : Nat) (body : List Byte) : Dev :=
  let o := d.btOctets msg tick seg body
  let d1 := d.modBt (fun b => { b with tx := b.tx ++ [⟨msg, tick, body⟩] })
  (List.range 4).foldl (fun e p =>
    if nbit e.bt.ports p then e.toPort t p { octets := e.btFrame p o, srcKind := 3, src := 0, tenant := 0, tc := e.bt.pcp } else e) d1

/-! Leaving coordinated operation and losing the source (R243 to R245). -/

/-- One leave message for the first tick without a cue (R245). -/
def Dev.btLeaveMsg (d : Dev) (t : Nat) : Dev := (d.btSend t 3 (Nat.max d.bt.cueSent (tickOf t + 1)) 1 []).bump 33 6

/-- The source is lost (R244). -/
def Dev.sourceLost (d : Dev) : Dev :=
  let d1 := d.modServo (fun s => { s with usable := false, goodTicks := 0, step := none })
  match d.bt.mode with
  | .coordinated => (d1.modBt (fun b => { b with mode := .holdover })).bump 33 14
  | .aligning => d1.modBt (fun b => { b with mode := .independent })
  | _ => d1

/-- The source is usable: an INDEPENDENT member starts ALIGNING, and one in HOLDOVER is COORDINATED again (R234, R244). -/
def Dev.sourceUsable (d : Dev) : Dev :=
  let d1 := d.modServo (fun s => { s with usable := true })
  match d.bt.mode with
  | .independent => d1.modBt (fun b => { b with mode := .aligning, servo := { b.servo with goodTicks := 0, goodNow := false } })
  | .holdover => d1.modBt (fun b => { b with mode := .coordinated })
  | _ => d1

/-- Apply an offset, reference minus show time, in ns (R237): slewed, or stepped at the next tick boundary when it is ahead by more than STEP_LIMIT_US. The filter of the servo is the last offset less what has been slewed since (log 17). -/
def Dev.applyOffset (d : Dev) (t : Nat) (off : Int) : Dev :=
  let limit : Int := (d.pv 0x5011 * 1000 : Nat)
  let d1 := d.modServo (fun s => { s with
    offset := off, slew := if limit < off then 0 else off, step := if limit < off then some off.toNat else none, lastCorr := d.glb.up })
  let d2 := d1.modServo (fun s => { s with estAtCorr := d1.srcEst })
  if off < -limit then d2.inc t 7 5 else d2

/-! The PTP client (R236). -/

/-- A list of numbers comes before another, by the first place where they differ. -/
def before : List Nat → List Nat → Bool
  | x :: xs, y :: ys => decide (x < y) || (x == y && before xs ys)
  | _, _ => false

/-- What ranks a master, the lowest first (IEEE 1588-2019, 9.3.4): the grandmaster's data set, then the steps to it, the sender and the port it is heard on (log 129). -/
def masterRank (x : AnnounceMsg) : List Nat :=
  [x.priority1, x.clockClass, x.accuracy, x.variance, x.priority2, x.identity, x.steps, x.sender, x.port]

/-- The best of the masters heard. -/
def bestMaster : List AnnounceMsg → Option AnnounceMsg
  | [] => none
  | x :: rest => match bestMaster rest with
    | some y => if before (masterRank y) (masterRank x) then some y else some x
    | none => some x

/-- Two messages come from one master by one port. -/
def sameMaster (x y : AnnounceMsg) : Bool := x.sender == y.sender && x.port == y.port

/-- The best master clock algorithm chooses again (R236): with another parent the exchange starts anew. -/
def Dev.chooseMaster (d : Dev) (l : List AnnounceMsg) : Dev :=
  let kept : Bool := match bestMaster l, d.bt.servo.parent with | some x, some y => sameMaster x y | _, _ => false
  let d1 := d.modServo (fun s => { s with masters := l, parent := bestMaster l })
  if kept then d1 else d1.modServo (fun s => { s with heard := none, exchange := none, reqSent := none, delay := none })

/-- ANNOUNCE (R236, R244): a master's Announce, or its receipt timeout, and the choice among the masters heard; the timeout of the chosen one, another grandmaster or a class above GM_CLASS_MAX loses the source. -/
def goAnnounce (x : AnnounceMsg) (d : Dev) : Dev :=
  if d.bt.mode = .off || d.bt.source != 0 || x.domain != d.pv 0x5015 || !nbit d.bt.ports x.port then d
  else
    let rest := d.bt.servo.masters.filter (fun y => !sameMaster x y)
    let old := d.bt.servo.parent
    let d1 := d.chooseMaster (if x.timeout then rest else x :: rest)
    let timedOut := x.timeout && (match old with | some y => sameMaster x y | none => false)
    let changed := old.isSome && d1.bt.servo.gm != d.bt.servo.gm
    let poor := match d1.bt.servo.parent with | some y => decide (d.pv 0x5014 < y.clockClass) | none => false
    if timedOut || changed || poor then d1.sourceLost else d1

def execAnnounce (x : AnnounceMsg) (s : State) : Host.Outcome State Fault Refusal := .next (s.act fun _ d => goAnnounce x d)

/-- The clockIdentity of the client: the EUI-64 of the port's address. -/
def Dev.clockId (d : Dev) (p : Nat) : List Byte :=
  let mac := beBytes (rfld (d.reg (emacAddr p 0x1C)) 15 0 * 2 ^ 32 + (d.reg (emacAddr p 0x18)).toNat) 6
  mac.take 3 ++ [0xFF, 0xFE] ++ mac.drop 3

/-- A Delay_Req in domain `dom` with sequenceId `n` (IEEE 1588-2019, 13.6). -/
def Dev.delayReq (d : Dev) (p n : Nat) : List Byte :=
  [0x01, 0x12] ++ beBytes 44 2 ++ [BitVec.ofNat 8 (d.pv 0x5015), 0, 0, 0] ++ List.replicate 12 0 ++ d.clockId p ++ beBytes (p + 1) 2 ++
  beBytes n 2 ++ [0x01, 0x7F] ++ List.replicate 10 0

/-- The IPv4 header of a Delay_Req to 224.0.1.129 (R236; IEEE 1588-2019, Annex C), without its checksum: no options, 72 octets in all, UDP, and the rest free (log 129). -/
def ptpIp4 : List Byte :=
  [0x45, Config.ptpIp 0] ++ beBytes 72 2 ++ [Config.ptpIp 1, Config.ptpIp 2, Config.ptpIp 3 &&& 0x40, 0, Config.ptpIp 4, 17, 0, 0,
    Config.ptpIp 5, Config.ptpIp 6, Config.ptpIp 7, Config.ptpIp 8, 224, 0, 1, 129]

/-- Send a Delay_Req on port `p`, over the transport of its master, and ask for its transmit stamp (R236, R274). -/
def Dev.askDelay (d : Dev) (t p : Nat) (udp : Bool) : Dev :=
  let n := (d.bt.servo.reqSeq + 1) % 65536
  let d1 := d.modServo (fun s => { s with reqSeq := n, reqSent := none })
  let src := beBytes (rfld (d.reg (emacAddr p 0x1C)) 15 0 * 2 ^ 32 + (d.reg (emacAddr p 0x18)).toNat) 6
  let tag := beBytes 0x8100 2 ++ beBytes (d.bt.pcp * 8192 + d.bt.vlan) 2
  let octets := if udp
    then beBytes 0x01005E000181 6 ++ src ++ tag ++ beBytes 0x0800 2 ++ ip4Sum ptpIp4 0 20 ++ beBytes 319 2 ++ beBytes 319 2 ++ beBytes 52 2 ++ [0, 0] ++ d.delayReq p n
    else beBytes 0x011B19000000 6 ++ src ++ tag ++ beBytes 0x88F7 2 ++ d.delayReq p n
  d1.toPort t p { octets := octets, srcKind := 3, src := 0, tenant := 0, tc := d.bt.pcp, own := true }

/-- A Sync whose origin time is known (R236, R237): once the path delay is measured its offset goes to the servo, and a Delay_Req follows it. -/
def Dev.syncHeard (d : Dev) (t : Nat) (x : SyncMsg) (origin : Int) (stamp : Nat) : Dev :=
  let d1 := d.modServo (fun s => { s with heard := none, exchange := some (origin, (stamp : Int)) })
  let d2 := match d.bt.servo.delay with
    | some m => d1.sourceUsable.applyOffset t (origin + m - stamp)
    | none => d1
  d2.askDelay t x.port x.udp

/-- The mean path delay of the end-to-end exchange (IEEE 1588-2019, 11.3): the halves of Sync and Delay_Req, `t1` to `t4`. -/
def pathDelay (t1 t2 t3 t4 : Int) : Int := ((t2 - t1) + (t4 - t3)) / 2

/-- The answer to the outstanding Delay_Req (R236): the delay is measured, and the first one lets the last Sync's offset be used. -/
def Dev.delayAnswered (d : Dev) (t seq : Nat) (received : Int) : Dev :=
  match d.bt.servo.exchange, d.bt.servo.reqSent with
  | some (t1, t2), some t3 =>
    if seq != d.bt.servo.reqSeq then d
    else
      let m := pathDelay t1 t2 t3 received
      let d1 := d.modServo (fun s => { s with delay := some m, reqSent := none })
      if d.bt.servo.delay.isSome then d1 else d1.sourceUsable.applyOffset t (t1 + m - t2)
  | _, _ => d

/-- A message comes from the chosen master, which is no worse than GM_CLASS_MAX (R244). -/
def Dev.fromParent (d : Dev) (x : SyncMsg) : Bool :=
  match d.bt.servo.parent with
  | some m => m.sender == x.sender && m.port == x.port && decide (m.clockClass ≤ d.pv 0x5014)
  | none => false

/-- Receive stamp of a Sync (R272, R273): the one handed over with its frame, or where none was, that of its message timestamp point with the port's trim. -/
def Dev.syncStamp (d : Dev) (x : SyncMsg) : Nat :=
  let h := tlook (fun _ => (65536, 0)) d.bt.servo.handed x.port
  if h.1 = x.seq then h.2 else stampOf x.stamp (d.pvi 0x6020 0 x.port)

/-- SYNC (R236, R237): a Sync, Follow_Up or Delay_Resp of the chosen master on a Big Top port in the PTP domain. -/
def goSync (t : Nat) (x : SyncMsg) (d : Dev) : Dev :=
  if d.bt.mode = .off || d.bt.source != 0 || x.domain != d.pv 0x5015 || !nbit d.bt.ports x.port || !d.fromParent x then d
  else
    let accepted (e : Dev) : Dev := (e.modServo (fun s => { s with lastSync := d.glb.up })).bump 33 12
    match x.part with
    | .sync o => (accepted d).syncHeard t x (o + x.correctionNs) (d.syncStamp x)
    | .syncTwoStep => (accepted d).modServo (fun s => { s with heard := some (x.seq, x.correctionNs, d.syncStamp x) })
    | .followUp o => match d.bt.servo.heard with
      | some (n, c, stamp) => if n = x.seq then d.syncHeard t x (o + c + x.correctionNs) stamp else d
      | none => d
    | .delayResp r => d.delayAnswered t x.seq (r - x.correctionNs)

def execSync (x : SyncMsg) (s : State) : Host.Outcome State Fault Refusal := .next (s.act fun t d => goSync t x d)

/-- SOURCE_LOSS (R244, R421): no Sync, or no BT_TIME_ADJUST, accepted for SYNC_LOSS_MS; the on-chip PTP client loses its master with the SerDes reference. -/
def Dev.sourceTimedOut (d : Dev) : Bool :=
  d.bt.servo.usable && d.bt.source != 1 &&
  (decide (d.bt.servo.lastSync + d.pv 0x5016 * 1000000 ≤ d.glb.up) || (d.bt.source == 0 && !d.mgr.ref156))

/-- SOURCE_LOSS (R244). -/
def goSourceLoss (d : Dev) : Dev := if d.bt.mode ≠ .off && d.sourceTimedOut then d.sourceLost else d

def execSourceLoss (s : State) : Host.Outcome State Fault Refusal := .next (s.act fun _ d => goSourceLoss d)

/-- The limits of coordinated operation are passed (R244). -/
def Dev.coordDrift (d : Dev) : Bool :=
  decide (1000 < d.btEst) || (decide (d.bt.mode = .holdover) && decide (d.bt.servo.lastCorr + 20000000000 ≤ d.glb.up))

/-- COORD_EXIT (R244, R245, R421): the limits of HOLDOVER, an estimate above 1 µs, or the loss of the 40 MHz reference end coordinated operation; COORD_EXIT and COORD_EXITS tell of the exits under R244, from HOLDOVER. -/
def goCoordExit (t : Nat) (d : Dev) : Dev :=
  if !d.coordinating then d
  else
    let drift := d.coordDrift
    if !drift && d.mgr.ref40 then d
    else
      let d1 := (d.btLeaveMsg t).modBt (fun b => { b with
        mode := if b.servo.usable then .aligning else .independent, servo := { b.servo with goodTicks := 0, goodNow := false } })
      if drift && decide (d.bt.mode = .holdover) then ((d1.bump 33 15).step 0x5043).inc t 7 0 else d1.bump 33 15

def execCoordExit (s : State) : Host.Outcome State Fault Refusal := .next (s.act fun t d => goCoordExit t d)

/-- ENTER_COORDINATED (R243): at the tick boundary that ends the ENTER_TICKS-th good tick in a row; the draft that opens there is the first in coordinated mode. -/
def goEnterCoordinated (t : Nat) (d : Dev) : Dev :=
  if d.bt.mode = .aligning && decide (d.pv 0x5013 ≤ d.bt.servo.goodTicks) && decide (beatOf t = 0) && d.mgr.ref40 then
    d.modBt (fun b => { b with mode := .coordinated, coordFrom := tickOf t + 2, servo := { b.servo with goodTicks := 0 } })
  else d

def execEnterCoordinated (s : State) : Host.Outcome State Fault Refusal := .next (s.act fun t d => goEnterCoordinated t d)

/-- What a beat boundary brings: the estimate is judged for R243. -/
def Dev.btBeat (d : Dev) : Dev :=
  if d.bt.mode = .aligning && decide (1000 < d.btEst) then d.modServo (fun s => { s with goodNow := false }) else d

/-- CLAP_OUT rises, if it does, at a boundary (R241). -/
def Dev.pulse (d : Dev) (t : Nat) : Dev := if d.pulses t then d.modBt (fun b => { b with pulse := tickOf t + 1 }) else d

/-- What a tick boundary brings: a good tick counts, the slew moves on, and a leaving member is OFF (R237, R243, R259). -/
def Dev.btTick (d : Dev) (t : Nat) : Dev :=
  match d.bt.leaveTick with
  | some k => if k ≤ tickOf t then { d with bt := {} } else d.pulse t
  | none =>
    let most : Int := (1024 * d.pv 0x5010 / 1000 : Nat)
    let move (s : Servo) : Int := max (-most) (min most s.slew)
    (d.pulse t).modServo (fun s => { s with
      goodTicks := if d.bt.mode = .aligning && s.goodNow then s.goodTicks + 1 else 0, goodNow := true
      slew := if d.bt.mode = .holdover then s.slew else s.slew - move s, offset := if d.bt.mode = .holdover then s.offset else s.offset - move s })

/-! The step of show time (R237, R238). -/

/-- A sheet that a step makes dark is counted (R238). -/
def Dev.stepDark (d : Dev) : Dev :=
  (List.range 3).foldl (fun e r => (e.step 0x1061 0 r).bump (18 + r) 4) d

/-- What a step of show time to `t` does (R238): no sheet of a passed tick remains, the landing tick and the next are dark, the draft after them opens, Retake slots run out, and the step is flagged. -/
def Dev.stepped (d : Dev) (t : Nat) : Dev :=
  let k := tickOf t
  let dark (tick : Nat) : Sheet := { state := .dark, tick := tick % 2 ^ 48 }
  let d1 := (List.range 3).foldl (fun e r => ((e.modSheet r k (fun _ => dark k)).modSheet r (k + 1) (fun _ => dark (k + 1))).modSheet r (k + 2) (fun _ => {})) d
  let d2 := d1.stepDark
  let d3 := if 896 ≤ beatOf t then d2.stepDark else d2
  let d4 := goRetakeExpired t (goDraftOpen t [] d3)
  let d5 := d4.modServo (fun s => { s with step := none, offset := 0, slew := 0, lastCorr := d4.glb.up, goodTicks := 0, goodNow := false, heard := none, exchange := none, reqSent := none, estAtCorr := ({ d4 with bt := { d4.bt with servo := { d4.bt.servo with offset := 0 } } } : Dev).srcEst })
  let d6 := (d5.modBt (fun b => { b with pulse := 0 })).pulse t
  (({ d6 with dly := { d6.dly with stepped := true } } : Dev).inc t 0 2).bump 1 4 |>.bump 33 13

/-- TIME_STEP (R237, R238, R29): at a tick boundary, outside coordinated operation, show time steps forward. -/
def execTimeStep (s : State) : Host.Outcome State Fault Refusal :=
  match s.dev.bt.servo.step with
  | none => .next s
  | some n =>
    if s.dev.coordinating || decide (beatOf s.now ≠ 0) then .next s
    else .next { s with now := s.now + n, dev := s.dev.stepped (s.now + n) }

/-! The clapper (R241, R242). -/

/-- CLAPPER_MESSAGE (R242): at beat 8 of a tick whose boundary the member pulsed. -/
def goClapperMessage (t : Nat) (d : Dev) : Dev :=
  if d.bt.mode ≠ .off && d.pulsed t && decide (beatOf t = 8) then (d.btSend t 2 (tickOf t) 1 []).bump 33 8 else d

def execClapperMessage (s : State) : Host.Outcome State Fault Refusal := .next (s.act fun t d => goClapperMessage t d)

/-- A frame is a Big Top frame of the member's venue: on its ports and VLAN, with a header whose fixed fields hold (R246, R247). -/
def Dev.btAccepts (d : Dev) (x : BtFrame) (msg : Nat) : Bool :=
  decide (d.bt.mode ≠ .off) && nbit d.bt.ports x.port && x.vlan == d.bt.vlan && decide (20 ≤ x.octets.length) &&
  octAt x.octets 1 == msg && beAt x.octets 2 2 == d.bt.venue

/-- CHIP, TICK and ALIGN_NS of a frame. -/
def btChip (l : List Byte) : Nat := beAt l 4 2
/-- TICK of a frame. -/
def btTickOf (l : List Byte) : Nat := beAt l 6 6
/-- ALIGN_NS of a frame. -/
def btAlignNs (l : List Byte) : Nat := beAt l 16 4

/-- A clapper or leave message is well formed: VERSION 1, zero fields zero, SEG 0x01, no body. -/
def btPlain (l : List Byte) : Bool :=
  octAt l 0 == 1 && decide (btChip l < 16384) && octAt l 12 == 1 && octAt l 13 % 128 == 0 && beAt l 14 2 == 0

/-- Ticks between the leader's edges (R241). -/
def Dev.clapDiv (d : Dev) : Nat := Nat.max 1 (d.pv 0x5018)

/-- A chip is a neighbour, in a set in force, one that still governs a tick's planning, or the set to come (R246, R254). -/
def Dev.knowsChip (d : Dev) (chip : Nat) : Bool :=
  d.bt.sets.any (fun s => s.2.contains chip) || (match d.bt.staged with | some s => s.2.contains chip | none => false)

/-- CLAPPER_MESSAGE_RX (R242, R246): the follower's leader numbers the edges; another number than the follower's count is an offset, and ALIGN_NS 0xFFFFFFFF a lost source, after which no edge is taken for the first. The receive filter drops and counts the messages of members that are neither leader nor neighbour. -/
def goClapperMessageRx (t : Nat) (x : BtFrame) (d : Dev) : Dev :=
  if !d.btAccepts x 2 then d
  else if d.bt.source != 1 || btChip x.octets != d.pv 0x501B then (if d.knowsChip (btChip x.octets) then d else d.bump 33 11)
  else if !btPlain x.octets then d
  else
    let k := btTickOf x.octets
    let a := btAlignNs x.octets
    let d1 := d.modServo (fun s => { s with clapTick := if a = 0xFFFFFFFF then none else some k, clapAlign := a })
    if a = 0xFFFFFFFF then d1.sourceLost
    else match d.bt.servo.edgeTick with
      | some e =>
        if k = e then d1
        else ((d1.modServo (fun s => { s with edgeTick := some k })).sourceUsable).applyOffset t ((k : Int) * 1024000 - (e : Int) * 1024000)
      | none => d1

def execClapperMessageRx (x : BtFrame) (s : State) : Host.Outcome State Fault Refusal := .next (s.act fun t d => goClapperMessageRx t x d)

/-- An accepted edge (R241): its number gives the reference's time at its stamp. -/
def Dev.acceptEdge (d : Dev) (t number : Nat) (local' : Int) : Dev :=
  let d1 := (d.modServo (fun s => { s with edgeTick := some number, missing := 0, lastSync := d.glb.up })).bump 33 9
  if d.bt.servo.clapAlign = 0xFFFFFFFF then d1
  else (d1.sourceUsable).applyOffset t ((number : Int) * 1024000 - local')

/-- CLAP_IN (R241): an edge stamped in show time; the first one after a clapper message, then those within 4 µs of the expected one. -/
def goClapIn (t stamp : Nat) (d : Dev) : Dev :=
  if d.bt.mode = .off || d.bt.source != 1 then d
  else
    let local' : Int := (stamp : Int) - (d.pv 0x5019 : Nat)
    match d.bt.servo.edgeTick with
    | some e =>
      let due : Int := ((e + d.clapDiv) * 1024000 : Nat)
      if decide (local' - due ≤ 4000) && decide (-4000 ≤ local' - due) then d.acceptEdge t (e + d.clapDiv) local' else d.bump 33 10
    | none =>
      match d.bt.servo.clapTick with
      | some k => d.acceptEdge t (k + d.clapDiv) local'
      | none => d.bump 33 10

def execClapIn (stamp : Nat) (s : State) : Host.Outcome State Fault Refusal := .next (s.act fun t d => goClapIn t stamp d)

/-- The window of the expected edge has passed (R241). -/
def Dev.edgeOverdue (d : Dev) (t : Nat) : Bool :=
  decide (d.bt.mode ≠ .off) && d.bt.source == 1 &&
  (match d.bt.servo.edgeTick with | some e => decide ((e + d.clapDiv) * 1024000 + d.pv 0x5019 + 4000 < t) | none => false)

/-- CLAP_MISSING (R241): an expected edge is missing; the second in a row loses the source. -/
def goClapMissing (t : Nat) (d : Dev) : Dev :=
  if !d.edgeOverdue t then d
  else if 1 ≤ d.bt.servo.missing then
    ((d.modServo (fun s => { s with missing := 0, edgeTick := none, clapTick := none })).sourceLost).inc t 7 4
  else d.modServo (fun s => { s with missing := s.missing + 1, edgeTick := s.edgeTick.map (· + d.clapDiv) })

def execClapMissing (s : State) : Host.Outcome State Fault Refusal := .next (s.act fun t d => goClapMissing t d)

/-! Cues (R248 to R252). -/

/-- A radio has nothing to cue: no sheet, one that breaks a limit of its own, or one known to be dark (R249). -/
def Dev.cueEmpty (d : Dev) (r tick : Nat) : Bool :=
  let s := d.sheet r tick
  s.tick != tick || !(s.state == .drafting || s.state == .ready) || (sheetReason r s).isSome || !d.plnEnabled r || d.forcedDark r tick

/-- The radios that are cued with no take and whose sheets are emptied at beat 384: those with nothing to cue, and in the order of the lock those that take the chip over its 1,024 allocations (R85, R249). -/
def Dev.cueEmpties (d : Dev) (tick : Nat) : List Nat :=
  ((List.range 3).foldl (fun (x : Nat × List Nat) r =>
    let n := x.1 + (d.sheet r tick).allocs
    if d.cueEmpty r tick || decide (1024 < n) then (x.1, x.2 ++ [r]) else (n, x.2)) (0, [])).2

/-- CUE_SEND (R243, R249): at beat 384 a coordinated member sends its cue for the next tick, in segments, on every Big Top port. -/
def goCueSend (t : Nat) (d : Dev) : Dev :=
  if !d.coordinatingFor (tickOf t + 1) || decide (beatOf t ≠ 384) then d
  else
    let tick := tickOf t + 1
    let empty := d.cueEmpties tick
    let d1 := empty.foldl (fun e r => e.modSheet r tick (fun s => if s.tick == tick && (s.state == .drafting || s.state == .ready) then s.withParts [] else s)) d
    let body := (List.range 3).flatMap (fun r =>
      sectionOctets r (if (d1.radio r).inService then d1.chanAt r tick else none) (if empty.contains r then {} else d1.sheet r tick))
    let segs := segments 4 body
    let d2 := (List.zipIdx segs).foldl (fun e x => (e.btSend t 1 tick (x.2 * 16 + segs.length) x.1).bump 33 1) d1
    (d2.modBt (fun b => { b with cueSent := tick + 1 })).bump 33 0

def execCueSend (s : State) : Host.Outcome State Fault Refusal := .next (s.act fun t d => goCueSend t d)

/-- Discard a segment or cue (R250). -/
def Dev.cueDiscard (d : Dev) (t : Nat) : Dev := ((d.step 0x5042).bump 33 4).inc t 7 2

/-- Two senders use one chip number, or the own one (R252): `n` cues are discarded. -/
def Dev.cueClash (d : Dev) (t n : Nat) : Dev := ((d.step 0x5042 0 0 n).bump 33 5).inc t 7 3

/-- The fields of a cue segment's header hold (R250). -/
def cueHeaderOk (l : List Byte) : Bool :=
  let seg := octAt l 12
  octAt l 0 == 1 && decide (btChip l < 16384) && octAt l 13 % 128 == 0 && decide (seg / 16 < 4) && decide (1 ≤ seg % 16) && decide (seg % 16 ≤ 4) &&
  decide (seg / 16 < seg % 16) && decide (beAt l 14 2 ≤ 1440) && decide (20 + beAt l 14 2 ≤ l.length)

/-- Put a cue in the place of the one with its chip, tick and source. -/
def Dev.putCue (d : Dev) (c : Cue) : Dev :=
  d.modBt (fun b => { b with cues := b.cues.filter (fun x => !(x.chip == c.chip && x.tick == c.tick && x.src == c.src)) ++ [c] })

/-- A cue whose last segment has come (R250 to R252): clashing, malformed, late or on time; a malformed one that it clashes with has been discarded already, and one missing at the final pass has been counted late. -/
def Dev.cueComplete (d : Dev) (t stamp : Nat) (c : Cue) : Dev :=
  let done : Cue := { c with complete := true }
  let same (x : Cue) : Bool := x.chip == c.chip && x.tick == c.tick
  if d.bt.cues.any (fun x => x.chip == c.chip && x.tick == c.tick && x.src != c.src && x.complete) then
    ((d.putCue done).modBt (fun b => { b with cues := b.cues.map (fun x => if x.chip == c.chip && x.tick == c.tick then { x with clash := true } else x) })).cueClash t (if d.bt.cues.any (fun x => same x && x.bad) then 1 else 2)
  else if (parseCue done.body).isNone then (d.putCue { done with bad := true }).cueDiscard t
  else if 768 ≤ beatOf stamp || decide (beatNo stamp + 2 < beatNo t) then
    let d1 := d.putCue { done with late := true }
    if d.bt.cues.any (fun x => same x && x.late && !x.complete) then d1 else d1.countLate t
  else ((d.putCue done).step 0x5040).bump 33 2

/-- CUE_SEGMENT (R246, R247, R250 to R252). The chip's leave message, whose withdrawal of later ticks no rule ends, is forgotten with the first segment accepted for a tick at or after its TICK (DESIGN CHOICE, log 146). -/
def goCueSegment (t : Nat) (x : BtFrame) (d : Dev) : Dev :=
  if !d.btAccepts x 1 then d
  else
    let l := x.octets
    let chip := btChip l
    let tick := btTickOf l
    let seg := octAt l 12
    let body := (l.drop 20).take (beAt l 14 2)
    if !cueHeaderOk l then d.cueDiscard t
    else if chip = d.bt.chip then d.cueClash t 1
    else if !(d.neighbours tick).contains chip then (d.bump 33 11).cueDiscard t
    else if tick ≠ tickOf x.stamp + 1 then d.cueDiscard t
    else if d.bt.cues.any (fun c => c.chip == chip && c.tick == tick && (c.clash || (c.src == x.src && (c.late || c.bad)))) then d
    else
      let old := (d.bt.cues.find? (fun c => c.chip == chip && c.tick == tick && c.src == x.src)).getD { chip := chip, tick := tick, src := x.src, segCount := seg % 16 }
      if old.segs.any (fun s => s.1 == seg / 16 && s.2 == body) then d
      else if old.complete || old.segCount ≠ seg % 16 || old.segs.any (fun s => s.1 == seg / 16) then d.cueDiscard t
      else
        let c : Cue := { old with segs := old.segs ++ [(seg / 16, body)] }
        let d1 := d.modBt (fun b => { b with left := b.left.filter (fun y => !(y.1 == chip && decide (y.2 ≤ tick))) })
        if c.segs.length = c.segCount then d1.cueComplete t x.stamp c else d1.putCue c

def execCueSegment (x : BtFrame) (s : State) : Host.Outcome State Fault Refusal := .next (s.act fun t d => goCueSegment t x d)

/-- LEAVE_MESSAGE (R245): a neighbour is uncoordinated from its TICK onward. -/
def goLeaveMessage (x : BtFrame) (d : Dev) : Dev :=
  let l := x.octets
  if !d.btAccepts x 3 || !btPlain l then d
  else if !d.knowsChip (btChip l) then d.bump 33 11
  else (d.modBt (fun b => { b with left := (btChip l, btTickOf l) :: b.left.filter (fun y => y.1 != btChip l) })).bump 33 7

def execLeaveMessage (x : BtFrame) (s : State) : Host.Outcome State Fault Refusal := .next (s.act fun _ d => goLeaveMessage x d)

/-- NEIGHBOUR_SET_EFFECT (R254): the staged set takes effect at beat 0 of its EFFECT_TICK; the sets that still govern a tick's planning are kept. -/
def goNeighbourSetEffect (t : Nat) (d : Dev) : Dev :=
  match d.bt.staged with
  | some (k, l) => if k ≤ tickOf t then d.modBt (fun b => { b with sets := ((k, l) :: b.sets).take 5, staged := none }) else d
  | none => d

def execNeighbourSetEffect (s : State) : Host.Outcome State Fault Refusal := .next (s.act fun t d => goNeighbourSetEffect t d)

/-! Mailbox commands (R259). -/

/-- A port counts as enabled: ENABLE and LINK_UP (R261). -/
def Dev.portEnabled (d : Dev) (p : Nat) : Bool := (d.reg (emacAddr p 0)).getLsbD 31 && (d.port p).linkUp

/-- BT_JOIN (R233, R235, R259). -/
def goBtJoin (t : Nat) (who : Master) (req : List Word) (d : Dev) : Dev :=
  d.mbxNow t (fixedSpec 0x500 true 4 [(1, [(63, 30)]), (2, [(63, 48)]), (3, [(63, 22), (15, 15)])]) who req (fun d =>
    let w3 := wd req 3
    let ports := fld w3 19 16
    let vlan := fld w3 11 0
    judged d [
      (fld w3 21 20 == 3 || ports == 0 || vlan == 0 || vlan == 4095 || !nbit (wd req 2).toNat 40, .badParam),
      (decide (d.bt.mode ≠ .off), .wrongState),
      ((List.range 4).any (fun p => nbit ports p && !d.portEnabled p), .wrongState)] (fun d =>
        (.ok, [], d.modBt (fun b => { b with
          mode := if b.servo.usable then .aligning else .independent, source := fld w3 21 20, chip := fld (wd req 1) 29 16, venue := fld (wd req 1) 15 0
          group := fld (wd req 2) 47 0, ports := ports, pcp := fld w3 14 12, vlan := vlan }))))

def execBtJoin (f : Nat) (req : List Word) (s : State) : Host.Outcome State Fault Refusal := .next (s.act fun t d => goBtJoin t (.fn f) req d)

/-- BT_LEAVE (R245, R259). -/
def goBtLeave (t : Nat) (who : Master) (req : List Word) (d : Dev) : Dev :=
  d.mbxNow t (fixedSpec 0x501 true 1 []) who req (fun d =>
    judged d [(decide (d.bt.mode = .off), .wrongState)] (fun d =>
      let d1 := if d.coordinating then d.btLeaveMsg t else d
      (.ok, [], d1.modBt (fun b => { b with leaveTick := some (tickOf t + 1) }))))

def execBtLeave (f : Nat) (req : List Word) (s : State) : Host.Outcome State Fault Refusal := .next (s.act fun t d => goBtLeave t (.fn f) req d)

/-- Some number stands in a list twice. -/
def hasTwice : List Nat → Bool
  | [] => false
  | x :: rest => rest.contains x || hasTwice rest

/-- BT_NEIGHBOURS (R254, R259). -/
def goBtNeighbours (t : Nat) (who : Master) (req : List Word) (d : Dev) : Dev :=
  let n := fld (wd req 1) 53 48
  let ws := (List.range n).map (fun k => wd req (2 + k))
  let sp : CmdSpec := { op := 0x510, f0Only := true, lenOk := fun l => l == 2 + n, reserved := fun q => resv (wd q 1) [(63, 54)] || ws.any (fun w => resv w [(63, 14)]) }
  d.mbxNow t sp who req (fun d =>
    let chips := ws.map (fun w => fld w 13 0)
    let k := fld (wd req 1) 47 0
    judged d [
      (decide (32 < n) || hasTwice chips || chips.contains d.bt.chip, .badParam),
      (decide (d.bt.mode = .off), .wrongState),
      (decide (k < tickOf t + 1), .late)] (fun d => (.ok, [], d.modBt (fun b => { b with staged := some (k, chips) }))))

def execBtNeighbours (f : Nat) (req : List Word) (s : State) : Host.Outcome State Fault Refusal :=
  .next (s.act fun t d => goBtNeighbours t (.fn f) req d)

/-- BT_TIME_ADJUST (R235, R237, R259). -/
def goBtTimeAdjust (t : Nat) (who : Master) (req : List Word) (d : Dev) : Dev :=
  d.mbxNow t (fixedSpec 0x530 true 3 []) who req (fun d =>
    let freq := sgn 32 (fld (wd req 2) 31 0)
    judged d [
      (decide (freq < -100000) || decide (100000 < freq), .badParam),
      (d.bt.source != 2, .wrongState)] (fun d =>
        let d1 := d.modServo (fun s => { s with hostErr := fld (wd req 2) 63 32, rate := freq, lastSync := d.glb.up })
        (.ok, [], (d1.sourceUsable).applyOffset t (wd req 1).toInt)))

def execBtTimeAdjust (f : Nat) (req : List Word) (s : State) : Host.Outcome State Fault Refusal :=
  .next (s.act fun t d => goBtTimeAdjust t (.fn f) req d)

/-- BT_STATUS (R259). HOLD_MS before any correction is the time since power-on (DESIGN CHOICE, log 147). -/
def goBtStatus (t : Nat) (who : Master) (req : List Word) (d : Dev) : Dev :=
  d.mbxNow t (fixedSpec 0x520 false 1 []) who req (fun d =>
    (.ok, [packW [(d.btAlign.toNat, 32, 0), (d.btState.toNat, 32, 32)], packW [(d.bt.finalTick, 48, 0), (d.bt.venue, 16, 48)],
      packW [(d.bt.coordMap, 32, 0), (Nat.min ((d.glb.up - d.bt.servo.lastCorr) / 1000000) 0xFFFFFFFF, 32, 32)]], d))

def execBtStatus (f : Nat) (req : List Word) (s : State) : Host.Outcome State Fault Refusal := .next (s.act fun t d => goBtStatus t (.fn f) req d)

end Sys2Proof.Machine
end

