-- ==== Sys2Proof/Machine/Cipher.lean ====
section
/-! DEFINITION. The wire cipher cluster (R324 to R334): key slots and their commits, operations, MACsec, and the hold until verified; and its mailbox commands (R343). -/
namespace Sys2Proof.Machine

/-! Algorithms (R326). -/

/-- Octets of a key. -/
def keyOctets (alg : Nat) : Nat := if alg % 2 = 0 then 16 else 32
/-- The XPN algorithms. -/
def isXpn (alg : Nat) : Bool := alg == 10 || alg == 11
/-- The greatest PN of an algorithm. -/
def pnMax (alg : Nat) : Nat := if alg < 8 then 2 ^ 48 - 1 else if isXpn alg then 2 ^ 64 - 1 else 2 ^ 32 - 1
/-- An algorithm is allowed for a kind. -/
def algOk (kind alg : Nat) : Bool :=
  if kind < 2 then decide (alg < 4)
  else if kind < 4 then decide (4 ≤ alg) && decide (alg < 8)
  else decide (8 ≤ alg) && decide (alg < 12)
/-- A KEY_ID is in the range of a kind (R328). -/
def keyIdOk (kind id : Nat) : Bool :=
  match kind with
  | 0 => id == 0
  | 1 => decide (1 ≤ id) && decide (id ≤ 3)
  | 2 => id == 4 || id == 5
  | 3 => id == 6 || id == 7
  | _ => decide (id ≤ 3)

/-! Key slots (R328 to R330). -/

/-- An empty slot. -/
def slotReset : Nat → KeySlot := fun _ => {}
/-- Slot `n` in force. -/
def Dev.slot (d : Dev) (n : Nat) : KeySlot := tlook slotReset d.wcx.slots n
/-- Change slot `n`. -/
def Dev.modSlot (d : Dev) (n : Nat) (f : KeySlot → KeySlot) : Dev := { d with wcx := { d.wcx with slots := tmod slotReset d.wcx.slots n f } }
/-- Slot `n` as the changes staged in this beat leave it (R330). -/
def Dev.slotView (d : Dev) (n : Nat) : KeySlot :=
  match d.wcx.staged.reverse.find? (fun s => s.slot == n) with
  | some s => s.entry.getD {}
  | none => d.slot n
/-- A slot that may be allocated: empty in force, and not staged. -/
def Dev.slotFree (d : Dev) (n : Nat) : Bool := !(d.slot n).used && !d.wcx.staged.any (fun s => s.slot == n)
/-- The lowest free slot. -/
def Dev.lowestSlot (d : Dev) : Option Nat := (List.range keySlots).find? d.slotFree
/-- Slots that a tenant holds, with those staged for allocation. -/
def Dev.slotsHeld (d : Dev) (ten : Nat) : Nat :=
  d.keyCount ten + (d.wcx.staged.filter (fun s => !(d.slot s.slot).used && (match s.entry with | some e => e.tenant == ten | none => false))).length

/-- Stage a change of a slot (R329). -/
def Dev.stageSlot (d : Dev) (n : Nat) (e : Option KeySlot) (p : Option Pend) : Dev :=
  { d with wcx := { d.wcx with staged := d.wcx.staged ++ [⟨n, e, beatNo d.glb.up, p⟩] } }

/-- Two slots are transmit keys of the same object: a BSS's key of one kind, or a port's transmit SA. -/
def sameTx (a b : KeySlot) : Bool := a.kind == b.kind && (if a.kind = 4 then a.port == b.port else a.bss == b.bss)

/-- One staged change commits (R328, R329). -/
def Dev.commitSlot (t : Nat) (d : Dev) (s : KeyStage) : Dev :=
  let old := d.slot s.slot
  let d1 := if old.used && old.kind == 0 && (d.sta old.bind).ptk == s.slot then d.modSta old.bind (fun x => { x with ptk := 0x3FFF }) else d
  let d2 : Dev := match s.entry with
    | none => d1.modSlot s.slot (fun _ => {})
    | some e =>
      let e1 : KeySlot := { e with commitTick := tickOf t, gen := d.wcx.nextId }
      let w := d1.wcx
      let cleared := if e.txActive then tmap slotReset (fun _ x => if sameTx e x then { x with txActive := false } else x) w.slots else w.slots
      let c1 : Dev := { d1 with wcx := { w with nextId := w.nextId + 1, slots := tput slotReset cleared s.slot e1 } }
      if e.kind = 0 && (c1.sta e.bind).used then c1.modSta e.bind (fun x => { x with ptk := s.slot }) else c1
  let d3 := d2.bump 37 14
  match s.pend with
  | some p => d3.respond t p .ok (if s.entry.isSome then [packW [(s.slot, 14, 0)]] else [])
  | none => d3

/-- KEY_COMMIT (R329): what was staged in an earlier beat. -/
def goKeyCommit (t : Nat) (d : Dev) : Dev :=
  let due := d.wcx.staged.filter (fun s => decide (s.beat < beatNo d.glb.up))
  due.foldl (Dev.commitSlot t) { d with wcx := { d.wcx with staged := d.wcx.staged.filter (fun s => !decide (s.beat < beatNo d.glb.up)) } }

def execKeyCommit (s : State) : Host.Outcome State Fault Refusal := .next (s.act fun t d => goKeyCommit t d)

/-! Operations (R324, R327, R329 to R332, R334). -/

/-- Index of a radio or port in the properties of R342. -/
def CipherRun.unitIx (x : CipherRun) : Nat := if x.op.cls ≤ 2 then x.op.unit else 3 + x.op.unit

/-- A transmit operation takes TX_PN (R330): near the end a PTK warns, and the largest value ends the slot. -/
def Dev.takePn (d : Dev) (t n : Nat) : Dev :=
  let s := d.slot n
  let top := pnMax s.alg
  let margin := d.pv 0x7012
  let d1 := d.modSlot n (fun x => { x with txPn := x.txPn + 1 })
  let d2 := if s.kind = 0 && decide (margin < top - s.txPn) && decide (top - (s.txPn + 1) ≤ margin) then (d1.inc t 11 5).bump 37 12 else d1
  if s.txPn = top then ((d2.stageSlot n none none).inc t 11 6).bump 37 13 else d2

/-- A slot that a transmit operation can use: written, and its last PN not yet taken. -/
def Dev.slotLive (d : Dev) (n : Nat) : Bool := (d.slot n).used && decide ((d.slot n).txPn ≤ pnMax (d.slot n).alg)

/-- The slot of a wireless transmit operation: the station's pairwise key, or the BSS's transmit key of a kind. -/
def Dev.wlanTxSlot (d : Dev) (op : CipherOp) : Option Nat :=
  if op.group then (d.wcx.slots.find? (fun e => e.2.used && e.2.txActive && e.2.kind == op.keyKind && e.2.bss == op.bss)).map (·.1)
  else let n := (d.sta op.sid).ptk; if n < keySlots then some n else none

/-- Lengths that R327 admits for a wireless operation under an algorithm. -/
def wlanLenOk (alg : Nat) (op : CipherOp) : Bool :=
  if alg < 4 then decide (1 ≤ op.len) && decide (op.len ≤ 11424) && decide (22 ≤ op.aad) && decide (op.aad ≤ 32)
  else decide (1 ≤ op.len) && decide (op.len ≤ 3072)

/-- A refusal for length (R327). -/
def Dev.tooLong (d : Dev) (t : Nat) : Dev := (d.inc t 11 3).bump 37 11

/-- A receive operation without a slot (R329, R331): property 0x7015, NO_KEY. -/
def Dev.noKey (d : Dev) (t ix ten : Nat) : Dev := (((d.step 0x7015 0 ix).inc t 11 2).bump 37 9).dropped t ten

/-- The MSDUs of one transmit operation (R324): the first it names, and of the others those of its TID that one A-MSDU to the station holds beside it. -/
def Dev.opMsdus (d : Dev) (op : CipherOp) : List Nat :=
  let s := d.sta op.sid
  match s.queue.find? (fun m => m.id == op.msdu) with
  | none => []
  | some m =>
    (s.queue.foldl (fun (acc : List Nat × Nat) x =>
      if op.more.contains x.id && x.id != m.id && x.tid == m.tid && x.enc.isNone && s.ht && decide (acc.2 + 14 + x.len ≤ amsduCap s.mpduMax) then
        (acc.1 ++ [x.id], (acc.2 + 14 + x.len + 3) / 4 * 4) else acc) ([m.id], (14 + m.len + 3) / 4 * 4)).1

/-- An MSDU of a station's queue completes with a code, where the queue holds it. -/
def Dev.msduRefused (d : Dev) (r sid code id : Nat) : Dev :=
  match (d.sta sid).queue.find? (fun m => m.id == id) with
  | some m => d.msduOut r sid m code
  | none => d

/-- What a transmit operation that is not performed carries completes with a code (R148, R327, R329): every MSDU of its MPDU, or a frame of a BSS. -/
def Dev.txRefuse (d : Dev) (op : CipherOp) (code : Nat) : Dev :=
  if !(d.opMsdus op).isEmpty then (d.opMsdus op).foldl (fun e id => e.msduRefused op.unit op.sid code id) d
  else
    match d.bssFrame op.msdu with
    | some (b, m) => d.bssOut op.unit b m code
    | none => d

/-- An operation enciphers a frame that BSS `b` sends (R147): a group-addressed one under that BSS's group management key, another under the key of the station it is for. -/
def Dev.opFits (d : Dev) (op : CipherOp) (b : Nat) (m : Msdu) : Bool :=
  if groupFrame m then op.group && op.keyKind == 2 && op.bss == b else !op.group && op.mgmt && d.frameSta b m.data == some op.sid

/-- The first frame of the MAC's own to a station that still wants the cipher. -/
def markOwn (sid : Nat) : List OwnFrame → List OwnFrame
  | [] => []
  | f :: rest => if f.sid = sid && !f.enc then { f with enc := true } :: rest else f :: markOwn sid rest

/-- What wireless transmit operation number `k` protects is enciphered (R26, R147): the MSDUs of one MPDU, a frame that a BSS sends, one frame of the MAC's own to a station, or a BSS's next beacon or Deauthentication. -/
def Dev.markEnc (d : Dev) (k : Nat) (op : CipherOp) : Dev :=
  if !op.group && !op.mgmt then
    let ids := d.opMsdus op
    d.modSta op.sid (fun s => { s with queue := s.queue.map (fun m => if ids.contains m.id then { m with enc := some k } else m) })
  else match d.bssFrame op.msdu with
    | some (b, m) => if d.opFits op b m then d.modBss b (fun x => { x with groupQueue := x.groupQueue.map (fun y => if y.id = m.id then { y with enc := some k } else y) }) else d
    | none =>
      if op.group then d.modBss op.bss (fun x => { x with enc := op.keyKind :: x.enc.filter (· != op.keyKind) })
      else { d with mac := { d.mac with ownTx := markOwn op.sid d.mac.ownTx } }

/-- Cells of 256 octets in the hold buffers, and those in use. -/
def holdCells : Nat := 32768
/-- Hold cells in use. -/
def Dev.holdUse (d : Dev) : Nat := sumN (d.wcx.runs.map (·.cells))
/-- WCX_HOLD_USE. -/
def Dev.holdUseReg (d : Dev) : Reg := packR [((d.holdUse + 3) / 4, 14, 0)]

/-- An operation starts on a core with the contents of its slot, taking hold space. -/
def Dev.startRun (d : Dev) (op : CipherOp) (n cells : Nat) (stamp : Option Nat := none) : Dev :=
  { d with wcx := { d.wcx with nextId := d.wcx.nextId + 1, runs := d.wcx.runs ++ [⟨d.wcx.nextId, op, n, d.slot n, cells, none, stamp⟩] } }

/-- A wireless transmit operation latches: it takes its PN, and its core until its verdict (R324, R329, R330). -/
def Dev.latchTx (d : Dev) (t : Nat) (op : CipherOp) : Dev :=
  match d.wlanTxSlot op with
  | none => d.txRefuse op 5
  | some n =>
    if !d.slotLive n then d.txRefuse op 5
    else if !wlanLenOk (d.slot n).alg op then (d.tooLong t).txRefuse op 3
    else (((d.markEnc d.wcx.nextId op).startRun op n 0).takePn t n).bump 37 op.unit

/-- A frame that waits for the cipher is of the kind that a receive operation processes: a management frame, or a data frame of its TID. -/
def heldFor (x : RxMpdu) (op : CipherOp) : Bool :=
  if op.mgmt then isMgmt x.kind else (match x.kind with | .data tid _ _ => tid % 8 == op.tid % 8 | _ => false)

/-- The frame that a wireless receive operation processes: the oldest of its station and kind that no operation has yet taken. -/
def Dev.presented (d : Dev) (op : CipherOp) : Option Unverified :=
  d.mac.unverified.find? (fun x => x.sid == op.sid && x.run.isNone && heldFor x.mpdu op)

/-- A frame leaves those that wait for the cipher. -/
def Dev.dropUnverified (d : Dev) (u : Unverified) : Dev := { d with mac := { d.mac with unverified := d.mac.unverified.erase u } }

/-- The tenant whose BSS received a frame. -/
def Dev.heldTenant (d : Dev) (u : Unverified) : Nat := (d.bssAt u.mpdu.bss).tenant

/-- A frame is not released (R327, R329, R332, R334): nothing of it leaves, and a data frame holds back those behind it no longer. -/
def Dev.unverifiedFails (d : Dev) (t : Nat) (u : Unverified) : Dev :=
  match u.mpdu.kind with
  | .data tid seq _ => (d.dropUnverified u).rxSettled t (radioOf u.mpdu.bss) u.sid tid (seq % 4096) []
  | _ => d.dropUnverified u

/-- Operation number `k` takes a frame. -/
def Dev.takeHeld (d : Dev) (k : Nat) (u : Unverified) : Dev :=
  { d with mac := { d.mac with unverified := d.mac.unverified.set (d.mac.unverified.idxOf u) { u with run := some k } } }

/-- A wireless receive operation latches, for a frame that passed the MAC's checks (R149, R329, R334). -/
def Dev.latchRx (d : Dev) (t : Nat) (op : CipherOp) : Dev :=
  match d.presented op with
  | none => d
  | some u =>
    let n := (d.sta op.sid).ptk
    let cells := cellsOf op.len
    if keySlots ≤ n || !(d.slot n).used then (d.unverifiedFails t u).noKey t op.unit (d.heldTenant u)
    else if !wlanLenOk (d.slot n).alg op then ((d.unverifiedFails t u).tooLong t).dropped t (d.heldTenant u)
    else if holdCells < d.holdUse + cells then ((((d.unverifiedFails t u).step 0x7016 0 op.unit).inc t 11 4).bump 37 10).dropped t (d.heldTenant u)
    else ((d.takeHeld d.wcx.nextId u).startRun op n cells).bump 37 op.unit

/-! MACsec (R331). -/

/-- MACsec of a port. -/
def Dev.secy (d : Dev) (p : Nat) : MacsecPort := tlook (fun _ => ({} : MacsecPort)) d.wcx.macsec p

/-- The nonce of a PN (PRESUMED, IEEE 802.1AE): SCI and PN, or for XPN the salt XORed with SSCI and PN. -/
def macsecNonce (s : KeySlot) (pn : Nat) : List Byte :=
  if isXpn s.alg then beBytes (s.salt ^^^ (s.ssci * 2 ^ 64 + pn)) 12 else beBytes s.bind 8 ++ beBytes pn 4

/-- A frame with its SecTAG, which carries the SCI, and its ICV: 32 octets more (R331). -/
def protect (s : KeySlot) (f : List Byte) : List Byte :=
  let user := f.drop 12
  let sl := if user.length < 48 then user.length else 0
  let hdr := f.take 12 ++ [0x88, 0xE5, BitVec.ofNat 8 (0x2C + s.keyId), BitVec.ofNat 8 sl] ++ beBytes s.txPn 4 ++ beBytes s.bind 8
  hdr ++ (List.range (user.length + 16)).map (fun i => Config.aead s.alg s.key (macsecNonce s s.txPn) hdr user i)

/-- The transmit SA of a port. -/
def Dev.txSa (d : Dev) (p : Nat) : Option Nat :=
  (d.wcx.slots.find? (fun e => e.2.used && e.2.kind == 4 && e.2.txActive && e.2.port == p)).map (·.1)

/-- A MACsec transmit operation latches, for the first frame of an egress queue that still wants its SecTAG. -/
def Dev.latchSecTx (d : Dev) (t p q : Nat) : Dev :=
  let l := (d.port p).queue q
  match l.find? (fun x => d.wantsSec p x) with
  | none => d
  | some x =>
    let i := l.findIdx (fun x => d.wantsSec p x)
    let out (e : Dev) (code : Nat) : Dev :=
      ((e.modPort p (fun y => { y with queues := tput (fun _ => []) y.queues q (l.eraseIdx i) })).finish x.desc { status := code }).pump p q
    let n := x.octets.length - 12
    match d.txSa p with
    | none => out d 5
    | some k =>
      if !d.slotLive k then out d 5
      else if n < 1 || decide (9168 < n) then out (((d.tooLong t).bump 34 (8 * p + 6)).dropped t x.tenant) 3
      else
        let y : Pkt := { x with octets := protect (d.slot k) x.octets, sec := true }
        (((d.startRun { cls := 3, unit := p, tid := q, len := n } k 0).takePn t k).modPort p (fun z => { z with queues := tput (fun _ => []) z.queues q (l.set i y) })).bump 37 (3 + p)

/-- Receive SCIs of a port, with those staged in this beat. -/
def Dev.rxScisStaged (d : Dev) (p : Nat) : List Nat :=
  let of (s : KeySlot) : Bool := s.used && s.kind == 5 && s.port == p
  ((d.wcx.slots.filter (fun e => of (d.slotView e.1))).map (fun e => (d.slotView e.1).bind) ++
    d.wcx.staged.filterMap (fun s => if of (d.slotView s.slot) then some (d.slotView s.slot).bind else none)).eraseDups

/-- Receive SCIs of a port. -/
def Dev.rxScis (d : Dev) (p : Nat) : List Nat :=
  ((d.wcx.slots.filter (fun e => e.2.used && e.2.kind == 5 && e.2.port == p)).map (fun e => e.2.bind)).eraseDups

/-- The SCI of a received frame (PRESUMED, IEEE 802.1AE): from its SecTAG, from its source address, or that of the port's one receive channel. -/
def Dev.sciOf (d : Dev) (p : Nat) (f : List Byte) : Option Nat :=
  let tci := octAt f 14
  if nbit tci 5 then some (beAt f 20 8)
  else if nbit tci 6 then some (beAt f 6 6 * 65536 + 1)
  else match d.rxScis p with
    | [s] => some s
    | _ => none

/-- Length of a SecTAG. -/
def tagLen (f : List Byte) : Nat := if nbit (octAt f 14) 5 then 16 else 8

/-- The PN of a received frame; XPN recovers the upper half from the lowest acceptable PN (PRESUMED, IEEE 802.1AEbw). -/
def pnOf (s : KeySlot) (low : Nat) : Nat :=
  if isXpn s.alg then
    let base := tlook (fun _ => 0) s.rxPn 0
    (base / 2 ^ 32 + (if nbit base 31 && !nbit low 31 then 1 else 0)) * 2 ^ 32 + low
  else low

/-- A MACsec receive operation latches, for the first frame of the receive buffer that is not bypassed. -/
def Dev.latchSecRx (d : Dev) (t p : Nat) (plain : List (List Byte)) : Dev :=
  match (d.port p).rx.find? (fun e => d.wantsSec p e.2) with
  | none => d
  | some e =>
    let f := e.2.octets
    let i := (d.port p).rx.findIdx (fun e => d.wantsSec p e.2)
    let d1 := (d.modPort p (fun y => { y with rx := y.rx.eraseIdx i })).drainPause p
    if beAt f 12 2 ≠ 0x88E5 then d1.noKey t (3 + p) 0
    else
      let an := octAt f 14 % 4
      match d.sciOf p f with
      | none => d1.noKey t (3 + p) 0
      | some sci =>
        match d.wcx.slots.find? (fun e => e.2.used && e.2.kind == 5 && e.2.port == p && e.2.bind == sci && e.2.keyId == an) with
        | none => d1.noKey t (3 + p) 0
        | some (n, s) =>
          let user := f.length - 12 - tagLen f - 16
          let pn := pnOf s (beAt f 16 4)
          if user < 1 || decide (9168 < user) then (d1.tooLong t).dropped t 0
          else if pn + (d.secy p).window < tlook (fun _ => 0) s.rxPn 0 then ((d1.step 0x7014 0 (3 + p)).bump 37 8).dropped t 0
          else if holdCells < d.holdUse + cellsOf f.length then d
          else (d1.startRun { cls := 4, unit := p, len := f.length, pn := pn, sci := sci, an := an, plain := plain } n (cellsOf f.length) e.2.rxStamp).bump 37 (3 + p)

/-- The scheduler starts an operation on a core, which latches the contents of its slot (R324, R329). -/
def Dev.startOp (d : Dev) (t : Nat) (op : CipherOp) : Dev :=
  match op.cls with
  | 1 => d.latchTx t op
  | 2 => d.latchRx t op
  | 3 => d.latchSecTx t op.unit op.tid
  | 4 => d.latchSecRx t op.unit op.plain
  | _ => d

/-- One of the 12 cores is free (R324): an operation holds its core until its verdict. -/
def Dev.coreFree (d : Dev) : Bool := decide ((d.wcx.runs.filter (fun x => x.verdict.isNone)).length < 12)

/-- The operation that starts next: of the highest class that waits, the one that came first. -/
def nextOp (l : List CipherOp) : Option CipherOp :=
  l.foldl (fun (best : Option CipherOp) x => match best with | none => some x | some b => if x.cls < b.cls then some x else some b) none

/-- Start waiting operations while a core is free; `n` bounds their number. -/
def Dev.serveOps (t : Nat) : Nat → Dev → Dev
  | 0, d => d
  | n + 1, d =>
    if !d.coreFree then d
    else match nextOp d.wcx.waits with
      | none => d
      | some op => Dev.serveOps t n (({ d with wcx := { d.wcx with waits := d.wcx.waits.erase op } } : Dev).startOp t op)

/-- CIPHER_LATCH (R324, R329): an operation comes to the scheduler, and starts when a core is free and its turn has come. -/
def goCipherLatch (t : Nat) (op : CipherOp) (d : Dev) : Dev :=
  Dev.serveOps t (d.wcx.waits.length + 1) { d with wcx := { d.wcx with waits := d.wcx.waits ++ [op] } }

def execCipherLatch (op : CipherOp) (s : State) : Host.Outcome State Fault Refusal := .next (s.act fun t d => goCipherLatch t op d)

/-! Verdicts (R332). -/

/-- The replay counter that an operation meets: the TID's or the management counter of a PTK, the one counter of a MACsec channel. -/
def replayIx (op : CipherOp) : Nat := if op.cls = 4 then 0 else if op.mgmt then 8 else op.tid % 8

/-- The slot as the operation sees it: the contents it latched, with the counters in force while the slot has not been written anew. -/
def Dev.runSlot (d : Dev) (x : CipherRun) : KeySlot := if (d.slot x.slotNo).used && (d.slot x.slotNo).gen == x.slot.gen then d.slot x.slotNo else x.slot

/-- The replay check. -/
def replayOk (s : KeySlot) (op : CipherOp) : Bool :=
  let c := tlook (fun _ => 0) s.rxPn (replayIx op)
  if op.cls = 4 then decide (c ≤ op.pn) else decide (c < op.pn)

/-- Where a counter stands once a PN has been accepted: a PTK's at that PN, a MACsec channel's at the lowest PN still acceptable. -/
def Dev.advanced (d : Dev) (op : CipherOp) (c : Nat) : Nat := if op.cls = 4 then Nat.max c (op.pn + 1 - (d.secy op.unit).window) else op.pn

/-- The frame that an operation took. -/
def Dev.heldOf (d : Dev) (id : Nat) : Option Unverified := d.mac.unverified.find? (fun u => u.run == some id)

/-- A wireless frame has been verified (R27, R129, R332): its MSDUs go to the router, in their place among those held for reordering; a management frame acts as the MAC has it act, or goes to the management ring. -/
def Dev.verified (d : Dev) (t : Nat) (u : Unverified) (plain : List (List Byte)) : Dev :=
  let r := radioOf u.mpdu.bss
  match u.mpdu.kind with
  | .data tid seq _ => (d.dropUnverified u).rxSettled t r u.sid tid (seq % 4096) plain
  | k =>
    let x := { u.mpdu with protected' := false, kind := withBody k (plain.headD []) }
    if u.sid = 4096 then (d.dropUnverified u).rxMgmt t r x.bss 0xFFF x.ended (plain.headD []) else (d.dropUnverified u).rxKnown t r u.sid x

/-- Release the plaintext of operation number `id`: that of a wireless frame, or a MACsec frame to the router from its port. -/
def Dev.release (d : Dev) (t id : Nat) (op : CipherOp) (stamp : Option Nat) : Dev :=
  if op.cls = 4 then
    d.modPort op.unit (fun y => { y with clear := y.clear ++ op.plain.map (fun f =>
      { octets := f, srcKind := 0, src := op.unit, tenant := 0, enq := d.glb.up, sec := true, rxStamp := stamp, tc := rfld (d.flowCtrl op.unit) 26 24 }) })
  else match d.heldOf id with
    | some u => d.verified t u op.plain
    | none => d

/-- An operation's frame failed. -/
def Dev.runFails (d : Dev) (t id : Nat) : Dev :=
  match d.heldOf id with
  | some u => d.unverifiedFails t u
  | none => d

/-- The tenant that an operation's frame belongs to; 0 for a port's. -/
def Dev.runTenant (d : Dev) (id : Nat) : Nat := ((d.heldOf id).map d.heldTenant).getD 0

/-- One operation ends: its buffer is freed, and its plaintext leaves only when the tag and the replay check passed. -/
def Dev.endRun (d : Dev) (t : Nat) (x : CipherRun) (ok : Bool) : Dev :=
  let d1 : Dev := { d with wcx := { d.wcx with runs := d.wcx.runs.filter (fun y => y.id != x.id) } }
  let s := d.runSlot x
  if !ok then ((((d1.runFails t x.id).handoff t .tagFailure x.unitIx).step 0x7013 0 x.unitIx).inc t 11 0).bump 37 7
  else if !replayOk s x.op then ((((d1.runFails t x.id).step 0x7014 0 x.unitIx).inc t 11 1).bump 37 8).dropped t (d.runTenant x.id)
  else
    let d2 := if (d.slot x.slotNo).used && (d.slot x.slotNo).gen == x.slot.gen then
        d1.modSlot x.slotNo (fun y => { y with
          rxPn := tmod (fun _ => 0) y.rxPn (replayIx x.op) (d.advanced x.op), top := Nat.max y.top x.op.pn })
      else d1
    d2.release t x.id x.op x.stamp

/-- Two operations belong to one stream: a station's, or a MACsec receive channel's. -/
def sameStream (a b : CipherOp) : Bool :=
  a.cls == b.cls && (if a.cls = 4 then a.unit == b.unit && a.sci == b.sci else a.sid == b.sid)

/-- End the oldest operations of a stream that have their verdicts; `n` bounds them. -/
def Dev.endStream (t : Nat) (op : CipherOp) : Nat → Dev → Dev
  | 0, d => d
  | n + 1, d =>
    match d.wcx.runs.find? (fun y => sameStream y.op op) with
    | none => d
    | some x =>
      match x.verdict with
      | none => d
      | some ok => Dev.endStream t op n (d.endRun t x ok)

/-- A transmit operation. -/
def txOp (op : CipherOp) : Bool := op.cls == 1 || op.cls == 3

/-- The operation of a core has ended: a transmit one leaves at once, a receive one when those taken before it in its stream have left. -/
def Dev.settleRun (d : Dev) (t : Nat) (x : CipherRun) (tagOk : Bool) : Dev :=
  if txOp x.op then { d with wcx := { d.wcx with runs := d.wcx.runs.filter (fun y => y.id != x.id) } }
  else Dev.endStream t x.op d.wcx.runs.length { d with wcx := { d.wcx with
    runs := d.wcx.runs.map (fun y => if y.id = x.id then { y with verdict := some tagOk } else y) } }

/-- CIPHER_VERDICT (R324, R332): an operation on a core ends, a receive one with what its tag showed; frames of one stream are released in the order in which they were taken. The core starts the next operation that waits. -/
def goCipherVerdict (t id : Nat) (tagOk : Bool) (d : Dev) : Dev :=
  match d.wcx.runs.find? (fun x => x.id == id) with
  | none => d
  | some x => Dev.serveOps t d.wcx.waits.length (d.settleRun t x tagOk)

def execCipherVerdict (id : Nat) (tagOk : Bool) (s : State) : Host.Outcome State Fault Refusal :=
  .next (s.act fun t d => goCipherVerdict t id tagOk d)

/-! Mailbox commands (R343). -/

/-- The slot contents that a WCX_KEY_WRITE asks for. -/
def keyOfReq (who : Master) (req : List Word) : KeySlot :=
  let w1 := wd req 1
  let alg := fld w1 47 44
  let kind := fld w1 51 48
  let rx := (wd req 3).toNat
  let counters : List Nat := if kind = 0 then List.range 9 else [0]
  { used := true, kind := kind, tenant := tenantField who (fld w1 59 56), alg := alg
    key := (wordOctets (req.drop 8)).take (keyOctets alg), keyId := fld w1 42 40, port := fld w1 39 38, bss := fld w1 37 32
    bind := (wd req 4).toNat, txActive := nbit w1.toNat 43, txPn := (wd req 2).toNat
    rxPn := counters.foldl (fun t c => tput (fun _ => 0) t c rx) [], ssci := fld (wd req 5) 63 32
    salt := (wd req 6).toNat * 2 ^ 32 + fld (wd req 7) 63 32, top := if kind = 5 then rx - 1 else rx }

/-- The BAD_PARAM row of WCX_KEY_WRITE. -/
def keyBad (e : KeySlot) (req : List Word) (slot : Nat) : Bool :=
  decide (5 < e.kind) || !algOk e.kind e.alg || !keyIdOk e.kind e.keyId ||
  (e.alg % 2 == 0 && (wd req 10 != 0 || wd req 11 != 0)) || (decide (keySlots ≤ slot) && slot != 0x3FFF) ||
  (!isXpn e.alg && (e.ssci != 0 || e.salt != 0)) || decide (pnMax e.alg < e.txPn) || decide (pnMax e.alg < (wd req 3).toNat) ||
  (decide (e.kind < 4) && e.port != 0) || decide (47 < e.bss) || ((e.kind == 0 || decide (3 < e.kind)) && e.bss != 0) ||
  (e.kind == 0 && (decide (4095 < e.bind) || e.txActive)) || (e.kind == 5 && e.txActive) ||
  (decide (1 ≤ e.kind) && decide (e.kind ≤ 3) && e.bind != 0)

/-- The NOT_PERMITTED row of WCX_KEY_WRITE, from F1 to F15. -/
def Dev.keyDenied (d : Dev) (who : Master) (e : KeySlot) (slot : Nat) : Bool :=
  !who.isF0 && (e.kind == 4 || e.kind == 5 || (e.kind == 0 && (d.sta (e.bind % 4096)).used && d.staTenant (e.bind % 4096) != who.tenant) ||
    (decide (1 ≤ e.kind) && decide (e.kind ≤ 3) && decide (e.bss ≤ 47) && (!(d.bssAt e.bss).running || (d.bssAt e.bss).tenant != who.tenant)) ||
    ((d.slotView slot).used && (d.slotView slot).tenant != who.tenant))

/-- The WRONG_STATE row of WCX_KEY_WRITE. -/
def Dev.keyWrong (d : Dev) (e : KeySlot) (slot : Nat) : Bool :=
  let v := d.slotView slot
  (e.kind == 0 && (!(d.sta e.bind).used || ((d.sta e.bind).ptk != 0x3FFF && (d.sta e.bind).ptk != slot))) ||
  (decide (1 ≤ e.kind) && decide (e.kind ≤ 3) && !(d.bssAt e.bss).running) ||
  (decide (4 ≤ e.kind) && !(d.secy e.port).en) ||
  (slot != 0x3FFF && (!v.used || v.kind != e.kind || v.bind != e.bind || v.bss != e.bss || v.port != e.port))

/-- The NO_RESOURCE row of WCX_KEY_WRITE. -/
def Dev.keyFull (d : Dev) (e : KeySlot) (slot : Nat) : Bool :=
  (slot == 0x3FFF && (d.lowestSlot.isNone || decide (d.pv 0x7010 e.tenant ≤ d.slotsHeld e.tenant))) ||
  (e.kind == 5 && !(d.rxScisStaged e.port).contains e.bind && decide (16 ≤ (d.rxScisStaged e.port).length))

/-- The status of a WCX_KEY_WRITE, none when it is granted. -/
def Dev.keyJudge (d : Dev) (who : Master) (req : List Word) : Option Status :=
  let e := keyOfReq who req
  let slot := fld (wd req 1) 13 0
  firstOf (tenantRows who (fld (wd req 1) 59 56) ++ [
    (d.keyDenied who e slot, .notPermitted), (keyBad e req slot, .badParam), (d.keyWrong e slot, .wrongState), (d.keyFull e slot, .noResource),
    (d.claimed .keySlot (2 * slot + 1) || (e.kind == 0 && d.claimed .keySlot (100000 + e.bind)), .busy)])

/-- WCX_KEY_WRITE (R329, R330, R343). -/
def goWcxKeyWrite (t : Nat) (who : Master) (req : List Word) (d : Dev) : Dev :=
  d.mbx t (fixedSpec 0x700 false 12 [(1, [(63, 60), (55, 52), (31, 14)]), (5, [(31, 0)]), (7, [(31, 0)])]) who req (fun p d =>
    match d.keyJudge who req with
    | some st => d.respond t p st []
    | none =>
      let e := keyOfReq who req
      let slot := fld (wd req 1) 13 0
      let n := if slot = 0x3FFF then d.lowestSlot.getD 0 else slot
      let d1 := (d.stageSlot n (some e) (some p)).claim .keySlot (2 * n + 1)
      if e.kind = 0 then d1.claim .keySlot (100000 + e.bind) else d1)

def execWcxKeyWrite (f : Nat) (req : List Word) (s : State) : Host.Outcome State Fault Refusal :=
  .next (s.act fun t d => goWcxKeyWrite t (.fn f) req d)

/-- WCX_KEY_ERASE (R329, R330, R343). -/
def goWcxKeyErase (t : Nat) (who : Master) (req : List Word) (d : Dev) : Dev :=
  d.mbx t (fixedSpec 0x701 false 2 [(1, [(63, 14)])]) who req (fun p d =>
    let n := fld (wd req 1) 13 0
    let v := d.slotView n
    match firstOf [(decide (keySlots ≤ n), .badParam), (!who.isF0 && v.used && v.tenant != who.tenant, .notPermitted),
      (d.claimed .keySlot (2 * n), .busy), (!v.used, .slotEmpty)] with
    | some st => d.respond t p st []
    | none => (d.stageSlot n none (some p)).claim .keySlot (2 * n))

def execWcxKeyErase (f : Nat) (req : List Word) (s : State) : Host.Outcome State Fault Refusal :=
  .next (s.act fun t d => goWcxKeyErase t (.fn f) req d)

/-- WCX_KEY_QUERY (R343): what the slot holds, but never its key. -/
def goWcxKeyQuery (t : Nat) (who : Master) (req : List Word) (d : Dev) : Dev :=
  d.mbxNow t (fixedSpec 0x702 false 2 [(1, [(63, 14)])]) who req (fun d =>
    let n := fld (wd req 1) 13 0
    let x := d.slot n
    judged d [(decide (keySlots ≤ n), .badParam), (!who.isF0 && x.used && x.tenant != who.tenant, .notPermitted), (!x.used, .slotEmpty)] (fun d =>
      (.ok, [packW [(n, 14, 0), (x.bss, 6, 32), (x.port, 2, 38), (x.keyId, 3, 40), (b2n x.txActive, 1, 43), (x.alg, 4, 44), (x.kind, 4, 48), (x.tenant, 4, 56)],
        BitVec.ofNat 64 x.txPn, BitVec.ofNat 64 x.top, BitVec.ofNat 64 x.bind, packW [(x.commitTick, 48, 0)]], d)))

def execWcxKeyQuery (f : Nat) (req : List Word) (s : State) : Host.Outcome State Fault Refusal :=
  .next (s.act fun t d => goWcxKeyQuery t (.fn f) req d)

/-- Gb/s of a port's RATE. -/
def Dev.rateGb (d : Dev) (p : Nat) : Nat := rateOf (rfld (d.reg (emacAddr p 0)) 25 24) / 10000

/-- Gb/s that the MACsec ports reserve, with port `p` among them. -/
def Dev.macsecLoad (d : Dev) (p : Nat) : Nat := sumN ((List.range 4).map (fun k => if k = p || (d.secy k).en then 2 * d.rateGb k else 0))

/-- The MACsec slots of a port, those in force and those that what is staged in this beat will write. -/
def Dev.secySlots (d : Dev) (p : Nat) : List Nat :=
  ((d.wcx.slots.map (·.1) ++ d.wcx.staged.map (·.slot)).eraseDups).filter (fun n =>
    (d.slotView n).used && decide (4 ≤ (d.slotView n).kind) && (d.slotView n).port == p)

/-- Erase every MACsec slot of a port (R343). -/
def Dev.eraseSecy (d : Dev) (p : Nat) : Dev := (d.secySlots p).foldl (fun x n => x.stageSlot n none none) d

/-- WCX_MACSEC_PORT (R331, R343). -/
def goWcxMacsecPort (t : Nat) (who : Master) (req : List Word) (d : Dev) : Dev :=
  d.mbxNow t (fixedSpec 0x710 true 3 [(1, [(31, 9), (7, 2)])]) who req (fun d =>
    let w := wd req 1
    let p := fld w 1 0
    let en := nbit w.toNat 8
    judged d [((d.reg (emacAddr p 0)).getLsbD 31, .wrongState), (en && decide (400 < d.macsecLoad p), .noResource), (d.claimed .macsec p, .busy)] (fun d =>
      let bypass := ([fld (wd req 2) 63 48, fld (wd req 2) 47 32, fld (wd req 2) 31 16, fld (wd req 2) 15 0]).filter (fun e => e != 0)
      let d1 : Dev := { d with wcx := { d.wcx with macsec := tput (fun _ => ({} : MacsecPort)) d.wcx.macsec p ⟨en, fld w 63 32, bypass⟩ } }
      (.ok, [], (if en then d1 else d1.eraseSecy p).claim .macsec p)))

def execWcxMacsecPort (f : Nat) (req : List Word) (s : State) : Host.Outcome State Fault Refusal :=
  .next (s.act fun t d => goWcxMacsecPort t (.fn f) req d)

end Sys2Proof.Machine
end

