-- ==== Sys2Proof/Machine/Hart.lean ====
section
/-! DEFINITION. A crew core's hart (R344, R346 to R348): its registers and CSRs, its PMP regions, and its traps into M-mode. What these mean beyond the chapter's words is the RISC-V architecture that R344 names (PRESUMED, log 88). -/
namespace Sys2Proof.Machine

/-- A CSR that a write has set; 0 before. -/
def Hart.csrOf (h : Hart) (n : Nat) : Word := tlook (fun _ => (0 : Word)) h.csr n
/-- Set a CSR. -/
def Hart.setCsr (h : Hart) (n : Nat) (v : Word) : Hart := { h with csr := tput (fun _ => (0 : Word)) h.csr n v }
/-- An integer register; x0 is hard-wired to 0. -/
def Hart.xOf (h : Hart) (n : Nat) : Word := if n = 0 then 0 else tlook (fun _ => (0 : Word)) h.x n
/-- Write an integer register; x0 discards it. -/
def Hart.setX (h : Hart) (n : Nat) (v : Word) : Hart := if n = 0 || 32 ≤ n then h else { h with x := tput (fun _ => (0 : Word)) h.x n v }
/-- Write a floating-point register. -/
def Hart.setF (h : Hart) (n : Nat) (v : Word) : Hart := if 32 ≤ n then h else { h with f := tput (fun _ => (0 : Word)) h.f n v }

/-- A trap into M-mode: mepc, mcause and mtval, the interrupt enable and the mode in mstatus, and the pc at mtvec. -/
def Hart.trap (h : Hart) (cause tval : Nat) : Hart :=
  let st := (h.csrOf 0x300).toNat
  let st1 := putBits (putBits (putBits st 7 7 (nbits st 3 3)) 3 3 0) 12 11 (if h.user then 0 else 3)
  let h1 := (((h.setCsr 0x300 (BitVec.ofNat 64 st1)).setCsr 0x341 h.pc).setCsr 0x342 (BitVec.ofNat 64 cause)).setCsr 0x343 (BitVec.ofNat 64 tval)
  { h1 with pc := h.csrOf 0x305 &&& ~~~3, user := false }

/-- hartid is c for core Cc (R344). -/
def hartid (c : Nat) : Word := BitVec.ofNat 64 c
/-- The time CSR is show time in ns, the same for every core (R344). -/
def timeCsr (t : Nat) : Word := BitVec.ofNat 64 t

/-- mip (R348). -/
def Core.mip (k : Core) : Word := packW [(b2n k.mipDispatch, 1, 16), (b2n k.mipMismatch, 1, 17)]

/-- CSRs that hold what is written to them, with the bits that do. -/
def csrMask : Nat → Option Word
  | 0x003 => some 0xFF
  | 0x300 => some 0x1888
  | 0x304 => some 0x30000
  | 0x305 => some (~~~2)
  | 0x340 => some (~~~0)
  | 0x341 => some (~~~1)
  | 0x342 => some (~~~0)
  | 0x343 => some (~~~0)
  | n => if n = 0x3A0 || n = 0x3A2 then some 0x9F9F9F9F9F9F9F9F else if 0x3B0 ≤ n && decide (n < 0x3C0) then some 0x003FFFFFFFFFFFFF else none

/-- A CSR that the hart may not touch in its mode, or not write. -/
def Hart.csrDenied (h : Hart) (n : Nat) (write : Bool) : Bool := (h.user && decide (n / 256 % 4 = 3)) || (write && decide (0xC00 ≤ n))

/-- What a CSR of core `c` reads as; none for one of which the chapter says nothing. -/
def Core.csrRead (k : Core) (t c n : Nat) : Option Word :=
  match n with
  | 0xC01 => some (timeCsr t)
  | 0xF14 => some (hartid c)
  | 0x301 => some 0x800000000010112D
  | 0x344 => some k.mip
  | 0x001 => some (k.hart.csrOf 3 &&& 0x1F)
  | 0x002 => some ((k.hart.csrOf 3 >>> 5) &&& 7)
  | _ => (csrMask n).map (fun _ => k.hart.csrOf n)

/-! PMP (R344, R347): 16 regions with a granularity of 4 KiB. -/

/-- Configuration octet of region `i`. -/
def Hart.pmpCfg (h : Hart) (i : Nat) : Nat := nbits (h.csrOf (0x3A0 + 2 * (i / 8))).toNat (8 * (i % 8) + 7) (8 * (i % 8))
/-- Address of region `i`, in units of 4 octets. -/
def Hart.pmpAddr (h : Hart) (i : Nat) : Nat := (h.csrOf (0x3B0 + i)).toNat

/-- First address of region `i` and the one after its last; none for a region that is off. -/
def Hart.pmpRange (h : Hart) (i : Nat) : Option (Nat × Nat) :=
  let top (j : Nat) := h.pmpAddr j / 1024 * 4096
  match nbits (h.pmpCfg i) 4 3 with
  | 1 => some (if i = 0 then 0 else top (i - 1), top i)
  | 3 =>
    let a := h.pmpAddr i ||| 0x1FF
    let m := a ^^^ (a + 1)
    some ((a - (a &&& m)) * 4, (a - (a &&& m)) * 4 + (m + 1) * 4)
  | _ => none

/-- The PMP lets an access of `n` octets pass; `bit` is 0 for a read, 1 for a write, 2 for an instruction fetch. The lowest region that any of its octets meets decides, and must hold them all; M-mode is held by a locked region only. -/
def Hart.pmpOk (h : Hart) (a n bit : Nat) : Bool :=
  let meets (i : Nat) : Bool := match h.pmpRange i with | some (lo, hi) => decide (lo < a + n) && decide (a < hi) | none => false
  match (List.range 16).find? meets with
  | none => !h.user
  | some i => (!h.user && !nbit (h.pmpCfg i) 7) ||
    ((match h.pmpRange i with | some (lo, hi) => decide (lo ≤ a) && decide (a + n ≤ hi) | none => false) && nbit (h.pmpCfg i) bit)

/-- A write of a CSR: the bits of a locked region stay. -/
def Hart.csrWrite (h : Hart) (n : Nat) (v : Word) : Hart :=
  match n with
  | 0x001 => h.setCsr 3 (packW [((h.csrOf 3).toNat / 32, 3, 5), (v.toNat, 5, 0)])
  | 0x002 => h.setCsr 3 (packW [(v.toNat, 3, 5), ((h.csrOf 3).toNat, 5, 0)])
  | _ => match csrMask n with
    | none => h
    | some m =>
      if 0x3B0 ≤ n && nbit (h.pmpCfg (n - 0x3B0)) 7 then h
      else if n = 0x3A0 || n = 0x3A2 then
        h.setCsr n ((List.range 8).foldl (fun w j =>
          if nbit (h.pmpCfg (8 * ((n - 0x3A0) / 2) + j)) 7 then w
          else BitVec.ofNat 64 (putBits w.toNat (8 * j + 7) (8 * j) (nbits (v &&& m).toNat (8 * j + 7) (8 * j)))) (h.csrOf n))
      else h.setCsr n (v &&& m)

/-- The regions that a task's manifest grants (R347), as Gulmet sets them before it enters the task. -/
def Hart.grant (h : Hart) (k : Nat) : Hart :=
  let cfg (j : Nat) : Nat × Nat × Nat := ((Config.pmpCfg k j).toNat, 8, 8 * (j % 8))
  let h1 := (List.range 16).foldl (fun (e : Hart) i => e.setCsr (0x3B0 + i) ((Config.pmpAddr k i).setWidth 64)) h
  (h1.setCsr 0x3A0 (packW ((List.range 8).map cfg))).setCsr 0x3A2 (packW ((List.range' 8 8).map cfg))

/-- Gulmet's runtime enters a task (R347, R349, R354): at ENTRY with the context number in a0 and ARG in a1, or from what it saved; in U-mode where USER is 1. -/
def Hart.enter (h : Hart) (k : Nat) (user : Bool) (resume : Option Hart) (entry arg : Word) : Hart :=
  let h1 : Hart := match resume with
    | some s => { h with x := s.x, f := s.f, pc := s.pc }
    | none => { (h.setX 10 (BitVec.ofNat 64 k)).setX 11 arg with pc := entry }
  let h2 : Hart := { h1 with user := user, resv := none }
  if user then h2.grant k else h2

/-! Cores. -/

/-- Change a core's hart. -/
def Dev.modHart (d : Dev) (c : Nat) (f : Hart → Hart) : Dev := d.modCore c (fun k => { k with hart := f k.hart })

/-- An exception of the core that a master is; none of another master. -/
def Dev.coreFault (d : Dev) (m : Master) (cause tval : Nat) : Dev :=
  match m with
  | .crew c => d.modHart c (fun h => h.trap cause tval)
  | _ => d

/-- The PMP lets a master's access pass; only a crew core has one. -/
def Dev.pmpOk (d : Dev) (m : Master) (a n bit : Nat) : Bool :=
  match m with
  | .crew c => (d.core c).hart.pmpOk a n bit
  | _ => true

end Sys2Proof.Machine
end

