-- ==== Sys2Proof/Machine/Dailies.lean ====
section
/-! DEFINITION. The dailies reader (R444 to R453): snapshots, filters, live reads and the two commands. -/
namespace Sys2Proof.Machine

/-- A place of the ring that holds no snapshot. -/
def snapReset : Nat → Snap := fun _ => {}
/-- What the ring's place for tick `n` holds (R449). -/
def Dev.snapAt (d : Dev) (n : Nat) : Snap := tlook snapReset d.dly.ring (n % 16384)
/-- The snapshot of tick `n`, if the ring holds it (R450). -/
def Dev.snapOf (d : Dev) (n : Nat) : Option Snap := let x := d.snapAt n; if x.held && x.tick == n then some x else none

/-- The values written to the filter registers, in the order of `Dly.filt`. -/
def Dev.filterWritten (d : Dev) (k i : Nat) : Reg := d.reg (0x1200100 + 0x10 * k + 4 * i)

/-- Filter `k` changes at this tick boundary (R448). -/
def Dev.filterChanges (d : Dev) (k : Nat) : Bool := (List.range 3).any (fun i => tlook (fun _ => 0) d.dly.filt (3 * k + i) != d.filterWritten k i)

/-- What was written to the filters takes effect (R448). -/
def Dev.applyFilters (d : Dev) : Dev :=
  let ks := (List.range 16).filter d.filterChanges
  let filt := ks.foldl (fun t k => (List.range 3).foldl (fun t i => tput (fun _ => 0) t (3 * k + i) (d.filterWritten k i)) t) d.dly.filt
  let mask := ks.foldl (fun m k => m ||| 2 ^ k) d.dly.changed
  ({ d with dly := { d.dly with filt := filt, changed := mask } } : Dev).bump 44 6 ks.length

/-- The snapshot of the tick that ends at `t`, if one is taken (R449, R450); once it is taken, only its lateness is news. -/
def Dev.takeSnap (d : Dev) (t : Nat) (late : Bool) : Dev :=
  if t < 1024000 || decide (d.gaf.state ≠ .show') then d
  else if d.mem.hbmFailed then (d.inc t 19 1).bump 44 2
  else
    let n := (tickOf t + 2 ^ 48 - 1) % 2 ^ 48
    if d.dly.newest = some n then (if late then (d.inc t 19 0).bump 44 1 else d)
    else
    let gap := decide (d.dly.newest ≠ some ((n + 2 ^ 48 - 1) % 2 ^ 48))
    let x : Snap := {
      held := true, tick := n, boot := d.mgr.bootCount, showTime := t, filterChanged := d.dly.changed, step := d.dly.stepped, gap := gap, counts := d.counts }
    let d1 := { d with
      dly := { d.dly with ring := tput snapReset d.dly.ring (n % 16384) x, newest := some n, stepped := false, changed := 0 } }.bump 44 0 |>.hbmOctets 5 16384
    let d2 := if gap then d1.bump 44 7 else d1
    if late then (d2.inc t 19 0).bump 44 1 else d2

/-- SNAPSHOT (R448, R449): the boundary that begins a tick. -/
def goSnapshot (t : Nat) (late : Bool) (d : Dev) : Dev := (d.takeSnap t late).applyFilters

def execSnapshot (late : Bool) (s : State) : Host.Outcome State Fault Refusal := .next (s.act fun t d => goSnapshot t late d)

/-- Bank and slot that a master has selected: a virtual function reads its own bank (R452). -/
def Dev.peeked (d : Dev) (m : Master) : Nat × Nat :=
  let sel := tlook (fun _ => (0 : Reg)) d.dly.peekSel m.code
  (if m.isF0 then rfld sel 10 5 else 2 + m.code, rfld sel 4 0)

/-- PEEK_READ (R452): a read of DLY_PEEK_LO. -/
def goPeekRead (m : Master) (d : Dev) : Dev :=
  if d.stopped m then d
  else
  let v := d.counter (d.peeked m).1 (d.peeked m).2
  (({ d with dly := { d.dly with peekHi := tput (fun _ => (0 : Reg)) d.dly.peekHi m.code (BitVec.ofNat 32 (v / 2 ^ 32)) } } : Dev).bump 44 3).reads m (BitVec.ofNat 32 v)

def execPeekRead (m : Master) (s : State) : Host.Outcome State Fault Refusal := .next (s.act fun _ d => goPeekRead m d)

/-- Header words 0 to 2 of a snapshot (R450). -/
def Snap.header (x : Snap) : List Word :=
  [packW [(x.tick, 48, 0), (x.boot, 16, 48)], BitVec.ofNat 64 x.showTime, packW [(b2n x.gap, 1, 0), (b2n x.step, 1, 1), (x.filterChanged, 16, 16)]]

/-- A counter of a snapshot. -/
def Snap.counter (x : Snap) (bank slot : Nat) : Nat := tlook (fun _ => 0) x.counts (bank * 32 + slot)

/-- The tick a request names: 0 is the newest complete snapshot. -/
def Dev.namedTick (d : Dev) (n : Nat) : Option Nat := if n = 0 then d.dly.newest else some n

/-- A function other than F0 asks for what is not its own. -/
def notOwn (who : Master) (own : Nat → Bool) : Bool :=
  match who with
  | .fn f => f != 0 && !own f
  | _ => false

/-- DLY_SNAP_READ (R453). -/
def goDlySnapRead (t : Nat) (who : Master) (req : List Word) (d : Dev) : Dev :=
  d.mbxNow t (fixedSpec 0xA30 false 2 [(1, [(63, 54)])]) who req (fun d =>
    let bank := fld (wd req 1) 53 48
    judged d [(notOwn who (fun f => bank == 2 + f), .notPermitted), (bank == 0 || decide (45 < bank), .badParam)] (fun d =>
      match (d.namedTick (fld (wd req 1) 47 0)).bind d.snapOf with
      | none => (.wrongState, [], d)
      | some x => (.ok, x.header ++ (List.range 32).map (fun i => BitVec.ofNat 64 (x.counter bank i)), d.bump 44 5)))

def execDlySnapRead (f : Nat) (req : List Word) (s : State) : Host.Outcome State Fault Refusal :=
  .next (s.act fun t d => goDlySnapRead t (.fn f) req d)

/-- Bank and slot of a source (R451); `out` is DIR. -/
def rateSource (kind ix : Nat) (out : Bool) : Nat × Nat :=
  match kind with
  | 0 => (34, 8 * ix + b2n out)
  | 1 => (21 + ix, if out then 25 else 26)
  | 2 => (2 + ix, if out then 11 else 9)
  | _ => (41, ix)

/-- Highest INDEX of a kind. -/
def rateMax (kind : Nat) : Nat := match kind with | 0 => 3 | 1 => 2 | _ => 15

/-- The window of `w` ticks that ends with `e` is valid (R451). -/
def Dev.windowOk (d : Dev) (e w kind ix : Nat) : Bool :=
  decide (w ≤ e) && (d.snapOf (e - w)).isSome &&
  (List.range w).all (fun i => match d.snapOf (e - i) with
    | none => false
    | some x => !x.gap && !x.step && !(kind == 3 && nbit x.filterChanged ix))

/-- Octets of a window, and kb/s (R451). -/
def Dev.windowOctets (d : Dev) (e w kind ix : Nat) (out : Bool) : Nat :=
  let src := rateSource kind ix out
  ((d.snapAt e).counter src.1 src.2 + 2 ^ 48 - (d.snapAt (e - w)).counter src.1 src.2) % 2 ^ 48
def rateKbs (octets w : Nat) : Nat := octets * 125 / (w * 16)

/-- DLY_RATE (R451, R453). -/
def goDlyRate (t : Nat) (who : Master) (req : List Word) (d : Dev) : Dev :=
  d.mbxNow t (fixedSpec 0xA31 false 3 [(1, [(63, 48)]), (2, [(63, 21), (5, 5)])]) who req (fun d =>
    let q := wd req 2
    let w := fld q 20 8
    let kind := fld q 7 6
    let ix := fld q 3 0
    judged d [(notOwn who (fun f => kind == 2 && ix == f), .notPermitted), (w == 0 || decide (4096 < w) || decide (rateMax kind < ix), .badParam)] (fun d =>
      match d.namedTick (fld (wd req 1) 47 0) with
      | none => (.wrongState, [], d)
      | some e =>
        if !d.windowOk e w kind ix then (.wrongState, [], d)
        else
          let n := d.windowOctets e w kind ix (nbit q.toNat 4)
          (.ok, [BitVec.ofNat 64 e, BitVec.ofNat 64 n, packW [(rateKbs n w, 40, 0)]], d.bump 44 4)))

def execDlyRate (f : Nat) (req : List Word) (s : State) : Host.Outcome State Fault Refusal :=
  .next (s.act fun t d => goDlyRate t (.fn f) req d)

/-- DLY_LAST_TICK, and DLY_PEEK_SEL and DLY_PEEK_HI of a master. -/
def Dev.lastTickReg (d : Dev) : Reg := match d.dly.newest with | some n => BitVec.ofNat 32 n | none => 0
def Dev.peekSelReg (d : Dev) (m : Master) : Reg := tlook (fun _ => 0) d.dly.peekSel m.code
def Dev.peekHiReg (d : Dev) (m : Master) : Reg := tlook (fun _ => 0) d.dly.peekHi m.code

end Sys2Proof.Machine
end

