-- ==== Sys2Proof/Machine/RouteTables.lean ====
section
/-! DEFINITION. The router's tables (R288 to R293, R297 to R300): keys, entries, changes and their commit, ageing, and the mailbox commands. -/
namespace Sys2Proof.Machine

/-! Tables (R298). -/

/-- Entry words of a table. -/
def rteWords : Nat → Nat
  | 0 => 8 | 2 => 3 | 3 => 2 | 4 => 5 | 5 => 6 | 8 => 3 | _ => 1
/-- Greatest index of an indexed table; 0 for a keyed one. -/
def rteMaxIndex : Nat → Nat
  | 3 => 65535 | 4 => 4095 | 5 => 65535 | 6 => 16383 | 8 => 15 | 9 => 15 | _ => 0
/-- Capacity of a table. -/
def rteCapacity : Nat → Nat
  | 0 => 5242880 | 1 => 1048576 | 2 => 524288 | 3 => 65536 | 4 => 4096 | 5 => 65536 | 6 => 16384 | 7 => 4096 | _ => 256
/-- Tables found by key. -/
def rteKeyed (tb : Nat) : Bool := decide (tb < 3) || tb == 7
/-- Tables in which a key or an index belongs to one tenant; the others have one entry for all. -/
def rtePerTenant (tb : Nat) : Bool := decide (tb < 3) || tb == 8 || tb == 9

/-- The key words of an entry (R289, R298). -/
def rteKey (tb : Nat) (ws : List Word) : List Word :=
  match tb with
  | 0 => [wd ws 0 &&& 0x43FFFFFFFFFF0000, wd ws 1, wd ws 2, wd ws 3, wd ws 4]
  | 1 => [wd ws 0 &&& 0xFFFFFFFFFC000000]
  | 2 => [wd ws 0, wd ws 1, wd ws 2 &&& 0xFF00000000000000]
  | 7 => [wd ws 0 &&& 0xFFFFFF]
  | _ => []

/-- An entry is the one that a table, tenant, index and key name. -/
def RteEnt.is (e : RteEnt) (tb ten ix : Nat) (key : List Word) : Bool :=
  e.table == tb && (!rtePerTenant tb || e.tenant == ten) && (if rteKeyed tb then rteKey tb e.words == key else e.index == ix)

/-- The entry that is named, if there is one. -/
def Dev.rteFind (d : Dev) (tb ten ix : Nat) (key : List Word) : Option RteEnt := d.rte.ents.find? (fun e => e.is tb ten ix key)

/-- The entry of an indexed table. -/
def Dev.rteAt (d : Dev) (tb ten ix : Nat) : Option RteEnt := d.rteFind tb ten ix []

/-- The entries that the removals staged in the beat leave: what a write of the same beat finds (R34, R297). -/
def Dev.rteKept (d : Dev) : List RteEnt :=
  d.rte.ents.filter (fun e => !d.rte.staged.any (fun c => c.entry.isNone && e.is c.table c.tenant c.index c.key))

/-- Entries of one tenant in a table, with those staged for insertion. -/
def Dev.rteHeld (d : Dev) (tb : Nat) (ten : Option Nat) : Nat :=
  let l := d.rteKept
  (l.filter (fun e => e.table == tb && (match ten with | some k => e.tenant == k | none => true))).length +
  (d.rte.staged.filter (fun c => c.table == tb && c.entry.isSome && (match ten with | some k => c.tenant == k | none => true) &&
    !l.any (fun e => e.is tb c.tenant c.index c.key))).length

/-! Places in the flow table (R288): 655,360 buckets of 8 entries, two candidate buckets for each key. -/

/-- The two candidate buckets of a key. -/
def flowBuckets (ten : Nat) (key : List Word) : Nat × Nat :=
  ((Config.bucketHash 0 ten key).toNat % 655360, (Config.bucketHash 1 ten key).toNat % 655360)

/-- The lowest free place of a bucket. -/
def freeIn (l : List (Nat × List Word × Nat)) (b : Nat) : Option Nat :=
  ((List.range 8).map (fun i => 8 * b + i)).find? (fun p => !l.any (fun x => x.2.2 == p))

/-- The other candidate bucket of an entry that has a place. -/
def otherBucket (x : Nat × List Word × Nat) : Nat :=
  let c := flowBuckets x.1 x.2.1
  if x.2.2 / 8 = c.1 then c.2 else c.1

/-- A place in bucket `b`, for which at most `n` entries move to their other buckets; `pick` chooses which one each time. -/
def makeRoom (pick : Nat) : Nat → List (Nat × List Word × Nat) → Nat → Option (List (Nat × List Word × Nat) × Nat)
  | 0, l, b => (freeIn l b).map (fun p => (l, p))
  | n + 1, l, b =>
    match freeIn l b with
    | some p => some (l, p)
    | none => match l.find? (fun x => x.2.2 == 8 * b + pick / 8 ^ n % 8) with
      | none => none
      | some x => match makeRoom pick n l (otherBucket x) with
        | none => none
        | some r => if r.1.contains x then some (r.1.map (fun y => if y == x then (x.1, x.2.1, r.2) else y), x.2.2) else none

/-- The places once an entry with a key is inserted: in a candidate bucket with room, else after moving up to 8 entries; none when it finds no place. -/
def placeFlow (l : List (Nat × List Word × Nat)) (ten : Nat) (key : List Word) : Option (List (Nat × List Word × Nat)) :=
  let c := flowBuckets ten key
  match freeIn l c.1, freeIn l c.2 with
  | some p, _ => some ((ten, key, p) :: l)
  | none, some p => some ((ten, key, p) :: l)
  | none, none => (makeRoom (Config.bucketHash 2 ten key).toNat 8 l c.1).map (fun r => (ten, key, r.2) :: r.1)

/-- The places as they are once one change is made. -/
def laidBy (l : List (Nat × List Word × Nat)) (c : RteChange) : List (Nat × List Word × Nat) :=
  if c.table ≠ 0 then l
  else if c.entry.isNone then l.filter (fun x => !(x.1 == c.tenant && x.2.1 == c.key))
  else if l.any (fun x => x.1 == c.tenant && x.2.1 == c.key) then l
  else (placeFlow l c.tenant c.key).getD l

/-- The places that the removals staged in the beat leave, with those that its insertions take where `all` is set. -/
def Dev.rteLaid (d : Dev) (all : Bool) : List (Nat × List Word × Nat) :=
  let l := (d.rte.staged.filter (fun c => c.entry.isNone)).foldl laidBy d.rte.places
  if all then (d.rte.staged.filter (fun c => c.entry.isSome)).foldl laidBy l else l

/-! Changes (R297). -/

/-- A written entry with the LAST_HIT that the device keeps: that of the entry it replaces, or the present tick. -/
def lastHit (tb tick : Nat) (old : Option RteEnt) (ws : List Word) : List Word :=
  if tb ≠ 0 then ws
  else ws.take 7 ++ [packW [(match old with | some e => fld (wd e.words 7) 47 0 | none => tick, 48, 0)]]

/-- One change of a table becomes visible; the hot cache and the places of the flow table change with it. -/
def Dev.rteApply (t : Nat) (d0 : Dev) (c : RteChange) : Dev :=
  let d : Dev := { d0 with rte := { d0.rte with places := laidBy d0.rte.places c } }
  let old := d.rteFind c.table c.tenant c.index c.key
  let rest := d.rte.ents.filter (fun e => !e.is c.table c.tenant c.index c.key)
  match c.entry with
  | none => { d with rte := { d.rte with ents := rest, hot := if c.table = 0 then d.rte.hot.filter (fun h => !(h.1 == c.tenant && h.2 == c.key)) else d.rte.hot } }
  | some ws => { d with rte := { d.rte with ents := rest ++ [⟨c.table, c.tenant, c.index, lastHit c.table (tickOf t) old ws⟩] } }

/-- The changes staged in a beat become visible at the boundary that ends it: removals first, and then the writes (R34, R297). -/
def Dev.rteCommit (d : Dev) (t : Nat) : Dev :=
  let cs := d.rte.staged
  let d1 : Dev := { d with rte := { d.rte with staged := [] } }
  (cs.filter (fun c => c.entry.isSome)).foldl (Dev.rteApply t) ((cs.filter (fun c => c.entry.isNone)).foldl (Dev.rteApply t) d1)

/-- Stage a change. -/
def Dev.rteStage (d : Dev) (c : RteChange) : Dev := { d with rte := { d.rte with staged := d.rte.staged ++ [c] } }

/-- A flow entry has been idle for longer than its tenant's FLOW_IDLE_TICKS (R291). -/
def Dev.flowIdle (d : Dev) (tick : Nat) (e : RteEnt) : Bool :=
  let limit := d.pv 0x6101 e.tenant
  e.table == 0 && limit != 0 && decide (limit < (tick + 2 ^ 48 - fld (wd e.words 7) 47 0) % 2 ^ 48)

/-- AGER (R291, R297): idle flow entries are removed. -/
def goAger (t : Nat) (d : Dev) : Dev :=
  (d.rte.ents.filter (d.flowIdle (tickOf t))).foldl (fun x e => (x.rteStage ⟨0, e.tenant, e.index, rteKey 0 e.words, none⟩).bump 35 29) d

def execAger (s : State) : Host.Outcome State Fault Refusal := .next (s.act fun t d => goAger t d)

/-! Entries of each table. -/

/-- Bits of an address beyond a prefix length are 0; the address has `w` bits. -/
def prefixClean (addr len w : Nat) : Bool := decide (len ≤ w) && addr % 2 ^ (w - len) == 0

/-- An address in two words; an IPv4 address sits in bits 31:0 of the second (R289). -/
def addrOf (a b : Word) : Nat := a.toNat * 2 ^ 64 + b.toNat

/-- An address fits its family. -/
def addrFits (v6 : Bool) (a b : Word) : Bool := v6 || decide (addrOf a b < 2 ^ 32)

/-- Every field of an entry is in range, and every reserved bit is 0 (R289, R293, R298, R299). -/
def rteEntryOk (tb : Nat) (ws : List Word) : Bool :=
  let w (i : Nat) := wd ws i
  match tb with
  | 0 =>
    let v6 := nbit (w 0).toNat 62
    let ns := nbit (w 5).toNat 44
    let nd := nbit (w 5).toNat 43
    !resv (w 0) [(63, 63), (61, 58), (15, 0)] && !resv (w 5) [(23, 0)] && !resv (w 6) [(15, 0)] && !resv (w 7) [(63, 48)] &&
    decide (fld (w 5) 63 61 < 3) && !(ns && nd) && !(v6 && (ns || nd)) && addrFits v6 (w 1) (w 2) && addrFits v6 (w 3) (w 4)
  | 1 => !resv (w 0) [(23, 16)] && prefixClean (fld (w 0) 63 32) (fld (w 0) 31 26) 32
  | 2 => !resv (w 2) [(55, 25), (23, 16)] && prefixClean (addrOf (w 0) (w 1)) (fld (w 2) 63 56) 128
  | 3 =>
    let kind := fld (w 0) 59 58
    let target := fld (w 0) 57 46
    let mtu := fld (w 0) 19 6
    let tun := fld (w 1) 63 48
    !resv (w 0) [(63, 60), (5, 0)] && fld (w 0) 21 20 != 3 && decide (68 ≤ mtu) && decide (mtu ≤ 9216) &&
    (decide (tun < 4096) || tun == 0xFFFF) && (kind != 0 || decide (target < 4)) && (kind != 2 || decide (target < 128))
  | 4 =>
    let v6 := nbit (w 0).toNat 62
    !resv (w 0) [(36, 24)] && addrFits v6 (w 1) (w 2) && addrFits v6 (w 3) (w 4)
  | 5 =>
    let v6 := nbit (w 0).toNat 61
    let n := if v6 then 128 else 32
    !resv (w 0) [(63, 62), (20, 0)] && addrFits v6 (w 1) (w 2) && addrFits v6 (w 3) (w 4) &&
    prefixClean (addrOf (w 1) (w 2)) (fld (w 0) 36 29) n && prefixClean (addrOf (w 3) (w 4)) (fld (w 0) 28 21) n
  | 6 => !resv (w 0) [(63, 1)]
  | 7 => !resv (w 0) [(63, 24)]
  | 8 => !resv (w 0) [(63, 3)] && addrFits (nbit (w 0).toNat 2) (w 1) (w 2)
  | _ => true

/-- The non-key words of an erase are 0 (R299). -/
def eraseClean (tb : Nat) (ws : List Word) : Bool :=
  match tb with
  | 0 => (ws.drop 5).all (fun x => x == 0)
  | 1 => true
  | 2 => true
  | 7 => true
  | _ => ws.all (fun x => x == 0)

/-- The key of an erase or a read is in range. -/
def keyInRange (tb : Nat) (ws : List Word) : Bool :=
  match tb with
  | 0 => addrFits (nbit (wd ws 0).toNat 62) (wd ws 1) (wd ws 2) && addrFits (nbit (wd ws 0).toNat 62) (wd ws 3) (wd ws 4) && !resv (wd ws 0) [(63, 63), (61, 58), (15, 0)]
  | 1 => prefixClean (fld (wd ws 0) 63 32) (fld (wd ws 0) 31 26) 32 && !resv (wd ws 0) [(23, 16)]
  | 2 => prefixClean (addrOf (wd ws 0) (wd ws 1)) (fld (wd ws 2) 63 56) 128 && !resv (wd ws 2) [(55, 25), (23, 16)]
  | 7 => !resv (wd ws 0) [(63, 24)]
  | _ => true

/-! Mailbox commands (R299, R300). -/

/-- What a request names: table, tenant, index, erase, entry words and key. -/
structure RteReq where
  tb : Nat
  ten : Nat
  ix : Nat
  erase : Bool
  ws : List Word
  key : List Word

/-- Read a request. -/
def rteReq (who : Master) (req : List Word) : RteReq :=
  let w := wd req 1
  let tb := fld w 63 60
  let ws := (List.range (rteWords tb)).map (fun i => wd req (2 + i))
  { tb := tb, ten := tenantField who (fld w 51 48), ix := fld w 31 0, erase := nbit w.toNat 56, ws := ws, key := rteKey tb ws }

/-- An object of another tenant that an index names among entries. -/
def foreign (l : List RteEnt) (who : Master) (tb ix : Nat) : Bool :=
  match l.find? (fun e => e.is tb 0 ix []) with
  | some e => e.tenant != who.tenant
  | none => false

/-- An entry refers to another tenant's next hop or tunnel. -/
def refersAbroad (l : List RteEnt) (who : Master) (q : RteReq) : Bool :=
  match q.tb with
  | 0 => foreign l who 3 (fld (wd q.ws 5) 60 45)
  | 1 => foreign l who 3 (fld (wd q.ws 0) 15 0)
  | 2 => foreign l who 3 (fld (wd q.ws 2) 15 0)
  | 3 => fld (wd q.ws 1) 63 48 != 0xFFFF && foreign l who 4 (fld (wd q.ws 1) 63 48)
  | 4 => foreign l who 3 (fld (wd q.ws 0) 52 37)
  | _ => false

/-- The NOT_PERMITTED row of R299; the zero words of an erase refer to nothing. A write is judged by what the removals of its beat leave (R34), an erase and a read by the tables as they stand. -/
def Dev.rteDenied (d : Dev) (who : Master) (q : RteReq) (examine : Bool) : Bool :=
  let l := if examine && !q.erase then d.rteKept else d.rte.ents
  !who.isF0 && ((decide (5 ≤ q.tb) && decide (q.tb ≤ 9)) || ((q.tb == 3 || q.tb == 4) && foreign l who q.tb q.ix) || (examine && !q.erase && refersAbroad l who q))

/-- The BAD_PARAM row of R299; `examine` is false for a read, of which only the key words are examined. -/
def rteBad (q : RteReq) (examine : Bool) : Bool :=
  decide (9 < q.tb) || decide (rteMaxIndex q.tb < q.ix) || !keyInRange q.tb q.ws ||
  (examine && (if q.erase then !eraseClean q.tb q.ws else !rteEntryOk q.tb q.ws))

/-- The number under which a change of one entry is claimed in a beat (R297): a removal and a write do not contend. -/
def rteClaimNo (q : RteReq) : Nat :=
  2 * (q.key.foldl (fun n w => n * 2 ^ 64 + w.toNat) ((q.tb * 16 + (if rtePerTenant q.tb then q.ten else 0)) * 2 ^ 32 + q.ix + 1)) + b2n q.erase

/-- The tenant's quota of a table, if it has one. -/
def Dev.rteQuota (d : Dev) (tb ten : Nat) : Option Nat :=
  match tb with
  | 0 => some (d.pv 0x6102 ten)
  | 1 => some (d.pv 0x6103 ten)
  | 2 => some (d.pv 0x6104 ten)
  | _ => none

/-- A request inserts an entry that the table does not hold. -/
def Dev.rteInserts (d : Dev) (q : RteReq) : Bool := !q.erase && !d.rteKept.any (fun e => e.is q.tb q.ten q.ix q.key)

/-- The table or the tenant's quota is full (R298, R299). -/
def Dev.rteOver (d : Dev) (q : RteReq) : Bool :=
  decide (rteCapacity q.tb ≤ d.rteHeld q.tb none) || (match d.rteQuota q.tb q.ten with | some n => decide (n ≤ d.rteHeld q.tb (some q.ten)) | none => false)

/-- A flow insertion finds no place (R288): beside the insertions of its beat, or without them. -/
def Dev.noPlace (d : Dev) (q : RteReq) (all : Bool := true) : Bool :=
  q.tb == 0 && (placeFlow (d.rteLaid all) q.ten q.key).isNone

/-- A flow insertion has lost its last place to an insertion of the same beat (R297). -/
def Dev.rteLost (d : Dev) (q : RteReq) : Bool := d.rteInserts q && !d.rteOver q && d.noPlace q && !d.noPlace q false

/-- An insertion finds no room (R288, R298, R299) and has lost none in the same beat. -/
def Dev.rteFull (d : Dev) (q : RteReq) : Bool := d.rteInserts q && (d.rteOver q || d.noPlace q) && !d.rteLost q

/-- An erase of an absent entry, or a write to an index that another tenant holds (R299) and no removal of the beat has freed (R34). -/
def Dev.rteWrong (d : Dev) (q : RteReq) : Bool :=
  if q.erase then (match d.rteFind q.tb q.ten q.ix q.key with | none => true | some e => e.tenant != q.ten)
  else !rteKeyed q.tb && (match d.rteKept.find? (fun e => e.is q.tb q.ten q.ix q.key) with | none => false | some e => e.tenant != q.ten)

/-- Lengths that a request of R299 admits: 2 and the entry words of its table. -/
def rteLenOk (req : List Word) (l : Nat) : Bool := let tb := fld (wd req 1) 63 60; if 9 < tb then decide (2 ≤ l) else l == 2 + rteWords tb

/-- RTE_TABLE_WRITE (R297, R299). -/
def goRteTableWrite (t : Nat) (who : Master) (req : List Word) (d : Dev) : Dev :=
  d.mbxNow t { op := 0x640, f0Only := false, lenOk := rteLenOk req, reserved := fun ws => resv (wd ws 1) [(59, 57), (55, 52), (47, 32)] } who req (fun d =>
    let q := rteReq who req
    let rows := [(d.rteDenied who q true, .notPermitted)] ++ tenantRows who (fld (wd req 1) 51 48) ++ [(rteBad q true, .badParam), (d.rteWrong q, .wrongState), (d.rteFull q, .noResource), (d.rteLost q || d.claimed .table' (rteClaimNo q), .busy)]
    match firstOf rows with
    | some .noResource => (.noResource, [], if q.tb = 0 then d.inc t 9 0 else d)
    | some st => (st, [], d)
    | none => (.ok, [], (d.rteStage ⟨q.tb, q.ten, q.ix, q.key, if q.erase then none else some q.ws⟩).claim .table' (rteClaimNo q)))

def execRteTableWrite (f : Nat) (req : List Word) (s : State) : Host.Outcome State Fault Refusal :=
  .next (s.act fun t d => goRteTableWrite t (.fn f) req d)

/-- RTE_TABLE_READ (R300). -/
def goRteTableRead (t : Nat) (who : Master) (req : List Word) (d : Dev) : Dev :=
  d.mbxNow t { op := 0x641, f0Only := false, lenOk := rteLenOk req, reserved := fun ws => resv (wd ws 1) [(59, 52), (47, 32)] } who req (fun d =>
    let q := rteReq who req
    judged d ([(d.rteDenied who q false, .notPermitted)] ++ tenantRows who (fld (wd req 1) 51 48) ++ [(rteBad q false, .badParam)]) (fun d =>
      match d.rteFind q.tb q.ten q.ix q.key with
      | none => (.wrongState, [], d)
      | some e => (.ok, packW [(e.tenant, 4, 0)] :: e.words, d)))

def execRteTableRead (f : Nat) (req : List Word) (s : State) : Host.Outcome State Fault Refusal :=
  .next (s.act fun t d => goRteTableRead t (.fn f) req d)

/-- RTE_FLOW_USE. -/
def Dev.flowUse (d : Dev) : Reg := packR [((d.rte.ents.filter (fun e => e.table == 0)).length, 23, 0)]
/-- RTE_SLOW_STATE. -/
def Dev.slowState (d : Dev) : Reg := packR [(d.rte.slow.length, 15, 0), (b2n (decide (16384 ≤ d.rte.slow.length)), 1, 15)]

/-! The flow table and the dailies ring as memory. -/

/-- First address of the part of HBM that no fixed region takes (R44). -/
def hbmRemainder : Nat := 0x264000000

/-- An octet of the flow-table region (R44, R288, R289): that of the entry which has its place, or what the memory holds there. -/
def Dev.flowOctet (d : Dev) (a : Nat) : Byte :=
  let o := a - 0x200000000
  match d.rte.places.find? (fun x => x.2.2 == o / 64) with
  | some x => match d.rteFind 0 x.1 0 x.2.1 with
    | some e => BitVec.ofNat 8 ((wd e.words (o % 64 / 8)).toNat / 256 ^ (o % 8))
    | none => getOctet d.mem.hbm (2 * d.mem.epoch + 2) a
  | none => getOctet d.mem.hbm (2 * d.mem.epoch + 2) a

/-- Word `w` of a snapshot's 64 banks of 32 words (R449, R450). -/
def Snap.word (x : Snap) (w : Nat) : Word := if w < 32 then wd x.header w else BitVec.ofNat 64 (x.counter (w / 32) (w % 32))

/-- An octet of the dailies ring (R44, R449): that of the snapshot which has its place, or what the memory holds there. -/
def Dev.ringOctet (d : Dev) (a : Nat) : Byte :=
  let o := a - 0x254000000
  let x := tlook snapReset d.dly.ring (o / 16384)
  if x.held then BitVec.ofNat 8 ((x.word (o % 16384 / 8)).toNat / 256 ^ (o % 8)) else getOctet d.mem.hbm (2 * d.mem.epoch + 2) a

/-- An octet of HBM as a master reads it. -/
def Dev.hbmOctet (d : Dev) (a : Nat) : Byte :=
  if 0x200000000 ≤ a && decide (a < 0x214000000) then d.flowOctet a
  else if 0x254000000 ≤ a && decide (a < hbmRemainder) then d.ringOctet a
  else getOctet d.mem.hbm (2 * d.mem.epoch + 2) a

/-- `n` octets of HBM as a master reads them. -/
def Dev.hbmRead (d : Dev) (a : Nat) : Nat → List Byte
  | 0 => []
  | n + 1 => d.hbmOctet a :: d.hbmRead (a + 1) n

end Sys2Proof.Machine
end

