-- ==== Sys2Proof/Machine/Guards.lean ====
section
/-! DEFINITION. The seal engine (R335, R336, R343) and the check-value units (R337 to R341). -/
namespace Sys2Proof.Machine

/-! The seal lock. -/

/-- A master that may take a lock by register: F0, the management core or a crew core; the debug access port may not (R335, R338, R474). -/
def locksByRegister : Master → Bool
  | .fn f => f == 0
  | .mgmt => true
  | .crew _ => true
  | _ => false

/-- Master `who` owns the seal lock. -/
def Dev.ownsSeal (d : Dev) (who : Master) : Bool := d.sealEng.held && d.sealEng.owner == who.code

/-- A run is in progress. -/
def Dev.sealRunning (d : Dev) : Bool := d.sealEng.state == 1

/-- A claim on the seal lock (R335, R37): granted, or lost to the holder or to a higher claimant of the beat. -/
def Dev.sealClaim (d : Dev) (who : Master) : Bool × Dev :=
  if d.sealEng.held || d.claimed .seal 0 then (false, d.bump 38 4)
  else (true, (({ d with sealEng := { held := true, owner := who.code, since := d.glb.up } } : Dev).claim .seal 0).bump 38 3)

/-- A release of the seal lock (R336): by the owner, and not during a run; it clears the key, the result and every setting. -/
def Dev.sealLetGo (d : Dev) (who : Master) : Bool × Dev :=
  if d.ownsSeal who && !d.sealRunning then (true, { d with sealEng := {} }) else (false, d)

/-- SEAL_ACQUIRE (R335): ACQUIRE written. -/
def goSealAcquire (m : Master) (d : Dev) : Dev := if locksByRegister m then (d.sealClaim m).2 else d

def execSealAcquire (m : Master) (s : State) : Host.Outcome State Fault Refusal := .next (s.act fun _ d => goSealAcquire m d)

/-- SEAL_RELEASE (R336): RELEASE written. -/
def goSealRelease (m : Master) (d : Dev) : Dev := if locksByRegister m then (d.sealLetGo m).2 else d

def execSealRelease (m : Master) (s : State) : Host.Outcome State Fault Refusal := .next (s.act fun _ d => goSealRelease m d)

/-- Answer one SEAL_LOCK_OP (R343). -/
def Dev.sealLockAnswer (d : Dev) (t : Nat) (p : Pend) (release : Bool) : Dev :=
  if release then
    let r := d.sealLetGo p.caller
    r.2.respond t p (if r.1 then .ok else .wrongState) []
  else
    let r := d.sealClaim p.caller
    r.2.respond t p (if r.1 then .ok else .busy) []

/-- SEAL_LOCK_OP (R61, R335, R343): held back while a SEAL_RUN of the same function runs, with PENDING as its first response (DEDUCED, log 134). -/
def goSealLockOp (t : Nat) (who : Master) (req : List Word) (d : Dev) : Dev :=
  d.mbx t (fixedSpec 0x720 false 2 [(1, [(63, 1)])]) who req (fun p d =>
    let release := nbit (wd req 1).toNat 0
    match d.sealEng.job with
    | some j =>
      if j.pend.caller = who then ({ d with sealEng := { d.sealEng with heldOps := d.sealEng.heldOps ++ [(p, release)] } } : Dev).respond t p .pending []
      else d.sealLockAnswer t p release
    | none => d.sealLockAnswer t p release)

def execSealLockOp (f : Nat) (req : List Word) (s : State) : Host.Outcome State Fault Refusal :=
  .next (s.act fun t d => goSealLockOp t (.fn f) req d)

/-! Runs of the seal engine. -/

/-- A non-owner wrote a seal register (R336). -/
def Dev.sealStranger (d : Dev) (t : Nat) : Dev := (d.inc t 12 0).bump 38 6

/-- Octets of the source spaces: HBM and backlot. -/
def sealSpace (backlot : Bool) : Nat := if backlot then 33554432 else 17179869184

/-- Why a run with these settings cannot be made (R336): 1 length, 2 source range, 3 key length, 0 for a good one. -/
def sealFault (e : Seal) : Nat :=
  let len := rfld e.len 24 0
  let src := e.src.toNat * 4
  let backlot := e.ctrl.getLsbD 9
  if 16777216 < len then 1
  else if sealSpace backlot < src + len || (backlot && inHold src len) then 2
  else if (if e.ctrl.getLsbD 8 then 128 else 64) < rfld e.ctrl 7 0 then 3
  else 0

/-- A run ends in ERROR. -/
def Dev.sealError (d : Dev) (t code : Nat) : Dev :=
  (({ d with sealEng := { d.sealEng with state := 3, err := code, job := none } } : Dev).inc t 12 2).bump 38 2

/-- A run starts with the settings in force. -/
def Seal.begin (e : Seal) : Seal := { e with state := 1, err := 0, runCtrl := e.ctrl, runSrc := e.src, runLen := e.len, runKey := e.key }

/-- A write of SEAL_CTRL (R336, R383): the settings, and with START a run; during a run and while the engine has quiesced it starts none. -/
def Dev.sealCtrl (d : Dev) (t : Nat) (m : Master) (v : Reg) : Dev :=
  if !d.ownsSeal m then d.sealStranger t
  else
    let d1 : Dev := { d with sealEng := { d.sealEng with ctrl := v &&& 0x3FF } }
    if !v.getLsbD 31 || d.sealRunning || d.gaf.quiesced.testBit 4 then d1
    else if sealFault d1.sealEng ≠ 0 then d1.sealError t (sealFault d1.sealEng)
    else { d1 with sealEng := d1.sealEng.begin }

/-- SEAL_START (R335, R336): a write of SEAL_CTRL with START. -/
def goSealStart (t : Nat) (m : Master) (v : Reg) (d : Dev) : Dev := d.sealCtrl t m (v ||| 0x80000000)

def execSealStart (m : Master) (v : Reg) (s : State) : Host.Outcome State Fault Refusal := .next (s.act fun t d => goSealStart t m v d)

/-- The key of the run: KEY_LEN octets of the key words. -/
def Seal.keyBytes (e : Seal) : List Byte :=
  ((List.range 32).flatMap (fun k => leBytes (tlook (fun _ => (0 : Reg)) e.runKey k).toNat 4)).take (rfld e.runCtrl 7 0)

/-- The HMAC that ALG selects. -/
def sealMac (alg384 : Bool) (key msg : List Byte) : List Byte := if alg384 then hmac384 key msg else hmac256 key msg

/-- The message of a register run, from HBM or the backlot. -/
def Dev.sealSource (d : Dev) : List Byte :=
  let len := rfld d.sealEng.runLen 24 0
  let src := d.sealEng.runSrc.toNat * 4
  if d.sealEng.runCtrl.getLsbD 9 then d.backlotGet src len else d.hbmRead src len

/-- The result of a run stands. -/
def Dev.sealResult (d : Dev) (msg : List Byte) : Dev :=
  ({ d with sealEng := { d.sealEng with
      state := 2, err := 0, job := none, mac := sealMac (d.sealEng.runCtrl.getLsbD 8) d.sealEng.keyBytes msg } } : Dev).bump 38 0 |>.bump 38 1 msg.length

/-- The lock operations that a SEAL_RUN held back are answered, in order. -/
def Dev.answerHeld (d : Dev) (t : Nat) (l : List (Pend × Bool)) : Dev := l.foldl (fun e x => e.sealLockAnswer t x.1 x.2) d

/-- SEAL_RUN's final response (R343). -/
def Dev.sealReply (d : Dev) (t : Nat) (j : SealJob) : Dev :=
  let mac := d.sealEng.mac
  if j.compare && decide (mac ≠ j.expect.take mac.length) then (d.bump 38 7).respond t j.pend .authFail []
  else d.respond t j.pend .ok (octetWords 6 mac)

/-- SEAL_DONE (R336, R343): the run in progress ends; an uncorrectable error in a source read, or a failed DMA, ends it in ERROR. -/
def goSealDone (t : Nat) (eccError : Bool) (d : Dev) : Dev :=
  if !d.sealRunning then d
  else
    let waiting := d.sealEng.heldOps
    let d0 : Dev := { d with sealEng := { d.sealEng with heldOps := [] } }
    let d1 := match d.sealEng.job with
      | some j => if j.dmaOk then (d0.sealResult j.msg).sealReply t j else (d0.sealError t 2).respond t j.pend .timeout []
      | none => if eccError || (d0.mem.hbmFailed && !d0.sealEng.runCtrl.getLsbD 9) then d0.sealError t 4 else d0.sealResult d.sealSource
    d1.answerHeld t waiting

def execSealDone (eccError : Bool) (s : State) : Host.Outcome State Fault Refusal := .next (s.act fun t d => goSealDone t eccError d)

/-- The owner has held the lock for SEAL_HOLD_TICKS ticks (R336). -/
def Dev.sealOverdue (d : Dev) : Bool := d.sealEng.held && decide (d.sealEng.since + d.pv 0x7020 * 1024000 ≤ d.glb.up)

/-- SEAL_HOLD_EXPIRY (R336). -/
def goSealHoldExpiry (t : Nat) (d : Dev) : Dev := if d.sealOverdue then (d.sealForced t).answerHeld t d.sealEng.heldOps else d

def execSealHoldExpiry (s : State) : Host.Outcome State Fault Refusal := .next (s.act fun t d => goSealHoldExpiry t d)

/-- SEAL_RUN (R335, R343, R383): an engine that has quiesced starts none; the message is what the device reads by DMA, none when a read fails. -/
def goSealRun (t : Nat) (who : Master) (req : List Word) (msg : Option (List Byte)) (d : Dev) : Dev :=
  d.mbx t (fixedSpec 0x721 false 25 [(1, [(63, 58), (47, 25)])]) who req (fun p d =>
    let w := wd req 1
    let len := fld w 24 0
    let keyLen := fld w 55 48
    let alg := nbit w.toNat 56
    match firstOf [(!d.ownsSeal who || d.sealRunning || d.gaf.quiesced.testBit 4, .wrongState),
      (decide (16777216 < len) || decide ((if alg then 128 else 64) < keyLen), .badParam)] with
    | some st => d.respond t p st []
    | none =>
      let bytes := ((msg.getD []) ++ List.replicate len 0).take len
      let keys := (List.range 32).foldl (fun k i => tput (fun _ => (0 : Reg)) k i (BitVec.ofNat 32 (ofLe (((wordOctets (req.drop 3)).drop (4 * i)).take 4)))) ([] : Table Reg)
      let d1 := d.respond t p .pending []
      { d1 with sealEng := { ({ d1.sealEng with key := keys, ctrl := packR [(keyLen, 8, 0), (b2n alg, 1, 8)] } : Seal).begin with
        job := some ⟨p, bytes, nbit w.toNat 57, (wordOctets (req.drop 19)).take 48, msg.isSome⟩ } })

def execSealRun (f : Nat) (req : List Word) (msg : Option (List Byte)) (s : State) : Host.Outcome State Fault Refusal :=
  .next (s.act fun t d => goSealRun t (.fn f) req msg d)

/-- SEAL_LOCK. -/
def Dev.sealLockReg (d : Dev) : Reg := packR [(if d.sealEng.held then d.sealEng.owner else 0, 6, 16), (b2n d.sealEng.held, 1, 31)]
/-- SEAL_STATUS. -/
def Dev.sealStatus (d : Dev) : Reg := packR [(d.sealEng.state, 2, 0), (d.sealEng.err, 4, 4)]
/-- SEAL_MAC_k as a master reads it: 0 for a non-owner (R336). -/
def Dev.sealMacReg (d : Dev) (m : Master) (k : Nat) : Reg :=
  if d.ownsSeal m && d.sealEng.state == 2 then BitVec.ofNat 32 (ofLe ((d.sealEng.mac.drop (4 * k)).take 4)) else 0

/-! Check-value units (R337 to R341). -/

/-- Master `m` holds unit `n`. -/
def Dev.ownsChk (d : Dev) (m : Master) (n : Nat) : Bool := (d.chkUnit n).held && (d.chkUnit n).owner == m.code

/-- A write to a unit's register, other than its lock (R338): the owner's acts, any other is ignored and noted. -/
def Dev.chkWrite (d : Dev) (t : Nat) (m : Master) (n : Nat) (f : Dev → Dev) : Dev := if d.ownsChk m n then f d else d.inc t 13 (8 + n)

/-- CHK_ACQUIRE (R338): as for the seal lock. -/
def goChkAcquire (m : Master) (n : Nat) (d : Dev) : Dev :=
  if !locksByRegister m || (d.chkUnit n).held || d.claimed .chk n then d
  else (d.modChk n (fun c => { c with held := true, owner := m.code })).claim .chk n

def execChkAcquire (m : Master) (n : Nat) (s : State) : Host.Outcome State Fault Refusal := .next (s.act fun _ d => goChkAcquire m n d)

/-- CHK_RELEASE (R338): by the owner. -/
def goChkRelease (m : Master) (n : Nat) (d : Dev) : Dev :=
  if locksByRegister m && d.ownsChk m n then d.modChk n (fun c => { c with held := false, owner := 0 }) else d

def execChkRelease (m : Master) (n : Nat) (s : State) : Host.Outcome State Fault Refusal := .next (s.act fun _ d => goChkRelease m n d)

/-- The settings of a write of CHK_n_CTRL. -/
def Chk.set (c : Chk) (v : Reg) : Chk := { c with poly := rfld v 1 0, af := v.getLsbD 4, sf := v.getLsbD 5, compare := v.getLsbD 6 }

/-- START (R339). -/
def Chk.start (c : Chk) : Chk :=
  { c with
    state := 1, mismatch := false, restored := false, count := 0
    rem := crcStart c.poly c.af c.sf (rfld c.foldHi 15 0 * 2 ^ 32 + c.foldLo.toNat) (rfld c.foldHi 31 16) }

/-- RESTORE (R340): RUNNING without initialising or folding. -/
def Chk.restore (c : Chk) : Chk := { c with state := 1, restored := true }

/-- FINISH (R339, R341): RESULT, and with COMPARE the comparison. -/
def Chk.finish (c : Chk) : Chk :=
  let r := c.rem ^^^ crcFinal c.poly
  { c with state := 2, result := r, restored := false, mismatch := if c.compare then decide (r ≠ c.expect.toNat) else c.mismatch }

/-- FINISH of unit `n`, with what a mismatch reports (R341). -/
def Dev.chkEnd (d : Dev) (t n : Nat) : Dev :=
  let c := (d.chkUnit n).finish
  let d1 := (d.modChk n (fun _ => c)).bump 39 n
  if c.compare && c.mismatch then d1.chkMismatch t n else d1

/-- A write of CHK_n_CTRL (R338 to R341): one that sets more than one of START, FINISH and RESTORE has no effect. -/
def Dev.chkCtrl (d : Dev) (t n : Nat) (v : Reg) : Dev :=
  let d1 := d.modChk n (fun c => c.set v)
  match v.getLsbD 31, v.getLsbD 30, v.getLsbD 29 with
  | true, false, false => d1.modChk n Chk.start
  | false, true, false => d1.chkEnd t n
  | false, false, true => d1.modChk n Chk.restore
  | false, false, false => d1
  | _, _, _ => d

/-- CHK_START (R339). -/
def goChkStart (t : Nat) (m : Master) (n : Nat) (v : Reg) (d : Dev) : Dev := d.chkWrite t m n (fun d => d.chkCtrl t n (v ||| 0x80000000))

def execChkStart (m : Master) (n : Nat) (v : Reg) (s : State) : Host.Outcome State Fault Refusal := .next (s.act fun t d => goChkStart t m n v d)

/-- CHK_FINISH (R341). -/
def goChkFinish (t : Nat) (m : Master) (n : Nat) (v : Reg) (d : Dev) : Dev := d.chkWrite t m n (fun d => d.chkCtrl t n (v ||| 0x40000000))

def execChkFinish (m : Master) (n : Nat) (v : Reg) (s : State) : Host.Outcome State Fault Refusal := .next (s.act fun t d => goChkFinish t m n v d)

/-- CHK_RESTORE (R340). -/
def goChkRestore (t : Nat) (m : Master) (n : Nat) (v : Reg) (d : Dev) : Dev := d.chkWrite t m n (fun d => d.chkCtrl t n (v ||| 0x20000000))

def execChkRestore (m : Master) (n : Nat) (v : Reg) (s : State) : Host.Outcome State Fault Refusal := .next (s.act fun t d => goChkRestore t m n v d)

/-- Feed octets to a RUNNING unit (R339). -/
def Chk.feed (c : Chk) (l : List Byte) : Chk :=
  if c.state = 1 then { c with rem := crcFeeds c.poly c.rem l, count := (c.count + l.length) % 2 ^ 32 } else c

/-- CHK_DATA (R339): four octets, bits 7:0 first. -/
def goChkData (t : Nat) (m : Master) (n : Nat) (v : Reg) (d : Dev) : Dev :=
  d.chkWrite t m n (fun d => d.modChk n (fun c => c.feed (leBytes v.toNat 4)))

def execChkData (m : Master) (n : Nat) (v : Reg) (s : State) : Host.Outcome State Fault Refusal := .next (s.act fun t d => goChkData t m n v d)

/-- CHK_DATA_PART (R339): COUNT octets from bits 7:0 upward. -/
def goChkDataPart (t : Nat) (m : Master) (n : Nat) (v : Reg) (d : Dev) : Dev :=
  d.chkWrite t m n (fun d => d.modChk n (fun c => c.feed (leBytes (rfld v 23 0) (rfld v 25 24))))

def execChkDataPart (m : Master) (n : Nat) (v : Reg) (s : State) : Host.Outcome State Fault Refusal := .next (s.act fun t d => goChkDataPart t m n v d)

/-- CHK_n_LOCK. -/
def Chk.lockReg (c : Chk) : Reg := packR [(if c.held then c.owner else 0, 6, 16), (b2n c.held, 1, 31)]
/-- CHK_n_CTRL. -/
def Chk.ctrlReg (c : Chk) : Reg := packR [(c.poly, 2, 0), (b2n c.af, 1, 4), (b2n c.sf, 1, 5), (b2n c.compare, 1, 6), (b2n c.mismatch, 1, 7), (c.state, 2, 8)]

end Sys2Proof.Machine
end

