-- ==== Sys2Proof/Machine/Memory.lean ====
section
/-! DEFINITION. The shared memories as their masters see them (R44, R45, R346, R350, R362 to R366): accesses that the filters count, stores and what drops them, uncorrectable errors, scrubbing, and the loss of the HBM stack. -/
namespace Sys2Proof.Machine

/-! Filtered access counters (R447). -/

/-- The filter bit that selects a master's privilege. -/
def privBit (code : Nat) : Nat :=
  if code < 0x10 then 27 else if code = 0x10 || code = 0x3E then 29 else if code = 0x3F then 30 else 28

/-- Register `i` (0 CTRL, 1 BASE, 2 LIMIT) of filter `k` as it is in force in this tick (R448). -/
def Dev.filt (d : Dev) (k i : Nat) : Reg := tlook (fun _ => 0) d.dly.filt (3 * k + i)

/-- Filter `k` counts an access: `space` 0 HBM, 1 backlot, 2 register window. -/
def Dev.filterHits (d : Dev) (code space addr : Nat) (write : Bool) (k : Nat) : Bool :=
  let c := d.filt k 0
  c.getLsbD 31 && c.getLsbD (privBit code) && (c.getLsbD 26 || rfld c 25 20 == code) && rfld c 19 18 == space &&
  decide ((d.filt k 1).toNat * 64 ≤ addr) && decide (addr ≤ (d.filt k 2).toNat * 64 + 63) && c.getLsbD (if write then 17 else 16)

/-- Count an access of `n` octets in every filter that it passes. -/
def Dev.filtered (d : Dev) (code space addr n : Nat) (write : Bool) : Dev :=
  ((List.range 16).filter (d.filterHits code space addr write)).foldl (fun e k => e.bump 41 k n) d

/-- Count an access to a memory by a core or the management core: the octets of its class, and the filters (R365, R446). -/
def Dev.memAccess (d : Dev) (code space addr n : Nat) (write : Bool) : Dev :=
  (d.bump 41 (if space = 0 then 20 else 22) n).filtered code space addr n write

/-! Stores (R45, R87, R350, R362, R363, R366). -/

/-- First address of HBM in the crew map (R346). -/
def crewHbm : Nat := 0x1000000000

/-- Where a crew address lies: 0 HBM, 1 backlot, none elsewhere; and its address in that space. -/
def crewPlace (a : Nat) : Option (Nat × Nat) :=
  if crewBacklot ≤ a && decide (a < crewBacklot + 0x2000000) then some (1, a - crewBacklot)
  else if crewHbm ≤ a && decide (a < crewHbm + 0x400000000) then some (0, a - crewHbm)
  else none

/-- What drops a store (the codes of MEM_FAULT_INFO.KIND): 3 a fixed region or word 0 of a descriptor, 4 a protected sheet slot, 0 nothing. -/
def Dev.dropKind (d : Dev) (m : Master) (space a n : Nat) : Nat :=
  if space = 0 then (if a < hbmRemainder && m != .device then 3 else 0) else d.backlotDrop a n

/-- Octets of a protected word: 8 in the backlot, 32 in HBM (R362, R364). -/
def eccWord (space : Nat) : Nat := if space = 0 then 32 else 8

/-- The poisoned words that an access touches, by their crew address. -/
def Dev.poisoned (d : Dev) (space crew n : Nat) : List Nat :=
  d.mem.poison.filter (fun p => decide (p < crew + n) && decide (crew < p + eccWord space))

/-- A store covers a word whole. -/
def coversWord (space crew n p : Nat) : Bool := decide (crew ≤ p) && decide (p + eccWord space ≤ crew + n)

/-- Where a store of a master lies in local memory (R346): a core's own from address 0, that of core c from 0x1000000 + c x 0x20000; the place counts through the 24 local memories. -/
def localPlace (m : Master) (a : Nat) : Option Nat :=
  if 0x1000000 ≤ a && decide (a < 0x1300000) then some (a - 0x1000000)
  else match m with
    | .crew c => if a < 0x20000 then some (c * 0x20000 + a) else none
    | _ => none

/-- The octets of a store reach the memory. -/
def Dev.memPut (d : Dev) (space a : Nat) (l : List Byte) : Dev :=
  if space = 0 then d.hbmPut a l
  else
    let k := 8 - a % 8
    let d1 := d.backlotPut a (l.take k)
    if l.length ≤ k then d1 else d1.backlotPut (a + k) (l.drop k)

/-- Octets of a memory as a master reads them. -/
def Dev.memGet (d : Dev) (space a n : Nat) : List Byte := if space = 0 then d.hbmRead a n else d.backlotGet a n

/-- An octet of the local memories; one that nothing has written is free (log 6). -/
def Dev.ownOctet (d : Dev) (a : Nat) : Byte := (tlook (fun _ => none) d.mem.own a).getD (Config.freeByte (2 * d.mem.epoch + 1) (2 ^ 40 + a))
/-- `n` octets of the local memories. -/
def Dev.ownGet (d : Dev) (a n : Nat) : List Byte := (List.range n).map (fun i => d.ownOctet (a + i))

/-- A read of `n` octets meets an error that cannot be corrected (R366). -/
def Dev.readFails (d : Dev) (space crew n : Nat) : Bool := (space == 0 && d.mem.hbmFailed) || !(d.poisoned space crew n).isEmpty

/-- A store to a memory that nothing drops: it clears the poison of words that it covers, and one that does not cover a poisoned word is dropped and raises nothing (R366). -/
def Dev.storeAt (d : Dev) (space a crew : Nat) (l : List Byte) : Dev :=
  let bad := d.poisoned space crew l.length
  if (space == 0 && d.mem.hbmFailed) || !bad.all (coversWord space crew l.length) then d
  else ({ d with mem := { d.mem with poison := d.mem.poison.filter (fun p => !bad.contains p) } } : Dev).memPut space a l

/-! Errors (R366). -/

/-- Poison the word at a crew address. -/
def Dev.poisonAt (d : Dev) (crew : Nat) : Dev :=
  match crewPlace crew with
  | none => d
  | some (space, _) =>
    let p := crew - crew % eccWord space
    if d.mem.poison.contains p then d else { d with mem := { d.mem with poison := p :: d.mem.poison } }

/-- What every uncorrectable error on a read does. -/
def Dev.memUe (d : Dev) (t crew kind master : Nat) : Dev :=
  ((((d.poisonAt crew).memFault crew kind master).step 0x8041).inc t 15 0 crew).bump 41 24

/-- The scrubber met a word it cannot correct. -/
def Dev.scrubUe (d : Dev) (t crew : Nat) : Dev := ((d.memUe t crew 2 0x3F).inc t 15 1 crew).bump 41 28

/-- UNCORRECTABLE_ERROR (R348, R366): each consumer acts in its own way; a core takes the access-fault exception. -/
def goUncorrectableError (t : Nat) (who : Consumer) (addr : Nat) (d : Dev) : Dev :=
  match who with
  | .core c fetch => (d.memUe t addr 1 (Master.crew c).code).coreFault (.crew c) (if fetch then 1 else 5) addr
  | .flowBucket => let e := d.memUe t addr 1 0x3F; { e with rte := { e.rte with badBucket := true } }
  | .packetBuffer q =>
    let e := d.memUe t addr 1 0x3F
    (match tlook (fun _ => []) e.tm.queues q with
     | [] => e
     | x :: rest => ((({ (e.noteDelay q x.enq) with tm := { (e.noteDelay q x.enq).tm with queues := tput (fun _ => []) e.tm.queues q rest } } : Dev).finish x.desc { status := 0xE }).bump 36 14).dropped t x.tenant)
  | .retakeSlot radio sid rsn ix => (((d.memUe t addr 1 0x3F).releaseSlot sid rsn ix).bump (27 + radio) 12).inc t 5 2
  | .seal => goSealDone t true (d.memUe t addr 1 0x3F)
  | .scrubber => d.scrubUe t addr

def execUncorrectableError (who : Consumer) (addr : Nat) (s : State) : Host.Outcome State Fault Refusal :=
  .next (s.act fun t d => goUncorrectableError t who addr d)

/-- Words of 32 octets that a pass of the scrubber reads: the whole stack (R364). -/
def hbmWords : Nat := 536870912

/-- PATROL_SCRUB (R364): a whole pass over the stack; corrected words are written back, the bad ones stay poisoned. -/
def goPatrolScrub (t corrected : Nat) (bad : List Nat) (d : Dev) : Dev :=
  if d.mem.hbmFailed then d
  else
    let d1 := ((d.step 0x8040 0 0 corrected).bump 41 23 corrected).bump 41 27 hbmWords
    bad.foldl (fun e a => e.scrubUe t a) { d1 with mem := { d1.mem with scrubbed := d1.glb.up } }

def execPatrolScrub (corrected : Nat) (bad : List Nat) (s : State) : Host.Outcome State Fault Refusal :=
  .next (s.act fun t d => goPatrolScrub t corrected bad d)

/-- HBM_FAIL (R366, R407, R421): every HBM access ends as an uncorrectable error from now on, and a device in service goes into recovery with cause 5. -/
def goHbmFail (t : Nat) (d : Dev) : Dev :=
  let d1 := { d with mem := { d.mem with hbmFailed := true } }.inc t 15 4
  if !d.mgr.booted || d.mgr.recovery then d1
  else { d1 with
    mgr := { d1.mgr with recovery := true, recCause := 5 }
    fns := d1.fns.filter (fun e => e.1 == 0) }

def execHbmFail (s : State) : Host.Outcome State Fault Refusal := .next (s.act fun t d => goHbmFail t d)

/-- MEM_FAULT_ADDR_LO, MEM_FAULT_ADDR_HI and MEM_FAULT_INFO. -/
def Mem.faultReg (m : Mem) (i : Nat) : Reg :=
  match i with
  | 0 => BitVec.ofNat 32 m.faultAddr
  | 1 => packR [(m.faultAddr / 2 ^ 32, 8, 0)]
  | _ => packR [(m.faultMaster, 6, 0), (m.faultKind, 4, 28)]

end Sys2Proof.Machine
end

