-- ==== Sys2Proof/Machine/Router.lean ====
section
/-! DEFINITION. The router's path of a frame (R280 to R296): entry, parsing, tunnels, the ACL, flows, routes, rewriting, the egress check, and the slow-path queue. -/
namespace Sys2Proof.Machine

/-! Parsing (R284). -/

/-- What the parser found of an IP frame without tags: the offset of its IP header is 14. -/
structure Parsed where
  v6 : Bool
  proto : Nat
  src : Nat
  dst : Nat
  sport : Nat
  dport : Nat
  /-- offset of the header behind IP and its extensions, and of the end of the IP packet -/
  l4 : Nat
  ipEnd : Nat
  ttl : Nat
  dscp : Nat
  /-- ICMP or ICMPv6 echo -/
  echo : Bool
  deriving DecidableEq, Repr

/-- The parser's outcome: parsed, to the slow path with a reason, or dropped under a counter of bank 35. -/
inductive ParseRes
  | ok (p : Parsed)
  | slow (reason : Nat)
  | drop (slot : Nat)
  deriving DecidableEq, Repr

/-- Where the first 256 octets behind the outer tags end, in a frame without tags. -/
def parseEnd : Nat := 268

/-- Octets of a transport header that the key relies on. -/
def l4Need (v6 : Bool) (proto : Nat) : Nat :=
  if proto = 6 then 20 else if proto = 17 then 8 else if proto = (if v6 then 58 else 1) then 8 else 0

/-- Ports of the key: those of TCP and UDP, an echo's identifier, or 0. -/
def l4Ports (f : List Byte) (v6 : Bool) (proto l4 : Nat) : Nat × Nat × Bool :=
  if proto = 6 || proto = 17 then (beAt f l4 2, beAt f (l4 + 2) 2, false)
  else
    let t := octAt f l4
    let echo := if v6 then proto == 58 && (t == 128 || t == 129) else proto == 1 && (t == 8 || t == 0)
    if echo then (beAt f (l4 + 4) 2, 0, true) else (0, 0, false)

/-- An IPv4 packet. -/
def parse4 (f : List Byte) : ParseRes :=
  let ihl := octAt f 14 % 16
  let total := beAt f 16 2
  if octAt f 14 / 16 ≠ 4 || decide (f.length < 34) then .drop 23
  else if 5 < ihl then .slow 8
  else if ihl < 5 || decide (total < 20) || decide (f.length - 14 < total) || fold16 (sum16 ((f.drop 14).take 20)) != 65535 then .drop 23
  else if beAt f 20 2 % 2 ^ 14 ≠ 0 then .slow 9
  else
    let proto := octAt f 23
    let ps := l4Ports f false proto 34
    .ok { v6 := false, proto := proto, src := beAt f 26 4, dst := beAt f 30 4, sport := ps.1, dport := ps.2.1, l4 := 34,
          ipEnd := 14 + total, ttl := octAt f 22, dscp := octAt f 15 / 4, echo := ps.2.2 }

/-- Walk the extension headers of an IPv6 packet: at most four Routing or Destination Options headers. -/
def walk6 (f : List Byte) : Nat → Nat → Nat → Sum Nat (Nat × Nat)
  | budget, proto, at' =>
    if proto = 0 then .inl 8
    else if proto = 44 then .inl 9
    else if proto = 43 || proto = 60 then
      match budget with
      | 0 => .inl 0xC
      | n + 1 =>
        let next := at' + 8 + 8 * octAt f (at' + 1)
        if parseEnd < next then .inl 0xC else walk6 f n (octAt f at') next
    else .inr (proto, at')

/-- An IPv6 packet. -/
def parse6 (f : List Byte) : ParseRes :=
  let plen := beAt f 18 2
  if octAt f 14 / 16 ≠ 6 || decide (f.length < 54 + plen) then .drop 23
  else match walk6 f 4 (octAt f 20) 54 with
    | .inl r => .slow r
    | .inr (proto, l4) =>
      if parseEnd < l4 + l4Need true proto then .slow 0xC
      else if proto = 58 && decide (133 ≤ octAt f l4) && decide (octAt f l4 ≤ 137) then .slow 0xA
      else
        let ps := l4Ports f true proto l4
        .ok { v6 := true, proto := proto, src := beAt f 22 16, dst := beAt f 38 16, sport := ps.1, dport := ps.2.1, l4 := l4,
              ipEnd := 54 + plen, ttl := octAt f 21, dscp := nbits (beAt f 14 2) 11 6, echo := ps.2.2 }

/-- Parse a frame without tags (R284). -/
def parseFrame (f : List Byte) : ParseRes :=
  match beAt f 12 2 with
  | 0x0806 => .slow 0xA
  | 0x0800 => parse4 f
  | 0x86DD => parse6 f
  | _ => .drop 22

/-- The key words of a parsed frame (R288, R289). -/
def flowKeyOf (kind : Nat) (p : Parsed) : List Word :=
  [packW [(kind, 2, 16), (p.dport, 16, 18), (p.sport, 16, 34), (p.proto, 8, 50), (b2n p.v6, 1, 62)],
   BitVec.ofNat 64 (p.src / 2 ^ 64), BitVec.ofNat 64 p.src, BitVec.ofNat 64 (p.dst / 2 ^ 64), BitVec.ofNat 64 p.dst]

/-- The flow hash of a frame. -/
def hashOf (tenant kind : Nat) (p : Parsed) : BitVec 32 := Config.flowHash [tenant, kind, b2n p.v6, p.proto, p.sport, p.dport, p.src, p.dst]

/-- The flow hash of a frame that was not parsed, of which the spec says nothing: a free value of what is known. -/
def unparsedHash (x : Pkt) : Nat := (Config.flowHash [x.tenant, x.srcKind]).toNat

/-! The slow-path queue (R295, R359). -/

/-- Backlot offset of a slow-path item. -/
def itemOff (k : Nat) : Nat := 0x0F00000 + 16 * k

/-- Slow-path items by number. -/
def itemReset : Nat → SlowItem := fun _ => {}
/-- Item `k`. -/
def Dev.item (d : Dev) (k : Nat) : SlowItem := tlook itemReset d.rte.items k

/-- The queue has room for an item. -/
def Dev.slowRoom (d : Dev) : Option Nat :=
  if 16384 ≤ d.rte.slow.length then none else (List.range 16384).find? (fun k => !(d.item k).used)

/-- The two words of an item, whose frame lies at HBM address `addr`. -/
def itemWords (reason : Nat) (x : Pkt) (hash addr : Nat) : List Word :=
  [packW [(hash, 32, 0), (x.src, 12, 42), (x.srcKind, 2, 54), (x.tenant, 4, 56), (reason, 4, 60)],
   packW [(0x1000000000 + addr, 40, 0), (x.octets.length, 14, 50)]]

/-- Where the frame of item `k` lies in the packet-buffer region (R44, R295): in one of 32 blocks of 16 KiB that are the item's own, by a free value (DESIGN CHOICE, log 74). -/
def keptAt (k : Nat) (free : Word) : Nat := (free.toNat % 32 * 16384 + k) * 16384

/-- An item enters the queue, and its frame is kept in the packet-buffer region. -/
def Dev.pushSlow (d : Dev) (k reason hash : Nat) (x : Pkt) : Dev :=
  let a := keptAt k d.free
  let d1 := ((d.finish x.desc { status := 0xA }).blPut (itemOff k) (wordOctets (itemWords reason x hash a))).hbmPut a x.octets
  ({ d1 with rte := { d1.rte with
    items := tput itemReset d1.rte.items k { used := true, reason := reason, pkt := { x with desc := none }, hash := hash }
    slow := d1.rte.slow ++ [k] } } : Dev).drew.bump 35 (7 + reason)

/-- Hand a frame to the slow path (R295): while the queue is full a frame from an Ethernet port waits at the head of its intake, and any other is dropped. -/
def Dev.toSlow (d : Dev) (t reason hash : Nat) (x : Pkt) : Dev :=
  match d.slowRoom with
  | some k => d.pushSlow k reason hash x
  | none =>
    if x.srcKind = 0 && !x.again then { d with rte := { d.rte with waiting := tmod (fun _ => []) d.rte.waiting x.src (fun l => l ++ [(reason, x)]) } }
    else ((((d.step 0x6112).inc t 9 1).bump 35 28).dropped t x.tenant).finish x.desc { status := 8 }

/-- A frame is dropped under a counter of bank 35, and the drop is handed off (R39). -/
def Dev.rteDrop (d : Dev) (t slot : Nat) (x : Pkt) : Dev := ((d.bump 35 slot).dropped t x.tenant).finish x.desc { status := 8 }

/-! ACL (R287). -/

/-- An address matches a rule's over its first `len` bits of `w`. -/
def prefixHit (rule addr len w : Nat) : Bool := rule / 2 ^ (w - len) == addr / 2 ^ (w - len)

/-- A rule matches a frame. -/
def aclHit (e : RteEnt) (tenant kind : Nat) (p : Parsed) : Bool :=
  let w0 := wd e.words 0
  let w5 := wd e.words 5
  let n := if p.v6 then 128 else 32
  let ported := p.proto == 6 || p.proto == 17
  (e.tenant == tenant || nbit w0.toNat 60) && nbit (fld w0 59 56) kind && nbit w0.toNat 61 == p.v6 &&
  prefixHit (addrOf (wd e.words 1) (wd e.words 2)) p.src (fld w0 36 29) n && prefixHit (addrOf (wd e.words 3) (wd e.words 4)) p.dst (fld w0 28 21) n &&
  (nbit w0.toNat 37 || fld w0 45 38 == p.proto) &&
  (if ported then decide (fld w5 63 48 ≤ p.sport) && decide (p.sport ≤ fld w5 47 32) && decide (fld w5 31 16 ≤ p.dport) && decide (p.dport ≤ fld w5 15 0)
   else w5 == 0x0000FFFF0000FFFF)

/-- The lowest rule that matches. -/
def Dev.aclRule (d : Dev) (tenant kind : Nat) (p : Parsed) : Option RteEnt :=
  (d.rte.ents.filter (fun e => e.table == 5 && aclHit e tenant kind p)).foldl (fun (best : Option RteEnt) e =>
    match best with
    | none => some e
    | some b => if e.index < b.index then some e else some b) none

/-! Flows (R288 to R290). -/

/-- A flow lookup: in the hot cache, then in HBM, whose two bucket reads fill the cache; a bucket with an uncorrectable error reads as empty (R366). -/
def Dev.flowLookup (d : Dev) (t tenant : Nat) (key : List Word) : Dev × Option RteEnt :=
  let inHot := d.rte.hot.contains (tenant, key)
  let missed : Dev := { d with rte := { d.rte with bucketReads := d.rte.bucketReads + 2, badBucket := false } }.hbmOctets 1 1024
  match d.rteFind 0 tenant 0 key with
  | none => (missed.bump 35 6, none)
  | some e =>
    if d.rte.badBucket && !inHot then (missed.bump 35 6, none)
    else
    let e1 : RteEnt := { e with words := e.words.take 7 ++ [packW [(tickOf t, 48, 0)]] }
    let hot := ((tenant, key) :: d.rte.hot.filter (fun h => !(h.1 == tenant && h.2 == key))).take 262144
    let ents := d.rte.ents.map (fun x => if x.is 0 tenant 0 key then e1 else x)
    (({ d with rte := { d.rte with
        hot := hot, ents := ents, bucketReads := if inHot then d.rte.bucketReads else d.rte.bucketReads + 2 } } : Dev).hbmOctets 1 (if inHot then 0 else 1024) |>.bump 35 (if inHot then 4 else 5), some e1)

/-! Rewriting (R290, R294). -/

/-- A checksum at `i` after a 16-bit word changes from `m` to `m'` (RFC 1624, equation 3). -/
def fixSum (f : List Byte) (i m m' : Nat) : List Byte :=
  putAt f i (beBytes (65535 - fold16 ((65535 - beAt f i 2) + (65535 - m) + m')) 2)

/-- Replace the 16-bit word at `i`, with the checksum at `c` following it. -/
def swap16 (f : List Byte) (c i v : Nat) : List Byte := putAt (fixSum f c (beAt f i 2) v) i (beBytes v 2)

/-- Offset of the checksum of a transport, if it has one in use: a UDP checksum of 0 stays 0. -/
def l4Sum (f : List Byte) (p : Parsed) : Option Nat :=
  if p.proto = 6 then some (p.l4 + 16)
  else if p.proto = 17 then (if beAt f (p.l4 + 6) 2 = 0 then none else some (p.l4 + 6))
  else none

/-- Replace a 16-bit word of the pseudo-header or of the ports, and update the transport's checksum, if it has one at `c`. -/
def natWord (f : List Byte) (c : Option Nat) (i v : Nat) : List Byte :=
  match c with
  | some k => swap16 f k i v
  | none => putAt f i (beBytes v 2)

/-- NAT of one side (R290): the address at `a`, and the port at `q`, or an echo's identifier. -/
def natSide (f : List Byte) (p : Parsed) (a q addr port : Nat) : List Byte :=
  let c := l4Sum f p
  let g1 := natWord (natWord f c a (addr / 65536)) c (a + 2) (addr % 65536)
  let g2 := ip4Sum g1 14 20
  if p.proto = 6 || p.proto = 17 then natWord g2 c q port
  else if p.echo then swap16 g2 (p.l4 + 2) (p.l4 + 4) port
  else g2

/-- TTL or hop limit less one. -/
def lessTtl (f : List Byte) (p : Parsed) : List Byte :=
  if p.v6 then putAt f 21 [BitVec.ofNat 8 (p.ttl - 1)] else ip4Sum (putAt f 22 [BitVec.ofNat 8 (p.ttl - 1)]) 14 20

/-- The tags of a next hop (R293); the priority bits of a pushed tag are a free value. -/
def tagsOf (w : Word) (pri : Nat) : List Byte :=
  let tci (vid : Nat) : List Byte := beBytes (pri % 16 * 4096 + vid) 2
  match fld w 21 20 with
  | 1 => [0x81, 0x00] ++ tci (fld w 45 34)
  | 2 => [0x88, 0xA8] ++ tci (fld w 45 34) ++ [0x81, 0x00] ++ tci (fld w 33 22)
  | _ => []

/-- VID that goes out outermost: 0 for an untagged frame. -/
def outerVid (w : Word) : Nat := if fld w 21 20 = 0 then 0 else fld w 45 34

/-- A frame dressed for an Ethernet next hop: its address, the port's address, the tags, and everything from the EtherType on. -/
def Dev.dress (d : Dev) (nh : List Word) (etherOn : List Byte) : List Byte :=
  beBytes (fld (wd nh 1) 47 0) 6 ++ d.portAddr (fld (wd nh 0) 47 46) ++ tagsOf (wd nh 0) d.free.toNat ++ etherOn

/-! Tunnels (R285, R286). -/

/-- The UDP checksum over IPv6 of a segment between two addresses. -/
def udp6Sum (src dst : List Byte) (seg : List Byte) : Nat :=
  let s := 65535 - fold16 (sum16 (src ++ dst ++ beBytes seg.length 4 ++ beBytes 17 4 ++ seg))
  if s = 0 then 65535 else s

/-- The outer IP header of a tunnel around a payload; what the spec does not state of it (identification, flow label) is a free value. -/
def outerIp (w : List Word) (dscp proto : Nat) (free : Nat) (payload : List Byte) : List Byte :=
  let ttl := BitVec.ofNat 8 (fld (wd w 0) 61 54)
  if nbit (wd w 0).toNat 62 then
    let src := beBytes (addrOf (wd w 1) (wd w 2)) 16
    let dst := beBytes (addrOf (wd w 3) (wd w 4)) 16
    let body := if proto = 17 then putAt payload 6 (beBytes (udp6Sum src dst payload) 2) else payload
    [0x86, 0xDD] ++ beBytes (6 * 2 ^ 28 + dscp * 2 ^ 22 + free % 2 ^ 20) 4 ++ beBytes payload.length 2 ++ [BitVec.ofNat 8 proto, ttl] ++ src ++ dst ++ body
  else
    let hdr := [0x45, BitVec.ofNat 8 (dscp * 4)] ++ beBytes (20 + payload.length) 2 ++ beBytes (free % 65536) 2 ++ [0x40, 0x00] ++
      [ttl, BitVec.ofNat 8 proto, 0, 0] ++ beBytes (addrOf (wd w 1) (wd w 2)) 4 ++ beBytes (addrOf (wd w 3) (wd w 4)) 4
    [0x08, 0x00] ++ ip4Sum hdr 0 20 ++ payload

/-- The payload of the outer IP header: UDP and VXLAN around an Ethernet frame, or GRE around an IP packet. `f` is the rewritten frame without tags. -/
def Dev.tunnelBody (d : Dev) (w nh outer : List Word) (hash : Nat) (f : List Byte) : Nat × List Byte :=
  if nbit (wd w 0).toNat 63 then (47, [0, 0] ++ (f.drop 12).take 2 ++ f.drop 14)
  else
    let inner := beBytes (fld (wd nh 1) 47 0) 6 ++ d.portAddr (fld (wd outer 0) 47 46) ++ f.drop 12
    let vx := [0x08, 0, 0, 0] ++ beBytes (fld (wd w 0) 23 0) 3 ++ [0]
    (17, beBytes (49152 + hash % 16384) 2 ++ beBytes (d.pv 0x6100) 2 ++ beBytes (16 + inner.length) 2 ++ [0, 0] ++ vx ++ inner)

/-- A GRE checksum is good. -/
def greSumOk (b : List Byte) : Bool := fold16 (sum16 b) == 65535

/-- What termination finds (R285): no tunnel, the inner frame and its tenant, the slow path, or a drop. -/
inductive TunRes
  | pass
  | inner (tenant : Nat) (f : List Byte)
  | slow (reason : Nat)
  | drop (slot : Nat)
  deriving DecidableEq, Repr

/-- The IP packet of a frame, in octets behind its own header, ends here. -/
def l4Bytes (f : List Byte) (p : Parsed) : List Byte := (f.take p.ipEnd).drop p.l4

/-- Remove one 0x8100 tag. -/
def dropTag (f : List Byte) : List Byte := if beAt f 12 2 = 0x8100 then f.take 12 ++ f.drop 16 else f

/-- A GRE packet at a local endpoint. -/
def greInner (tenant : Nat) (f : List Byte) (p : Parsed) : TunRes :=
  let b := l4Bytes f p
  let flags := beAt b 0 2
  let c := nbit flags 15
  let off := if c then 8 else 4
  if parseEnd < p.l4 + off then .slow 0xC
  else if nbits flags 14 10 ≠ 0 || nbits flags 2 0 ≠ 0 || (c && !greSumOk b) then .drop 30
  else match beAt b 2 2 with
    | 0x0800 => .inner tenant (f.take 12 ++ [0x08, 0x00] ++ b.drop off)
    | 0x86DD => .inner tenant (f.take 12 ++ [0x86, 0xDD] ++ b.drop off)
    | 0x6558 => .inner tenant (b.drop off)
    | _ => .drop 30

/-- The local endpoint of a tenant at an address. -/
def Dev.localEp (d : Dev) (tenant : Nat) (p : Parsed) : Option RteEnt :=
  d.rte.ents.find? (fun e => e.table == 8 && e.tenant == tenant && nbit (wd e.words 0).toNat 2 == p.v6 && addrOf (wd e.words 1) (wd e.words 2) == p.dst)

/-- A local endpoint of a tenant at an address allows the tunnel kind of bit `k` of its entry. -/
def Dev.localAllows (d : Dev) (tenant : Nat) (p : Parsed) (k : Nat) : Bool :=
  d.rte.ents.any (fun e => e.table == 8 && e.tenant == tenant && nbit (wd e.words 0).toNat 2 == p.v6 &&
    addrOf (wd e.words 1) (wd e.words 2) == p.dst && nbit (wd e.words 0).toNat k)

/-- Tunnel termination (R285). -/
def Dev.terminate (d : Dev) (tenant : Nat) (f : List Byte) (p : Parsed) : TunRes :=
  match d.localEp tenant p with
  | none => .pass
  | some _ =>
    if p.proto = 17 && p.dport = d.pv 0x6100 && d.localAllows tenant p 0 then
      let b := l4Bytes f p
      if parseEnd < p.l4 + 16 then .slow 0xC
      else if !nbit (octAt b 8) 3 then .drop 24
      else match d.rteFind 7 0 0 [BitVec.ofNat 64 (beAt b 12 3)] with
        | none => .drop 24
        | some v => .inner v.tenant (dropTag (b.drop 16))
    else if p.proto = 47 && d.localAllows tenant p 1 then greInner tenant f p
    else .slow 0xA

/-! The egress check and hand-off (R282, R283). -/

/-- A frame fails the egress check: dropped, and counted for its tenant. -/
def Dev.egressFail (d : Dev) (t : Nat) (x : Pkt) : Dev :=
  ((((d.step 0x6111 x.tenant).inc t 9 2).bump 35 27).dropped t x.tenant).finish x.desc { status := 6 }

/-- The next hop's own check (R282). -/
def Dev.egressOk (d : Dev) (tenant : Nat) (nh : List Word) : Bool :=
  let target := fld (wd nh 0) 57 46
  match fld (wd nh 0) 59 58 with
  | 0 => match d.rteAt 6 0 (target % 4 * 4096 + outerVid (wd nh 0)) with
    | some e => e.tenant == tenant
    | none => false
  | 1 => (d.sta target).used && d.staTenant target == tenant
  | _ => (d.ring target).owner == tenant

/-- The frame passes its policer, if it names one, and goes to the traffic manager. -/
def Dev.handOff (d : Dev) (t : Nat) (nh : List Word) (policer : Option Nat) (x : Pkt) : Dev :=
  let r : Dev × Option Pkt := match policer with
    | some i => d.police t i (if fld (wd nh 0) 59 58 = 1 then msduLen x.octets else x.octets.length) x
    | none => (d, some x)
  match r.2 with
  | none => r.1
  | some y =>
    let target := fld (wd nh 0) 57 46
    let d1 := r.1.bump 35 31
    match fld (wd nh 0) 59 58 with
    | 0 => d1.toPort t (target % 4) y
    | 1 => d1.toStation t target y
    | _ => d1.routeToRing t target y

/-- What the lookup decided of a frame: next hop, traffic class, policer, and a rewrite of its octets. -/
structure Decision where
  nh : Nat
  tc : Nat
  policer : Option Nat
  rewrite : List Byte → List Byte

/-- The frame for a next hop of kind 0 with a tunnel (R286): the outer next hop must be of kind 0 with no tunnel. -/
def Dev.encapsulate (d : Dev) (t : Nat) (x : Pkt) (nh : RteEnt) (hash : Nat) (dec : Decision) (f : List Byte) : Dev :=
  match d.rteAt 4 0 (fld (wd nh.words 1) 63 48) with
  | none => d.egressFail t x
  | some tun =>
    match d.rteAt 3 0 (fld (wd tun.words 0) 52 37) with
    | none => ((d.inc t 9 3).rteDrop t 30 x)
    | some outer =>
      if fld (wd outer.words 0) 59 58 ≠ 0 || fld (wd outer.words 1) 63 48 ≠ 0xFFFF then (d.inc t 9 3).rteDrop t 30 x
      else if nh.tenant ≠ x.tenant || tun.tenant ≠ x.tenant || outer.tenant ≠ x.tenant || !d.egressOk x.tenant outer.words then d.egressFail t x
      else
        let dscp := if nbit (wd tun.words 0).toNat 53 then dscpOf f else 0
        let b := d.tunnelBody tun.words nh.words outer.words hash f
        let g := d.dress outer.words (outerIp tun.words dscp b.1 d.drew.free.toNat b.2)
        d.drew.drew.handOff t outer.words dec.policer { x with octets := g, tc := dec.tc }

/-- Steps 7 and 8 of R283 (R282, R290, R294). -/
def Dev.forward (d : Dev) (t : Nat) (x : Pkt) (p : Parsed) (hash : Nat) (dec : Decision) : Dev :=
  if p.ttl ≤ 1 then d.toSlow t 7 hash x
  else match d.rteAt 3 0 dec.nh with
    | none => d.egressFail t x
    | some nh =>
      let f := dec.rewrite (lessTtl (x.octets.take p.ipEnd) p)
      let target := fld (wd nh.words 0) 57 46
      if fld (wd nh.words 0) 59 58 = 3 then d.rteDrop t 26 x
      else if fld (wd nh.words 0) 19 6 < p.ipEnd - 14 then d.toSlow t 0xD hash x
      else if fld (wd nh.words 1) 63 48 ≠ 0xFFFF then d.encapsulate t x nh hash dec f
      else if nh.tenant ≠ x.tenant || !d.egressOk x.tenant nh.words then d.egressFail t x
      else
        let g := match fld (wd nh.words 0) 59 58 with
          | 0 => d.dress nh.words (f.drop 12)
          | 1 => beBytes (d.sta target).addr 6 ++ (f.drop 6).take 6 ++ tagsOf (wd nh.words 0) d.free.toNat ++ f.drop 12
          | _ => beBytes (fld (wd nh.words 1) 47 0) 6 ++ (f.drop 6).take 6 ++ tagsOf (wd nh.words 0) d.free.toNat ++ f.drop 12
        d.drew.handOff t nh.words dec.policer { x with octets := g, tc := dec.tc }

/-- The rewrite that a flow entry asks for (R290). -/
def flowRewrite (w : List Word) (p : Parsed) (f : List Byte) : List Byte :=
  let addr := fld (wd w 6) 63 32
  let port := fld (wd w 6) 31 16
  let f1 := if nbit (wd w 5).toNat 44 then natSide f p 26 p.l4 addr port
    else if nbit (wd w 5).toNat 43 then natSide f p 30 (p.l4 + 2) addr port
    else f
  if nbit (wd w 5).toNat 30 then setDscp f1 (fld (wd w 5) 29 24) else f1

/-- Longest prefix among a tenant's routes (R292): the next hop and the NAT and SLOW bits. -/
def Dev.routeOf (d : Dev) (tenant : Nat) (p : Parsed) : Option (Nat × Bool × Bool) :=
  let n := if p.v6 then 128 else 32
  let len (e : RteEnt) : Nat := if p.v6 then fld (wd e.words 2) 63 56 else fld (wd e.words 0) 31 26
  let pre (e : RteEnt) : Nat := if p.v6 then addrOf (wd e.words 0) (wd e.words 1) else fld (wd e.words 0) 63 32
  let hits := d.rte.ents.filter (fun e => e.table == (if p.v6 then 2 else 1) && e.tenant == tenant && prefixHit (pre e) p.dst (len e) n)
  let best := hits.foldl (fun (b : Option RteEnt) e => match b with | none => some e | some x => if len x < len e then some e else some x) none
  best.map (fun e => let w := if p.v6 then wd e.words 2 else wd e.words 0; (fld w 15 0, !p.v6 && nbit w.toNat 25, nbit w.toNat 24))

/-- The destination is in the tenant's NAT_POOL. -/
def Dev.natPool (d : Dev) (tenant : Nat) (p : Parsed) : Bool :=
  !p.v6 && d.rte.ents.any (fun e => e.table == 9 && e.tenant == tenant && fld (wd e.words 0) 63 32 == p.dst)

/-- The route path of a flow miss (R292). -/
def Dev.routePath (d : Dev) (t : Nat) (x : Pkt) (p : Parsed) (hash : Nat) (policer : Option Nat) : Dev :=
  if d.natPool x.tenant p then d.toSlow t 2 hash x
  else match d.routeOf x.tenant p with
    | none => d.toSlow t 4 hash x
    | some (nh, nat, slow) =>
      if nat then d.toSlow t 1 hash x
      else if slow then d.toSlow t 3 hash x
      else d.forward t x p hash { nh := nh, tc := p.dscp / 8, policer := policer, rewrite := id }

/-- Steps 4 to 8 of R283 for a frame whose tunnels are off. -/
def Dev.lookup (d : Dev) (t : Nat) (x : Pkt) (p : Parsed) : Dev :=
  let hash := (hashOf x.tenant x.srcKind p).toNat
  let rule := d.aclRule x.tenant x.srcKind p
  let act := match rule with | some e => fld (wd e.words 0) 55 54 | none => 0
  if act = 1 then d.rteDrop t 7 x
  else if act = 2 then d.toSlow t 5 hash x
  else
    let aclPol : Option Nat := match rule with
      | some e => if act = 3 then some (x.tenant * 256 + fld (wd e.words 0) 53 46) else none
      | none => none
    let r := d.flowLookup t x.tenant (flowKeyOf x.srcKind p)
    match r.2 with
    | none => r.1.routePath t x p hash aclPol
    | some e =>
      let w5 := wd e.words 5
      match fld w5 63 61 with
      | 1 => r.1.rteDrop t 25 x
      | 2 => r.1.toSlow t 6 hash x
      | _ =>
        let pol : Option Nat := match aclPol with
          | some i => some i
          | none => if nbit w5.toNat 42 then some (x.tenant * 256 + fld w5 41 34) else none
        r.1.forward t x p hash { nh := fld w5 60 45, tc := fld w5 33 31, policer := pol, rewrite := flowRewrite e.words p }

/-- Step 2 of R283 on: parse, terminate at most one tunnel, and look up. -/
def Dev.routeIn (d : Dev) (t : Nat) (x : Pkt) : Dev :=
  match parseFrame x.octets with
  | .slow r => d.toSlow t r (unparsedHash x) x
  | .drop s => d.rteDrop t s x
  | .ok p =>
    match d.terminate x.tenant x.octets p with
    | .pass => d.lookup t x p
    | .slow r => d.toSlow t r (hashOf x.tenant x.srcKind p).toNat x
    | .drop s => d.rteDrop t s x
    | .inner ten f =>
      let y : Pkt := { x with tenant := ten, octets := f }
      match parseFrame f with
      | .slow r => d.toSlow t r (unparsedHash y) y
      | .drop s => d.rteDrop t s y
      | .ok q =>
        match d.terminate ten f q with
        | .pass => d.lookup t y q
        | .slow 0xA => d.toSlow t 0xA (hashOf ten y.srcKind q).toNat y
        | _ => d.toSlow t 0xB (hashOf ten y.srcKind q).toNat y

/-! Entry (R280, R281). -/

/-- A frame that the BT block or the PTP client takes before the router (R236, R246, R280). -/
def Dev.btTakes (d : Dev) (x : Pkt) : Bool :=
  let f := x.octets
  let vlan := beAt f 14 2 % 4096
  let inner := beAt f 16 2
  decide (d.bt.mode ≠ .off) && nbit d.bt.ports x.src && beAt f 12 2 == 0x8100 && vlan == d.bt.vlan &&
  (inner == 0x88B5 || (d.bt.source == 0 && (inner == 0x88F7 || (inner == 0x0800 && octAt f 27 == 17 && beAt f 34 4 == 0xE0000181 && (beAt f 40 2 == 319 || beAt f 40 2 == 320)))))

/-- The PTP client takes a frame: of an event message the receive stamp is handed to it (R273). -/
def Dev.handStamp (d : Dev) (x : Pkt) : Dev :=
  let f := x.octets
  let at' := if beAt f 16 2 == 0x88F7 then 18 else 46
  match x.rxStamp with
  | some s =>
    if beAt f 16 2 == 0x88B5 || octAt f at' % 16 != 0 || (at' == 46 && beAt f 40 2 != 319) then d
    else { d with bt := { d.bt with servo := { d.bt.servo with handed := tput (fun _ => (0, 0)) d.bt.servo.handed x.src (beAt f (at' + 30) 2, s) } } }
  | none => d

/-- Step 1 for an Ethernet frame (R281): the VLAN map gives the tenant, and all tags are removed; none for a VLAN_MISS. -/
def Dev.vlanIn (d : Dev) (x : Pkt) : Option Pkt :=
  let f := x.octets
  let tpid := beAt f 12 2
  let tagged := isTag tpid
  let vid := if tagged then beAt f 14 2 % 4096 else 0
  match d.rteAt 6 0 (x.src * 4096 + vid) with
  | none => none
  | some e =>
    let form :=
      if nbit (wd e.words 0).toNat 0 then (if tpid == 0x88A8 && beAt f 16 2 == 0x8100 && !isTag (beAt f 20 2) then some 8 else none)
      else if !tagged then some 0
      else if tpid == 0x8100 && !isTag (beAt f 16 2) then some 4
      else none
    form.map (fun n => { x with
      tenant := e.tenant, dei := tagged && nbit (octAt f 14) 4, octets := f.take 12 ++ f.drop (12 + n) })

/-- A wireless MSDU in Ethernet II form (R280): none without an RFC 1042 or 802.1H header. -/
def wirelessIn (x : Pkt) : Option Pkt :=
  let m := (x.octets.drop 12).take 6
  if m = [0xAA, 0xAA, 0x03, 0, 0, 0] || m = [0xAA, 0xAA, 0x03, 0, 0, 0xF8] then some { x with octets := x.octets.take 12 ++ x.octets.drop 18 } else none

/-- The next frame of an intake, taken from it. -/
def Dev.takeIntake (d : Dev) : Intake → Option (Pkt × Dev)
  | .port p =>
    if !(tlook (fun _ => []) d.rte.waiting p).isEmpty || d.gaf.quiesced.testBit 1 then none
    else match (d.port p).clear with
      | x :: rest => some (x, d.modPort p (fun y => { y with clear := rest }))
      | [] => match (d.port p).rx with
        | [] => none
        | e :: rest =>
          if d.wantsSec p e.2 then none
          else
            let d1 := d.modPort p (fun y => { y with rx := rest })
            some ({ e.2 with tc := e.1 }, if (tlook (fun _ => ({} : MacsecPort)) d.wcx.macsec p).en then d1.bump 37 15 else d1)
  | .wireless => match d.rte.wireless with
    | [] => none
    | x :: rest => some (x, { d with rte := { d.rte with wireless := rest } })
  | .ring => match d.rte.ring with
    | [] => none
    | x :: rest => some (x, { d with rte := { d.rte with ring := rest } })
  | .crew => match d.rte.crew with
    | [] => none
    | x :: rest => some (x, { d with rte := { d.rte with crew := rest } })

/-- The router takes frames: it runs, the HBM works, the packet-buffer region has room, and it has not quiesced (R296, R315, R366, R383). -/
def Dev.routerOpen (d : Dev) : Bool := d.running && !d.mem.hbmFailed && !d.bufFull && !d.gaf.quiesced.testBit 2

/-- Step 1 of R283, and the rest. -/
def Dev.enter (d : Dev) (t : Nat) (x : Pkt) : Dev :=
  if x.again then d.routeIn t x
  else
    let d1 := d.bump 35 x.srcKind
    match x.srcKind with
    | 0 =>
      if d.btTakes x then d.handStamp x
      else match d.vlanIn x with
        | none => d1.rteDrop t 21 x
        | some y => d1.routeIn t y
    | 1 => match wirelessIn x with
      | none => d1.rteDrop t 22 x
      | some y => d1.routeIn t y
    | _ => d1.routeIn t x

/-- A frame has left an intake: a port's buffer has shrunk, unless the frame waits there for the slow path (R267, R295). -/
def Dev.intakeLeft (d : Dev) : Intake → Dev
  | .port p => d.drainPause p
  | _ => d

/-- ROUTER_FRAME (R283, R296): the router takes the next frame of an intake; one whose miss of the hot cache would need more bucket reads than the beat has is not taken yet. -/
def goRouterFrame (t : Nat) (src : Intake) (d : Dev) : Dev :=
  if !d.routerOpen then d
  else match d.takeIntake src with
    | none => d
    | some (x, d1) =>
      let d2 := d1.enter t x
      if 400 < d2.rte.bucketReads && decide (d.rte.bucketReads < d2.rte.bucketReads) then d.inc t 9 4 else (d2.intakeLeft src).noteFull t

def execRouterFrame (src : Intake) (s : State) : Host.Outcome State Fault Refusal := .next (s.act fun t d => goRouterFrame t src d)

/-- INTAKE_RESUME (R295): a frame that waits at a port's intake enters the slow-path queue once it has room. -/
def goIntakeResume (t p : Nat) (d : Dev) : Dev :=
  match tlook (fun _ => []) d.rte.waiting p, d.slowRoom with
  | (reason, x) :: rest, some _ =>
    (({ d with rte := { d.rte with waiting := tput (fun _ => []) d.rte.waiting p rest } } : Dev).toSlow t reason
      (match parseFrame x.octets with | .ok q => (hashOf x.tenant x.srcKind q).toNat | _ => unparsedHash x) x).drainPause p
  | _, _ => d

def execIntakeResume (p : Nat) (s : State) : Host.Outcome State Fault Refusal := .next (s.act fun t d => goIntakeResume t p d)

end Sys2Proof.Machine
end

