-- ==== Sys2Proof/Machine/Crew.lean ====
section
/-! DEFINITION. The Ringmaster (R349 to R361): task requests, ends, dispatch and pre-emption, back-pressure marks, the slow-path queue's crew side, and crew commands. -/
namespace Sys2Proof.Machine

/-- A context's word 0 that nothing has written. -/
def ctxReset : Nat → Ctx := fun _ => {}
/-- Context `k`. -/
def Dev.ctx (d : Dev) (k : Nat) : Ctx := tlook ctxReset d.rgm.ctx k
/-- Change context `k`. -/
def Dev.modCtx (d : Dev) (k : Nat) (f : Ctx → Ctx) : Dev := { d with rgm := { d.rgm with ctx := tmod ctxReset d.rgm.ctx k f } }
/-- Ready list of a priority, head first. -/
def Dev.readyList (d : Dev) (p : Nat) : List Nat := tlook (fun _ => []) d.rgm.lists p
/-- Change the ready list of a priority. -/
def Dev.modList (d : Dev) (p : Nat) (f : List Nat → List Nat) : Dev :=
  { d with rgm := { d.rgm with lists := tmod (fun _ => []) d.rgm.lists p f } }

/-- A task becomes READY, at the head or the tail of its priority list. -/
def Dev.enlist (d : Dev) (k : Nat) (front : Bool) : Dev :=
  (d.modCtx k (fun x => { x with st := .ready })).modList (d.taskPrio k) (fun l => if front then k :: l else l ++ [k])

/-- A task leaves READY: it is off its list, and no request is outstanding on its behalf, though one made stands (R356). -/
def Dev.delist (d : Dev) (k : Nat) : Dev :=
  let d1 := (List.range 8).foldl (fun e p => e.modList p (fun l => l.filter (fun j => j != k))) d
  (List.range 24).foldl (fun e c => e.modCore c (fun x => match x.preempt with
    | some (j, b) => if j = k then { x with preempt := some (4096, b) } else x
    | none => x)) d1

/-- A task has been cancelled in this beat (R34, R353). -/
def Dev.cancelledNow (d : Dev) (k : Nat) : Bool := d.rgm.cancelled.contains k

/-- A crew core runs a U-mode task. -/
def Dev.inUser (d : Dev) : Master → Bool
  | .crew c => (match (d.core c).task with | some k => d.taskUser k | none => false)
  | _ => false

/-- Show the outcome of a request in RGM_CORE_RESULT_c (R351). -/
def Dev.result (d : Dev) (m : Master) (st : Status) (k : Nat) : Dev :=
  match m with
  | .crew c => d.modCore c (fun x => { x with status := st.code, resTask := k })
  | _ => d

/-- Judge a request on a named context: Gulmet's own are closed to U-mode tasks (R352). -/
def Dev.taskRequest (d : Dev) (m : Master) (task : Nat) (h : Nat → Dev → Status × Dev) : Dev :=
  let k := task % 4096
  if d.inUser m && decide (k < 1024) then d.result m .notPermitted k
  else let r := h k d; r.2.result m r.1 k

/-- A ready of context `k` (R37, R350 to R353): it claims the task, and of two readies of one beat the lower in rank is lost and shows BUSY (DEDUCED, log 104). -/
def Dev.readyTask (d : Dev) (k : Nat) : Status × Dev :=
  if (d.ctx k).st = .free then (.wrongState, d)
  else if d.taskAffinity k = 0 || d.taskClass k = 3 then (.badParam, d)
  else if d.claimed .task k then (.busy, d.bump 40 15)
  else
    let d0 := (d.bump 40 8).claim .task k
    if d.cancelledNow k then (.ok, d0.step 0x8042)
    else
      let d1 : Dev := { d0 with rgm := { d0.rgm with readied := k :: d0.rgm.readied } }
      match (d.ctx k).st with
      | .idle => (.ok, d1.enlist k false)
      | .running => (.ok, d1.modCtx k (fun x => { x with pend := true }))
      | _ => (.ok, d1.bump 40 10)

/-- READY (R351, R352); a request with another OP than the four answers BAD_PARAM. -/
def goReady (m : Master) (task : ReadyOf) (d : Dev) : Dev :=
  match task with
  | .task k => d.taskRequest m k (fun k d => d.readyTask k)
  | .badOp k => d.result m .badParam (k % 4096)

def execReady (m : Master) (task : ReadyOf) (s : State) : Host.Outcome State Fault Refusal := .next (s.act fun _ d => goReady m task d)

/-- A cancel of context `k` (R352, R353). -/
def Dev.cancelTask (d : Dev) (k : Nat) : Status × Dev :=
  if (d.ctx k).st = .free then (.wrongState, d)
  else
    let d0 := d.bump 40 9
    let d1 := if d.rgm.readied.contains k then d0.step 0x8042 else d0
    let d2 : Dev := { d1 with rgm := { d1.rgm with cancelled := k :: d1.rgm.cancelled } }
    match (d.ctx k).st with
    | .ready => (.ok, (d2.delist k).modCtx k (fun x => { x with st := .idle }))
    | .running => (.ok, d2.modCtx k (fun x => { x with pend := false }))
    | _ => (.ok, d2)

/-- CANCEL (R352). -/
def goCancel (m : Master) (task : Nat) (d : Dev) : Dev := d.taskRequest m task (fun k d => d.cancelTask k)

def execCancel (m : Master) (task : Nat) (s : State) : Host.Outcome State Fault Refusal := .next (s.act fun _ d => goCancel m task d)

/-- ALLOC (R351, R352): the lowest free context from 1,024 upward; with none free, NO_RESOURCE. -/
def goAlloc (t : Nat) (m : Master) (d : Dev) : Dev :=
  match (List.range' 1024 3072).find? (fun k => decide ((d.ctx k).st = .free)) with
  | some k => ((d.modCtx k (fun x => { x with st := .idle, saved := false, pend := false })).bump 40 16).result m .ok k
  | none => (d.inc t 14 2).result m .noResource 0

def execAlloc (m : Master) (s : State) : Host.Outcome State Fault Refusal := .next (s.act fun t d => goAlloc t m d)

/-- A free of context `k` (R352). -/
def Dev.freeTask (d : Dev) (k : Nat) : Status × Dev :=
  if (d.ctx k).st = .idle then (.ok, (d.modCtx k (fun x => { x with st := .free })).bump 40 17) else (.wrongState, d)

/-- FREE (R352). -/
def goFree (m : Master) (task : Nat) (d : Dev) : Dev := d.taskRequest m task (fun k d => d.freeTask k)

def execFree (m : Master) (task : Nat) (s : State) : Host.Outcome State Fault Refusal := .next (s.act fun _ d => goFree m task d)

/-! Ends (R355). -/

/-- Core `c` runs nothing and owes nothing; Gulmet's runtime has it, in M-mode. -/
def Dev.freeTheCore (d : Dev) (c : Nat) : Dev :=
  d.modCore c (fun x => { x with task := none, resume := false, preempt := none, late := false, mipDispatch := false, hart := { x.hart with user := false, resv := none } })

/-- The ending task `k` becomes IDLE, or READY where nothing has cancelled it in this beat (R353). -/
def Dev.leaveRun (d : Dev) (k : Nat) (ready front : Bool) : Dev :=
  if ready && !d.cancelledNow k then d.enlist k front else d.modCtx k (fun x => { x with st := .idle })

/-- Core `c` ends its task with a code: 1 DONE, 2 YIELD, 3 PREEMPTED, for which the runtime has saved the register files (R357). A halted core keeps its task RUNNING and answers no request (R474). -/
def Dev.endTask (d : Dev) (t c code : Nat) : Dev :=
  if (d.core c).halted then d
  else match (d.core c).task with
  | none => d.inc t 14 1
  | some k =>
    if code = 3 && (d.core c).preempt.isNone then d.inc t 14 1
    else
      let d1 := d.freeTheCore c
      match code with
      | 1 => ((d1.modCtx k (fun x => { x with pend := false })).leaveRun k (d.ctx k).pend false).bump 40 14
      | 2 => (d1.leaveRun k true false).bump 40 13
      | _ => (((d1.modCtx k (fun x => { x with saved := true, save := (d.core c).hart })).leaveRun k true true).step 0x8043).bump 40 12

/-- DONE (R355). -/
def goDone (t c : Nat) (d : Dev) : Dev := d.endTask t c 1

def execDone (c : Nat) (s : State) : Host.Outcome State Fault Refusal := .next (s.act fun t d => goDone t c d)

/-- YIELD (R355). -/
def goYield (t c : Nat) (d : Dev) : Dev := d.endTask t c 2

def execYield (c : Nat) (s : State) : Host.Outcome State Fault Refusal := .next (s.act fun t d => goYield t c d)

/-- PREEMPTED (R355): valid only after a request. -/
def goPreempted (t c : Nat) (d : Dev) : Dev := d.endTask t c 3

def execPreempted (c : Nat) (s : State) : Host.Outcome State Fault Refusal := .next (s.act fun t d => goPreempted t c d)

/-- A write of RGM_CORE_END_c: only core c's counts, and CODE 0 has no effect (R351). -/
def Dev.coreEnd (d : Dev) (t : Nat) (m : Master) (c : Nat) (v : Reg) : Dev :=
  if m ≠ .crew c || rfld v 1 0 = 0 then d else d.endTask t c (rfld v 1 0)

/-- Set USER_FAULT; the address goes into the log each time, whether or not the bit was set before (R347). -/
def Dev.logUserFault (d : Dev) (t addr : Nat) : Dev :=
  if (d.reg (incAddr 14)).getLsbD 5 then (d.inc t 14 5 addr).logBit t (incAddr 14) 14 5 addr else d.inc t 14 5 addr

/-- An access of a U-mode task on core `c` that its PMP regions do not allow traps, and Gulmet ends the task as by DONE and logs the address (R347). -/
def Dev.userFault (d : Dev) (t c cause addr : Nat) : Dev :=
  let e := d.coreFault (.crew c) cause addr
  if d.inUser (.crew c) then (e.endTask t c 1).logUserFault t addr else e

/-- USER_FAULT (R347): the row does not say what kind of access it was, so the cause of the trap is a free value among fetch, load and store (log 88). -/
def goUserFault (t c addr : Nat) (d : Dev) : Dev :=
  if d.inUser (.crew c) && !d.stopped (.crew c) then (d.userFault t c ([1, 5, 7].getD (d.free.toNat % 3) 1) addr).drew else d

def execUserFault (c addr : Nat) (s : State) : Host.Outcome State Fault Refusal := .next (s.act fun t d => goUserFault t c addr d)

/-! Dispatch and pre-emption (R354, R356, R357). -/

/-- Lowest free core in an affinity. -/
def Dev.freeCore (d : Dev) (aff : Nat) : Option Nat := (List.range 24).find? (fun c => nbit aff c && (d.core c).task.isNone)

/-- A request is outstanding on behalf of task `k`. -/
def Dev.askedFor (d : Dev) (k : Nat) : Bool :=
  (List.range 24).any (fun c => match (d.core c).preempt with | some (j, _) => j == k | none => false)

/-- A core may be asked to pre-empt for task `k`. -/
def Dev.mayPreempt (d : Dev) (k c : Nat) : Bool :=
  nbit (d.taskAffinity k) c && (d.core c).preempt.isNone &&
  (match (d.core c).task with | some j => !d.taskNp j && decide (d.taskPrio k < d.taskPrio j) | none => false)

/-- How a victim ranks: lowest priority first, then the latest dispatch, then the higher core. -/
def Dev.victimRank (d : Dev) (c : Nat) : Nat :=
  (match (d.core c).task with | some j => d.taskPrio j | none => 0) * 2 ^ 128 + (d.core c).since * 32 + c

/-- The victim for task `k`. -/
def Dev.victim (d : Dev) (k : Nat) : Option Nat :=
  ((List.range 24).filter (d.mayPreempt k)).foldl (fun (b : Option Nat) c => match b with
    | none => some c
    | some e => if d.victimRank e < d.victimRank c then some c else some e) none

/-- Word `i` of a task's descriptor. -/
def Dev.taskField (d : Dev) (k i : Nat) : Word := BitVec.ofNat 64 (ofLe (d.blGet (256 * k + 8 * i) 8))

/-- Dispatch task `k` of list `p` to core `c`, on which Gulmet's runtime enters it (R347, R354). -/
def Dev.giveTask (d : Dev) (t p k c : Nat) : Dev :=
  let saved := (d.ctx k).saved
  let d1 := (d.delist k).modCtx k (fun x => { x with st := .running, core := c, lastTick := tickOf t, saved := false })
  let resume := if saved then some (d.ctx k).save else none
  (d1.modCore c (fun x => { x with
    task := some k, resume := saved, since := beatNo d.glb.up, preempt := none, late := false, mipDispatch := true
    hart := x.hart.enter k (d.taskUser k) resume (d.taskField k 2) (d.taskField k 3) })).bump 40 p

/-- What a boundary does for one waiting task. -/
def Dev.serveTask (d : Dev) (t p k : Nat) : Dev :=
  if d.taskClass k = 3 || d.taskAffinity k = 0 then d
  else match d.freeCore (d.taskAffinity k) with
    | some c => d.giveTask t p k c
    | none =>
      if d.askedFor k then d
      else match d.victim k with
        | none => d
        | some c => (d.modCore c (fun x => { x with preempt := some (k, beatNo d.glb.up), late := false, mipDispatch := true })).bump 40 11

/-- The loop of R354. -/
def Dev.serveAll (d : Dev) (t : Nat) : Dev :=
  (List.range 8).foldl (fun e p => (e.readyList p).foldl (fun e k => e.serveTask t p k) e) d

/-- The Ringmaster's own readies (R353, R360): one IDLE task of CLASS SLOW for each waiting item, in ascending context order. -/
def Dev.slowReadies (d : Dev) : Dev :=
  if d.rgm.bpAll || d.rte.slow.isEmpty then d
  else
    let idle := (d.rgm.ctx.filter (fun e => decide (e.2.st = .idle) && d.taskClass e.1 == 2)).map (·.1)
    (idle.take d.rte.slow.length).foldl (fun e k => (e.readyTask k).2) d

/-- The beats at which a new part of the planner's timeline begins for the firmware (R76): the draft, the fit pass, the cue and the final pass. -/
def planBeats : List Nat := [0, 256, 384, 768]

/-- The readies of the planner timeline (R353): which of Gulmet's tasks they are is open (log 152). -/
def Dev.planReadies (d : Dev) (t : Nat) : Dev :=
  if planBeats.contains (beatOf t) then (Config.planTasks (beatOf t)).foldl (fun e k => (e.readyTask (k % 1024)).2) d else d

/-- Requests that function `f` has had accepted at this boundary and that are not answered yet. -/
def Dev.unansweredNow (d : Dev) (t f : Nat) : Nat := ((d.fn f).waiting.filter (fun r => !r.final && r.beat == beatNo t)).length

/-- Gulmet's readies for mailbox requests (R351, R358): one IDLE task of CLASS HOST, the lowest, for each request accepted and not answered; they arrive in the beat that begins (DESIGN CHOICE, log 153). -/
def Dev.hostReadies (d : Dev) (t : Nat) : Dev :=
  let idle := (d.rgm.ctx.filter (fun e => decide (e.2.st = .idle) && d.taskClass e.1 == 1)).map (·.1)
  let owed := (List.range 16).flatMap (fun f => List.replicate (d.unansweredNow t f) f)
  { d with arrivals := d.arrivals ++ (owed.zip idle).map (fun x => Instr.ready (.fn x.1) (.task x.2)) }

/-- READY tasks. -/
def Dev.readyTasks (d : Dev) : List Nat := (List.range 8).flatMap d.readyList
/-- READY tasks of CLASS HOST. -/
def Dev.readyHost (d : Dev) : Nat := (d.readyTasks.filter (fun k => d.taskClass k == 1)).length

/-- A mark with hysteresis: set above the high mark, cleared below the low one; a low mark at or above the high mark acts as the high mark less 1 (R358). -/
def overMark (on : Bool) (n high low : Nat) : Bool :=
  if high < n then true else if n < (if high ≤ low then high - 1 else low) then false else on

/-- The marks are compared at each boundary, after dispatch (R358, R446). -/
def Dev.marks (d : Dev) : Dev :=
  let h := overMark d.rgm.bpHost d.readyHost (d.pv 0x8010) (d.pv 0x8011)
  let a := overMark d.rgm.bpAll d.readyTasks.length (d.pv 0x8012) (d.pv 0x8013)
  let busy := ((List.range 24).filter (fun c => (d.core c).task.isSome)).length
  ((({ d with rgm := { d.rgm with bpHost := h, bpAll := a } } : Dev).bump 40 23 (b2n h)).bump 40 24 (b2n a)).bump 40 25 busy

/-- DISPATCH (R353, R354, R356, R358, R383): the Ringmaster's part of a boundary, its own readies first. -/
def goDispatch (t : Nat) (d : Dev) : Dev :=
  let d1 := ((d.hostReadies t).planReadies t).slowReadies
  (if d.rgmHalted then d1 else d1.serveAll t).marks

def execDispatch (s : State) : Host.Outcome State Fault Refusal := .next (s.act fun t d => goDispatch t d)

/-- Core `c` has not answered a request within PREEMPT_BEATS boundaries, which is noted once for a request (R357). -/
def Dev.preemptLate (d : Dev) (c : Nat) : Bool :=
  match (d.core c).preempt with
  | some (_, b) => !(d.core c).late && decide (b + d.pv 0x8020 ≤ beatNo d.glb.up)
  | none => false

/-- PREEMPT_SLOW (R357): noted; the request stays. -/
def goPreemptSlow (t c : Nat) (d : Dev) : Dev := if d.preemptLate c then (d.modCore c (fun x => { x with late := true })).inc t 14 0 else d

def execPreemptSlow (c : Nat) (s : State) : Host.Outcome State Fault Refusal := .next (s.act fun t d => goPreemptSlow t c d)

/-! The slow-path queue (R359, R360). -/

/-- SLOW_POP (R360): a read of RGM_SLOW_POP. -/
def goSlowPop (m : Master) (d : Dev) : Dev :=
  if !m.isF0 || d.stopped m then d
  else match d.rte.slow with
    | [] => d.reads m 0
    | k :: rest =>
      (({ d with rte := { d.rte with slow := rest, items := tmod itemReset d.rte.items k (fun x => { x with popped := true }) } } : Dev).bump 40 18).reads m
        (packR [(k, 14, 0), (1, 1, 31)])

def execSlowPop (m : Master) (s : State) : Host.Outcome State Fault Refusal := .next (s.act fun _ d => goSlowPop m d)

/-- Word `i` of an item, as the backlot holds it. -/
def Dev.itemWord (d : Dev) (k i : Nat) : Word := BitVec.ofNat 64 (ofLe (d.blGet (itemOff k + 8 * i) 8))

/-- The item, or the slot, is free again. -/
def Dev.freeItem (d : Dev) (k : Nat) : Dev :=
  { d with rte := { d.rte with items := tput itemReset d.rte.items k {}, slow := d.rte.slow.filter (fun j => j != k) } }

/-- An invalid return: the original frame, if any, is dropped (R360). -/
def Dev.slowBad (d : Dev) (t k : Nat) : Dev :=
  let d1 := d.inc t 14 3
  if (d.item k).used then ((d1.freeItem k).bump 40 21).dropped t (d.item k).pkt.tenant else d1

/-- An address range lies in the firmware part of the backlot or in the HBM remainder (R360). -/
def inFirmware (a n : Nat) : Bool :=
  (decide (crewBacklot + 0x0F40180 ≤ a) && decide (a + n ≤ crewBacklot + 0x2000000)) ||
  (decide (crewHbm + hbmRemainder ≤ a) && decide (a + n ≤ crewHbm + 0x400000000))

/-- Octets at a crew address of the two memories. -/
def Dev.crewGet (d : Dev) (a n : Nat) : List Byte :=
  if a < crewHbm then d.blGet (a - crewBacklot) n else d.hbmGet (a - crewHbm) n

/-- The frame that firmware wrote for item `k` (R280, R282, R359): a reinjected one keeps the tenant and source of the original, an originated one has the tenant that firmware names. -/
def Dev.crewFrame (d : Dev) (k : Nat) (own : Bool) : Pkt :=
  let l := d.crewGet (fld (d.itemWord k 1) 39 0) (fld (d.itemWord k 1) 63 50)
  if own then { octets := l, srcKind := 3, src := 0, tenant := fld (d.itemWord k 0) 59 56, again := true }
  else { (d.item k).pkt with octets := l, again := true }

/-- LEN and ADDR of item `k` name a frame that the router may copy. -/
def Dev.crewFrameOk (d : Dev) (k : Nat) : Bool :=
  let n := fld (d.itemWord k 1) 63 50
  decide (14 ≤ n) && decide (n ≤ 9216) && inFirmware (fld (d.itemWord k 1) 39 0) n

/-- A frame from the crew goes to the router's crew intake. -/
def Dev.fromCrew (d : Dev) (x : Pkt) : Dev := { d with rte := { d.rte with crew := d.rte.crew ++ [x] } }

/-- An item that a core has taken and not returned. -/
def Dev.isPopped (d : Dev) (k : Nat) : Bool := decide (k < 16384) && (d.item k).used && (d.item k).popped
/-- An origination slot. -/
def isOrigin (k : Nat) : Bool := decide (16384 ≤ k) && decide (k < 16408)

/-- What a write of RGM_SLOW_RETURN does (R360). -/
def Dev.slowReturned (d : Dev) (t op k : Nat) : Dev :=
  match op with
    | 1 => if d.isPopped k then ((d.fromCrew { (d.item k).pkt with again := true }).freeItem k).bump 40 19 else d.slowBad t k
    | 2 => if d.isPopped k && d.crewFrameOk k then ((d.fromCrew (d.crewFrame k false)).freeItem k).bump 40 19 else d.slowBad t k
    | 3 =>
      if !d.crewFrameOk k then d.slowBad t k
      else if isOrigin k then (d.fromCrew (d.crewFrame k true)).bump 40 20
      else if d.isPopped k then ((d.fromCrew (d.crewFrame k true)).freeItem k).bump 40 20
      else d.slowBad t k
    | 4 => if d.isPopped k then ((d.freeItem k).bump 40 21).dropped t (d.item k).pkt.tenant else d.slowBad t k
    | _ => d.slowBad t k

/-- A write of RGM_SLOW_RETURN (R360), which may fill the packet-buffer region (R315). -/
def Dev.slowReturn (d : Dev) (t : Nat) (m : Master) (op k : Nat) : Dev := if m.isF0 then (d.slowReturned t op k).noteFull t else d

/-- REINJECT (R360): the original frame enters again. -/
def goReinject (t : Nat) (m : Master) (k : Nat) (d : Dev) : Dev := d.slowReturn t m 1 k

def execReinject (m : Master) (k : Nat) (s : State) : Host.Outcome State Fault Refusal := .next (s.act fun t d => goReinject t m k d)

/-- REINJECT_COPY (R360): the frame at ADDR enters for it. -/
def goReinjectCopy (t : Nat) (m : Master) (k : Nat) (d : Dev) : Dev := d.slowReturn t m 2 k

def execReinjectCopy (m : Master) (k : Nat) (s : State) : Host.Outcome State Fault Refusal := .next (s.act fun t d => goReinjectCopy t m k d)

/-- ORIGINATE (R360): the only operation allowed on an origination slot. -/
def goOriginate (t : Nat) (m : Master) (k : Nat) (d : Dev) : Dev := d.slowReturn t m 3 k

def execOriginate (m : Master) (k : Nat) (s : State) : Host.Outcome State Fault Refusal := .next (s.act fun t d => goOriginate t m k d)

/-- DROP (R360). -/
def goDrop (t : Nat) (m : Master) (k : Nat) (d : Dev) : Dev := d.slowReturn t m 4 k

def execDrop (m : Master) (k : Nat) (s : State) : Host.Outcome State Fault Refusal := .next (s.act fun t d => goDrop t m k d)

/-! Crew commands (R361). -/

/-- The request at a backlot offset: its header says how long it is. -/
def Dev.crewRequest (d : Dev) (off : Nat) : List Word :=
  let w0 : Word := BitVec.ofNat 64 (ofLe (d.backlotGet off 8))
  let n := fld w0 41 32
  octetWords (if 512 < n then 512 else if n = 0 then 1 else n) (d.backlotGet off (8 * (if 512 < n then 512 else if n = 0 then 1 else n)))

/-- Run a crew command: the opcodes of R361, each with F0's rights. -/
def Dev.crewRun (d : Dev) (t c : Nat) (req : List Word) : Dev :=
  let m := Master.crew c
  match reqOp req with
  | 0x640 => goRteTableWrite t m req d
  | 0x641 => goRteTableRead t m req d
  | 0x660 => goTmPolicerWrite t m req d
  | 0x661 => goTmPolicerRead t m req d
  | 0x662 => goTmQueueSample t m req d
  | 0x700 => goWcxKeyWrite t m req d
  | 0x701 => goWcxKeyErase t m req d
  | 0x702 => goWcxKeyQuery t m req d
  | 0x710 => goWcxMacsecPort t m req d
  | op => d.respond t ⟨m, reqTag req, op⟩ .badOpcode []

/-- CREW_COMMAND (R351, R361): a write of RGM_CORE_CMD_c; only core c's counts, and one made while BUSY is lost. -/
def goCrewCommand (t : Nat) (m : Master) (c off : Nat) (d : Dev) : Dev :=
  if m ≠ .crew c then d
  else if (d.core c).cmdBusy then d.inc t 14 4
  else ((d.modCore c (fun x => { x with cmdBusy := true, cmdOffset := off % 2 ^ 25 })).bump 40 22).crewRun t c (d.crewRequest (off % 2 ^ 25))

def execCrewCommand (m : Master) (c off : Nat) (s : State) : Host.Outcome State Fault Refusal :=
  .next (s.act fun t d => goCrewCommand t m c off d)

/-! Registers. -/

/-- RGM_STATE. -/
def Dev.rgmState (d : Dev) : Reg := packR [(d.readyHost, 13, 12), (b2n d.rgm.bpAll, 1, 30), (b2n d.rgm.bpHost, 1, 31)]

/-- RGM_READY: FREE_CTX reads 0 until Gulmet has set its own contexts IDLE at boot. -/
def Dev.rgmReady (d : Dev) : Reg :=
  let used := (d.rgm.ctx.filter (fun e => decide (e.2.st ≠ .free))).length
  packR [(d.readyTasks.length, 13, 0), (if used = 0 then 0 else 4096 - used, 13, 16)]

/-- RGM_CORE_RESULT_c, RGM_CORE_TASK_c and RGM_CORE_CMD_c. -/
def Core.resultReg (x : Core) : Reg := packR [(x.resTask, 12, 0), (x.status, 8, 24)]
def Core.taskReg (x : Core) : Reg :=
  match x.task with
  | none => 0
  | some k => packR [(k, 12, 0), (b2n x.preempt.isSome, 1, 29), (b2n x.resume, 1, 30), (1, 1, 31)]
def Core.cmdReg (x : Core) : Reg := packR [(x.cmdOffset, 25, 0), (b2n x.cmdBusy, 1, 31)]

end Sys2Proof.Machine
end

