-- ==== Sys2Proof/Machine/Reset.lean ====
section
/-! DEFINITION. Device resets (R17, R402 to R404): what each leaves and what it clears. -/
namespace Sys2Proof.Machine

/-- An incident register (R17): xxx_INCIDENT of any block. -/
def isIncident (addr : Nat) : Bool :=
  addr % 0x100000 == 0x40 || addr == 0x0B80040 || (decide (0x100000 ≤ addr) && decide (addr < 0x200000) && addr % 0x10000 == 0x200C)

/-- The code of LAST_RESET for a source; the spec gives none for the reset that ends a boundary scan, whose code is a free value (R404, R471, log 7). -/
def lastResetCode (free : Nat) : ResetSource → Nat
  | .supply => 1 | .warmRstN => 1 | .critical => 5 | .booth => 3 | .stall => 4 | .trial => 6 | .mgrReset => 2
  | .scan => free % 8

/-- A line whose write is cut short is unreadable (R417): the newest log entry, when its write is in progress. -/
def cutLog (up : Nat) (m : Mgr) : Table LogEnt :=
  if up < m.logUntil then tmod (fun _ => ({} : LogEnt)) m.log ((m.nextSeq + 49151) % 49152) (fun e => if e.used then { e with bad := true } else e)
  else m.log

/-- A write of the stores, the NOR or the fuses is in progress: the level of NV_BUSY (R415). -/
def Dev.nvBusy (d : Dev) : Bool := decide (d.glb.up < d.mgr.nvUntil) || d.mgr.nor.isSome

/-- A boot record after a reset that cuts an erase short: the slot under erase is not bootable until it has been written and committed again (R417). -/
def cutSlot (m : Mgr) (r : BootRec) : BootRec :=
  if m.nor.any (fun j => j.pend.op == 0xA10) then
    (if m.slot = 0 then { r with stB := .empty, triesB := 0 } else { r with stA := .empty, triesA := 0 })
  else r

/-- What the management subsystem keeps over a reset: its stores, fuses, boot count, log and the levels of its pins and sensors. -/
def Mgr.kept (m : Mgr) (log : Table LogEnt) : Mgr :=
  { rec0 := cutSlot m m.rec0, rec1 := cutSlot m m.rec1, svnFloor := m.svnFloor, bootCount := m.bootCount, perstLow := m.perstLow, ref40 := m.ref40,
    ref100 := m.ref100, ref156 := m.ref156, lowRails := m.lowRails, temps := m.temps, mv := m.mv, ma := m.ma, saved := m.saved,
    log := log, nextSeq := m.nextSeq, logQ := m.logQ, lineWrites := m.lineWrites, pfail := m.pfail }

/-- Warm reset (R403): show time, incident bits, the fault registers, the stores and the Turnstile stay; everything else returns to its reset value, and HBM contents are undefined. The TAP, the entries of the log's second and what holds D2 to D11 in reset (R402, R420, R471) stay too (DEDUCED, log 7). -/
def Dev.warmClear (d : Dev) (code : Nat) : Dev :=
  { glb := { up := d.glb.up, tsPresent := d.glb.tsPresent, incSet := d.glb.incSet, msix := d.glb.msix }
    host := d.host
    regs := d.regs.filter (fun e => isIncident e.1)
    freeN := d.freeN
    mem := { faultAddr := d.mem.faultAddr, faultKind := d.mem.faultKind, faultMaster := d.mem.faultMaster, epoch := d.mem.epoch + 1, scrubbed := d.glb.up }
    gaf := { pllSince := d.glb.up, held := d.tst.scanning || !d.mgr.lowRails.isEmpty }
    mgr := { (d.mgr.kept (cutLog d.glb.up d.mgr)) with lastReset := code, resetBeat := some (beatNo d.glb.up), sec := d.mgr.sec, secCount := d.mgr.secCount }
    ts := { d.ts with chipDark := true }
    tst := {
      instr := d.tst.instr, boundary := d.tst.boundary, captured := d.tst.captured, life := d.tst.life, fails := d.tst.fails,
      scanning := d.tst.scanning, highz := d.tst.highz, connected := d.tst.instr == 0x20 && d.tst.life == 1 } }

/-- Power-on reset (R402): everything but the Turnstile and what non-volatile stores and fuses hold. -/
def Dev.powerClear (d : Dev) : Dev :=
  { glb := { tsPresent := d.glb.tsPresent }
    host := d.host
    freeN := d.freeN
    mem := { epoch := d.mem.epoch + 1 }
    mgr := { (d.mgr.kept (cutLog d.glb.up d.mgr)) with bootCount := 0, lineWrites := 0, logQ := [], lastReset := 0 }
    ts := { d.ts with chipDark := true, mirror := {} }
    tst := { life := d.tst.life } }

/-- Which sources flush the settings store first (R414). -/
def flushes : ResetSource → Bool
  | .mgrReset | .critical | .stall | .trial => true
  | _ => false

/-- Write every changed settings line to both copies under NV_BUSY (R414). How many lines the changed properties fill is open, so the count of lines is a free value between 1 and their number (log 8). The write lasts 1 µs a line and copy, at most 10 ms (R415). -/
def Dev.flush (d : Dev) : Dev :=
  let n := d.mgr.dirty.length
  if n = 0 then { d with mgr := { d.mgr with lastFlush := d.glb.up, flushDeferred := false } }
  else
    let lines := 1 + d.free.toNat % n
    { d with mgr := { d.mgr with
        saved := d.mgr.dirty.foldl (fun t k => tinsert k (d.written k) (tdel k t)) d.mgr.saved
        dirty := [], lastFlush := d.glb.up, flushDeferred := false, lineWrites := d.mgr.lineWrites + 2 * lines
        nvUntil := Nat.max d.mgr.nvUntil (d.glb.up + Nat.min 10000000 (2000 * n)) } }.drew.bump 43 2 (2 * lines)

/-- Settings that a PROP_SET has written and the store does not yet hold. -/
def Dev.flushForReset (d : Dev) (src : ResetSource) : Dev :=
  if flushes src && !d.mgr.pfail then d.flush else d

/-- The order of R404 among the codes of LAST_RESET. -/
def codeRank (c : Nat) : Nat := match c with | 0 => 1 | 1 => 2 | 5 => 4 | 3 => 5 | 4 => 6 | 6 => 7 | 2 => 8 | _ => 9

/-- The device has been reset in this beat: a further reset event gives no second reset (R404). -/
def Dev.justReset (d : Dev) : Bool := d.mgr.resetBeat = some (beatNo d.glb.up) && !d.mgr.booted

/-- The management core or a crew core holds the seal lock, which the reset of that core releases (R336). -/
def Dev.coreHoldsSeal (d : Dev) : Bool := d.sealEng.held && decide (0x10 ≤ d.sealEng.owner)

/-- The warm reset (R336, R403, R404): events of one beat give one reset, whose LAST_RESET is the first of their sources. -/
def Dev.resetNow (d : Dev) (t : Nat) (src : ResetSource) : Dev :=
  let code := lastResetCode d.free.toNat src
  let d1 : Dev :=
    if d.justReset then { d with mgr := { d.mgr with lastReset := if codeRank d.mgr.lastReset ≤ codeRank code then d.mgr.lastReset else code } }
    else (if d.coreHoldsSeal then d.inc t 12 1 else d).warmClear code
  if src = .scan then d1.drew else d1

/-- A source's reset takes effect at once (R404): it waits neither for NV_BUSY nor for a flush. -/
def Dev.resetsNow (d : Dev) (src : ResetSource) : Bool :=
  src == .warmRstN || (!d.nvBusy && !(flushes src && !d.mgr.pfail && !d.mgr.dirty.isEmpty))

/-- Which of two waiting sources LAST_RESET records: the first in the order of R404. -/
def resetRank : ResetSource → Nat
  | .supply => 2 | .warmRstN => 3 | .critical => 4 | .booth => 5 | .stall => 6 | .trial => 7 | .mgrReset => 8 | .scan => 9

/-- Merge a source into the waiting one. -/
def waitWith (old : Option ResetSource) (src : ResetSource) : ResetSource :=
  match old with
  | some o => if resetRank o ≤ resetRank src then o else src
  | none => src

/-- Ask for a warm reset (R404, R414). -/
def Dev.warmReset (d : Dev) (t : Nat) (src : ResetSource) : Dev :=
  let all := waitWith d.mgr.waitReset src
  if src = .warmRstN then d.resetNow t all
  else
    let d1 := d.flushForReset src
    if d1.nvBusy then { d1 with mgr := { d1.mgr with waitReset := some all } }
    else d1.resetNow t all

end Sys2Proof.Machine
end

