-- ==== Sys2Proof/Machine/Management.lean ====
section
/-! DEFINITION. Management, boot, update and incidents (R399 to R423). -/
namespace Sys2Proof.Machine

/-! Resets. -/

/-- POWER_ON_RESET (R402, R29): everything but the Turnstile is reset, and show time starts again at 0. -/
def execPowerOnReset (s : State) : Host.Outcome State Fault Refusal :=
  .next { now := 0, pending := s.pending, dev := s.dev.powerClear }

/-- The voltage in mV below which a monitor reports a supply failure (R402, R458): VDD_CORE 50 mV below the voltage asked for, the other rails their operating minimum; none for monitors 14 and 15. -/
def railMin (d : Dev) (j : Nat) : Option Nat :=
  if j < 3 then some (600 + 5 * d.gaf.vid - 50)
  else if j < 5 then some 800
  else if j < 8 then some 950
  else if j < 12 then some 1710
  else if j < 14 then some 1067
  else none

/-- Every FEM line low, FEM_SEL with the port it follows among them (R213, R381, R402). -/
def Dev.femLow (d : Dev) : Dev :=
  (List.range 48).foldl (fun e c => e.modChain c (fun x => { x with pa := false, lna := false, byp := false, port := 0 })) d

/-- SUPPLY_FAILURE (R402): a monitor stood at `mv` for 1 µs. Below the minimum, the FEM lines go low and D2 to D11 are held in reset; when the last low rail has recovered, the device performs a warm reset. -/
def goSupplyFailure (t monitor mv : Nat) (d : Dev) : Dev :=
  let d1 := d.sense { millivolts := [(monitor, mv)] }
  match railMin d monitor with
  | none => d1
  | some lo =>
    if mv < lo then
      let d2 := (d1.femLow).inc t 17 3
      { d2 with
        gaf := { d2.gaf with held := true }
        ts := { d2.ts with chipDark := true }
        mgr := { d2.mgr with lowRails := monitor :: d2.mgr.lowRails.filter (· != monitor) } }
    else
      let d2 := { d1 with mgr := { d1.mgr with lowRails := d1.mgr.lowRails.filter (· != monitor) } }
      if d1.mgr.lowRails.contains monitor && d2.mgr.lowRails.isEmpty then d2.warmReset t .supply else d2

def execSupplyFailure (monitor mv : Nat) (s : State) : Host.Outcome State Fault Refusal :=
  .next (s.act fun t d => goSupplyFailure t monitor mv d)

/-- WARM_RESET (R402 to R404, R414). -/
def execWarmReset (src : ResetSource) (s : State) : Host.Outcome State Fault Refusal :=
  .next (s.act fun t d => d.warmReset t src)

/-! Boot. -/

/-- State of slot 0 = A or 1 = B. -/
def BootRec.st (r : BootRec) (i : Nat) : SlotState := if i = 0 then r.stA else r.stB
/-- TRIES of a slot. -/
def BootRec.tries (r : BootRec) (i : Nat) : Nat := if i = 0 then r.triesA else r.triesB
/-- Set a slot's state and tries. -/
def BootRec.setSlot (r : BootRec) (i : Nat) (st : SlotState) (tries : Nat) : BootRec :=
  if i = 0 then { r with stA := st, triesA := tries } else { r with stB := st, triesB := tries }
/-- Set a slot's SVN. -/
def BootRec.setSvn (r : BootRec) (i svn : Nat) : BootRec :=
  if i = 0 then { r with svnA := svn } else { r with svnB := svn }

/-- The boot record in use and its copy (R409): the higher SEQ among the copies that pass; neither, and both slots count as GOOD with PREF 0 (R410). -/
def useRec (m : Mgr) (c0 c1 : Bool) : BootRec × Nat :=
  match c0, c1 with
  | true, true => if m.rec0.seq < m.rec1.seq then (m.rec1, 1) else (m.rec0, 0)
  | true, false => (m.rec0, 0)
  | false, true => (m.rec1, 1)
  | false, false => ({ stA := .good, stB := .good }, 1)

/-- The record as the running device knows it. -/
def Mgr.bootRec (m : Mgr) : BootRec := (useRec m true true).1

/-- A new record goes to the other copy with SEQ + 1 (R409). -/
def writeRec (m : Mgr) (used : Nat) (r : BootRec) : Mgr :=
  let r1 := { r with seq := r.seq + 1 }
  if used = 0 then { m with rec1 := r1 } else { m with rec0 := r1 }

/-- A slot passes verification (R410). -/
def slotPasses (floor : Nat) (x : SlotCheck) : Bool := x.keyOk && x.sigOk && x.digestOk && decide (floor ≤ x.svn)

/-- What slot choice leaves: the stores, the slot that boots, and whether an image below the floor was refused. -/
structure Choice where
  mgr : Mgr
  cur : BootRec
  used : Nat
  slot : Option Nat := none
  rollback : Bool := false

/-- Mark a slot in the record and write it (R410). -/
def Choice.mark (c : Choice) (i : Nat) (st : SlotState) (tries : Nat) : Choice :=
  let r := c.cur.setSlot i st tries
  { c with mgr := writeRec c.mgr c.used r, cur := { r with seq := r.seq + 1 }, used := 1 - c.used }

/-- One pass of slot choice (R410). -/
def Choice.try (c : Choice) (i : Nat) (x : SlotCheck) : Choice :=
  if c.slot.isSome then c
  else
    let verify (c : Choice) : Choice :=
      if slotPasses c.mgr.svnFloor x then { c with slot := some i }
      else { (c.mark i .bad (c.cur.tries i)) with rollback := c.rollback || decide (x.svn < c.mgr.svnFloor) }
    match c.cur.st i with
    | .trial =>
      if c.cur.tries i = 0 then c.mark i .bad 0
      else verify (c.mark i .trial (c.cur.tries i - 1))
    | .good => verify c
    | _ => c

/-- Slot choice at boot step 4 (R410). -/
def chooseSlot (m : Mgr) (x : BootFacts) : Choice :=
  let u := useRec m x.copy0 x.copy1
  let c : Choice := { mgr := m, cur := u.1, used := u.2 }
  let a := u.1.pref
  let chk (i : Nat) : SlotCheck := if i = 0 then x.slotA else x.slotB
  (c.try a (chk a)).try (1 - a) (chk (1 - a))

/-- PERSIST values come back at boot step 8, but those whose line has no readable copy (R405, R413). -/
def restoreProps (d : Dev) (unreadable : List Nat) : Dev :=
  d.mgr.saved.foldl (fun e kv =>
    if unreadable.contains kv.1 then e
    else { e with props := tput propReset e.props kv.1 kv.2, force := tput propReset e.force kv.1 kv.2 }) d

/-- The factory characterisation by property instance (R105): the entries for the bandwidths that a radio supports, and the fixed energies. -/
def factoryValues : List (Nat × Word) :=
  ((List.range 48).filter energyIndex).map (fun i => (propKey 0x1040 0 i, (Config.factoryEnergy i).setWidth 64)) ++
  (List.range 3).map (fun r => (propKey 0x1041 0 r, BitVec.ofNat 64 (Nat.min 1000000 (Config.factoryTakeFixed r).toNat)))

/-- The factory characterisation is loaded over the DEFAULT of 0 (R105); saved values come after it. -/
def loadFactory (d : Dev) : Dev :=
  factoryValues.foldl (fun e kv => { e with props := tput propReset e.props kv.1 kv.2, force := tput propReset e.force kv.1 kv.2 }) d

/-- TRIP_C as the settings store holds it (R405). -/
def savedTrip (d : Dev) : Int := (tlook propReset d.mgr.saved (propKey 0x9005 0 0)).toInt

/-- Push the BOOT entry of the log (R418, R419). -/
def Dev.logBoot (d : Dev) (t : Nat) : Dev :=
  { d with mgr := { d.mgr with logQ := d.mgr.logQ ++ [
      { time := boundaryOf t, boot := d.mgr.bootCount, block := 17, kind := 2, bit := 0,
        detail := d.mgr.lastReset + 8 * d.mgr.slot, used := true }] } }

/-- Enter recovery (R407): the management core serves slot 0, and the virtual functions are OFF. -/
def Dev.recover (d : Dev) (cause : Nat) : Dev :=
  { d with
    mgr := { d.mgr with recovery := true, recCause := cause, booted := true, step9 := d.glb.up }
    fns := d.fns.filter (fun e => e.1 == 0) }

/-- Gulmet loads the ports' addresses into EMAC_ADDR_HI and EMAC_ADDR_LO (chapter 9). -/
def loadPortAddrs (d : Dev) : Dev :=
  (List.range 4).foldl (fun e p =>
    (e.putReg (emacAddr p 0x18) ((Config.portAddr p).setWidth 32)).putReg (emacAddr p 0x1C) (((Config.portAddr p) >>> 32).setWidth 32)) d

/-- The mismatches of the stores that have no readable copy (R341, R413): two for the factory characterisation, and two for each settings line; how many lines the properties fill is a free value (log 8). -/
def Dev.badStores (d : Dev) (t : Nat) (x : BootFacts) : Dev :=
  let e := d.badRecords t (2 * b2n (!x.factoryOk))
  if x.unreadable.isEmpty then e else (e.badRecords t (2 * (1 + e.free.toNat % x.unreadable.length))).drew

/-- BOOT (R338, R349, R405 to R410): the device comes out of reset, into service or into recovery; how many lines the console carries on the way is a free value (log 8). After a critical temperature it waits until every sensor reads below TRIP_C - 10 °C. -/
def goBoot (t : Nat) (x : BootFacts) (d0 : Dev) : Dev :=
  let d := d0.sense x.readings
  if d.mgr.booted || d.gaf.held || !d.mgr.lowRails.isEmpty then d
  else if d.mgr.lastReset = 5 && !decide (d.hottest < savedTrip d - 10) then d
  else
    let m0 := { d.mgr with ref40 := x.ref40, ref100 := x.ref100, ref156 := x.ref156, bootCount := (d.mgr.bootCount + 1) % 65536 }
    let d1 := (({ d with mgr := m0 } : Dev).modChk 0 (fun c => { c with held := true, owner := 0x10 })).bump 43 6 |>.bump 43 7 (d.free.toNat % 65536) |>.drew
    if !x.ref40 || !x.ref100 then (d1.logBoot t).recover 2
    else if !x.norOk then (d1.logBoot t).recover 4
    else
      let c := chooseSlot m0 x
      let d2 := ({ d1 with mgr := c.mgr } : Dev).badRecords t (b2n (!x.copy0) + b2n (!x.copy1))
      let d3 := if c.rollback then d2.inc t 17 8 else d2
      match c.slot with
      | none => (d3.logBoot t).recover 1
      | some i =>
        let d4 : Dev := { d3 with mgr := { d3.mgr with slot := i } }
        let d5 := (if i ≠ (useRec m0 x.copy0 x.copy1).1.pref then d4.inc t 17 7 else d4).logBoot t
        let d6 := if x.unreadable.isEmpty && x.factoryOk then d5 else (d5.badStores t x).inc t 17 6
        if d6.tst.life = 3 then (d6.recover (d6.free.toNat % 16)).drew
        else if !x.hbmOk then
          ({ d6 with mem := { d6.mem with hbmFailed := true } }.inc t 15 4).recover 3
        else
          let d7 := loadPortAddrs (restoreProps (if x.factoryOk then loadFactory d6 else d6) x.unreadable)
          { d7 with
            mgr := { d7.mgr with booted := true, step9 := d7.glb.up, missed := 0, lastFlush := d7.glb.up }
            rgm := { d7.rgm with ctx := (List.range 1024).map (fun k => (k, ({ st := .idle } : Ctx))) }
            gaf := { d7.gaf with pllTarget := some 0, pllSince := d7.glb.up } }

def execBoot (x : BootFacts) (s : State) : Host.Outcome State Fault Refusal := .next (s.act fun t d => goBoot t x d)

/-- PERST_N (R406): low resets the endpoint and every function like a Function Level Reset of F0; it is no warm reset. -/
def goPerstN (t : Nat) (low : Bool) (d : Dev) : Dev :=
  let d1 : Dev := { d with mgr := { d.mgr with perstLow := low } }
  if low then d1.flr t 0 else d1

def execPerstN (low : Bool) (s : State) : Host.Outcome State Fault Refusal := .next (s.act fun t d => goPerstN t low d)

/-- PCIE_REFERENCE_LOSS (R421): without the 100 MHz reference the host link is down; radios and Ethernet forwarding go on. -/
def goPcieReferenceLoss (present : Bool) (d : Dev) : Dev := { d with mgr := { d.mgr with ref100 := present } }

def execPcieReferenceLoss (present : Bool) (s : State) : Host.Outcome State Fault Refusal :=
  .next (s.act fun _ d => goPcieReferenceLoss present d)

/-- The host reaches the functions (R406, R407, R421): step 9 is reached, PERST_N is high and the 100 MHz reference is present. -/
def Dev.hostUp (d : Dev) : Bool := d.mgr.booted && !d.mgr.perstLow && d.mgr.ref100

/-! Watchdogs. -/

/-- The management core is stopped: halted by the debug access port, or by a boundary scan (R471, R474). -/
def Dev.mgrStopped (d : Dev) : Bool := d.mgr.halted || d.tst.scanning

/-- HEARTBEAT (R401): Gulmet's signal of this tick. -/
def goHeartbeat (d : Dev) : Dev := { d with mgr := { d.mgr with beatSeen := true, missed := 0 } }

def execHeartbeat (s : State) : Host.Outcome State Fault Refusal := .next (s.act fun _ d => goHeartbeat d)

/-- GULMET_STALL (R401): after STALL_TICKS ticks in a row without a heartbeat, while the management core runs. -/
def goGulmetStall (t : Nat) (d : Dev) : Dev :=
  if d.mgrStopped || decide (d.mgr.missed < d.pv 0xA003) then d
  else
    let d1 := ({ d with mgr := { d.mgr with missed := 0 } } : Dev).inc t 17 1
    if d.pv 0xA002 = 1 then d1.warmReset t .stall else d1

def execGulmetStall (s : State) : Host.Outcome State Fault Refusal := .next (s.act fun t d => goGulmetStall t d)

/-- BOOTH_WATCHDOG (R401): the booth watchdog expired, which it does not while the core is stopped (R471, R474). -/
def goBoothWatchdog (t : Nat) (d : Dev) : Dev :=
  if d.mgrStopped then d else (d.inc t 17 2).warmReset t .booth

def execBoothWatchdog (s : State) : Host.Outcome State Fault Refusal := .next (s.act fun t d => goBoothWatchdog t d)

/-- The running slot is TRIAL (R412). -/
def Dev.trialRunning (d : Dev) : Bool := d.mgr.booted && !d.mgr.recovery && decide (d.mgr.bootRec.st d.mgr.slot = .trial)

/-- An MGR_IMAGE_CONFIRM has been accepted since step 9 (R412). -/
def Dev.confirmAccepted (d : Dev) : Bool := d.mgr.confirmed || d.mgr.heldCmds.any (fun j => j.pend.op == 0xA13)

/-- The trial's time is over: TRIAL_CONFIRM_S seconds from step 9, and no confirm accepted (R412). -/
def Dev.trialOver (d : Dev) : Bool := d.trialRunning && !d.confirmAccepted && decide (d.mgr.step9 + d.pv 0xA004 * 1000000000 ≤ d.glb.up)

/-- TRIAL_TIMEOUT (R412). -/
def goTrialTimeout (t : Nat) (d : Dev) : Dev := if d.trialOver then d.warmReset t .trial else d

def execTrialTimeout (s : State) : Host.Outcome State Fault Refusal := .next (s.act fun t d => goTrialTimeout t d)

/-! Stores and the log. -/

/-- The management core has quiesced and defers new writes to the stores (R383). -/
def Dev.mgrQuiet (d : Dev) : Bool := d.gaf.quiesced.testBit 8

/-- SETTINGS_FLUSH (R383, R414, R415): the changed lines are written, or the flush is deferred while PFAIL_N is low; a core that has quiesced makes it once it resumes. -/
def goSettingsFlush (d : Dev) : Dev :=
  if d.mgr.pfail then ({ d with mgr := { d.mgr with flushDeferred := true } } : Dev).bump 43 3
  else if d.mgrQuiet then d
  else d.flush

def execSettingsFlush (s : State) : Host.Outcome State Fault Refusal := .next (s.act fun _ d => goSettingsFlush d)

/-- A log entry that nothing has written. -/
def logReset : Nat → LogEnt := fun _ => {}

/-- Append an entry with the next sequence number (R418): the newest overwrites the oldest of 49,152. -/
def Dev.logWrite (d : Dev) (e : LogEnt) : Dev :=
  { d with mgr := { d.mgr with
      log := tput logReset d.mgr.log (d.mgr.nextSeq % 49152) { e with seq := d.mgr.nextSeq }
      nextSeq := (d.mgr.nextSeq + 1) % 2 ^ 32, lineWrites := d.mgr.lineWrites + 1
      nvUntil := Nat.max d.mgr.nvUntil (d.glb.up + 1000), logUntil := d.glb.up + 1000 } }.bump 43 2

/-- LOG_OVERFLOW (R420): at the end of a second, one MERGED entry for each block that was counted; while no new write may begin they wait (R383, R415). -/
def goLogOverflow (t : Nat) (d : Dev) : Dev :=
  if d.mgr.pfail || d.mgrQuiet then d else
  let d1 := d.mgr.merged.foldl (fun e m =>
    ((e.logWrite { time := boundaryOf t, boot := e.mgr.bootCount, block := m.1, kind := 1, detail := m.2, value := e.reg (incAddr m.1), used := true }).bump 43 1).bump 43 7) d
  let d2 : Dev := { d1 with mgr := { d1.mgr with merged := [], sec := t / 1000000000, secCount := 0 } }
  if d.mgr.merged.isEmpty then d2 else d2.inc t 17 5

def execLogOverflow (s : State) : Host.Outcome State Fault Refusal := .next (s.act fun t d => goLogOverflow t d)

/-- LOG_ENTRY (R399, R418, R420): the oldest newly set bit that waits becomes an entry and a line on the console, or is counted for its block once the second has had 1,024; while PFAIL_N is low, or the core has quiesced, it waits (R383, R415). -/
def goLogEntry (t : Nat) (d : Dev) : Dev :=
  match d.mgr.logQ with
  | [] => d
  | e :: rest =>
    if d.mgr.pfail || d.mgrQuiet then d
    else
      let d1 := if d.mgr.sec = t / 1000000000 then d else goLogOverflow t d
      let d2 : Dev := { d1 with mgr := { d1.mgr with logQ := rest ++ d1.mgr.logQ.drop (rest.length + 1) } }
      if d2.mgr.secCount < 1024 then
        ({ d2 with mgr := { d2.mgr with secCount := d2.mgr.secCount + 1 } }.logWrite e).bump 43 0 |>.bump 43 7
      else { d2 with mgr := { d2.mgr with merged := tmod (fun _ => 0) d2.mgr.merged e.block (· + 1) } }

def execLogEntry (s : State) : Host.Outcome State Fault Refusal := .next (s.act fun t d => goLogEntry t d)

/-- MGR_BOOT_STATUS. -/
def Dev.bootStatus (d : Dev) : Reg :=
  let m := d.mgr
  packR [(m.bootCount, 16, 0), (m.svnFloor, 6, 16), (m.lastReset, 3, 22), (b2n d.trialRunning, 1, 25), (m.slot, 1, 26),
    (m.recCause, 4, 27), (b2n m.recovery, 1, 31)]

/-- Image commands that wait for PFAIL_N alone. -/
def Dev.norWaiting (d : Dev) : Nat := if d.mgr.nor.isNone then d.mgr.heldCmds.length else 0

/-- MGR_NV_STATE (R415): DEFERRED counts the writes that wait for PFAIL_N. -/
def Dev.nvState (d : Dev) : Reg :=
  packR [(if d.mgr.pfail then Nat.min 65535 (d.mgr.logQ.length + b2n d.mgr.flushDeferred + d.norWaiting) else 0, 16, 0),
    (b2n d.mgr.pfail, 1, 30), (b2n d.nvBusy, 1, 31)]

/-! Mailbox commands (R423). -/

/-- MGR_RESET: OK, and the warm reset follows 16 beats after acceptance, of the first where several are accepted. -/
def goMgrReset (t : Nat) (who : Master) (req : List Word) (d : Dev) : Dev :=
  d.mbxNow t (fixedSpec 0xA00 true 1 []) who req (fun d =>
    (.ok, [], { d with mgr := { d.mgr with resetAt := some (d.mgr.resetAt.getD (beatNo d.glb.up + 16)) } }))

def execMgrReset (f : Nat) (req : List Word) (s : State) : Host.Outcome State Fault Refusal :=
  .next (s.act fun t d => goMgrReset t (.fn f) req d)

/-- `n` fields of `w` bits, `k` to a word, of a reading by number. -/
def packReadings (w k words : Nat) (val : Nat → Nat) : List Word :=
  (List.range words).map (fun i => packW ((List.range k).map (fun j => (val (i * k + j), w, w * j))))

/-- mV of a monitor; monitor 15 reads 0 where the Turnstile is fused out (R443). -/
def Dev.milliVolt (d : Dev) (j : Nat) : Nat :=
  if j = 15 && !d.glb.tsPresent then 0
  else let v := tlook mvNominal d.mgr.mv j; if v = 65536 then 600 + 5 * d.gaf.vid else v
/-- mA of an input; one whose shunt property is 0 reads 0 (R460). -/
def Dev.milliAmp (d : Dev) (k : Nat) : Nat := if d.pv 0xA020 0 k = 0 then 0 else tlook (fun _ => 0) d.mgr.ma k

/-- MGR_SENSOR_READ: the readings of the beat of acceptance. -/
def goMgrSensorRead (t : Nat) (who : Master) (req : List Word) (d : Dev) : Dev :=
  d.mbxNow t (fixedSpec 0xA01 false 1 []) who req (fun d =>
    (.ok, packReadings 8 8 3 (fun i => unsgn 8 (d.temp i)) ++ packReadings 16 4 4 d.milliVolt ++ packReadings 32 2 2 d.milliAmp, d))

def execMgrSensorRead (f : Nat) (req : List Word) (s : State) : Host.Outcome State Fault Refusal :=
  .next (s.act fun t d => goMgrSensorRead t (.fn f) req d)

/-- The store address of an entry's line (R413). -/
def logAddr (seq : Nat) : Nat := (seq % 49152) * 64

/-- An entry's eight words (R419); an unreadable one has KIND 3 and SEQ, and nothing else. -/
def logWords (e : LogEnt) : List Word :=
  if e.bad then [0, 0, packW [(3, 2, 6), (e.seq, 32, 32)], 0, 0, 0, 0, 0]
  else
    let ws : List Word := [BitVec.ofNat 64 e.time, BitVec.ofNat 64 (tickOf e.time),
      packW [(e.bit, 5, 0), (e.kind, 2, 6), (e.block, 5, 8), (e.boot, 16, 16), (e.seq, 32, 32)],
      BitVec.ofNat 64 e.detail, packW [(e.value.toNat, 32, 0)], 0, 0]
    ws ++ [BitVec.ofNat 64 (crcFeeds 1 (crcStart 1 true true (logAddr e.seq) (e.seq % 65536)) (wordOctets ws) ^^^ crcFinal 1)]

/-- Entries of the log from a sequence number upward, at most `n`. -/
def logFrom (log : Table LogEnt) (next : Nat) : Nat → Nat → List LogEnt
  | 0, _ => []
  | n + 1, seq =>
    let e := tlook logReset log (seq % 49152)
    if seq = next || !(e.used && e.seq == seq) then [] else e :: logFrom log next n ((seq + 1) % 2 ^ 32)

/-- SEQ of the oldest entry held. -/
def logOldest (m : Mgr) : Nat :=
  if m.log.length < 49152 then (m.nextSeq + 2 ^ 32 - m.log.length) % 2 ^ 32 else (m.nextSeq + 2 ^ 32 - 49152) % 2 ^ 32

/-- MGR_LOG_READ (R341, R423): up to 63 entries; a FIRST_SEQ older than the oldest entry held starts at the oldest, and every entry whose line fails its check is a mismatch on CHK0. -/
def goMgrLogRead (t : Nat) (who : Master) (req : List Word) (d : Dev) : Dev :=
  d.mbxNow t (fixedSpec 0xA02 true 2 [(1, [(63, 40)])]) who req (fun d =>
    let count := fld (wd req 1) 39 32
    let first := fld (wd req 1) 31 0
    judged d [(count = 0 || decide (63 < count), .badParam)] (fun d =>
      let m := d.mgr
      let old := logOldest m
      let held := (m.nextSeq + 2 ^ 32 - old) % 2 ^ 32
      let back := (m.nextSeq + 2 ^ 32 - first) % 2 ^ 32
      let start := if held < back && decide (back < 2 ^ 31) then old else first
      let es := logFrom m.log m.nextSeq count start
      (.ok, packW [((m.nextSeq + 2 ^ 32 - 1) % 2 ^ 32, 32, 0), (es.length, 8, 32)] :: es.flatMap logWords, d.badRecords t (es.filter (·.bad)).length)))

def execMgrLogRead (f : Nat) (req : List Word) (s : State) : Host.Outcome State Fault Refusal :=
  .next (s.act fun t d => goMgrLogRead t (.fn f) req d)

/-- The slot that is not running. -/
def Dev.otherSlot (d : Dev) : Nat := 1 - d.mgr.slot

/-- N of MGR_IMAGE_WRITE, from its LEN. -/
def imgN (ws : List Word) : Nat := reqLen ws - 2
/-- OFFSET of MGR_IMAGE_WRITE. -/
def imgOffset (ws : List Word) : Nat := fld (wd ws 1) 24 0

/-- An MGR_IMAGE_WRITE whose octets are misplaced (R423). -/
def imageMisplaced (op : Nat) (ws : List Word) : Bool :=
  op == 0xA11 && (imgOffset ws % 8 != 0 || decide (32505856 < imgOffset ws + 8 * imgN ws))

/-- The update rows that are judged before the NOR is touched (R423), in their order; the rest comes with the operation's end. PFAIL_N counts at acceptance. -/
def imageRefusal (d : Dev) (op : Nat) (ws : List Word) (held : Bool) : Option Status :=
  let off := imgOffset ws
  let n := imgN ws
  firstOf [
    (imageMisplaced op ws, .badParam),
    ((op == 0xA11 || op == 0xA12) && !d.mgr.image.begun, .wrongState),
    (op == 0xA11 && d.mgr.image.ranges.any (fun r => decide (off < r.2) && decide (r.1 < off + 8 * n)), .wrongState),
    (op == 0xA13 && !d.trialRunning, .wrongState),
    (op == 0xA10 && d.trialRunning, .wrongState),
    (!held && d.mgr.pfail, .busy)]

/-- Start an accepted image command (R423): refused, or the NOR at work; one that has been held back has had its PENDING. -/
def startImage (t : Nat) (j : NorJob) (held : Bool) (d : Dev) : Dev :=
  match imageRefusal d j.pend.op j.words held with
  | some st => d.respond t j.pend st []
  | none =>
    let d1 : Dev := { d with mgr := { d.mgr with nor := some j, confirmed := d.mgr.confirmed || j.pend.op == 0xA13 } }
    if held then d1 else d1.respond t j.pend .pending []

/-- An image command (R61, R423): it waits behind the one in progress, with PENDING as its first response (DEDUCED, log 134: the first response is due within 1,000 beats), but for what is refused whatever the one ahead does. -/
def goImage (t : Nat) (sp : CmdSpec) (who : Master) (req : List Word) (d : Dev) : Dev :=
  d.mbx t sp who req (fun p d =>
    if !d.mgr.nor.isSome then startImage t ⟨p, req⟩ false d
    else match firstOf [(imageMisplaced p.op req, .badParam), (d.mgr.pfail, .busy)] with
      | some st => d.respond t p st []
      | none => ({ d with mgr := { d.mgr with heldCmds := d.mgr.heldCmds ++ [⟨p, req⟩] } } : Dev).respond t p .pending [])

def goMgrImageBegin (t : Nat) (who : Master) (req : List Word) (d : Dev) : Dev := goImage t (fixedSpec 0xA10 true 1 []) who req d
def goMgrImageWrite (t : Nat) (who : Master) (req : List Word) (d : Dev) : Dev :=
  goImage t { op := 0xA11, f0Only := true, lenOk := fun l => decide (3 ≤ l) && decide (l ≤ 512), reserved := fun ws => resv (wd ws 1) [(63, 25)] } who req d
def goMgrImageCommit (t : Nat) (who : Master) (req : List Word) (d : Dev) : Dev := goImage t (fixedSpec 0xA12 true 1 []) who req d
def goMgrImageConfirm (t : Nat) (who : Master) (req : List Word) (d : Dev) : Dev := goImage t (fixedSpec 0xA13 true 1 []) who req d

def execMgrImageBegin (f : Nat) (req : List Word) (s : State) : Host.Outcome State Fault Refusal :=
  .next (s.act fun t d => goMgrImageBegin t (.fn f) req d)
def execMgrImageWrite (f : Nat) (req : List Word) (s : State) : Host.Outcome State Fault Refusal :=
  .next (s.act fun t d => goMgrImageWrite t (.fn f) req d)
def execMgrImageCommit (f : Nat) (req : List Word) (s : State) : Host.Outcome State Fault Refusal :=
  .next (s.act fun t d => goMgrImageCommit t (.fn f) req d)
def execMgrImageConfirm (f : Nat) (req : List Word) (s : State) : Host.Outcome State Fault Refusal :=
  .next (s.act fun t d => goMgrImageConfirm t (.fn f) req d)

/-- Change a slot in the boot record. -/
def Dev.modRec (d : Dev) (f : BootRec → BootRec) : Dev :=
  let u := useRec d.mgr true true
  { d with mgr := writeRec d.mgr u.2 (f u.1) }

/-- The effect of an image command whose NOR or fuse operation has ended well (R410 to R412, R423). -/
def imageEffect (t : Nat) (j : NorJob) (x : SlotCheck) (d : Dev) : Status × Dev :=
  let o := d.otherSlot
  if j.pend.op = 0xA10 then
    let d1 := d.modRec (fun r => r.setSlot o .empty 0)
    (.ok, { d1 with mgr := { d1.mgr with image := { begun := true } } })
  else if j.pend.op = 0xA11 then
    let off := imgOffset j.words
    (.ok, { d with mgr := { d.mgr with image := { d.mgr.image with ranges := (off, off + 8 * imgN j.words) :: d.mgr.image.ranges } } })
  else if j.pend.op = 0xA12 then
    if x.svn < d.mgr.svnFloor then (.wrongState, d.inc t 17 8)
    else if !(x.keyOk && x.sigOk && x.digestOk) then (.authFail, d)
    else
      let d1 := d.modRec (fun r => { ((r.setSlot o .trial 3).setSvn o x.svn) with pref := o })
      (.ok, { d1 with mgr := { d1.mgr with image := {} } })
  else
    let s := d.mgr.slot
    let d1 := d.modRec (fun r => r.setSlot s .good (r.tries s))
    let svn := if s = 0 then d.mgr.bootRec.svnA else d.mgr.bootRec.svnB
    (.ok, { d1 with mgr := { d1.mgr with svnFloor := Nat.max d1.mgr.svnFloor (Nat.min 63 svn) } })

/-- The image commands that were held back, in order, until one is at work (R423): those refused at once are answered and let the next one go. While PFAIL_N is low they wait (R415). -/
def startHeld (t : Nat) : List NorJob → Dev → Dev
  | [], d => d
  | j :: rest, d =>
    if d.mgr.nor.isSome || d.mgr.pfail then d
    else startHeld t rest (startImage t j true { d with mgr := { d.mgr with heldCmds := rest } })

/-- The next image commands that were held back (R423). -/
def nextImage (t : Nat) (d : Dev) : Dev := startHeld t d.mgr.heldCmds d

/-- PFAIL_N (R415): while it is low no new write begins; when it returns high, deferred writes run, the log entries and the image commands held back among them, which the dailies count as deferred then (log 8). -/
def goPfailN (t : Nat) (low : Bool) (d : Dev) : Dev :=
  let d1 : Dev := { d with mgr := { d.mgr with pfail := low } }
  let d2 := if !low && d.mgr.pfail then d1.bump 43 3 (d.mgr.logQ.length + d.norWaiting) else d1
  let d3 := if !low && d.mgr.flushDeferred then d2.flush else d2
  if low then d3 else nextImage t d3

def execPfailN (low : Bool) (s : State) : Host.Outcome State Fault Refusal := .next (s.act fun t d => goPfailN t low d)

/-- NOR_OPERATION_DONE (R415, R421, R423): the operation ends; `ok` false is a NOR that does not answer or reports a failure. -/
def goNorOperationDone (t : Nat) (ok : Bool) (x : SlotCheck) (d : Dev) : Dev :=
  match d.mgr.nor with
  | none => d
  | some j =>
    let d1 : Dev := { d with mgr := { d.mgr with nor := none } }
    let r := if ok then imageEffect t j x d1 else (.timeout, d1)
    nextImage t (r.2.respond t j.pend r.1 [])

def execNorOperationDone (ok : Bool) (x : SlotCheck) (s : State) : Host.Outcome State Fault Refusal :=
  .next (s.act fun t d => goNorOperationDone t ok x d)

end Sys2Proof.Machine
end

