-- ==== Sys2Proof/Machine/Gaffer.lean ====
section
/-! DEFINITION. The Gaffer: the energy budget, performance levels, safety actions and power states (R368 to R398). -/
namespace Sys2Proof.Machine

/-! The energy budget (R376 to R380). -/

/-- Energy in µJ of a power in mW over one tick (R377). -/
def tickUj (mw : Int) : Int := mw * 1024 / 1000

/-- Cost in nJ of a tick's locked sheets. -/
def Dev.costOf (d : Dev) (tick : Nat) : Nat := ((d.gaf.lockedCost.find? (fun x => x.1 == tick)).map (·.2)).getD 0

/-- The reserve of R377. -/
def Dev.reserve (d : Dev) (pMeas cost : Nat) : Nat := Nat.max ((tickUj pMeas).toNat - (cost + 999) / 1000) (d.pv 0x9006)

/-- p_curr (R377): the least over the monitored inputs, none when no input is monitored or draws current. -/
def Dev.pCurr (d : Dev) (pMeas : Nat) (ma : Nat → Nat) : Option Nat :=
  ((List.range 4).filterMap (fun k => if d.pv 0x9002 0 k = 0 || ma k = 0 then none else some (pMeas * d.pv 0x9002 0 k / ma k))).foldl
    (fun m x => match m with | none => some x | some y => some (Nat.min x y)) none

/-- The budget for a power, sensor value, currents and reserve: its value and limiting term, 0 cap, 1 thermal, 2 current (R377). -/
def Dev.budgetFor (d : Dev) (pMeas : Nat) (tMax : Int) (ma : Nat → Nat) (reserve : Nat) : Nat × Nat :=
  let cap : Int := d.pv 0x9001
  let therm : Int := pMeas + (d.pv 0x9004 : Int) * ((d.pv 0x9003 : Int) - tMax)
  let a : Int × Nat := if therm < cap then (therm, 1) else (cap, 0)
  let b : Int × Nat := match d.pCurr pMeas ma with | some c => if (c : Int) < a.1 then ((c : Int), 2) else a | none => a
  ((tickUj b.1 - reserve).toNat, b.2)

/-- BUDGET_PUBLISH (R377, R379): the budget for the next tick, from the means of the tick before and the hottest sensor now; 0 after a thermal trip. The fit pass follows (R76, R107). -/
def goBudgetPublish (t : Nat) (r : Option Readings) (d0 : Dev) : Dev :=
  let d := match r with | some x => d0.sense x | none => d0
  let p := d.gaf.pMeas
  let res := d.reserve p (d.costOf (tickOf t - 1))
  let b := d.budgetFor p d.hottest (fun k => tlook (fun _ => 0) d.gaf.meanMa k) res
  let v := if d.gaf.zeroHold then 0 else b.1 % 2 ^ 32
  let d1 : Dev := { d with
    pln := { d.pln with budget := v, heldRevision := none }
    gaf := { d.gaf with
      budget := { tick := tickOf t + 1, value := v, tUsed := d.hottest, pMeas := p, reserve := res, term := b.2, made := true }
      zeroRun := if v = 0 && b.2 ≠ 0 && !d.gaf.zeroHold then d.gaf.zeroRun + 1 else 0 } }
  let d2 := (d1.bump 42 3).bump 42 15 v
  (if v = 0 then d2.bump 42 5 else d2).fit (tickOf t + 1)

def execBudgetPublish (r : Option Readings) (s : State) : Host.Outcome State Fault Refusal :=
  .next (s.act fun t d => goBudgetPublish t r d)

/-- Past beat 864, and the picture lock for the next tick has not judged its sheets (R104, R380): up to beat 896, whose safety actions come before the lock (R33). -/
def Dev.lockAhead (d : Dev) (t : Nat) : Bool :=
  decide (864 < beatOf t) && (decide (beatOf t < 896) || (beatOf t == 896 && d.pln.lockTick != (tickOf t + 1) % 2 ^ 48))

/-- A revised budget takes effect (R104): fitted up to beat 864, held until picture lock has judged the sheets, else written at once. -/
def Dev.revise (d : Dev) (t v : Nat) : Dev :=
  let d1 := ({ d with gaf := { d.gaf with budget := { d.gaf.budget with value := v, tUsed := d.hottest } } } : Dev).bump 42 4
  let put (e : Dev) : Dev := { e with pln := { e.pln with budget := v } }
  if beatOf t ≤ 864 then (put d1).fit (tickOf t + 1)
  else if d.lockAhead t then { d1 with pln := { d1.pln with heldRevision := some v } }.inc t 2 7
  else (put d1).inc t 2 7

/-- BUDGET_REVISION (R378): between beats 256 and 864, when the hottest sensor has moved by REVISE_C from the value used. -/
def goBudgetRevision (t : Nat) (r : Readings) (d0 : Dev) : Dev :=
  let d := d0.sense r
  let b := d.gaf.budget
  let moved := (d.hottest - b.tUsed).natAbs
  if !(b.made && b.tick == tickOf t + 1 && decide (256 ≤ beatOf t) && decide (beatOf t ≤ 864) && decide (d.pv 0x9008 ≤ moved)) then d
  else
    let v := if d.gaf.zeroHold then 0 else (d.budgetFor b.pMeas d.hottest (fun k => tlook (fun _ => 0) d.gaf.meanMa k) b.reserve).1 % 2 ^ 32
    d.revise t v

def execBudgetRevision (r : Readings) (s : State) : Host.Outcome State Fault Refusal :=
  .next (s.act fun t d => goBudgetRevision t r d)

/-- Shedding of a safety action (R380): the tick that plays, and past beat 864 the next one, at once or when its sheets lock. -/
def Dev.safetyShed (d : Dev) (t v : Nat) : Dev :=
  let d1 := d.shedTick t (tickOf t) v
  if beatOf t ≤ 864 then d1
  else if d.lockAhead t then { d1 with gaf := { d1.gaf with shedAtLock := some v } }
  else d1.shedTick t (tickOf t + 1) v

/-- The budget of R377 with the values of now. -/
def Dev.budgetNow (d : Dev) (t : Nat) : Nat :=
  let p := d.gaf.pMeas
  if d.gaf.zeroHold then 0
  else (d.budgetFor p d.hottest d.milliAmp (d.reserve p (d.costOf (tickOf t - 1)))).1 % 2 ^ 32

/-- A safety action: revise the budget and shed (R379, R380). -/
def Dev.safety (d : Dev) (t v : Nat) : Dev := (d.revise t v).safetyShed t v

/-- THERMAL_TRIP (R379): a sensor at or above TRIP_C. -/
def goThermalTrip (t sensor : Nat) (temp : Int) (d0 : Dev) : Dev :=
  let d := d0.sense { temps := [(sensor, temp)] }
  if temp < d.pv 0x9005 then d
  else
    let d1 : Dev := { d with gaf := { d.gaf with zeroHold := true, coolTicks := 0, tripDrop := decide (d.gaf.level < 5) || d.gaf.level == 7, zeroRun := 0, raiseTicks := 0 } }
    ((d1.safety t 0).bump 42 7).inc t 16 12

def execThermalTrip (sensor : Nat) (temp : Int) (s : State) : Host.Outcome State Fault Refusal :=
  .next (s.act fun t d => goThermalTrip t sensor temp d)

/-- SUPPLY_CURRENT_LIMIT (R379): a monitored input at or above its limit over a beat. -/
def goSupplyCurrentLimit (t input ma : Nat) (d0 : Dev) : Dev :=
  let d := d0.sense { milliamps := [(input, ma)] }
  let lim := d.pv 0x9002 0 input
  if lim = 0 || decide (ma < lim) then d
  else
    let d1 : Dev := { d with gaf := { d.gaf with overs := input :: d.gaf.overs.filter (· != input) } }
    ((d1.safety t (d1.budgetNow t)).bump 42 8).inc t 16 13

/-- A monitored input stands at or above its limit (R379). -/
def Dev.overLimit (d : Dev) (k : Nat) : Bool := d.pv 0x9002 0 k != 0 && decide (d.pv 0x9002 0 k ≤ d.milliAmp k)

def execSupplyCurrentLimit (input ma : Nat) (s : State) : Host.Outcome State Fault Refusal :=
  .next (s.act fun t d => goSupplyCurrentLimit t input ma d)

/-- HOST_POWER_CAP_BREACH (R379): P_MEAS of a complete tick above POWER_CAP_MW. -/
def goHostPowerCapBreach (t : Nat) (d : Dev) : Dev :=
  if d.gaf.pMeas ≤ d.pv 0x9001 then d else ((d.safety t (d.budgetNow t)).bump 42 9).inc t 16 14

def execHostPowerCapBreach (s : State) : Host.Outcome State Fault Refusal := .next (s.act fun t d => goHostPowerCapBreach t d)

/-- THERMAL_HOLD_END (R379): every sensor has stood below TRIP_C - 5 °C for 64 consecutive ticks. -/
def goThermalHoldEnd (d : Dev) : Dev :=
  if d.gaf.zeroHold && decide (64 ≤ d.gaf.coolTicks) then { d with gaf := { d.gaf with zeroHold := false, coolTicks := 0, raiseTicks := 0, zeroRun := 0 } } else d

def execThermalHoldEnd (s : State) : Host.Outcome State Fault Refusal := .next (s.act fun _ d => goThermalHoldEnd d)

/-- CRITICAL_TEMPERATURE (R379, R381, R402, R404): a sensor reached 125 °C, which is a thermal trip too. The FEM lines go low, D2 to D11 lose their supply, and the warm reset that the device then needs is asked for. -/
def goCriticalTemperature (t sensor : Nat) (d : Dev) : Dev :=
  let temp := max 125 (d.temp sensor)
  let d0 := if d.gaf.zeroHold then d.sense { temps := [(sensor, temp)] } else goThermalTrip t sensor temp d
  let d1 := d0.femLow
  { d1 with
    gaf := { d1.gaf with crit := true }
    ts := { d1.ts with chipDark := true }
    mgr := { d1.mgr with waitReset := some (waitWith d1.mgr.waitReset .critical) } }.inc t 16 16

def execCriticalTemperature (sensor : Nat) (s : State) : Host.Outcome State Fault Refusal :=
  .next (s.act fun t d => goCriticalTemperature t sensor d)

/-! Performance levels (R372 to R375). -/

/-- VID code of a level's VDD_CORE (R372, R459): 0.600 V and 5 mV a code. -/
def levelVid (level : Nat) : Nat := 50 - 10 * Nat.min level 5

/-- VDD_CORE as its monitors read it, in mV, or as the command gives it. -/
def Dev.coreMv (d : Dev) (given : Option Nat) : Nat :=
  given.getD (Nat.min (d.milliVolt 0) (Nat.min (d.milliVolt 1) (d.milliVolt 2)))

/-- Request the voltage of a rise at beat 768 (R373). -/
def Dev.beginRaise (d : Dev) (t target : Nat) (pll : Bool) : Dev :=
  { d with gaf := { d.gaf with raise := some { target := target, oldVid := d.gaf.vid, pll := pll, tick := tickOf t + 1 }, vid := levelVid target, raiseTicks := 0 } }

/-- The check at beat 1,000 and the switch at beat 0 of a rise under way (R373). -/
def Dev.stepRaise (d : Dev) (t : Nat) (m : LevelMove) (given : Option Nat) : Dev :=
  if beatOf t = 1000 && decide (d.coreMv given < 600 + 5 * d.gaf.vid - 10) then
    ({ d with gaf := { d.gaf with raise := none, vid := m.oldVid, raiseTicks := 0 } } : Dev).bump 42 2 |>.inc t 16 11
  else if m.tick ≤ tickOf t && beatOf t == 0 then
    ({ d with gaf := { d.gaf with raise := none, level := m.target, pllTarget := if m.pll then none else d.gaf.pllTarget } } : Dev).bump 42 0
  else d

/-- LEVEL_RAISE (R373, R374): at beat 768 a rise by one step begins when its conditions have held; beat 1,000 checks the rail, and the clock switches at the tick boundary. -/
def goLevelRaise (t : Nat) (coreMv : Option Nat) (d : Dev) : Dev :=
  match d.gaf.raise with
  | some m => if m.pll then d else d.stepRaise t m coreMv
  | none =>
    let g := d.gaf
    if beatOf t = 768 && decide (g.level ≤ 5) && decide (d.pv 0x9010 < g.level) && decide (d.pv 0x9012 ≤ g.raiseTicks) && !g.zeroHold && !g.tripDrop then
      d.beginRaise t (g.level - 1) false
    else d

def execLevelRaise (coreMv : Option Nat) (s : State) : Host.Outcome State Fault Refusal := .next (s.act fun t d => goLevelRaise t coreMv d)

/-- Lower the level at a tick boundary; the voltage follows at beat 8 (R373). -/
def Dev.lowerTo (d : Dev) (level : Nat) : Dev :=
  ({ d with gaf := { d.gaf with level := level, lowerVid := some (levelVid level), raise := none, raiseTicks := 0 } } : Dev).step 0x9043 0 0 (level - d.gaf.level) |>.bump 42 1

/-- LEVEL_LOWER (R373, R374, R379): at beat 0 the trip's drop to P5, a step for zero budgets, or a step to a new ceiling; at beat 8 the lower voltage is requested. -/
def goLevelLower (t : Nat) (d : Dev) : Dev :=
  let g := d.gaf
  if beatOf t = 0 then
    if g.tripDrop then
      let d1 := d.lowerTo 5
      { d1 with gaf := { d1.gaf with tripDrop := false, pllTarget := none } }
    else if g.level < 5 && decide (d.pv 0x9011 ≤ g.zeroRun) then
      (({ d with gaf := { d.gaf with zeroRun := 0 } } : Dev).lowerTo (g.level + 1)).inc t 16 15
    else if g.level < d.pv 0x9010 then (d.lowerTo (g.level + 1)).inc t 16 15
    else d
  else if beatOf t = 8 then
    match g.lowerVid with
    | some v => { d with gaf := { g with vid := v, lowerVid := none } }
    | none => d
  else d

def execLevelLower (s : State) : Host.Outcome State Fault Refusal := .next (s.act fun t d => goLevelLower t d)

/-- PLL_MOVE (R375): from the house oscillator to the level before Blackout, or P0, limited by LEVEL_MAX, in one change. -/
def goPllMove (t : Nat) (coreMv : Option Nat) (d : Dev) : Dev :=
  let g := d.gaf
  match g.raise with
  | some m => if m.pll then d.stepRaise t m coreMv else d
  | none =>
    match g.pllTarget with
    | none => d
    | some lv =>
      let target := Nat.max lv (d.pv 0x9010)
      if g.level ≠ 7 then d
      else if g.vid < levelVid target then (if beatOf t = 768 then d.beginRaise t target true else d)
      else if beatOf t = 0 then { d with gaf := { g with level := target, pllTarget := none, lowerVid := some (levelVid target) } }
      else d

def execPllMove (coreMv : Option Nat) (s : State) : Host.Outcome State Fault Refusal := .next (s.act fun t d => goPllMove t coreMv d)

/-! Power states (R382 to R391). -/

/-- A request of a function that has no final response yet, apart from the power request itself (R383). -/
def Dev.unanswered (d : Dev) (f : Nat) : Bool :=
  let s := d.fn f
  let done (tag : Nat) : Bool := (s.respValid && s.respFinal && s.respTag == tag) || s.waiting.any (fun r => r.final && fld (wd r.words 0) 63 48 == tag)
  let power (tag : Nat) : Bool := match d.gaf.req with
    | some r => (match r.pend with | some p => decide (p.caller = .fn f) && p.tag == tag | none => false)
    | none => false
  s.tags.any (fun tag => !done tag && !power tag)

/-- Voter `k` agrees (R383). -/
def Dev.agrees (d : Dev) (k : Nat) : Bool :=
  match k with
  | 0 => (List.range 16).all (fun f => !d.unanswered f)
  | 3 => (List.range 128).all (fun g => decide ((d.ring g).st ≠ .draining))
  | 4 => d.sealEng.state != 1
  | 5 => d.rgm.core.all (fun e => e.2.task.isNone)
  | 6 => decide (d.bt.mode = .off)
  | 7 => d.fe.radio.all (fun e => decide (e.2.synth = .off) && e.2.startTick.isNone && e.2.stopTick.isNone)
  | 8 => !d.nvBusy
  | _ => true

/-- Ask every core that runs a task with NP 0 to pre-empt (R356, R383). -/
def Dev.askCores (d : Dev) : Dev :=
  let ask (x : Core) : Core :=
    match x.task with
    | some k => if d.taskNp k || x.preempt.isSome then x else { x with preempt := some (k, beatNo d.glb.up), late := false }
    | none => x
  { d with rgm := { d.rgm with core := tmap coreReset (fun _ x => ask x) d.rgm.core } }

/-- A voter's refusal (R384, R385): the poll stops, or at the boundary of the first refusal the lowest refusing voter is named. -/
def Dev.refuse (d : Dev) (t k : Nat) (o : PowerOutcome) : Dev :=
  if d.gaf.phase = .poll then (((d.rollback o k).step 0x9041).bump 42 11).inc t 16 k
  else { d with gaf := { d.gaf with voter := Nat.min d.gaf.voter k } }.inc t 16 k

/-- VOTE (R383 to R385): voter `k` refuses at once, or agrees, and quiesces once every voter before it has; RGM waits for its cores. -/
def goVote (t k : Nat) (d : Dev) : Dev :=
  if 9 < k then d
  else if d.gaf.phase = .rollback && d.gaf.phaseAt = d.glb.up && d.gaf.outcome = 1 && !d.agrees k && k ≠ 5 then d.refuse t k .refused
  else if d.gaf.phase ≠ .poll then d
  else if !d.agrees k then (if k = 5 then (if nbits d.gaf.quiesced 4 0 = 31 then d.askCores else d) else d.refuse t k .refused)
  else
    let low := decide (d.gaf.quiesced % 2 ^ k = 2 ^ k - 1)
    { d with gaf := { d.gaf with
      agreed := d.gaf.agreed ||| 2 ^ k, quiesced := if low then d.gaf.quiesced ||| 2 ^ k else d.gaf.quiesced } }

def execVote (k : Nat) (s : State) : Host.Outcome State Fault Refusal := .next (s.act fun t d => goVote t k d)

/-- VOTE_TIMEOUT (R384, R385): a voter that has neither agreed nor refused within 2,048 beats of the start. -/
def goVoteTimeout (t : Nat) (d : Dev) : Dev :=
  if d.gaf.phase = .poll && decide (d.gaf.phaseAt + 2048000 ≤ d.glb.up) then
    match (List.range 10).find? (fun k => !nbit d.gaf.agreed k) with
    | some k => (d.refuse t k .noVote).inc t 16 10
    | none => d
  else d

def execVoteTimeout (s : State) : Host.Outcome State Fault Refusal := .next (s.act fun t d => goVoteTimeout t d)

/-- The outcome with a code (R397). -/
def outcomeOf (c : Nat) : PowerOutcome := match c with | 1 => .refused | 2 => .noVote | 3 => .wakeAbort | 4 => .replaced | _ => .done

/-- The waiting request starts (R390). -/
def Dev.startWaiting (d : Dev) (t : Nat) : Dev :=
  match d.gaf.waiting with
  | some r => ({ d with gaf := { d.gaf with waiting := none } } : Dev).powerStart t r
  | none => d

/-- The radio, Ethernet and levels on entry to Blackout (R275, R375): ports that are not wake-enabled lose their link, the level is kept, and a raise under way is over. -/
def Dev.enterBlackout (d : Dev) (t : Nat) : Dev :=
  let wakes (p : Nat) : Bool := decide (p < 2) && (d.reg 0x800100).getLsbD (20 + p)
  (List.range 4).foldl (fun e p => if wakes p then e else e.dropLink t p) { d with gaf := { d.gaf with beforeBlackout := d.gaf.level, raise := none } }

/-- Running time from the commit until the state is reached, in ns: the typical figures of R382 (log 14). -/
def entryNs (target : Nat) : Nat := if target = 1 then 6000 else 2000000
/-- Running time from the start of leaving until Show, in ns: the typical figures of R382 (log 14). -/
def exitNs (s : PowerState) : Nat := if s = .interval then 16000 else 6000000

/-- The final response of a power request is posted at the boundary at which it is given (R386), when the function's response area is free. -/
def Dev.postPower (d : Dev) (t : Nat) (r : PowerReq) : Dev :=
  match r.pend with
  | some ⟨.fn f, _, _⟩ => if (d.fn f).freedBeat < beatNo t then goResponsePosted f d else d
  | _ => d

/-- STATE_REACHED (R384 to R386, R388): the commit at the boundary after voter 9 has quiesced, the end of a rollback, the state that an entry reaches, the start of leaving for a wake noted on the way, and in Show the start of the waiting request at the boundary after the one in progress has ended (R390). -/
def goStateReached (t : Nat) (d : Dev) : Dev :=
  let g := d.gaf
  match g.phase with
  | .poll =>
    if g.quiesced ≠ 0x3FF then d
    else
      let d1 := match g.req with | some r => (d.powerAnswer t r .done 0).postPower t r | none => d
      ({ d1 with gaf := { d1.gaf with phase := .committed, phaseAt := d.glb.up, req := g.req.map (fun r => { r with pend := none }) } } : Dev).femAll t
  | .rollback =>
    if d.glb.up < g.phaseAt + 2000 then d
    else
      let d1 := match g.req with | some r => d.powerAnswer t r (outcomeOf g.outcome) g.voter | none => d
      { d1 with gaf := { d1.gaf with phase := .idle, req := none, agreed := 0, quiesced := 0 } }
  | .committed =>
    let target := (g.req.map (·.target)).getD 0
    if d.glb.up < g.phaseAt + entryNs target then d
    else
      let st : PowerState := if target = 1 then .interval else .blackout
      let d1 := ({ d with gaf := { g with phase := .idle, state := st, req := none } } : Dev).step 0x9040 |>.bump 42 10
      if st = .blackout then d1.enterBlackout t else d1
  | .idle =>
    if g.state ≠ .show' && (g.noted || g.waiting.isSome) then
      let d1 := if g.noted then d.bump 42 12 else (d.recordWake 6 0).bump 42 12
      { d1 with gaf := { d1.gaf with phase := .leaving, phaseAt := d.glb.up, noted := false } }
    else if g.state = .show' then d.startWaiting t
    else d
  | .leaving => d

def execStateReached (s : State) : Host.Outcome State Fault Refusal := .next (s.act fun t d => goStateReached t d)

/-- WAKE_IN_N (R387): the pin is low, and it is enabled. -/
def goWakeInN (d : Dev) : Dev := if d.pv 0x9020 = 1 then d.wake 1 else d

def execWakeInN (s : State) : Host.Outcome State Fault Refusal := .next (s.act fun _ d => goWakeInN d)

/-- TICK_ALARM (R387): beat 0 of the WAKE_TICK. -/
def goTickAlarm (t : Nat) (d : Dev) : Dev :=
  if d.gaf.alarm ≠ 0 && decide (d.gaf.alarm ≤ tickOf t) then
    let d1 := d.wake 3
    { d1 with gaf := { d1.gaf with alarm := 0 } }
  else d

def execTickAlarm (s : State) : Host.Outcome State Fault Refusal := .next (s.act fun t d => goTickAlarm t d)

/-- SHOW_REACHED (R375, R389, R390): the device is back in Show; from Blackout the cores run on the house oscillator, and a waiting request starts. -/
def goShowReached (t : Nat) (d : Dev) : Dev :=
  let g := d.gaf
  if g.phase ≠ .leaving || decide (d.glb.up < g.phaseAt + exitNs g.state) then d
  else
    let g1 : Gaf := { g with phase := .idle, state := .show', agreed := 0, quiesced := 0, noted := false, alarm := 0 }
    let g2 : Gaf := if g.state = .blackout then { g1 with level := 7, pllTarget := some (if g.beforeBlackout = 7 then 0 else g.beforeBlackout), pllSince := d.glb.up } else g1
    (({ d with gaf := g2 } : Dev).femAll t).startWaiting t

def execShowReached (s : State) : Host.Outcome State Fault Refusal := .next (s.act fun t d => goShowReached t d)

/-! Mailbox commands (R397, R398). -/

/-- Nothing is in progress, and the device is in Show (R390). -/
def Dev.powerIdle (d : Dev) : Bool := decide (d.gaf.phase = .idle) && decide (d.gaf.state = .show') && d.gaf.req.isNone && d.gaf.waiting.isNone

/-- Accept a power request (R390, R391): it starts, or it becomes the waiting one and ends an older waiting one as REPLACED. -/
def Dev.acceptPower (d : Dev) (t : Nat) (r : PowerReq) (mgmt : Bool) : Dev :=
  if d.powerIdle then (d.claim .power 0).powerStart t r
  else
    let d1 := match d.gaf.waiting with | some old => d.powerAnswer t old .replaced 0 | none => d
    let d2 : Dev := { d1 with gaf := { d1.gaf with waiting := some r } }
    if mgmt then d2.wake 2 else d2

/-- GAF_STATE_SET (R390, R397): PENDING, then the final response with the outcome. -/
def goGafStateSet (t : Nat) (who : Master) (req : List Word) (d : Dev) : Dev :=
  d.mbx t (fixedSpec 0x900 true 3 [(1, [(63, 2)]), (2, [(63, 48)])]) who req (fun p d =>
    let target := fld (wd req 1) 1 0
    let alarm := fld (wd req 2) 47 0
    match firstOf [
      (target == 3 || (alarm != 0 && target == 0), .badParam),
      (alarm != 0 && decide (alarm < tickOf t + 3), .late),
      (d.claimed .power 0, .busy)] with
    | some st => d.respond t p st []
    | none => (d.respond t p .pending []).acceptPower t { target := target, wakeTick := alarm, pend := some p } (decide (who = .mgmt)))

def execGafStateSet (f : Nat) (req : List Word) (s : State) : Host.Outcome State Fault Refusal :=
  .next (s.act fun t d => goGafStateSet t (.fn f) req d)

/-- GAF_STATUS (R398). -/
def goGafStatus (t : Nat) (who : Master) (req : List Word) (d : Dev) : Dev :=
  d.mbxNow t (fixedSpec 0x901 false 1 []) who req (fun d =>
    (.ok, [packW [(d.gafState.toNat, 32, 0), (d.gafMeasure.toNat, 32, 32)], packW [(d.gaf.budget.tick, 48, 0)], packW [(d.gaf.budget.value, 32, 0)]], d))

def execGafStatus (f : Nat) (req : List Word) (s : State) : Host.Outcome State Fault Refusal :=
  .next (s.act fun t d => goGafStatus t (.fn f) req d)

/-- GAF_VOTE. -/
def Dev.gafVote (d : Dev) : Reg := packR [(d.gaf.agreed, 10, 0), (d.gaf.quiesced, 10, 16)]

end Sys2Proof.Machine
end

