-- ==== Sys2Proof/Machine/Test.lean ====
section
/-! DEFINITION. Boundary scan, the debug access port and the lifecycle (R469 to R474). -/
namespace Sys2Proof.Machine

/-- Codes of the scan instructions of R471: EXTEST, EXTEST_PULSE, EXTEST_TRAIN, CLAMP and HIGHZ. -/
def scanCode (c : Nat) : Bool := decide (3 ≤ c) && decide (c ≤ 7)

/-- Codes of R470; every other code acts as BYPASS. -/
def instrCode (c : Nat) : Nat := if (decide (1 ≤ c) && decide (c ≤ 7)) || (decide (0x20 ≤ c) && decide (c ≤ 0x22)) then c else 0xFF

/-- The debug access port is open (R472): always in DEVELOPMENT, after UNLOCK in PRODUCTION, never in RMA. -/
def Dev.dapOpen (d : Dev) : Bool := d.tst.life == 1 || (d.tst.life == 2 && d.tst.unlocked)

/-- TST_LIFECYCLE. -/
def Dev.lifecycle (d : Dev) : Reg :=
  packR [(d.tst.life, 2, 0), (b2n d.tst.unlocked, 1, 8), (b2n d.tst.connected, 1, 9)]

/-- Load an instruction (R470, R471, R472): a scan instruction holds D2 to D11 in reset and the management core halted and drives the covered outputs; any other one after it performs a warm reset and sets SCAN_RESET; DAP_ACCESS connects when the port is open. -/
def Dev.load (d : Dev) (t code : Nat) : Dev :=
  let c := instrCode code
  let was := d.tst.scanning
  let d1 := if scanCode c then d.bump 45 4 else d
  let conn := c == 0x20 && d1.dapOpen
  let d2 : Dev := { d1 with tst := { d1.tst with
    instr := c, scanning := scanCode c, highz := c == 7, connected := conn, wrote := d1.tst.wrote && d1.tst.connected && conn } }
  let d3 := if conn && !d.tst.connected then d2.bump 45 0 else if c == 0x20 && !conn then d2.bump 45 3 else d2
  if scanCode c then { d3 with gaf := { d3.gaf with held := true }, ts := { d3.ts with chipDark := true } }
  else if was then
    (d3.inc t 20 1).warmReset t .scan
  else d3

/-- The data register captures a value. -/
def Dev.capture (d : Dev) (v : Nat) : Dev := { d with tst := { d.tst with captured := v } }

/-- TAP_RESET (R470): IDCODE is selected. -/
def goTapReset (t : Nat) (d : Dev) : Dev := ((d.bump 45 5).load t 0x01).capture 0x2934847B
def execTapReset (s : State) : Host.Outcome State Fault Refusal := .next (s.act fun t d => goTapReset t d)

/-- IDCODE (R470): 32 bits, the value of TST_IDCODE. -/
def goIdcode (t : Nat) (d : Dev) : Dev := (d.load t 0x01).capture 0x2934847B
def execIdcode (s : State) : Host.Outcome State Fault Refusal := .next (s.act fun t d => goIdcode t d)

/-- SAMPLE/PRELOAD (R470): the boundary cells are preloaded; what they sample of the pins is outside the model, a free value (log 4). -/
def goSamplePreload (t preload : Nat) (d : Dev) : Dev :=
  let d1 := (d.load t 0x02).capture d.free.toNat
  { d1 with tst := { d1.tst with boundary := preload } }.drew
def execSamplePreload (preload : Nat) (s : State) : Host.Outcome State Fault Refusal := .next (s.act fun t d => goSamplePreload t preload d)

/-- EXTEST (R470, R471). -/
def goExtest (t : Nat) (d : Dev) : Dev := d.load t 0x03
def execExtest (s : State) : Host.Outcome State Fault Refusal := .next (s.act fun t d => goExtest t d)
/-- EXTEST_PULSE (R470, R471). -/
def goExtestPulse (t : Nat) (d : Dev) : Dev := d.load t 0x04
def execExtestPulse (s : State) : Host.Outcome State Fault Refusal := .next (s.act fun t d => goExtestPulse t d)
/-- EXTEST_TRAIN (R470, R471). -/
def goExtestTrain (t : Nat) (d : Dev) : Dev := d.load t 0x05
def execExtestTrain (s : State) : Host.Outcome State Fault Refusal := .next (s.act fun t d => goExtestTrain t d)
/-- CLAMP (R470, R471): the bypass register, one bit captured 0. -/
def goClamp (t : Nat) (d : Dev) : Dev := (d.load t 0x06).capture 0
def execClamp (s : State) : Host.Outcome State Fault Refusal := .next (s.act fun t d => goClamp t d)
/-- HIGHZ (R470, R471): the bypass register. -/
def goHighz (t : Nat) (d : Dev) : Dev := (d.load t 0x07).capture 0
def execHighz (s : State) : Host.Outcome State Fault Refusal := .next (s.act fun t d => goHighz t d)
/-- DAP_ACCESS (R470, R472, R474). -/
def goDapAccess (t : Nat) (d : Dev) : Dev := d.load t 0x20
def execDapAccess (s : State) : Host.Outcome State Fault Refusal := .next (s.act fun t d => goDapAccess t d)
/-- LC_STATUS (R470): 32 bits, the value of TST_LIFECYCLE. -/
def goLcStatus (t : Nat) (d : Dev) : Dev := let d1 := d.load t 0x21; d1.capture d1.lifecycle.toNat
def execLcStatus (s : State) : Host.Outcome State Fault Refusal := .next (s.act fun t d => goLcStatus t d)
/-- BYPASS, and any unlisted code (R470). -/
def goBypass (t code : Nat) (d : Dev) : Dev := (d.load t (if instrCode code = 0xFF then code else 0xFF)).capture 0
def execBypass (code : Nat) (s : State) : Host.Outcome State Fault Refusal := .next (s.act fun t d => goBypass t code d)

/-- UNLOCK (R473): a challenge of SERIAL, a fresh 128-bit random number (free values) and TST_LIFECYCLE; refused after three failures until the next power-on reset. -/
def goUnlock (t : Nat) (d : Dev) : Dev :=
  let d1 := d.load t 0x22
  if 3 ≤ d1.tst.fails then { d1 with tst := { d1.tst with challenge := none } }
  else
    let r1 := d1.free
    let d2 := d1.drew
    let c := Config.serial.toNat * 2 ^ 160 + (r1.toNat * 2 ^ 64 + d2.free.toNat) * 2 ^ 32 + d2.lifecycle.toNat
    { d2.drew with tst := { d2.tst with challenge := some c, captured := c } }
def execUnlock (s : State) : Host.Outcome State Fault Refusal := .next (s.act fun t d => goUnlock t d)

/-- UNLOCK_VERIFY (R472, R473): the signature under a key that matches a fused hash opens the port in PRODUCTION; a failure is counted and sets UNLOCK_FAIL. -/
def goUnlockVerify (t : Nat) (keyOk sigOk : Bool) (d : Dev) : Dev :=
  if d.tst.challenge.isNone then d
  else
    let d1 : Dev := { d with tst := { d.tst with challenge := none } }
    if keyOk && sigOk then { d1 with tst := { d1.tst with unlocked := true } }
    else { d1 with tst := { d1.tst with fails := d1.tst.fails + 1 } }.inc t 20 0
def execUnlockVerify (keyOk sigOk : Bool) (s : State) : Host.Outcome State Fault Refusal :=
  .next (s.act fun t d => goUnlockVerify t keyOk sigOk d)

/-- CORE_HALT (R474): the connected port halts a crew core, or the management core (none). -/
def goCoreHalt (t : Nat) (core : Option Nat) (d : Dev) : Dev :=
  if !d.tst.connected then d.bump 45 3
  else
    let d1 := (d.bump 45 6).inc t 20 3
    match core with
    | some c => { d1 with rgm := { d1.rgm with core := tmod coreReset d1.rgm.core c (fun k => { k with halted := true }) } }
    | none => { d1 with mgr := { d1.mgr with halted := true } }
def execCoreHalt (core : Option Nat) (s : State) : Host.Outcome State Fault Refusal := .next (s.act fun t d => goCoreHalt t core d)

/-- CORE_RESUME (R474): when the management core resumes, stall detection counts from zero. -/
def goCoreResume (core : Option Nat) (d : Dev) : Dev :=
  if !d.tst.connected then d.bump 45 3
  else
    let d1 := d.bump 45 7
    match core with
    | some c => { d1 with rgm := { d1.rgm with core := tmod coreReset d1.rgm.core c (fun k => { k with halted := false }) } }
    | none => { d1 with mgr := { d1.mgr with halted := false, missed := 0 } }
def execCoreResume (core : Option Nat) (s : State) : Host.Outcome State Fault Refusal := .next (s.act fun _ d => goCoreResume core d)

end Sys2Proof.Machine
end

