-- ==== Sys2Proof/Machine/Turnstile.lean ====
section
/-! DEFINITION. The Turnstile sealed meter (R424 to R443): counters, records, sealed configuration, verification port, and the chip-side view. -/
namespace Sys2Proof.Machine

/-- Change the Turnstile, where it is present (R443). -/
def Dev.modTs (d : Dev) (f : Ts → Ts) : Dev := if d.glb.tsPresent then { d with ts := f d.ts } else d

/-- The period's END (R431). -/
def tsEnd (x : Ts) : Nat := x.start + x.period * 60 * 32768

/-- The chip side is unpowered or in reset now (R381, R432, CHIP_DARK). -/
def Dev.dark (d : Dev) : Bool := !d.mgr.booted || d.gaf.held || d.gaf.crit

/-- Words `8 + 2e` and `9 + 2e` of a record (R432), the AIRTIME in whole µs (R425). -/
def tapWords (c : TapCount) : List Word :=
  let us := c.ns / 1000
  [packW [(us, 16, 0), (c.down, 48, 16)], packW [(us / 65536, 16, 0), (c.up, 48, 16)]]

/-- Words 0 to 107 of a record (R432). -/
def recBody (r : TsRec) : List Word :=
  [ packW [(0x5452, 16, 0), (b2n r.powerGap, 1, 16), (b2n (r.lost != 0), 1, 17), (b2n r.configChanged, 1, 18),
      (b2n r.sealOpen, 1, 19), (b2n r.chipDark, 1, 20), (1, 8, 24), (r.seq, 32, 32)],
    packW [(Config.serial.toNat, 32, 0), (r.site, 32, 32)],
    BitVec.ofNat 64 r.start, BitVec.ofNat 64 r.fin, BitVec.ofNat 64 r.showFirst, BitVec.ofNat 64 r.showLast,
    packW [(r.lost, 32, 0), (r.configSeq, 16, 32), (r.period, 8, 56)], BitVec.ofNat 64 r.prevMac ]
  ++ (List.range 48).flatMap (fun e => tapWords (tlook (fun _ => {}) r.counts e))
  ++ [0, 0, 0, 0]

/-- The 112 words of a record. -/
def recWords (r : TsRec) : List Word := recBody r ++ octetWords 4 r.mac

/-- The Turnstile's key (R429). -/
def tsKey : List Byte := (List.range 32).map Config.turnstileKey

/-- Close the open record at its END and open the next (R431, R432, R435, R439). While VDD_TS is below its warning level no store write starts (R436). -/
def tsClose (dark lineOk : Bool) (x : Ts) : Ts :=
  let r0 : TsRec := {
    seq := x.seq, chipDark := x.chipDark, sealOpen := x.sealSeen, configChanged := x.configChanged,
    powerGap := x.powerGap, site := x.site, start := x.start, fin := tsEnd x, showFirst := x.showFirst,
    showLast := x.showLast, period := x.period, configSeq := x.configSeq, lost := x.lost, prevMac := x.prevMac,
    counts := x.counts, mac := [], lineOk := lineOk }
  let r := { r0 with mac := hmac256 tsKey (wordOctets (recBody r0)) }
  let changed := match x.staged with
    | some c => decide (c ≠ (x.period, x.site))
    | none => false
  let conf := if changed then x.staged.getD (x.period, x.site) else (x.period, x.site)
  { x with
    time := Nat.max x.time (tsEnd x), start := tsEnd x, seq := (x.seq + 1) % 2 ^ 32,
    counts := tmap (fun _ => ({} : TapCount)) (fun _ c => { ns := c.ns % 1000 }) x.counts,
    lost := 0, any := false, showFirst := 0, showLast := 0, chipDark := dark, sealSeen := x.closed,
    configChanged := changed, powerGap := false, prevMac := ofLe (r.mac.take 8),
    period := conf.1, site := conf.2, configSeq := if changed then (x.configSeq + 1) % 65536 else x.configSeq,
    staged := none,
    ring := if x.vdd = .good then (x.ring ++ [r]).drop (x.ring.length + 1 - 144) else x.ring,
    unwritten := if x.vdd = .good then x.unwritten else x.unwritten ++ [r] }

/-- Turnstile time comes to `tt`: every record whose END has been reached closes first (R428, R439). -/
def tsAdvance (dark : Bool) : Nat → Nat → Ts → Ts
  | 0, tt, x => { x with time := Nat.max x.time tt }
  | n + 1, tt, x => if tsEnd x ≤ tt then tsAdvance dark n tt (tsClose dark true x) else { x with time := Nat.max x.time tt }

/-- Records that can close until `tt`: a period has at least one minute. -/
def tsFuel (tt : Nat) (x : Ts) : Nat := (tt - x.start) / 1966080 + 1

/-- Add to a counter of tenant `ten` on radio `r` (R424). -/
def tsCount (x : Ts) (ten r : Nat) (f : TapCount → TapCount) : Ts :=
  { x with counts := tmod (fun _ => {}) x.counts (3 * ten + r) f }

/-- A user's weight (R425). -/
def tapWeight (equal : Bool) (u : TapUser) : Nat := if equal then 1 else u.tones * u.streams

/-- Shares of an airtime in whole ns, rounded down (R425). -/
def tapShares (equal : Bool) (ns : Nat) (us : List TapUser) : List (Nat × Nat) :=
  let total := sumN (us.map (tapWeight equal))
  us.map (fun u => (u.tenant, if total = 0 then 0 else ns * tapWeight equal u / total))

/-- Give what the rounding left over to the first user (R425). -/
def giveRest (ns : Nat) (l : List (Nat × Nat)) : List (Nat × Nat) :=
  match l with
  | [] => []
  | (t, s) :: rest => (t, s + (ns - sumN (l.map (·.2)))) :: rest

/-- The counters after a counted event (R424 to R427). -/
def tapCount (x : Ts) : TapEvent → Ts
  | .airtime r ns equal _ _ us =>
    (giveRest ns (tapShares equal ns us)).foldl (fun y e => tsCount y e.1 r (fun c => { c with ns := c.ns + e.2 })) x
  | .down r t n => tsCount x t r (fun c => { c with down := c.down + n })
  | .up r t n => tsCount x t r (fun c => { c with up := c.up + n })

/-- A received PPDU counts only with SID_VALID, and a PPDU of no user does not count (R425). -/
def tapCounted : TapEvent → Bool
  | .airtime _ _ _ received sidValid us => (!received || sidValid) && !us.isEmpty
  | _ => true

/-- TAP_ENTRY (R427, R428): accepted into the record whose period holds the instant of acceptance, or dropped at a full FIFO. A MAC in reset sends none (R471), and a Turnstile without supply takes none (R437). -/
def goTapEntry (tt stamp : Nat) (e : TapEvent) (fifoFull : Bool) (d : Dev) : Dev :=
  if !d.running || decide (d.ts.vdd = .lost) || !tapCounted e then d
  else d.modTs (fun x0 =>
    let x := tsAdvance d.dark (tsFuel tt x0) tt x0
    if fifoFull then { x with lost := (x.lost + 1) % 2 ^ 32 }
    else
      let y := tapCount x e
      { y with any := true, showFirst := if x.any then x.showFirst else stamp, showLast := stamp })

def execTapEntry (tt stamp : Nat) (e : TapEvent) (fifoFull : Bool) (s : State) : Host.Outcome State Fault Refusal :=
  .next (s.act fun _ d => goTapEntry tt stamp e fifoFull d)

/-- RECORD_CLOSE (R431): at END the record closes; `lineOk` says that its lines were written whole. -/
def goRecordClose (lineOk : Bool) (d : Dev) : Dev :=
  if d.ts.vdd = .lost then d else d.modTs (tsClose d.dark lineOk)

def execRecordClose (lineOk : Bool) (s : State) : Host.Outcome State Fault Refusal :=
  .next (s.act fun _ d => goRecordClose lineOk d)

/-- VDD_TS_WARNING (R436): below the warning level no store write starts; above it again, the records that waited are written. -/
def goVddTsWarning (below : Bool) (d : Dev) : Dev :=
  d.modTs (fun x =>
    match x.vdd, below with
    | .good, true => { x with vdd := .warning }
    | .warning, false =>
      let l := x.ring ++ x.unwritten
      { x with vdd := .good, ring := l.drop (l.length - 144), unwritten := [] }
    | _, _ => x)

def execVddTsWarning (below : Bool) (s : State) : Host.Outcome State Fault Refusal :=
  .next (s.act fun _ d => goVddTsWarning below d)

/-- VDD_TS_LOSS (R437): the counts of the open record are lost. The one-way link stops, so that PRESENT and RUNNING read 0 (R442). -/
def goVddTsLoss (d : Dev) : Dev :=
  d.modTs (fun x => { x with
    vdd := .lost, counts := [], lost := 0, unwritten := [], any := false, showFirst := 0, showLast := 0
    mirror := { x.mirror with present := false, running := false } })

def execVddTsLoss (s : State) : Host.Outcome State Fault Refusal := .next (s.act fun _ d => goVddTsLoss d)

/-- VDD_TS_RETURN (R437): time resumes from the END of the last record in the store, and a record opens with POWER_GAP. -/
def goVddTsReturn (d : Dev) : Dev :=
  d.modTs (fun x =>
    if x.vdd ≠ .lost then x
    else
      let last := x.ring.getLast?
      let t0 := match last with | some r => r.fin | none => 0
      { x with
        vdd := .good, time := t0, start := t0, powerGap := true,
        seq := (match last with | some r => (r.seq + 1) % 2 ^ 32 | none => 0),
        prevMac := (match last with | some r => ofLe (r.mac.take 8) | none => 0),
        counts := [], lost := 0, any := false, showFirst := 0, showLast := 0, chipDark := d.dark, sealSeen := x.closed,
        configChanged := (match last with | some r => decide (r.configSeq ≠ x.configSeq) | none => false),
        awaitQuiet := false, response := [] })

def execVddTsReturn (s : State) : Host.Outcome State Fault Refusal := .next (s.act fun _ d => goVddTsReturn d)

/-- TS_SEAL (R432, R438): the strap is closed or opened. -/
def goTsSeal (closed : Bool) (d : Dev) : Dev :=
  d.modTs (fun x => { x with closed := closed, sealSeen := x.sealSeen || closed })

def execTsSeal (closed : Bool) (s : State) : Host.Outcome State Fault Refusal := .next (s.act fun _ d => goTsSeal closed d)

/-- A frame of the port (R440), most significant octet first. -/
def portFrame (type : Nat) (payload : List Byte) : List Byte :=
  let body := beBytes type 1 ++ beBytes payload.length 2 ++ payload
  0x7E :: body ++ beBytes (crcOf 2 body) 2

/-- Answer on the port: TYPE + 0x80, a status octet, and what follows it. -/
def portAnswer (type : Nat) (st : Status) (rest : List Byte) (x : Ts) : Ts :=
  { x with response := portFrame (type + 0x80) (beBytes st.code 1 ++ rest) }

/-- A request of the port, its CRC and length good, is judged by the rows of R441. -/
def portJudge (type : Nat) (payload : List Byte) (x : Ts) : Ts :=
  if type = 0x01 then
    if payload.length ≠ 0 then portAnswer type .badLength [] x
    else portAnswer type .ok (beBytes Config.serial.toNat 4 ++ beBytes x.site 4 ++ beBytes Config.tsRom.toNat 2
      ++ beBytes x.time 8 ++ beBytes (b2n x.closed) 1) x
  else if type = 0x02 then
    if payload.length ≠ 4 then portAnswer type .badLength [] x
    else match x.ring.find? (fun r => r.seq == ofBe payload) with
      | none => portAnswer type .wrongState [] x
      | some r => portAnswer type (if r.lineOk then .ok else .integrity) (wordOctets (recWords r)) x
  else if type = 0x03 then
    if payload.length ≠ 0 then portAnswer type .badLength [] x
    else portAnswer type .ok (beBytes x.period 1 ++ beBytes x.site 4 ++ beBytes x.configSeq 2
      ++ beBytes (b2n x.staged.isSome) 1) x
  else if type = 0x10 then
    let p := ofBe (payload.take 1)
    if payload.length ≠ 5 then portAnswer type .badLength [] x
    else if p = 0 || decide (60 < p) then portAnswer type .badParam [] x
    else if !x.closed then portAnswer type .sealed' [] x
    else portAnswer type .ok [] { x with staged := some (p, ofBe (payload.drop 1)) }
  else portAnswer type .badOpcode [] x

/-- The port is still waiting for 1 ms without an octet when the first octet of an `n`-octet frame, whose last octet comes at `tt`, arrives (R440): 33 cycles, an octet taking 128 / 45 cycles. -/
def portDeaf (tt n : Nat) (x : Ts) : Bool :=
  x.awaitQuiet && decide (tt < x.lastOctet + 33 + (n * 128 + 44) / 45)

/-- A frame arrives at the port (R440): judged, or discarded without a response. -/
def goPort (tt n : Nat) (good : Bool) (type : Nat) (payload : List Byte) (d : Dev) : Dev :=
  if d.ts.vdd = .lost then d
  else d.modTs (fun x0 =>
    let x := tsAdvance d.dark (tsFuel tt x0) tt x0
    if portDeaf tt n x then { x with lastOctet := tt, response := [] }
    else if !good then { x with awaitQuiet := true, lastOctet := tt, response := [] }
    else portJudge type payload { x with awaitQuiet := false, lastOctet := tt })

/-- A frame of a listed command with a good CRC; LEN over 1,024 discards it (R440). -/
def goPortCmd (type : Nat) (tt : Nat) (payload : List Byte) (d : Dev) : Dev :=
  goPort tt (6 + payload.length) (decide (payload.length ≤ 1024)) type payload d

def execIdent (tt : Nat) (payload : List Byte) (s : State) : Host.Outcome State Fault Refusal :=
  .next (s.act fun _ d => goPortCmd 0x01 tt payload d)
def execReadRecord (tt : Nat) (payload : List Byte) (s : State) : Host.Outcome State Fault Refusal :=
  .next (s.act fun _ d => goPortCmd 0x02 tt payload d)
def execReadConfig (tt : Nat) (payload : List Byte) (s : State) : Host.Outcome State Fault Refusal :=
  .next (s.act fun _ d => goPortCmd 0x03 tt payload d)
def execWriteConfig (tt : Nat) (payload : List Byte) (s : State) : Host.Outcome State Fault Refusal :=
  .next (s.act fun _ d => goPortCmd 0x10 tt payload d)

/-- Octets form a frame of R440: SYNC, a LEN that fits and is at most 1,024, a good CRC. -/
def portGood (l : List Byte) : Bool :=
  let len := ofBe ((l.drop 2).take 2)
  let body := (l.drop 1).take (3 + len)
  decide (l.take 1 = [0x7E]) && decide (len ≤ 1024) && decide (l.length = 6 + len) && decide (beBytes (crcOf 2 body) 2 = l.drop (4 + len))

/-- PORT_FRAME_DISCARD (R440): octets at the port that are no good frame are discarded; a good frame is judged like any other, an unlisted TYPE answering BAD_OPCODE. -/
def goPortFrameDiscard (tt : Nat) (octets : List Byte) (d : Dev) : Dev :=
  goPort tt octets.length (portGood octets) (ofBe ((octets.drop 1).take 1)) ((octets.drop 4).take (octets.length - 6)) d

def execPortFrameDiscard (tt : Nat) (octets : List Byte) (s : State) : Host.Outcome State Fault Refusal :=
  .next (s.act fun _ d => goPortFrameDiscard tt octets d)

/-- Put a record into the mirror, which keeps the 32 newest (R442). -/
def mirrorPut (m : TsMirror) (r : TsRec) : TsMirror :=
  let l := insertBy (·.seq) r (m.recs.filter (fun q => q.seq != r.seq))
  { m with present := true, recs := l.drop (l.length - 32) }

/-- The TS_INCIDENT bits that a mirrored record sets. -/
def mirrorBits (r : TsRec) : List (Nat × Bool) :=
  [(0, r.lost != 0), (1, r.powerGap), (2, r.sealOpen), (3, r.configChanged), (4, !r.lineOk)]

/-- RECORD_MIRROR (R435, R442): a record of the store goes over the one-way link to the chip side. -/
def goRecordMirror (t seq : Nat) (d : Dev) : Dev :=
  if d.ts.vdd = .lost || !d.glb.tsPresent then d
  else match d.ts.ring.find? (fun r => r.seq == seq) with
    | none => d
    | some r =>
      let d1 := d.modTs (fun x => { x with mirror := mirrorPut x.mirror r })
      (mirrorBits r).foldl (fun e b => if b.2 then e.inc t 18 b.1 else e) d1

def execRecordMirror (seq : Nat) (s : State) : Host.Outcome State Fault Refusal :=
  .next (s.act fun t d => goRecordMirror t seq d)

/-- TS_TIME_REPORT (R442): the link brings Turnstile time and status to the chip side. -/
def goTsTimeReport (t tt : Nat) (d : Dev) : Dev :=
  if d.ts.vdd = .lost || !d.glb.tsPresent then d
  else
    let d1 := d.modTs (fun x0 =>
      let x := tsAdvance d.dark (tsFuel tt x0) tt x0
      { x with mirror := { x.mirror with
          present := true, running := decide (x.vdd = .good), sealClosed := x.closed,
          staged := x.staged.isSome, period := x.period, configSeq := x.configSeq, site := x.site, time := x.time } })
    if d1.ts.closed then d1.inc t 18 2 else d1

def execTsTimeReport (tt : Nat) (s : State) : Host.Outcome State Fault Refusal :=
  .next (s.act fun t d => goTsTimeReport t tt d)

/-- TS_STATUS (R442); 0 where the Turnstile is fused out (R443). -/
def Dev.tsStatus (d : Dev) : Reg :=
  let m := d.ts.mirror
  if !d.glb.tsPresent then 0
  else packR [(m.configSeq, 16, 0), (m.period, 6, 20), (b2n !m.recs.isEmpty, 1, 27), (b2n m.staged, 1, 28),
    (b2n m.sealClosed, 1, 29), (b2n m.running, 1, 30), (b2n m.present, 1, 31)]

/-- SEQ of the newest record in the mirror. -/
def newestSeq (m : TsMirror) : Nat := match m.recs.getLast? with | some r => r.seq | none => 0
/-- SEQ of the oldest record in the mirror. -/
def oldestSeq (m : TsMirror) : Nat := match m.recs with | r :: _ => r.seq | [] => 0

/-- TS_STATUS_READ (R442). -/
def goTsStatusRead (t : Nat) (who : Master) (req : List Word) (d : Dev) : Dev :=
  d.mbxNow t (fixedSpec 0xA20 false 1 []) who req (fun d =>
    let m := d.ts.mirror
    judged d [(!d.glb.tsPresent, .sealed'), (m.recs.isEmpty, .wrongState)] (fun d =>
      (.ok, [BitVec.ofNat 64 m.time, packW [(oldestSeq m, 32, 0), (newestSeq m, 32, 32)],
        packW [(m.site, 32, 0), (d.tsStatus.toNat, 32, 32)]], d)))

def execTsStatusRead (f : Nat) (req : List Word) (s : State) : Host.Outcome State Fault Refusal :=
  .next (s.act fun t d => goTsStatusRead t (.fn f) req d)

/-- TS_RECORD_READ (R442). -/
def goTsRecordRead (t : Nat) (who : Master) (req : List Word) (d : Dev) : Dev :=
  d.mbxNow t (fixedSpec 0xA21 false 2 [(1, [(63, 32)])]) who req (fun d =>
    let r := d.ts.mirror.recs.find? (fun r => r.seq == fld (wd req 1) 31 0)
    judged d [(!d.glb.tsPresent, .sealed'), (r.isNone, .wrongState)] (fun d =>
      match r with
      | some q => (if q.lineOk then .ok else .integrity, recWords q, d)
      | none => (.wrongState, [], d)))

def execTsRecordRead (f : Nat) (req : List Word) (s : State) : Host.Outcome State Fault Refusal :=
  .next (s.act fun t d => goTsRecordRead t (.fn f) req d)

end Sys2Proof.Machine
end

