-- ==== Sys2Proof/Machine/Bus.lean ====
section
/-! DEFINITION. The register window (R14 to R20, R31, R41 to R43, R55, R56, R74, R321, R369, R474): what an access reaches, what a read returns, and when a write takes effect. -/
namespace Sys2Proof.Machine

/-! Where an access goes. -/

/-- The request and response areas of a slot, in a function's own view (R55). -/
def inAreas (m : Master) (addr : Nat) : Bool :=
  if m.isF0 then decide (0x100000 ≤ addr) && decide (addr < 0x102000) else decide (addr < 0x2000)

/-- First address of a function's BAR2/3 and of its configuration space, which lie beyond every window in the address of an access (DESIGN CHOICE, log 40). -/
def bar2Base : Nat := 0x100000000
def configBase : Nat := 0x200000000

/-- A crew core. -/
def isCrew : Master → Bool
  | .crew _ => true
  | _ => false

/-- The width and the alignment are allowed (R14, R55, R346: 32 bits only for a crew core); a table of BAR2/3 takes 64-bit accesses too (PRESUMED, log 40). -/
def goodShape (a : Access) : Bool :=
  (a.width == 4 && a.addr % 4 == 0) || (a.width == 8 && a.addr % 8 == 0 && !isCrew a.master && (inAreas a.master a.addr || decide (bar2Base ≤ a.addr)))

/-- Global number of a virtual function's local ring. -/
def Dev.ringOf (d : Dev) (f loc : Nat) : Option Nat := (List.range 128).find? (fun g => (d.ring g).owner == f && (d.ring g).loc == loc)

/-- The address in F0's window that an access names: a virtual function reaches its own slot, its own rings and its own dailies, and nothing else (R20, R74, R452). -/
def Dev.reach (d : Dev) (m : Master) (addr : Nat) : Option Nat :=
  match m with
  | .fn f =>
    if f = 0 || decide (bar2Base ≤ addr) then some addr
    else if addr < 0x2010 then some (0x100000 + f * 0x10000 + addr)
    else if 0x10000 ≤ addr && decide (addr < 0x50000) && decide (0x1000 ≤ addr % 0x2000) && decide (addr % 0x2000 < 0x1020) then
      (d.ringOf f ((addr - 0x10000) / 0x2000)).map (fun g => 0xA00000 + g * 0x2000 + addr % 0x2000)
    else if addr = 0x80000 || addr = 0x80004 || addr = 0x80008 then some (0x1200010 + (addr - 0x80000))
    else none
  | _ => some addr

/-- Some register or area occupies an address of F0's window, as the master sees it (R42, R56, R321).
DEDUCED: a write by F0 to the two registers of another slot that it reaches only for reading finds no register. -/
def Dev.occupied (d : Dev) (m : Master) (w : Bool) (addr : Nat) : Bool :=
  if 0x100000 ≤ addr && decide (addr < 0x200000) then
    let f := (addr - 0x100000) / 0x10000
    let o := addr % 0x10000
    if m.isF0 && f != 0 then !w && (o == 0x2004 || o == 0x200C) else decide (o < 0x2010)
  else if 0xA01000 ≤ addr && decide (addr < 0xB00000) then (regDef addr).isSome && (d.ring ((addr - 0xA00000) / 0x2000)).owner == m.tenant
  else (regDef addr).isSome

/-- The blocks of R369, whose registers can be reached in every state. -/
def alwaysOn (addr : Nat) : Bool :=
  decide (addr < 0x200000) || (decide (0xF00000 ≤ addr) && decide (addr < 0x1200000)) || decide (0x1300000 ≤ addr) ||
  addr == 0x800040 || (decide (0x800100 ≤ addr) && decide (addr < 0x801000))

/-- A block's registers cannot be reached: its domain is off, or its clock is stopped (R43, R369). -/
def Dev.shut (d : Dev) (addr : Nat) : Bool := (!d.running || decide (d.gaf.state ≠ .show')) && !alwaysOn addr

/-- What becomes of an access. -/
inductive Verdict
  | bad | denied | off | unmapped
  | at' (addr : Nat)
  /-- function `f`'s BAR2/3 or configuration space -/
  | endpoint (f addr : Nat)
  deriving DecidableEq, Repr

/-- Judge an access: its shape, whether it is the function's own, whether the block runs, whether a register is there. -/
def Dev.judge (d : Dev) (a : Access) : Verdict :=
  if !goodShape a then .bad
  else match a.master, d.reach a.master a.addr with
    | _, none => .denied
    | .fn f, some x => if bar2Base ≤ x then .endpoint f x else if d.shut x then .off else if d.occupied a.master a.write x then .at' x else .unmapped
    | _, some x => if d.shut x then .off else if d.occupied a.master a.write x then .at' x else .unmapped

/-! What a register reads as (R15). -/

/-- A word's half that lies at an address of an area. -/
def areaHalf (m : Table Word) (o : Nat) : Reg :=
  let w := (tlook (fun _ => (0 : Word)) m (o / 8)).toNat
  BitVec.ofNat 32 (if o % 8 = 0 then w else w / 2 ^ 32)

/-- Registers of MBX, slot `f`. -/
def Dev.readMbx (d : Dev) (f o addr : Nat) : Reg :=
  if o < 0x1000 then areaHalf (d.fn f).reqArea o
  else if o < 0x2000 then areaHalf (d.fn f).respArea (o - 0x1000)
  else if o = 0x2004 then d.mbxState f
  else if o = 0x200C then d.reg addr
  else 0

/-- Registers of a ring's page (R321). -/
def Ring.readReg (r : Ring) (o : Nat) : Reg :=
  match o with
  | 0x1000 => r.ctrl
  | 0x1004 => r.baseLo
  | 0x1008 => r.baseHi
  | 0x100C => packR [(r.prod, 15, 0)]
  | 0x1010 => packR [(r.cqHead, 15, 0)]
  | 0x1014 => packR [(r.cons, 15, 0), (r.cqTail, 15, 16), (b2n r.phase, 1, 31)]
  | 0x1018 => r.coal
  | _ => packR [((match r.st with | .stopped => 0 | .running => 1 | .draining => 2 | .fault => 3), 2, 0), (b2n r.cfgErr, 1, 4), (r.inFlight, 16, 8)]

/-- Registers of the seal engine. -/
def Dev.readSeal (d : Dev) (m : Master) (o addr : Nat) : Reg :=
  if o = 0 then d.sealLockReg else if o = 4 then d.sealEng.ctrl else if o = 8 then d.sealEng.src else if o = 0xC then d.sealEng.len
  else if o = 0x10 then d.sealStatus else if o = 0x40 then d.reg addr else if 0x200 ≤ o then d.sealMacReg m ((o - 0x200) / 4) else 0

/-- Registers of a check-value unit. -/
def Chk.readReg (c : Chk) (o : Nat) : Reg :=
  match o with
  | 0x00 => c.lockReg
  | 0x04 => c.ctrlReg
  | 0x08 => c.foldLo
  | 0x0C => c.foldHi
  | 0x18 => BitVec.ofNat 32 c.rem
  | 0x1C => BitVec.ofNat 32 c.count
  | 0x20 => c.expect
  | 0x24 => BitVec.ofNat 32 c.result
  | _ => 0

/-- Registers of a crew core. -/
def Core.readReg (x : Core) (o : Nat) : Reg :=
  match o with
  | 0x04 => x.resultReg
  | 0x08 => x.taskReg
  | 0x10 => x.cmdReg
  | _ => 0

/-- Registers of the blocks of which few are computed. -/
def Dev.readOne (d : Dev) (t : Nat) (m : Master) (addr : Nat) : Reg :=
  let l := tlook (fun _ => ({} : Latch)) d.glb.latch m.code
  match addr with
  | 0x0000000 => if d.glb.tsPresent then 0x93482101 else 0x93482100
  | 0x0000014 => l.hi
  | 0x0000018 => l.tickLo
  | 0x000001C => l.tickHi
  | 0x0200008 => d.pln.lockStatus
  | 0x020000C => BitVec.ofNat 32 d.pln.lockTick
  | 0x0200010 => BitVec.ofNat 32 d.pln.budget
  | 0x0300004 => d.staCount
  | 0x0400004 => d.mdmRxState t
  | 0x0500004 => packR [(d.retainUse, 20, 0)]
  | 0x0600000 => d.feSynthState
  | 0x0700000 => d.btState
  | 0x0700004 => d.btAlign
  | 0x0800104 => d.emac.wakeStatus
  | 0x0900000 => d.flowUse
  | 0x0900004 => d.slowState
  | 0x0A00000 => packR [(d.bufUse, 26, 0)]
  | 0x0B00004 => d.holdUseReg
  | 0x0D00000 => d.rgmState
  | 0x0D00004 => d.rgmReady
  | 0x0D00014 => 0
  | 0x0E00000 => d.mem.faultReg 0
  | 0x0E00004 => d.mem.faultReg 1
  | 0x0E00008 => d.mem.faultReg 2
  | 0x0F00000 => d.gafState
  | 0x0F00004 => d.gafVote
  | 0x0F00008 => d.gafMeasure
  | 0x0F0000C => d.gaf.wakeStatus
  | 0x1000000 => d.bootStatus
  | 0x1000004 => d.nvState
  | 0x1100000 => d.tsStatus
  | 0x1100004 => BitVec.ofNat 32 (newestSeq d.ts.mirror)
  | 0x1200000 => d.lastTickReg
  | 0x1200010 => d.peekSelReg m
  | 0x1200018 => d.peekHiReg m
  | 0x1300004 => d.lifecycle
  | _ => d.reg addr

/-- What a register of F0's window holds for a master that reads it. -/
def Dev.readReg (d : Dev) (t : Nat) (m : Master) (addr : Nat) : Reg :=
  if 0x100000 ≤ addr && decide (addr < 0x200000) then d.readMbx ((addr - 0x100000) / 0x10000) (addr % 0x10000) addr
  else if 0x801000 ≤ addr && decide (addr < 0x805000) && addr % 0x1000 == 4 then d.portStatus ((addr - 0x801000) / 0x1000)
  else if 0x801000 ≤ addr && decide (addr < 0x805000) && addr % 0x1000 == 0x20 then d.tsFill ((addr - 0x801000) / 0x1000)
  else if 0xA01000 ≤ addr && decide (addr < 0xB00000) then (d.ring ((addr - 0xA00000) / 0x2000)).readReg (addr % 0x2000)
  else if 0xB80000 ≤ addr && decide (addr < 0xC00000) then d.readSeal m (addr - 0xB80000) addr
  else if 0xC01000 ≤ addr && decide (addr < 0xC01800) then (d.chkUnit ((addr - 0xC01000) / 0x100)).readReg (addr % 0x100)
  else if 0xD01000 ≤ addr && decide (addr < 0xD01600) then (d.core ((addr - 0xD01000) / 0x40)).readReg (addr % 0x40)
  else d.readOne t m addr

/-- SHOW_TIME_LO_READ (R31): a read of GLB_SHOW_TIME_LO latches the other time registers for its master. -/
def goShowTimeLoRead (t : Nat) (m : Master) (d : Dev) : Dev :=
  if d.stopped m then d
  else
  let l : Latch := { hi := BitVec.ofNat 32 (t / 2 ^ 32), tickLo := BitVec.ofNat 32 (tickOf t)
                     tickHi := packR [(tickOf t / 2 ^ 32, 16, 0), (beatOf t, 10, 16)] }
  ({ d with glb := { d.glb with latch := tput (fun _ => ({} : Latch)) d.glb.latch m.code l } } : Dev).reads m (BitVec.ofNat 32 t)

/-- A read of an address that a register or an area occupies; a 64-bit read of an area returns both halves. -/
def Dev.readAt (d : Dev) (t : Nat) (a : Access) (x : Nat) : Dev :=
  if x = 0x10 then goShowTimeLoRead t a.master d
  else if x = 0xD00010 then goSlowPop a.master d
  else if x = 0x1200014 then goPeekRead a.master d
  else if a.width = 8 then
    let w : Word := (d.readReg t a.master x).setWidth 64 ||| ((d.readReg t a.master (x + 4)).setWidth 64 <<< 32)
    { d with glb := { d.glb with readData := tput (fun _ => 0) d.glb.readData a.master.code w } }
  else d.reads a.master (d.readReg t a.master x)

/-! Writes. -/

/-- One half of an area's word, written. -/
def setHalf (m : Table Word) (o : Nat) (v : Reg) : Table Word :=
  tmod (fun _ => 0) m (o / 8) (fun w => if o % 8 = 0 then BitVec.ofNat 64 (putBits w.toNat 31 0 v.toNat) else BitVec.ofNat 64 (putBits w.toNat 63 32 v.toNat))

/-- A write of a mailbox slot (R55, R56, R58): the request area takes it at once, the response area ignores it, and a doorbell and an acknowledgement act as their rows say. -/
def Dev.writeMbx (d : Dev) (t : Nat) (f o : Nat) (a : Access) : Dev :=
  if o < 0x1000 then
    let put (m : Table Word) : Table Word := if a.width = 8 then tput (fun _ => 0) m (o / 8) a.data else setHalf m o (a.data.setWidth 32)
    d.modFn f (fun s => { s with reqArea := put s.reqArea })
  else if o = 0x2000 && a.data.getLsbD 0 then goDoorbell t f d
  else if o = 0x2008 && a.data.getLsbD 0 then goRespAck t f d
  else d

/-- A write of a check-value unit's registers other than its lock, by its owner: it takes effect in order of issue (R338). -/
def Dev.writeChk (d : Dev) (t : Nat) (m : Master) (n o : Nat) (v : Reg) : Dev :=
  d.chkWrite t m n (fun d =>
    match o with
    | 0x04 => d.chkCtrl t n v
    | 0x08 => d.modChk n (fun c => { c with foldLo := v })
    | 0x0C => d.modChk n (fun c => { c with foldHi := v })
    | 0x10 => d.modChk n (fun c => c.feed (leBytes v.toNat 4))
    | 0x14 => d.modChk n (fun c => c.feed (leBytes (rfld v 23 0) (rfld v 25 24)))
    | 0x18 => d.modChk n (fun c => if c.restored then { c with rem := v.toNat } else c)
    | 0x1C => d.modChk n (fun c => { c with count := v.toNat })
    | 0x20 => d.modChk n (fun c => { c with expect := v })
    | _ => d)

/-- The ranked inputs that a write is (R32, R335, R338, R351, R355, R361); the debug access port makes none (R474). -/
def writtenInputs (m : Master) (x : Nat) (v : Reg) : List Instr :=
  if m = .dap then []
  else if x = 0xB80000 then (if v.getLsbD 1 then [.sealRelease m] else []) ++ (if v.getLsbD 0 then [.sealAcquire m] else [])
  else if 0xC01000 ≤ x && x % 0x100 == 0 && decide (x < 0xC01800) then
    let n := (x - 0xC01000) / 0x100
    (if v.getLsbD 1 then [.chkRelease m n] else []) ++ (if v.getLsbD 0 then [.chkAcquire m n] else [])
  else if 0xD01000 ≤ x && decide (x < 0xD01600) then
    let c := (x - 0xD01000) / 0x40
    if m ≠ .crew c then []
    else match x % 0x40 with
      | 0x00 => (match rfld v 31 28 with
        | 1 => [.ready m (.task (rfld v 11 0))]
        | 2 => [.cancel m (rfld v 11 0)]
        | 3 => [.alloc m]
        | 4 => [.free m (rfld v 11 0)]
        | _ => [.ready m (.badOp (rfld v 11 0))])
      | 0x0C => (match rfld v 1 0 with | 1 => [.done c] | 2 => [.yield c] | 3 => [.preempted c] | _ => [])
      | 0x10 => [.crewCommand m c (rfld v 24 0)]
      | _ => []
  else []

/-- A number kept within bounds. -/
def clampN (lo hi n : Nat) : Nat := if n < lo then lo else if hi < n then hi else n

/-- The bits that a W1C write clears: not those that the device has set in the same beat (R18). -/
def Dev.clearable (d : Dev) (x : Nat) (def' : RegDef) (v : Reg) : Reg :=
  BitVec.ofNat 32 (sumN (((List.range 32).filter (fun i => v.getLsbD i && def'.w1c.getLsbD i &&
    !d.glb.incSet.contains (x, i) && !d.glb.incSet.contains (x, i + 32))).map (fun i => 2 ^ i)))

/-- The bits that stay set under a clear because the device set them again in the beat: their new setting is mirrored into the log (R18). -/
def Dev.relogged (d : Dev) (x : Nat) (def' : RegDef) (v : Reg) : List Nat :=
  (List.range 32).filter (fun i => v.getLsbD i && def'.w1c.getLsbD i && d.glb.incSet.contains (x, i) && !d.glb.incSet.contains (x, i + 32))

/-- Block code of an incident register (R419). -/
def incBlock (x : Nat) : Nat := ((List.range 21).find? (fun b => incAddr b == x)).getD 1

/-- A write of a plain register: RW fields take it, W1C bits are cleared, everything else ignores it (R15, R18). -/
def Dev.writePlain (d : Dev) (t x : Nat) (v : Reg) : Dev :=
  match regDef x with
  | none => d
  | some r =>
    let old := d.reg x
    let d1 := (d.relogged x r v).foldl (fun e i => (e.logBit t x (incBlock x) i 0).fireMsi 0 1) d
    d1.putReg x ((old &&& ~~~(r.rw ||| d.clearable x r v)) ||| (v &&& r.rw))

/-- A write of a ring's registers takes effect (R303, R307, R309, R310). -/
def Dev.writeRing (d : Dev) (t : Nat) (m : Master) (g o : Nat) (v : Reg) : Dev :=
  if !d.reachesRing m g then d
  else match o with
    | 0x1000 => d.ringCtrl t g v
    | 0x1004 => d.modRing g (fun r => { r with baseLo := v &&& 0xFFFFF000 })
    | 0x1008 => d.modRing g (fun r => { r with baseHi := v })
    | 0x100C => goRingProd m g v d
    | 0x1010 => goRingCqHead m g v d
    | 0x1018 => d.modRing g (fun r => { r with coal := v })
    | _ => d

/-- A write of the seal engine's settings takes effect (R336). -/
def Dev.writeSeal (d : Dev) (t : Nat) (m : Master) (o : Nat) (v : Reg) : Dev :=
  if o = 0x40 then d.writePlain t (0xB80000 + o) v
  else if o = 4 then d.sealCtrl t m v
  else if o = 8 || o = 0xC || (decide (0x100 ≤ o) && decide (o < 0x180)) then
    if !d.ownsSeal m then d.sealStranger t
    else if o = 8 then { d with sealEng := { d.sealEng with src := v } }
    else if o = 0xC then { d with sealEng := { d.sealEng with len := v &&& 0x01FFFFFF } }
    else { d with sealEng := { d.sealEng with key := tput (fun _ => (0 : Reg)) d.sealEng.key ((o - 0x100) / 4) v } }
  else d

/-- A write of a port's registers takes effect (R261, R264, R267, R269). -/
def Dev.writePort (d : Dev) (t p o x : Nat) (v : Reg) : Dev :=
  match o with
  | 0x00 => d.portCtrl t p v
  | 0x08 => d.putReg x (BitVec.ofNat 32 (clampN 1518 9216 (rfld v 13 0)))
  | 0x0C => d.flowWrite p v
  | 0x14 => d.putReg x (packR [(clampN 1 100 (rfld v 6 0), 7, 0), (clampN 1 1000 (rfld v 25 16), 10, 16), (b2n (v.getLsbD 31), 1, 31)])
  | _ => d.writePlain t x v

/-- A staged write takes effect, at the boundary after its issue (R19). -/
def Dev.writeLands (t : Nat) (d : Dev) (a : Access) : Dev :=
  let x := a.addr
  let v : Reg := a.data.setWidth 32
  if 0x801000 ≤ x && decide (x < 0x805000) then d.writePort t ((x - 0x801000) / 0x1000) (x % 0x1000) x v
  else if 0x600100 ≤ x && decide (x < 0x6001C0) then goFeChainCtrl t a.master ((x - 0x600100) / 4) v d
  else if 0xA01000 ≤ x && decide (x < 0xB00000) then d.writeRing t a.master ((x - 0xA00000) / 0x2000) (x % 0x2000) v
  else if 0xB80000 ≤ x && decide (x < 0xC00000) then d.writeSeal t a.master (x - 0xB80000) v
  else if 0xD01000 ≤ x && decide (x < 0xD01600) then d
  else if x = 0x800104 then
    (if v.getLsbD 31 && !d.glb.incSet.contains (x, 63) then { d with emac := { d.emac with wakeStatus := d.emac.wakeStatus &&& 0x7FFFFFFF } } else d)
  else if x = 0xF0000C then
    (if v.getLsbD 31 && !d.glb.incSet.contains (x, 63) then { d with gaf := { d.gaf with wakeStatus := d.gaf.wakeStatus &&& 0x7FFFFFFF } } else d)
  else if x = 0x1200010 then
    { d with dly := { d.dly with peekSel := tput (fun _ => (0 : Reg)) d.dly.peekSel a.master.code (v &&& 0x7FF) } }
  else d.writePlain t x v

/-- A write that reaches a register or an area: mailbox slots, check-value units and slow-path returns take it at once, claims and releases become ranked inputs of the next boundary, and every other write is staged (R19, R32). -/
def Dev.writeAt (d : Dev) (t : Nat) (a : Access) (x : Nat) : Dev :=
  let v : Reg := a.data.setWidth 32
  if 0x100000 ≤ x && decide (x < 0x200000) && x % 0x10000 != 0x200C then d.writeMbx t ((x - 0x100000) / 0x10000) (x % 0x10000) a
  else if x = 0xD00014 then d.slowReturn t a.master (rfld v 31 29) (rfld v 14 0)
  else if 0xC01000 ≤ x && decide (x < 0xC01800) && x % 0x100 != 0 then d.writeChk t a.master ((x - 0xC01000) / 0x100) (x % 0x100) v
  else
    match writtenInputs a.master x v with
    | [] =>
      if x = 0xB80000 || (decide (0xC01000 ≤ x) && decide (x < 0xC01800)) || (a.master.isF0 && decide (0x110000 ≤ x) && decide (x < 0x200000)) then d
      else { d with glb := { d.glb with staged := d.glb.staged ++ [{ a with addr := x }] } }
    | l => { d with arrivals := d.arrivals ++ l }

/-! The endpoint's own registers (R47, R48). -/

/-- What the host can set or read in the configuration space lies where PCI Express puts it (PRESUMED, log 40); the places of the capabilities are open (Config.capAt), and so are the bits of them that R47 does not give.
Vendor ID, Device ID, Revision ID and class code of a function (R47). -/
def vendorId : Nat := 0x1F4C
def deviceId (f : Nat) : Nat := if f = 0 then 0x9348 else 0x9349
def revisionId : Nat := 0x21
def classCode : Nat := 0x028000

/-- Vectors of a function (R49). -/
def msixVectors (f : Nat) : Nat := if f = 0 then 130 else 33
/-- Offset of a function's pending-bit array (R48). -/
def pbaBase (f : Nat) : Nat := if f = 0 then 0x8000 else 0x2000

/-- The capabilities that R47 lists; any other is absent. -/
inductive Capability
  | express | msix | aer | ari | sriov
  deriving DecidableEq, Repr

/-- The capability's identifier in PCI Express. -/
def Capability.id : Capability → Nat
  | .express => 0x10 | .msix => 0x11 | .aer => 0x0001 | .ari => 0x000E | .sriov => 0x0010

/-- Its length in double words. -/
def Capability.words : Capability → Nat
  | .express => 15 | .msix => 3 | .aer => 18 | .ari => 2 | .sriov => 16

/-- The capabilities of a function in the 256 octets of the standard space, in the order of their list. -/
def standardCaps : List Capability := [.express, .msix]
/-- Those of the extended space; error reporting and SR-IOV are F0's. -/
def extendedCaps (f : Nat) : List Capability := if f = 0 then [.aer, .ari, .sriov] else [.ari]

/-- The double word at which function `f` shows a capability: the first of the extended list stands at 0x100. -/
def capPlace (f : Nat) (c : Capability) : Nat :=
  if standardCaps.contains c then 16 + (Config.capAt f c.id).toNat % 48
  else if (extendedCaps f).head? = some c then 64
  else 82 + (Config.capAt f (0x100 + c.id)).toNat % 900

/-- The capability after `c` in a list. -/
def nextCap : List Capability → Capability → Option Capability
  | x :: y :: rest, c => if x = c then some y else nextCap (y :: rest) c
  | _, _ => none

/-- Octet offset of the capability after `c`, 0 for none. -/
def capNext (f : Nat) (c : Capability) : Nat :=
  match nextCap (if standardCaps.contains c then standardCaps else extendedCaps f) c with
  | some n => 4 * capPlace f n
  | none => 0

/-- A free double word with fields `(value, width, lowest bit)` fixed. -/
def withFields (free : Nat) : List (Nat × Nat × Nat) → Reg
  | [] => BitVec.ofNat 32 free
  | (v, w, lo) :: rest => withFields (putBits free (lo + w - 1) lo v) rest

/-- The PCI Express code of 128 to 4,096 octets. -/
def sizeCode (n : Nat) : Nat := match n with | 128 => 0 | 256 => 1 | 512 => 2 | 1024 => 3 | 2048 => 4 | _ => 5
/-- The octets of a code. -/
def codeSize (c : Nat) : Nat := 128 * 2 ^ c

/-- Octets of a BAR (R48): of F0's BAR0/1 and BAR2/3, then of the virtual functions'. -/
def barSize (i : Nat) : Nat := match i with | 0 => 2 ^ 25 | 2 => 2 ^ 16 | 4 => 2 ^ 20 | _ => 2 ^ 14

/-- A BAR's double word: the lower one of a pair is 64-bit, non-prefetchable memory and has its size's bits at 0 (R48). -/
def PcieFn.bar (p : PcieFn) (i : Nat) : Reg :=
  let v := tlook (fun _ => (0 : Reg)) p.bars i
  if i % 2 = 1 then v else BitVec.ofNat 32 (v.toNat / barSize i * barSize i + 4)

/-- Double word `i` of a capability (R47). -/
def Dev.capWord (d : Dev) (f : Nat) (c : Capability) (i : Nat) : Reg :=
  let p := d.pcieFn f
  let x := d.glb.pcie
  let free := (d.free.setWidth 32).toNat
  match c, i with
  | .express, 0 => packR [(c.id, 8, 0), (capNext f c, 8, 8), (2, 4, 16), (0, 4, 20)]
  | .express, 1 => withFields free [(sizeCode 512, 3, 0), (1, 1, 28)]
  | .express, 2 => withFields free [(sizeCode p.maxPayload, 3, 5), (sizeCode p.maxReadReq, 3, 12), (0, 1, 15)]
  | .express, 3 => withFields free [(5, 4, 0), (8, 6, 4)]
  | .express, 9 => withFields free [(3, 2, 16)]
  | .express, 10 => withFields free [(b2n p.tenBit, 1, 12)]
  | .express, 11 => withFields free [(31, 7, 1)]
  | .msix, 0 => packR [(c.id, 8, 0), (capNext f c, 8, 8), (msixVectors f - 1, 11, 16), (b2n p.msixMask, 1, 30), (b2n p.msixOn, 1, 31)]
  | .msix, 1 => 2
  | .msix, 2 => BitVec.ofNat 32 (pbaBase f + 2)
  | .sriov, 2 => withFields free [(b2n x.vfOn, 1, 0), (b2n x.vfMem, 1, 3)]
  | .sriov, 3 => packR [(15, 16, 0), (15, 16, 16)]
  | .sriov, 4 => withFields free [(x.numWritten, 16, 0)]
  | .sriov, 5 => packR [(1, 16, 0), (1, 16, 16)]
  | .sriov, 6 => packR [(deviceId 1, 16, 16)]
  | _, 0 => packR [(c.id, 16, 0), (1, 4, 16), (capNext f c, 12, 20)]
  | _, _ => if c = .sriov && decide (9 ≤ i) && decide (i ≤ 12) then p.bar (i - 5) else BitVec.ofNat 32 free

/-- The capability and its double word that stand at double word `w`. -/
def capOf (f w : Nat) : Option (Capability × Nat) :=
  ((standardCaps ++ extendedCaps f).find? (fun c => decide (capPlace f c ≤ w) && decide (w < capPlace f c + c.words))).map (fun c => (c, w - capPlace f c))

/-- A double word of the configuration space (R47, R48, R406): the standard header, then the capabilities. A virtual function's BARs stand in F0's SR-IOV capability and read 0 in its own header. -/
def Dev.configReg (d : Dev) (f o : Nat) : Reg :=
  let p := d.pcieFn f
  let w := o / 4
  if w = 0 then packR [(vendorId, 16, 0), (deviceId f, 16, 16)]
  else if w = 1 then withFields (d.free.setWidth 32).toNat [(p.command.toNat, 16, 0), (1, 1, 20)]
  else if w = 2 then packR [(revisionId, 8, 0), (classCode, 24, 8)]
  else if 4 ≤ w && decide (w ≤ 7) then (if f = 0 then p.bar (w - 4) else 0)
  else if w = 13 then packR [(4 * capPlace f .express, 8, 0)]
  else match capOf f w with
    | some (c, i) => d.capWord f c i
    | none => d.free.setWidth 32

/-- A double word of an entry: address, data, mask (PRESUMED, log 40). -/
def MsixEntry.word (e : MsixEntry) (i : Nat) : Reg := match i with | 0 => e.addrLo | 1 => e.addrHi | 2 => e.data | _ => packR [(b2n e.masked, 1, 0)]
/-- An entry with one of its double words written. -/
def MsixEntry.put (e : MsixEntry) (i : Nat) (v : Reg) : MsixEntry :=
  match i with | 0 => { e with addrLo := v } | 1 => { e with addrHi := v } | 2 => { e with data := v } | _ => { e with masked := v.getLsbD 0 }

/-- A double word of BAR2/3. -/
def Dev.bar2Reg (d : Dev) (f o : Nat) : Reg :=
  let p := d.pcieFn f
  if o / 16 < msixVectors f then (p.entry (o / 16)).word (o / 4 % 4)
  else if pbaBase f ≤ o && decide (o < pbaBase f + 24) then
    BitVec.ofNat 32 (sumN (((List.range 32).filter (fun i => p.waiting.contains ((o - pbaBase f) * 8 + i))).map (fun i => 2 ^ i)))
  else 0

/-- The messages of vectors that are no longer masked go out. -/
def PcieFn.deliver (p : PcieFn) : PcieFn := { p with waiting := p.waiting.filter p.masks }

/-- A double word of an entry of the MSI-X table written. -/
def PcieFn.write (p : PcieFn) (v i : Nat) (x : Reg) : PcieFn :=
  PcieFn.deliver { p with table := tmod (fun _ => ({} : MsixEntry)) p.table v (fun e => e.put i x) }

/-- A double word of BAR2/3 written. -/
def Dev.bar2Put (d : Dev) (f o : Nat) (v : Reg) : Dev := if o / 16 < msixVectors f then d.modPcie f (fun p => p.write (o / 16) (o / 4 % 4) v) else d

/-- A double word of a function's configuration space or BAR2/3 as it reads. -/
def Dev.endpointReg (d : Dev) (f x : Nat) : Reg := if configBase ≤ x then d.configReg f (x - configBase) else d.bar2Reg f (x - bar2Base)

/-- Device Control of a function written (R47, R53): maximum payload up to 512 octets and read request up to 4,096; a 1 in bit 15 is a Function Level Reset, an input of the next boundary. -/
def Dev.devControl (d : Dev) (f : Nat) (v : Reg) : Dev :=
  let d1 := d.modPcie f (fun p => { p with maxPayload := codeSize (Nat.min 2 (rfld v 7 5)), maxReadReq := codeSize (Nat.min 5 (rfld v 14 12)) })
  if v.getLsbD 15 then { d1 with arrivals := d1.arrivals ++ [.functionLevelReset f] } else d1

/-- The number of virtual functions as the SR-IOV capability has it after a write (R54, R392): a change is an input of the next boundary. -/
def Dev.vfInput (d : Dev) (on : Bool) (n : Nat) : Dev :=
  let x := d.glb.pcie
  let d1 : Dev := { d with glb := { d.glb with pcie := { x with vfOn := on, numWritten := n } } }
  let was := if x.vfOn then x.numWritten else 0
  let now := if on then n else 0
  if was < now then { d1 with arrivals := d1.arrivals ++ [.vfEnable now] }
  else if now < was then { d1 with arrivals := d1.arrivals ++ [.vfDisable now] }
  else d1

/-- A double word of a capability written. -/
def Dev.capPut (d : Dev) (f : Nat) (c : Capability) (i : Nat) (v : Reg) : Dev :=
  match c, i with
  | .express, 2 => d.devControl f v
  | .express, 10 => d.modPcie f (fun p => { p with tenBit := v.getLsbD 12 })
  | .msix, 0 => d.modPcie f (fun p => PcieFn.deliver { p with msixMask := v.getLsbD 30, msixOn := v.getLsbD 31 })
  | .sriov, 2 =>
    let d1 := d.vfInput (v.getLsbD 0) d.glb.pcie.numWritten
    { d1 with glb := { d1.glb with pcie := { d1.glb.pcie with vfMem := v.getLsbD 3 } } }
  | .sriov, 4 => d.vfInput d.glb.pcie.vfOn (Nat.min 15 (rfld v 15 0))
  | .sriov, _ => if 9 ≤ i && decide (i ≤ 12) then d.modPcie f (fun p => { p with bars := tput (fun _ => (0 : Reg)) p.bars (i - 5) v }) else d
  | _, _ => d

/-- A double word of the configuration space written: what the capabilities of R47 and the BARs of R48 let the host set. -/
def Dev.configPut (d : Dev) (f o : Nat) (v : Reg) : Dev :=
  let w := o / 4
  if w = 1 then d.modPcie f (fun p => { p with command := v &&& 6 })
  else if 4 ≤ w && decide (w ≤ 7) then (if f = 0 then d.modPcie f (fun p => { p with bars := tput (fun _ => (0 : Reg)) p.bars (w - 4) v }) else d)
  else match capOf f w with
    | some (c, i) => d.capPut f c i v
    | none => d

/-- A double word of a function's configuration space or BAR2/3 written. -/
def Dev.endpointPut (d : Dev) (f x : Nat) (v : Reg) : Dev := if configBase ≤ x then d.configPut f (x - configBase) v else d.bar2Put f (x - bar2Base) v

/-- An access to the endpoint (R47, R48). -/
def Dev.endpoint (d : Dev) (f x : Nat) (a : Access) : Dev :=
  if a.write then
    let d1 := d.endpointPut f x (a.data.setWidth 32)
    if a.width = 8 then d1.endpointPut f (x + 4) ((a.data >>> 32).setWidth 32) else d1
  else
    let lo := d.endpointReg f x
    let w : Word := if a.width = 8 then lo.setWidth 64 ||| ((d.endpointReg f (x + 4)).setWidth 64 <<< 32) else lo.setWidth 64
    { d with glb := { d.glb with readData := tput (fun _ => 0) d.glb.readData a.master.code w } }.drew

/-! An access. -/

/-- What a refused read returns: all ones in every octet that it covers (R14, R20, R42, R43). -/
def Dev.allOnes (d : Dev) (a : Access) : Dev :=
  if a.write then d
  else
    let w : Word := BitVec.ofNat 64 (2 ^ (8 * Nat.min a.width 8) - 1)
    { d with glb := { d.glb with readData := tput (fun _ => 0) d.glb.readData a.master.code w } }

/-- The debug access port's own counts (R472, R474). -/
def Dev.dapCounts (d : Dev) (t : Nat) (a : Access) : Dev :=
  if a.master ≠ .dap then d
  else if a.write then
    let d1 := d.bump 45 2
    if d1.tst.wrote then d1 else { d1 with tst := { d1.tst with wrote := true } }.inc t 20 2
  else d.bump 45 1

/-- Memory Space Enable of a function: F0's own, and the one of the SR-IOV capability for the virtual functions (R406). -/
def Dev.memoryOn (d : Dev) (f : Nat) : Bool := if f = 0 then (d.pcieFn 0).command.getLsbD 1 else d.glb.pcie.vfMem

/-- The access can be made at all: by the host while its link is up and, but for the configuration space, Memory Space Enable is set (R406), by the debug access port while it is connected, by a core that is not halted (R474), and by none of the device's own data plane. -/
def Dev.onBus (d : Dev) (a : Access) : Bool :=
  match a.master with
  | .fn f => d.hostUp && decide ((d.fn f).st ≠ .off) && (d.memoryOn f || decide (configBase ≤ a.addr))
  | .dap => d.tst.connected
  | .device => false
  | m => !d.stopped m

/-- Any access to the register window (R14 to R20, R42, R43). -/
def Dev.access (d : Dev) (t : Nat) (a : Access) : Dev :=
  if !d.onBus a then (if a.master = .dap then d.bump 45 3 else d)
  else
    let d0 := d.dapCounts t a
    match d0.judge a with
    | .bad => ((d0.inc t 0 0).bump 1 0).allOnes a
    | .denied => (d0.bump (2 + a.master.tenant) 4).allOnes a
    | .off => ((d0.inc t 0 4).bump 1 2).allOnes a
    | .unmapped => ((d0.inc t 0 1).bump 1 1).allOnes a
    | .endpoint f x => d0.endpoint f x a
    | .at' x =>
      let d1 := if a.master.isF0 then d0.filtered a.master.code 2 x a.width a.write else d0
      if a.write then d1.writeAt t a x else d1.readAt t a x

/-- BAD_ACCESS (R14). -/
def goBadAccess (t : Nat) (a : Access) (d : Dev) : Dev := d.access t a

def execBadAccess (a : Access) (s : State) : Host.Outcome State Fault Refusal := .next (s.act fun t d => goBadAccess t a d)

/-- REGISTER_WRITE (R15, R18, R19). -/
def goRegisterWrite (t : Nat) (a : Access) (d : Dev) : Dev := d.access t a

def execRegisterWrite (a : Access) (s : State) : Host.Outcome State Fault Refusal := .next (s.act fun t d => goRegisterWrite t a d)

/-- DENIED_ACCESS (R20, R74). -/
def goDeniedAccess (t : Nat) (a : Access) (d : Dev) : Dev := d.access t a

def execDeniedAccess (a : Access) (s : State) : Host.Outcome State Fault Refusal := .next (s.act fun t d => goDeniedAccess t a d)

/-- UNMAPPED_ACCESS (R42). -/
def goUnmappedAccess (t : Nat) (a : Access) (d : Dev) : Dev := d.access t a

def execUnmappedAccess (a : Access) (s : State) : Host.Outcome State Fault Refusal := .next (s.act fun t d => goUnmappedAccess t a d)

/-- DOMAIN_OFF_ACCESS (R43, R369). -/
def goDomainOffAccess (t : Nat) (a : Access) (d : Dev) : Dev := d.access t a

def execDomainOffAccess (a : Access) (s : State) : Host.Outcome State Fault Refusal := .next (s.act fun t d => goDomainOffAccess t a d)

def execShowTimeLoRead (m : Master) (s : State) : Host.Outcome State Fault Refusal := .next (s.act fun t d => goShowTimeLoRead t m d)

end Sys2Proof.Machine
end

