-- ==== Sys2Proof/Machine/Beat.lean ====
section
/-! DEFINITION. The beat boundary (R19, R29, R32 to R36, R39, R58): what ends a beat, the inputs sampled at its end in rank order, and the timeline actions that fall due. The device lives through a beat whenever its queue of commands is empty (log 1). -/
namespace Sys2Proof.Machine

/-! Taking mailbox requests (R58, R63, R64). -/

/-- The command that a request's opcode names (R64); SEAL_RUN and BSS_START read host memory as they are taken (R125, R343). -/
def Dev.command (d : Dev) (f : Nat) (q : List Word) : Instr :=
  match reqOp q with
  | 0x001 => .ifVersion f q
  | 0x020 => .propGet f q
  | 0x021 => .propSet f q
  | 0x022 => .propDescribe f q
  | 0x030 => .ringAssign f q
  | 0x100 => .plnStatus f q
  | 0x110 => .plnForceDark f q
  | 0x120 => .plnSheetRead f q
  | 0x130 => .plnTakeLog f q
  | 0x200 => .bssStart f q (some (d.hostGet f (wd q 3).toNat (fld (wd q 4) 11 0)))
  | 0x201 => .bssStop f q
  | 0x210 => .staAdd f q
  | 0x211 => .staRemove f q
  | 0x212 => .staQuery f q
  | 0x300 => .mdmNoiseRead f q
  | 0x301 => .mdmQualityRead f q
  | 0x310 => .retakePeer f q
  | 0x400 => .feRadioCtrl f q
  | 0x401 => .feChannelSet f q
  | 0x402 => .feCalibrate f q
  | 0x403 => .feStatus f q
  | 0x410 => .fe6gGrant f q
  | 0x500 => .btJoin f q
  | 0x501 => .btLeave f q
  | 0x510 => .btNeighbours f q
  | 0x520 => .btStatus f q
  | 0x530 => .btTimeAdjust f q
  | 0x640 => .rteTableWrite f q
  | 0x641 => .rteTableRead f q
  | 0x660 => .tmPolicerWrite f q
  | 0x661 => .tmPolicerRead f q
  | 0x662 => .tmQueueSample f q
  | 0x700 => .wcxKeyWrite f q
  | 0x701 => .wcxKeyErase f q
  | 0x702 => .wcxKeyQuery f q
  | 0x710 => .wcxMacsecPort f q
  | 0x720 => .sealLockOp f q
  | 0x721 => .sealRun f q (some (d.hostGet f (wd q 2).toNat (fld (wd q 1) 24 0)))
  | 0x900 => .gafStateSet f q
  | 0x901 => .gafStatus f q
  | 0xA00 => .mgrReset f q
  | 0xA01 => .mgrSensorRead f q
  | 0xA02 => .mgrLogRead f q
  | 0xA10 => .mgrImageBegin f q
  | 0xA11 => .mgrImageWrite f q
  | 0xA12 => .mgrImageCommit f q
  | 0xA13 => .mgrImageConfirm f q
  | 0xA20 => .tsStatusRead f q
  | 0xA21 => .tsRecordRead f q
  | 0xA30 => .dlySnapRead f q
  | 0xA31 => .dlyRate f q
  | _ => .badOpcode f q

/-- The words of the request in function `f`'s area: LEN of them, header included. -/
def Dev.requestWords (d : Dev) (f : Nat) : List Word :=
  let area := (d.fn f).reqArea
  let n := Nat.min 512 (Nat.max 1 (fld (tlook (fun _ => (0 : Word)) area 0) 41 32))
  (List.range n).map (fun i => tlook (fun _ => (0 : Word)) area i)

/-- Functions whose doorbell is sampled at this boundary. -/
def Dev.ringing (d : Dev) : List Nat :=
  if d.mbxOpen && d.mgr.booted then (List.range 16).filter (fun f => (d.fn f).reqBusy && decide ((d.fn f).st = .ready)) else []

/-- The inputs that arrived in the beat, with the requests taken at this boundary (R58) each at the place of its doorbell among them, so that what one master issued keeps its order (R33). -/
def Dev.sampled (d : Dev) : List Instr :=
  (List.range (d.arrivals.length + 1)).flatMap (fun k =>
    (d.ringing.filter (fun f => (d.fn f).rangAt == k)).map (fun f => d.command f (d.requestWords f)) ++ (d.arrivals.drop k).take 1)

/-- REQ_BUSY of the functions whose requests are taken becomes 0 (R58); a doorbell that waits longer stands before the inputs of the next beat. -/
def Dev.requestsTaken (d : Dev) : Dev :=
  let d1 := d.ringing.foldl (fun e f => e.modFn f (fun s => { s with reqBusy := false })) d
  { d1 with fns := tmap fnReset (fun _ s => { s with rangAt := 0 }) d1.fns }

/-! Rank (R33 to R36). -/

/-- Places within a rank that differ by their source: rank 4 for the management core, 6 for functions, 7 for crew cores (R33). -/
def sourceRank (m : Master) : Nat :=
  match m with
  | .mgmt => 4 * 65536
  | .fn f => 6 * 65536 + f
  | .crew c => 7 * 65536 + c
  | .dap => 4 * 65536
  | .device => 5 * 65536 + 1

/-- Order of releases and cancels within rank 3: by source as in ranks 4 to 7. -/
def releaseRank (m : Master) : Nat := 3 * 65536 + (sourceRank m) % 65536 + 256 * (sourceRank m / 65536)

/-- The event resets the device at this boundary (R36, R402, R404): rank 1. -/
def Dev.isReset (d : Dev) (i : Instr) : Bool :=
  match i with
  | .powerOnReset => true
  | .supplyFailure j mv => match railMin d j with | some lo => decide (mv < lo) || d.mgr.lowRails.contains j | none => false
  | .warmReset src => d.resetsNow src
  | .boothWatchdog => !d.mgrStopped && d.resetsNow .booth
  | .trialTimeout => d.trialOver && d.resetsNow .trial
  | .gulmetStall => d.pv 0xA002 == 1 && !d.mgrStopped && decide (d.pv 0xA003 ≤ d.mgr.missed) && d.resetsNow .stall
  | _ => false

/-- Rank and place within it of an input sampled at a boundary (R33 to R35): notifications first, then ranks 1 to 7; the Ringmaster's dispatch and the buckets' refill come after every ranked input. A member leaves coordinated operation before a step of show time is judged (R237), and a cue goes out after the mailbox's changes of mode (R245). The forced release of the seal lock (R336) stands among the releases of rank 3, at the place of the device's own requests (DESIGN CHOICE, log 105). -/
def rankKey (i : Instr) : Nat :=
  match i with
  | .keyCommit => 0
  | .noiseReport _ => 0
  | .handoff _ => 1
  | .clapIn _ => 2
  | .clapperMessageRx _ => 2
  | .wakeInN => 2
  | .tickAlarm => 2
  | .ethernetWake _ _ => 2
  | .responsePosted _ => 3
  | .powerOnReset => 65536
  | .supplyFailure _ _ => 65538
  | .warmReset src => 65536 + resetRank src
  | .boothWatchdog => 65541
  | .gulmetStall => 65542
  | .trialTimeout => 65543
  | .criticalTemperature _ => 2 * 65536
  | .thermalTrip _ _ => 2 * 65536
  | .supplyCurrentLimit _ _ => 2 * 65536 + 1
  | .hostPowerCapBreach => 2 * 65536 + 2
  | .cancel m _ => releaseRank m
  | .free m _ => releaseRank m
  | .sealRelease m => releaseRank m
  | .chkRelease m _ => releaseRank m
  | .sealLockOp f req => if nbit (wd req 1).toNat 0 then releaseRank (.fn f) else sourceRank (.fn f)
  | .wcxKeyErase f _ => releaseRank (.fn f)
  | .ager => releaseRank .device
  | .sealHoldExpiry => releaseRank .device
  | .functionLevelReset f => releaseRank (.fn f)
  | .vfDisable _ => releaseRank (.fn 0)
  | .vfEnable _ => sourceRank (.fn 0)
  | .pictureLock => 5 * 65536
  | .timeStep => 5 * 65536
  | .coordExit => 4 * 65536 + 60000
  | .cueSend => 7 * 65536 + 65535
  | .ready m _ => sourceRank m
  | .alloc m => sourceRank m
  | .sealAcquire m => sourceRank m
  | .chkAcquire m _ => sourceRank m
  | .crewCommand m _ _ => sourceRank m
  | .done c => sourceRank (.crew c)
  | .yield c => sourceRank (.crew c)
  | .preempted c => sourceRank (.crew c)
  | .badOpcode f _ => sourceRank (.fn f)
  | .ifVersion f _ => sourceRank (.fn f)
  | .ringAssign f _ => sourceRank (.fn f)
  | .propGet f _ => sourceRank (.fn f)
  | .propSet f _ => sourceRank (.fn f)
  | .propDescribe f _ => sourceRank (.fn f)
  | .plnStatus f _ => sourceRank (.fn f)
  | .plnForceDark f _ => sourceRank (.fn f)
  | .plnSheetRead f _ => sourceRank (.fn f)
  | .plnTakeLog f _ => sourceRank (.fn f)
  | .bssStart f _ _ => sourceRank (.fn f)
  | .bssStop f _ => sourceRank (.fn f)
  | .staAdd f _ => sourceRank (.fn f)
  | .staRemove f _ => sourceRank (.fn f)
  | .staQuery f _ => sourceRank (.fn f)
  | .mdmNoiseRead f _ => sourceRank (.fn f)
  | .mdmQualityRead f _ => sourceRank (.fn f)
  | .retakePeer f _ => sourceRank (.fn f)
  | .feRadioCtrl f _ => sourceRank (.fn f)
  | .feChannelSet f _ => sourceRank (.fn f)
  | .feCalibrate f _ => sourceRank (.fn f)
  | .feStatus f _ => sourceRank (.fn f)
  | .fe6gGrant f _ => sourceRank (.fn f)
  | .btJoin f _ => sourceRank (.fn f)
  | .btLeave f _ => sourceRank (.fn f)
  | .btNeighbours f _ => sourceRank (.fn f)
  | .btTimeAdjust f _ => sourceRank (.fn f)
  | .btStatus f _ => sourceRank (.fn f)
  | .rteTableWrite f req => if nbit (wd req 1).toNat 56 then releaseRank (.fn f) else sourceRank (.fn f)
  | .rteTableRead f _ => sourceRank (.fn f)
  | .tmPolicerWrite f _ => sourceRank (.fn f)
  | .tmPolicerRead f _ => sourceRank (.fn f)
  | .tmQueueSample f _ => sourceRank (.fn f)
  | .wcxKeyWrite f _ => sourceRank (.fn f)
  | .wcxKeyQuery f _ => sourceRank (.fn f)
  | .wcxMacsecPort f _ => sourceRank (.fn f)
  | .sealRun f _ _ => sourceRank (.fn f)
  | .gafStateSet f _ => sourceRank (.fn f)
  | .gafStatus f _ => sourceRank (.fn f)
  | .mgrReset f _ => sourceRank (.fn f)
  | .mgrSensorRead f _ => sourceRank (.fn f)
  | .mgrLogRead f _ => sourceRank (.fn f)
  | .mgrImageBegin f _ => sourceRank (.fn f)
  | .mgrImageWrite f _ => sourceRank (.fn f)
  | .mgrImageCommit f _ => sourceRank (.fn f)
  | .mgrImageConfirm f _ => sourceRank (.fn f)
  | .tsStatusRead f _ => sourceRank (.fn f)
  | .tsRecordRead f _ => sourceRank (.fn f)
  | .dlySnapRead f _ => sourceRank (.fn f)
  | .dlyRate f _ => sourceRank (.fn f)
  | .refill => 8 * 65536
  | .dispatch => 8 * 65536
  | .preemptSlow _ => 8 * 65536 + 1
  | .logEntry => 9 * 65536
  | .logOverflow => 9 * 65536 + 1
  | _ => 5 * 65536 + 1

/-- The place of an input among those of its boundary: a crew command whose request is a WCX_KEY_ERASE or an erase of a router table entry is a release, which rank 3 takes out of its source's rank (R34, R297). -/
def Dev.rank (d : Dev) (i : Instr) : Nat :=
  match i with
  | .crewCommand (.crew c) _ off =>
    let q := d.crewRequest (off % 2 ^ 25)
    if reqOp q = 0x701 || (reqOp q == 0x640 && nbit (wd q 1).toNat 56) then releaseRank (.crew c) else rankKey i
  | _ => rankKey i

/-- The inputs of one boundary in the order in which they are judged: a reset among them leaves no other (R36). -/
def Dev.ordered (d : Dev) (l : List Instr) : List Instr :=
  let resets := l.filter d.isReset
  sortBy d.rank (if resets.isEmpty then l else resets)

/-! What ends a beat. -/

/-- A radio transmits in the beat that begins at an instant (R166). -/
def Dev.transmits (d : Dev) (t r : Nat) : Bool := (d.spans r).any (fun x => decide (x.1 < t + 1000) && decide (t < x.2))

/-- The chains of a radio under calibration, by local number. -/
def Dev.calibratingChains (d : Dev) (r : Nat) : List Nat := (List.range 16).filter (fun i => (d.chain (16 * r + i)).calibrating)

/-- An idle beat of a radio, which is none for its chains under calibration (R166, R219). -/
def Dev.idleBeat (d : Dev) (r : Nat) : Dev :=
  ((d.bump (30 + r) 31).bump (24 + r) 19).modRx r (fun x => { x with
    idleBeats := x.idleBeats + 1, chainBusy := (d.calibratingChains r).foldl (fun m i => tmod (fun _ => 0) m i (· + 1)) x.chainBusy })

/-- Count one ended beat of a radio: transmit, receive or idle (R166, R446); a turnaround, and the beat in which lock came, are neither. -/
def Dev.countRadioBeat (d : Dev) (t r : Nat) : Dev :=
  let rx := d.rx r
  let d1 :=
    if d.transmits t r then d.bump (30 + r) 29
    else if rx.receiving || rx.busyBeat then d.bump (30 + r) 30
    else if d.hears r && decide (rx.busyUntil ≤ t) && !d.turning t r 1000 then d.idleBeat r
    else d
  d1.modRx r (fun x => { x with busyBeat := false })

/-- Power in µW that the current-sense inputs show now, and the board's share that they do not see (R376, R460). -/
def Dev.microWatt (d : Dev) : Nat :=
  sumN ((List.range 4).map (fun k => d.milliAmp k * d.milliVolt (d.pv 0xA021 0 k))) + 1000 * d.pv 0x9007

/-- Count what ends with a beat: power, idle beats, and the beats of the dailies (R166, R376, R446). -/
def Dev.endBeat (d : Dev) (t : Nat) : Dev :=
  let d1 := (List.range 3).foldl (fun e r => e.countRadioBeat t r) d
  let d2 := if d1.tm.full then d1.bump 36 15 else d1
  let d3 := if d2.gaf.state = .interval then d2.bump 1 6 else if d2.gaf.state = .blackout then d2.bump 1 7 else d2
  { d3 with gaf := { d3.gaf with
      accUw := d3.gaf.accUw + d3.microWatt, accBeats := d3.gaf.accBeats + 1
      accMa := (List.range 4).foldl (fun m k => tmod (fun _ => 0) m k (· + d3.milliAmp k)) d3.gaf.accMa } }

/-- Forget what belongs to one beat only. -/
def Dev.clearBeat (d : Dev) : Dev :=
  { d with
    glb := { d.glb with staged := [], incSet := [], handoffs := [], filled := false }
    claims := []
    rgm := { d.rgm with readied := [], cancelled := [] }
    emac := { d.emac with port := tmap portReset (fun _ x => { x with pauseTx := [], sent := [] }) d.emac.port }
    bt := { d.bt with tx := [] }
    rte := { d.rte with bucketReads := 0 }
    dec := { d.dec with outcomes := [] }
    tm := { d.tm with full := false } }

/-- Staged writes, acknowledgements, table changes and properties take effect at the boundary (R19, R58, R68, R297). -/
def Dev.land (d : Dev) (t : Nat) : Dev :=
  let d1 := d.glb.staged.foldl (Dev.writeLands t) d
  let d2 : Dev := { d1 with fns := tmap fnReset (fun _ x => x.acked (beatNo t)) d1.fns }
  let d3 := (d2.rteCommit t).commitProps 0
  let d4 := if beatOf t = 0 then d3.markAdv.commitProps 1 else d3
  if beatOf t ≤ 769 then d4.commitProps 2 else d4

/-- The conditions of R374 under which a tick boundary counts toward a rise. -/
def Dev.mayRise (d : Dev) : Bool :=
  decide (d.hottest ≤ (d.pv 0x9003 : Int) - 5) && decide (10 * d.gaf.pMeas ≤ 9 * d.pv 0x9001) &&
  (List.range 4).all (fun k => d.pv 0x9002 0 k == 0 || decide (10 * tlook (fun _ => 0) d.gaf.meanMa k < 9 * d.pv 0x9002 0 k))

/-- The Gaffer's tick boundary (R374, R376, R379, R446): the means of the tick that ended, and the counts that hold conditions over ticks. -/
def Dev.gafTick (d : Dev) : Dev :=
  let g := d.gaf
  let n := Nat.max 1 g.accBeats
  let d1 : Dev := { d with gaf := { g with
    pMeas := g.accUw / (1000 * n), meanMa := tmap (fun _ => 0) (fun _ v => v / n) g.accMa, tMax := d.hottest, accUw := 0, accBeats := 0, accMa := [] } }
  let d2 : Dev := { d1 with gaf := { d1.gaf with
    raiseTicks := if d1.mayRise then g.raiseTicks + 1 else 0
    coolTicks := if g.zeroHold && decide (d1.hottest < (d.pv 0x9005 : Int) - 5) then g.coolTicks + 1 else 0 } }
  d2.bump 42 14 (d2.gaf.pMeas * 1024 / 1000)

/-- The firmware and the planner run: the device has booted into service and is in Show. -/
def Dev.inShow (d : Dev) : Bool := d.mgr.booted && !d.mgr.recovery && d.running && decide (d.gaf.state = .show')

/-- The HBM has failed in Show: the dailies reader runs and has nowhere to write (R449). -/
def Dev.snapLost (d : Dev) : Bool := d.mgr.booted && d.mem.hbmFailed && d.running && decide (d.gaf.state = .show')

/-- The management core looks for the heartbeat of the tick that ended (R401). -/
def Dev.beatMissed (d : Dev) : Dev :=
  if !d.inShow || d.mgrStopped then { d with mgr := { d.mgr with beatSeen := false } }
  else if d.mgr.beatSeen then { d with mgr := { d.mgr with beatSeen := false, missed := 0 } }
  else ({ d with mgr := { d.mgr with missed := d.mgr.missed + 1 } } : Dev).bump 43 5

/-- What a tick boundary brings before its inputs are judged; the chains follow a PORT_MODE that has come into force (R204). -/
def Dev.openTickBoundary (d : Dev) (t : Nat) : Dev :=
  (List.range 3).foldl (fun e r => e.femSettle t r) (((((d.applyFilters.bump 1 5).gafTick).beatMissed).btTick t).radioTick t)

/-- What the radios and the coding cluster have come to by a boundary: PPDUs that start, gains, ends of transmissions and their detector readings, codewords that get their cores and codewords that end, and the service periods that begin (R143, R146, R161, R162, R184, R187, R212, R222). -/
def Dev.airBeat (d : Dev) (t : Nat) : Dev :=
  (((((List.range 3).foldl (fun e r => (((e.holdPpdus t r).startPpdus t r).agcStep t r).gatherCross t r |>.femTurn t r) d).landPdet t).serve t).landCws t).countTwt t

/-- Staged writes take effect, and what belonged to the beat that ended is forgotten; an incident bit set at the boundary itself belongs to the beat that begins, too (R18); `old` is the number of the marks that the beat that ended had made. -/
def Dev.turnBeat (d : Dev) (t old : Nat) : Dev :=
  let d1 := d.land t
  let d2 := d1.clearBeat
  { d2 with glb := { d2.glb with incSet := d1.glb.incSet.take (d1.glb.incSet.length - old) } }

/-- The device at a beat boundary, before the inputs sampled there are judged; `t0` is the show time before it, `t` that of the boundary. A plain register write is none of the inputs of R32: one made in the beat of a rank-1 event lands before that event is judged (DESIGN CHOICE, log 106, beside R36). -/
def Dev.openBeat (d : Dev) (t0 t : Nat) : Dev :=
  let d1 := d.endBeat t0
  let d2 := if beatOf t = 0 && (d1.inShow || d1.snapLost) then d1.takeSnap t false else d1
  let d3 : Dev := { d2 with glb := { d2.glb with up := d2.glb.up + 1000 }, gaf := { d2.gaf with overs := d2.gaf.overs.filter d2.overLimit } }
  let d4 := (if beatOf t = 0 && d3.inShow then d3.openNoise t else d3).turnBeat t d.glb.incSet.length
  let d5 := if beatOf t = 0 then d4.openTickBoundary t else d4
  (List.range 4).foldl (fun e p => ((e.wireEnds p).shedDeaf t p).watchPort p) ((d5.btBeat.airBeat t).noteFull t)

/-! Timeline actions that fall due (R33). -/

/-- A command, when it is due. -/
def dueIf (b : Bool) (i : Instr) : List Instr := if b then [i] else []

/-- Hand-offs and responses. -/
def Dev.dueHost (d : Dev) (t : Nat) : List Instr :=
  (d.glb.handoffWait.filter (fun h => decide (beatNo h.stamp < beatNo t))).map Instr.handoff ++
  ((List.range 16).filter (fun f =>
    match (d.fn f).waiting with
    | r :: _ => !(d.fn f).respValid && decide (r.beat < beatNo t) && decide ((d.fn f).freedBeat < beatNo t)
    | [] => false)).map Instr.responsePosted ++
  ((List.range 16).filter (fun f => decide ((d.fn f).shut ≠ .none) && d.drained f)).map Instr.shutdownEnd ++
  ((List.range 16).filter (fun f => decide ((d.fn f).st = .enablePending) && decide ((d.fn f).shut = .none))).map Instr.enableComplete

/-- The planner's deadlines (R76, R86, R92, R95, R98, R124). -/
def Dev.duePlanner (d : Dev) (t : Nat) : List Instr :=
  dueIf (beatOf t == 0) (.draftOpen []) ++ dueIf (beatOf t == 896) .pictureLock ++
  (List.range 3).flatMap (fun r =>
    (match d.pastLs t r with
      | some _ => [if (d.radio r).synth = .locked then Instr.missedCue r else Instr.unlocked r]
      | none => []) ++
    (match d.curTake t r with
      | some (s, k) => dueIf (decide ((d.play r).phase = .idle) && decide (tickStart t + (s.take k).es * 1000 ≤ t) && (d.pastLs t r).isNone) (.takeContend r)
      | none => [])) ++
  ((List.range 48).filter (fun b => d.beaconOwed t b && decide (1000 ≤ beatOf t))).map Instr.beaconSkipped

/-- The MAC, the modem and the coding cluster (R133, R139, R143, R156, R194). -/
def Dev.dueMac (d : Dev) (t : Nat) : List Instr :=
  d.mac.bss.flatMap (fun e => ((e.2.groupHeld ++ e.2.groupQueue).filter (fun m => decide (m.entry + d.lifeNs e.2.tenant m.ac ≤ t))).map (fun m => Instr.lifetime (4096 + e.1) m.id)) ++
  d.mac.sta.flatMap (fun e =>
    ((e.2.queue.filter (fun m => m.onAir.isNone && decide (m.entry + d.lifeNs (d.staTenant e.1) m.ac ≤ t))).map (fun m => Instr.lifetime e.1 m.id)) ++
    ((e.2.baRx.filter (fun x => x.2.held.any (fun h => decide (h.time + d.pv 0x2031 * 1000000 ≤ t)))).map (fun x => Instr.reorderTimeout e.1 x.1))) ++
  dueIf (d.mac.removed.any (fun x => decide (x.2 + 2 ≤ tickOf t))) .sidRelease ++
  ((List.range 3).filter (fun r => (d.rx r).noSfd t)).map (fun r => Instr.dsssSfdTimeout r false) ++
  dueIf (d.dec.slots.any (fun x => x.gone.isNone && decide (x.expiry ≤ tickOf t))) .retakeExpired

/-- The aerial front-end (R207, R218, R219, R223, R228, R229). -/
def Dev.dueRadio (d : Dev) (t r : Nat) : List Instr :=
  let x := d.radio r
  let up := d.glb.up
  dueIf (match x.stopTick with | some k => decide (k ≤ tickOf t) | none => false) (.radioStop r) ++
  dueIf ((match x.startTick with | some k => decide (k ≤ tickOf t) | none => false) && decide (x.synth = .off)) (.starting r) ++
  dueIf (decide (x.synth = .starting) && decide (x.entered + 200000 ≤ up)) (.startingFail r) ++
  dueIf (decide (x.synth = .settling) && decide (x.entered + 60000 ≤ up)) (.reacquisitionTimeout r) ++
  dueIf (match x.change with
    | some (k, _) => !x.changeBegun && x.inService && (decide (k ≤ tickOf t) || (k == tickOf t + 1 && decide (1000 ≤ beatOf t)))
    | none => false) (.channelChange r) ++
  dueIf (x.inService && x.fullCalAt.any (fun k => decide (k ≤ tickOf t) || (k == tickOf t + 1 && decide (1000 ≤ beatOf t)))) (.fullCalibration r) ++
  (if beatOf t = 0 then
    ((chainsOf r).filter (fun c => d.calDue t c && !(d.chain c).due)).map Instr.calibrationDue ++
    ((chainsOf r).filter (fun c => (d.chain c).due || d.calDue t c)).map Instr.rollingCalibration
  else [])

/-- Grants of radio C (R223). -/
def Dev.dueGrants (d : Dev) (t : Nat) : List Instr :=
  dueIf (d.fe.grants.any (fun g => g.eff == tickOf t && beatOf t == 0)) .grantEffect ++
  dueIf (d.fe.grants.any (fun g => decide (g.eff ≤ tickOf t) && decide (g.expiry ≤ tickOf t))) .grantExpiry

/-- Big Top (R238, R241 to R244, R249, R254). -/
def Dev.dueBigTop (d : Dev) (t : Nat) : List Instr :=
  dueIf (match d.bt.staged with | some (k, _) => decide (k ≤ tickOf t) | none => false) .neighbourSetEffect ++
  dueIf (decide (d.bt.mode ≠ .off) && d.sourceTimedOut) .sourceLoss ++ dueIf (d.edgeOverdue t) .clapMissing ++
  dueIf (d.coordinating && (d.coordDrift || !d.mgr.ref40)) .coordExit ++
  dueIf (decide (d.bt.mode = .aligning) && decide (d.pv 0x5013 ≤ d.bt.servo.goodTicks) && beatOf t == 0) .enterCoordinated ++
  dueIf (decide (d.bt.mode ≠ .off) && beatOf t == 8 && d.pulsed t) .clapperMessage ++
  dueIf (d.coordinatingFor (tickOf t + 1) && beatOf t == 384) .cueSend ++ dueIf (d.bt.servo.step.isSome && beatOf t == 0) .timeStep

/-- Ethernet ports (R267, R268, R295). -/
def Dev.duePort (d : Dev) (p : Nat) : List Instr :=
  let x := d.port p
  let up := d.glb.up
  (x.xoff.filter (fun e => decide (e.2 ≤ up + 1))).map (fun e => Instr.pauseRepeat p e.1) ++
  (x.paused.filter (fun e => decide (e.2 ≤ up))).map (fun e => Instr.pauseExpiry p e.1) ++
  ((List.range 9).filter (d.tripDue p)).map (Instr.safetyNetTrip p) ++
  (x.deaf.filter (fun e => decide (e.2 ≤ up + 1))).map (fun e => Instr.deafEnd p e.1) ++
  dueIf (!(tlook (fun _ => []) d.rte.waiting p).isEmpty && d.slowRoom.isSome) (.intakeResume p)

/-- Rings, the router's ager, buckets and samples (R291, R309, R311, R319, R320, R392). -/
def Dev.dueTraffic (d : Dev) (t : Nat) : List Instr :=
  dueIf (d.rte.ents.any (d.flowIdle (tickOf t))) .ager ++ dueIf (beatOf t == 0) .queueSample ++
  (List.range 128).flatMap (fun g =>
    dueIf (d.coalDue g) (.coalTimer g) ++
    dueIf (decide ((d.fn (d.ring g).owner).shut ≠ .none) && (d.ring g).done.any (fun c => decide (c.since + 1000000 ≤ d.glb.up))) (.shutdownCompletionDiscard g) ++
    dueIf (decide ((d.ring g).st = .draining) && (d.ring g).inFlight == 0) (.drainEnd g)) ++
  [.refill]

/-- Keys, the seal lock and the crew (R329, R336, R354, R357). -/
def Dev.dueGuards (d : Dev) : List Instr :=
  dueIf (d.wcx.staged.any (fun s => decide (s.beat < beatNo d.glb.up))) .keyCommit ++ dueIf d.sealOverdue .sealHoldExpiry ++ [.dispatch] ++
  ((List.range 24).filter d.preemptLate).map Instr.preemptSlow

/-- A revision of the energy budget is due (R378). -/
def Dev.revisionDue (d : Dev) (t : Nat) : Bool :=
  d.gaf.budget.made && d.gaf.budget.tick == tickOf t + 1 && decide (256 ≤ beatOf t) && decide (beatOf t ≤ 864) &&
  decide (d.pv 0x9008 ≤ (d.hottest - d.gaf.budget.tUsed).natAbs)

/-- Levels and budgets (R373 to R375, R378). -/
def Dev.dueLevels (d : Dev) (t : Nat) : List Instr :=
  dueIf (beatOf t == 0 || beatOf t == 8) .levelLower ++
  (if beatOf t = 0 || beatOf t = 768 || beatOf t = 1000 then [.pllMove none, .levelRaise none] else []) ++
  dueIf (d.revisionDue t) (.budgetRevision {})

/-- Safety conditions that have come to hold, by the readings or by a property, and on which the Gaffer has not acted yet (R379, R381). -/
def Dev.dueSafety (d : Dev) (t : Nat) : List Instr :=
  let at' (lim : Int) : Option Nat := (List.range 24).find? (fun i => decide (lim ≤ d.temp i))
  (match at' 125 with
    | some i => dueIf (!d.gaf.crit) (.criticalTemperature i)
    | none => []) ++
  (match at' (d.pv 0x9005 : Int) with
    | some i => dueIf (!d.gaf.zeroHold) (.thermalTrip i (d.temp i))
    | none => []) ++
  ((List.range 4).filter (fun k => d.overLimit k && !d.gaf.overs.contains k)).map (fun k => Instr.supplyCurrentLimit k (d.milliAmp k)) ++
  dueIf (beatOf t == 0 && decide (d.pv 0x9001 < d.gaf.pMeas)) .hostPowerCapBreach ++
  dueIf (d.gaf.zeroHold && decide (64 ≤ d.gaf.coolTicks)) .thermalHoldEnd

/-- Entering and leaving the power states (R384 to R389). -/
def Dev.duePower (d : Dev) (t : Nat) : List Instr :=
  let g := d.gaf
  dueIf (beatOf t == 0 && g.alarm != 0 && decide (g.alarm ≤ tickOf t)) .tickAlarm ++
  (match g.phase with
    | .poll =>
      if g.quiesced = 0x3FF then [.stateReached]
      else ((List.range 10).filter (fun k => !nbit g.quiesced k)).map Instr.vote ++ dueIf (decide (g.phaseAt + 2048000 ≤ d.glb.up)) .voteTimeout
    | .rollback => dueIf (decide (g.phaseAt + 2000 ≤ d.glb.up)) .stateReached
    | .committed => dueIf (decide (g.phaseAt + entryNs ((g.req.map (·.target)).getD 0) ≤ d.glb.up)) .stateReached
    | .idle => dueIf (g.waiting.isSome || (decide (g.state ≠ .show') && g.noted)) .stateReached
    | .leaving => dueIf (decide (g.phaseAt + exitNs g.state ≤ d.glb.up)) .showReached)

/-- A flush of the settings store is due (R414). -/
def Dev.flushDue (d : Dev) : Bool :=
  d.mgr.booted && !d.mgr.dirty.isEmpty && !d.mgr.flushDeferred && !d.mgrQuiet && !d.nvBusy && decide (d.mgr.lastFlush + d.pv 0xA001 * 1000000000 ≤ d.glb.up)

/-- The management subsystem (R401, R404, R412, R414, R418, R420, R423). -/
def Dev.dueMgr (d : Dev) (t : Nat) : List Instr :=
  dueIf (d.mgr.booted && decide (d.pv 0xA003 ≤ d.mgr.missed) && !d.mgrStopped) .gulmetStall ++ dueIf d.trialOver .trialTimeout ++
  (match d.mgr.waitReset with
    | some s => dueIf (!d.nvBusy) (.warmReset s)
    | none => []) ++
  (match d.mgr.resetAt with
    | some b => dueIf (decide (b ≤ beatNo d.glb.up) && d.mgr.waitReset.isNone) (.warmReset .mgrReset)
    | none => []) ++
  dueIf d.flushDue .settingsFlush ++
  (if d.mgr.pfail || d.mgrQuiet then [] else List.replicate d.mgr.logQ.length .logEntry) ++
  dueIf (d.mgr.sec != t / 1000000000 && !d.mgr.merged.isEmpty && !d.mgrQuiet && !d.mgr.pfail) .logOverflow

/-- Everything that falls due at a boundary: what lives in D0, D1 and the management domain always, the rest while the device is in Show; the Gaffer's safety actions go on in recovery (R421). -/
def Dev.due (d : Dev) (t : Nat) : List Instr :=
  d.dueHost t ++ d.dueMgr t ++ d.duePower t ++
  (if d.inShow then
    d.dueBigTop t ++ (List.range 3).flatMap (d.dueRadio t) ++ d.dueGrants t ++ d.duePlanner t ++ d.dueMac t ++ (List.range 4).flatMap d.duePort ++
      d.dueTraffic t ++ d.dueGuards ++ d.dueLevels t
  else []) ++
  (if d.mgr.booted && !d.gaf.held && !d.gaf.crit then d.dueSafety t else [])

/-- Commands with operands that only the outside can supply, for the case that it has said nothing: they follow what the sender has sent for the boundary. -/
def Dev.fillers (d : Dev) (t : Nat) : List Instr :=
  if !d.inShow then []
  else
    dueIf (!d.mem.hbmFailed && decide (d.mem.scrubbed + d.pv 0x8030 * 3600000000000 ≤ d.glb.up)) (.patrolScrub 0 []) ++
    dueIf (beatOf t == 256 && !(d.gaf.budget.made && d.gaf.budget.tick == tickOf t + 1)) (.budgetPublish none) ++
    dueIf (beatOf t == 770 && d.bt.finalTick != tickOf t + 1 && (List.range 3).any (fun r => d.inDraft r (tickOf t + 1))) (.finalPass []) ++
    (List.range 3).flatMap (fun r =>
      dueIf (decide (1000 ≤ beatOf t) && decide ((d.play r).phase = .onAir)) (.overrunCut r {}) ++
      dueIf (decide ((d.radio r).synth = .calibrating) && decide ((d.radio r).entered + 400000 ≤ d.glb.up)) (.calibrationDone r true []) ++
      dueIf (decide (320 ≤ beatOf t) && decide ((d.radio r).synth = .locked) && (chainsOf r).any (fun c => (d.chain c).calibrating)) (.calibrationDone r false []))

/-! The beat. -/

/-- The next beat boundary. -/
def nextBoundary (t : Nat) : Nat := (t / 1000 + 1) * 1000

/-- Live through one beat: show time reaches the next boundary, the beat ends, and what is sampled and falls due there stands in the queue, in rank order. -/
def State.beat (s : State) : State :=
  let t := nextBoundary s.now
  let d := s.dev.openBeat s.now t
  { now := t
    pending := d.ordered (d.sampled ++ d.due t)
    dev := { d.requestsTaken with arrivals := [] } }

/-- What the device does when no command waits: first the commands that a boundary needs and nobody sent, then the beat. -/
def State.idle (s : State) : State :=
  if s.dev.glb.filled || (s.dev.fillers s.now).isEmpty then s.beat
  else { s with pending := s.dev.fillers s.now, dev := { s.dev with glb := { s.dev.glb with filled := true } } }

end Sys2Proof.Machine
end

