-- ==== Sys2Proof/Machine/CrewMap.lean ====
section
/-! DEFINITION. What a master does at an address of the crew map (R45, R333, R344 to R348, R350, R362, R363, R366): stores and what drops them, loads, instruction fetches, the atomic operations of the A extension, and a core's CSRs. -/
namespace Sys2Proof.Machine

/-- Where an address of the crew map lies (R346). -/
inductive Spot
  /-- the memory `space` (0 HBM, 1 backlot) at an address of its own -/
  | mem (space a : Nat)
  | own (a : Nat)
  | window (off : Nat)
  deriving DecidableEq, Repr

/-- Where one address lies for a master; the register window is a crew core's. -/
def spotOf (m : Master) (addr : Nat) : Option Spot :=
  match crewPlace addr, localPlace m addr with
  | some (sp, a), _ => some (.mem sp a)
  | none, some a => some (.own a)
  | none, none => if isCrew m && decide (0x20000000 ≤ addr) && decide (addr < 0x22000000) then some (.window (addr - 0x20000000)) else none

/-- Where an access of `n` octets lies, all of which must be inside the ranges of R346. -/
def spot (m : Master) (addr n : Nat) : Option Spot :=
  match spotOf m addr, spotOf m (addr + (n - 1)) with
  | some x, some _ => some x
  | _, _ => none

/-- The reservations that a store breaks (R345). -/
def Dev.unreserve (d : Dev) (addr n : Nat) : Dev :=
  let broken (h : Hart) : Bool := match h.resv with | some r => decide (r < addr + n) && decide (addr < r + 8) | none => false
  if (List.range 24).any (fun c => broken (d.core c).hart) then
    { d with rgm := { d.rgm with core := tmap coreReset (fun _ k => if broken k.hart then { k with hart := { k.hart with resv := none } } else k) d.rgm.core } }
  else d

/-- A store (R362, R363, R366): one to a protected range is dropped, flagged and recorded; any other takes effect, in local memory and in the register window too (R346). -/
def Dev.crewStore (d : Dev) (t : Nat) (m : Master) (addr width : Nat) (data : Word) : Dev :=
  match spot m addr width with
  | none => d.coreFault m 7 addr
  | some (.own a) => { d with mem := { d.mem with own := putOctets d.mem.own a (leBytes data.toNat width) } }
  | some (.window o) => d.access t { master := m, addr := o, width := width, write := true, data := data }
  | some (.mem sp a) =>
    let d0 := d.memAccess m.code sp a width true
    match d.dropKind m sp a width with
    | 0 => d0.storeAt sp a addr (leBytes data.toNat width)
    | k => d0.noteDrop t addr k m.code

/-- A read of the memories or of local memory: the number read, none where it ends in an access fault with cause `cause` (R346, R348, R366). -/
def Dev.crewRead (d : Dev) (t : Nat) (m : Master) (addr width cause : Nat) (atomic : Bool) : Option Nat × Dev :=
  match spot m addr width with
  | none => (none, d.coreFault m cause addr)
  | some (.own a) => (some (ofLe (d.ownGet a width)), d)
  | some (.window o) =>
    if atomic then (none, d.coreFault m cause addr)
    else
      let e := d.access t { master := m, addr := o, width := width }
      (some (tlook (fun _ => (0 : Word)) e.glb.readData m.code).toNat, e)
  | some (.mem sp a) =>
    let d0 := d.memAccess m.code sp a width false
    if d.readFails sp addr width then (none, (d0.memUe t addr 1 m.code).coreFault m cause addr)
    else (some (ofLe (d.memGet sp a width)), d0)

/-- A number of `width` octets as a register holds it. -/
def extended (signed : Bool) (width v : Nat) : Word := if signed then BitVec.ofInt 64 (sgn (8 * width) v) else BitVec.ofNat 64 v

/-- A core's register takes what it read; what another master reads stands where its reads do. A read that failed delivers poisoned data to such a master, a free value (R366). -/
def Dev.loaded (d : Dev) (m : Master) (v : Option Nat) (put : Nat → Hart → Hart) : Dev :=
  match m, v with
  | .crew _, none => d
  | .crew c, some n => d.modHart c (put n)
  | _, some n => { d with glb := { d.glb with readData := tput (fun _ => 0) d.glb.readData m.code (BitVec.ofNat 64 n) } }
  | _, none => ({ d with glb := { d.glb with readData := tput (fun _ => 0) d.glb.readData m.code d.free } } : Dev).drew

/-- The result of a read-modify-write operation on numbers of `width` octets. -/
def amoResult (op : AmoOp) (width old new : Nat) : Nat :=
  let w := 8 * width
  let b := new % 2 ^ w
  match op with
  | .swap => b
  | .add => (old + b) % 2 ^ w
  | .xor => old ^^^ b
  | .and => old &&& b
  | .or => old ||| b
  | .min => if sgn w old ≤ sgn w b then old else b
  | .max => if sgn w b ≤ sgn w old then old else b
  | .minu => Nat.min old b
  | .maxu => Nat.max old b

/-- Octets that an atomic operation works on: 4 or 8, aligned. -/
def atomicShape (addr width : Nat) : Bool := (width == 4 || width == 8) && addr % width == 0

/-- The core has a reservation of an address. -/
def Dev.reserved (d : Dev) (m : Master) (addr : Nat) : Bool :=
  match m with
  | .crew c => (d.core c).hart.resv == some addr
  | _ => false

/-- The PMP permission that an operation needs: 0 to read, 1 to write, 2 to fetch. -/
def opNeeds : CoreOp → Nat
  | .load _ _ => 0
  | .loadF _ => 0
  | .loadReserved _ => 0
  | .fetch => 2
  | _ => 1

/-- What an access does, once the PMP has let it pass. -/
def Dev.coreOp (d : Dev) (t : Nat) (m : Master) (addr width : Nat) (op : CoreOp) : Dev :=
  match op with
  | .store v => (d.crewStore t m addr width v).unreserve addr width
  | .load rd signed =>
    let r := d.crewRead t m addr width 5 false
    r.2.loaded m r.1 (fun n h => h.setX rd (extended signed width n))
  | .loadF rd =>
    let r := d.crewRead t m addr width 5 false
    r.2.loaded m r.1 (fun n h => h.setF rd (BitVec.ofNat 64 (if width = 4 then n + (2 ^ 64 - 2 ^ 32) else n)))
  | .fetch =>
    let d0 := match m with | .crew c => d.modHart c (fun h => { h with pc := BitVec.ofNat 64 addr }) | _ => d
    let r := d0.crewRead t m addr width 1 false
    r.2.loaded m r.1 (fun _ h => h)
  | .loadReserved rd =>
    if !atomicShape addr width then d.coreFault m 5 addr
    else
      let r := d.crewRead t m addr width 5 true
      r.2.loaded m r.1 (fun n h => { h.setX rd (extended true width n) with resv := some addr })
  | .storeConditional rd v =>
    if !atomicShape addr width || (match spot m addr width with | some (.window _) => true | none => true | _ => false) then d.coreFault m 7 addr
    else if d.reserved m addr then (((d.crewStore t m addr width v).unreserve addr width).loaded m (some 0) (fun _ h => { h.setX rd 0 with resv := none }))
    else d.loaded m (some 1) (fun _ h => { h.setX rd 1 with resv := none })
  | .amo a rd v =>
    if !atomicShape addr width then d.coreFault m 7 addr
    else
      let r := d.crewRead t m addr width 7 true
      match r.1 with
      | none => r.2.loaded m none (fun _ h => h)
      | some old =>
        ((r.2.crewStore t m addr width (BitVec.ofNat 64 (amoResult a width old v.toNat))).unreserve addr width).loaded m (some old)
          (fun n h => h.setX rd (extended true width n))
  | .csrRead rd =>
    (match m with
     | .crew c =>
       if (d.core c).hart.csrDenied addr false then d.coreFault m 2 0
       else match (d.core c).csrRead t c addr with
         | some v => d.modHart c (fun h => h.setX rd v)
         | none => (d.modHart c (fun h => h.setX rd d.free)).drew
     | _ => d)
  | .csrWrite v =>
    (match m with
     | .crew c => if (d.core c).hart.csrDenied addr true then d.coreFault m 2 0 else d.modHart c (fun h => h.csrWrite addr v)
     | _ => d)

/-- An operation on a CSR, which names no address. -/
def opOnCsr : CoreOp → Bool
  | .csrRead _ => true
  | .csrWrite _ => true
  | _ => false

/-- DROPPED_WRITE (R347, R362): an access of `width` octets by a master to a crew address, of which a store to a protected range is the one that is dropped. One of a U-mode task that its PMP regions do not allow traps to Gulmet, which ends the task. A halted core makes none (R474). -/
def goDroppedWrite (t : Nat) (m : Master) (addr width : Nat) (op : CoreOp) (d : Dev) : Dev :=
  if d.stopped m then d
  else if opOnCsr op || d.pmpOk m addr width (opNeeds op) then d.coreOp t m addr width op
  else match m with
    | .crew c => d.userFault t c (match opNeeds op with | 0 => 5 | 2 => 1 | _ => 7) addr
    | _ => d

def execDroppedWrite (m : Master) (addr width : Nat) (data : CoreOp) (s : State) : Host.Outcome State Fault Refusal :=
  .next (s.act fun t d => goDroppedWrite t m addr width data d)

end Sys2Proof.Machine
end

