-- ==== Sys2Proof/Machine/Dispatch.lean ====
section
/-! DEFINITION. Each command to its meaning. -/
namespace Sys2Proof.Machine

def exec (i : Instr) (s : State) : Host.Outcome State Fault Refusal :=
  match i with
  | .badAccess a => Sys2Proof.Machine.execBadAccess a s
  | .registerWrite a => Sys2Proof.Machine.execRegisterWrite a s
  | .deniedAccess a => Sys2Proof.Machine.execDeniedAccess a s
  | .unmappedAccess a => Sys2Proof.Machine.execUnmappedAccess a s
  | .domainOffAccess a => Sys2Proof.Machine.execDomainOffAccess a s
  | .showTimeLoRead m => Sys2Proof.Machine.execShowTimeLoRead m s
  | .handoff h => Sys2Proof.Machine.execHandoff h s
  | .powerOnReset => Sys2Proof.Machine.execPowerOnReset s
  | .supplyFailure monitor mv => Sys2Proof.Machine.execSupplyFailure monitor mv s
  | .warmReset src => Sys2Proof.Machine.execWarmReset src s
  | .boot x => Sys2Proof.Machine.execBoot x s
  | .perstN low => Sys2Proof.Machine.execPerstN low s
  | .doorbell f => Sys2Proof.Machine.execDoorbell f s
  | .responsePosted f => Sys2Proof.Machine.execResponsePosted f s
  | .respAck f => Sys2Proof.Machine.execRespAck f s
  | .badOpcode f req => Sys2Proof.Machine.execBadOpcode f req s
  | .ifVersion f req => Sys2Proof.Machine.execIfVersion f req s
  | .ringAssign f req => Sys2Proof.Machine.execRingAssign f req s
  | .propGet f req => Sys2Proof.Machine.execPropGet f req s
  | .propSet f req => Sys2Proof.Machine.execPropSet f req s
  | .propDescribe f req => Sys2Proof.Machine.execPropDescribe f req s
  | .functionLevelReset f => Sys2Proof.Machine.execFunctionLevelReset f s
  | .vfDisable numVfs => Sys2Proof.Machine.execVfDisable numVfs s
  | .vfEnable numVfs => Sys2Proof.Machine.execVfEnable numVfs s
  | .shutdownEnd f => Sys2Proof.Machine.execShutdownEnd f s
  | .enableComplete f => Sys2Proof.Machine.execEnableComplete f s
  | .draftOpen drafts => Sys2Proof.Machine.execDraftOpen drafts s
  | .budgetPublish r => Sys2Proof.Machine.execBudgetPublish r s
  | .budgetRevision r => Sys2Proof.Machine.execBudgetRevision r s
  | .cueSend => Sys2Proof.Machine.execCueSend s
  | .finalPass starved => Sys2Proof.Machine.execFinalPass starved s
  | .pictureLock => Sys2Proof.Machine.execPictureLock s
  | .takeContend r => Sys2Proof.Machine.execTakeContend r s
  | .takeStart r facts => Sys2Proof.Machine.execTakeStart r facts s
  | .takeCompletion r facts => Sys2Proof.Machine.execTakeCompletion r facts s
  | .missedCue r => Sys2Proof.Machine.execMissedCue r s
  | .overrunCut r facts => Sys2Proof.Machine.execOverrunCut r facts s
  | .unlocked r => Sys2Proof.Machine.execUnlocked r s
  | .plnStatus f req => Sys2Proof.Machine.execPlnStatus f req s
  | .plnForceDark f req => Sys2Proof.Machine.execPlnForceDark f req s
  | .plnSheetRead f req => Sys2Proof.Machine.execPlnSheetRead f req s
  | .plnTakeLog f req => Sys2Proof.Machine.execPlnTakeLog f req s
  | .bssStart f req template => Sys2Proof.Machine.execBssStart f req template s
  | .bssStop f req => Sys2Proof.Machine.execBssStop f req s
  | .staAdd f req => Sys2Proof.Machine.execStaAdd f req s
  | .staRemove f req => Sys2Proof.Machine.execStaRemove f req s
  | .staQuery f req => Sys2Proof.Machine.execStaQuery f req s
  | .sidRelease => Sys2Proof.Machine.execSidRelease s
  | .beacon b air => Sys2Proof.Machine.execBeacon b air s
  | .beaconSkipped b => Sys2Proof.Machine.execBeaconSkipped b s
  | .contentionTxop b ac facts => Sys2Proof.Machine.execContentionTxop b ac facts s
  | .mpduReceive r frames => Sys2Proof.Machine.execMpduReceive r frames s
  | .lifetime sid id => Sys2Proof.Machine.execLifetime sid id s
  | .reorderTimeout sid tid => Sys2Proof.Machine.execReorderTimeout sid tid s
  | .detection r x => Sys2Proof.Machine.execDetection r x s
  | .lsigCheck r x => Sys2Proof.Machine.execLsigCheck r x s
  | .dsssSfdTimeout r headerCrcFailed => Sys2Proof.Machine.execDsssSfdTimeout r headerCrcFailed s
  | .capture r power lsig x => Sys2Proof.Machine.execCapture r power lsig x s
  | .srAbort r colour power => Sys2Proof.Machine.execSrAbort r colour power s
  | .receptionEnd r x => Sys2Proof.Machine.execReceptionEnd r x s
  | .noiseReport means => Sys2Proof.Machine.execNoiseReport means s
  | .mdmNoiseRead f req => Sys2Proof.Machine.execMdmNoiseRead f req s
  | .mdmQualityRead f req => Sys2Proof.Machine.execMdmQualityRead f req s
  | .codewordDecode cw => Sys2Proof.Machine.execCodewordDecode cw s
  | .decodeDeadline cw => Sys2Proof.Machine.execDecodeDeadline cw s
  | .retakeExpired => Sys2Proof.Machine.execRetakeExpired s
  | .retakePeer f req => Sys2Proof.Machine.execRetakePeer f req s
  | .feRadioCtrl f req => Sys2Proof.Machine.execFeRadioCtrl f req s
  | .starting r => Sys2Proof.Machine.execStarting r s
  | .locked r => Sys2Proof.Machine.execLocked r s
  | .startingFail r => Sys2Proof.Machine.execStartingFail r s
  | .lossOfLock x => Sys2Proof.Machine.execLossOfLock x s
  | .reacquisitionTimeout r => Sys2Proof.Machine.execReacquisitionTimeout r s
  | .radioStop r => Sys2Proof.Machine.execRadioStop r s
  | .channelChange r => Sys2Proof.Machine.execChannelChange r s
  | .fullCalibration r => Sys2Proof.Machine.execFullCalibration r s
  | .rollingCalibration chain => Sys2Proof.Machine.execRollingCalibration chain s
  | .calibrationDone r full results => Sys2Proof.Machine.execCalibrationDone r full results s
  | .calibrationDue chain => Sys2Proof.Machine.execCalibrationDue chain s
  | .feChainCtrl m chain value => Sys2Proof.Machine.execFeChainCtrl m chain value s
  | .grantEffect => Sys2Proof.Machine.execGrantEffect s
  | .grantExpiry => Sys2Proof.Machine.execGrantExpiry s
  | .feChannelSet f req => Sys2Proof.Machine.execFeChannelSet f req s
  | .feCalibrate f req => Sys2Proof.Machine.execFeCalibrate f req s
  | .feStatus f req => Sys2Proof.Machine.execFeStatus f req s
  | .fe6gGrant f req => Sys2Proof.Machine.execFe6gGrant f req s
  | .ref40Lost => Sys2Proof.Machine.execRef40Lost s
  | .btJoin f req => Sys2Proof.Machine.execBtJoin f req s
  | .btLeave f req => Sys2Proof.Machine.execBtLeave f req s
  | .btNeighbours f req => Sys2Proof.Machine.execBtNeighbours f req s
  | .btTimeAdjust f req => Sys2Proof.Machine.execBtTimeAdjust f req s
  | .btStatus f req => Sys2Proof.Machine.execBtStatus f req s
  | .neighbourSetEffect => Sys2Proof.Machine.execNeighbourSetEffect s
  | .sync x => Sys2Proof.Machine.execSync x s
  | .announce x => Sys2Proof.Machine.execAnnounce x s
  | .timeStep => Sys2Proof.Machine.execTimeStep s
  | .sourceLoss => Sys2Proof.Machine.execSourceLoss s
  | .coordExit => Sys2Proof.Machine.execCoordExit s
  | .enterCoordinated => Sys2Proof.Machine.execEnterCoordinated s
  | .clapperMessage => Sys2Proof.Machine.execClapperMessage s
  | .clapperMessageRx x => Sys2Proof.Machine.execClapperMessageRx x s
  | .clapIn stamp => Sys2Proof.Machine.execClapIn stamp s
  | .clapMissing => Sys2Proof.Machine.execClapMissing s
  | .cueSegment x => Sys2Proof.Machine.execCueSegment x s
  | .leaveMessage x => Sys2Proof.Machine.execLeaveMessage x s
  | .portEnable m p value => Sys2Proof.Machine.execPortEnable m p value s
  | .portDisable m p value => Sys2Proof.Machine.execPortDisable m p value s
  | .linkUp p x => Sys2Proof.Machine.execLinkUp p x s
  | .linkDown x => Sys2Proof.Machine.execLinkDown x s
  | .ethernetReceive p octets x => Sys2Proof.Machine.execEthernetReceive p octets x s
  | .pauseFrame p x => Sys2Proof.Machine.execPauseFrame p x s
  | .pauseRepeat p cls => Sys2Proof.Machine.execPauseRepeat p cls s
  | .pauseExpiry p cls => Sys2Proof.Machine.execPauseExpiry p cls s
  | .flowCtrlWrite m p value => Sys2Proof.Machine.execFlowCtrlWrite m p value s
  | .safetyNetTrip p cls => Sys2Proof.Machine.execSafetyNetTrip p cls s
  | .deafEnd p cls => Sys2Proof.Machine.execDeafEnd p cls s
  | .frameTransmit p => Sys2Proof.Machine.execFrameTransmit p s
  | .ethernetWake p x => Sys2Proof.Machine.execEthernetWake p x s
  | .routerFrame src => Sys2Proof.Machine.execRouterFrame src s
  | .intakeResume p => Sys2Proof.Machine.execIntakeResume p s
  | .ager => Sys2Proof.Machine.execAger s
  | .rteTableWrite f req => Sys2Proof.Machine.execRteTableWrite f req s
  | .rteTableRead f req => Sys2Proof.Machine.execRteTableRead f req s
  | .descriptorFetch g w0 w1 data => Sys2Proof.Machine.execDescriptorFetch g w0 w1 data s
  | .completionWrite g => Sys2Proof.Machine.execCompletionWrite g s
  | .ringEnable m g value => Sys2Proof.Machine.execRingEnable m g value s
  | .ringDisable m g value => Sys2Proof.Machine.execRingDisable m g value s
  | .drainEnd g => Sys2Proof.Machine.execDrainEnd g s
  | .dmaErr g desc => Sys2Proof.Machine.execDmaErr g desc s
  | .ringProd m g value => Sys2Proof.Machine.execRingProd m g value s
  | .ringCqHead m g value => Sys2Proof.Machine.execRingCqHead m g value s
  | .coalTimer g => Sys2Proof.Machine.execCoalTimer g s
  | .refill => Sys2Proof.Machine.execRefill s
  | .queueSample => Sys2Proof.Machine.execQueueSample s
  | .tmPolicerWrite f req => Sys2Proof.Machine.execTmPolicerWrite f req s
  | .tmPolicerRead f req => Sys2Proof.Machine.execTmPolicerRead f req s
  | .tmQueueSample f req => Sys2Proof.Machine.execTmQueueSample f req s
  | .cipherLatch op => Sys2Proof.Machine.execCipherLatch op s
  | .cipherVerdict id tagOk => Sys2Proof.Machine.execCipherVerdict id tagOk s
  | .keyCommit => Sys2Proof.Machine.execKeyCommit s
  | .wcxKeyWrite f req => Sys2Proof.Machine.execWcxKeyWrite f req s
  | .wcxKeyErase f req => Sys2Proof.Machine.execWcxKeyErase f req s
  | .wcxKeyQuery f req => Sys2Proof.Machine.execWcxKeyQuery f req s
  | .wcxMacsecPort f req => Sys2Proof.Machine.execWcxMacsecPort f req s
  | .sealLockOp f req => Sys2Proof.Machine.execSealLockOp f req s
  | .sealRun f req msg => Sys2Proof.Machine.execSealRun f req msg s
  | .sealAcquire m => Sys2Proof.Machine.execSealAcquire m s
  | .sealRelease m => Sys2Proof.Machine.execSealRelease m s
  | .sealStart m value => Sys2Proof.Machine.execSealStart m value s
  | .sealDone eccError => Sys2Proof.Machine.execSealDone eccError s
  | .sealHoldExpiry => Sys2Proof.Machine.execSealHoldExpiry s
  | .chkAcquire m n => Sys2Proof.Machine.execChkAcquire m n s
  | .chkRelease m n => Sys2Proof.Machine.execChkRelease m n s
  | .chkStart m n value => Sys2Proof.Machine.execChkStart m n value s
  | .chkFinish m n value => Sys2Proof.Machine.execChkFinish m n value s
  | .chkRestore m n value => Sys2Proof.Machine.execChkRestore m n value s
  | .chkData m n value => Sys2Proof.Machine.execChkData m n value s
  | .chkDataPart m n value => Sys2Proof.Machine.execChkDataPart m n value s
  | .ready src task => Sys2Proof.Machine.execReady src task s
  | .cancel src task => Sys2Proof.Machine.execCancel src task s
  | .alloc src => Sys2Proof.Machine.execAlloc src s
  | .free src task => Sys2Proof.Machine.execFree src task s
  | .done c => Sys2Proof.Machine.execDone c s
  | .yield c => Sys2Proof.Machine.execYield c s
  | .preempted c => Sys2Proof.Machine.execPreempted c s
  | .dispatch => Sys2Proof.Machine.execDispatch s
  | .preemptSlow c => Sys2Proof.Machine.execPreemptSlow c s
  | .slowPop m => Sys2Proof.Machine.execSlowPop m s
  | .reinject m item => Sys2Proof.Machine.execReinject m item s
  | .reinjectCopy m item => Sys2Proof.Machine.execReinjectCopy m item s
  | .originate m item => Sys2Proof.Machine.execOriginate m item s
  | .drop m item => Sys2Proof.Machine.execDrop m item s
  | .crewCommand m c offset => Sys2Proof.Machine.execCrewCommand m c offset s
  | .userFault c addr => Sys2Proof.Machine.execUserFault c addr s
  | .droppedWrite m addr width data => Sys2Proof.Machine.execDroppedWrite m addr width data s
  | .uncorrectableError who addr => Sys2Proof.Machine.execUncorrectableError who addr s
  | .patrolScrub corrected bad => Sys2Proof.Machine.execPatrolScrub corrected bad s
  | .hbmFail => Sys2Proof.Machine.execHbmFail s
  | .levelRaise coreMv => Sys2Proof.Machine.execLevelRaise coreMv s
  | .levelLower => Sys2Proof.Machine.execLevelLower s
  | .pllMove coreMv => Sys2Proof.Machine.execPllMove coreMv s
  | .thermalTrip sensor temp => Sys2Proof.Machine.execThermalTrip sensor temp s
  | .supplyCurrentLimit input ma => Sys2Proof.Machine.execSupplyCurrentLimit input ma s
  | .hostPowerCapBreach => Sys2Proof.Machine.execHostPowerCapBreach s
  | .thermalHoldEnd => Sys2Proof.Machine.execThermalHoldEnd s
  | .criticalTemperature sensor => Sys2Proof.Machine.execCriticalTemperature sensor s
  | .gafStateSet f req => Sys2Proof.Machine.execGafStateSet f req s
  | .vote k => Sys2Proof.Machine.execVote k s
  | .voteTimeout => Sys2Proof.Machine.execVoteTimeout s
  | .stateReached => Sys2Proof.Machine.execStateReached s
  | .wakeInN => Sys2Proof.Machine.execWakeInN s
  | .tickAlarm => Sys2Proof.Machine.execTickAlarm s
  | .showReached => Sys2Proof.Machine.execShowReached s
  | .gafStatus f req => Sys2Proof.Machine.execGafStatus f req s
  | .heartbeat => Sys2Proof.Machine.execHeartbeat s
  | .gulmetStall => Sys2Proof.Machine.execGulmetStall s
  | .boothWatchdog => Sys2Proof.Machine.execBoothWatchdog s
  | .trialTimeout => Sys2Proof.Machine.execTrialTimeout s
  | .settingsFlush => Sys2Proof.Machine.execSettingsFlush s
  | .pfailN low => Sys2Proof.Machine.execPfailN low s
  | .logEntry => Sys2Proof.Machine.execLogEntry s
  | .logOverflow => Sys2Proof.Machine.execLogOverflow s
  | .mgrReset f req => Sys2Proof.Machine.execMgrReset f req s
  | .mgrSensorRead f req => Sys2Proof.Machine.execMgrSensorRead f req s
  | .mgrLogRead f req => Sys2Proof.Machine.execMgrLogRead f req s
  | .mgrImageBegin f req => Sys2Proof.Machine.execMgrImageBegin f req s
  | .mgrImageWrite f req => Sys2Proof.Machine.execMgrImageWrite f req s
  | .mgrImageCommit f req => Sys2Proof.Machine.execMgrImageCommit f req s
  | .mgrImageConfirm f req => Sys2Proof.Machine.execMgrImageConfirm f req s
  | .tapEntry tt stamp e fifoFull => Sys2Proof.Machine.execTapEntry tt stamp e fifoFull s
  | .recordClose lineOk => Sys2Proof.Machine.execRecordClose lineOk s
  | .vddTsWarning below => Sys2Proof.Machine.execVddTsWarning below s
  | .vddTsLoss => Sys2Proof.Machine.execVddTsLoss s
  | .vddTsReturn => Sys2Proof.Machine.execVddTsReturn s
  | .tsSeal closed => Sys2Proof.Machine.execTsSeal closed s
  | .ident tt payload => Sys2Proof.Machine.execIdent tt payload s
  | .readRecord tt payload => Sys2Proof.Machine.execReadRecord tt payload s
  | .readConfig tt payload => Sys2Proof.Machine.execReadConfig tt payload s
  | .writeConfig tt payload => Sys2Proof.Machine.execWriteConfig tt payload s
  | .portFrameDiscard tt octets => Sys2Proof.Machine.execPortFrameDiscard tt octets s
  | .recordMirror seq => Sys2Proof.Machine.execRecordMirror seq s
  | .tsTimeReport tt => Sys2Proof.Machine.execTsTimeReport tt s
  | .tsStatusRead f req => Sys2Proof.Machine.execTsStatusRead f req s
  | .tsRecordRead f req => Sys2Proof.Machine.execTsRecordRead f req s
  | .snapshot late => Sys2Proof.Machine.execSnapshot late s
  | .peekRead m => Sys2Proof.Machine.execPeekRead m s
  | .dlySnapRead f req => Sys2Proof.Machine.execDlySnapRead f req s
  | .dlyRate f req => Sys2Proof.Machine.execDlyRate f req s
  | .samplePreload preload => Sys2Proof.Machine.execSamplePreload preload s
  | .extestTrain => Sys2Proof.Machine.execExtestTrain s
  | .clamp => Sys2Proof.Machine.execClamp s
  | .highz => Sys2Proof.Machine.execHighz s
  | .dapAccess => Sys2Proof.Machine.execDapAccess s
  | .lcStatus => Sys2Proof.Machine.execLcStatus s
  | .bypass code => Sys2Proof.Machine.execBypass code s
  | .unlock => Sys2Proof.Machine.execUnlock s
  | .unlockVerify keyOk sigOk => Sys2Proof.Machine.execUnlockVerify keyOk sigOk s
  | .coreHalt core => Sys2Proof.Machine.execCoreHalt core s
  | .coreResume core => Sys2Proof.Machine.execCoreResume core s
  | .norOperationDone ok x => Sys2Proof.Machine.execNorOperationDone ok x s
  | .pcieReferenceLoss present => Sys2Proof.Machine.execPcieReferenceLoss present s
  | .shutdownCompletionDiscard g => Sys2Proof.Machine.execShutdownCompletionDiscard g s
  | .tapReset => Sys2Proof.Machine.execTapReset s
  | .idcode => Sys2Proof.Machine.execIdcode s
  | .extest => Sys2Proof.Machine.execExtest s
  | .extestPulse => Sys2Proof.Machine.execExtestPulse s

end Sys2Proof.Machine
end

