-- ==== Sys2Proof/Safety.lean ====
section
/-! DEFINITION. The words in which statements about the block are put: a command completes, a request is admitted and answered, a run, and what a healthy device keeps. -/
namespace Sys2Proof.Machine

/-- The command `c` completes in state `s` and leaves the device `d`; show time and the queue stay as they are. -/
def Completes (c : Instr) (s : State) (d : Dev) : Prop := exec c s = .next { s with dev := d }

/-- What the last register read of a master returned. -/
def Dev.lastRead (d : Dev) (m : Master) : Word := tlook (fun _ => 0) d.glb.readData m.code

/-- The read answer of an access that is turned away: all ones in the octets it covers; a write has none (R14, R20, R42, R43). -/
def ReadsOnes (a : Access) (d : Dev) : Prop := a.write = false → d.lastRead a.master = BitVec.ofNat 64 (2 ^ (8 * Nat.min a.width 8) - 1)

/-- Between two devices no register has changed but the one at `x`; for an access by the debug access port TST_INCIDENT may have changed too (R474). -/
def OnlyReg (m : Master) (x : Nat) (d d' : Dev) : Prop := ∀ j, j ≠ x → (m ≠ .dap ∨ j ≠ 0x1300040) → d'.reg j = d.reg j

/-- Request `req` of function `f` passes every check of R63 that comes before the command's own, for a command of `len` words: the function is READY, has fewer than 32 requests outstanding and has issued IF_VERSION, the device is not in recovery and does not hold the host back, the length is right, the header's reserved bits are 0 and the tag is free (R59, R60, R63). -/
structure Admitted (d : Dev) (f : Nat) (req : List Word) (len : Nat) : Prop where
  ready : (d.fn f).st = .ready
  room : (d.fn f).tags.length < 32
  seen : (d.fn f).versionSeen = true
  service : d.mgr.recovery = false
  open' : d.backPressed = false
  length : reqLen req = len
  lenPos : 1 ≤ len
  lenMax : len ≤ 512
  reserved : resv (wd req 0) [(47, 42), (31, 12)] = false
  fresh : (d.fn f).tags.contains (reqTag req) = false

/-- Function `f`'s request `req` of opcode `op` has been taken and answered in `d'`: it is outstanding, and one final response of status `st` with the words `body` after its header waits behind those that waited in `d` (R57 to R60). Nothing else of any function has changed. -/
structure Answered (d d' : Dev) (t f : Nat) (req : List Word) (op : Nat) (st : Status) (body : List Word) : Prop where
  others : ∀ j, j ≠ f → d'.fn j = d.fn j
  slot : d'.fn f = { d.fn f with
    tags := (d.fn f).tags ++ [reqTag req]
    waiting := (d.fn f).waiting ++ [⟨respHeader (reqTag req) (1 + body.length) st.code op :: body, decide (st ≠ .pending), beatNo t⟩] }

/-- Master `m` can make an access of `n` octets at a crew address: it is not stopped, and its PMP lets it pass; `bit` is 0 for a read, 1 for a write, 2 for a fetch (R347, R474). -/
abbrev Dev.passes (d : Dev) (m : Master) (addr n bit : Nat) : Prop := d.stopped m = false ∧ d.pmpOk m addr n bit = true

/-- The function, the request and the opcode of a mailbox command (R64); none for any other command, and for BAD_OPCODE. -/
def mailboxForm : Instr → Option (Nat × List Word × Nat)
  | .ifVersion f q => some (f, q, 0x001)
  | .propGet f q => some (f, q, 0x020)
  | .propSet f q => some (f, q, 0x021)
  | .propDescribe f q => some (f, q, 0x022)
  | .ringAssign f q => some (f, q, 0x030)
  | .plnStatus f q => some (f, q, 0x100)
  | .plnForceDark f q => some (f, q, 0x110)
  | .plnSheetRead f q => some (f, q, 0x120)
  | .plnTakeLog f q => some (f, q, 0x130)
  | .bssStart f q _ => some (f, q, 0x200)
  | .bssStop f q => some (f, q, 0x201)
  | .staAdd f q => some (f, q, 0x210)
  | .staRemove f q => some (f, q, 0x211)
  | .staQuery f q => some (f, q, 0x212)
  | .mdmNoiseRead f q => some (f, q, 0x300)
  | .mdmQualityRead f q => some (f, q, 0x301)
  | .retakePeer f q => some (f, q, 0x310)
  | .feRadioCtrl f q => some (f, q, 0x400)
  | .feChannelSet f q => some (f, q, 0x401)
  | .feCalibrate f q => some (f, q, 0x402)
  | .feStatus f q => some (f, q, 0x403)
  | .fe6gGrant f q => some (f, q, 0x410)
  | .btJoin f q => some (f, q, 0x500)
  | .btLeave f q => some (f, q, 0x501)
  | .btNeighbours f q => some (f, q, 0x510)
  | .btStatus f q => some (f, q, 0x520)
  | .btTimeAdjust f q => some (f, q, 0x530)
  | .rteTableWrite f q => some (f, q, 0x640)
  | .rteTableRead f q => some (f, q, 0x641)
  | .tmPolicerWrite f q => some (f, q, 0x660)
  | .tmPolicerRead f q => some (f, q, 0x661)
  | .tmQueueSample f q => some (f, q, 0x662)
  | .wcxKeyWrite f q => some (f, q, 0x700)
  | .wcxKeyErase f q => some (f, q, 0x701)
  | .wcxKeyQuery f q => some (f, q, 0x702)
  | .wcxMacsecPort f q => some (f, q, 0x710)
  | .sealLockOp f q => some (f, q, 0x720)
  | .sealRun f q _ => some (f, q, 0x721)
  | .gafStateSet f q => some (f, q, 0x900)
  | .gafStatus f q => some (f, q, 0x901)
  | .mgrReset f q => some (f, q, 0xA00)
  | .mgrSensorRead f q => some (f, q, 0xA01)
  | .mgrLogRead f q => some (f, q, 0xA02)
  | .mgrImageBegin f q => some (f, q, 0xA10)
  | .mgrImageWrite f q => some (f, q, 0xA11)
  | .mgrImageCommit f q => some (f, q, 0xA12)
  | .mgrImageConfirm f q => some (f, q, 0xA13)
  | .tsStatusRead f q => some (f, q, 0xA20)
  | .tsRecordRead f q => some (f, q, 0xA21)
  | .dlySnapRead f q => some (f, q, 0xA30)
  | .dlyRate f q => some (f, q, 0xA31)
  | _ => none

/-- The opcodes that F0 alone may issue, by the Issuer column of each chapter's command table (R64). -/
def f0OnlyOps : List Nat :=
  [0x030, 0x110, 0x120, 0x130, 0x200, 0x201, 0x400, 0x401, 0x402, 0x410, 0x500, 0x501, 0x510, 0x530, 0x710, 0x900, 0xA00, 0xA02, 0xA10, 0xA11, 0xA12, 0xA13]

/-- The commands take effect one after the other, whatever waits in the queue. -/
def plays : List Instr → State → Host.Outcome State Fault Refusal
  | [], s => .next s
  | c :: rest, s => match exec c s with
    | .next m => plays rest m
    | .fault f => .fault f
    | .refused r => .refused r

/-- `n` steps lead from the first state to the second, and none of them is a power-on reset. -/
def LivesOn : Nat → State → State → Prop
  | 0, s, u => s = u
  | n + 1, s, u => ∃ m, (∀ rest, s.pending ≠ .powerOnReset :: rest) ∧ step s = .next m ∧ LivesOn n m u

/-- What a device keeps of its debug port, whatever happens to it (R472, R473): it is connected only while it is open, no more than three verifications have failed, and after the third no challenge stands. -/
structure Guarded (d : Dev) : Prop where
  openOnly : d.tst.connected = true → d.tst.life = 1 ∨ (d.tst.life = 2 ∧ d.tst.unlocked = true)
  failsMax : d.tst.fails ≤ 3
  noMore : d.tst.fails = 3 → d.tst.challenge = none

end Sys2Proof.Machine
end

