-- ==== Sys2Proof/Certificates/Slice0/Obligations.lean ====
section
/-! DEFINITION. The statements about the block, for the provers: what each command does, what it leaves alone, and what holds of the whole machine. -/
open Sys2Proof Sys2Proof.Machine


/-- The four kinds of refused access complete (R14, R20, R42, R43): a read returns all ones, a write does nothing, and the incident bit or the counter of the kind records it. -/
def Obligations.RefusedAccessesComplete : Prop :=
  (∀ (s : State) (a : Access), s.dev.onBus a = true → goodShape a = false →
    ∃ d, Completes (.badAccess a) s d ∧ ReadsOnes a d ∧ (d.reg 0x40).getLsbD 0 = true ∧ OnlyReg a.master 0x40 s.dev d ∧
      d = { s.dev with glb := d.glb, regs := d.regs, counts := d.counts, mgr := d.mgr, tst := d.tst }) ∧
  (∀ (s : State) (f : Nat) (a : Access), a.master = .fn f → s.dev.onBus a = true → goodShape a = true → s.dev.reach a.master a.addr = none →
    ∃ d, Completes (.deniedAccess a) s d ∧ ReadsOnes a d ∧ d.counter (2 + f) 4 = (s.dev.counter (2 + f) 4 + 1) % 2 ^ 48 ∧
      d = { s.dev with glb := d.glb, counts := d.counts }) ∧
  (∀ (s : State) (a : Access), s.dev.onBus a = true → s.dev.judge a = .unmapped →
    ∃ d, Completes (.unmappedAccess a) s d ∧ ReadsOnes a d ∧ (d.reg 0x40).getLsbD 1 = true ∧ OnlyReg a.master 0x40 s.dev d ∧
      d = { s.dev with glb := d.glb, regs := d.regs, counts := d.counts, mgr := d.mgr, tst := d.tst }) ∧
  (∀ (s : State) (a : Access), s.dev.onBus a = true → s.dev.judge a = .off →
    ∃ d, Completes (.domainOffAccess a) s d ∧ ReadsOnes a d ∧ (d.reg 0x40).getLsbD 4 = true ∧ OnlyReg a.master 0x40 s.dev d ∧
      d = { s.dev with glb := d.glb, regs := d.regs, counts := d.counts, mgr := d.mgr, tst := d.tst })

/-- A write that an access reaches takes effect as its register says, for every register (R19, R32, R55, R56, R335, R338, R351, R355, R360, R361, R474). The request area takes it at once, the rest of a slot ignores it; a 1 written to DOORBELL or RESP_ACK, an acquire or release, and an operation written to a core's ports or to RGM_SLOW_RETURN do what their rows say; a check-value unit takes its owner's write at once; every other write waits for the end of its beat and changes nothing before it. The device `e` differs from the one before in the filters' counters alone, and for the debug access port in its own records too. -/
def Obligations.RegisterWritesTakeEffect : Prop :=
  ∀ (s : State) (a : Access) (x : Nat) (v : Reg), s.dev.onBus a = true → a.write = true → s.dev.judge a = .at' x → v = a.data.setWidth 32 →
    ∃ e d, Completes (.registerWrite a) s d ∧
      e = { s.dev with glb := e.glb, regs := e.regs, counts := e.counts, mgr := e.mgr, tst := e.tst } ∧
      (a.master ≠ .dap → e = { s.dev with counts := e.counts }) ∧ (a.master = .dap → e.tst.wrote = true) ∧
      (∀ f o, x = 0x100000 + f * 0x10000 + o → f < 16 → o < 0x2010 →
        (o < 0x1000 → d = { e with fns := d.fns } ∧ (∀ j, j ≠ f → d.fn j = e.fn j) ∧ d.fn f = { e.fn f with reqArea := (d.fn f).reqArea } ∧
          (a.width = 8 → ∀ i, tlook (fun _ => (0 : Word)) (d.fn f).reqArea i = if i = o / 8 then a.data else tlook (fun _ => 0) (e.fn f).reqArea i)) ∧
        (0x1000 ≤ o → o ≠ 0x200C → (o ≠ 0x2000 ∧ o ≠ 0x2008 ∨ a.data.getLsbD 0 = false) → d = e) ∧
        (o = 0x2000 → a.data.getLsbD 0 = true → Completes (.doorbell f) { s with dev := e } d) ∧
        (o = 0x2008 → a.data.getLsbD 0 = true → Completes (.respAck f) { s with dev := e } d)) ∧
      (x = 0xD00014 →
        (rfld v 31 29 = 1 → Completes (.reinject a.master (rfld v 14 0)) { s with dev := e } d) ∧
        (rfld v 31 29 = 2 → Completes (.reinjectCopy a.master (rfld v 14 0)) { s with dev := e } d) ∧
        (rfld v 31 29 = 3 → Completes (.originate a.master (rfld v 14 0)) { s with dev := e } d) ∧
        (rfld v 31 29 = 4 → Completes (.drop a.master (rfld v 14 0)) { s with dev := e } d)) ∧
      (0xC01000 ≤ x → x < 0xC01800 → x % 0x100 ≠ 0 →
        (e.ownsChk a.master ((x - 0xC01000) / 0x100) = false → (d.reg 0xC00040).getLsbD (8 + (x - 0xC01000) / 0x100) = true ∧
          d = { e with regs := d.regs, glb := d.glb, mgr := d.mgr, counts := d.counts }) ∧
        (e.ownsChk a.master ((x - 0xC01000) / 0x100) = true → d = e.writeChk s.now a.master ((x - 0xC01000) / 0x100) (x % 0x100) v ∧
          (x % 0x100 = 0x20 → d.chkUnit ((x - 0xC01000) / 0x100) = { e.chkUnit ((x - 0xC01000) / 0x100) with expect := v } ∧ d = { e with chk := d.chk }))) ∧
      ((x = 0xB80000 ∨ (0xC01000 ≤ x ∧ x < 0xC01800 ∧ x % 0x100 = 0)) → d = { e with arrivals := e.arrivals ++ writtenInputs a.master x v }) ∧
      (0xD01000 ≤ x → x < 0xD01600 → writtenInputs a.master x v ≠ [] → d = { e with arrivals := e.arrivals ++ writtenInputs a.master x v }) ∧
      ((x < 0x100000 ∨ (0x200000 ≤ x ∧ x ≠ 0xB80000 ∧ x ≠ 0xD00014 ∧ ¬(0xC01000 ≤ x ∧ x < 0xC01800) ∧ ¬(0xD01000 ≤ x ∧ x < 0xD01600)) ∨
          (0x100000 ≤ x ∧ x < 0x200000 ∧ x % 0x10000 = 0x200C) ∨ (0xD01000 ≤ x ∧ x < 0xD01600 ∧ writtenInputs a.master x v = [])) →
        d = { e with glb := { e.glb with staged := e.glb.staged ++ [{ a with addr := x }] } })

/-- Reading GLB_SHOW_TIME_LO returns bits 31:0 of show time and latches the other three time registers for the master, from one instant (R31). A hand-off is recorded once, with its own stamp, and no longer waits; one whose stamp lies more than two beats before the boundary that samples it sets GLB_INCIDENT.HANDOFF_LATE (R39). -/
def Obligations.TimeReadsAndHandoffsComplete : Prop :=
  (
  ∀ (s : State) (m : Master), s.dev.stopped m = false → ∃ d, Completes (.showTimeLoRead m) s d ∧
    d.lastRead m = ((BitVec.ofNat 32 s.now : Reg).setWidth 64) ∧
    d.readReg s.now m 0x14 = BitVec.ofNat 32 (s.now / 2 ^ 32) ∧
    d.readReg s.now m 0x18 = BitVec.ofNat 32 (tickOf s.now) ∧
    d.readReg s.now m 0x1C = packR [(tickOf s.now / 2 ^ 32, 16, 0), (beatOf s.now, 10, 16)] ∧
    (∀ m', m'.code ≠ m.code → ∀ x, x = 0x14 ∨ x = 0x18 ∨ x = 0x1C → d.readReg s.now m' x = s.dev.readReg s.now m' x) ∧
    d = { s.dev with glb := d.glb }) ∧
  (
  ∀ (s : State) (h : Handoff), ∃ d, Completes (.handoff h) s d ∧
    h ∈ d.glb.handoffs ∧ d.glb.handoffs.length = s.dev.glb.handoffs.length + 1 ∧ h ∉ d.glb.handoffWait ∧
    (beatNo h.stamp + 2 < beatNo s.now → (d.reg 0x40).getLsbD 3 = true) ∧
    (¬ beatNo h.stamp + 2 < beatNo s.now → d = { s.dev with glb := d.glb }) ∧
    (∀ j, j ≠ 0x40 → d.reg j = s.dev.reg j) ∧
    d = { s.dev with glb := d.glb, regs := d.regs, counts := d.counts, mgr := d.mgr })

/-- The commands of a mailbox slot (R56, R58, R59, R60): a doorbell of a READY function with room sets REQ_BUSY; any other sets MBX_INCIDENT.DOORBELL_LOST and nothing of the slot; a waiting response enters the free response area; an acknowledgement is staged for the boundary, and a stray one sets ACK_STRAY. IF_VERSION answers the interface version and the function's tenant and lifts the version check (R65); an opcode that no chapter defines is answered BAD_OPCODE and has no other effect (R63). -/
def Obligations.MailboxAndVersionCommandsComplete : Prop :=
  (
  (∀ (s : State) (f : Nat), (s.dev.fn f).st = .ready → (s.dev.fn f).reqBusy = false → (s.dev.fn f).tags.length < 32 → s.dev.mbxOpen = true →
    ∃ d, Completes (.doorbell f) s d ∧ d.fn f = { s.dev.fn f with reqBusy := true, rangAt := s.dev.arrivals.length } ∧ (∀ j, j ≠ f → d.fn j = s.dev.fn j) ∧
      d = { s.dev with fns := d.fns }) ∧
  (∀ (s : State) (f : Nat), ((s.dev.fn f).st ≠ .ready ∨ (s.dev.fn f).reqBusy = true ∨ 32 ≤ (s.dev.fn f).tags.length) →
    ∃ d, Completes (.doorbell f) s d ∧ (d.reg (0x10200C + f * 0x10000)).getLsbD 0 = true ∧
      (∀ j, j ≠ 0x10200C + f * 0x10000 → d.reg j = s.dev.reg j) ∧
      d = { s.dev with regs := d.regs, glb := d.glb, counts := d.counts, mgr := d.mgr }) ∧
  (∀ (s : State) (f : Nat) (r : Resp) (rest : List Resp), (s.dev.fn f).waiting = r :: rest → (s.dev.fn f).respValid = false →
    ∃ d, Completes (.responsePosted f) s d ∧ (d.fn f).respValid = true ∧ (d.fn f).waiting = rest ∧ (d.fn f).respFinal = r.final ∧
      (d.fn f).respArea = putWords (s.dev.fn f).respArea 0 r.words ∧ (d.fn f).tags = (s.dev.fn f).tags ∧
      (∀ j, j ≠ f → d.fn j = s.dev.fn j) ∧ d = { s.dev with fns := d.fns, counts := d.counts, glb := d.glb }) ∧
  (∀ (s : State) (f : Nat), (s.dev.fn f).respValid = true →
    ∃ d, Completes (.respAck f) s d ∧ d.fn f = { s.dev.fn f with ackStaged := true } ∧ (∀ j, j ≠ f → d.fn j = s.dev.fn j) ∧
      d = { s.dev with fns := d.fns }) ∧
  (∀ (s : State) (f : Nat), (s.dev.fn f).respValid = false →
    ∃ d, Completes (.respAck f) s d ∧ (d.reg (0x10200C + f * 0x10000)).getLsbD 2 = true ∧
      d = { s.dev with regs := d.regs, glb := d.glb, counts := d.counts, mgr := d.mgr })) ∧
  (
  (∀ (s : State) (f : Nat) (req : List Word), (s.dev.fn f).st = .ready → (s.dev.fn f).tags.length < 32 → (s.dev.fn f).tags.contains (reqTag req) = false →
    s.dev.mgr.recovery = false → reqLen req = 1 → resv (wd req 0) [(47, 42), (31, 12)] = false →
    ∃ d, Completes (.ifVersion f req) s d ∧ (d.fn f).versionSeen = true ∧ (d.fn f).tags = (s.dev.fn f).tags ++ [reqTag req] ∧
      (d.fn f).waiting = (s.dev.fn f).waiting ++
        [⟨[respHeader (reqTag req) 3 0 1, packW [(3, 8, 0), (3, 8, 8), (2, 8, 16), (Config.fwPatch.toNat, 16, 24)], packW [(f, 4, 0)]], true, beatNo s.now⟩] ∧
      (∀ j, j ≠ f → d.fn j = s.dev.fn j) ∧ d = { s.dev with fns := d.fns, counts := d.counts }) ∧
  (∀ (s : State) (f : Nat) (req : List Word), (s.dev.fn f).st = .ready → (s.dev.fn f).tags.length < 32 →
    ∃ d, Completes (.badOpcode f req) s d ∧ Answered s.dev d s.now f req (reqOp req) .badOpcode [] ∧ d = { s.dev with fns := d.fns, counts := d.counts }))

/-- PROP_GET of a stored property answers the value most recently written; a PROP_SET of one writable instance records the value, to come into force at the point of its EFFECT; PROP_DESCRIBE answers the attributes of R68 (R68 to R72). -/
def Obligations.PropertyCommandsComplete : Prop :=
  (∀ (s : State) (f : Nat) (req : List Word) (p : PropDef), Admitted s.dev f req 2 → propDef (itemId (wd req 1)) = some p →
    s.dev.itemCheck (.fn f) (wd req 1) none = .ok → (p.id ∉ [0x0010, 0x0011, 0x0012, 0x6110, 0x7011, 0xA010, 0xA011, 0x1040]) →
    ∃ d, Completes (.propGet f req) s d ∧ Answered s.dev d s.now f req 0x020 .ok [0, s.dev.written (itemKey p (.fn f) (wd req 1))] ∧
      d = { s.dev with fns := d.fns, counts := d.counts }) ∧
  (∀ (s : State) (f : Nat) (req : List Word) (p : PropDef), Admitted s.dev f req 3 → propDef (itemId (wd req 1)) = some p →
    s.dev.itemCheck (.fn f) (wd req 1) (some (wd req 2)) = .ok → pairOf (itemId (wd req 1)) = none → s.dev.claimed .prop (itemKey p (.fn f) (wd req 1)) = false →
    ∃ d, Completes (.propSet f req) s d ∧ Answered s.dev d s.now f req 0x021 .ok [0] ∧
      d.written (itemKey p (.fn f) (wd req 1)) = wd req 2 ∧ (∀ k, k ≠ itemKey p (.fn f) (wd req 1) → d.written k = s.dev.written k) ∧
      (itemKey p (.fn f) (wd req 1), p.effect) ∈ d.propStaged ∧ d.force = s.dev.force ∧
      d = { s.dev with fns := d.fns, counts := d.counts, props := d.props, propStaged := d.propStaged, mgr := d.mgr, claims := d.claims }) ∧
  (∀ (s : State) (f : Nat) (req : List Word) (p : PropDef), Admitted s.dev f req 2 → propDef (itemId (wd req 1)) = some p →
    fld (wd req 1) 63 36 = 0 → itemIx (wd req 1) = 0 → itemTen (wd req 1) = 0 → (f = 0 ∨ p.access ≠ 3) →
    ∃ d, Completes (.propDescribe f req) s d ∧ Answered s.dev d s.now f req 0x022 .ok
        [packW [(p.bits, 7, 0), (b2n p.signed, 1, 7), (p.kind, 4, 8), (p.effect, 4, 12), (p.access, 2, 16), (b2n p.tenanted, 1, 20), (b2n p.persist, 1, 21), (p.limit, 16, 32)],
          propWord (propDefault p 0), propWord p.lo, propWord p.hi] ∧
      d = { s.dev with fns := d.fns, counts := d.counts })

/-- The function-state commands in Show with no power entry under way (R53, R54, R392, R393). A Function Level Reset of a READY virtual function puts it into SHUTDOWN with its requests forgotten; a disable does the same to the READY functions above NumVFs; an enable starts for the OFF functions up to NumVFs; a drained shutdown for a reset ends READY, one for a disable ends OFF with the rings back at F0; a pending enable ends READY. No other function's state changes. RING_ASSIGN moves a stopped ring, with its registers at reset, to a READY function under a local number that none of that function's rings has (R66, R73); no other ring changes. -/
def Obligations.FunctionsAndRingAssignmentComplete : Prop :=
  (
  (∀ (s : State) (f : Nat), s.dev.gaf.state = .show' → s.dev.gaf.phase = .idle → f ≠ 0 → (s.dev.fn f).st = .ready →
    ∃ d, Completes (.functionLevelReset f) s d ∧ (d.fn f).st = .shutdown ∧ (d.fn f).shut = .reset ∧ (d.fn f).tags = [] ∧ (d.fn f).waiting = [] ∧
      (∀ j, j ≠ f → (d.fn j).st = (s.dev.fn j).st ∧ (d.fn j).tags = (s.dev.fn j).tags)) ∧
  (∀ (s : State) (n : Nat), s.dev.gaf.state = .show' → s.dev.gaf.phase = .idle → n ≤ 15 →
    ∃ d, Completes (.vfDisable n) s d ∧
      (∀ f, n < f → f ≤ 15 → (s.dev.fn f).st = .ready → (d.fn f).st = .shutdown ∧ (d.fn f).shut = .disable ∧ (d.fn f).tags = []) ∧
      (∀ f, f ≤ n → (d.fn f).st = (s.dev.fn f).st ∧ (d.fn f).tags = (s.dev.fn f).tags)) ∧
  (∀ (s : State) (n : Nat), s.dev.gaf.state = .show' → s.dev.gaf.phase = .idle → n ≤ 15 →
    ∃ d, Completes (.vfEnable n) s d ∧
      (∀ f, 1 ≤ f → f ≤ n → (s.dev.fn f).st = .off → (d.fn f).st = .enablePending) ∧
      (∀ f, (f = 0 ∨ n < f ∨ (s.dev.fn f).st = .ready ∨ (s.dev.fn f).st = .enablePending) → d.fn f = s.dev.fn f) ∧
      d.glb.pcie = { s.dev.glb.pcie with numVfs := n, vfOn := decide (n ≠ 0), numWritten := if n = 0 then s.dev.glb.pcie.numWritten else n } ∧ d = { s.dev with fns := d.fns, glb := { s.dev.glb with pcie := d.glb.pcie } }) ∧
  (∀ (s : State) (f : Nat), (s.dev.fn f).shut = .reset → s.dev.drained f = true →
    ∃ d, Completes (.shutdownEnd f) s d ∧ d.fn f = { st := .ready } ∧ (∀ j, j ≠ f → d.fn j = s.dev.fn j) ∧ d = { s.dev with fns := d.fns }) ∧
  (∀ (s : State) (f : Nat), (s.dev.fn f).shut = .disable → (s.dev.fn f).enableAfter = false → s.dev.drained f = true →
    ∃ d, Completes (.shutdownEnd f) s d ∧ d.fn f = { st := .off } ∧ (∀ j, j ≠ f → d.fn j = s.dev.fn j) ∧
      (∀ g, g < 128 → (s.dev.ring g).owner = f → d.ring g = ringReset g) ∧ (∀ g, (s.dev.ring g).owner ≠ f → d.ring g = s.dev.ring g) ∧
      (∀ p, d.port p = { s.dev.port p with ts := (s.dev.port p).ts.filter (fun x => !(decide (x.1 < 128) && (s.dev.ring x.1).owner == f)) }) ∧
      d = { s.dev with fns := d.fns, tm := d.tm, emac := { s.dev.emac with port := d.emac.port } }) ∧
  (∀ (s : State) (f : Nat), (s.dev.fn f).st = .enablePending → (s.dev.fn f).shut = .none →
    ∃ d, Completes (.enableComplete f) s d ∧ d.fn f = { st := .ready } ∧ (∀ j, j ≠ f → d.fn j = s.dev.fn j) ∧ d = { s.dev with fns := d.fns })) ∧
  (
  ∀ (s : State) (req : List Word) (g f k : Nat), Admitted s.dev 0 req 2 → fld (wd req 1) 63 21 = 0 → fld (wd req 1) 15 12 = 0 → fld (wd req 1) 7 7 = 0 →
    g = fld (wd req 1) 6 0 → f = fld (wd req 1) 11 8 → k = (if f = 0 then g else fld (wd req 1) 20 16) →
    (s.dev.ring g).st = .stopped → (s.dev.fn f).st = .ready → s.dev.claimed .ring g = false →
    (f ≠ 0 → (∀ j, j < 128 → j ≠ g → (s.dev.ring j).owner = f → (s.dev.ring j).loc ≠ k) ∧ ((s.dev.ringsOf f).filter (· != g)).length < 32) →
    ∃ d, Completes (.ringAssign 0 req) s d ∧ Answered s.dev d s.now 0 req 0x030 .ok [] ∧ d.ring g = { owner := f, loc := k } ∧
      (∀ j, j ≠ g → d.ring j = s.dev.ring j) ∧ (∀ p, d.port p = { s.dev.port p with ts := (s.dev.port p).ts.filter (fun x => x.1 != g) }) ∧
      d = { s.dev with fns := d.fns, counts := d.counts, tm := d.tm, claims := d.claims, emac := { s.dev.emac with port := d.emac.port } })

/-- Ring control (R307, R309, R310): enabling a STOPPED ring with a legal size starts it empty; a size outside 64 to 32,768 entries leaves it STOPPED with CFG_ERR and TM_INCIDENT.RING_CFG; disabling a RUNNING ring makes it DRAINING with no unused buffer and no waiting frame; a DRAINING ring with nothing in flight becomes STOPPED; a failed DMA makes the ring FAULT and sets TM_INCIDENT.RING_FAULT. A write by a master that does not own the ring changes nothing. -/
def Obligations.RingControlCompletes : Prop :=
  (∀ (s : State) (m : Master) (g : Nat) (v : Reg), s.dev.reachesRing m g = true → (s.dev.ring g).st = .stopped →
    6 ≤ rfld v 19 16 → (rfld v 29 28 ≠ 3 ∨ s.dev.wrxFree g = true) →
    ∃ d, Completes (.ringEnable m g v) s d ∧
      d.ring g = { s.dev.ring g with
        ctrl := (v &&& 0x700F00FF) ||| 0x80000000, st := .running, cfgErr := false, prod := 0, cons := 0, cqHead := 0, cqTail := 0, phase := true
        inflight := [], free := [], done := [], since := 0, firstAt := 0, queue := [] } ∧
      (∀ j, j ≠ g → d.ring j = s.dev.ring j) ∧ d = { s.dev with tm := d.tm }) ∧
  (∀ (s : State) (m : Master) (g : Nat) (v : Reg), s.dev.reachesRing m g = true → (s.dev.ring g).st = .stopped → rfld v 19 16 < 6 →
    ∃ d, Completes (.ringEnable m g v) s d ∧ (d.ring g).st = .stopped ∧ (d.ring g).cfgErr = true ∧ (d.reg 0xA00040).getLsbD 2 = true ∧
      (∀ j, j ≠ g → d.ring j = s.dev.ring j) ∧ (∀ j, j ≠ 0xA00040 → d.reg j = s.dev.reg j) ∧
      d = { s.dev with tm := d.tm, regs := d.regs, glb := d.glb, counts := d.counts, mgr := d.mgr }) ∧
  (∀ (s : State) (m : Master) (g : Nat) (v : Reg), s.dev.reachesRing m g = true → (s.dev.ring g).st = .running →
    ∃ d, Completes (.ringDisable m g v) s d ∧ (d.ring g).st = .draining ∧ (d.ring g).queue = [] ∧ (d.ring g).free = [] ∧
      (∀ j, j ≠ g → (d.ring j).st = (s.dev.ring j).st)) ∧
  (∀ (s : State) (m : Master) (g : Nat) (v : Reg), s.dev.reachesRing m g = false →
    Completes (.ringEnable m g v) s s.dev ∧ Completes (.ringDisable m g v) s s.dev ∧ Completes (.ringProd m g v) s s.dev ∧ Completes (.ringCqHead m g v) s s.dev) ∧
  (∀ (s : State) (g : Nat), (s.dev.ring g).st = .draining → (s.dev.ring g).inFlight = 0 →
    ∃ d, Completes (.drainEnd g) s d ∧ d.ring g = { s.dev.ring g with st := .stopped } ∧ (∀ j, j ≠ g → d.ring j = s.dev.ring j) ∧
      d = { s.dev with tm := d.tm }) ∧
  (∀ (s : State) (g : Nat) (x : Option Nat), (s.dev.ring g).st = .running ∨ (s.dev.ring g).st = .draining →
    ∃ d, Completes (.dmaErr g x) s d ∧ (d.ring g).st = .fault ∧ (d.reg 0xA00040).getLsbD 1 = true ∧ (∀ j, j ≠ g → (d.ring j).st = (s.dev.ring j).st))

/-- Ring indexes, completions and coalescing (R305, R307, R311): the producer index and the completion head are taken modulo the size; a completion that waits alone enters the array at the tail with the PHASE bit, where there is room; a timer that has run out restarts the count and fires the ring's vector while it is enabled. -/
def Obligations.RingIndexesAndCompletions : Prop :=
  (∀ (s : State) (m : Master) (g : Nat) (v : Reg), s.dev.reachesRing m g = true →
    ∃ d, Completes (.ringProd m g v) s d ∧ d.ring g = { s.dev.ring g with prod := rfld v 14 0 % (s.dev.ring g).size } ∧
      (∀ j, j ≠ g → d.ring j = s.dev.ring j) ∧ d = { s.dev with tm := d.tm }) ∧
  (∀ (s : State) (m : Master) (g : Nat) (v : Reg), s.dev.reachesRing m g = true →
    ∃ d, Completes (.ringCqHead m g v) s d ∧ (d.ring g).cqHead = rfld v 14 0 % (s.dev.ring g).size ∧ (d.ring g).prod = (s.dev.ring g).prod ∧
      (d.ring g).st = (s.dev.ring g).st ∧ (∀ j, j ≠ g → d.ring j = s.dev.ring j) ∧
      ((s.dev.ring g).done = [] → d = { s.dev with tm := d.tm }) ∧
      d = { s.dev with tm := d.tm, host := d.host, counts := d.counts, glb := d.glb, emac := d.emac }) ∧
  (∀ (s : State) (g : Nat) (c : Compl) (w1 : Word), (s.dev.ring g).done = [c] → ((s.dev.ring g).cqTail + 1) % (s.dev.ring g).size ≠ (s.dev.ring g).cqHead % (s.dev.ring g).size →
    (s.dev.ring g).st ≠ .stopped → s.dev.gaf.quiesced.testBit 3 = false → w1 = packW [(c.w1.toNat, 63, 0), (b2n (s.dev.ring g).phase, 1, 63)] →
    ∃ d, Completes (.completionWrite g) s d ∧ (d.ring g).done = [] ∧ (d.ring g).cqTail = ((s.dev.ring g).cqTail + 1) % (s.dev.ring g).size ∧
      d.hostGet (s.dev.ring g).owner ((s.dev.ring g).base + 16 * (s.dev.ring g).size + 16 * (s.dev.ring g).cqTail) 16 = wordOctets [c.w0, w1] ∧
      (d.ring g).phase = (if (d.ring g).cqTail = 0 then !(s.dev.ring g).phase else (s.dev.ring g).phase) ∧
      (∀ j, j ≠ g → d.ring j = s.dev.ring j) ∧ d = { s.dev with tm := d.tm, host := d.host, counts := d.counts, glb := d.glb, emac := d.emac }) ∧
  (∀ (s : State) (g : Nat), s.dev.coalDue g = true →
    ∃ d, Completes (.coalTimer g) s d ∧ d.ring g = { s.dev.ring g with since := 0, firstAt := 0 } ∧ (∀ j, j ≠ g → d.ring j = s.dev.ring j) ∧
      ((s.dev.ring g).ctrl.getLsbD 30 = true → (s.dev.fn (s.dev.ring g).owner).st = .ready →
        tlook (fun _ => 0) d.glb.msix ((s.dev.ring g).owner * 256 + ringVec g (s.dev.ring g)) =
          tlook (fun _ => 0) s.dev.glb.msix ((s.dev.ring g).owner * 256 + ringVec g (s.dev.ring g)) + 1) ∧
      d = { s.dev with tm := d.tm, glb := d.glb, counts := d.counts })

/-- A descriptor that may be fetched is consumed once (R304, R308): a good TX frame becomes a frame of the router with the ring's tenant and its octets in descriptor order, and one that fills the packet-buffer region sets TM_INCIDENT.BUF_FULL (R315); a good RX buffer joins the free buffers when no frame waits; a reserved bit or LEN 0 ends the descriptor BAD_DESC and reads no frame. A ring that may not fetch reads nothing. Policers and samples (R316, R319, R320, R323): a good TM_POLICER_WRITE waits for the next refill and changes no policer; the refill brings the written policers into force, each with its beat's tokens, and adds a beat's tokens to every other; TM_POLICER_READ and TM_QUEUE_SAMPLE answer what is held; a sample of each of the 656 queues stands before its older ones. -/
def Obligations.DescriptorsAndPolicersComplete : Prop :=
  (
  (∀ (s : State) (g : Nat) (w0 w1 : Word) (l : List Byte) (x : Desc), s.dev.mayFetch g = true → (s.dev.ring g).kind = 0 → badDesc 0 w1 = false →
    x = descOf (s.dev.ring g).nextId w0 w1 → 14 ≤ x.len → l.length = x.len →
    ∃ d, Completes (.descriptorFetch g w0 w1 (some l)) s d ∧
      d.ring g = { s.dev.ring g with nextId := (s.dev.ring g).nextId + 1, cons := ((s.dev.ring g).cons + 1) % (s.dev.ring g).size, inflight := (s.dev.ring g).inflight ++ [x] } ∧
      d.rte = { s.dev.rte with ring := s.dev.rte.ring ++ [{ octets := l, srcKind := 2, src := g, tenant := (s.dev.ring g).owner, desc := some (g, x.id), tsReq := x.tsReq }] } ∧
      (∀ j, j ≠ g → d.ring j = s.dev.ring j) ∧ (d.bufFull = true → d.tm.full = true ∧ (d.reg 0xA00040).getLsbD 0 = true) ∧
      (d.bufFull = false → d = { s.dev with tm := d.tm, rte := d.rte, counts := d.counts }) ∧
      d = { s.dev with tm := d.tm, rte := d.rte, counts := d.counts, regs := d.regs, glb := d.glb, mgr := d.mgr }) ∧
  (∀ (s : State) (g : Nat) (w0 w1 : Word) (data : Option (List Byte)), s.dev.mayFetch g = true → (s.dev.ring g).kind = 1 → badDesc 1 w1 = false → (s.dev.ring g).queue = [] →
    ∃ d, Completes (.descriptorFetch g w0 w1 data) s d ∧
      d.ring g = { s.dev.ring g with nextId := (s.dev.ring g).nextId + 1, cons := ((s.dev.ring g).cons + 1) % (s.dev.ring g).size, free := (s.dev.ring g).free ++ [descOf (s.dev.ring g).nextId w0 w1] } ∧
      (∀ j, j ≠ g → d.ring j = s.dev.ring j) ∧ d = { s.dev with tm := d.tm, counts := d.counts }) ∧
  (∀ (s : State) (g : Nat) (w0 w1 : Word) (data : Option (List Byte)), s.dev.mayFetch g = true → badDesc (s.dev.ring g).kind w1 = true →
    ∃ d, Completes (.descriptorFetch g w0 w1 data) s d ∧ (d.ring g).cons = ((s.dev.ring g).cons + 1) % (s.dev.ring g).size ∧ d.rte = s.dev.rte ∧ d.mac = s.dev.mac ∧
      (∀ j, j ≠ g → d.ring j = s.dev.ring j)) ∧
  (∀ (s : State) (g : Nat) (w0 w1 : Word) (data : Option (List Byte)), s.dev.mayFetch g = false → Completes (.descriptorFetch g w0 w1 data) s s.dev)) ∧
  (
  (∀ (s : State) (f : Nat) (req : List Word) (i : Nat) (x : Policer), Admitted s.dev f req 5 →
    (fixedSpec 0x660 false 5 [(1, [(63, 52), (47, 8)]), (2, [(43, 40)]), (3, [(31, 0)]), (4, [(63, 56), (31, 24)])]).reserved req = false →
    x = { w2 := wd req 2, w3 := wd req 3, w4 := wd req 4 } → i = (if f = 0 then fld (wd req 1) 51 48 else f) * 256 + fld (wd req 1) 7 0 →
    (f ≠ 0 → fld (wd req 1) 51 48 = 0) → (x.mode = 0 ∨ x.mode = 1 ∨ x.mode = 2) → fld x.w2 59 58 ≠ 3 → fld x.w2 57 56 ≠ 3 → -64 ≤ x.overhead → x.overhead ≤ 63 →
    (x.mode ≠ 0 → fld x.w4 23 0 ≠ 0) → (x.mode = 2 → fld x.w2 31 0 ≤ fld x.w3 63 32) → (x.mode ≠ 2 → fld x.w3 63 32 = 0) → s.dev.claimed .policer i = false →
    ∃ d, Completes (.tmPolicerWrite f req) s d ∧ Answered s.dev d s.now f req 0x660 .ok [] ∧
      d.tm = { s.dev.tm with policeStaged := s.dev.tm.policeStaged ++ [(i, x.w2, x.w3, x.w4)] } ∧
      d = { s.dev with tm := d.tm, fns := d.fns, counts := d.counts, claims := d.claims }) ∧
  (∀ (s : State) (f : Nat) (req : List Word) (x : Policer), Admitted s.dev f req 2 → resv (wd req 1) [(63, 52), (47, 8)] = false →
    (f ≠ 0 → fld (wd req 1) 51 48 = 0) → x = s.dev.policer ((if f = 0 then fld (wd req 1) 51 48 else f) * 256 + fld (wd req 1) 7 0) →
    ∃ d, Completes (.tmPolicerRead f req) s d ∧
      Answered s.dev d s.now f req 0x661 .ok [wd req 1, x.w2, x.w3, x.w4, packW [(x.green, 48, 0)], packW [(x.yellow, 48, 0)], packW [(x.red, 48, 0)]] ∧
      d = { s.dev with fns := d.fns, counts := d.counts }) ∧
  (∀ (s : State) (f : Nat) (req : List Word) (q n : Nat), Admitted s.dev f req 2 → resv (wd req 1) [(63, 42), (31, 7)] = false →
    q = fld (wd req 1) 41 32 → n = fld (wd req 1) 6 0 → q < 656 → 1 ≤ n → n ≤ 64 → s.dev.ownsQueue (.fn f) q = true →
    ∃ d, Completes (.tmQueueSample f req) s d ∧
      Answered s.dev d s.now f req 0x662 .ok (packW [(s.dev.tm.sampleTick, 48, 0)] :: (List.range n).map (fun i => (tlook (fun _ => []) s.dev.tm.samples q).getD i 0)) ∧
      d = { s.dev with fns := d.fns, counts := d.counts }) ∧
  (∀ s : State, ∃ d, Completes .refill s d ∧ d.tm.policeStaged = [] ∧
    (∀ i, (∀ e ∈ s.dev.tm.policeStaged, e.1 ≠ i) → d.policer i = refillPolicer (s.dev.policer i)) ∧
    (∀ i w2 w3 w4, s.dev.tm.policeStaged = [(i, w2, w3, w4)] → d.policer i = refillPolicer (applyPolicer (s.dev.policer i) w2 w3 w4))) ∧
  (∀ s : State, ∃ d, Completes .queueSample s d ∧
    (∀ q, q < 656 → tlook (fun _ => []) d.tm.samples q = putSample (s.dev.sampleOf s.now q) (tlook (fun _ => []) s.dev.tm.samples q)) ∧
    (∀ q, 656 ≤ q → tlook (fun _ => []) d.tm.samples q = tlook (fun _ => []) s.dev.tm.samples q) ∧
    d.tm.maxDelay = [] ∧ d.tm.sampleTick = (tickOf s.now + 2 ^ 48 - 1) % 2 ^ 48 ∧ d = { s.dev with tm := d.tm, counts := d.counts }))

/-- The links of the Ethernet ports (R260 to R262). F0's enable with an allowed rate and FEC pair stores RATE, FEC and the port's other fields and clears CFG_ERR; a pair that is not allowed sets CFG_ERR; a disable ends the link; a port that may link comes up with the rate and FEC of its control register and, with auto-negotiation, the partner's pause bits; a loss of link sets EMAC_INCIDENT.LINK_DOWN_p and leaves the queues, and the loss of the SerDes reference takes every link; on a port that a change of link state is to wake, one in sleep sets EMAC_INCIDENT.WAKE_p (R275). A function other than F0 changes nothing. -/
def Obligations.PortLinksComplete : Prop :=
  (∀ (s : State) (m : Master) (p : Nat) (v : Reg), m.isF0 = true → (s.dev.reg (emacAddr p 0)).getLsbD 31 = false →
    ∃ d, Completes (.portEnable m p v) s d ∧ d.reg (emacAddr p 0) = 0x80000000 ||| (v &&& 0x4F1F0000) ∧
      (d.port p).cfgErr = !fecOk (rfld v 25 24) (rfld v 27 26) ∧ d.port p = { s.dev.port p with cfgErr := (d.port p).cfgErr } ∧
      (∀ j, j ≠ p → d.port j = s.dev.port j) ∧ (∀ j, j ≠ emacAddr p 0 → d.reg j = s.dev.reg j) ∧ d = { s.dev with regs := d.regs, emac := d.emac }) ∧
  (∀ (s : State) (m : Master) (p : Nat) (v : Reg), m.isF0 = true → p < 4 →
    ∃ d, Completes (.portDisable m p v) s d ∧ d.reg (emacAddr p 0) = v &&& 0x4F1F0000 ∧ (d.port p).linkUp = false ∧
      ((s.dev.port p).linkUp = true → (d.reg 0x800040).getLsbD p = true) ∧ (d.port p).queues = (s.dev.port p).queues ∧
      (∀ j, j ≠ p → d.port j = s.dev.port j) ∧ d = { s.dev with regs := d.regs, emac := d.emac, glb := d.glb, counts := d.counts, mgr := d.mgr }) ∧
  (∀ (s : State) (m : Master) (p : Nat) (v : Reg), m.isF0 = false →
    Completes (.portEnable m p v) s s.dev ∧ Completes (.portDisable m p v) s s.dev ∧ Completes (.flowCtrlWrite m p v) s s.dev) ∧
  (∀ (s : State) (p : Nat) (x : LinkFacts) (e : Dev), e = { s.dev with mgr := { s.dev.mgr with ref156 := s.dev.mgr.ref156 || x.refBack } } →
    e.mayLink p = true → (s.dev.port p).linkUp = false → ((s.dev.reg (emacAddr p 0)).getLsbD 30 = true → x.anDone = true) →
    ∃ d, Completes (.linkUp p x) s d ∧
      d.port p = { s.dev.port p with
        linkUp := true, anDone := (s.dev.reg (emacAddr p 0)).getLsbD 30, rateUsed := rfld (s.dev.reg (emacAddr p 0)) 25 24
        fecUsed := rfld (s.dev.reg (emacAddr p 0)) 27 26
        partnerPause := if (s.dev.reg (emacAddr p 0)).getLsbD 30 then x.partnerPause % 4 else 0 } ∧
      (∀ j, j ≠ p → d.port j = s.dev.port j) ∧ (e.wakeable = false → d = { e with emac := d.emac }) ∧
      (e.wakeable = true → e.wakeCause p .link ≠ none → (d.reg 0x800040).getLsbD (16 + p) = true)) ∧
  (∀ (s : State) (p : Nat), p < 4 → (s.dev.port p).linkUp = true →
    ∃ d, Completes (.linkDown (.port p)) s d ∧ d.port p = { s.dev.port p with linkUp := false, anDone := false } ∧ (d.reg 0x800040).getLsbD p = true ∧
      (∀ j, j ≠ p → d.port j = s.dev.port j) ∧
      (s.dev.wakeable = false → (∀ j, j ≠ 0x800040 → d.reg j = s.dev.reg j) ∧
        d = { s.dev with regs := d.regs, emac := d.emac, glb := d.glb, counts := d.counts, mgr := d.mgr }) ∧
      (s.dev.wakeable = true → s.dev.wakeCause p .link ≠ none → (d.reg 0x800040).getLsbD (16 + p) = true)) ∧
  (∀ s : State, s.dev.wakeable = false → ∃ d, Completes (.linkDown .ref156) s d ∧ d.mgr.ref156 = false ∧
    (∀ p, p < 4 → (d.port p).linkUp = false ∧ (d.port p).queues = (s.dev.port p).queues ∧ ((s.dev.port p).linkUp = true → (d.reg 0x800040).getLsbD p = true)) ∧
    (∀ j, j ≠ 0x800040 → d.reg j = s.dev.reg j) ∧ d = { s.dev with regs := d.regs, emac := d.emac, glb := d.glb, counts := d.counts, mgr := d.mgr })

/-- Receiving (R263, R265, R272): a frame of 64 octets up to MAX_FRAME with a good FCS that fits the 512 KiB buffer waits in it, newest last, with the show time of its message timestamp point and its trim; a frame too short, too long or with a bad FCS is counted and goes nowhere; one that does not fit sets EMAC_INCIDENT.RX_OVERFLOW_p. A port without a link receives nothing. -/
def Obligations.EthernetReceiveCompletes : Prop :=
  (∀ (s : State) (p : Nat) (l : List Byte) (x : Port) (w : WireFacts), w.fcsOk = true → x = s.dev.port p → x.linkUp = true → s.dev.emacAwake = true → 60 ≤ l.length → l.length + 4 ≤ s.dev.maxFrame p →
    s.dev.occupancy p 8 + l.length ≤ 524288 →
    ∃ d, Completes (.ethernetReceive p l w) s d ∧
      (d.port p).rx = x.rx ++ [(s.dev.rxPriority p l,
        { octets := l, srcKind := 0, src := p, tenant := 0, rxStamp := some (stampOf (s.now + w.at') (s.dev.pvi 0x6020 0 p)), enq := s.dev.glb.up })] ∧
      d.port p = { x with rx := (d.port p).rx, xoff := (d.port p).xoff, pauseTx := (d.port p).pauseTx } ∧
      (∀ j, j ≠ p → d.port j = s.dev.port j) ∧ d = { s.dev with emac := d.emac, counts := d.counts }) ∧
  (∀ (s : State) (p : Nat) (l : List Byte) (w : WireFacts), p < 4 → (s.dev.port p).linkUp = true → s.dev.emacAwake = true →
    (l.length < 60 ∨ s.dev.maxFrame p < l.length + 4 ∨ w.fcsOk = false) →
    ∃ d k, Completes (.ethernetReceive p l w) s d ∧ k = (if l.length < 60 then 2 else if s.dev.maxFrame p < l.length + 4 then 3 else 4) ∧
      d.counter 34 (8 * p + k) = (s.dev.counter 34 (8 * p + k) + 1) % 2 ^ 48 ∧
      d.glb = { s.dev.glb with handoffWait := s.dev.glb.handoffWait ++ [⟨s.now, .frameDrop, 0⟩] } ∧ d = { s.dev with counts := d.counts, glb := d.glb }) ∧
  (∀ (s : State) (p : Nat) (l : List Byte) (w : WireFacts), w.fcsOk = true → p < 4 → (s.dev.port p).linkUp = true → s.dev.emacAwake = true → 60 ≤ l.length → l.length + 4 ≤ s.dev.maxFrame p →
    524288 < s.dev.occupancy p 8 + l.length →
    ∃ d, Completes (.ethernetReceive p l w) s d ∧ (d.reg 0x800040).getLsbD (12 + p) = true ∧
      d = { s.dev with regs := d.regs, glb := d.glb, counts := d.counts, mgr := d.mgr }) ∧
  (∀ (s : State) (p : Nat) (l : List Byte) (w : WireFacts), (s.dev.port p).linkUp = false → Completes (.ethernetReceive p l w) s s.dev)

/-- Pause (R266 to R268): a pause frame in MODE 1 with RX_EN holds the port for its quanta of 512 bit times, quanta 0 ends the pause; an expired pause is cleared; a due repeat sends one more frame of QUANTA and sets the next half of that time later; a write of EMAC_FLOW_CTRL_p that changes MODE clears every pause timer and watch, one that does not leaves those of the classes that may still be paused (log 148); a trip of the safety net sets EMAC_INCIDENT.SAFETY_NET_p and makes its class deaf, the end of which unpauses the class with its watch at 0. -/
def Obligations.PauseAndSafetyNetComplete : Prop :=
  (∀ (s : State) (p q : Nat), (s.dev.port p).linkUp = true → (s.dev.flowCtrl p).getLsbD 28 = true → s.dev.flowMode p = 1 → s.dev.isDeaf p 8 = false →
    ∃ d, Completes (.pauseFrame p (.pause q)) s d ∧
      tlook (fun _ => 0) (d.port p).paused 8 = (if q = 0 then 0 else s.dev.glb.up + s.dev.quantaNs p q) ∧
      (d.port p).rx = (s.dev.port p).rx ∧ (d.port p).queues = (s.dev.port p).queues ∧
      (∀ j, j ≠ p → d.port j = s.dev.port j) ∧ d = { s.dev with emac := d.emac, counts := d.counts }) ∧
  (∀ (s : State) (p k : Nat), tlook (fun _ => 0) (s.dev.port p).paused k ≠ 0 → s.dev.pauseOver p k = true →
    ∃ d, Completes (.pauseExpiry p k) s d ∧ tlook (fun _ => 0) (d.port p).paused k = 0 ∧
      (∀ j, j ≠ k → tlook (fun _ => 0) (d.port p).paused j = tlook (fun _ => 0) (s.dev.port p).paused j) ∧ tlook (fun _ => 0) (d.port p).stuck k = 0 ∧
      (∀ j, j ≠ p → d.port j = s.dev.port j) ∧ d = { s.dev with emac := d.emac }) ∧
  (∀ (s : State) (p k : Nat), tlook (fun _ => 0) (s.dev.port p).xoff k ≠ 0 → tlook (fun _ => 0) (s.dev.port p).xoff k ≤ s.dev.glb.up + 1 →
    (s.dev.flowCtrl p).getLsbD 29 = true → s.dev.emacAwake = true → s.dev.xonAt p ≤ s.dev.occupancy p k →
    ∃ d, Completes (.pauseRepeat p k) s d ∧
      d.port p = { s.dev.port p with
        pauseTx := (s.dev.port p).pauseTx ++ [(k, s.dev.quanta p)]
        xoff := tput (fun _ => 0) (s.dev.port p).xoff k (s.dev.glb.up + bitsNs (s.dev.quanta p * 256) (rateOf (s.dev.port p).rateUsed) + 1) } ∧
      (∀ j, j ≠ p → d.port j = s.dev.port j) ∧ d = { s.dev with emac := d.emac }) ∧
  (∀ (s : State) (m : Master) (p : Nat) (v : Reg), m.isF0 = true →
    ∃ d, Completes (.flowCtrlWrite m p v) s d ∧ d.reg (emacAddr p 0x0C) = v &&& 0xF7FFFFFF ∧ (∀ j, j ≠ emacAddr p 0x0C → d.reg j = s.dev.reg j) ∧
      d.port p = (if rfld v 31 30 = rfld (s.dev.flowCtrl p) 31 30 then
        { s.dev.port p with
          xoff := (s.dev.port p).xoff.filter (fun e => (d.pausable p).contains e.1), paused := (s.dev.port p).paused.filter (fun e => (d.pausable p).contains e.1)
          stuck := (s.dev.port p).stuck.filter (fun e => (d.pausable p).contains e.1) } else { s.dev.port p with xoff := [], paused := [], stuck := [] }) ∧
      (∀ j, j ≠ p → d.port j = s.dev.port j) ∧ d = { s.dev with regs := d.regs, emac := d.emac }) ∧
  (∀ (s : State) (p k : Nat), p < 4 → s.dev.tripDue p k = true →
    ∃ d, Completes (.safetyNetTrip p k) s d ∧ (d.reg 0x800040).getLsbD (8 + p) = true ∧ tlook (fun _ => 0) (d.port p).stuck k = 0 ∧
      tlook (fun _ => 0) (d.port p).deaf k = s.dev.glb.up + s.dev.deafNs p + 1) ∧
  (∀ (s : State) (p k : Nat), tlook (fun _ => 0) (s.dev.port p).deaf k ≠ 0 → tlook (fun _ => 0) (s.dev.port p).deaf k ≤ s.dev.glb.up + 1 →
    ∃ d, Completes (.deafEnd p k) s d ∧ tlook (fun _ => 0) (d.port p).deaf k = 0 ∧ tlook (fun _ => 0) (d.port p).paused k = 0 ∧ tlook (fun _ => 0) (d.port p).stuck k = 0 ∧
      (d.port p).queues = (s.dev.port p).queues ∧ (∀ j, j ≠ p → d.port j = s.dev.port j) ∧ d = { s.dev with emac := d.emac })

/-- Transmission and wakes (R263, R270, R277): at a frame boundary of a running port with a link, the head frame of the highest eligible queue goes out, padded to 60 octets, ahead of nothing else of that port; a port that is sending, or that has no eligible queue, sends nothing; a wake that an enabled cause raises is recorded in EMAC_WAKE_STATUS and EMAC_INCIDENT.WAKE_p. -/
def Obligations.TransmitAndWakeComplete : Prop :=
  (∀ (s : State) (p q : Nat) (x : Pkt) (rest : List Pkt), s.dev.running = true → (s.dev.port p).linkUp = true → (s.dev.port p).busyUntil < s.dev.glb.up + 1000 →
    (∀ k, k < 8 → s.dev.queueDeaf p k = false) → q < 8 → s.dev.eligible p q = true → (∀ k, q < k → k < 8 → s.dev.eligible p k = false) →
    (s.dev.port p).queue q = x :: rest → 14 ≤ x.octets.length → x.octets.length + 4 ≤ s.dev.maxFrame p →
    ∃ d, Completes (.frameTransmit p) s d ∧ (d.port p).sent = (s.dev.port p).sent ++ [x.octets ++ List.replicate (60 - x.octets.length) 0] ∧
      (d.port p).busyUntil = s.dev.txStart p + bitsNs (8 * (Nat.max 60 x.octets.length + 24)) (rateOf (s.dev.port p).rateUsed) ∧
      (∀ j, j ≠ p → (d.port j).sent = (s.dev.port j).sent ∧ (d.port j).queues = (s.dev.port j).queues)) ∧
  (∀ (s : State) (p : Nat), (∀ k, k < 8 → s.dev.queueDeaf p k = false) →
    ((s.dev.port p).linkUp = false ∨ s.dev.glb.up + 1000 ≤ (s.dev.port p).busyUntil ∨ s.dev.running = false ∨ (∀ k, k < 8 → s.dev.eligible p k = false)) →
    Completes (.frameTransmit p) s s.dev) ∧
  (∀ (s : State) (p c k : Nat) (x : WakeFact), s.dev.wakeable = true → s.dev.wakeCause p x = some (c, k) → s.dev.emac.wakeStatus.getLsbD 31 = false →
    ∃ d, Completes (.ethernetWake p x) s d ∧ d.emac.wakeStatus = packR [(1, 1, 31), (p, 1, 8), (c, 2, 6), (k, 4, 0)] ∧ (d.reg 0x800040).getLsbD (16 + p) = true ∧
      d.emac.port = s.dev.emac.port)

/-- The router's path (R283, R292, R294, R295): a parsed frame of a host ring, with no tunnel endpoint, no ACL rule, no flow entry and no NAT, follows its tenant's longest-prefix route to a ring that holds waiting frames, where it joins the tail with the next hop's destination address and its class of service from the DSCP; without a route it enters the slow-path queue with reason 4; a frame of an Ethernet port whose VLAN has no entry is dropped and counted. A router that is not open takes nothing. -/
def Obligations.RouterFramesTakeTheirPath : Prop :=
  (∀ (s : State) (x : Pkt) (rest : List Pkt) (p : Parsed) (n g : Nat) (nh : RteEnt), s.dev.routerOpen = true → s.dev.rte.bucketReads ≤ 398 →
    s.dev.rte.ring = x :: rest → x.srcKind = 2 → x.again = false → parseFrame x.octets = .ok p → s.dev.localEp x.tenant p = none → s.dev.aclRule x.tenant 2 p = none →
    s.dev.rteFind 0 x.tenant 0 (flowKeyOf 2 p) = none → s.dev.natPool x.tenant p = false → s.dev.routeOf x.tenant p = some (n, false, false) → 2 ≤ p.ttl →
    s.dev.rteAt 3 0 n = some nh → nh.tenant = x.tenant → fld (wd nh.words 0) 59 58 = 2 → g = fld (wd nh.words 0) 57 46 → p.ipEnd - 14 ≤ fld (wd nh.words 0) 19 6 →
    fld (wd nh.words 1) 63 48 = 0xFFFF → (s.dev.ring g).owner = x.tenant → (s.dev.ring g).st = .running → (s.dev.ring g).kind = 1 → (s.dev.ring g).queue ≠ [] →
    queueOctets (s.dev.ring g).queue + x.octets.length + 8 ≤ s.dev.pv 0x6204 0 g * 1024 →
    ∃ d y, Completes (.routerFrame .ring) s d ∧ d.rte.ring = rest ∧ (d.ring g).queue = (s.dev.ring g).queue ++ [y] ∧ y.tenant = x.tenant ∧ y.tc = p.dscp / 8 ∧
      y.octets.take 6 = beBytes (fld (wd nh.words 1) 47 0) 6 ∧ (∀ j, j ≠ g → d.ring j = s.dev.ring j) ∧ d.rte.ents = s.dev.rte.ents ∧
      (d.bufFull = false → d = { s.dev with rte := d.rte, tm := d.tm, counts := d.counts, freeN := d.freeN })) ∧
  (∀ (s : State) (x : Pkt) (rest : List Pkt) (p : Parsed) (k : Nat), s.dev.routerOpen = true → s.dev.rte.bucketReads ≤ 398 →
    s.dev.rte.ring = x :: rest → x.srcKind = 2 → x.again = false → parseFrame x.octets = .ok p → s.dev.localEp x.tenant p = none → s.dev.aclRule x.tenant 2 p = none →
    s.dev.rteFind 0 x.tenant 0 (flowKeyOf 2 p) = none → s.dev.natPool x.tenant p = false → s.dev.routeOf x.tenant p = none → s.dev.slowRoom = some k →
    ∃ d, Completes (.routerFrame .ring) s d ∧ d.rte.ring = rest ∧ d.rte.slow = s.dev.rte.slow ++ [k] ∧ (d.item k).reason = 4 ∧
      (d.item k).pkt = { x with desc := none } ∧ (∀ j, j ≠ k → d.item j = s.dev.item j) ∧ d.rte.ents = s.dev.rte.ents) ∧
  (∀ (s : State) (q : Nat) (k : Nat) (x : Pkt) (rest : List (Nat × Pkt)), s.dev.routerOpen = true → s.dev.rte.bucketReads ≤ 398 →
    tlook (fun _ => []) s.dev.rte.waiting q = [] → s.dev.gaf.quiesced.testBit 1 = false → (s.dev.port q).clear = [] → (s.dev.port q).rx = (k, x) :: rest →
    (tlook (fun _ => ({} : MacsecPort)) s.dev.wcx.macsec q).en = false → x.srcKind = 0 → x.again = false → x.desc = none → s.dev.btTakes x = false → s.dev.vlanIn x = none →
    ∃ d, Completes (.routerFrame (.port q)) s d ∧ (d.port q).rx = rest ∧ d.counter 35 21 = (s.dev.counter 35 21 + 1) % 2 ^ 48 ∧
      (∀ j, j ≠ q → d.port j = s.dev.port j) ∧ d.glb = { s.dev.glb with handoffWait := s.dev.glb.handoffWait ++ [⟨s.now, .frameDrop, x.tenant⟩] } ∧
      d = { s.dev with emac := d.emac, counts := d.counts, glb := d.glb }) ∧
  (∀ (s : State) (i : Intake), s.dev.routerOpen = false → Completes (.routerFrame i) s s.dev)

/-- A frame that waits at a port's intake enters the slow-path queue as soon as it has room, first come first served, and the intake goes on (R295). The router's tables (R291, R297, R299, R300): a good write or erase is staged for the boundary and changes no entry before it; an insertion without room answers NO_RESOURCE and, for a flow, sets RTE_INCIDENT.TABLE_FULL; a read answers the entry's tenant and words; the ager stages the removal of exactly the flows that have been idle too long. -/
def Obligations.RouterIntakeAndTablesComplete : Prop :=
  (
  ∀ (s : State) (p reason k : Nat) (x : Pkt) (rest : List (Nat × Pkt)), tlook (fun _ => []) s.dev.rte.waiting p = (reason, x) :: rest → s.dev.slowRoom = some k →
    ∃ d, Completes (.intakeResume p) s d ∧ tlook (fun _ => []) d.rte.waiting p = rest ∧ d.rte.slow = s.dev.rte.slow ++ [k] ∧ (d.item k).used = true ∧
      (d.item k).reason = reason ∧ (d.item k).pkt = { x with desc := none } ∧ (∀ j, j ≠ k → d.item j = s.dev.item j) ∧
      (∀ q, q ≠ p → tlook (fun _ => []) d.rte.waiting q = tlook (fun _ => []) s.dev.rte.waiting q)) ∧
  (
  (∀ (s : State) (f : Nat) (req : List Word) (q : RteReq) (n : Nat), q = rteReq (.fn f) req → Admitted s.dev f req n → rteLenOk req n = true →
    resv (wd req 1) [(59, 57), (55, 52), (47, 32)] = false → (f ≠ 0 → fld (wd req 1) 51 48 = 0) → s.dev.rteDenied (.fn f) q true = false → rteBad q true = false →
    s.dev.rteWrong q = false → s.dev.rteFull q = false → s.dev.rteLost q = false → s.dev.claimed .table' (rteClaimNo q) = false →
    ∃ d, Completes (.rteTableWrite f req) s d ∧ Answered s.dev d s.now f req 0x640 .ok [] ∧
      d.rte = { s.dev.rte with staged := s.dev.rte.staged ++ [⟨q.tb, q.ten, q.ix, q.key, if q.erase then none else some q.ws⟩] } ∧
      d = { s.dev with rte := d.rte, fns := d.fns, counts := d.counts, claims := d.claims, freeN := d.freeN }) ∧
  (∀ (s : State) (f : Nat) (req : List Word) (q : RteReq) (n : Nat), q = rteReq (.fn f) req → Admitted s.dev f req n → rteLenOk req n = true →
    resv (wd req 1) [(59, 57), (55, 52), (47, 32)] = false → (f ≠ 0 → fld (wd req 1) 51 48 = 0) → s.dev.rteDenied (.fn f) q true = false → rteBad q true = false →
    s.dev.rteWrong q = false → s.dev.rteFull q = true →
    ∃ d, Completes (.rteTableWrite f req) s d ∧ Answered s.dev d s.now f req 0x640 .noResource [] ∧ d.rte = s.dev.rte ∧
      (q.tb = 0 → (d.reg 0x900040).getLsbD 0 = true)) ∧
  (∀ (s : State) (f : Nat) (req : List Word) (q : RteReq) (n : Nat) (e : RteEnt), q = rteReq (.fn f) req → Admitted s.dev f req n → rteLenOk req n = true →
    resv (wd req 1) [(59, 52), (47, 32)] = false → (f ≠ 0 → fld (wd req 1) 51 48 = 0) → s.dev.rteDenied (.fn f) q false = false → rteBad q false = false →
    s.dev.rteFind q.tb q.ten q.ix q.key = some e →
    ∃ d, Completes (.rteTableRead f req) s d ∧ Answered s.dev d s.now f req 0x641 .ok (packW [(e.tenant, 4, 0)] :: e.words) ∧
      d = { s.dev with fns := d.fns, counts := d.counts }) ∧
  (∀ s : State, ∃ d, Completes .ager s d ∧
    d.rte = { s.dev.rte with staged := s.dev.rte.staged ++ (s.dev.rte.ents.filter (s.dev.flowIdle (tickOf s.now))).map (fun e => ⟨0, e.tenant, e.index, rteKey 0 e.words, none⟩) } ∧
    d = { s.dev with rte := d.rte, counts := d.counts }))

/-- BSS_START and BSS_STOP (R123, R125, R126): a good start of a BSS that does not run makes it run with the fields of the request, on the least used beacon phase, its first beacon two ticks on at the earliest; a stop of a running BSS, forced or without stations, ends it and removes its stations, and a broadcast Deauthentication is due. Beacons and contention (R94, R122 to R124, R137, R138, R145, R153): an owed beacon that fits goes out with the waiting template and parameter count, and a DTIM beacon frees the held group frames; one not started by beat 1,000 is skipped and flagged; one that does not fit is not sent; a TXOP within its bounds and before the next take occupies the radio for its duration, and an MSDU that was sent and acknowledged leaves its queue. -/
def Obligations.BssAndBeaconCommandsComplete : Prop :=
  (
  (∀ (s : State) (req : List Word) (tpl : Option (List Byte)) (b k ten mld len : Nat), Admitted s.dev 0 req 5 →
    resv (wd req 1) [(63, 48)] = false → resv (wd req 2) [(63, 44), (15, 14)] = false → resv (wd req 4) [(63, 12)] = false →
    b = fld (wd req 2) 5 0 → k = fld (wd req 2) 39 24 → ten = fld (wd req 2) 43 40 → mld = fld (wd req 2) 10 6 → len = fld (wd req 4) 11 0 →
    b ≤ 47 → fld (wd req 2) 13 12 ≠ 3 → (nbit (wd req 2).toNat 11 = true → fld (wd req 2) 13 12 ≠ 0) → 1 ≤ k → k ≤ 1000 → fld (wd req 2) 23 16 ≠ 0 → len ≤ 2048 →
    fld (wd req 3) 1 0 = 0 → (mld < 16 ∨ mld = 31) → (s.dev.bssAt b).running = false →
    (mld ≠ 31 → ∀ e ∈ s.dev.otherBss b, e.2.mld = mld → radioOf e.1 ≠ radioOf b ∧ e.2.tenant = ten) →
    (∀ e ∈ s.dev.otherBss b, e.2.bssid ≠ fld (wd req 1) 47 0) → (s.dev.radio (radioOf b)).inService = true → (len = 0 ∨ tpl ≠ none) →
    ∃ d, Completes (.bssStart 0 req tpl) s d ∧ Answered s.dev d s.now 0 req 0x200 .ok [packW [(s.dev.choosePhase (radioOf b) k, 16, 0)]] ∧
      d.bssAt b = {
        running := true, bssid := fld (wd req 1) 47 0, tenant := ten, mld := mld, beaconTu := k, dtim := fld (wd req 2) 23 16
        pmf := fld (wd req 2) 13 12, beaconProt := nbit (wd req 2).toNat 11
        template := (if len = 0 then [] else ((tpl.getD []) ++ List.replicate len 0).take len)
        phase := s.dev.choosePhase (radioOf b) k, firstTick := tickOf s.now + 2, updCount := (s.dev.bssAt b).updCount
        beaconNs := s.dev.free.toNat % 1024000 } ∧
      (∀ j, j ≠ b → d.bssAt j = s.dev.bssAt j) ∧ d = { s.dev with mac := d.mac, fns := d.fns, counts := d.counts, freeN := d.freeN }) ∧
  (∀ (s : State) (req : List Word) (b : Nat), Admitted s.dev 0 req 2 → resv (wd req 1) [(63, 9), (7, 6)] = false → b = fld (wd req 1) 5 0 → b ≤ 47 →
    (s.dev.bssAt b).running = true → (nbit (wd req 1).toNat 8 = true ∨ s.dev.bssStations b = []) →
    ∃ d, Completes (.bssStop 0 req) s d ∧ Answered s.dev d s.now 0 req 0x201 .ok [] ∧ (d.bssAt b).running = false ∧ (d.bssAt b).deauth = true ∧
      (d.bssAt b).groupHeld = [] ∧ (d.bssAt b).groupQueue = [] ∧ (∀ sid ∈ s.dev.bssStations b, (d.sta sid).used = false) ∧
      (∀ j, j ≠ b → (d.bssAt j).running = (s.dev.bssAt j).running))) ∧
  (
  (∀ (s : State) (b ns : Nat) (l : List PdetRead) (x : Bss), x = s.dev.bssAt b → s.dev.beaconOwed s.now b = true → (x.beaconProt = false ∨ 3 ∈ x.enc) →
    s.dev.txopFits s.now (radioOf b) ns = true → beatOf s.now < 1000 →
    ∃ d, Completes (.beacon b ⟨ns, l⟩) s d ∧ (d.bssAt b).beacon = some (s.dev.buildBeacon s.now b) ∧ (d.bssAt b).beaconNs = ns ∧ (d.bssAt b).beaconDue = tickOf s.now + 1 ∧ (d.bssAt b).template = x.nextTemplate.getD x.template ∧
      (d.bssAt b).nextTemplate = none ∧ (d.bssAt b).updCount = (if x.updPending then (x.updCount + 1) % 16 else x.updCount) ∧
      (d.bssAt b).groupQueue = (if x.dtimCount = 0 then x.releaseGroup.groupQueue else x.groupQueue) ∧
      (d.bssAt b).groupHeld = (if x.dtimCount = 0 then [] else x.groupHeld) ∧ tlook (fun _ => 0) d.mac.txopEnd (radioOf b) = s.now + ns ∧
      (s.now, s.now + ns) ∈ d.spans (radioOf b) ∧ (∀ j, j ≠ b → d.bssAt j = s.dev.bssAt j) ∧ d.mac.sta = s.dev.mac.sta ∧
      d = { s.dev with mac := d.mac, mdm := d.mdm, fe := d.fe, counts := d.counts, freeN := d.freeN }) ∧
  (∀ (s : State) (b ns : Nat) (l : List PdetRead), (s.dev.beaconOwed s.now b = false ∨ s.dev.txopFits s.now (radioOf b) ns = false) →
    ∃ d, Completes (.beacon b ⟨ns, l⟩) s d ∧ d = { s.dev with counts := d.counts }) ∧
  (∀ (s : State) (b : Nat), s.dev.beaconOwed s.now b = true → 1000 ≤ beatOf s.now →
    ∃ d, Completes (.beaconSkipped b) s d ∧ d.bssAt b = (s.dev.bssAt b).tbtt (tickOf s.now) ∧ (d.reg 0x300040).getLsbD 3 = true ∧
      (∀ j, j ≠ b → d.bssAt j = s.dev.bssAt j) ∧ d = { s.dev with mac := d.mac, regs := d.regs, glb := d.glb, counts := d.counts, mgr := d.mgr }) ∧
  (∀ (s : State) (b ac : Nat) (x : TxopFacts), ((s.dev.bssAt b).running = true ∨ (s.dev.bssAt b).deauth = true) → s.dev.txopFits s.now (radioOf b) x.durationNs = true →
    s.dev.txopBounds s.now b ac x = true →
    ∃ d, Completes (.contentionTxop b ac x) s d ∧ tlook (fun _ => 0) d.mac.txopEnd (radioOf b) = s.now + x.durationNs ∧
      ((s.dev.bssAt b).pmf = 0 → (d.bssAt b).deauth = false) ∧
      (∀ (o : MsduOutcome) (m : Msdu), x.outcomes = [o] → ppduNo x o.sid o.id < s.dev.dataPpdus o.sid x.ppdus → x.longestNs ≤ 5484000 → (∀ y ∈ (s.dev.bssAt b).groupQueue, y.dtim = false) →
        s.dev.mayReach s.now (radioOf b) b ac o = true → o.acked = true → s.dev.outMsdu o = some m → (x.bcc.contains o.sid = true ∨ (s.dev.peer o.sid).dl = false) →
        (d.sta o.sid).queue = (s.dev.sta o.sid).queue.filter (fun y => y.id != o.id))))

/-- The station commands (R130 to R134): STA_ADD with a free AID and free addresses takes the lowest free SID, writes its record from the request and its call sheet as valid; STA_REMOVE leaves a record that is not in use, no MSDU of it that is not on the air, no kept codeword, and the SID reserved; STA_QUERY answers the record; SID_RELEASE frees exactly the SIDs removed two ticks ago or more. -/
def Obligations.StationCommandsComplete : Prop :=
  (∀ (s : State) (f : Nat) (req : List Word) (b aid addr links sid : Nat), Admitted s.dev f req 8 → staAddSpec.reserved req = false →
    b = fld (wd req 2) 48 43 → aid = fld (wd req 2) 42 32 → addr = fld (wd req 1) 47 0 → links = linkMask (fld (wd req 3) 47 0) (fld (wd req 4) 47 0) (fld (wd req 5) 47 0) →
    b ≤ 47 → (s.dev.bssAt b).running = true → (f = 0 ∨ (s.dev.bssAt b).tenant = f) → aid ≠ 0 → aid ≤ 2007 → fld (wd req 2) 25 24 ≠ 3 → fld (wd req 2) 23 20 ≤ 10 →
    links ≠ 0 → (nbit (wd req 2).toNat 55 = true → nbit (wd req 2).toNat 56 = true) →
    (nbit (wd req 2).toNat 56 = false → links = 2 ^ radioOf b ∧ (staLinks req).getD (radioOf b) 0 = addr) →
    (nbit (wd req 2).toNat 56 = true → ∀ r, r < 3 → nbit links r = true → (s.dev.bssAt b).mld ≠ 31 ∧
      ∃ e ∈ s.dev.mac.bss, e.2.running = true ∧ e.2.mld = (s.dev.bssAt b).mld ∧ radioOf e.1 = r) →
    mapBad links (fld (wd req 6) 47 24) = false → mapBad links (fld (wd req 6) 23 0) = false →
    (∀ r, r < 3 → nbits (fld (wd req 7) 23 0) (8 * r + 7) (8 * r + 5) ≤ maxBw r) →
    (∀ k ∈ staClaims (s.dev.aidSpace b) aid (addr :: (staLinks req).filter (· != 0)), s.dev.claimed .sid k = false) →
    (∀ e ∈ s.dev.mac.sta, e.2.used = true → s.dev.aidSpace e.2.bss = s.dev.aidSpace b → e.2.aid ≠ aid ∧ ∀ a ∈ e.2.addrs, a ∉ addr :: (staLinks req).filter (· != 0)) →
    s.dev.freeSid = some sid →
    ∃ d, Completes (.staAdd f req) s d ∧ Answered s.dev d s.now f req 0x210 .ok [packW [(sid, 12, 0)]] ∧
      (d.sta sid).used = true ∧ (d.sta sid).addr = addr ∧ (d.sta sid).bss = b ∧ (d.sta sid).aid = aid ∧ (d.sta sid).dlMap = fld (wd req 6) 23 0 ∧
      (d.sta sid).ulMap = fld (wd req 6) 47 24 ∧ (d.sta sid).caps = fld (wd req 7) 23 0 ∧ (d.sta sid).pmf = nbit (wd req 2).toNat 54 ∧ (d.sta sid).queue = [] ∧
      (d.callOf sid).valid = true ∧ (d.callOf sid).tenant = (s.dev.bssAt b).tenant ∧ (d.callOf sid).bss = b ∧ (d.callOf sid).links = links ∧
      (∀ j, j ≠ sid → d.sta j = s.dev.sta j ∧ d.callOf j = s.dev.callOf j) ∧
      d = { s.dev with mac := d.mac, pln := d.pln, fns := d.fns, counts := d.counts, claims := d.claims, freeN := d.freeN }) ∧
  (∀ (s : State) (f : Nat) (req : List Word) (sid : Nat), Admitted s.dev f req 2 → resv (wd req 1) [(63, 12)] = false → sid = fld (wd req 1) 11 0 →
    (s.dev.sta sid).used = true → s.dev.ownsSta (.fn f) sid = true →
    ∃ d, Completes (.staRemove f req) s d ∧ Answered s.dev d s.now f req 0x211 .ok [] ∧ (d.sta sid).used = false ∧ (d.callOf sid).valid = false ∧
      (∀ m ∈ (d.sta sid).queue, m.onAir ≠ none) ∧ (sid, tickOf s.now) ∈ d.mac.removed ∧ (∀ x ∈ d.dec.slots, x.sid ≠ sid) ∧
      (∀ j, j ≠ sid → d.sta j = s.dev.sta j)) ∧
  (∀ (s : State) (f : Nat) (req : List Word) (sid : Nat) (x : Sta) (c : CallSheet), Admitted s.dev f req 2 → resv (wd req 1) [(63, 12)] = false → sid = fld (wd req 1) 11 0 →
    x = s.dev.sta sid → c = s.dev.callOf sid → x.used = true → s.dev.ownsSta (.fn f) sid = true →
    ∃ d, Completes (.staQuery f req) s d ∧ Answered s.dev d s.now f req 0x212 .ok
        [packW [(x.addr, 48, 0)],
          packW [(sid, 12, 0), (x.uapsd, 4, 16), (x.ampduExp, 4, 20), (x.mpduMax, 2, 24), (x.aid, 11, 32), (x.bss, 6, 43), (s.dev.staTenant sid, 4, 49),
            (b2n x.retakeOffered, 1, 53), (b2n x.pmf, 1, 54), (b2n x.emlsr, 1, 55), (b2n x.mld, 1, 56), (c.links, 3, 57), (x.ps s.now, 2, 60), (b2n c.retake, 1, 62)],
          packW [(x.linkA, 48, 0)], packW [(x.linkB, 48, 0)], packW [(x.linkC, 48, 0)], packW [(x.dlMap, 24, 0), (x.ulMap, 24, 24)],
          packW [(tidMap (fun i => tlook (fun _ => 0) x.baTx i != 0), 8, 0), (tidMap (fun i => (tlook baReset x.baRx i).on), 8, 8), (x.ptk, 14, 16)]] ∧
      d = { s.dev with fns := d.fns, counts := d.counts }) ∧
  (∀ s : State, ∃ d, Completes .sidRelease s d ∧ d.mac.removed = s.dev.mac.removed.filter (fun x => !decide (x.2 + 2 ≤ tickOf s.now)) ∧
    (∀ x ∈ s.dev.mac.removed, x.2 + 2 ≤ tickOf s.now → d.sta x.1 = {}) ∧
    (∀ j, (∀ x ∈ s.dev.mac.removed, x.1 = j → tickOf s.now < x.2 + 2) → d.sta j = s.dev.sta j))

/-- Receiving in the MAC (R139, R141, R143, R149, R206): a data MPDU outside an agreement that is no repeat is delivered with its station's tenant; a repeat is not; an MPDU with a bad FCS changes nothing but the counters; a radio that does not listen receives nothing; a gap in the sequence that has waited long enough is passed over and what follows it delivered; an MSDU that has outlived its lifetime leaves its queue. -/
def Obligations.MacReceptionCompletes : Prop :=
  (∀ (s : State) (r sid tid seq : Nat) (x : RxMpdu) (m : List Byte), x.fcsOk = true → x.len ≤ 11454 → x.offset < 8388607 → (s.dev.bssAt x.bss).running = true →
    s.dev.hears r = true → (∀ y ∈ (s.dev.rx r).done, y.start ≠ x.ppdu) → radioOf x.bss = r → s.dev.sender r x.bss x.ta = some sid → x.kind = .data tid seq [m] → x.protected' = false → x.robust = false → m.length ≤ 2316 →
    (s.dev.ba sid tid).on = false →
    ∃ d, Completes (.mpduReceive r [x]) s d ∧ (d.sta sid).doze = x.pm ∧
      d.rte = (if tlook (fun _ => 0) (s.dev.sta sid).lastSeq tid = seq % 4096 + 1 then s.dev.rte
        else { s.dev.rte with wireless := s.dev.rte.wireless ++ [{ octets := m, srcKind := 1, src := sid, tenant := s.dev.staTenant sid, enq := s.now }] }) ∧
      tlook (fun _ => 0) (d.sta sid).lastSeq tid = seq % 4096 + 1 ∧ (∀ j, j ≠ sid → d.sta j = s.dev.sta j)) ∧
  (∀ (s : State) (r : Nat) (l : List RxMpdu), s.dev.hears r = false → (s.dev.rx r).done = [] → Completes (.mpduReceive r l) s s.dev) ∧
  (∀ (s : State) (r : Nat) (x : RxMpdu), r < 3 → x.fcsOk = false → s.dev.hears r = true → (s.dev.rx r).done = [] →
    ∃ d, Completes (.mpduReceive r [x]) s d ∧ d.counter (21 + r) 0 = (s.dev.counter (21 + r) 0 + 1) % 2 ^ 48 ∧
      d.glb.handoffWait = s.dev.glb.handoffWait ++ [⟨s.now, .frameDrop, (s.dev.bssAt x.bss).tenant⟩] ∧ d = { s.dev with counts := d.counts, glb := d.glb }) ∧
  (∀ (s : State) (sid tid : Nat) (h : Held), (s.dev.ba sid tid).held = [h] → h.time + s.dev.pv 0x2031 * 1000000 ≤ s.now → h.prot = false → h.seq ≠ (s.dev.ba sid tid).next → h.seq < 4096 → (s.dev.ba sid tid).next < 4096 →
    (∀ m ∈ h.msdus, m.length ≤ 2316) →
    ∃ d, Completes (.reorderTimeout sid tid) s d ∧ (d.ba sid tid).held = [] ∧ (d.ba sid tid).next = (h.seq + 1) % 4096 ∧
      d.rte.wireless = s.dev.rte.wireless ++ h.msdus.map (fun m => { octets := m, srcKind := 1, src := sid, tenant := s.dev.staTenant sid, enq := s.now })) ∧
  (∀ (s : State) (sid id : Nat) (m : Msdu), (s.dev.sta sid).queue.find? (fun y => y.id == id) = some m → m.onAir = none → (∀ r, r < 3 → (s.dev.play r).due s.now = false) →
    m.entry + s.dev.lifeNs (s.dev.staTenant sid) m.ac ≤ s.now →
    ∃ d, Completes (.lifetime sid id) s d ∧ (d.sta sid).queue = (s.dev.sta sid).queue.filter (fun y => y.id != id) ∧
      (∀ j, j ≠ sid → d.sta j = s.dev.sta j))

/-- Receptions of a modem (R152, R153, R155 to R157, R161, R163 to R165, R171): a detection above both thresholds of a radio whose correlators run starts a reception with its power as the frozen level; an L-SIG that passes marks it, one that fails ends it FALSE_DETECT; so does a DSSS detection without its SFD; a newcomer that exceeds the frozen level by the margin takes the receiver over, a weaker one is lost and counted; a foreign colour below the threshold ends it as an SR abort; its end writes one report, or one for each solicited user, and leaves the order in which the streams were taken. Every end writes its report next in the log and frees the receiver. Noise and quality (R166, R180, R181): NOISE_REPORT enters what was measured into the reports of the tick just ended and leaves every other report; MDM_NOISE_READ answers a report of one of the 64 latest ticks of a radio in service; MDM_QUALITY_READ answers the latest reports of a station of the caller. -/
def Obligations.ReceptionsAndNoiseComplete : Prop :=
  (
  (∀ (s : State) (r : Nat) (x : Detect), s.dev.correlates s.now r x.transmitting = true → (s.dev.rx r).receiving = false → s.dev.pv 0x3002 0 r ≤ x.corr → s.dev.pvi 0x3001 0 r ≤ x.power →
    (x.dsss = true → s.dev.barker r = true) →
    ∃ d, Completes (.detection r x) s d ∧
      d.rx r = { s.dev.rx r with
        receiving := true, start := s.now - x.sinceNs, detected := s.now, level := x.power, frozen := true, dsss := x.dsss, solicited := x.solicited
        lsigPassed := false, lostDb := 0, busyBeat := true, sfdAt := x.sfdNs.map (s.now + ·), gains := gainsOf x.gains, stf := none, clipAt := x.clipNs.map (s.now + ·) } ∧
      (∀ j, j ≠ r → d.rx j = s.dev.rx j) ∧ d = { s.dev with mdm := d.mdm, fe := d.fe, counts := d.counts }) ∧
  (∀ (s : State) (r : Nat) (x : Detect), (s.dev.correlates s.now r x.transmitting = false ∨ (s.dev.rx r).receiving = true ∨ x.corr < s.dev.pv 0x3002 0 r ∨ x.power < s.dev.pvi 0x3001 0 r) →
    Completes (.detection r x) s s.dev) ∧
  (∀ (s : State) (r : Nat) (x : LSig), (s.dev.rx r).receiving = true → (s.dev.rx r).dsss = false → (s.dev.rx r).lsigPassed = false →
    (s.dev.lsigFails r x = false → ∃ d, Completes (.lsigCheck r x) s d ∧ d.rx r = { s.dev.rx r with lsigPassed := true, stf := x.stf.map (fun z => ((s.dev.rx r).start + z.1, z.2)) } ∧
      (x.clipped = true → (d.reg 0x400040).getLsbD 0 = true) ∧ (∀ j, j ≠ r → d.rx j = s.dev.rx j) ∧
      d = { s.dev with mdm := d.mdm, counts := d.counts, regs := d.regs, glb := d.glb, mgr := d.mgr }) ∧
    (s.dev.lsigFails r x = true → ∃ d, Completes (.lsigCheck r x) s d ∧ (d.rx r).receiving = false ∧
      tlook (fun _ => 0) d.mdm.logCount r = tlook (fun _ => 0) s.dev.mdm.logCount r + 1 ∧
      fld (wd (tlook (fun _ => []) d.mdm.log (r * 4096 + tlook (fun _ => 0) s.dev.mdm.logCount r % 4096)) 0) 53 50 = 2)) ∧
  (∀ (s : State) (r : Nat) (bad : Bool), (s.dev.rx r).receiving = true → (s.dev.rx r).dsss = true → (bad = true ∨ (s.dev.rx r).noSfd s.now = true) →
    ∃ d, Completes (.dsssSfdTimeout r bad) s d ∧ (d.rx r).receiving = false ∧
      tlook (fun _ => 0) d.mdm.logCount r = tlook (fun _ => 0) s.dev.mdm.logCount r + 1 ∧
      fld (wd (tlook (fun _ => []) d.mdm.log (r * 4096 + tlook (fun _ => 0) s.dev.mdm.logCount r % 4096)) 0) 53 50 = 2) ∧
  (∀ (s : State) (r : Nat) (power : Int) (lsig : Option LSig) (x : Newcomer), (s.dev.rx r).receiving = true → s.dev.hears r = true → (s.dev.correlates s.now r false = true ∨ x.txStarts = true) → (x.dsss = true → s.dev.barker r = true) →
    (s.dev.captures r power x.txStarts = true → ∃ d, Completes (.capture r power lsig x) s d ∧ (d.rx r).receiving = true ∧ (d.rx r).level = power ∧ (d.rx r).frozen = true ∧
      (d.rx r).dsss = x.dsss ∧ (d.rx r).solicited = x.solicited ∧ (d.rx r).lsigPassed = false ∧ (d.rx r).start = s.now - Nat.max 1600 (Nat.min 4000 x.sinceNs) ∧
      tlook (fun _ => 0) d.mdm.logCount r = tlook (fun _ => 0) s.dev.mdm.logCount r +
        (if (s.dev.rx r).solicited = true ∧ s.dev.falseAt r lsig = false then Nat.max 1 (s.dev.tbCast s.now r).length else 1)) ∧
    (s.dev.captures r power x.txStarts = false → lsig = none → ∃ d, Completes (.capture r power lsig x) s d ∧
      d.rx r = { s.dev.rx r with lostDb := Nat.max (s.dev.rx r).lostDb (power - (s.dev.rx r).level).toNat, clipAt := (s.dev.rx r).clipAt.filter (fun k => decide (s.now < k)) } ∧
      d.counter (24 + r) 8 = (s.dev.counter (24 + r) 8 + 1) % 2 ^ 48 ∧
      d = { s.dev with mdm := d.mdm, props := d.props, force := d.force, counts := d.counts, regs := d.regs, glb := d.glb, mgr := d.mgr })) ∧
  (∀ (s : State) (r colour : Nat) (power : Int), (s.dev.rx r).receiving = true → (s.dev.rx r).solicited = false → s.dev.ownColour r colour = false →
    power < s.dev.obssPd s.now r →
    ∃ d, Completes (.srAbort r colour power) s d ∧ (d.rx r).receiving = false ∧
      tlook (fun _ => 0) d.mdm.logCount r = tlook (fun _ => 0) s.dev.mdm.logCount r + 1 ∧
      fld (wd (tlook (fun _ => []) d.mdm.log (r * 4096 + tlook (fun _ => 0) s.dev.mdm.logCount r % 4096)) 0) 53 50 = 6) ∧
  (∀ (s : State) (r : Nat) (x : RxEnd), (s.dev.rx r).receiving = true →
    ∃ d, Completes (.receptionEnd r x) s d ∧ (d.rx r).receiving = false ∧ (d.rx r).frozen = false ∧
      tlook (fun _ => 0) d.mdm.logCount r = tlook (fun _ => 0) s.dev.mdm.logCount r + (s.dev.rxUsers s.now r x.reports).length ∧
      (d.rx r).sic = (sortBy (fun k => 4096 - k.2) x.snr).map (·.1) ∧ (∃ y, (d.rx r).done.head? = some y ∧ y.start = (s.dev.rx r).start) ∧
      (x.clipped = true → (d.reg 0x400040).getLsbD 0 = true) ∧ (∀ j, j ≠ r → d.rx j = s.dev.rx j))) ∧
  (
  (∀ (s : State) (means : List NoiseMean),
    ∃ d, Completes (.noiseReport means) s d ∧ d.mdm.noise = s.dev.mdm.noise.map (fun x =>
        if x.2.tick + 1 = tickOf s.now then (x.1, x.2.fill (means.filter (fun m => m.radio == x.1))) else x) ∧
      d = { s.dev with mdm := { s.dev.mdm with noise := d.mdm.noise } }) ∧
  (∀ (s : State) (f : Nat) (req : List Word) (x : Nat × NoiseRep), Admitted s.dev f req 2 → resv (wd req 1) [(63, 50)] = false → fld (wd req 1) 49 48 ≠ 3 →
    s.dev.mdm.noise.find? (fun y => y.1 == fld (wd req 1) 49 48 && y.2.tick == fld (wd req 1) 47 0) = some x → x.2.inService = true →
    fld (wd req 1) 47 0 < tickOf s.now → tickOf s.now ≤ fld (wd req 1) 47 0 + 64 →
    ∃ d, Completes (.mdmNoiseRead f req) s d ∧ Answered s.dev d s.now f req 0x300 .ok x.2.words ∧ d = { s.dev with fns := d.fns, counts := d.counts }) ∧
  (∀ (s : State) (f : Nat) (req : List Word) (sid : Nat), Admitted s.dev f req 2 → resv (wd req 1) [(63, 12)] = false → sid = fld (wd req 1) 11 0 →
    (s.dev.sta sid).used = true → s.dev.ownsSta (.fn f) sid = true →
    ∃ d, Completes (.mdmQualityRead f req) s d ∧ Answered s.dev d s.now f req 0x301 .ok
        (packW [(sumN ((List.range 3).map (fun r => b2n (!(tlook (fun _ => []) s.dev.mdm.latest (r * 4096 + sid)).isEmpty) * 2 ^ r)), 3, 0)] ::
          (List.range 3).flatMap (fun r => (List.range 4).map (fun i => wd (tlook (fun _ => []) s.dev.mdm.latest (r * 4096 + sid)) i))) ∧
      d = { s.dev with fns := d.fns, counts := d.counts }))

/-- Codewords (R165, R171, R184 to R187, R193, R197): one that the modem hands in waits with its LLRs saturated at ±31, unless it ended after a reception that did not end OK; a codeword gets the first free core and its end is settled by its run; at its end it is reported once, with the show time of that end; one still waiting at its deadline is decided by its hard decisions; a failed codeword of an aligned PPDU whose codeword 0 passed is kept; a copy that passes with its original ends PASS_COMBINED and its slot goes when it does. Retake's retention and negotiation (R189, R194, R198, R202): at a tick boundary the slots whose window is over are released, but for one of whose combines the decode still runs; RETAKE_PEER of a station that offered Retake grants what is asked of the known directions while the tenant's property allows it, and nothing otherwise. -/
def Obligations.CodewordsAndRetakeComplete : Prop :=
  (
  (∀ (s : State) (cw : Codeword),
    (s.dev.lostTo cw.radio cw.ppdu cw.lastLlr (some cw.sid) = false → ∃ d, Completes (.codewordDecode cw) s d ∧
      d = { s.dev with dec := { s.dev.dec with waiting := s.dev.dec.waiting ++ [{ cw with llrs := cw.llrs.map (fun v => max (-31) (min 31 v)) }] } }) ∧
    (s.dev.lostTo cw.radio cw.ppdu cw.lastLlr (some cw.sid) = true → Completes (.codewordDecode cw) s s.dev)) ∧
  (∀ (s : State) (cw : Codeword) (o : CwOutcome) (n : Nat), (cw.aligned = false ∨ (s.dev.peer cw.sid).ul = false) → s.dev.cwEnd cw = (o, n) →
    (s.dev.serveCw s.now cw).dec.running = s.dev.dec.running ++
      [{ ends := s.dev.cwEnds cw n, radio := cw.radio, sid := cw.sid, code := o.code, iters := n, combined := o == .passCombined }] ∧
    (s.dev.serveCw s.now cw).dec.cores = s.dev.coresAfter cw n ∧ (s.dev.serveCw s.now cw).dec.slots = s.dev.dec.slots) ∧
  (∀ (s : State) (x : CwRun), s.dev.dec.running = [x] → x.ends ≤ s.now → x.toMac = true →
    (s.dev.landCws s.now).dec.running = [] ∧ (s.dev.landCws s.now).dec.outcomes = s.dev.dec.outcomes ++ [(x.code, x.sid)] ∧
    (s.dev.landCws s.now).glb.handoffWait = s.dev.glb.handoffWait ++ [⟨x.ends, if 2 ≤ x.code then .decodeFailure else .codewordOutcome, x.sid⟩] ∧
    (x.code = 4 → ((s.dev.landCws s.now).reg 0x500040).getLsbD 0 = true)) ∧
  (∀ (s : State) (cw : Codeword), (cw.aligned = false ∨ (s.dev.peer cw.sid).ul = false) →
    ∃ d, Completes (.decodeDeadline cw) s d ∧ d.dec.running = s.dev.dec.running ++
        [{ ends := cw.lastLlr + 6000, radio := cw.radio, sid := cw.sid, code := if cw.hardZero then 0 else 4 }] ∧
      d.dec.waiting = s.dev.dec.waiting.erase { cw with llrs := cw.llrs.map (fun v => max (-31) (min 31 v)) } ∧ d.dec.slots = s.dev.dec.slots ∧
      d.dec.cores = s.dev.dec.cores ∧ d = { s.dev with dec := d.dec }) ∧
  (∀ (s : State) (cw : Codeword) (o : CwOutcome) (n : Nat), cw.aligned = true → (s.dev.peer cw.sid).ul = true → cw.copyPsdu = false → cw.index ≠ 0 →
    s.dev.dec.passed.contains (cw.sid, cw.radio, cw.rsn) = true → s.dev.cwEnd cw = (o, n) → 2 ≤ o.code → s.dev.dec.slots.length < 524288 →
    (s.dev.serveCw s.now cw).dec.slots = s.dev.dec.slots.filter (fun x => !x.isAt cw.sid cw.rsn cw.index) ++
        [{ sid := cw.sid, rsn := cw.rsn, index := cw.index, rate := cw.rate, seed := cw.seed, expiry := tickOf cw.ppdu + 3, llrs := cw.llrs.map (fun v => max (-127) (min 127 v)) }] ∧
    (s.dev.serveCw s.now cw).dec.running = s.dev.dec.running ++
      [{ ends := s.dev.cwEnds cw n, radio := cw.radio, sid := cw.sid, code := o.code, iters := n }]) ∧
  (∀ (s : State) (cw : Codeword) (n rsn index : Nat) (x : Slot), cw.aligned = true → (s.dev.peer cw.sid).ul = true → cw.copyPsdu = true → cw.index ≠ 0 →
    s.dev.dec.bad.contains (cw.radio * 4096 + cw.sid) = false →
    copyOf (tlook (fun _ => []) s.dev.dec.maps (cw.radio * 4096 + cw.sid)) (cw.index - 1) = some (rsn, index) →
    s.dev.dec.slots.find? (fun x => x.isAt cw.sid rsn index && x.gone.isNone && decide (cw.lastLlr < x.expiry * 1024000)) = some x → x.rate = cw.rate → cw.readError = false →
    s.dev.cwEnd cw = (.pass, n) →
    (s.dev.serveCw s.now cw).dec.running = s.dev.dec.running ++
      [{ ends := s.dev.cwEnds cw n, radio := cw.radio, sid := cw.sid, code := 1, iters := n, combined := true, combine := true }] ∧
    (∀ y ∈ (s.dev.serveCw s.now cw).dec.slots, y.isAt cw.sid rsn index = true → y.gone = some (s.dev.cwEnds cw n)) ∧
    (∀ t, s.dev.cwEnds cw n ≤ t → ∀ y ∈ ((s.dev.serveCw s.now cw).landCws t).dec.slots, y.isAt cw.sid rsn index = false)) ∧
  (∀ (s : State) (cw : Codeword) (o : CwOutcome) (n rsn index : Nat) (x : Slot), cw.aligned = true → (s.dev.peer cw.sid).ul = true → cw.copyPsdu = true → cw.index ≠ 0 →
    s.dev.dec.bad.contains (cw.radio * 4096 + cw.sid) = false →
    copyOf (tlook (fun _ => []) s.dev.dec.maps (cw.radio * 4096 + cw.sid)) (cw.index - 1) = some (rsn, index) →
    s.dev.dec.slots.find? (fun x => x.isAt cw.sid rsn index && x.gone.isNone && decide (cw.lastLlr < x.expiry * 1024000)) = some x → x.rate = cw.rate → cw.readError = false →
    s.dev.cwEnd cw = (o, n) → o ≠ .pass →
    (s.dev.serveCw s.now cw).dec.running = s.dev.dec.running ++
      [{ ends := s.dev.cwEnds cw n, radio := cw.radio, sid := cw.sid, code := o.code, iters := n, combined := o == .passCombined, combine := true }] ∧
    { x with combines := x.combines + 1, llrs := addLlrs x.llrs cw.llrs, busy := some (s.dev.cwEnds cw n) } ∈ (s.dev.serveCw s.now cw).dec.slots)) ∧
  (
  (∀ s : State, ∃ d, Completes .retakeExpired s d ∧
    d.dec = { s.dev.dec with slots := s.dev.dec.slots.filter (fun x => !(x.gone.isNone && decide (x.expiry ≤ tickOf s.now) && !x.busy.any (fun k => decide (s.now < k)))) } ∧
    d = { s.dev with dec := d.dec, props := d.props, force := d.force }) ∧
  (∀ (s : State) (f : Nat) (req : List Word) (sid : Nat), Admitted s.dev f req 3 → resv (wd req 1) [(63, 12)] = false → resv (wd req 2) [(63, 40), (28, 16)] = false →
    sid = fld (wd req 1) 11 0 → (s.dev.sta sid).used = true → s.dev.ownsSta (.fn f) sid = true → fld (wd req 2) 39 32 = 1 →
    (nbit (wd req 2).toNat 31 = true ∨ nbit (wd req 2).toNat 30 = true) → (s.dev.sta sid).retakeOffered = true → (s.dev.peer sid).accepted = false →
    (s.dev.pv 0x3060 (s.dev.staTenant sid) = 0 → ∃ d, Completes (.retakePeer f req) s d ∧ Answered s.dev d s.now f req 0x310 .ok [0] ∧
      d = { s.dev with fns := d.fns, counts := d.counts }) ∧
    (s.dev.pv 0x3060 (s.dev.staTenant sid) ≠ 0 → ∃ d, Completes (.retakePeer f req) s d ∧
      Answered s.dev d s.now f req 0x310 .ok [packW [(b2n (nbit (wd req 2).toNat 31), 1, 0), (b2n (nbit (wd req 2).toNat 30), 1, 1),
        (b2n (nbit (wd req 2).toNat 31 && nbit (wd req 2).toNat 29), 1, 2)]] ∧
      d.peer sid = { accepted := true, ul := nbit (wd req 2).toNat 30, dl := nbit (wd req 2).toNat 31, cross := nbit (wd req 2).toNat 31 && nbit (wd req 2).toNat 29, retainCw := fld (wd req 2) 15 0 } ∧
      d.callOf sid = { s.dev.callOf sid with retake := true } ∧ (∀ j, j ≠ sid → d.peer j = s.dev.peer j ∧ d.callOf j = s.dev.callOf j) ∧
      d = { s.dev with dec := d.dec, pln := d.pln, fns := d.fns, counts := d.counts })))

/-- Drafting (R76, R77, R88, R103): DRAFT_OPEN lets this tick's locked sheets play and leaves in each slot of two ticks on a DRAFTING sheet for that tick under the published budget; a second one without drafts in the same tick changes nothing; the final pass makes every drafted sheet of the next tick READY with no empty cast, and leaves a starved radio's sheet as it was. -/
def Obligations.DraftsAndFinalPassComplete : Prop :=
  (∀ (s : State) (drafts : List Draft), s.dev.pln.opened ≠ tickOf s.now + 1 → ∃ d, Completes (.draftOpen drafts) s d ∧ d.pln.opened = tickOf s.now + 1 ∧
    (∀ r, r < 3 → (d.sheet r (tickOf s.now + 2)).state = .drafting ∧ (d.sheet r (tickOf s.now + 2)).tick = (tickOf s.now + 2) % 2 ^ 48 ∧
      (d.sheet r (tickOf s.now + 2)).budgetUj = s.dev.pln.budget ∧ (d.sheet r (tickOf s.now + 2)).coord = s.dev.coordinatingFor (tickOf s.now + 2)) ∧
    (∀ r, r < 3 → (s.dev.sheet r (tickOf s.now)).state = .locked → (s.dev.sheet r (tickOf s.now)).tick = tickOf s.now → (d.sheet r (tickOf s.now)).state = .playing)) ∧
  (∀ s : State, s.dev.pln.opened = tickOf s.now + 1 → Completes (.draftOpen []) s s.dev) ∧
  (∀ (s : State) (starved : List Nat), ∃ d, Completes (.finalPass starved) s d ∧ d.bt.finalTick = tickOf s.now + 1 ∧
    (∀ r, r < 3 → (s.dev.sheet r (tickOf s.now + 1)).state = .drafting → (s.dev.sheet r (tickOf s.now + 1)).tick = tickOf s.now + 1 → starved.contains r = false →
      (d.sheet r (tickOf s.now + 1)).state = .ready ∧
      ∀ k, k < (d.sheet r (tickOf s.now + 1)).takeCount → ((d.sheet r (tickOf s.now + 1)).take k).castCount ≠ 0) ∧
    (∀ r, r < 3 → ((s.dev.sheet r (tickOf s.now + 1)).state ≠ .drafting ∨ (s.dev.sheet r (tickOf s.now + 1)).tick ≠ tickOf s.now + 1 ∨ starved.contains r = true) →
      d.sheet r (tickOf s.now + 1) = s.dev.sheet r (tickOf s.now + 1)))

/-- Picture lock (R86, R102, R104): it leaves every radio's sheet of the next tick LOCKED or DARK; the locked sheets hold at most 1,024 allocations in all and cost together no more than the budget that stood at the lock; a held revision is published. -/
def Obligations.PictureLockBoundsAndCompletes : Prop :=
  ∀ s : State, ∃ d, Completes .pictureLock s d ∧
    (∀ r, r < 3 → (d.sheet r (tickOf s.now + 1)).state = .locked ∨ (d.sheet r (tickOf s.now + 1)).state = .dark) ∧
    sumN ((List.range 3).map (fun r => if (d.sheet r (tickOf s.now + 1)).state = .locked then (d.sheet r (tickOf s.now + 1)).allocs else 0)) ≤ 1024 ∧
    sumN ((List.range 3).map (fun r => if (d.sheet r (tickOf s.now + 1)).state = .locked then (d.sheet r (tickOf s.now + 1)).costNj else 0)) ≤ 1000 * s.dev.pln.budget ∧
    d.pln.lockTick = (tickOf s.now + 1) % 2 ^ 48 ∧ d.pln.budget = s.dev.pln.heldRevision.getD s.dev.pln.budget ∧ d.pln.heldRevision = none

/-- The play of takes (R92, R93, R95 to R98, R100, R101): at its ES an idle radio's next take with something to send contends, and one with nothing completes EMPTY; a contending take that wins the medium between ES and the end of LS goes on the air; its end is recorded with what the air showed; a take that lets LS pass is recorded MISSED, or UNLOCKED when its synthesiser has no lock; one on the air at beat 1,000 is cut and flagged. The planner's mailbox commands (R115 to R118): PLN_STATUS answers the last lock, the budget and the last tick's outcomes; PLN_FORCE_DARK in time forces the named radios dark for COUNT ticks from its tick on and cuts their older forcing there; PLN_SHEET_READ answers the words of a locked sheet and PLN_TAKE_LOG the records of one of the 64 last ticks. -/
def Obligations.TakesAndPlannerCommandsComplete : Prop :=
  (
  (∀ (s : State) (r k : Nat) (x : Sheet), r < 3 → s.dev.curTake s.now r = some (x, k) → (s.dev.play r).phase = .idle → tickStart s.now + (x.take k).es * 1000 ≤ s.now →
    ((∃ e ∈ x.castOf k, s.dev.gone e.sid = false ∧ s.dev.entryLive s.now r (x.take k).kind e = true) →
      ∃ d, Completes (.takeContend r) s d ∧ (d.play r).phase = .contending ∧ (d.play r).cur = k ∧ d.pln.log = s.dev.pln.log ∧
        d = { s.dev with pln := d.pln }) ∧
    ((∀ e ∈ x.castOf k, s.dev.gone e.sid = true ∨ s.dev.entryLive s.now r (x.take k).kind e = false) →
      ∃ d y, Completes (.takeContend r) s d ∧ y ∈ d.pln.log ∧ y.tick = tickOf s.now ∧ y.radio = r ∧ y.take = k ∧ y.code = 5 ∧ y.sent = 0)) ∧
  (∀ (s : State) (r k : Nat) (x : Sheet) (facts : TakeStartFacts), s.dev.curTake s.now r = some (x, k) → (s.dev.play r).phase = .contending → s.dev.mayTransmit r = true →
    (s.dev.rx r).receiving = false → tickStart s.now + (x.take k).es * 1000 ≤ s.now → s.now ≤ tickStart s.now + ((x.take k).ls + 1) * 1000 →
    tlook (fun _ => 0) s.dev.mac.txopEnd r ≤ s.now → s.now + Nat.max 1 facts.airNs ≤ tickStart s.now + 1000000 →
    ((∃ e ∈ x.castOf k, s.dev.gone e.sid = false ∧ s.dev.entryLive s.now r (x.take k).kind e = true) →
      ∃ d, Completes (.takeStart r facts) s d ∧ (d.play r).phase = .onAir ∧ (d.play r).startBeat = beatOf s.now ∧ (d.play r).cur = (s.dev.play r).cur ∧
        (d.play r).mask = (x.take k).chainMask % 65536 ∧
        (d.play r).weights = s.dev.mdm.weights.find? (fun w => w.radio == r && w.tick == tickOf s.now && w.take == k) ∧
        ((x.take k).kind = 3 → (tlook (fun _ => {}) d.mdm.sounding r).ltfs = popcount (x.take k).chainMask 16 ∧ (tlook (fun _ => {}) d.mdm.sounding r).bw = (x.take k).bw) ∧
        (∀ j, j ≠ r → d.play j = s.dev.play j) ∧ d.pln.log = s.dev.pln.log) ∧
    ((∀ e ∈ x.castOf k, s.dev.gone e.sid = true ∨ s.dev.entryLive s.now r (x.take k).kind e = false) →
      ∃ d y, Completes (.takeStart r facts) s d ∧ y ∈ d.pln.log ∧ y.tick = tickOf s.now ∧ y.radio = r ∧ y.take = k ∧ y.code = 5 ∧ y.sent = 0 ∧ y.endBeat = (s.dev.play r).contendBeat)) ∧
  (∀ (s : State) (r k : Nat) (x : Sheet) (f : TakeFacts), s.dev.curTake s.now r = some (x, k) → (s.dev.play r).phase = .onAir →
    ∃ d, Completes (.takeCompletion r f) s d ∧
      (⟨tickOf s.now, r, k, 0, Nat.min 255 f.sent, Nat.min 255 f.abandoned, usersServed (x.castOf k) f, (s.dev.play r).startBeat, beatOf s.now⟩ : TakeLogRec) ∈ d.pln.log ∧
      (⟨s.now, .takeCompletion, 16 * r + k⟩ : Handoff) ∈ d.glb.handoffWait) ∧
  (∀ (s : State) (r k : Nat) (x : Sheet), s.dev.pastLs s.now r = some (x, k) →
    ∃ d y, Completes (.missedCue r) s d ∧ y ∈ d.pln.log ∧ y.tick = tickOf s.now ∧ y.radio = r ∧ y.take = k ∧ y.code = 1 ∧ y.sent = 0 ∧ y.startBeat = 0x3FF ∧
      y.endBeat = max (x.take k).ls (s.dev.play r).lastEnd ∧ (⟨s.now, .missedCue, 16 * r + k⟩ : Handoff) ∈ d.glb.handoffWait) ∧
  (∀ (s : State) (r k : Nat) (x : Sheet) (f : TakeFacts), s.dev.curTake s.now r = some (x, k) → (s.dev.play r).phase = .onAir → 1000 ≤ beatOf s.now →
    ∃ d, Completes (.overrunCut r f) s d ∧
      (⟨tickOf s.now, r, k, 2, Nat.min 255 f.sent, Nat.min 255 f.abandoned, usersServed (x.castOf k) f, (s.dev.play r).startBeat, beatOf s.now⟩ : TakeLogRec) ∈ d.pln.log ∧
      (d.reg 0x200040).getLsbD 6 = true) ∧
  (∀ (s : State) (r k : Nat) (x : Sheet), s.dev.pastLs s.now r = some (x, k) → (s.dev.radio r).synth ≠ .locked →
    ∃ d y, Completes (.unlocked r) s d ∧ y ∈ d.pln.log ∧ y.tick = tickOf s.now ∧ y.radio = r ∧ y.take = k ∧ y.code = 3 ∧ y.sent = 0 ∧ y.startBeat = 0x3FF ∧
      (d.reg 0x600040).getLsbD 1 = true)) ∧
  (
  (∀ (s : State) (f : Nat) (req : List Word) (n : (Nat → Bool) → Nat), Admitted s.dev f req 1 →
    n = (fun p => ((s.dev.pln.log.filter (fun x => x.tick + 1 == tickOf s.now)).filter (fun x => p x.code)).length) →
    ∃ d, Completes (.plnStatus f req) s d ∧ Answered s.dev d s.now f req 0x100 .ok [packW [(s.dev.pln.lockTick, 48, 0)], packW [(s.dev.pln.lockStatus.toNat, 32, 0)],
        packW [(s.dev.pln.budget, 32, 0), ((s.dev.pln.lockCost + 999) / 1000, 32, 32)],
        packW [(n (· == 0), 8, 0), (n (· == 1), 8, 8), (n (· == 2), 8, 16), (n (fun c => decide (3 ≤ c)), 8, 24)]] ∧
      d = { s.dev with fns := d.fns, counts := d.counts }) ∧
  (∀ (s : State) (req : List Word) (first radios count : Nat), Admitted s.dev 0 req 3 → resv (wd req 1) [(63, 48)] = false → resv (wd req 2) [(63, 19)] = false →
    first = fld (wd req 1) 47 0 → radios = fld (wd req 2) 18 16 → count = fld (wd req 2) 15 0 → radios ≠ 0 → lockPassed s.now first = false →
    ∃ d, Completes (.plnForceDark 0 req) s d ∧ Answered s.dev d s.now 0 req 0x110 .ok [] ∧
      d.pln = { s.dev.pln with forced := s.dev.pln.forced.filterMap (cutForced radios first) ++
        (if count = 0 then [] else ((List.range 3).filter (fun r => nbit radios r)).map (fun r => { radio := r, first := first, count := count })) } ∧
      d = { s.dev with pln := d.pln, fns := d.fns, counts := d.counts }) ∧
  (∀ (s : State) (req : List Word) (part r : Nat) (x : Sheet), Admitted s.dev 0 req 2 → resv (wd req 1) [(63, 55)] = false → part = fld (wd req 1) 54 50 →
    r = fld (wd req 1) 49 48 → r ≠ 3 → x = s.dev.sheet r (fld (wd req 1) 47 0) → x.tick = fld (wd req 1) 47 0 →
    (x.state = .locked ∨ x.state = .playing ∨ (x.state = .dark ∧ part = 0)) → (part ≠ 0 → part ≤ x.takeCount) →
    ∃ d, Completes (.plnSheetRead 0 req) s d ∧ Answered s.dev d s.now 0 req 0x120 .ok
        (if part = 0 then x.header r ++ (if x.state = .dark then [] else (List.range x.takeCount).flatMap x.takeWords) else (x.castOf (part - 1)).map castWord) ∧
      d = { s.dev with fns := d.fns, counts := d.counts }) ∧
  (∀ (s : State) (req : List Word) (tick : Nat), Admitted s.dev 0 req 2 → resv (wd req 1) [(63, 48)] = false → tick = fld (wd req 1) 47 0 → tick < tickOf s.now →
    tickOf s.now ≤ tick + 64 →
    ∃ d, Completes (.plnTakeLog 0 req) s d ∧
      Answered s.dev d s.now 0 req 0x130 .ok ((sortBy (fun x => 16 * x.radio + x.take) (s.dev.pln.log.filter (fun x => x.tick == tick))).flatMap logRecWords) ∧
      d = { s.dev with fns := d.fns, counts := d.counts }))

/-- The budget and the safety actions (R377 to R381): a publication sets PLN_BUDGET to the value of R377 for the next tick, 0 under a thermal hold; a revision in time, after a move of REVISE_C, does the same with present temperatures; a trip holds the budget at 0 and flags it; a current at its limit and a power above the cap revise the budget and flag themselves; 64 cool ticks end the hold; a critical temperature takes D2 to D11 off and asks for the warm reset. The performance levels (R373 to R375, R379): a rise by one step asks for its voltage at beat 768, switches at the tick boundary, and is given up at beat 1,000 when the rail has not followed; a fall switches first, one step at a time but for the trip's drop to P5, and asks for its voltage at beat 8; the move from the house oscillator goes to its target in one change. -/
def Obligations.BudgetSafetyAndLevelsComplete : Prop :=
  (
  (∀ (s : State) (x : Option Readings) (e : Dev) (b : Nat × Nat) (v : Nat), e = (match x with | some y => s.dev.sense y | none => s.dev) →
    b = e.budgetFor e.gaf.pMeas e.hottest (fun k => tlook (fun _ => 0) e.gaf.meanMa k) (e.reserve e.gaf.pMeas (e.costOf (tickOf s.now - 1))) →
    v = (if s.dev.gaf.zeroHold then 0 else b.1 % 2 ^ 32) →
    ∃ d, Completes (.budgetPublish x) s d ∧ d.pln.budget = v ∧ d.pln.heldRevision = none ∧
      d.gaf.budget = { tick := tickOf s.now + 1, value := v, tUsed := e.hottest, pMeas := e.gaf.pMeas, reserve := e.reserve e.gaf.pMeas (e.costOf (tickOf s.now - 1)), term := b.2, made := true }) ∧
  (∀ (s : State) (x : Readings) (e : Dev), e = s.dev.sense x → s.dev.gaf.budget.made = true → s.dev.gaf.budget.tick = tickOf s.now + 1 → 256 ≤ beatOf s.now → beatOf s.now ≤ 864 →
    s.dev.pv 0x9008 ≤ (e.hottest - s.dev.gaf.budget.tUsed).natAbs → s.dev.gaf.zeroHold = false →
    ∃ d, Completes (.budgetRevision x) s d ∧ d.gaf.budget.tUsed = e.hottest ∧
      d.pln.budget = (e.budgetFor e.gaf.budget.pMeas e.hottest (fun k => tlook (fun _ => 0) e.gaf.meanMa k) e.gaf.budget.reserve).1 % 2 ^ 32) ∧
  (∀ (s : State) (sensor : Nat) (temp : Int), (s.dev.pv 0x9005 : Int) ≤ temp →
    ∃ d, Completes (.thermalTrip sensor temp) s d ∧ d.gaf.zeroHold = true ∧ (d.reg 0xF00040).getLsbD 12 = true ∧
      (s.dev.lockAhead s.now = false → d.pln.budget = 0) ∧ (s.dev.lockAhead s.now = true → d.pln.heldRevision = some 0 ∧ d.pln.budget = s.dev.pln.budget)) ∧
  (∀ (s : State) (k ma : Nat), s.dev.pv 0x9002 0 k ≠ 0 → s.dev.pv 0x9002 0 k ≤ ma →
    ∃ d, Completes (.supplyCurrentLimit k ma) s d ∧ k ∈ d.gaf.overs ∧ (d.reg 0xF00040).getLsbD 13 = true ∧
      (s.dev.lockAhead s.now = false → d.pln.budget = (s.dev.sense { milliamps := [(k, ma)] }).budgetNow s.now)) ∧
  (∀ s : State, s.dev.pv 0x9001 < s.dev.gaf.pMeas →
    ∃ d, Completes .hostPowerCapBreach s d ∧ (d.reg 0xF00040).getLsbD 14 = true ∧ (s.dev.lockAhead s.now = false → d.pln.budget = s.dev.budgetNow s.now)) ∧
  (∀ s : State, s.dev.gaf.zeroHold = true → 64 ≤ s.dev.gaf.coolTicks →
    ∃ d, Completes .thermalHoldEnd s d ∧ d = { s.dev with gaf := { s.dev.gaf with zeroHold := false, coolTicks := 0, raiseTicks := 0, zeroRun := 0 } }) ∧
  (∀ (s : State) (sensor : Nat), ∃ d, Completes (.criticalTemperature sensor) s d ∧ d.gaf.crit = true ∧ d.running = false ∧
    d.mgr.waitReset = some (waitWith s.dev.mgr.waitReset .critical) ∧ (d.reg 0xF00040).getLsbD 16 = true)) ∧
  (
  (∀ (s : State) (mv : Option Nat), s.dev.gaf.raise = none → beatOf s.now = 768 → s.dev.gaf.level ≤ 5 → s.dev.pv 0x9010 < s.dev.gaf.level → s.dev.pv 0x9012 ≤ s.dev.gaf.raiseTicks →
    s.dev.gaf.zeroHold = false → s.dev.gaf.tripDrop = false →
    ∃ d, Completes (.levelRaise mv) s d ∧ d = { s.dev with gaf := { s.dev.gaf with
      raise := some { target := s.dev.gaf.level - 1, oldVid := s.dev.gaf.vid, pll := false, tick := tickOf s.now + 1 }, vid := levelVid (s.dev.gaf.level - 1), raiseTicks := 0 } }) ∧
  (∀ (s : State) (mv : Option Nat) (m : LevelMove), s.dev.gaf.raise = some m → m.pll = false → m.tick ≤ tickOf s.now → beatOf s.now = 0 →
    ∃ d, Completes (.levelRaise mv) s d ∧ d.gaf = { s.dev.gaf with raise := none, level := m.target } ∧ d = { s.dev with gaf := d.gaf, counts := d.counts }) ∧
  (∀ (s : State) (mv : Nat) (m : LevelMove), s.dev.gaf.raise = some m → m.pll = false → beatOf s.now = 1000 → mv < 600 + 5 * s.dev.gaf.vid - 10 →
    ∃ d, Completes (.levelRaise (some mv)) s d ∧ d.gaf = { s.dev.gaf with raise := none, vid := m.oldVid, raiseTicks := 0 } ∧ (d.reg 0xF00040).getLsbD 11 = true) ∧
  (∀ s : State, beatOf s.now = 0 → s.dev.gaf.tripDrop = true →
    ∃ d, Completes .levelLower s d ∧ d.gaf.level = 5 ∧ d.gaf.lowerVid = some 0 ∧ d.gaf.tripDrop = false ∧ d.gaf.raise = none) ∧
  (∀ s : State, beatOf s.now = 0 → s.dev.gaf.tripDrop = false → s.dev.gaf.level < 5 → s.dev.pv 0x9011 ≤ s.dev.gaf.zeroRun →
    ∃ d, Completes .levelLower s d ∧ d.gaf.level = s.dev.gaf.level + 1 ∧ d.gaf.lowerVid = some (levelVid (s.dev.gaf.level + 1)) ∧ d.gaf.zeroRun = 0 ∧
      (d.reg 0xF00040).getLsbD 15 = true) ∧
  (∀ (s : State) (v : Nat), beatOf s.now = 8 → s.dev.gaf.lowerVid = some v →
    ∃ d, Completes .levelLower s d ∧ d = { s.dev with gaf := { s.dev.gaf with vid := v, lowerVid := none } }) ∧
  (∀ (s : State) (mv : Option Nat) (lv : Nat), s.dev.gaf.raise = none → s.dev.gaf.pllTarget = some lv → s.dev.gaf.level = 7 → beatOf s.now = 0 →
    levelVid (Nat.max lv (s.dev.pv 0x9010)) ≤ s.dev.gaf.vid →
    ∃ d, Completes (.pllMove mv) s d ∧ d = { s.dev with gaf := { s.dev.gaf with
      level := Nat.max lv (s.dev.pv 0x9010), pllTarget := none, lowerVid := some (levelVid (Nat.max lv (s.dev.pv 0x9010))) } }))

/-- Power states (R383 to R390, R397): a request in Show with none in progress has PENDING and starts its poll, one for Show itself is answered done, one that comes meanwhile waits; an agreeing voter is noted and quiesces after those before it, a refusing one and a late one roll the poll back and are named; a poll with every voter quiet commits, and the committed entry reaches its state after its time. Wakes and the way back to Show (R387 to R389, R398): WAKE_IN_N while it is enabled and the alarm at its tick make a sleeping device leave; after the time of leaving the device is in Show, from Blackout on the house oscillator; GAF_STATUS answers the state, the measurements and the budget; the request that waited starts once none is in progress (R390). -/
def Obligations.PowerStatesComplete : Prop :=
  (
  (∀ (s : State) (req : List Word) (target alarm : Nat), Admitted s.dev 0 req 3 → resv (wd req 1) [(63, 2)] = false → resv (wd req 2) [(63, 48)] = false →
    target = fld (wd req 1) 1 0 → alarm = fld (wd req 2) 47 0 → s.dev.claimed .power 0 = false → (alarm = 0 ∨ tickOf s.now + 3 ≤ alarm) →
    ((target = 1 ∨ target = 2) → s.dev.powerIdle = true → ∃ d, Completes (.gafStateSet 0 req) s d ∧ Answered s.dev d s.now 0 req 0x900 .pending [] ∧
      d.gaf = { s.dev.gaf with phase := .poll, req := some { target := target, wakeTick := alarm, pend := some ⟨.fn 0, reqTag req, 0x900⟩ }, agreed := 0, quiesced := 0, phaseAt := s.dev.glb.up, alarm := alarm, noted := false } ∧
      d = { s.dev with gaf := d.gaf, fns := d.fns, counts := d.counts, claims := d.claims }) ∧
    (target = 0 → alarm = 0 → s.dev.powerIdle = true → ∃ d, Completes (.gafStateSet 0 req) s d ∧ d.gaf = s.dev.gaf ∧
      (d.fn 0).waiting = (s.dev.fn 0).waiting ++ [⟨[respHeader (reqTag req) 1 6 0x900], false, beatNo s.now⟩, ⟨[respHeader (reqTag req) 2 0 0x900, 0], true, beatNo s.now⟩]) ∧
    (target ≠ 3 → (alarm ≠ 0 → target ≠ 0) → s.dev.powerIdle = false → s.dev.gaf.waiting = none → ∃ d, Completes (.gafStateSet 0 req) s d ∧
      Answered s.dev d s.now 0 req 0x900 .pending [] ∧
      d.gaf = { s.dev.gaf with waiting := some { target := target, wakeTick := alarm, pend := some ⟨.fn 0, reqTag req, 0x900⟩ } })) ∧
  (∀ (s : State) (k : Nat), k ≤ 9 → s.dev.gaf.phase = .poll → s.dev.agrees k = true →
    ∃ d, Completes (.vote k) s d ∧ d = { s.dev with gaf := { s.dev.gaf with
      agreed := s.dev.gaf.agreed ||| 2 ^ k, quiesced := if s.dev.gaf.quiesced % 2 ^ k = 2 ^ k - 1 then s.dev.gaf.quiesced ||| 2 ^ k else s.dev.gaf.quiesced } }) ∧
  (∀ (s : State) (k : Nat), k ≤ 9 → k ≠ 5 → s.dev.gaf.phase = .poll → s.dev.agrees k = false →
    ∃ d, Completes (.vote k) s d ∧ d.gaf = { s.dev.gaf with phase := .rollback, quiesced := 0, phaseAt := s.dev.glb.up, outcome := 1, voter := k } ∧
      (d.reg 0xF00040).getLsbD k = true) ∧
  (∀ (s : State) (k : Nat), s.dev.gaf.phase = .poll → s.dev.gaf.phaseAt + 2048000 ≤ s.dev.glb.up → k ≤ 9 → nbit s.dev.gaf.agreed k = false →
    (∀ j, j < k → nbit s.dev.gaf.agreed j = true) →
    ∃ d, Completes .voteTimeout s d ∧ d.gaf = { s.dev.gaf with phase := .rollback, quiesced := 0, phaseAt := s.dev.glb.up, outcome := 2, voter := k } ∧
      (d.reg 0xF00040).getLsbD 10 = true) ∧
  (∀ s : State, s.dev.gaf.phase = .poll → s.dev.gaf.quiesced = 0x3FF →
    ∃ d, Completes .stateReached s d ∧
      d.gaf = { s.dev.gaf with phase := .committed, phaseAt := s.dev.glb.up, req := s.dev.gaf.req.map (fun r => { r with pend := none }) }) ∧
  (∀ (s : State) (r : PowerReq), s.dev.gaf.phase = .committed → s.dev.gaf.req = some r → s.dev.gaf.phaseAt + entryNs r.target ≤ s.dev.glb.up →
    ∃ d, Completes .stateReached s d ∧ d.gaf.phase = .idle ∧ d.gaf.state = (if r.target = 1 then .interval else .blackout) ∧ d.gaf.req = none) ∧
  (∀ s : State, s.dev.gaf.phase = .rollback → s.dev.gaf.phaseAt + 2000 ≤ s.dev.glb.up →
    ∃ d, Completes .stateReached s d ∧ d.gaf = { s.dev.gaf with phase := .idle, req := none, agreed := 0, quiesced := 0 })) ∧
  (
  (∀ s : State, s.dev.pv 0x9020 = 1 → s.dev.gaf.phase = .idle → s.dev.gaf.state ≠ .show' → s.dev.gaf.wakeStatus.getLsbD 31 = false →
    ∃ d, Completes .wakeInN s d ∧ d.gaf = { s.dev.gaf with phase := .leaving, phaseAt := s.dev.glb.up, wakeStatus := packR [(1, 3, 0), (0, 4, 8), (1, 1, 31)], wakeBeat := beatNo s.dev.glb.up + 1 }) ∧
  (∀ s : State, s.dev.gaf.alarm ≠ 0 → s.dev.gaf.alarm ≤ tickOf s.now → s.dev.gaf.phase = .idle → s.dev.gaf.state ≠ .show' →
    ∃ d, Completes .tickAlarm s d ∧ d.gaf.alarm = 0 ∧ d.gaf.phase = .leaving ∧ d.gaf.phaseAt = s.dev.glb.up ∧ d.gaf.state = s.dev.gaf.state) ∧
  (∀ s : State, s.dev.gaf.phase = .leaving → s.dev.gaf.phaseAt + exitNs s.dev.gaf.state ≤ s.dev.glb.up → s.dev.gaf.waiting = none →
    ∃ d, Completes .showReached s d ∧ d.gaf.state = .show' ∧ d.gaf.phase = .idle ∧ d.gaf.quiesced = 0 ∧ d.gaf.alarm = 0 ∧
      (s.dev.gaf.state = .blackout → d.gaf.level = 7 ∧ d.gaf.pllTarget = some (if s.dev.gaf.beforeBlackout = 7 then 0 else s.dev.gaf.beforeBlackout)) ∧
      (s.dev.gaf.state ≠ .blackout → d.gaf.level = s.dev.gaf.level) ∧ d = { s.dev with gaf := d.gaf, fe := d.fe }) ∧
  (∀ (s : State) (f : Nat) (req : List Word), Admitted s.dev f req 1 →
    ∃ d, Completes (.gafStatus f req) s d ∧ Answered s.dev d s.now f req 0x901 .ok
        [packW [(s.dev.gafState.toNat, 32, 0), (s.dev.gafMeasure.toNat, 32, 32)], packW [(s.dev.gaf.budget.tick, 48, 0)], packW [(s.dev.gaf.budget.value, 32, 0)]] ∧
      d = { s.dev with fns := d.fns, counts := d.counts }) ∧
  (∀ (s : State) (r : PowerReq), s.dev.gaf.phase = .idle → s.dev.gaf.state = .show' → s.dev.gaf.noted = false → s.dev.gaf.waiting = some r → r.target ≠ 0 →
    ∃ d, Completes .stateReached s d ∧ d = { s.dev with gaf := { s.dev.gaf with
      waiting := none, phase := .poll, req := some r, agreed := 0, quiesced := 0, phaseAt := s.dev.glb.up, alarm := r.wakeTick } }))

/-- Synthesisers (R205 to R210, R228, R229): a started radio leaves OFF at its tick on its stored channel; it locks within its limit while the reference runs, and with a calibration owed it calibrates; a pass without lock starts again, the fourth failure is FAULT; a loss of lock settles anew and is flagged, for every radio when the 40 MHz reference goes; a stop at its tick turns the radio OFF and keeps its channel; a channel change begins at beat 1,000 of the tick before. -/
def Obligations.SynthesisersComplete : Prop :=
  (∀ (s : State) (r k : Nat), (s.dev.radio r).startTick = some k → k ≤ tickOf s.now → (s.dev.radio r).synth = .off →
    ∃ d, Completes (.starting r) s d ∧
      d.radio r = { s.dev.radio r with chan := (s.dev.radio r).stored, failedPasses := 0, calAtLock := true, synth := .starting, entered := s.dev.glb.up } ∧
      (∀ j, j ≠ r → d.radio j = s.dev.radio j) ∧ d = { s.dev with fe := d.fe }) ∧
  (∀ (s : State) (r : Nat), ((s.dev.radio r).synth = .starting ∨ (s.dev.radio r).synth = .settling) → s.dev.glb.up ≤ (s.dev.radio r).entered + lockLimit (s.dev.radio r).synth →
    s.dev.mgr.ref40 = true →
    ∃ d, Completes (.locked r) s d ∧ (d.radio r).synth = (if (s.dev.radio r).calAtLock then .calibrating else .locked) ∧ (d.radio r).failedPasses = 0 ∧
      (d.radio r).chan = (s.dev.radio r).chan ∧ (∀ j, j ≠ r → d.radio j = s.dev.radio j)) ∧
  (∀ (s : State) (r : Nat), (s.dev.radio r).synth = .starting → (s.dev.radio r).entered + 200000 ≤ s.dev.glb.up →
    ((s.dev.radio r).failedPasses < 3 → ∃ d, Completes (.startingFail r) s d ∧
      d.radio r = { s.dev.radio r with failedPasses := (s.dev.radio r).failedPasses + 1, synth := .starting, entered := s.dev.glb.up } ∧
      (∀ j, j ≠ r → d.radio j = s.dev.radio j) ∧ d = { s.dev with fe := d.fe, counts := d.counts }) ∧
    (3 ≤ (s.dev.radio r).failedPasses → ∃ d, Completes (.startingFail r) s d ∧ (d.reg 0x600040).getLsbD 3 = true ∧
      (d.radio r).synth = (if (s.dev.radio r).startTick = none then .fault else .off) ∧ (d.radio r).startTick = none)) ∧
  (∀ (s : State) (r : Nat), (s.dev.radio r).synth = .settling → (s.dev.radio r).entered + 60000 ≤ s.dev.glb.up → (s.dev.radio r).failedPasses < 3 →
    ∃ d, Completes (.reacquisitionTimeout r) s d ∧
      d.radio r = { s.dev.radio r with failedPasses := (s.dev.radio r).failedPasses + 1, synth := .starting, entered := s.dev.glb.up } ∧
      (∀ j, j ≠ r → d.radio j = s.dev.radio j) ∧ d = { s.dev with fe := d.fe, counts := d.counts }) ∧
  (∀ (s : State) (r : Nat) (l : List ChainCal), ((s.dev.radio r).synth = .locked ∨ (s.dev.radio r).synth = .calibrating) →
    ∃ d, Completes (.lossOfLock ⟨r, l⟩) s d ∧ (d.radio r).synth = .settling ∧ (d.radio r).failedPasses = 0 ∧ (d.radio r).chan = (s.dev.radio r).chan ∧
      (d.reg 0x600040).getLsbD 0 = true ∧ (d.rx r).receiving = false ∧ (∀ j, j ≠ r → d.radio j = s.dev.radio j)) ∧
  (∀ (s : State), ∃ d, Completes .ref40Lost s d ∧ d.mgr.ref40 = false ∧ (d.reg 0x1000040).getLsbD 4 = true ∧
    (∀ r, r < 3 → ((s.dev.radio r).synth = .locked ∨ (s.dev.radio r).synth = .calibrating) → (d.radio r).synth = .settling) ∧
    (∀ r, r < 3 → (s.dev.radio r).synth ≠ .locked → (s.dev.radio r).synth ≠ .calibrating → d.radio r = s.dev.radio r)) ∧
  (∀ (s : State) (r k : Nat), (s.dev.radio r).stopTick = some k → k ≤ tickOf s.now →
    ∃ d, Completes (.radioStop r) s d ∧ (d.radio r).synth = .off ∧ (d.radio r).inService = false ∧ (d.radio r).stored = (s.dev.radio r).chan ∧
      (d.radio r).stopTick = none ∧ (d.radio r).stopReqs = [] ∧ (d.rx r).receiving = false ∧ (∀ j, j ≠ r → d.radio j = s.dev.radio j)) ∧
  (∀ (s : State) (r k : Nat) (c : Channel), (s.dev.radio r).change = some (k, c) → (s.dev.radio r).changeBegun = false → (s.dev.radio r).inService = true →
    (k ≤ tickOf s.now ∨ (k = tickOf s.now + 1 ∧ 1000 ≤ beatOf s.now)) → (s.dev.radio r).synth ≠ .fault →
    ∃ d, Completes (.channelChange r) s d ∧ (d.radio r).chan = some c ∧ (d.radio r).stored = some c ∧ (d.radio r).changeBegun = true ∧
      (d.radio r).synth = (if (s.dev.radio r).synth = .starting then .starting else .settling) ∧ (∀ j, j ≠ r → d.radio j = s.dev.radio j))

/-- Calibration (R217 to R220): a full calibration takes the radio's chains off the air, and its end leaves each with the result of its command, the radio LOCKED, and a pending start answered; a chain that becomes due is marked with the tick; a due chain that the playing sheet leaves out calibrates from beat 0; a result with a failed step is flagged and its chain is not CAL_OK. -/
def Obligations.CalibrationsComplete : Prop :=
  (∀ (s : State) (r : Nat), (s.dev.radio r).inService = true → (s.dev.radio r).synth = .locked →
    ((s.dev.radio r).calAtLock = true ∨ ∃ k ∈ (s.dev.radio r).fullCalAt, k ≤ tickOf s.now ∨ (k = tickOf s.now + 1 ∧ 1000 ≤ beatOf s.now)) →
    ∃ d, Completes (.fullCalibration r) s d ∧ (d.radio r).synth = .calibrating ∧ (∀ i, i < 16 → (d.chain (16 * r + i)).calibrating = true) ∧
      (d.rx r).receiving = false ∧ (∀ j, j ≠ r → d.radio j = s.dev.radio j)) ∧
  (∀ (s : State) (r : Nat) (l : List ChainCal), (s.dev.radio r).synth = .calibrating →
    ∃ d, Completes (.calibrationDone r true l) s d ∧ (d.radio r).synth = .locked ∧ (d.radio r).calAtLock = false ∧ (d.radio r).fullCalTick = tickOf s.now ∧
      (d.radio r).startTick = none ∧ ((s.dev.radio r).startTick ≠ none → (d.radio r).inService = true) ∧
      (∀ i, i < 16 → (d.chain (16 * r + i)).calibrating = false ∧ (d.chain (16 * r + i)).due = false ∧ (d.chain (16 * r + i)).calTick = tickOf s.now) ∧
      (∀ i y, i < 16 → l.find? (fun y => y.chain == 16 * r + i) = some y → ((d.chain (16 * r + i)).calOk = true ↔ calFailures y = 0))) ∧
  (∀ (s : State) (c : Nat), c < 48 → (s.dev.chain c).due = true → s.dev.hears (c / 16) = true → beatOf s.now = 0 → s.dev.chainFree s.now c = true →
    (∀ k ∈ chainsOf (c / 16), (s.dev.chain k).calibrating = false) →
    ∃ d, Completes (.rollingCalibration c) s d ∧ (d.chain c).calibrating = true ∧ (s.dev.overridden c = false → (d.chain c).pa = false ∧ (d.chain c).lna = false) ∧
      (∀ j, j ≠ c → d.chain j = s.dev.chain j) ∧ d = { s.dev with fe := d.fe }) ∧
  (∀ (s : State) (c : Nat), c < 48 → s.dev.calDue s.now c = true → (s.dev.chain c).due = false →
    ∃ d, Completes (.calibrationDue c) s d ∧ d.chain c = { s.dev.chain c with due := true, dueTick := tickOf s.now } ∧
      (∀ j, j ≠ c → d.chain j = s.dev.chain j) ∧ d = { s.dev with fe := d.fe })

/-- Grants and overrides (R223, R224, R226): at its tick a delivered set takes the place of those before it, and an expired one goes; under an override the lines follow the fields of FE_CHAIN_CTRL and the override is flagged; without it the chain rejoins its radio's sequence, and no other chain moves; a write by another function changes nothing. The front-end commands (R203, R228 to R232): FE_RADIO_CTRL starts a radio with a stored channel at the next tick and stops one whose radio has no running BSS, with PENDING; FE_CHANNEL_SET stores a valid channel for a radio that is OFF, or schedules its change three ticks ahead or more; FE_CALIBRATE schedules a full calibration or makes a chain due; FE_STATUS answers; FE_6G_GRANT delivers a set for two ticks on. -/
def Obligations.GrantsAndFrontEndCommandsComplete : Prop :=
  (
  (∀ s : State, ∃ d, Completes .grantEffect s d ∧
    d.fe.grants = (s.dev.fe.grants.filter (fun g => decide (g.eff ≤ tickOf s.now))).getLast?.toList ++ s.dev.fe.grants.filter (fun g => decide (tickOf s.now < g.eff)) ∧
    (d.radio 2).muted = ((s.dev.radio 2).inService && d.mutedIn 2 (tickOf s.now) (s.dev.pv 0x4030)) ∧ (∀ r, r ≠ 2 → d.radio r = s.dev.radio r)) ∧
  (∀ s : State, ∃ d, Completes .grantExpiry s d ∧ (∀ g ∈ d.fe.grants, tickOf s.now < g.eff ∨ tickOf s.now < g.expiry) ∧
    (∀ g ∈ s.dev.fe.grants, tickOf s.now < g.eff → g ∈ d.fe.grants) ∧
    (d.radio 2).muted = ((s.dev.radio 2).inService && d.mutedIn 2 (tickOf s.now) (s.dev.pv 0x4030)) ∧ (∀ r, r ≠ 2 → d.radio r = s.dev.radio r)) ∧
  (∀ (s : State) (m : Master) (c : Nat) (v : Reg), m.isF0 = true → c < 48 → v.getLsbD 31 = true →
    ∃ d, Completes (.feChainCtrl m c v) s d ∧ d.reg (chainCtrlAddr c) = v &&& 0xF8000000 ∧ (d.reg 0x600040).getLsbD 6 = true ∧
      d.chain c = { s.dev.chain c with pa := v.getLsbD 30, lna := v.getLsbD 29, byp := v.getLsbD 28, port := b2n (v.getLsbD 27) } ∧
      (∀ j, j ≠ c → d.chain j = s.dev.chain j)) ∧
  (∀ (s : State) (m : Master) (c : Nat) (v : Reg), m.isF0 = true → c < 48 → v.getLsbD 31 = false →
    ∃ d, Completes (.feChainCtrl m c v) s d ∧ d.reg (chainCtrlAddr c) = v &&& 0xF8000000 ∧ (∀ j, j ≠ chainCtrlAddr c → d.reg j = s.dev.reg j) ∧
      ((s.dev.radio (c / 16)).synth = .off → (d.chain c).pa = false ∧ (d.chain c).lna = false ∧ (d.chain c).byp = false ∧ (d.chain c).port = 0) ∧
      (∀ j, j ≠ c → d.chain j = s.dev.chain j) ∧ d = { s.dev with fe := d.fe, regs := d.regs, counts := d.counts }) ∧
  (∀ (s : State) (m : Master) (c : Nat) (v : Reg), m.isF0 = false → Completes (.feChainCtrl m c v) s s.dev)) ∧
  (
  (∀ (s : State) (req : List Word) (r : Nat), Admitted s.dev 0 req 2 → resv (wd req 1) [(63, 50), (47, 1)] = false → r = fld (wd req 1) 49 48 → r ≠ 3 →
    (s.dev.radio r).startTick = none →
    (nbit (wd req 1).toNat 0 = false → (s.dev.radio r).inService = false → (s.dev.radio r).stored ≠ none →
      ∃ d, Completes (.feRadioCtrl 0 req) s d ∧ Answered s.dev d s.now 0 req 0x400 .pending [] ∧
        d.radio r = { s.dev.radio r with startTick := some (tickOf s.now + 1), startReq := some ⟨.fn 0, reqTag req, 0x400⟩ } ∧
        (∀ j, j ≠ r → d.radio j = s.dev.radio j) ∧ d = { s.dev with fe := d.fe, fns := d.fns, counts := d.counts }) ∧
    (nbit (wd req 1).toNat 0 = true → (s.dev.radio r).synth ≠ .off → (∀ e ∈ s.dev.mac.bss, e.2.running = true → radioOf e.1 ≠ r) →
      ∃ d, Completes (.feRadioCtrl 0 req) s d ∧ Answered s.dev d s.now 0 req 0x400 .pending [] ∧ (d.radio r).stopTick = some (tickOf s.now + 1) ∧
        (d.radio r).stopReqs = (s.dev.radio r).stopReqs ++ [⟨.fn 0, reqTag req, 0x400⟩] ∧ (d.reg 0x200000).getLsbD r = false ∧
        (∀ j, j ≠ r → d.radio j = s.dev.radio j) ∧ d = { s.dev with fe := d.fe, regs := d.regs, fns := d.fns, counts := d.counts })) ∧
  (∀ (s : State) (req : List Word) (r change : Nat) (c : Channel), Admitted s.dev 0 req 3 → resv (wd req 1) [(63, 48)] = false → resv (wd req 2) [(63, 30), (23, 21)] = false →
    r = fld (wd req 2) 17 16 → change = fld (wd req 1) 47 0 → c = channelOf (wd req 2) → r ≠ 3 → channelOk r c = true → (s.dev.radio r).startTick = none →
    s.dev.grantRefuses s.now r change c = false → (if (s.dev.radio r).synth = .off then change = 0 else tickOf s.now + 3 ≤ change) →
    ∃ d, Completes (.feChannelSet 0 req) s d ∧ Answered s.dev d s.now 0 req 0x401 .ok [] ∧
      d.radio r = (if (s.dev.radio r).synth = .off then { s.dev.radio r with stored := some c } else { s.dev.radio r with change := some (change, c), changeBegun := false }) ∧
      (∀ j, j ≠ r → d.radio j = s.dev.radio j) ∧ d = { s.dev with fe := d.fe, fns := d.fns, counts := d.counts }) ∧
  (∀ (s : State) (req : List Word) (r tick : Nat), Admitted s.dev 0 req 3 → resv (wd req 1) [(63, 48)] = false → resv (wd req 2) [(63, 50), (47, 9), (7, 6)] = false →
    r = fld (wd req 2) 49 48 → tick = fld (wd req 1) 47 0 → r ≠ 3 → nbit (wd req 2).toNat 8 = true → (s.dev.radio r).startTick = none → (s.dev.radio r).inService = true →
    tickOf s.now + 3 ≤ tick →
    ∃ d, Completes (.feCalibrate 0 req) s d ∧ Answered s.dev d s.now 0 req 0x402 .ok [] ∧ tick ∈ (d.radio r).fullCalAt ∧
      d.radio r = { s.dev.radio r with fullCalAt := (d.radio r).fullCalAt } ∧ (∀ j, j ≠ r → d.radio j = s.dev.radio j) ∧
      d = { s.dev with fe := d.fe, fns := d.fns, counts := d.counts }) ∧
  (∀ (s : State) (req : List Word) (r c : Nat), Admitted s.dev 0 req 3 → resv (wd req 1) [(63, 48)] = false → resv (wd req 2) [(63, 50), (47, 9), (7, 6)] = false →
    r = fld (wd req 2) 49 48 → c = fld (wd req 2) 5 0 → r ≠ 3 → nbit (wd req 2).toNat 8 = false → c / 16 = r → fld (wd req 1) 47 0 = 0 → (s.dev.radio r).startTick = none →
    (s.dev.radio r).inService = true →
    ∃ d, Completes (.feCalibrate 0 req) s d ∧ Answered s.dev d s.now 0 req 0x402 .ok [] ∧ (d.chain c).due = true ∧ (∀ j, j ≠ c → d.chain j = s.dev.chain j) ∧
      d = { s.dev with fe := d.fe, fns := d.fns, counts := d.counts }) ∧
  (∀ (s : State) (f : Nat) (req : List Word) (r : Nat) (x : Radio), Admitted s.dev f req 2 → resv (wd req 1) [(63, 50), (47, 0)] = false → r = fld (wd req 1) 49 48 → r ≠ 3 →
    x = s.dev.radio r →
    ∃ d, Completes (.feStatus f req) s d ∧ Answered s.dev d s.now f req 0x403 .ok
        ([(match (if x.synth = .off then x.stored else x.chan) with | some c => c.word | none => 0), packW [((match x.change with | some c => c.1 | none => 0), 48, 0)],
          packW [(x.fullCalTick, 48, 0), (b2n x.muted, 1, 59), (x.synth.code, 4, 60)]] ++ (List.range 16).map (s.dev.chainWord r)) ∧
      d = { s.dev with fns := d.fns, counts := d.counts }) ∧
  (∀ (s : State) (req : List Word) (n : Nat) (ws : List Word), n = fld (wd req 1) 51 48 → ws = (List.range n).map (fun i => wd req (2 + i)) → Admitted s.dev 0 req (2 + n) →
    resv (wd req 1) [(63, 52)] = false → (∀ w ∈ ws, resv w [(63, 40)] = false ∧ badRange (grantRange w) = false) → n ≤ 8 → (n = 0 → fld (wd req 1) 47 0 = 0) →
    (n ≠ 0 → tickOf s.now + 2 < fld (wd req 1) 47 0) →
    ∃ d, Completes (.fe6gGrant 0 req) s d ∧ Answered s.dev d s.now 0 req 0x410 .ok [] ∧
      d.fe = { s.dev.fe with grants := s.dev.fe.grants ++ [⟨tickOf s.now + 2, fld (wd req 1) 47 0, ws.map grantRange⟩] } ∧
      d = { s.dev with fe := d.fe, fns := d.fns, counts := d.counts }))

/-- Membership of the venue (R233 to R235, R245, R254, R259): BT_JOIN of an OFF member on enabled ports makes it INDEPENDENT, or ALIGNING with a usable source, with the request's fields; BT_LEAVE ends membership at the next tick; BT_NEIGHBOURS stages a set for its tick, where it comes into force; BT_TIME_ADJUST is a source of time; BT_STATUS answers; a neighbour's leave message withdraws its cues from its tick on. -/
def Obligations.MembershipCommandsComplete : Prop :=
  (∀ (s : State) (req : List Word), Admitted s.dev 0 req 4 → resv (wd req 1) [(63, 30)] = false → resv (wd req 2) [(63, 48)] = false → resv (wd req 3) [(63, 22), (15, 15)] = false →
    fld (wd req 3) 21 20 ≠ 3 → fld (wd req 3) 19 16 ≠ 0 → fld (wd req 3) 11 0 ≠ 0 → fld (wd req 3) 11 0 ≠ 4095 → nbit (wd req 2).toNat 40 = true → s.dev.bt.mode = .off →
    (∀ p, p < 4 → nbit (fld (wd req 3) 19 16) p = true → s.dev.portEnabled p = true) →
    ∃ d, Completes (.btJoin 0 req) s d ∧ Answered s.dev d s.now 0 req 0x500 .ok [] ∧
      d.bt = { s.dev.bt with
        mode := if s.dev.bt.servo.usable then .aligning else .independent, source := fld (wd req 3) 21 20, chip := fld (wd req 1) 29 16, venue := fld (wd req 1) 15 0
        group := fld (wd req 2) 47 0, ports := fld (wd req 3) 19 16, pcp := fld (wd req 3) 14 12, vlan := fld (wd req 3) 11 0 } ∧
      d = { s.dev with bt := d.bt, fns := d.fns, counts := d.counts }) ∧
  (∀ (s : State) (req : List Word), Admitted s.dev 0 req 1 → s.dev.bt.mode ≠ .off →
    ∃ d, Completes (.btLeave 0 req) s d ∧ Answered s.dev d s.now 0 req 0x501 .ok [] ∧ d.bt.leaveTick = some (tickOf s.now + 1) ∧ d.bt.mode = s.dev.bt.mode ∧
      d.bt.tx = (if s.dev.coordinating then s.dev.bt.tx ++ [⟨3, Nat.max s.dev.bt.cueSent (tickOf s.now + 1), []⟩] else s.dev.bt.tx) ∧ d.coordinating = false) ∧
  (∀ (s : State) (req : List Word) (n k : Nat) (chips : List Nat), n = fld (wd req 1) 53 48 → chips = ((List.range n).map (fun k => wd req (2 + k))).map (fun w => fld w 13 0) →
    k = fld (wd req 1) 47 0 → Admitted s.dev 0 req (2 + n) → resv (wd req 1) [(63, 54)] = false → (∀ i, i < n → resv (wd req (2 + i)) [(63, 14)] = false) → n ≤ 32 →
    hasTwice chips = false → s.dev.bt.chip ∉ chips → s.dev.bt.mode ≠ .off → tickOf s.now + 1 ≤ k →
    ∃ d, Completes (.btNeighbours 0 req) s d ∧ Answered s.dev d s.now 0 req 0x510 .ok [] ∧ d.bt = { s.dev.bt with staged := some (k, chips) } ∧
      d = { s.dev with bt := d.bt, fns := d.fns, counts := d.counts }) ∧
  (∀ (s : State) (k : Nat) (l : List Nat), s.dev.bt.staged = some (k, l) → k ≤ tickOf s.now →
    ∃ d, Completes .neighbourSetEffect s d ∧ d = { s.dev with bt := { s.dev.bt with sets := ((k, l) :: s.dev.bt.sets).take 5, staged := none } }) ∧
  (∀ (s : State) (req : List Word) (off limit : Int), Admitted s.dev 0 req 3 → off = (wd req 1).toInt → limit = ((s.dev.pv 0x5011 * 1000 : Nat) : Int) →
    -100000 ≤ sgn 32 (fld (wd req 2) 31 0) → sgn 32 (fld (wd req 2) 31 0) ≤ 100000 → s.dev.bt.source = 2 →
    ∃ d, Completes (.btTimeAdjust 0 req) s d ∧ Answered s.dev d s.now 0 req 0x530 .ok [] ∧ d.bt.servo.usable = true ∧ d.bt.servo.hostErr = fld (wd req 2) 63 32 ∧
      d.bt.servo.rate = sgn 32 (fld (wd req 2) 31 0) ∧ d.bt.servo.offset = off ∧ d.bt.servo.slew = (if limit < off then 0 else off) ∧
      d.bt.servo.step = (if limit < off then some off.toNat else none) ∧ (off < -limit → (d.reg 0x700040).getLsbD 5 = true)) ∧
  (∀ (s : State) (f : Nat) (req : List Word), Admitted s.dev f req 1 →
    ∃ d, Completes (.btStatus f req) s d ∧ Answered s.dev d s.now f req 0x520 .ok [packW [(s.dev.btAlign.toNat, 32, 0), (s.dev.btState.toNat, 32, 32)],
        packW [(s.dev.bt.finalTick, 48, 0), (s.dev.bt.venue, 16, 48)],
        packW [(s.dev.bt.coordMap, 32, 0), (Nat.min ((s.dev.glb.up - s.dev.bt.servo.lastCorr) / 1000000) 0xFFFFFFFF, 32, 32)]] ∧
      d = { s.dev with fns := d.fns, counts := d.counts }) ∧
  (∀ (s : State) (x : BtFrame), s.dev.btAccepts x 3 = true → btPlain x.octets = true → s.dev.knowsChip (btChip x.octets) = true →
    ∃ d, Completes (.leaveMessage x) s d ∧ (btChip x.octets, btTickOf x.octets) ∈ d.bt.left ∧ (∀ k, btTickOf x.octets ≤ k → d.cueOf k (btChip x.octets) = none) ∧
      d.bt.cues = s.dev.bt.cues ∧ d = { s.dev with bt := d.bt, counts := d.counts })

/-- The alignment of show time (R236 to R238, R241 to R244): with the path delay measured, the Sync of the chosen master makes the source usable, and its offset, origin time plus delay less receive stamp, is slewed, or stepped when it is ahead by more than the limit; a two-step Sync waits for its Follow_Up; an answered Delay_Req gives the delay anew; another's Sync does nothing; of the masters heard the best is chosen, and its timeout, another grandmaster or too high a clockClass loses the source; show time steps forward at a tick boundary outside coordinated operation, with the landing tick and the next dark and GLB_INCIDENT.TIME_STEPPED; a clapper message of a member that is neither leader nor neighbour is dropped and counted; an edge within 4 µs of the expected one counts on; a second missing edge in a row and a silent source lose the source. -/
def Obligations.AlignmentCompletes : Prop :=
  (∀ (s : State) (x : SyncMsg) (limit off m : Int) (o : Nat), limit = ((s.dev.pv 0x5011 * 1000 : Nat) : Int) → s.dev.bt.mode ≠ .off → s.dev.bt.source = 0 →
    x.domain = s.dev.pv 0x5015 → nbit s.dev.bt.ports x.port = true → s.dev.fromParent x = true → x.part = .sync o → s.dev.bt.servo.delay = some m →
    off = (o : Int) + x.correctionNs + m - (s.dev.syncStamp x : Int) →
    ∃ d, Completes (.sync x) s d ∧ d.bt.servo.usable = true ∧ d.bt.servo.lastSync = s.dev.glb.up ∧ d.bt.servo.offset = off ∧
      d.bt.servo.slew = (if limit < off then 0 else off) ∧ d.bt.servo.step = (if limit < off then some off.toNat else none) ∧
      d.bt.mode = (if s.dev.bt.mode = .independent then .aligning else if s.dev.bt.mode = .holdover then .coordinated else s.dev.bt.mode) ∧
      d.bt.servo.exchange = some ((o : Int) + x.correctionNs, (s.dev.syncStamp x : Int)) ∧ d.bt.servo.reqSeq = (s.dev.bt.servo.reqSeq + 1) % 65536 ∧
      (off < -limit → (d.reg 0x700040).getLsbD 5 = true)) ∧
  (∀ (s : State) (x : SyncMsg), s.dev.bt.mode ≠ .off → s.dev.bt.source = 0 → x.domain = s.dev.pv 0x5015 → nbit s.dev.bt.ports x.port = true → s.dev.fromParent x = true →
    (x.part = .syncTwoStep → ∃ d, Completes (.sync x) s d ∧ d.bt = { s.dev.bt with servo := { s.dev.bt.servo with lastSync := s.dev.glb.up, heard := some (x.seq, x.correctionNs, s.dev.syncStamp x) } } ∧
      d = { s.dev with bt := d.bt, counts := d.counts }) ∧
    (∀ r t1 t2 t3 m, x.part = .delayResp r → x.seq = s.dev.bt.servo.reqSeq → s.dev.bt.servo.exchange = some (t1, t2) → s.dev.bt.servo.reqSent = some t3 →
      s.dev.bt.servo.delay = some m → ∃ d, Completes (.sync x) s d ∧
      d = { s.dev with bt := { s.dev.bt with servo := { s.dev.bt.servo with delay := some (((t2 - t1) + ((r : Int) - x.correctionNs - t3)) / 2), reqSent := none } } })) ∧
  (∀ (s : State) (x : SyncMsg), s.dev.fromParent x = false → Completes (.sync x) s s.dev) ∧
  (∀ (s : State) (x y : AnnounceMsg), s.dev.bt.mode ≠ .off → s.dev.bt.source = 0 → x.domain = s.dev.pv 0x5015 → nbit s.dev.bt.ports x.port = true →
    (x.timeout = true → s.dev.bt.servo.parent = some y → sameMaster x y = true → ∃ d, Completes (.announce x) s d ∧ d.bt.servo.usable = false ∧
      (∀ z ∈ d.bt.servo.masters, sameMaster x z = false ∧ z ∈ s.dev.bt.servo.masters) ∧ d.bt.servo.parent = bestMaster d.bt.servo.masters ∧
      d.bt.mode = (if s.dev.bt.mode = .coordinated then .holdover else if s.dev.bt.mode = .aligning then .independent else s.dev.bt.mode)) ∧
    (x.timeout = false → ∃ d, Completes (.announce x) s d ∧
      d.bt.servo.masters = x :: s.dev.bt.servo.masters.filter (fun z => !sameMaster x z) ∧ d.bt.servo.parent = bestMaster d.bt.servo.masters ∧
      (∀ z, d.bt.servo.parent = some z → s.dev.pv 0x5014 < z.clockClass → d.bt.servo.usable = false) ∧
      (s.dev.bt.servo.parent = some y → d.bt.servo.gm ≠ some y.identity → d.bt.servo.usable = false) ∧
      (s.dev.bt.servo.parent = some y → sameMaster x y = true → bestMaster d.bt.servo.masters = some x → x.identity = y.identity → x.clockClass ≤ s.dev.pv 0x5014 →
        d = { s.dev with bt := { s.dev.bt with servo := { s.dev.bt.servo with masters := d.bt.servo.masters, parent := some x } } }))) ∧
  (∀ (l : List AnnounceMsg) (x : AnnounceMsg), bestMaster l = some x → x ∈ l ∧ ∀ y ∈ l, before (masterRank y) (masterRank x) = false) ∧
  (∀ (s : State) (n : Nat), s.dev.bt.servo.step = some n → s.dev.coordinating = false → beatOf s.now = 0 →
    ∃ d, exec .timeStep s = .next { s with now := s.now + n, dev := d } ∧ d.bt.servo.step = none ∧ d.dly.stepped = true ∧ (d.reg 0x40).getLsbD 2 = true ∧
      (∀ r, r < 3 → (d.sheet r (tickOf (s.now + n))).state = .dark ∧ (d.sheet r (tickOf (s.now + n) + 1)).state = .dark)) ∧
  (∀ s : State, s.dev.bt.mode ≠ .off → s.dev.sourceTimedOut = true →
    ∃ d, Completes .sourceLoss s d ∧ d.bt.servo.usable = false ∧ d.bt.servo.goodTicks = 0 ∧ d.bt.servo.step = none ∧
      d.bt.mode = (if s.dev.bt.mode = .coordinated then .holdover else if s.dev.bt.mode = .aligning then .independent else s.dev.bt.mode)) ∧
  (∀ (s : State) (x : BtFrame), s.dev.btAccepts x 2 = true → s.dev.bt.source = 1 → btPlain x.octets = true → btChip x.octets = s.dev.pv 0x501B →
    (btAlignNs x.octets = 0xFFFFFFFF → ∃ d, Completes (.clapperMessageRx x) s d ∧ d.bt.servo.usable = false ∧ d.bt.servo.clapTick = none) ∧
    (btAlignNs x.octets ≠ 0xFFFFFFFF → s.dev.bt.servo.edgeTick = none → ∃ d, Completes (.clapperMessageRx x) s d ∧
      d = { s.dev with bt := { s.dev.bt with servo := { s.dev.bt.servo with clapTick := some (btTickOf x.octets), clapAlign := btAlignNs x.octets } } })) ∧
  (∀ (s : State) (x : BtFrame), s.dev.btAccepts x 2 = true → (s.dev.bt.source ≠ 1 ∨ btChip x.octets ≠ s.dev.pv 0x501B) → s.dev.knowsChip (btChip x.octets) = false →
    ∃ d, Completes (.clapperMessageRx x) s d ∧ d.counter 33 11 = (s.dev.counter 33 11 + 1) % 2 ^ 48 ∧ d = { s.dev with counts := d.counts }) ∧
  (∀ (s : State) (stamp e : Nat) (x : Int), s.dev.bt.mode ≠ .off → s.dev.bt.source = 1 → s.dev.bt.servo.edgeTick = some e →
    x = (stamp : Int) - (s.dev.pv 0x5019 : Int) - (((e + s.dev.clapDiv) * 1024000 : Nat) : Int) →
    (x ≤ 4000 → -4000 ≤ x → ∃ d, Completes (.clapIn stamp) s d ∧ d.bt.servo.edgeTick = some (e + s.dev.clapDiv) ∧ d.bt.servo.missing = 0) ∧
    ((4000 < x ∨ x < -4000) → ∃ d, Completes (.clapIn stamp) s d ∧ d.bt = s.dev.bt ∧ d.counter 33 10 = (s.dev.counter 33 10 + 1) % 2 ^ 48 ∧ d = { s.dev with counts := d.counts })) ∧
  (∀ s : State, s.dev.edgeOverdue s.now = true →
    (s.dev.bt.servo.missing = 0 → ∃ d, Completes .clapMissing s d ∧ d.bt = { s.dev.bt with servo := { s.dev.bt.servo with
      missing := 1, edgeTick := s.dev.bt.servo.edgeTick.map (· + s.dev.clapDiv) } }) ∧
    (s.dev.bt.servo.missing ≠ 0 → ∃ d, Completes .clapMissing s d ∧ d.bt.servo.usable = false ∧ d.bt.servo.edgeTick = none ∧ (d.reg 0x700040).getLsbD 4 = true))

/-- Coordinated operation (R242 to R245, R248 to R252): an ALIGNING member enters it at the boundary that ends enough good ticks; its limits or the loss of the 40 MHz reference end it with one leave message; at beat 384 the member sends the sections of its three drafts in segments, and empties the drafts that it cues empty; at beat 8 of a tick whose boundary it pulsed it sends its clapper message; a neighbour's whole cue that comes in time holds for its tick. -/
def Obligations.CoordinationCompletes : Prop :=
  (∀ s : State, s.dev.bt.mode = .aligning → s.dev.pv 0x5013 ≤ s.dev.bt.servo.goodTicks → beatOf s.now = 0 → s.dev.mgr.ref40 = true →
    ∃ d, Completes .enterCoordinated s d ∧ d = { s.dev with bt := { s.dev.bt with mode := .coordinated, coordFrom := tickOf s.now + 2, servo := { s.dev.bt.servo with goodTicks := 0 } } }) ∧
  (∀ s : State, s.dev.coordinating = true → (s.dev.coordDrift = true ∨ s.dev.mgr.ref40 = false) →
    ∃ d, Completes .coordExit s d ∧ d.bt.mode = (if s.dev.bt.servo.usable then .aligning else .independent) ∧ d.coordinating = false ∧
      d.bt.tx = s.dev.bt.tx ++ [⟨3, Nat.max s.dev.bt.cueSent (tickOf s.now + 1), []⟩] ∧ (s.dev.coordDrift = true → s.dev.bt.mode = .holdover → (d.reg 0x700040).getLsbD 0 = true)) ∧
  (∀ (s : State) (tick : Nat) (body : List Byte), tick = tickOf s.now + 1 → s.dev.coordinatingFor tick = true → beatOf s.now = 384 →
    body = (List.range 3).flatMap (fun r => sectionOctets r (if (s.dev.radio r).inService then s.dev.chanAt r tick else none) (if (s.dev.cueEmpties tick).contains r then {} else s.dev.sheet r tick)) →
    ∃ d, Completes .cueSend s d ∧ d.bt.cueSent = tick + 1 ∧ d.bt.tx = s.dev.bt.tx ++ (segments 4 body).map (fun b => ⟨1, tick, b⟩) ∧
      (∀ r, r < 3 → (s.dev.cueEmpties tick).contains r = false → d.sheet r tick = s.dev.sheet r tick) ∧
      (∀ r, r < 3 → (s.dev.cueEmpties tick).contains r = true → (s.dev.sheet r tick).tick = tick → (s.dev.sheet r tick).state = .ready → (d.sheet r tick).takeCount = 0)) ∧
  (∀ s : State, s.dev.bt.mode ≠ .off → s.dev.pulsed s.now = true → beatOf s.now = 8 →
    ∃ d, Completes .clapperMessage s d ∧ d.bt = { s.dev.bt with tx := s.dev.bt.tx ++ [⟨2, tickOf s.now, []⟩] }) ∧
  (∀ (s : State) (x : BtFrame) (chip tick : Nat) (ts : List CueTake), s.dev.btAccepts x 1 = true → cueHeaderOk x.octets = true → octAt x.octets 12 = 1 →
    chip = btChip x.octets → tick = btTickOf x.octets → chip ≠ s.dev.bt.chip → chip ∈ s.dev.neighbours tick → tick = tickOf x.stamp + 1 →
    (∀ c ∈ s.dev.bt.cues, ¬ (c.chip = chip ∧ c.tick = tick)) → parseCue ((x.octets.drop 20).take (beAt x.octets 14 2)) = some ts → beatOf x.stamp < 768 →
    beatNo s.now ≤ beatNo x.stamp + 2 →
    ∃ d, Completes (.cueSegment x) s d ∧ d.cueOf tick chip = some ts ∧ (∀ k j, (k ≠ tick ∨ j ≠ chip) → s.dev.bt.left = [] → d.cueOf k j = s.dev.cueOf k j) ∧
      d = { s.dev with bt := d.bt, props := d.props, force := d.force, counts := d.counts })

/-- The device's resets (R336, R402 to R404, R414): POWER_ON_RESET starts show time at 0 and keeps what the stores, the fuses and the Turnstile hold; a supply below its minimum holds D2 to D11 in reset with every FEM line low, and its return resets the device; a warm reset leaves incident bits, fault registers, stores and the Turnstile, sets EXPIRED where it resets a core that owns the seal lock, waits for NV_BUSY and for its flush, and WARM_RST_N waits for nothing; reset events of one beat give one reset, whose LAST_RESET is the first source in the order of R404; a slot whose erase a reset cuts short is not bootable (log 7). -/
def Obligations.ResetsComplete : Prop :=
  (∀ s : State, ∃ d, exec .powerOnReset s = .next { now := 0, pending := s.pending, dev := d } ∧
    d.regs = [] ∧ d.fns = [] ∧ d.counts = [] ∧ d.props = [] ∧ d.mgr.booted = false ∧ d.mgr.lastReset = 0 ∧ d.mgr.bootCount = 0 ∧
    d.mgr.saved = s.dev.mgr.saved ∧ d.mgr.rec0 = cutSlot s.dev.mgr s.dev.mgr.rec0 ∧ d.mgr.rec1 = cutSlot s.dev.mgr s.dev.mgr.rec1 ∧ d.mgr.svnFloor = s.dev.mgr.svnFloor ∧
    d.ts = { s.dev.ts with chipDark := true, mirror := {} } ∧ d.tst.life = s.dev.tst.life ∧ d.tst.unlocked = false) ∧
  (∀ (s : State) (j mv lo : Nat), railMin s.dev j = some lo → mv < lo →
    ∃ d, Completes (.supplyFailure j mv) s d ∧ d.gaf = { s.dev.gaf with held := true } ∧ j ∈ d.mgr.lowRails ∧ d.running = false ∧
      (d.reg 0x1000040).getLsbD 3 = true ∧ (∀ c, c < 48 → (d.chain c).pa = false ∧ (d.chain c).lna = false ∧ (d.chain c).byp = false) ∧
      d = { s.dev with fe := d.fe, gaf := d.gaf, mgr := d.mgr, regs := d.regs, glb := d.glb, counts := d.counts, ts := { s.dev.ts with chipDark := true } }) ∧
  (∀ (s : State) (j mv lo : Nat), railMin s.dev j = some lo → lo ≤ mv → s.dev.mgr.lowRails = [j] → s.dev.nvBusy = false → s.dev.justReset = false →
    ∃ d, Completes (.supplyFailure j mv) s d ∧ d.mgr.lastReset = 1 ∧ d.mgr.booted = false ∧ d.mgr.lowRails = [] ∧ d.gaf.held = s.dev.tst.scanning ∧
      (∀ a, isIncident a = true → (a ≠ 0xB80040 ∨ s.dev.coreHoldsSeal = false) → d.reg a = s.dev.reg a)) ∧
  (∀ (s : State) (src : ResetSource), src = .warmRstN ∨ (s.dev.nvBusy = false ∧ s.dev.mgr.dirty = []) → src ≠ .scan → s.dev.mgr.waitReset = none → s.dev.justReset = false →
    ∃ d, Completes (.warmReset src) s d ∧ d.mgr.lastReset = lastResetCode 0 src ∧ d.mgr.booted = false ∧ d.mgr.waitReset = none ∧
      (∀ a, (a ≠ 0xB80040 ∨ s.dev.coreHoldsSeal = false) → d.reg a = if isIncident a then s.dev.reg a else regReset a) ∧ (s.dev.coreHoldsSeal = true → (d.reg 0xB80040).getLsbD 1 = true) ∧ d.fns = [] ∧ d.props = [] ∧ d.pln = {} ∧ d.mac = {} ∧ d.dec = {} ∧ d.wcx = {} ∧ d.bt = {} ∧
      d.mem.faultAddr = s.dev.mem.faultAddr ∧ d.mem.faultKind = s.dev.mem.faultKind ∧ d.mem.faultMaster = s.dev.mem.faultMaster ∧
      d.mgr.saved = s.dev.mgr.saved ∧ d.mgr.rec0 = cutSlot s.dev.mgr s.dev.mgr.rec0 ∧ d.mgr.rec1 = cutSlot s.dev.mgr s.dev.mgr.rec1 ∧ d.mgr.svnFloor = s.dev.mgr.svnFloor ∧
      d.mgr.bootCount = s.dev.mgr.bootCount ∧ d.ts = { s.dev.ts with chipDark := true }) ∧
  (∀ (s : State) (src : ResetSource), src ≠ .warmRstN → flushes src = false ∨ s.dev.mgr.pfail = true → s.dev.nvBusy = true →
    ∃ d, Completes (.warmReset src) s d ∧ d = { s.dev with mgr := { s.dev.mgr with waitReset := some (waitWith s.dev.mgr.waitReset src) } }) ∧
  (∀ (s : State) (src : ResetSource), flushes src = true → s.dev.mgr.pfail = false → s.dev.mgr.dirty ≠ [] →
    ∃ d, Completes (.warmReset src) s d ∧ d.mgr.waitReset = some (waitWith s.dev.mgr.waitReset src) ∧ d.mgr.dirty = [] ∧
      (∀ k, tlook propReset d.mgr.saved k = if k ∈ s.dev.mgr.dirty then s.dev.written k else tlook propReset s.dev.mgr.saved k) ∧
      d.regs = s.dev.regs ∧ d.fns = s.dev.fns ∧ d.props = s.dev.props) ∧
  (∀ (s : State) (src : ResetSource) (c : Nat), src = .warmRstN ∨ (s.dev.nvBusy = false ∧ flushes src = false) → src ≠ .scan → s.dev.mgr.waitReset = none → s.dev.justReset = true →
    c = lastResetCode 0 src →
    ∃ d, Completes (.warmReset src) s d ∧
      d = { s.dev with mgr := { s.dev.mgr with lastReset := if codeRank s.dev.mgr.lastReset ≤ codeRank c then s.dev.mgr.lastReset else c } })

/-- BOOT (R405, R407, R410, R412): with its references, the NOR, HBM and a preferred slot that verifies, the device reaches step 9 with that slot, every task context IDLE; a TRIAL slot uses one try; a missing reference, a silent NOR, no slot that verifies, and failed HBM give recovery with causes 2, 4, 1 and 3, with the virtual functions OFF; a device that is up, held or short of a supply boots no further. -/
def Obligations.BootCompletes : Prop :=
  (∀ (s : State) (x : BootFacts) (r : BootRec), s.dev.mgr.booted = false → s.dev.mgr.recovery = false → s.dev.gaf.held = false → s.dev.mgr.lowRails = [] → s.dev.mgr.lastReset ≠ 5 →
    s.dev.tst.life ≠ 3 → r = (useRec s.dev.mgr x.copy0 x.copy1).1 →
    (x.ref40 = true → x.ref100 = true → x.norOk = true → x.hbmOk = true →
      slotPasses s.dev.mgr.svnFloor (if r.pref = 0 then x.slotA else x.slotB) = true →
      (r.st r.pref = .good → ∃ d, Completes (.boot x) s d ∧ d.mgr.booted = true ∧ d.mgr.recovery = false ∧ d.mgr.slot = r.pref ∧ d.mgr.step9 = s.dev.glb.up ∧
        d.mgr.bootCount = (s.dev.mgr.bootCount + 1) % 65536 ∧ d.mgr.rec0 = s.dev.mgr.rec0 ∧ d.mgr.rec1 = s.dev.mgr.rec1 ∧
        (∀ k, k < 1024 → (tlook (fun _ => ({} : Ctx)) d.rgm.ctx k).st = .idle)) ∧
      (r.st r.pref = .trial → 0 < r.tries r.pref → x.copy0 = true → x.copy1 = true → r.pref < 2 →
        ∃ d, Completes (.boot x) s d ∧ d.mgr.booted = true ∧ d.mgr.slot = r.pref ∧ d.mgr.bootRec = { r.setSlot r.pref .trial (r.tries r.pref - 1) with seq := r.seq + 1 })) ∧
    ((x.ref40 = false ∨ x.ref100 = false) → ∃ d, Completes (.boot x) s d ∧ d.mgr.recovery = true ∧ d.mgr.recCause = 2 ∧ d.mgr.booted = true ∧
      (∀ f, f ≠ 0 → (d.fn f).st = .off) ∧ d.fn 0 = s.dev.fn 0) ∧
    (x.ref40 = true → x.ref100 = true → x.norOk = false → ∃ d, Completes (.boot x) s d ∧ d.mgr.recovery = true ∧ d.mgr.recCause = 4) ∧
    (x.ref40 = true → x.ref100 = true → x.norOk = true → slotPasses s.dev.mgr.svnFloor x.slotA = false → slotPasses s.dev.mgr.svnFloor x.slotB = false →
      ∃ d, Completes (.boot x) s d ∧ d.mgr.recovery = true ∧ d.mgr.recCause = 1) ∧
    (x.ref40 = true → x.ref100 = true → x.norOk = true → x.hbmOk = false → r.st r.pref = .good →
      slotPasses s.dev.mgr.svnFloor (if r.pref = 0 then x.slotA else x.slotB) = true →
      ∃ d, Completes (.boot x) s d ∧ d.mgr.recovery = true ∧ d.mgr.recCause = 3 ∧ (d.reg 0xE00040).getLsbD 4 = true)) ∧
  (∀ (s : State) (x : BootFacts), (s.dev.mgr.booted = true ∨ s.dev.gaf.held = true ∨ s.dev.mgr.lowRails ≠ []) →
    ∃ d, Completes (.boot x) s d ∧ d = s.dev.sense x.readings)

/-- Watchdogs and ordered resets (R401, R404, R412, R423): a heartbeat is noted; STALL_TICKS ticks without one set GULMET_STALL, and reset the device where STALL_RESET asks for it; the booth watchdog resets; neither does while the management core is stopped; a trial image that is not confirmed in time is reset; MGR_RESET follows 16 beats after the first acceptance. The host link's events and a shutdown's discard (R392, R406, R421): PERST_N low resets the functions like a Function Level Reset of F0; the loss of the 100 MHz reference takes the host link alone; a completion of a function in shutdown that has waited for 1,000 beats is discarded, younger ones stay. -/
def Obligations.WatchdogsAndLinkEventsComplete : Prop :=
  (
  (∀ s : State, ∃ d, Completes .heartbeat s d ∧ d = { s.dev with mgr := { s.dev.mgr with beatSeen := true, missed := 0 } }) ∧
  (∀ s : State, s.dev.mgrStopped = false → s.dev.pv 0xA003 ≤ s.dev.mgr.missed → s.dev.pv 0xA002 ≠ 1 →
    ∃ d, Completes .gulmetStall s d ∧ (d.reg 0x1000040).getLsbD 1 = true ∧ d.mgr.missed = 0 ∧ d.mgr.booted = s.dev.mgr.booted ∧ d.fns = s.dev.fns ∧
      (∀ a, a ≠ 0x1000040 → d.reg a = s.dev.reg a)) ∧
  (∀ s : State, s.dev.mgrStopped = false → s.dev.pv 0xA003 ≤ s.dev.mgr.missed → s.dev.pv 0xA002 = 1 → s.dev.nvBusy = false → s.dev.mgr.dirty = [] → s.dev.mgr.waitReset = none → s.dev.justReset = false →
    ∃ d, Completes .gulmetStall s d ∧ (d.reg 0x1000040).getLsbD 1 = true ∧ d.mgr.lastReset = 4 ∧ d.mgr.booted = false ∧ d.fns = []) ∧
  (∀ s : State, s.dev.mgrStopped = false → s.dev.nvBusy = false → s.dev.mgr.waitReset = none → s.dev.justReset = false →
    ∃ d, Completes .boothWatchdog s d ∧ (d.reg 0x1000040).getLsbD 2 = true ∧ d.mgr.lastReset = 3 ∧ d.mgr.booted = false ∧ d.mgr.saved = s.dev.mgr.saved) ∧
  (∀ s : State, s.dev.mgrStopped = true → Completes .gulmetStall s s.dev ∧ Completes .boothWatchdog s s.dev) ∧
  (∀ s : State, s.dev.trialOver = true → s.dev.nvBusy = false → s.dev.mgr.dirty = [] → s.dev.mgr.waitReset = none →
    ∃ d, Completes .trialTimeout s d ∧ d.mgr.lastReset = 6 ∧ d.mgr.booted = false ∧ d.mgr.rec0 = s.dev.mgr.rec0 ∧ d.mgr.rec1 = s.dev.mgr.rec1) ∧
  (∀ (s : State) (req : List Word), Admitted s.dev 0 req 1 →
    ∃ d, Completes (.mgrReset 0 req) s d ∧ Answered s.dev d s.now 0 req 0xA00 .ok [] ∧ d.mgr = { s.dev.mgr with resetAt := some (s.dev.mgr.resetAt.getD (beatNo s.dev.glb.up + 16)) } ∧
      d = { s.dev with fns := d.fns, counts := d.counts, mgr := d.mgr })) ∧
  (
  (∀ s : State, ∃ d, Completes (.perstN true) s d ∧ d.mgr.perstLow = true ∧
    ((s.dev.fn 0).st = .ready → (d.fn 0).st = .shutdown) ∧ (∀ f, 1 ≤ f → f ≤ 15 → (s.dev.fn f).st = .ready → (d.fn f).st = .shutdown ∧ (d.fn f).shut = .disable) ∧
    d.pln = s.dev.pln ∧ d.mgr.lastReset = s.dev.mgr.lastReset) ∧
  (∀ s : State, ∃ d, Completes (.perstN false) s d ∧ d = { s.dev with mgr := { s.dev.mgr with perstLow := false } }) ∧
  (∀ (s : State) (b : Bool), ∃ d, Completes (.pcieReferenceLoss b) s d ∧ d = { s.dev with mgr := { s.dev.mgr with ref100 := b } }) ∧
  (∀ (s : State) (g : Nat), (s.dev.fn (s.dev.ring g).owner).shut ≠ .none →
    ∃ d, Completes (.shutdownCompletionDiscard g) s d ∧ (∀ c ∈ (d.ring g).done, s.dev.glb.up < c.since + 1000000) ∧
      (∀ c ∈ (s.dev.ring g).done, s.dev.glb.up < c.since + 1000000 → c ∈ (d.ring g).done) ∧ (∀ j, j ≠ g → d.ring j = s.dev.ring j) ∧ d.regs = s.dev.regs))

/-- The stores and the log (R413 to R415, R418 to R420, R423): a flush writes every changed setting and is deferred while PFAIL_N is low, to run when it returns; the oldest waiting bit becomes a log entry with the next sequence number, or is merged once the second has had 1,024; the end of a second writes the merged counts; the two read commands answer the readings and the entries asked for, each entry that fails its check a mismatch on CHK0; while the management core has quiesced for a power state, or PFAIL_N is low, nothing new is written (R383). -/
def Obligations.StoresAndLogComplete : Prop :=
  (∀ s : State, s.dev.mgr.pfail = false → s.dev.mgrQuiet = false →
    ∃ d, Completes .settingsFlush s d ∧ d.mgr.dirty = [] ∧ d.mgr.lastFlush = s.dev.glb.up ∧ d.mgr.flushDeferred = false ∧
      (∀ k, tlook propReset d.mgr.saved k = if k ∈ s.dev.mgr.dirty then s.dev.written k else tlook propReset s.dev.mgr.saved k) ∧
      (s.dev.mgr.dirty ≠ [] → d.nvBusy = true) ∧ d = { s.dev with mgr := d.mgr, counts := d.counts, freeN := d.freeN }) ∧
  (∀ s : State, s.dev.mgr.pfail = true →
    ∃ d, Completes .settingsFlush s d ∧ d = { s.dev with mgr := { s.dev.mgr with flushDeferred := true }, counts := d.counts }) ∧
  (∀ s : State, ∃ d, Completes (.pfailN true) s d ∧ d = { s.dev with mgr := { s.dev.mgr with pfail := true } }) ∧
  (∀ s : State, ∃ d, Completes (.pfailN false) s d ∧ d.mgr.pfail = false ∧
    (s.dev.mgr.flushDeferred = true → d.mgr.dirty = [] ∧ d.mgr.flushDeferred = false) ∧
    (s.dev.mgr.flushDeferred = false → s.dev.mgr.heldCmds = [] → d = { s.dev with mgr := { s.dev.mgr with pfail := false }, counts := d.counts })) ∧
  (∀ (s : State) (e : LogEnt) (rest : List LogEnt), s.dev.mgr.logQ = e :: rest → s.dev.mgr.pfail = false → s.dev.mgrQuiet = false → s.dev.mgr.sec = s.now / 1000000000 →
    (s.dev.mgr.secCount < 1024 → ∃ d, Completes .logEntry s d ∧ tlook logReset d.mgr.log (s.dev.mgr.nextSeq % 49152) = { e with seq := s.dev.mgr.nextSeq } ∧
      d.mgr.nextSeq = (s.dev.mgr.nextSeq + 1) % 2 ^ 32 ∧ d.mgr.logQ = rest ∧ d.mgr.secCount = s.dev.mgr.secCount + 1 ∧
      (∀ k, k ≠ s.dev.mgr.nextSeq % 49152 → tlook logReset d.mgr.log k = tlook logReset s.dev.mgr.log k) ∧ d = { s.dev with mgr := d.mgr, counts := d.counts }) ∧
    (1024 ≤ s.dev.mgr.secCount → ∃ d, Completes .logEntry s d ∧ d.mgr.log = s.dev.mgr.log ∧ d.mgr.nextSeq = s.dev.mgr.nextSeq ∧ d.mgr.logQ = rest ∧
      tlook (fun _ => 0) d.mgr.merged e.block = tlook (fun _ => 0) s.dev.mgr.merged e.block + 1 ∧ d = { s.dev with mgr := d.mgr })) ∧
  (∀ (s : State) (b n : Nat), s.dev.mgr.merged = [(b, n)] → s.dev.mgr.pfail = false → s.dev.mgrQuiet = false →
    ∃ d, Completes .logOverflow s d ∧ d.mgr.merged = [] ∧ d.mgr.secCount = 0 ∧ d.mgr.nextSeq = (s.dev.mgr.nextSeq + 1) % 2 ^ 32 ∧ (d.reg 0x1000040).getLsbD 5 = true ∧
      tlook logReset d.mgr.log (s.dev.mgr.nextSeq % 49152) =
        { time := boundaryOf s.now, boot := s.dev.mgr.bootCount, block := b, kind := 1, detail := n, value := s.dev.reg (incAddr b), used := true, seq := s.dev.mgr.nextSeq }) ∧
  (∀ (s : State) (f : Nat) (req : List Word), Admitted s.dev f req 1 →
    ∃ d, Completes (.mgrSensorRead f req) s d ∧ Answered s.dev d s.now f req 0xA01 .ok
      (packReadings 8 8 3 (fun i => unsgn 8 (s.dev.temp i)) ++ packReadings 16 4 4 s.dev.milliVolt ++ packReadings 32 2 2 s.dev.milliAmp) ∧
      d = { s.dev with fns := d.fns, counts := d.counts }) ∧
  (∀ (s : State) (req : List Word) (count first old start : Nat) (es : List LogEnt), Admitted s.dev 0 req 2 → resv (wd req 1) [(63, 40)] = false →
    count = fld (wd req 1) 39 32 → first = fld (wd req 1) 31 0 → 1 ≤ count → count ≤ 63 → old = logOldest s.dev.mgr →
    start = (if (s.dev.mgr.nextSeq + 2 ^ 32 - old) % 2 ^ 32 < (s.dev.mgr.nextSeq + 2 ^ 32 - first) % 2 ^ 32 ∧ (s.dev.mgr.nextSeq + 2 ^ 32 - first) % 2 ^ 32 < 2 ^ 31 then old else first) →
    es = logFrom s.dev.mgr.log s.dev.mgr.nextSeq count start →
    ∃ d, Completes (.mgrLogRead 0 req) s d ∧ Answered s.dev d s.now 0 req 0xA02 .ok
      (packW [((s.dev.mgr.nextSeq + 2 ^ 32 - 1) % 2 ^ 32, 32, 0), (es.length, 8, 32)] :: es.flatMap logWords) ∧
      ((∃ e ∈ es, e.bad = true) → (d.chkUnit 0).mismatch = true ∧ (d.reg 0xC00040).getLsbD 0 = true) ∧
      ((∀ e ∈ es, e.bad = false) → d = { s.dev with fns := d.fns, counts := d.counts })) ∧
  (∀ s : State, s.dev.mgr.pfail = false → s.dev.mgrQuiet = true → Completes .settingsFlush s s.dev) ∧
  (∀ s : State, s.dev.mgr.pfail = true ∨ s.dev.mgrQuiet = true → Completes .logEntry s s.dev)

/-- Image commands (R412, R423): an image command with none in progress has PENDING and the NOR at work, the next one has PENDING and waits for its end, or for PFAIL_N; the end of its operation erases, writes, commits or confirms; an image below the floor has WRONG_STATE and sets ROLLBACK, one that fails its check has AUTH_FAIL, and a silent NOR gives TIMEOUT. -/
def Obligations.ImageCommandsComplete : Prop :=
  (∀ (s : State) (req : List Word), s.dev.mgr.nor = none → s.dev.mgr.pfail = false →
    (Admitted s.dev 0 req 1 → s.dev.trialRunning = false → ∃ d, Completes (.mgrImageBegin 0 req) s d ∧ Answered s.dev d s.now 0 req 0xA10 .pending [] ∧
      d.mgr = { s.dev.mgr with nor := some ⟨⟨.fn 0, reqTag req, 0xA10⟩, req⟩ } ∧ d = { s.dev with fns := d.fns, counts := d.counts, mgr := d.mgr }) ∧
    (∀ l, Admitted s.dev 0 req l → 3 ≤ l → resv (wd req 1) [(63, 25)] = false → imgOffset req % 8 = 0 → imgOffset req + 8 * imgN req ≤ 32505856 → s.dev.mgr.image.begun = true →
      s.dev.mgr.image.ranges.any (fun r => decide (imgOffset req < r.2) && decide (r.1 < imgOffset req + 8 * imgN req)) = false →
      ∃ d, Completes (.mgrImageWrite 0 req) s d ∧ Answered s.dev d s.now 0 req 0xA11 .pending [] ∧
      d.mgr = { s.dev.mgr with nor := some ⟨⟨.fn 0, reqTag req, 0xA11⟩, req⟩ } ∧ d = { s.dev with fns := d.fns, counts := d.counts, mgr := d.mgr }) ∧
    (Admitted s.dev 0 req 1 → s.dev.mgr.image.begun = true → ∃ d, Completes (.mgrImageCommit 0 req) s d ∧ Answered s.dev d s.now 0 req 0xA12 .pending [] ∧
      d.mgr = { s.dev.mgr with nor := some ⟨⟨.fn 0, reqTag req, 0xA12⟩, req⟩ } ∧ d = { s.dev with fns := d.fns, counts := d.counts, mgr := d.mgr }) ∧
    (Admitted s.dev 0 req 1 → s.dev.trialRunning = true → ∃ d, Completes (.mgrImageConfirm 0 req) s d ∧ Answered s.dev d s.now 0 req 0xA13 .pending [] ∧
      d.mgr = { s.dev.mgr with nor := some ⟨⟨.fn 0, reqTag req, 0xA13⟩, req⟩, confirmed := true } ∧ d = { s.dev with fns := d.fns, counts := d.counts, mgr := d.mgr })) ∧
  (∀ (s : State) (req : List Word), Admitted s.dev 0 req 1 → s.dev.mgr.nor.isSome = true → s.dev.mgr.pfail = false →
    ∃ d, Completes (.mgrImageBegin 0 req) s d ∧ d.mgr = { s.dev.mgr with heldCmds := s.dev.mgr.heldCmds ++ [⟨⟨.fn 0, reqTag req, 0xA10⟩, req⟩] } ∧
      Answered s.dev d s.now 0 req 0xA10 .pending []) ∧
  (∀ (s : State) (x : SlotCheck) (j : NorJob), s.dev.mgr.heldCmds = [j] → imageRefusal s.dev j.pend.op j.words true = none →
    (s.dev.mgr.nor.isSome = true → s.dev.mgr.pfail = false → ∃ d, Completes (.norOperationDone false x) s d ∧
      d.mgr = { s.dev.mgr with nor := some j, heldCmds := [], confirmed := s.dev.mgr.confirmed || j.pend.op == 0xA13 }) ∧
    (s.dev.mgr.nor = none → s.dev.mgr.flushDeferred = false → ∃ d, Completes (.pfailN false) s d ∧
      d.mgr = { s.dev.mgr with pfail := false, nor := some j, heldCmds := [], confirmed := s.dev.mgr.confirmed || j.pend.op == 0xA13 })) ∧
  (∀ (s : State) (tag op : Nat) (ws : List Word) (x : SlotCheck), s.dev.mgr.nor = some ⟨⟨.fn 0, tag, op⟩, ws⟩ → s.dev.mgr.heldCmds = [] → (s.dev.fn 0).tags.contains tag = true →
    (op = 0xA10 → ∃ d, Completes (.norOperationDone true x) s d ∧ d.mgr.nor = none ∧ d.mgr.image = { begun := true } ∧
      d.mgr.bootRec = { s.dev.mgr.bootRec.setSlot s.dev.otherSlot .empty 0 with seq := s.dev.mgr.bootRec.seq + 1 } ∧
      (d.fn 0).waiting = (s.dev.fn 0).waiting ++ [⟨[respHeader tag 1 0 op], true, beatNo s.now⟩]) ∧
    (op = 0xA11 → ∃ d, Completes (.norOperationDone true x) s d ∧ d.mgr = { s.dev.mgr with nor := none, image := { s.dev.mgr.image with ranges := (imgOffset ws, imgOffset ws + 8 * imgN ws) :: s.dev.mgr.image.ranges } } ∧
      (d.fn 0).waiting = (s.dev.fn 0).waiting ++ [⟨[respHeader tag 1 0 op], true, beatNo s.now⟩]) ∧
    (op = 0xA12 → s.dev.mgr.svnFloor ≤ x.svn → x.keyOk = true → x.sigOk = true → x.digestOk = true → ∃ d, Completes (.norOperationDone true x) s d ∧ d.mgr.nor = none ∧ d.mgr.image = {} ∧
      d.mgr.bootRec = { (s.dev.mgr.bootRec.setSlot s.dev.otherSlot .trial 3).setSvn s.dev.otherSlot x.svn with pref := s.dev.otherSlot, seq := s.dev.mgr.bootRec.seq + 1 } ∧
      (d.fn 0).waiting = (s.dev.fn 0).waiting ++ [⟨[respHeader tag 1 0 op], true, beatNo s.now⟩]) ∧
    (op = 0xA12 → x.svn < s.dev.mgr.svnFloor → ∃ d, Completes (.norOperationDone true x) s d ∧ d.mgr.bootRec = s.dev.mgr.bootRec ∧ (d.reg 0x1000040).getLsbD 8 = true ∧
      (d.fn 0).waiting = (s.dev.fn 0).waiting ++ [⟨[respHeader tag 1 10 op], true, beatNo s.now⟩]) ∧
    (op = 0xA12 → s.dev.mgr.svnFloor ≤ x.svn → (x.keyOk && x.sigOk && x.digestOk) = false → ∃ d, Completes (.norOperationDone true x) s d ∧ d.mgr = { s.dev.mgr with nor := none } ∧
      (d.fn 0).waiting = (s.dev.fn 0).waiting ++ [⟨[respHeader tag 1 13 op], true, beatNo s.now⟩]) ∧
    (op = 0xA13 → ∃ d, Completes (.norOperationDone true x) s d ∧ d.mgr.bootRec.st s.dev.mgr.slot = .good ∧
      d.mgr.svnFloor = Nat.max s.dev.mgr.svnFloor (Nat.min 63 (if s.dev.mgr.slot = 0 then s.dev.mgr.bootRec.svnA else s.dev.mgr.bootRec.svnB)) ∧
      (d.fn 0).waiting = (s.dev.fn 0).waiting ++ [⟨[respHeader tag 1 0 op], true, beatNo s.now⟩]) ∧
    (∃ d, Completes (.norOperationDone false x) s d ∧ d.mgr = { s.dev.mgr with nor := none } ∧
      (d.fn 0).waiting = (s.dev.fn 0).waiting ++ [⟨[respHeader tag 1 11 op], true, beatNo s.now⟩]))

/-- The Turnstile's counting and records (R424 to R428, R431, R432): inside its period an entry adds its octets, or its airtime whole, to the tenant's counters, or is lost at a full FIFO; the shares of an airtime add up to it; at END the record closes with its HMAC and the next one opens with what the rounding to µs left; an uncounted entry, or one without VDD_TS, changes nothing. -/
def Obligations.MeteringCompletes : Prop :=
  (∀ (s : State) (tt stamp r ten n : Nat), s.dev.running = true → s.dev.glb.tsPresent = true → s.dev.ts.vdd ≠ .lost → tt < tsEnd s.dev.ts →
    (∃ d, Completes (.tapEntry tt stamp (.down r ten n) false) s d ∧
      (tlook (fun _ => ({} : TapCount)) d.ts.counts (3 * ten + r)).down = (tlook (fun _ => ({} : TapCount)) s.dev.ts.counts (3 * ten + r)).down + n ∧
      (∀ k, k ≠ 3 * ten + r → tlook (fun _ => ({} : TapCount)) d.ts.counts k = tlook (fun _ => ({} : TapCount)) s.dev.ts.counts k) ∧
      d.ts = { s.dev.ts with time := Nat.max s.dev.ts.time tt, counts := d.ts.counts, any := true, showFirst := if s.dev.ts.any then s.dev.ts.showFirst else stamp, showLast := stamp } ∧
      d = { s.dev with ts := d.ts }) ∧
    (∃ d, Completes (.tapEntry tt stamp (.up r ten n) false) s d ∧
      (tlook (fun _ => ({} : TapCount)) d.ts.counts (3 * ten + r)).up = (tlook (fun _ => ({} : TapCount)) s.dev.ts.counts (3 * ten + r)).up + n) ∧
    (∀ (w st : Nat) (eq recv : Bool), 0 < w → 0 < st → ∃ d, Completes (.tapEntry tt stamp (.airtime r n eq recv true [⟨ten, w, st⟩]) false) s d ∧
      (tlook (fun _ => ({} : TapCount)) d.ts.counts (3 * ten + r)).ns = (tlook (fun _ => ({} : TapCount)) s.dev.ts.counts (3 * ten + r)).ns + n ∧
      (∀ k, k ≠ 3 * ten + r → tlook (fun _ => ({} : TapCount)) d.ts.counts k = tlook (fun _ => ({} : TapCount)) s.dev.ts.counts k)) ∧
    (∃ d, Completes (.tapEntry tt stamp (.down r ten n) true) s d ∧
      d = { s.dev with ts := { s.dev.ts with time := Nat.max s.dev.ts.time tt, lost := (s.dev.ts.lost + 1) % 2 ^ 32 } })) ∧
  (∀ (eq : Bool) (ns : Nat) (us : List TapUser), us ≠ [] → sumN ((giveRest ns (tapShares eq ns us)).map (·.2)) = ns) ∧
  (∀ (s : State) (tt stamp r ns : Nat) (eq full : Bool) (us : List TapUser), Completes (.tapEntry tt stamp (.airtime r ns eq true false us) full) s s.dev) ∧
  (∀ (s : State) (tt stamp : Nat) (e : TapEvent) (full : Bool), s.dev.ts.vdd = .lost → Completes (.tapEntry tt stamp e full) s s.dev) ∧
  (∀ (s : State) (ok : Bool), s.dev.glb.tsPresent = true → s.dev.ts.vdd = .good → ∃ d r, Completes (.recordClose ok) s d ∧ d.ts.ring.getLast? = some r ∧
    r.seq = s.dev.ts.seq ∧ r.start = s.dev.ts.start ∧ r.fin = s.dev.ts.start + s.dev.ts.period * 60 * 32768 ∧ r.counts = s.dev.ts.counts ∧ r.lost = s.dev.ts.lost ∧
    r.prevMac = s.dev.ts.prevMac ∧ r.lineOk = ok ∧ r.mac = hmac256 tsKey (wordOctets (recBody { r with mac := [] })) ∧
    d.ts.prevMac = ofLe (r.mac.take 8) ∧ d.ts.seq = (s.dev.ts.seq + 1) % 2 ^ 32 ∧ d.ts.start = r.fin ∧ d.ts.lost = 0 ∧ d.ts.ring.length ≤ 144 ∧
    (∀ k, tlook (fun _ => ({} : TapCount)) d.ts.counts k = { ns := (tlook (fun _ => ({} : TapCount)) s.dev.ts.counts k).ns % 1000 }) ∧
    d = { s.dev with ts := d.ts })

/-- VDD_TS, the strap and the one-way link (R435 to R438, R442): below the warning level no record is written, and those that waited are written above it; a loss drops the open record, and on return time resumes from the last record's END with POWER_GAP; closing the strap is seen by the open record; a mirrored record comes to the chip side with its incident bits, and a time report brings the status. The verification port (R440, R441): with the port awake, each request's answer is the frame of R441; WRITE_CONFIG is staged only under the closed strap; a frame that is not good is discarded without a response and the port waits for silence. -/
def Obligations.TurnstileSupplyAndPortComplete : Prop :=
  (
  (∀ s : State, s.dev.glb.tsPresent = true →
    (s.dev.ts.vdd = .good → ∃ d, Completes (.vddTsWarning true) s d ∧ d = { s.dev with ts := { s.dev.ts with vdd := .warning } }) ∧
    (s.dev.ts.vdd = .warning → s.dev.ts.ring.length + s.dev.ts.unwritten.length ≤ 144 → ∃ d, Completes (.vddTsWarning false) s d ∧
      d = { s.dev with ts := { s.dev.ts with vdd := .good, ring := s.dev.ts.ring ++ s.dev.ts.unwritten, unwritten := [] } }) ∧
    (∃ d, Completes .vddTsLoss s d ∧ d = { s.dev with ts := { s.dev.ts with vdd := .lost, counts := [], lost := 0, unwritten := [], any := false, showFirst := 0, showLast := 0, mirror := { s.dev.ts.mirror with present := false, running := false } } }) ∧
    (∀ r, s.dev.ts.vdd = .lost → s.dev.ts.ring.getLast? = some r → ∃ d, Completes .vddTsReturn s d ∧ d.ts.vdd = .good ∧ d.ts.time = r.fin ∧ d.ts.start = r.fin ∧ d.ts.seq = (r.seq + 1) % 2 ^ 32 ∧
      d.ts.powerGap = true ∧ d.ts.counts = [] ∧ d.ts.ring = s.dev.ts.ring ∧ d.ts.prevMac = ofLe (r.mac.take 8) ∧ d = { s.dev with ts := d.ts }) ∧
    (∀ b, ∃ d, Completes (.tsSeal b) s d ∧ d = { s.dev with ts := { s.dev.ts with closed := b, sealSeen := s.dev.ts.sealSeen || b } }) ∧
    (∀ seq r, s.dev.ts.vdd ≠ .lost → s.dev.ts.ring.find? (fun q => q.seq == seq) = some r → s.dev.ts.mirror.recs.length < 32 →
      ∃ d, Completes (.recordMirror seq) s d ∧ r ∈ d.ts.mirror.recs ∧ d.ts.mirror.present = true ∧ d.ts.ring = s.dev.ts.ring ∧
        (r.lost ≠ 0 → (d.reg 0x1100040).getLsbD 0 = true) ∧ (r.powerGap = true → (d.reg 0x1100040).getLsbD 1 = true) ∧ (r.sealOpen = true → (d.reg 0x1100040).getLsbD 2 = true) ∧
        (r.configChanged = true → (d.reg 0x1100040).getLsbD 3 = true) ∧ (r.lineOk = false → (d.reg 0x1100040).getLsbD 4 = true)) ∧
    (∀ tt, s.dev.ts.vdd = .good → tt < tsEnd s.dev.ts → s.dev.ts.closed = false → ∃ d, Completes (.tsTimeReport tt) s d ∧
      d = { s.dev with ts := { s.dev.ts with time := Nat.max s.dev.ts.time tt, mirror := { s.dev.ts.mirror with
        present := true, running := true, sealClosed := false, staged := s.dev.ts.staged.isSome, period := s.dev.ts.period, configSeq := s.dev.ts.configSeq, site := s.dev.ts.site, time := Nat.max s.dev.ts.time tt } } })) ∧
  (∀ s : State, s.dev.glb.tsPresent = false → Completes .vddTsLoss s s.dev ∧ Completes (.tsSeal true) s s.dev ∧ Completes (.recordClose true) s s.dev)) ∧
  (
  (∀ (s : State) (tt : Nat), s.dev.glb.tsPresent = true → s.dev.ts.vdd ≠ .lost → tt < tsEnd s.dev.ts → s.dev.ts.awaitQuiet = false →
    (∃ d, Completes (.ident tt []) s d ∧ d.ts.response = portFrame 0x81 (beBytes 0 1 ++ (beBytes Config.serial.toNat 4 ++ beBytes s.dev.ts.site 4 ++ beBytes Config.tsRom.toNat 2 ++
      beBytes (Nat.max s.dev.ts.time tt) 8 ++ beBytes (b2n s.dev.ts.closed) 1)) ∧ d = { s.dev with ts := d.ts }) ∧
    (∀ p r, p.length = 4 → s.dev.ts.ring.find? (fun q => q.seq == ofBe p) = some r → r.lineOk = true →
      ∃ d, Completes (.readRecord tt p) s d ∧ d.ts.response = portFrame 0x82 (beBytes 0 1 ++ wordOctets (recWords r)) ∧ d.ts.ring = s.dev.ts.ring ∧ d = { s.dev with ts := d.ts }) ∧
    (∃ d, Completes (.readConfig tt []) s d ∧ d.ts.response = portFrame 0x83 (beBytes 0 1 ++ (beBytes s.dev.ts.period 1 ++ beBytes s.dev.ts.site 4 ++ beBytes s.dev.ts.configSeq 2 ++ beBytes (b2n s.dev.ts.staged.isSome) 1)) ∧
      d = { s.dev with ts := d.ts }) ∧
    (∀ p, p.length = 5 → 1 ≤ ofBe (p.take 1) → ofBe (p.take 1) ≤ 60 →
      (s.dev.ts.closed = true → ∃ d, Completes (.writeConfig tt p) s d ∧ d.ts.staged = some (ofBe (p.take 1), ofBe (p.drop 1)) ∧ d.ts.response = portFrame 0x90 (beBytes 0 1) ∧
        d.ts.period = s.dev.ts.period ∧ d.ts.site = s.dev.ts.site ∧ d = { s.dev with ts := d.ts }) ∧
      (s.dev.ts.closed = false → ∃ d, Completes (.writeConfig tt p) s d ∧ d.ts.staged = s.dev.ts.staged ∧ d.ts.response = portFrame 0x90 (beBytes 9 1))) ∧
    (∀ l, portGood l = false → ∃ d, Completes (.portFrameDiscard tt l) s d ∧
      d = { s.dev with ts := { s.dev.ts with time := Nat.max s.dev.ts.time tt, awaitQuiet := true, lastOctet := tt, response := [] } })) ∧
  (∀ (s : State) (f : Nat) (req : List Word), Admitted s.dev f req 1 → s.dev.glb.tsPresent = true → s.dev.ts.mirror.recs ≠ [] →
    ∃ d, Completes (.tsStatusRead f req) s d ∧ Answered s.dev d s.now f req 0xA20 .ok [BitVec.ofNat 64 s.dev.ts.mirror.time,
      packW [(oldestSeq s.dev.ts.mirror, 32, 0), (newestSeq s.dev.ts.mirror, 32, 32)], packW [(s.dev.ts.mirror.site, 32, 0), (s.dev.tsStatus.toNat, 32, 32)]] ∧
      d = { s.dev with fns := d.fns, counts := d.counts }) ∧
  (∀ (s : State) (f : Nat) (req : List Word) (r : TsRec), Admitted s.dev f req 2 → resv (wd req 1) [(63, 32)] = false → s.dev.glb.tsPresent = true →
    s.dev.ts.mirror.recs.find? (fun r => r.seq == fld (wd req 1) 31 0) = some r →
    ∃ d, Completes (.tsRecordRead f req) s d ∧ Answered s.dev d s.now f req 0xA21 (if r.lineOk then .ok else .integrity) (recWords r) ∧
      d = { s.dev with fns := d.fns, counts := d.counts }))

/-- The dailies (R446, R448 to R453): the boundary that begins a tick snapshots every counter and puts the written filters in force; a peek returns a counter's low half and latches its high half; a snapshot and a rate are answered from the ring. -/
def Obligations.DailiesComplete : Prop :=
  (∀ (s : State) (late : Bool) (n : Nat), 1024000 ≤ s.now → s.dev.gaf.state = .show' → s.dev.mem.hbmFailed = false → n = (tickOf s.now + 2 ^ 48 - 1) % 2 ^ 48 → s.dev.dly.newest ≠ some n →
    ∃ d, Completes (.snapshot late) s d ∧ d.dly.newest = some n ∧
      d.snapAt n = { held := true, tick := n, boot := s.dev.mgr.bootCount, showTime := s.now, filterChanged := s.dev.dly.changed, step := s.dev.dly.stepped, gap := decide (s.dev.dly.newest ≠ some ((n + 2 ^ 48 - 1) % 2 ^ 48)), counts := s.dev.counts } ∧
      (∀ m, m % 16384 ≠ n % 16384 → d.snapAt m = s.dev.snapAt m) ∧
      (∀ k i, k < 16 → i < 3 → tlook (fun _ => (0 : Reg)) d.dly.filt (3 * k + i) = s.dev.filterWritten k i) ∧
      (late = true → (d.reg 0x1200040).getLsbD 0 = true) ∧ (late = false → d.regs = s.dev.regs)) ∧
  (∀ (s : State) (m : Master), s.dev.stopped m = false → ∃ d, Completes (.peekRead m) s d ∧
    d.lastRead m = (BitVec.ofNat 32 (s.dev.counter (s.dev.peeked m).1 (s.dev.peeked m).2) : Reg).setWidth 64 ∧
    d.peekHiReg m = BitVec.ofNat 32 (s.dev.counter (s.dev.peeked m).1 (s.dev.peeked m).2 / 2 ^ 32) ∧
    d = { s.dev with glb := d.glb, dly := d.dly, counts := d.counts }) ∧
  (∀ (s : State) (f : Nat) (req : List Word) (bank : Nat) (x : Snap), Admitted s.dev f req 2 → resv (wd req 1) [(63, 54)] = false → bank = fld (wd req 1) 53 48 →
    (f = 0 ∨ bank = 2 + f) → 1 ≤ bank → bank ≤ 45 → (s.dev.namedTick (fld (wd req 1) 47 0)).bind s.dev.snapOf = some x →
    ∃ d, Completes (.dlySnapRead f req) s d ∧ Answered s.dev d s.now f req 0xA30 .ok (x.header ++ (List.range 32).map (fun i => BitVec.ofNat 64 (x.counter bank i))) ∧
      d = { s.dev with fns := d.fns, counts := d.counts }) ∧
  (∀ (s : State) (f : Nat) (req : List Word) (w kind ix e n : Nat), Admitted s.dev f req 3 → resv (wd req 1) [(63, 48)] = false → resv (wd req 2) [(63, 21), (5, 5)] = false →
    w = fld (wd req 2) 20 8 → kind = fld (wd req 2) 7 6 → ix = fld (wd req 2) 3 0 → (f = 0 ∨ (kind = 2 ∧ ix = f)) → 1 ≤ w → w ≤ 4096 → ix ≤ rateMax kind →
    s.dev.namedTick (fld (wd req 1) 47 0) = some e → s.dev.windowOk e w kind ix = true → n = s.dev.windowOctets e w kind ix (nbit (wd req 2).toNat 4) →
    ∃ d, Completes (.dlyRate f req) s d ∧ Answered s.dev d s.now f req 0xA31 .ok [BitVec.ofNat 64 e, BitVec.ofNat 64 n, packW [(rateKbs n w, 40, 0)]] ∧
      d = { s.dev with fns := d.fns, counts := d.counts })

/-- The test access port (R469 to R471): outside a scan each instruction selects its data register; a scan instruction drives the pins with D2 to D11 held in reset and the management core stopped, and the first other instruction performs a warm reset with SCAN_RESET. The debug access port (R472 to R474): it connects in DEVELOPMENT and after UNLOCK in PRODUCTION, never in RMA; UNLOCK's challenge carries SERIAL and the lifecycle, and none is given after three failures; a good signature opens the port, a bad one is counted and sets UNLOCK_FAIL; the connected port halts and resumes a core. -/
def Obligations.TestAndDebugPortsComplete : Prop :=
  (
  (∀ s : State, s.dev.tst.scanning = false →
    (∃ d, Completes .idcode s d ∧ d = { s.dev with tst := { s.dev.tst with instr := 0x01, captured := 0x2934847B, highz := false, connected := false, wrote := false } }) ∧
    (∃ d, Completes .tapReset s d ∧ d = { s.dev with counts := d.counts, tst := { s.dev.tst with instr := 0x01, captured := 0x2934847B, highz := false, connected := false, wrote := false } }) ∧
    (∀ p, ∃ d, Completes (.samplePreload p) s d ∧ d.tst = { s.dev.tst with instr := 0x02, captured := d.tst.captured, boundary := p, highz := false, connected := false, wrote := false } ∧
      d = { s.dev with tst := d.tst, freeN := d.freeN }) ∧
    (∀ c, ∃ d, Completes (.bypass c) s d ∧ d = { s.dev with tst := { s.dev.tst with instr := 0xFF, captured := 0, highz := false, connected := false, wrote := false } }) ∧
    (∃ d, Completes .lcStatus s d ∧ d = { s.dev with tst := { s.dev.tst with instr := 0x21, highz := false, connected := false, wrote := false, captured := (packR [(s.dev.tst.life, 2, 0), (b2n s.dev.tst.unlocked, 1, 8), (0, 1, 9)]).toNat } })) ∧
  (∀ s : State, (∀ c, c ∈ [Instr.extest, .extestPulse, .extestTrain, .clamp, .highz] →
    ∃ d, Completes c s d ∧ d.tst.scanning = true ∧ d.gaf.held = true ∧ d.running = false ∧ d.mgrStopped = true ∧ d.tst.connected = false ∧ (d.tst.highz = decide (c = .highz)) ∧
      d.ts = { s.dev.ts with chipDark := true } ∧ d.regs = s.dev.regs ∧ d.fns = s.dev.fns)) ∧
  (∀ s : State, s.dev.tst.scanning = true → s.dev.nvBusy = false → s.dev.mgr.lowRails = [] → s.dev.justReset = false → ∀ c, c ∈ [Instr.idcode, .tapReset, .bypass 0xFF] →
    ∃ d, Completes c s d ∧ d.tst.scanning = false ∧ d.gaf.held = false ∧ d.mgr.booted = false ∧ d.fns = [] ∧ (d.reg 0x1300040).getLsbD 1 = true)) ∧
  (
  (∀ s : State, s.dev.tst.scanning = false →
    ∃ d, Completes .dapAccess s d ∧ d.tst = { s.dev.tst with instr := 0x20, highz := false, connected := s.dev.dapOpen, wrote := s.dev.tst.wrote && s.dev.tst.connected && s.dev.dapOpen } ∧
      d = { s.dev with tst := d.tst, counts := d.counts }) ∧
  (∀ s : State, s.dev.tst.scanning = false → s.dev.tst.fails < 3 →
    ∃ d c, Completes .unlock s d ∧ d.tst.challenge = some c ∧ d.tst.captured = c ∧ c / 2 ^ 160 = Config.serial.toNat ∧
      c % 2 ^ 32 = (packR [(s.dev.tst.life, 2, 0), (b2n s.dev.tst.unlocked, 1, 8), (0, 1, 9)]).toNat ∧ d.tst.fails = s.dev.tst.fails ∧ d.tst.unlocked = s.dev.tst.unlocked) ∧
  (∀ s : State, s.dev.tst.scanning = false → 3 ≤ s.dev.tst.fails → ∃ d, Completes .unlock s d ∧ d.tst.challenge = none) ∧
  (∀ (s : State) (c : Nat), s.dev.tst.challenge = some c →
    (∃ d, Completes (.unlockVerify true true) s d ∧ d = { s.dev with tst := { s.dev.tst with challenge := none, unlocked := true } }) ∧
    (∀ k g, (k && g) = false → ∃ d, Completes (.unlockVerify k g) s d ∧ d.tst = { s.dev.tst with challenge := none, fails := s.dev.tst.fails + 1 } ∧ (d.reg 0x1300040).getLsbD 0 = true)) ∧
  (∀ (s : State) (k g : Bool), s.dev.tst.challenge = none → Completes (.unlockVerify k g) s s.dev) ∧
  (∀ s : State, s.dev.tst.connected = true →
    (∀ c, ∃ d, Completes (.coreHalt (some c)) s d ∧ d.core c = { s.dev.core c with halted := true } ∧ (∀ j, j ≠ c → d.core j = s.dev.core j) ∧ (d.reg 0x1300040).getLsbD 3 = true) ∧
    (∃ d, Completes (.coreHalt none) s d ∧ d.mgr.halted = true ∧ d.mgrStopped = true ∧ d.rgm = s.dev.rgm ∧ (d.reg 0x1300040).getLsbD 3 = true) ∧
    (∀ c, ∃ d, Completes (.coreResume (some c)) s d ∧ d.core c = { s.dev.core c with halted := false } ∧ (∀ j, j ≠ c → d.core j = s.dev.core j) ∧ d = { s.dev with rgm := d.rgm, counts := d.counts }) ∧
    (∃ d, Completes (.coreResume none) s d ∧ d = { s.dev with mgr := { s.dev.mgr with halted := false, missed := 0 }, counts := d.counts })) ∧
  (∀ (s : State) (x : Option Nat), s.dev.tst.connected = false →
    (∃ d, Completes (.coreHalt x) s d ∧ d = { s.dev with counts := d.counts }) ∧ (∃ d, Completes (.coreResume x) s d ∧ d = { s.dev with counts := d.counts })))

/-- Key slots (R328 to R331, R343): a WCX_KEY_WRITE that passes its rows is staged in the slot asked for or in the lowest free one, one that does not is answered with the row's status and changes no slot; an erase is staged; the commit puts the contents in force, answers and counts; a query answers everything but the key; MACsec of a port is set, or taken off with its slots. -/
def Obligations.KeySlotsComplete : Prop :=
  (∀ (s : State) (f : Nat) (req : List Word) (n : Nat), Admitted s.dev f req 12 → resv (wd req 1) [(63, 60), (55, 52), (31, 14)] = false → resv (wd req 5) [(31, 0)] = false → resv (wd req 7) [(31, 0)] = false →
    (s.dev.keyJudge (.fn f) req = none → n = (if fld (wd req 1) 13 0 = 0x3FFF then s.dev.lowestSlot.getD 0 else fld (wd req 1) 13 0) →
      ∃ d, Completes (.wcxKeyWrite f req) s d ∧
        d.wcx = { s.dev.wcx with staged := s.dev.wcx.staged ++ [⟨n, some (keyOfReq (.fn f) req), beatNo s.dev.glb.up, some ⟨.fn f, reqTag req, 0x700⟩⟩] } ∧
        (d.fn f).tags = (s.dev.fn f).tags ++ [reqTag req] ∧ (d.fn f).waiting = (s.dev.fn f).waiting ∧ (∀ j, j ≠ f → d.fn j = s.dev.fn j) ∧
        d = { s.dev with fns := d.fns, counts := d.counts, wcx := d.wcx, claims := d.claims }) ∧
    (∀ st, s.dev.keyJudge (.fn f) req = some st →
      ∃ d, Completes (.wcxKeyWrite f req) s d ∧ Answered s.dev d s.now f req 0x700 st [] ∧ d = { s.dev with fns := d.fns, counts := d.counts })) ∧
  (∀ (s : State) (f : Nat) (req : List Word) (n : Nat), Admitted s.dev f req 2 → resv (wd req 1) [(63, 14)] = false → n = fld (wd req 1) 13 0 → n < keySlots → (s.dev.slotView n).used = true →
    (f = 0 ∨ (s.dev.slotView n).tenant = f) → s.dev.claimed .keySlot (2 * n) = false →
    ∃ d, Completes (.wcxKeyErase f req) s d ∧ d.wcx = { s.dev.wcx with staged := s.dev.wcx.staged ++ [⟨n, none, beatNo s.dev.glb.up, some ⟨.fn f, reqTag req, 0x701⟩⟩] } ∧
      (d.fn f).waiting = (s.dev.fn f).waiting ∧ d = { s.dev with fns := d.fns, counts := d.counts, wcx := d.wcx, claims := d.claims }) ∧
  (∀ (s : State) (f : Nat) (req : List Word) (n : Nat) (x : KeySlot), Admitted s.dev f req 2 → resv (wd req 1) [(63, 14)] = false → n = fld (wd req 1) 13 0 → n < keySlots → x = s.dev.slot n →
    (f = 0 ∨ x.tenant = f) →
    (x.used = true → ∃ d, Completes (.wcxKeyQuery f req) s d ∧ Answered s.dev d s.now f req 0x702 .ok
      [packW [(n, 14, 0), (x.bss, 6, 32), (x.port, 2, 38), (x.keyId, 3, 40), (b2n x.txActive, 1, 43), (x.alg, 4, 44), (x.kind, 4, 48), (x.tenant, 4, 56)],
        BitVec.ofNat 64 x.txPn, BitVec.ofNat 64 x.top, BitVec.ofNat 64 x.bind, packW [(x.commitTick, 48, 0)]] ∧ d = { s.dev with fns := d.fns, counts := d.counts }) ∧
    (x.used = false → ∃ d, Completes (.wcxKeyQuery f req) s d ∧ Answered s.dev d s.now f req 0x702 .slotEmpty [])) ∧
  (∀ (s : State) (n b f tag op : Nat) (e : Option KeySlot), s.dev.wcx.staged = [⟨n, e, b, some ⟨.fn f, tag, op⟩⟩] → b < beatNo s.dev.glb.up → (s.dev.fn f).tags.contains tag = true →
    (∀ k, e = some k → ∃ d, Completes .keyCommit s d ∧ d.slot n = { k with commitTick := tickOf s.now, gen := s.dev.wcx.nextId } ∧ d.wcx.staged = [] ∧
      (k.txActive = false → ∀ j, j ≠ n → d.slot j = s.dev.slot j) ∧ (∀ j, j ≠ n → (d.slot j).key = (s.dev.slot j).key) ∧
      (k.txActive = true → ∀ j, j ≠ n → sameTx k (s.dev.slot j) = true → (d.slot j).txActive = false) ∧
      (k.kind = 0 → (s.dev.sta k.bind).used = true → (d.sta k.bind).ptk = n) ∧
      (d.fn f).waiting = (s.dev.fn f).waiting ++ [⟨[respHeader tag 2 0 op, packW [(n, 14, 0)]], true, beatNo s.now⟩]) ∧
    (e = none → ∃ d, Completes .keyCommit s d ∧ d.slot n = {} ∧ d.wcx.staged = [] ∧ (∀ j, j ≠ n → d.slot j = s.dev.slot j) ∧
      (d.fn f).waiting = (s.dev.fn f).waiting ++ [⟨[respHeader tag 1 0 op], true, beatNo s.now⟩])) ∧
  (∀ (s : State) (req : List Word) (p : Nat), Admitted s.dev 0 req 3 → resv (wd req 1) [(31, 9), (7, 2)] = false → p = fld (wd req 1) 1 0 → (s.dev.reg (emacAddr p 0)).getLsbD 31 = false → s.dev.claimed .macsec p = false →
    (nbit (wd req 1).toNat 8 = true → s.dev.macsecLoad p ≤ 400 → ∃ d, Completes (.wcxMacsecPort 0 req) s d ∧ Answered s.dev d s.now 0 req 0x710 .ok [] ∧
      (d.secy p).en = true ∧ (d.secy p).window = fld (wd req 1) 63 32 ∧ (∀ q, q ≠ p → d.secy q = s.dev.secy q) ∧ d.wcx = { s.dev.wcx with macsec := d.wcx.macsec }) ∧
    (nbit (wd req 1).toNat 8 = false → ∃ d, Completes (.wcxMacsecPort 0 req) s d ∧ Answered s.dev d s.now 0 req 0x710 .ok [] ∧ (d.secy p).en = false ∧ d.wcx.slots = s.dev.wcx.slots ∧
      (∀ n, (s.dev.slotView n).used = true → 4 ≤ (s.dev.slotView n).kind → (s.dev.slotView n).port = p → (d.slotView n).used = false) ∧
      (∀ n, (s.dev.slotView n).kind < 4 ∨ (s.dev.slotView n).port ≠ p → d.slotView n = s.dev.slotView n)))

/-- Cipher operations (R324, R327, R329 to R334) (with no operation waiting and a core free): a wireless transmit operation takes its slot's TX_PN and a core; one without a key changes no slot; a receive operation takes the oldest frame held for it, hold space and a core, and latches the slot, or is counted as NO_KEY or refused at a full hold, and without such a frame it does nothing; a MACsec transmit operation protects the frame at the head that wants it; a transmit operation's end frees its core; a receive verdict that fails drops and counts, a replayed PN too, a good one advances the counter it met. -/
def Obligations.CipherOperationsComplete : Prop :=
  (∀ (s : State) (op : CipherOp) (n : Nat), s.dev.wcx.waits = [] → s.dev.coreFree = true → op.cls = 1 → s.dev.wlanTxSlot op = some n → (s.dev.slot n).used = true → (s.dev.slot n).txPn < pnMax (s.dev.slot n).alg → wlanLenOk (s.dev.slot n).alg op = true →
    ∃ d, Completes (.cipherLatch op) s d ∧ d.slot n = { s.dev.slot n with txPn := (s.dev.slot n).txPn + 1 } ∧ (∀ j, j ≠ n → d.slot j = s.dev.slot j) ∧ d.wcx.staged = s.dev.wcx.staged ∧
      d.wcx.runs = s.dev.wcx.runs ++ [⟨s.dev.wcx.nextId, op, n, s.dev.slot n, 0, none, none⟩]) ∧
  (∀ (s : State) (op : CipherOp) (n : Nat), s.dev.wcx.waits = [] → s.dev.coreFree = true → op.cls = 1 → s.dev.wlanTxSlot op = some n → (s.dev.slot n).used = true → (s.dev.slot n).txPn = pnMax (s.dev.slot n).alg → wlanLenOk (s.dev.slot n).alg op = true →
    ∃ d, Completes (.cipherLatch op) s d ∧ d.wcx.staged = s.dev.wcx.staged ++ [⟨n, none, beatNo s.dev.glb.up, none⟩] ∧ (d.reg 0xB00040).getLsbD 6 = true) ∧
  (∀ (s : State) (op : CipherOp), s.dev.wcx.waits = [] → s.dev.coreFree = true → op.cls = 1 → s.dev.wlanTxSlot op = none → ∃ d, Completes (.cipherLatch op) s d ∧ d.wcx = s.dev.wcx) ∧
  (∀ (s : State) (op : CipherOp) (u : Unverified), s.dev.wcx.waits = [] → s.dev.coreFree = true → op.cls = 2 → s.dev.presented op = some u → (s.dev.sta op.sid).ptk < keySlots → (s.dev.slot (s.dev.sta op.sid).ptk).used = true →
    wlanLenOk (s.dev.slot (s.dev.sta op.sid).ptk).alg op = true →
    (s.dev.holdUse + cellsOf op.len ≤ holdCells → ∃ d, Completes (.cipherLatch op) s d ∧
      d.wcx = { s.dev.wcx with nextId := s.dev.wcx.nextId + 1, runs := s.dev.wcx.runs ++ [⟨s.dev.wcx.nextId, op, (s.dev.sta op.sid).ptk, s.dev.slot (s.dev.sta op.sid).ptk, cellsOf op.len, none, none⟩] } ∧
      { u with run := some s.dev.wcx.nextId } ∈ d.mac.unverified ∧ d.mac.unverified.length = s.dev.mac.unverified.length ∧
      d = { s.dev with wcx := d.wcx, mac := { s.dev.mac with unverified := d.mac.unverified }, counts := d.counts }) ∧
    (holdCells < s.dev.holdUse + cellsOf op.len → ∃ d, Completes (.cipherLatch op) s d ∧ d.wcx = s.dev.wcx ∧ (d.reg 0xB00040).getLsbD 4 = true)) ∧
  (∀ (s : State) (op : CipherOp) (u : Unverified), s.dev.wcx.waits = [] → s.dev.coreFree = true → op.cls = 2 → s.dev.presented op = some u → keySlots ≤ (s.dev.sta op.sid).ptk →
    ∃ d, Completes (.cipherLatch op) s d ∧ d.wcx = s.dev.wcx ∧ (d.reg 0xB00040).getLsbD 2 = true) ∧
  (∀ (s : State) (op : CipherOp), s.dev.wcx.waits = [] → s.dev.coreFree = true → op.cls = 2 → s.dev.presented op = none → Completes (.cipherLatch op) s s.dev) ∧
  (∀ (s : State) (op : CipherOp) (x : Pkt) (k : Nat), s.dev.wcx.waits = [] → s.dev.coreFree = true → op.cls = 3 → ((s.dev.port op.unit).queue op.tid).find? (fun y => s.dev.wantsSec op.unit y) = some x → s.dev.txSa op.unit = some k →
    (s.dev.slot k).used = true → (s.dev.slot k).txPn < pnMax (s.dev.slot k).alg → 13 ≤ x.octets.length → x.octets.length ≤ 9180 →
    ∃ d, Completes (.cipherLatch op) s d ∧ (d.slot k).txPn = (s.dev.slot k).txPn + 1 ∧
      { x with octets := protect (s.dev.slot k) x.octets, sec := true } ∈ (d.port op.unit).queue op.tid ∧
      ((d.port op.unit).queue op.tid).length = ((s.dev.port op.unit).queue op.tid).length) ∧
  (∀ (s : State) (op : CipherOp), s.dev.wcx.waits = [] → s.dev.coreFree = true → op.cls = 4 → (s.dev.port op.unit).rx.find? (fun e => s.dev.wantsSec op.unit e.2) = none → Completes (.cipherLatch op) s s.dev) ∧
  (∀ (s : State) (x : CipherRun) (b : Bool), s.dev.wcx.waits = [] → s.dev.wcx.runs.find? (fun y => y.id == x.id) = some x → x.op.cls = 1 ∨ x.op.cls = 3 →
    ∃ d, Completes (.cipherVerdict x.id b) s d ∧ d = { s.dev with wcx := { s.dev.wcx with runs := d.wcx.runs } } ∧ (∀ y ∈ d.wcx.runs, y.id ≠ x.id ∧ y ∈ s.dev.wcx.runs)) ∧
  (∀ (s : State) (x : CipherRun) (id : Nat), s.dev.wcx.waits = [] → s.dev.wcx.runs = [x] → x.id = id → x.op.cls = 2 ∨ x.op.cls = 4 →
    (∃ d, Completes (.cipherVerdict id false) s d ∧ d.wcx.runs = [] ∧ d.wcx.slots = s.dev.wcx.slots ∧ (d.reg 0xB00040).getLsbD 0 = true) ∧
    (replayOk (s.dev.runSlot x) x.op = false → ∃ d, Completes (.cipherVerdict id true) s d ∧ d.wcx.runs = [] ∧ d.wcx.slots = s.dev.wcx.slots ∧ (d.reg 0xB00040).getLsbD 1 = true) ∧
    (replayOk (s.dev.runSlot x) x.op = true → (s.dev.slot x.slotNo).used = true → (s.dev.slot x.slotNo).gen = x.slot.gen →
      ∃ d, Completes (.cipherVerdict id true) s d ∧ d.wcx.runs = [] ∧
        tlook (fun _ => 0) (d.slot x.slotNo).rxPn (replayIx x.op) = s.dev.advanced x.op (tlook (fun _ => 0) (s.dev.slot x.slotNo).rxPn (replayIx x.op)) ∧
        (∀ j, j ≠ x.slotNo → d.slot j = s.dev.slot j)))

/-- The seal lock (R335, R336, R343): a free lock goes to the claimant, a held one or one claimed in this beat to nobody else; the owner's release clears key, result and settings, nobody else's does anything; the mailbox forms answer OK, BUSY and WRONG_STATE, and one that comes during the function's own run is answered PENDING and waits; after SEAL_HOLD_TICKS the lock is taken away. Runs of the seal engine (R335, R336, R343): the owner's START begins a run with the settings in force, or ends in ERROR with its code; a stranger's write is ignored and noted; SEAL_RUN of the owner has PENDING and runs; the end gives the HMAC of the message, an uncorrectable error ERROR 4, a mismatch AUTH_FAIL, a failed DMA TIMEOUT. -/
def Obligations.SealEngineCompletes : Prop :=
  (
  (∀ (s : State) (m : Master), locksByRegister m = true →
    (s.dev.sealEng.held = false → s.dev.claimed .seal 0 = false → ∃ d, Completes (.sealAcquire m) s d ∧ d.sealEng = { held := true, owner := m.code, since := s.dev.glb.up } ∧
      d.claimed .seal 0 = true ∧ d = { s.dev with sealEng := d.sealEng, claims := d.claims, counts := d.counts }) ∧
    (s.dev.sealEng.held = true ∨ s.dev.claimed .seal 0 = true → ∃ d, Completes (.sealAcquire m) s d ∧ d = { s.dev with counts := d.counts }) ∧
    (s.dev.ownsSeal m = true → s.dev.sealRunning = false → ∃ d, Completes (.sealRelease m) s d ∧ d = { s.dev with sealEng := {} }) ∧
    (s.dev.ownsSeal m = false ∨ s.dev.sealRunning = true → Completes (.sealRelease m) s s.dev)) ∧
  (∀ (s : State) (m : Master), locksByRegister m = false → Completes (.sealAcquire m) s s.dev ∧ Completes (.sealRelease m) s s.dev) ∧
  (∀ (s : State) (f : Nat) (req : List Word), Admitted s.dev f req 2 → resv (wd req 1) [(63, 1)] = false →
    ((∀ j, s.dev.sealEng.job = some j → j.pend.caller ≠ .fn f) → nbit (wd req 1).toNat 0 = false → s.dev.sealEng.held = false → s.dev.claimed .seal 0 = false →
      ∃ d, Completes (.sealLockOp f req) s d ∧ Answered s.dev d s.now f req 0x720 .ok [] ∧ d.sealEng = { held := true, owner := f, since := s.dev.glb.up }) ∧
    ((∀ j, s.dev.sealEng.job = some j → j.pend.caller ≠ .fn f) → nbit (wd req 1).toNat 0 = false → s.dev.sealEng.held = true →
      ∃ d, Completes (.sealLockOp f req) s d ∧ Answered s.dev d s.now f req 0x720 .busy [] ∧ d.sealEng = s.dev.sealEng) ∧
    ((∀ j, s.dev.sealEng.job = some j → j.pend.caller ≠ .fn f) → nbit (wd req 1).toNat 0 = true → s.dev.ownsSeal (.fn f) = true → s.dev.sealRunning = false →
      ∃ d, Completes (.sealLockOp f req) s d ∧ Answered s.dev d s.now f req 0x720 .ok [] ∧ d.sealEng = {}) ∧
    ((∀ j, s.dev.sealEng.job = some j → j.pend.caller ≠ .fn f) → nbit (wd req 1).toNat 0 = true → s.dev.ownsSeal (.fn f) = false →
      ∃ d, Completes (.sealLockOp f req) s d ∧ Answered s.dev d s.now f req 0x720 .wrongState [] ∧ d.sealEng = s.dev.sealEng) ∧
    (∀ j, s.dev.sealEng.job = some j → j.pend.caller = .fn f →
      ∃ d, Completes (.sealLockOp f req) s d ∧ d.sealEng = { s.dev.sealEng with heldOps := s.dev.sealEng.heldOps ++ [(⟨.fn f, reqTag req, 0x720⟩, nbit (wd req 1).toNat 0)] } ∧
        Answered s.dev d s.now f req 0x720 .pending [])) ∧
  (∀ s : State, s.dev.sealOverdue = true → s.dev.sealEng.heldOps = [] →
    ∃ d, Completes .sealHoldExpiry s d ∧ d.sealEng = {} ∧ (d.reg 0xB80040).getLsbD 1 = true) ∧
  (∀ s : State, s.dev.sealOverdue = false → Completes .sealHoldExpiry s s.dev)) ∧
  (
  (∀ (s : State) (m : Master) (v : Reg) (e : Seal), s.dev.ownsSeal m = true → s.dev.sealRunning = false → s.dev.gaf.quiesced.testBit 4 = false →
    e = { s.dev.sealEng with ctrl := v &&& 0x3FF } →
    (sealFault e = 0 → ∃ d, Completes (.sealStart m v) s d ∧ d = { s.dev with sealEng := { e with
      state := 1, err := 0, runCtrl := e.ctrl, runSrc := e.src, runLen := e.len, runKey := e.key } }) ∧
    (sealFault e ≠ 0 → ∃ d, Completes (.sealStart m v) s d ∧ d.sealEng = { e with state := 3, err := sealFault e, job := none } ∧ (d.reg 0xB80040).getLsbD 2 = true)) ∧
  (∀ (s : State) (m : Master) (v : Reg), s.dev.ownsSeal m = false → ∃ d, Completes (.sealStart m v) s d ∧ d.sealEng = s.dev.sealEng ∧ (d.reg 0xB80040).getLsbD 0 = true) ∧
  (∀ (s : State) (m : Master) (v : Reg), s.dev.ownsSeal m = true → s.dev.sealRunning = true →
    ∃ d, Completes (.sealStart m v) s d ∧ d = { s.dev with sealEng := { s.dev.sealEng with ctrl := v &&& 0x3FF } }) ∧
  (∀ (s : State) (f : Nat) (req : List Word) (msg : Option (List Byte)), Admitted s.dev f req 25 → resv (wd req 1) [(63, 58), (47, 25)] = false → s.dev.ownsSeal (.fn f) = true → s.dev.sealRunning = false → s.dev.gaf.quiesced.testBit 4 = false →
    fld (wd req 1) 24 0 ≤ 16777216 → fld (wd req 1) 55 48 ≤ (if nbit (wd req 1).toNat 56 then 128 else 64) →
    ∃ d, Completes (.sealRun f req msg) s d ∧ Answered s.dev d s.now f req 0x721 .pending [] ∧ d.sealEng.state = 1 ∧ d.sealEng.held = true ∧ d.sealEng.owner = s.dev.sealEng.owner ∧
      d.sealEng.runCtrl = packR [(fld (wd req 1) 55 48, 8, 0), (b2n (nbit (wd req 1).toNat 56), 1, 8)] ∧
      (∃ j, d.sealEng.job = some j ∧ j.pend = ⟨.fn f, reqTag req, 0x721⟩ ∧ j.msg = ((msg.getD []) ++ List.replicate (fld (wd req 1) 24 0) 0).take (fld (wd req 1) 24 0) ∧ j.dmaOk = msg.isSome)) ∧
  (∀ s : State, s.dev.sealRunning = true → s.dev.sealEng.heldOps = [] →
    (s.dev.sealEng.job = none → s.dev.mem.hbmFailed = false → ∃ d, Completes (.sealDone false) s d ∧ d.sealEng.state = 2 ∧ d.sealEng.err = 0 ∧
      d.sealEng.mac = sealMac (s.dev.sealEng.runCtrl.getLsbD 8) s.dev.sealEng.keyBytes s.dev.sealSource ∧ d.sealEng.owner = s.dev.sealEng.owner ∧ d.sealEng.ctrl = s.dev.sealEng.ctrl) ∧
    (s.dev.sealEng.job = none → ∃ d, Completes (.sealDone true) s d ∧ d.sealEng.state = 3 ∧ d.sealEng.err = 4 ∧ (d.reg 0xB80040).getLsbD 2 = true) ∧
    (∀ j f tag, s.dev.sealEng.job = some j → j.pend = ⟨.fn f, tag, 0x721⟩ → (s.dev.fn f).tags.contains tag = true →
      (∀ mac, mac = sealMac (s.dev.sealEng.runCtrl.getLsbD 8) s.dev.sealEng.keyBytes j.msg → j.dmaOk = true →
        (j.compare = false ∨ mac = j.expect.take mac.length → ∃ d, Completes (.sealDone false) s d ∧ d.sealEng.state = 2 ∧ d.sealEng.mac = mac ∧ d.sealEng.job = none ∧
          (d.fn f).waiting = (s.dev.fn f).waiting ++ [⟨respHeader tag 7 0 0x721 :: octetWords 6 mac, true, beatNo s.now⟩]) ∧
        (j.compare = true → mac ≠ j.expect.take mac.length → ∃ d, Completes (.sealDone false) s d ∧ d.sealEng.state = 2 ∧
          (d.fn f).waiting = (s.dev.fn f).waiting ++ [⟨[respHeader tag 1 13 0x721], true, beatNo s.now⟩])) ∧
      (j.dmaOk = false → ∃ d, Completes (.sealDone false) s d ∧ d.sealEng.state = 3 ∧
        (d.fn f).waiting = (s.dev.fn f).waiting ++ [⟨[respHeader tag 1 11 0x721], true, beatNo s.now⟩]))) ∧
  (∀ (s : State) (b : Bool), s.dev.sealRunning = false → Completes (.sealDone b) s s.dev))

/-- The check-value units (R337 to R341): a free unit goes to a master that locks by register; the owner's START initialises and folds, its data words are fed octet by octet from bits 7:0 while the unit runs, FINISH gives the result and, with COMPARE, the mismatch with its count; RESTORE runs without initialising; a stranger's write is ignored and noted. -/
def Obligations.CheckUnitsComplete : Prop :=
  (∀ (s : State) (m : Master) (n : Nat), locksByRegister m = true → (s.dev.chkUnit n).held = false → s.dev.claimed .chk n = false →
    ∃ d, Completes (.chkAcquire m n) s d ∧ d.chkUnit n = { s.dev.chkUnit n with held := true, owner := m.code } ∧ (∀ j, j ≠ n → d.chkUnit j = s.dev.chkUnit j) ∧
      d = { s.dev with chk := d.chk, claims := d.claims }) ∧
  (∀ (s : State) (m : Master) (n : Nat), locksByRegister m = false ∨ (s.dev.chkUnit n).held = true ∨ s.dev.claimed .chk n = true → Completes (.chkAcquire m n) s s.dev) ∧
  (∀ (s : State) (m : Master) (n : Nat), locksByRegister m = true → s.dev.ownsChk m n = true →
    ∃ d, Completes (.chkRelease m n) s d ∧ d.chkUnit n = { s.dev.chkUnit n with held := false, owner := 0 } ∧ (∀ j, j ≠ n → d.chkUnit j = s.dev.chkUnit j) ∧ d = { s.dev with chk := d.chk }) ∧
  (∀ (s : State) (m : Master) (n : Nat) (v : Reg) (u c : Chk), s.dev.ownsChk m n = true → u = s.dev.chkUnit n →
    c = { u with poly := rfld v 1 0, af := v.getLsbD 4, sf := v.getLsbD 5, compare := v.getLsbD 6 } →
    (v.getLsbD 30 = false → v.getLsbD 29 = false → ∃ d, Completes (.chkStart m n v) s d ∧
      d.chkUnit n = { c with state := 1, mismatch := false, restored := false, count := 0, rem := crcStart c.poly c.af c.sf (rfld c.foldHi 15 0 * 2 ^ 32 + c.foldLo.toNat) (rfld c.foldHi 31 16) } ∧
      (∀ j, j ≠ n → d.chkUnit j = s.dev.chkUnit j) ∧ d = { s.dev with chk := d.chk }) ∧
    (v.getLsbD 30 = true → Completes (.chkStart m n v) s s.dev) ∧
    (v.getLsbD 31 = false → v.getLsbD 30 = false → ∃ d, Completes (.chkRestore m n v) s d ∧ d.chkUnit n = { c with state := 1, restored := true } ∧ d = { s.dev with chk := d.chk }) ∧
    (v.getLsbD 31 = false → v.getLsbD 29 = false → n < 8 →
      (c.compare = false ∨ (c.rem ^^^ crcFinal c.poly) = c.expect.toNat → ∃ d, Completes (.chkFinish m n v) s d ∧
        d.chkUnit n = { c with state := 2, result := c.rem ^^^ crcFinal c.poly, restored := false, mismatch := if c.compare then false else c.mismatch } ∧ d = { s.dev with chk := d.chk, counts := d.counts }) ∧
      (c.compare = true → (c.rem ^^^ crcFinal c.poly) ≠ c.expect.toNat → ∃ d, Completes (.chkFinish m n v) s d ∧ (d.chkUnit n).mismatch = true ∧ (d.chkUnit n).result = c.rem ^^^ crcFinal c.poly ∧
        (d.reg 0xC00040).getLsbD n = true ∧ (∀ j, m = .crew j → j < 24 → (d.core j).mipMismatch = true))) ∧
    (u.state = 1 → ∃ d, Completes (.chkData m n v) s d ∧ d.chkUnit n = { u with rem := crcFeeds u.poly u.rem (leBytes v.toNat 4), count := (u.count + (leBytes v.toNat 4).length) % 2 ^ 32 } ∧ d = { s.dev with chk := d.chk }) ∧
    (u.state = 1 → ∃ d, Completes (.chkDataPart m n v) s d ∧
      d.chkUnit n = { u with rem := crcFeeds u.poly u.rem (leBytes (rfld v 23 0) (rfld v 25 24)), count := (u.count + (leBytes (rfld v 23 0) (rfld v 25 24)).length) % 2 ^ 32 } ∧ d = { s.dev with chk := d.chk }) ∧
    (u.state ≠ 1 → ∃ d, Completes (.chkData m n v) s d ∧ d.chkUnit n = u ∧ d = { s.dev with chk := d.chk })) ∧
  (∀ (s : State) (m : Master) (n : Nat) (v : Reg) (c : Instr), s.dev.ownsChk m n = false → n < 8 → c ∈ [Instr.chkStart m n v, .chkFinish m n v, .chkRestore m n v, .chkData m n v, .chkDataPart m n v] →
    ∃ d, Completes c s d ∧ d.chk = s.dev.chk ∧ (d.reg 0xC00040).getLsbD (8 + n) = true)

/-- Task requests (R349 to R353): a ready of an IDLE task puts it at the tail of its priority's list, one of a RUNNING task pends; a cancel takes a READY task off and an ALLOC gives the lowest free context; a FREE of an IDLE one frees it; a FREE context, Gulmet's contexts from U mode, and no context left are refused with their status. A request with another OP answers BAD_PARAM in its turn. The second of two readies of one task in a beat shows BUSY (R37, R38; the model's reading, log 104). Ends and faults of tasks (R347, R351, R353, R355): DONE leaves the task IDLE, or READY at the tail when it pended; YIELD puts it at the tail, PREEMPTED, valid after a request alone, saved at the head; the core is free after each; an end without a task, or a PREEMPTED nobody asked for, sets END_STRAY; a U-mode fault traps, ends the task and is noted; a halted core ends none (R474). -/
def Obligations.TasksComplete : Prop :=
  (
  (∀ (s : State) (m : Master) (task k : Nat), k = task % 4096 → s.dev.inUser m = false ∨ 1024 ≤ k →
    (s.dev.taskAffinity k ≠ 0 → s.dev.taskClass k ≠ 3 → s.dev.claimed .task k = false → s.dev.cancelledNow k = false → (s.dev.ctx k).st = .idle →
      ∃ d, Completes (.ready m (.task task)) s d ∧ d.ctx k = { s.dev.ctx k with st := .ready } ∧ d.readyList (s.dev.taskPrio k) = s.dev.readyList (s.dev.taskPrio k) ++ [k] ∧
        (∀ j, j ≠ k → d.ctx j = s.dev.ctx j) ∧ (∀ p, p ≠ s.dev.taskPrio k → d.readyList p = s.dev.readyList p) ∧
        (∀ c, m = .crew c → (d.core c).status = 0 ∧ (d.core c).resTask = k) ∧ d.claimed .task k = true ∧ d = { s.dev with rgm := d.rgm, counts := d.counts, claims := d.claims }) ∧
    (s.dev.taskAffinity k ≠ 0 → s.dev.taskClass k ≠ 3 → s.dev.claimed .task k = false → s.dev.cancelledNow k = false → (s.dev.ctx k).st = .running →
      ∃ d, Completes (.ready m (.task task)) s d ∧ d.ctx k = { s.dev.ctx k with pend := true } ∧ (∀ p, d.readyList p = s.dev.readyList p) ∧ d.claimed .task k = true) ∧
    (s.dev.taskAffinity k ≠ 0 → s.dev.taskClass k ≠ 3 → s.dev.claimed .task k = true → (s.dev.ctx k).st ≠ .free →
      ∃ d, Completes (.ready m (.task task)) s d ∧ d.rgm.ctx = s.dev.rgm.ctx ∧ d.rgm.lists = s.dev.rgm.lists ∧ (∀ c, m = .crew c → (d.core c).status = Status.busy.code)) ∧
    ((s.dev.ctx k).st = .ready →
      ∃ d, Completes (.cancel m task) s d ∧ d.ctx k = { s.dev.ctx k with st := .idle } ∧ (∀ p, p < 8 → k ∉ d.readyList p) ∧
        (∀ p, p < 8 → d.readyList p = (s.dev.readyList p).filter (fun j => j != k)) ∧ (∀ j, j ≠ k → d.ctx j = s.dev.ctx j)) ∧
    ((s.dev.ctx k).st = .running → ∃ d, Completes (.cancel m task) s d ∧ d.ctx k = { s.dev.ctx k with pend := false } ∧ (∀ p, d.readyList p = s.dev.readyList p)) ∧
    ((s.dev.ctx k).st = .idle → ∃ d, Completes (.free m task) s d ∧ d.ctx k = { s.dev.ctx k with st := .free } ∧ (∀ j, j ≠ k → d.ctx j = s.dev.ctx j) ∧
      d = { s.dev with rgm := d.rgm, counts := d.counts }) ∧
    ((s.dev.ctx k).st = .free → ∀ c, c ∈ [Instr.ready m (.task task), .cancel m task, .free m task] →
      ∃ d, Completes c s d ∧ d.rgm.ctx = s.dev.rgm.ctx ∧ d.rgm.lists = s.dev.rgm.lists ∧ (∀ i, m = .crew i → (d.core i).status = 10))) ∧
  (∀ (s : State) (c task : Nat), s.dev.inUser (.crew c) = true → task % 4096 < 1024 → ∀ x, x ∈ [Instr.ready (.crew c) (.task task), .cancel (.crew c) task, .free (.crew c) task] →
    ∃ d, Completes x s d ∧ (d.core c).status = 5 ∧ d.rgm.ctx = s.dev.rgm.ctx ∧ d.rgm.lists = s.dev.rgm.lists) ∧
  (∀ (s : State) (m : Master) (k : Nat), 1024 ≤ k → k < 4096 → (s.dev.ctx k).st = .free → (∀ j, 1024 ≤ j → j < k → (s.dev.ctx j).st ≠ .free) →
    ∃ d, Completes (.alloc m) s d ∧ d.ctx k = { s.dev.ctx k with st := .idle, saved := false, pend := false } ∧ (∀ j, j ≠ k → d.ctx j = s.dev.ctx j) ∧
      (∀ c, m = .crew c → (d.core c).status = 0 ∧ (d.core c).resTask = k)) ∧
  (∀ (s : State) (m : Master), (∀ j, 1024 ≤ j → j < 4096 → (s.dev.ctx j).st ≠ .free) →
    ∃ d, Completes (.alloc m) s d ∧ d.rgm.ctx = s.dev.rgm.ctx ∧ (∀ c, m = .crew c → (d.core c).status = 7) ∧ (d.reg 0xD00040).getLsbD 2 = true) ∧
  (∀ (s : State) (m : Master) (k : Nat), ∃ d, Completes (.ready m (.badOp k)) s d ∧ d.rgm.ctx = s.dev.rgm.ctx ∧ d.rgm.lists = s.dev.rgm.lists ∧
    (∀ c, m = .crew c → (d.core c).status = Status.badParam.code ∧ (d.core c).resTask = k % 4096) ∧ d = { s.dev with rgm := d.rgm })) ∧
  (
  (∀ (s : State) (c k : Nat), (s.dev.core c).task = some k → (s.dev.core c).halted = false → s.dev.cancelledNow k = false →
    ((s.dev.ctx k).pend = false → ∃ d, Completes (.done c) s d ∧ d.ctx k = { s.dev.ctx k with st := .idle, pend := false } ∧
      d.core c = { s.dev.core c with task := none, resume := false, preempt := none, late := false, mipDispatch := false, hart := { (s.dev.core c).hart with user := false, resv := none } } ∧ (∀ p, d.readyList p = s.dev.readyList p) ∧
      d = { s.dev with rgm := d.rgm, counts := d.counts }) ∧
    ((s.dev.ctx k).pend = true → ∃ d, Completes (.done c) s d ∧ d.ctx k = { s.dev.ctx k with st := .ready, pend := false } ∧ (d.core c).task = none ∧
      d.readyList (s.dev.taskPrio k) = s.dev.readyList (s.dev.taskPrio k) ++ [k]) ∧
    (∃ d, Completes (.yield c) s d ∧ d.ctx k = { s.dev.ctx k with st := .ready } ∧ (d.core c).task = none ∧ d.readyList (s.dev.taskPrio k) = s.dev.readyList (s.dev.taskPrio k) ++ [k] ∧
      d = { s.dev with rgm := d.rgm, counts := d.counts }) ∧
    ((s.dev.core c).preempt.isSome = true → ∃ d, Completes (.preempted c) s d ∧ d.ctx k = { s.dev.ctx k with st := .ready, saved := true, save := (s.dev.core c).hart } ∧ (d.core c).task = none ∧ (d.core c).preempt = none ∧
      d.readyList (s.dev.taskPrio k) = k :: s.dev.readyList (s.dev.taskPrio k)) ∧
    (∀ a, s.dev.taskUser k = true → s.dev.stopped (.crew c) = false → ∃ d, Completes (.userFault c a) s d ∧ (d.core c).task = none ∧ (d.reg 0xD00040).getLsbD 5 = true ∧
      (∃ cause ∈ [1, 5, 7], (d.core c).hart = { (s.dev.core c).hart.trap cause a with resv := none }) ∧
      (d.ctx k).st = (if (s.dev.ctx k).pend then .ready else .idle))) ∧
  (∀ (s : State) (c : Nat), (s.dev.core c).halted = true → ∀ x, x ∈ [Instr.done c, .yield c, .preempted c] → Completes x s s.dev) ∧
  (∀ (s : State) (c : Nat), (s.dev.core c).halted = false → (s.dev.core c).task = none → ∀ x, x ∈ [Instr.done c, .yield c, .preempted c] →
    ∃ d, Completes x s d ∧ d.rgm = s.dev.rgm ∧ (d.reg 0xD00040).getLsbD 1 = true) ∧
  (∀ (s : State) (c : Nat), (s.dev.core c).halted = false → (s.dev.core c).preempt = none → ∃ d, Completes (.preempted c) s d ∧ d.rgm = s.dev.rgm ∧ (d.reg 0xD00040).getLsbD 1 = true))

/-- Dispatch (R354, R356 to R358, R383): one waiting task goes to the lowest free core of its affinity, running, with RESUME where it was saved, and its hart enters it; with no free core its victim is asked to pre-empt; a quiesced Ringmaster dispatches nothing but compares its marks; a core that is late to answer is noted, once for a request. -/
def Obligations.DispatchCompletes : Prop :=
  (∀ (s : State) (p k : Nat), s.dev.rgmHalted = false → s.dev.rte.slow = [] → planBeats.contains (beatOf s.now) = false → p < 8 → s.dev.readyList p = [k] → (∀ q, q < 8 → q ≠ p → s.dev.readyList q = []) →
    s.dev.taskClass k ≠ 3 → s.dev.taskAffinity k ≠ 0 →
    (∀ c, s.dev.freeCore (s.dev.taskAffinity k) = some c → ∃ d, Completes .dispatch s d ∧ (d.core c).task = some k ∧ (d.core c).resume = (s.dev.ctx k).saved ∧ (d.core c).preempt = none ∧
      (d.core c).hart = (s.dev.core c).hart.enter k (s.dev.taskUser k) (if (s.dev.ctx k).saved then some (s.dev.ctx k).save else none) (s.dev.taskField k 2) (s.dev.taskField k 3) ∧
      d.ctx k = { s.dev.ctx k with st := .running, core := c, lastTick := tickOf s.now, saved := false } ∧ (∀ q, q < 8 → d.readyList q = []) ∧ (∀ j, j ≠ k → d.ctx j = s.dev.ctx j)) ∧
    (∀ c, s.dev.freeCore (s.dev.taskAffinity k) = none → s.dev.askedFor k = false → s.dev.victim k = some c → ∃ d, Completes .dispatch s d ∧
      d.core c = { s.dev.core c with preempt := some (k, beatNo s.dev.glb.up), late := false, mipDispatch := true } ∧ (∀ j, j ≠ c → d.core j = s.dev.core j) ∧ d.rgm.ctx = s.dev.rgm.ctx ∧ d.rgm.lists = s.dev.rgm.lists)) ∧
  (∀ s : State, s.dev.rgmHalted = true → s.dev.rte.slow = [] → planBeats.contains (beatOf s.now) = false →
    ∃ d, Completes .dispatch s d ∧ d.rgm = { s.dev.rgm with bpHost := overMark s.dev.rgm.bpHost s.dev.readyHost (s.dev.pv 0x8010) (s.dev.pv 0x8011), bpAll := overMark s.dev.rgm.bpAll s.dev.readyTasks.length (s.dev.pv 0x8012) (s.dev.pv 0x8013) } ∧ d = { s.dev with rgm := d.rgm, counts := d.counts, arrivals := d.arrivals } ∧
      ((∀ f, s.dev.unansweredNow s.now f = 0) → d.arrivals = s.dev.arrivals)) ∧
  (∀ (s : State) (c : Nat), s.dev.preemptLate c = true → ∃ d, Completes (.preemptSlow c) s d ∧ d.core c = { s.dev.core c with late := true } ∧ (∀ j, j ≠ c → d.core j = s.dev.core j) ∧
    d.rgm.ctx = s.dev.rgm.ctx ∧ d.rgm.lists = s.dev.rgm.lists ∧ (d.reg 0xD00040).getLsbD 0 = true) ∧
  (∀ (s : State) (c : Nat), s.dev.preemptLate c = false → Completes (.preemptSlow c) s s.dev)

/-- The slow-path queue and crew commands (R359 to R361): a pop gives the oldest item, or 0; a popped item goes back to the router as its original frame or as the frame firmware wrote for it, or is dropped; an origination slot sends firmware's frame; any other return sets SLOW_BAD; a crew command has its response where its request lay; one in the receive hold buffers reads as 0, and its response is dropped as a store there would be (the model's reading, log 150). -/
def Obligations.SlowPathCompletes : Prop :=
  (∀ (s : State) (m : Master), m.isF0 = true → s.dev.stopped m = false →
    (s.dev.rte.slow = [] → ∃ d, Completes (.slowPop m) s d ∧ d.lastRead m = 0 ∧ d = { s.dev with glb := d.glb }) ∧
    (∀ k rest, s.dev.rte.slow = k :: rest → ∃ d, Completes (.slowPop m) s d ∧ d.lastRead m = (packR [(k, 14, 0), (1, 1, 31)]).setWidth 64 ∧ d.rte.slow = rest ∧
      d.item k = { s.dev.item k with popped := true } ∧ (∀ j, j ≠ k → d.item j = s.dev.item j) ∧ d = { s.dev with glb := d.glb, rte := d.rte, counts := d.counts })) ∧
  (∀ (s : State) (m : Master) (k : Nat), m.isF0 = true →
    (s.dev.isPopped k = true → ∃ d, Completes (.reinject m k) s d ∧ d.rte.crew = s.dev.rte.crew ++ [{ (s.dev.item k).pkt with again := true }] ∧ d.item k = {} ∧
      (∀ j, j ≠ k → d.item j = s.dev.item j) ∧ (d.bufFull = false → d = { s.dev with rte := d.rte, counts := d.counts })) ∧
    (s.dev.isPopped k = true → s.dev.crewFrameOk k = true → ∃ d, Completes (.reinjectCopy m k) s d ∧ d.rte.crew = s.dev.rte.crew ++ [s.dev.crewFrame k false] ∧ d.item k = {} ∧
      (d.bufFull = false → d = { s.dev with rte := d.rte, counts := d.counts })) ∧
    (isOrigin k = true → s.dev.crewFrameOk k = true → ∃ d, Completes (.originate m k) s d ∧ d.rte = { s.dev.rte with crew := s.dev.rte.crew ++ [s.dev.crewFrame k true] } ∧
      (d.bufFull = false → d = { s.dev with rte := d.rte, counts := d.counts }) ∧ (d.bufFull = true → (d.reg 0xA00040).getLsbD 0 = true)) ∧
    (s.dev.isPopped k = true → ∃ d, Completes (.drop m k) s d ∧ d.item k = {} ∧ d.rte.crew = s.dev.rte.crew ∧ d.glb.handoffWait = s.dev.glb.handoffWait ++ [⟨s.now, .frameDrop, (s.dev.item k).pkt.tenant⟩] ∧
      (d.bufFull = false → d = { s.dev with rte := d.rte, glb := d.glb, counts := d.counts })) ∧
    (s.dev.isPopped k = false → ∀ x, x ∈ [Instr.reinject m k, .reinjectCopy m k, .drop m k] →
      ∃ d, Completes x s d ∧ d.rte.crew = s.dev.rte.crew ∧ (d.reg 0xD00040).getLsbD 3 = true)) ∧
  (∀ (s : State) (c off n : Nat) (req : List Word) (x : KeySlot), (s.dev.core c).cmdBusy = false → off < 2 ^ 25 → off % 8 = 0 →
    (∀ i, i < 6 → s.dev.backlotDrop (off + 8 * i) 8 = 0 ∧ s.dev.heldWord (off / 8 + i) = none) → s.dev.mgr.recovery = false → req = s.dev.crewRequest off → reqOp req = 0x702 →
    reqLen req = 2 → resv (wd req 0) [(47, 42), (31, 12)] = false → resv (wd req 1) [(63, 14)] = false → n = fld (wd req 1) 13 0 → n < keySlots → x = s.dev.slot n → x.used = true →
    ∃ d, Completes (.crewCommand (.crew c) c off) s d ∧ d.core c = { s.dev.core c with cmdBusy := false, cmdOffset := off } ∧
      d.mem.backlot = putOctets s.dev.mem.backlot off (wordOctets [respHeader (reqTag req) 6 0 0x702,
        packW [(n, 14, 0), (x.bss, 6, 32), (x.port, 2, 38), (x.keyId, 3, 40), (b2n x.txActive, 1, 43), (x.alg, 4, 44), (x.kind, 4, 48), (x.tenant, 4, 56)],
        BitVec.ofNat 64 x.txPn, BitVec.ofNat 64 x.top, BitVec.ofNat 64 x.bind, packW [(x.commitTick, 48, 0)]]) ∧
      d = { s.dev with mem := d.mem, rgm := d.rgm, counts := d.counts }) ∧
  (∀ (s : State) (c off : Nat), (s.dev.core c).cmdBusy = false → s.dev.mgr.recovery = false → 0x0700000 ≤ off → off + 8 ≤ 0x0F00000 →
    ∃ d, Completes (.crewCommand (.crew c) c off) s d ∧ d.core c = { s.dev.core c with cmdBusy := false, cmdOffset := off } ∧ (d.reg 0xE00040).getLsbD 2 = true ∧
      d.mem = { s.dev.mem with faultAddr := crewBacklot + off, faultKind := 3, faultMaster := 0x20 + c }) ∧
  (∀ (s : State) (c off : Nat), (s.dev.core c).cmdBusy = true → ∃ d, Completes (.crewCommand (.crew c) c off) s d ∧ d.rgm = s.dev.rgm ∧ d.mem = s.dev.mem ∧ (d.reg 0xD00040).getLsbD 4 = true) ∧
  (∀ (s : State) (m : Master) (c off : Nat), m ≠ .crew c → Completes (.crewCommand m c off) s s.dev)

/-- Stores to the shared memories and their errors (R45, R87, R350, R362 to R366): a permitted store changes its own octets alone, those of a word that State holds as fields by its fields (a call sheet, a cue-sheet slot; log 107), and one to a core's local memory its octets there (R346), one outside the ranges an access fault; one to a protected range changes none, sets its bit and is recorded in the fault registers; an error read by a core is recorded, poisons its word and is counted, and the core takes the access-fault exception (R348); the scrubber corrects and counts; the loss of the stack takes a running device into recovery with cause 5. A core's accesses (R344 to R348, R474): a load puts what it reads into its register, extended as it says; one that meets an uncorrectable word, or an address outside the ranges, is an access fault; a store-conditional stores only with the reservation that the core's load-reserved made; an atomic operation gives the old value and stores its result, in the register window it faults; hartid and time read as the chapter says; an access that the PMP of a U-mode task denies traps, ends the task and is noted; a halted core makes none. -/
def Obligations.MemoryCommandsComplete : Prop :=
  (
  (∀ (s : State) (m : Master) (addr width a : Nat) (data : Word), s.dev.passes m addr width 1 → s.dev.poisoned 1 addr width = [] → crewPlace addr = some (1, a) → s.dev.dropKind m 1 a width = 0 →
    s.dev.heldWord (a / 8) = none → a % 8 + width ≤ 8 →
    ∃ d, Completes (.droppedWrite m addr width (.store data)) s d ∧ d.backlotGet a width = leBytes data.toNat width ∧ (∀ j, j < a ∨ a + width ≤ j → d.backlotGet j 1 = s.dev.backlotGet j 1) ∧
      (∀ j, d.hbmGet j 1 = s.dev.hbmGet j 1) ∧ d.rgm = (s.dev.unreserve addr width).rgm ∧ d = { s.dev with mem := d.mem, rgm := d.rgm, counts := d.counts }) ∧
  (∀ (s : State) (m : Master) (addr width a : Nat) (data : Word), s.dev.passes m addr width 1 → s.dev.poisoned 0 addr width = [] → crewPlace addr = some (0, a) → a + width ≤ 0x400000000 → s.dev.dropKind m 0 a width = 0 → s.dev.mem.hbmFailed = false →
    ∃ d, Completes (.droppedWrite m addr width (.store data)) s d ∧ d.hbmGet a width = leBytes data.toNat width ∧ (∀ j, j < a ∨ a + width ≤ j → d.hbmGet j 1 = s.dev.hbmGet j 1) ∧
      (∀ j, d.backlotGet j 1 = s.dev.backlotGet j 1) ∧ d.rgm = (s.dev.unreserve addr width).rgm ∧ d = { s.dev with mem := d.mem, rgm := d.rgm, counts := d.counts }) ∧
  (∀ (s : State) (m : Master) (addr width sp a : Nat) (data : Word), s.dev.passes m addr width 1 → crewPlace addr = some (sp, a) → spot m addr width = some (.mem sp a) → s.dev.dropKind m sp a width ≠ 0 →
    ∃ d, Completes (.droppedWrite m addr width (.store data)) s d ∧ d.mem = { s.dev.mem with faultAddr := addr % 2 ^ 40, faultKind := s.dev.dropKind m sp a width, faultMaster := m.code } ∧
      (s.dev.dropKind m sp a width = 4 → (d.reg 0xE00040).getLsbD 3 = true) ∧ (s.dev.dropKind m sp a width = 3 → (d.reg 0xE00040).getLsbD 2 = true) ∧ d.pln = s.dev.pln) ∧
  (∀ (s : State) (c addr : Nat) (fetch : Bool), (crewPlace addr).isSome = true →
    ∃ d, Completes (.uncorrectableError (.core c fetch) addr) s d ∧ (d.core c).hart = (s.dev.core c).hart.trap (if fetch then 1 else 5) addr ∧ d.mem.faultAddr = addr % 2 ^ 40 ∧ d.mem.faultKind = 1 ∧ d.mem.faultMaster = 0x20 + c ∧ (d.reg 0xE00040).getLsbD 0 = true ∧
      (∀ sp a, crewPlace addr = some (sp, a) → (addr - addr % eccWord sp) ∈ d.mem.poison) ∧ (∀ p ∈ s.dev.mem.poison, p ∈ d.mem.poison) ∧
      d.mem.hbm = s.dev.mem.hbm ∧ d.mem.backlot = s.dev.mem.backlot ∧ d.written (propKey 0x8041 0 0) = BitVec.ofNat 64 (((s.dev.written (propKey 0x8041 0 0)).toNat + 1) % 2 ^ 48)) ∧
  (∀ (s : State) (m : Master) (addr width a sid i : Nat) (data : Word), s.dev.passes m addr width 1 → s.dev.poisoned 1 addr width = [] → crewPlace addr = some (1, a) → s.dev.dropKind m 1 a width = 0 →
    0x0100000 ≤ a → a < 0x0300000 → a % 512 < 80 → a % 8 + width ≤ 8 → sid = (a - 0x0100000) / 512 → i = a % 512 / 8 →
    ∃ d, Completes (.droppedWrite m addr width (.store data)) s d ∧
      d.callOf sid = (s.dev.callOf sid).setWord i (patchWord ((s.dev.callOf sid).word sid i) (a % 8) (leBytes data.toNat width)) ∧
      (∀ j, j ≠ sid → d.callOf j = s.dev.callOf j) ∧ d.mem.backlot = s.dev.mem.backlot ∧ d.mem.hbm = s.dev.mem.hbm) ∧
  (∀ (s : State) (m : Master) (addr width a n i : Nat) (data : Word), s.dev.passes m addr width 1 → s.dev.poisoned 1 addr width = [] → crewPlace addr = some (1, a) → s.dev.dropKind m 1 a width = 0 →
    storeBase ≤ a → a < logBase → n = (a - storeBase) / 0x20000 → i = (a - storeBase) % 0x20000 / 8 → slotField i = true → a % 8 + width ≤ 8 →
    ∃ d, Completes (.droppedWrite m addr width (.store data)) s d ∧
      tlook sheetReset d.pln.sheets n = (tlook sheetReset s.dev.pln.sheets n).setSlotWord i
        (patchWord ((tlook sheetReset s.dev.pln.sheets n).slotWord (n / 3) i) (a % 8) (leBytes data.toNat width)) ∧
      (∀ j, j ≠ n → tlook sheetReset d.pln.sheets j = tlook sheetReset s.dev.pln.sheets j) ∧ d.mem.backlot = s.dev.mem.backlot ∧ d.mem.hbm = s.dev.mem.hbm) ∧
  (∀ (s : State) (m : Master) (addr width sp a : Nat) (data : Word), s.dev.passes m addr width 1 → spot m addr width = some (.mem sp a) → s.dev.dropKind m sp a width = 0 →
    (s.dev.poisoned sp addr width).all (coversWord sp addr width) = false →
    ∃ d, Completes (.droppedWrite m addr width (.store data)) s d ∧ d = { (s.dev.unreserve addr width) with counts := d.counts }) ∧
  (∀ (s : State) (m : Master) (addr width : Nat) (data : Word), s.dev.passes m addr width 1 → spot m addr width = none →
    Completes (.droppedWrite m addr width (.store data)) s ((s.dev.coreFault m 7 addr).unreserve addr width)) ∧
  (∀ (s : State) (q addr : Nat) (x : Pkt) (rest : List Pkt), tlook (fun _ => []) s.dev.tm.queues q = x :: rest →
    ∃ d, Completes (.uncorrectableError (.packetBuffer q) addr) s d ∧ tlook (fun _ => []) d.tm.queues q = rest ∧ (d.reg 0xE00040).getLsbD 0 = true) ∧
  (∀ (s : State) (radio sid rsn ix addr : Nat), ∃ d, Completes (.uncorrectableError (.retakeSlot radio sid rsn ix) addr) s d ∧
    (d.reg 0x500040).getLsbD 2 = true ∧ (d.reg 0xE00040).getLsbD 0 = true) ∧
  (∀ (s : State) (addr : Nat), s.dev.sealRunning = true → s.dev.sealEng.job = none → s.dev.sealEng.heldOps = [] →
    ∃ d, Completes (.uncorrectableError .seal addr) s d ∧ d.sealEng.state = 3 ∧ d.sealEng.err = 4) ∧
  (∀ (s : State) (addr : Nat), ∃ d, Completes (.uncorrectableError .flowBucket addr) s d ∧ d.rte = { s.dev.rte with badBucket := true } ∧ (d.reg 0xE00040).getLsbD 0 = true) ∧
  (∀ (s : State) (addr : Nat), ∃ d, Completes (.uncorrectableError .scrubber addr) s d ∧ d.mem.faultKind = 2 ∧ (d.reg 0xE00040).getLsbD 1 = true) ∧
  (∀ (s : State) (n : Nat) (bad : List Nat), s.dev.mem.hbmFailed = false →
    ∃ d, Completes (.patrolScrub n bad) s d ∧ d.mem.scrubbed = s.dev.glb.up ∧ (bad = [] → d.mem = { s.dev.mem with scrubbed := s.dev.glb.up } ∧ d.regs = s.dev.regs) ∧
      d.written (propKey 0x8040 0 0) = BitVec.ofNat 64 (((s.dev.written (propKey 0x8040 0 0)).toNat + n) % 2 ^ 48)) ∧
  (∀ s : State, ∃ d, Completes .hbmFail s d ∧ d.mem = { s.dev.mem with hbmFailed := true } ∧ (d.reg 0xE00040).getLsbD 4 = true ∧
    (s.dev.mgr.booted = true → s.dev.mgr.recovery = false → d.mgr.recovery = true ∧ d.mgr.recCause = 5 ∧ ∀ f, f ≠ 0 → (d.fn f).st = .off) ∧
    (s.dev.mgr.booted = false ∨ s.dev.mgr.recovery = true → d.fns = s.dev.fns ∧ d.mgr.recovery = s.dev.mgr.recovery)) ∧
  (∀ (s : State) (m : Master) (addr width a : Nat) (data : Word), s.dev.passes m addr width 1 → spot m addr width = some (.own a) →
    ∃ d, Completes (.droppedWrite m addr width (.store data)) s d ∧
      (∀ j, tlook (fun _ => none) d.mem.own j = if a ≤ j ∧ j < a + width then some ((leBytes data.toNat width).getD (j - a) 0) else tlook (fun _ => none) s.dev.mem.own j) ∧
      d = { s.dev with mem := { s.dev.mem with own := d.mem.own }, rgm := (s.dev.unreserve addr width).rgm })) ∧
  (
  (∀ (s : State) (c addr width rd sp a : Nat) (signed : Bool), s.dev.passes (.crew c) addr width 0 → spot (.crew c) addr width = some (.mem sp a) →
    (s.dev.readFails sp addr width = false → ∃ d, Completes (.droppedWrite (.crew c) addr width (.load rd signed)) s d ∧
      (d.core c).hart = (s.dev.core c).hart.setX rd (extended signed width (ofLe (s.dev.memGet sp a width))) ∧ (∀ j, j ≠ c → d.core j = s.dev.core j) ∧
      d = { s.dev with rgm := d.rgm, counts := d.counts }) ∧
    (s.dev.readFails sp addr width = true → ∃ d, Completes (.droppedWrite (.crew c) addr width (.load rd signed)) s d ∧
      (d.core c).hart = (s.dev.core c).hart.trap 5 addr ∧ d.mem.faultKind = 1 ∧ d.mem.faultMaster = 0x20 + c ∧ (d.reg 0xE00040).getLsbD 0 = true)) ∧
  (∀ (s : State) (c addr width rd a : Nat) (signed : Bool), s.dev.passes (.crew c) addr width 0 → spot (.crew c) addr width = some (.own a) →
    ∃ d, Completes (.droppedWrite (.crew c) addr width (.load rd signed)) s d ∧
      (d.core c).hart = (s.dev.core c).hart.setX rd (extended signed width (ofLe (s.dev.ownGet a width))) ∧ (∀ j, j ≠ c → d.core j = s.dev.core j) ∧ d = { s.dev with rgm := d.rgm }) ∧
  (∀ (s : State) (c addr width rd : Nat) (signed : Bool), s.dev.passes (.crew c) addr width 0 → spot (.crew c) addr width = none →
    ∃ d, Completes (.droppedWrite (.crew c) addr width (.load rd signed)) s d ∧ (d.core c).hart = (s.dev.core c).hart.trap 5 addr ∧ (∀ j, j ≠ c → d.core j = s.dev.core j) ∧ d = { s.dev with rgm := d.rgm }) ∧
  (∀ (s : State) (c addr width rd a : Nat) (v : Word), s.dev.passes (.crew c) addr width 1 → atomicShape addr width = true → spot (.crew c) addr width = some (.own a) → c < 24 →
    ((s.dev.core c).hart.resv = some addr → ∃ d, Completes (.droppedWrite (.crew c) addr width (.storeConditional rd v)) s d ∧
      d.mem = { s.dev.mem with own := putOctets s.dev.mem.own a (leBytes v.toNat width) } ∧ (d.core c).hart = { (s.dev.core c).hart.setX rd 0 with resv := none } ∧
      d = { s.dev with rgm := d.rgm, mem := d.mem }) ∧
    ((s.dev.core c).hart.resv ≠ some addr → ∃ d, Completes (.droppedWrite (.crew c) addr width (.storeConditional rd v)) s d ∧ d.mem = s.dev.mem ∧
      (d.core c).hart = { (s.dev.core c).hart.setX rd 1 with resv := none } ∧ d = { s.dev with rgm := d.rgm })) ∧
  (∀ (s : State) (c addr width rd a : Nat), s.dev.passes (.crew c) addr width 0 → atomicShape addr width = true → spot (.crew c) addr width = some (.own a) →
    ∃ d, Completes (.droppedWrite (.crew c) addr width (.loadReserved rd)) s d ∧
      (d.core c).hart = { (s.dev.core c).hart.setX rd (extended true width (ofLe (s.dev.ownGet a width))) with resv := some addr } ∧ d.mem = s.dev.mem) ∧
  (∀ (s : State) (c addr width rd a : Nat) (op : AmoOp) (v : Word), s.dev.passes (.crew c) addr width 1 → atomicShape addr width = true → spot (.crew c) addr width = some (.own a) →
    ∃ d, Completes (.droppedWrite (.crew c) addr width (.amo op rd v)) s d ∧ ((d.core c).hart.xOf rd = (if rd = 0 ∨ 32 ≤ rd then (s.dev.core c).hart.xOf rd else extended true width (ofLe (s.dev.ownGet a width)))) ∧
      d.mem = { s.dev.mem with own := putOctets s.dev.mem.own a (leBytes (BitVec.ofNat 64 (amoResult op width (ofLe (s.dev.ownGet a width)) v.toNat)).toNat width) } ∧
      d = { s.dev with rgm := d.rgm, mem := d.mem }) ∧
  (∀ (s : State) (c addr width rd o : Nat) (op : AmoOp) (v : Word), s.dev.passes (.crew c) addr width 1 → spot (.crew c) addr width = some (.window o) →
    ∃ d, Completes (.droppedWrite (.crew c) addr width (.amo op rd v)) s d ∧ (d.core c).hart = (s.dev.core c).hart.trap 7 addr ∧ d = { s.dev with rgm := d.rgm }) ∧
  (∀ (s : State) (c width rd : Nat), s.dev.stopped (.crew c) = false →
    (∃ d, Completes (.droppedWrite (.crew c) 0xC01 width (.csrRead rd)) s d ∧ (d.core c).hart = (s.dev.core c).hart.setX rd (BitVec.ofNat 64 s.now)) ∧
    ((s.dev.core c).hart.user = false → ∃ d, Completes (.droppedWrite (.crew c) 0xF14 width (.csrRead rd)) s d ∧ (d.core c).hart = (s.dev.core c).hart.setX rd (BitVec.ofNat 64 c)) ∧
    ((s.dev.core c).hart.user = true → ∃ d, Completes (.droppedWrite (.crew c) 0xF14 width (.csrRead rd)) s d ∧ (d.core c).hart = (s.dev.core c).hart.trap 2 0)) ∧
  (∀ (s : State) (c k addr width : Nat) (v : Word), s.dev.stopped (.crew c) = false → (s.dev.core c).task = some k → s.dev.taskUser k = true → s.dev.cancelledNow k = false → (s.dev.core c).hart.pmpOk addr width 1 = false →
    ∃ d, Completes (.droppedWrite (.crew c) addr width (.store v)) s d ∧ d.mem = s.dev.mem ∧ (d.core c).task = none ∧ (d.core c).hart = { (s.dev.core c).hart.trap 7 addr with resv := none } ∧
      (d.ctx k).st = (if (s.dev.ctx k).pend then .ready else .idle) ∧ (d.reg 0xD00040).getLsbD 5 = true) ∧
  (∀ (s : State) (m : Master) (addr width : Nat) (op : CoreOp), s.dev.stopped m = true → Completes (.droppedWrite m addr width op) s s.dev))

/-- A step takes the command at the front of the queue and runs it on the state with the queue's rest. -/
def Obligations.StepRunsTheFrontCommand : Prop :=
  ∀ (s : State) (c : Instr) (rest : List Instr), s.pending = c :: rest → step s = exec c { s with pending := rest }

/-- With an empty queue the device lives on (the model's choice, log 1): it queues the commands that the boundary needs and nobody has sent, or goes to the next beat boundary, where the sampled inputs and the actions that fall due stand in the queue in their order. -/
def Obligations.AnEmptyQueueLivesOneBeat : Prop :=
  ∀ s : State, s.pending = [] →
    (s.dev.glb.filled = false → s.dev.fillers s.now ≠ [] → ∃ d, step s = .next { s with pending := s.dev.fillers s.now, dev := d } ∧ d = { s.dev with glb := d.glb }) ∧
    (s.dev.glb.filled = true ∨ s.dev.fillers s.now = [] → ∃ u, step s = .next u ∧ u.now = nextBoundary s.now ∧ u.now % 1000 = 0 ∧ s.now < u.now ∧ u.now ≤ s.now + 1000 ∧ u.dev.arrivals = [] ∧
      ∃ e : Dev, u.pending = e.ordered (e.sampled ++ e.due u.now) ∧ e = s.dev.openBeat s.now u.now)

/-- Every command of the table completes in every state: exec answers a next state; the queue stays as it is, and so does show time, but for POWER_ON_RESET and TIME_STEP. -/
def Obligations.EveryCommandCompletes : Prop :=
  ∀ (c : Instr) (s : State), ∃ u, exec c s = .next u ∧ u.pending = s.pending ∧ (c ≠ .powerOnReset → c ≠ .timeStep → u.now = s.now)

/-- Show time never runs backwards (R29): over any number of steps without a power-on reset it does not fall; a power-on reset starts it again at 0. -/
def Obligations.ShowTimeNeverRunsBackwards : Prop :=
  (∀ (n : Nat) (s u : State), LivesOn n s u → s.now ≤ u.now) ∧
  (∀ (s : State) (rest : List Instr), s.pending = .powerOnReset :: rest → ∃ u, step s = .next u ∧ u.now = 0 ∧ u.pending = rest)

/-- Tick number and beat of show time (R30). -/
def Obligations.TickAndBeatOfShowTime : Prop :=
  (∀ t : Nat, tickOf t = t / 1024000 % 2 ^ 48 ∧ beatOf t = t % 1024000 / 1000 ∧ beatOf t ≤ 1023 ∧ (t % 1024000 = 0 ↔ t % 1000 = 0 ∧ beatOf t = 0)) ∧
  (∀ (s : State) (m : Master), ∃ d, Completes (.showTimeLoRead m) s d ∧
    (d.readReg s.now m 0x18).toNat = s.now / 1024000 % 2 ^ 32 ∧ rfld (d.readReg s.now m 0x1C) 15 0 = s.now / 1024000 / 2 ^ 32 % 2 ^ 16 ∧
    rfld (d.readReg s.now m 0x1C) 25 16 = s.now % 1024000 / 1000)

/-- What reset leaves (R17, R29, R56, R402, R472): show time 0, F0 READY and the other functions OFF with their MBX_STATE at its reset values, no incident bit set, no counter stepped, every chain's FEM lines low, the debug port closed; and the invariant of the debug port holds. -/
def Obligations.ResetHolds : Prop :=
  State.reset.now = 0 ∧ State.reset.pending = [] ∧ (State.reset.dev.fn 0).st = .ready ∧ (∀ f, f ≠ 0 → (State.reset.dev.fn f).st = .off) ∧
  State.reset.dev.mbxState 0 = 0x00010000 ∧ (∀ f, f ≠ 0 → State.reset.dev.mbxState f = 0) ∧ (∀ b, b ≤ 20 → State.reset.dev.reg (incAddr b) = 0) ∧
  (∀ b k, State.reset.dev.counter b k = 0) ∧ (∀ c, (State.reset.dev.chain c).pa = false) ∧ State.reset.dev.sealLockReg = 0 ∧ State.reset.dev.gafState = packR [(0, 2, 0), (0, 4, 4), (7, 3, 16)] ∧
  State.reset.dev.tst.connected = false ∧ Guarded State.reset.dev

/-- The debug port stays guarded (R472, R473): whatever command runs and whatever a beat brings, it is connected only while it is open, no more than three verifications fail, and the fused lifecycle never changes. -/
def Obligations.TheDebugPortStaysGuarded : Prop :=
  ∀ (s u : State), Guarded s.dev → step s = .next u → Guarded u.dev ∧ u.dev.tst.life = s.dev.tst.life

/-- Mailbox requests that are turned away whole (R59, R63): of a function that is not READY or has 32 outstanding, every mailbox command sets DOORBELL_LOST and does nothing else; before IF_VERSION every other command has WRONG_STATE, and from a virtual function a command of F0 has NOT_PERMITTED; none of them does anything but answer. -/
def Obligations.MailboxRequestsTurnedAway : Prop :=
  ∀ (c : Instr) (s : State) (f op : Nat) (req : List Word), mailboxForm c = some (f, req, op) →
    ((s.dev.fn f).st ≠ .ready ∨ 32 ≤ (s.dev.fn f).tags.length → ∃ d, Completes c s d ∧ (d.reg (0x10200C + f * 0x10000)).getLsbD 0 = true ∧
      (∀ j, j ≠ 0x10200C + f * 0x10000 → d.reg j = s.dev.reg j) ∧ d = { s.dev with regs := d.regs, glb := d.glb, counts := d.counts, mgr := d.mgr }) ∧
    ((s.dev.fn f).st = .ready → (s.dev.fn f).tags.length < 32 →
      ((s.dev.fn f).versionSeen = false → op ≠ 1 → ∃ d, Completes c s d ∧ Answered s.dev d s.now f req op .wrongState [] ∧ d = { s.dev with fns := d.fns, counts := d.counts }) ∧
      ((s.dev.fn f).versionSeen = true → s.dev.mgr.recovery = false → f ≠ 0 → op ∈ f0OnlyOps →
        ∃ d, Completes c s d ∧ Answered s.dev d s.now f req op .notPermitted [] ∧ d = { s.dev with fns := d.fns, counts := d.counts }))

/-- Simultaneous inputs (R32 to R34, R36): the order of their arrival has no effect where no two of them share a place in rank; a reset among them leaves no other; every cancel of any master is judged before every ready, and every release, a crew core's key erase among them, before every acquire. -/
def Obligations.SimultaneousInputsAreRanked : Prop :=
  (∀ (d : Dev) (l l' : List Instr), l.Perm l' → (∀ x ∈ l, ∀ y ∈ l, d.rank x = d.rank y → x = y) → d.ordered l = d.ordered l') ∧
  (∀ (d : Dev) (l : List Instr), (∃ x ∈ l, d.isReset x = true) → ∀ y, y ∈ d.ordered l → y ∈ l ∧ d.isReset y = true) ∧
  (∀ (d : Dev) (l : List Instr), (∀ x ∈ l, d.isReset x = false) → (d.ordered l).Perm l ∧ (d.ordered l).Pairwise (fun x y => d.rank x ≤ d.rank y)) ∧
  (∀ (d : Dev) (m m' : Master) (k k' : Nat) (x : ReadyOf), m ≠ .device → m' ≠ .device → m.code < 0x40 → m'.code < 0x40 →
    d.rank (.cancel m k) < d.rank (.ready m' x) ∧ d.rank (.sealRelease m) < d.rank (.sealAcquire m') ∧ d.rank (.chkRelease m k) < d.rank (.chkAcquire m' k')) ∧
  (∀ (d : Dev) (c c' off off' : Nat), c < 24 → c' < 24 → reqOp (d.crewRequest (off % 2 ^ 25)) = 0x701 → reqOp (d.crewRequest (off' % 2 ^ 25)) ≠ 0x701 →
    d.rank (.crewCommand (.crew c) c off) < d.rank (.crewCommand (.crew c') c' off'))

/-- A clear never loses a setting (R18): a write of 1 to an incident bit that lands at a boundary clears the bit when it was set before the beat, and leaves it set, with a new entry for the log, when the device has set it again in the beat; bits written 0 stay. -/
def Obligations.AClearNeverLosesASetting : Prop :=
  ∀ (d : Dev) (t b i : Nat) (a : Access) (r : RegDef), b ≤ 20 → b ≠ 12 → i < 32 → a.addr = incAddr b → regDef (incAddr b) = some r → r.w1c.getLsbD i = true →
    (a.data.getLsbD i = true → d.glb.incSet.contains (incAddr b, i) = false → d.glb.incSet.contains (incAddr b, i + 32) = false → ((d.writeLands t a).reg (incAddr b)).getLsbD i = false) ∧
    (a.data.getLsbD i = true → (d.reg (incAddr b)).getLsbD i = true → d.glb.incSet.contains (incAddr b, i) = true → d.glb.incSet.contains (incAddr b, i + 32) = false →
      ((d.writeLands t a).reg (incAddr b)).getLsbD i = true ∧ ∃ e ∈ (d.writeLands t a).mgr.logQ, e.block = b ∧ e.bit = i ∧ e.time = boundaryOf t) ∧
    (a.data.getLsbD i = true → (d.reg (incAddr b)).getLsbD i = true → d.glb.incSet.contains (incAddr b, i + 32) = true → ((d.writeLands t a).reg (incAddr b)).getLsbD i = true) ∧
    (a.data.getLsbD i = false → ((d.writeLands t a).reg (incAddr b)).getLsbD i = (d.reg (incAddr b)).getLsbD i) ∧
    (∀ j, j ≠ incAddr b → (d.writeLands t a).reg j = d.reg j)

/-- The check value of a record (R339): the owner's START, its data words and part words in order, and FINISH give the initial value fed with the six octets of the folded address where AF is 1, the two of the folded sequence number where SF is 1, and every data octet in order, exclusive-ored with the final value. -/
def Obligations.TheCheckValueOfARecord : Prop :=
  ∀ (s : State) (m : Master) (n : Nat) (v : Reg) (ws : List (Bool × Reg)) (u : Chk), s.dev.ownsChk m n = true → u = s.dev.chkUnit n →
    v.getLsbD 31 = false → v.getLsbD 30 = false → v.getLsbD 29 = false →
    ∃ e, plays ([Instr.chkStart m n v] ++ ws.map (fun w => if w.1 then Instr.chkDataPart m n w.2 else Instr.chkData m n w.2) ++ [Instr.chkFinish m n v]) s = .next e ∧
      (e.dev.chkUnit n).state = 2 ∧
      (e.dev.chkUnit n).result = crcFeeds (rfld v 1 0) (crcInit (rfld v 1 0))
        ((if v.getLsbD 4 then leBytes (rfld u.foldHi 15 0 * 2 ^ 32 + u.foldLo.toNat) 6 else []) ++ (if v.getLsbD 5 then leBytes (rfld u.foldHi 31 16) 2 else []) ++
          ws.flatMap (fun w => if w.1 then leBytes (rfld w.2 23 0) (rfld w.2 25 24) else leBytes w.2.toNat 4)) ^^^ crcFinal (rfld v 1 0)

/-- Receptions, lifetimes and memory errors in every form (R139, R143, R149, R206, R362 to R366): a received PPDU is counted once with every MPDU that failed its FCS, whatever frames it holds, and one of which nothing was taken changes nothing; it neither adds nor removes a station, nor starts or stops a BSS; a gap that has waited is passed over, one of whose MPDUs is due already, and any other, stands; an MSDU or a held group frame leaves its queue when its lifetime is over, and only then; a store takes effect, or is dropped and noted; an uncorrectable error is recorded for every consumer; a pass of the scrubber corrects, and notes every word it cannot; the loss of the stack is flagged. -/
def Obligations.ReceptionAndMemoryFormsComplete : Prop :=
  (∀ (s : State) (r : Nat) (l : List RxMpdu),
    (l.filter (s.dev.rxTaken r) = [] → Completes (.mpduReceive r l) s s.dev) ∧
    (r < 3 → l.filter (s.dev.rxTaken r) ≠ [] → ∃ d, Completes (.mpduReceive r l) s d ∧ d.counter (21 + r) 22 = (s.dev.counter (21 + r) 22 + 1) % 2 ^ 48 ∧
      d.counter (21 + r) 0 = (s.dev.counter (21 + r) 0 + ((l.filter (s.dev.rxTaken r)).filter (fun x => !x.fcsOk)).length) % 2 ^ 48 ∧
      (∀ sid, (d.sta sid).used = (s.dev.sta sid).used) ∧ (∀ b, (d.bssAt b).running = (s.dev.bssAt b).running) ∧ d.dec = s.dev.dec ∧ d.mem = s.dev.mem)) ∧
  (∀ (s : State) (sid tid : Nat),
    ((∀ h ∈ (s.dev.ba sid tid).held, s.now < h.time + s.dev.pv 0x2031 * 1000000) → Completes (.reorderTimeout sid tid) s s.dev) ∧
    ((∃ h ∈ (s.dev.ba sid tid).held, h.seq = (s.dev.ba sid tid).next) → (∀ h ∈ (s.dev.ba sid tid).held, h.seq < 4096) → Completes (.reorderTimeout sid tid) s s.dev) ∧
    ((∃ h ∈ (s.dev.ba sid tid).held, h.time + s.dev.pv 0x2031 * 1000000 ≤ s.now) → (∀ h ∈ (s.dev.ba sid tid).held, h.seq < 4096 ∧ h.seq ≠ (s.dev.ba sid tid).next) → (s.dev.ba sid tid).next < 4096 → ∃ d, Completes (.reorderTimeout sid tid) s d ∧
      (d.ba sid tid).on = (s.dev.ba sid tid).on ∧ (d.ba sid tid).window = (s.dev.ba sid tid).window ∧ ((∀ h ∈ (s.dev.ba sid tid).held, h.prot = false) → (d.ba sid tid).held.length < (s.dev.ba sid tid).held.length) ∧
      (∀ h ∈ (d.ba sid tid).held, h ∈ (s.dev.ba sid tid).held) ∧ d.rte = { s.dev.rte with wireless := s.dev.rte.wireless ++ d.rte.wireless.drop s.dev.rte.wireless.length } ∧
      (∀ j, j ≠ sid → d.sta j = s.dev.sta j) ∧ d = { s.dev with mac := d.mac, rte := d.rte, glb := d.glb, counts := d.counts })) ∧
  (∀ (s : State) (sid id : Nat) (e : Dev), e = (List.range 3).foldl (fun x r => x.startPpdus s.now r) s.dev →
    (∀ m, (e.sta sid).queue.find? (fun y => y.id == id) = some m →
      (m.onAir = none → m.entry + e.lifeNs (e.staTenant sid) m.ac ≤ s.now →
        ∃ d, Completes (.lifetime sid id) s d ∧ (d.sta sid).queue = (e.sta sid).queue.filter (fun y => y.id != id) ∧ (∀ j, j ≠ sid → d.sta j = e.sta j)) ∧
      (m.onAir ≠ none ∨ s.now < m.entry + e.lifeNs (e.staTenant sid) m.ac → Completes (.lifetime sid id) s e)) ∧
    (∀ b m, (e.sta sid).queue.find? (fun y => y.id == id) = none → sid = 4096 + b → ((e.bssAt b).groupHeld ++ (e.bssAt b).groupQueue).find? (fun y => y.id == id) = some m →
      (m.entry + e.lifeNs (e.bssAt b).tenant m.ac ≤ s.now →
        ∃ d, Completes (.lifetime sid id) s d ∧ (d.bssAt b).groupHeld = (e.bssAt b).groupHeld.filter (fun y => y.id != id) ∧
          (d.bssAt b).groupQueue = (e.bssAt b).groupQueue.filter (fun y => y.id != id) ∧ (∀ j, j ≠ b → d.bssAt j = e.bssAt j) ∧ d.mac.sta = e.mac.sta) ∧
      (s.now < m.entry + e.lifeNs (e.bssAt b).tenant m.ac → Completes (.lifetime sid id) s e))) ∧
  (∀ (s : State) (m : Master) (addr width : Nat) (data : Word), s.dev.passes m addr width 1 →
    (spot m addr width = none → ∃ d, Completes (.droppedWrite m addr width (.store data)) s d ∧ d.mem = s.dev.mem ∧ d.regs = s.dev.regs ∧ d = { s.dev with rgm := d.rgm }) ∧
    (∀ sp a, spot m addr width = some (.mem sp a) →
      (s.dev.dropKind m sp a width = 0 → ∃ d, Completes (.droppedWrite m addr width (.store data)) s d ∧ d.mem.faultAddr = s.dev.mem.faultAddr ∧ d.mem.faultKind = s.dev.mem.faultKind ∧
        d.regs = s.dev.regs ∧ (sp = 0 → d.mem.backlot = s.dev.mem.backlot ∧ d.pln = s.dev.pln) ∧ (sp ≠ 0 → d.mem.hbm = s.dev.mem.hbm) ∧ d = { s.dev with mem := d.mem, pln := d.pln, rgm := d.rgm, counts := d.counts }) ∧
      (s.dev.dropKind m sp a width ≠ 0 → ∃ d, Completes (.droppedWrite m addr width (.store data)) s d ∧
        d.mem = { s.dev.mem with faultAddr := addr % 2 ^ 40, faultKind := s.dev.dropKind m sp a width, faultMaster := m.code } ∧ d.pln = s.dev.pln ∧
        (d.reg 0xE00040).getLsbD (if s.dev.dropKind m sp a width = 4 then 3 else 2) = true ∧ (∀ j, j ≠ 0xE00040 → d.reg j = s.dev.reg j)))) ∧
  (∀ (s : State) (who : Consumer) (addr : Nat), (who = .seal → s.dev.sealEng.job = none ∧ s.dev.sealEng.heldOps = []) → ∃ d, Completes (.uncorrectableError who addr) s d ∧ (d.reg 0xE00040).getLsbD 0 = true ∧
    d.mem.faultAddr = addr % 2 ^ 40 ∧ d.mem.faultKind = (if who = .scrubber then 2 else 1) ∧ (∀ p ∈ s.dev.mem.poison, p ∈ d.mem.poison) ∧
    (∀ sp a, crewPlace addr = some (sp, a) → (addr - addr % eccWord sp) ∈ d.mem.poison)) ∧
  (∀ (s : State) (n : Nat) (bad : List Nat),
    (s.dev.mem.hbmFailed = true → Completes (.patrolScrub n bad) s s.dev) ∧
    (s.dev.mem.hbmFailed = false → ∃ d, Completes (.patrolScrub n bad) s d ∧ d.mem.scrubbed = s.dev.glb.up ∧ d.mem.hbm = s.dev.mem.hbm ∧ d.mem.backlot = s.dev.mem.backlot ∧
      (∀ a ∈ bad, ∀ sp x, crewPlace a = some (sp, x) → (a - a % eccWord sp) ∈ d.mem.poison) ∧ (∀ p ∈ s.dev.mem.poison, p ∈ d.mem.poison) ∧
      (bad ≠ [] → d.mem.faultKind = 2 ∧ (d.reg 0xE00040).getLsbD 0 = true ∧ (d.reg 0xE00040).getLsbD 1 = true) ∧
      (∀ j, j ≠ 0xE00040 → d.reg j = s.dev.reg j))) ∧
  (∀ s : State, ∃ d, Completes .hbmFail s d ∧ d.mem = { s.dev.mem with hbmFailed := true } ∧ (d.reg 0xE00040).getLsbD 4 = true ∧ (d.fn 0) = s.dev.fn 0 ∧
    (∀ j, j ≠ 0xE00040 → d.reg j = s.dev.reg j))
end

