-- ==== Sys2Proof/Laws/Table.lean ====
section
/-! SUPPORT. The laws of a sparse table: reading after writing, and the canonical form kept. -/
namespace Sys2Proof.Machine

theorem tlook_tdel {α : Type} (dflt : Nat → α) (k j : Nat) (t : Table α) :
    tlook dflt (tdel k t) j = if j = k then dflt j else tlook dflt t j := by
  induction t with
  | nil => simp [tdel, tlook]
  | cons e rest ih =>
    obtain ⟨i, v⟩ := e
    by_cases h1 : i = k
    · subst h1
      by_cases h2 : i = j
      · subst h2; simp [tdel, ih]
      · have h3 : ¬ j = i := fun h => h2 h.symm
        simp [tdel, tlook, ih, h2, h3]
    · by_cases h2 : i = j
      · subst h2; simp [tdel, tlook, h1]
      · simp [tdel, tlook, h1, h2, ih]

theorem tlook_tinsert {α : Type} (dflt : Nat → α) (k : Nat) (v : α) (j : Nat) (t : Table α)
    (hk : ∀ e ∈ t, e.1 ≠ k) : tlook dflt (tinsert k v t) j = if j = k then v else tlook dflt t j := by
  induction t with
  | nil => by_cases h : k = j
           · simp [tinsert, tlook, h]
           · have h2 : ¬ j = k := fun h' => h h'.symm
             simp [tinsert, tlook, h, h2]
  | cons e rest ih =>
    obtain ⟨i, w⟩ := e
    have hik : i ≠ k := hk (i, w) (by simp)
    have hr := ih (fun e he => hk e (by simp [he]))
    by_cases hlt : k < i
    · by_cases h : k = j
      · subst h; simp [tinsert, tlook, hlt]
      · have h2 : ¬ j = k := fun h' => h h'.symm
        simp [tinsert, tlook, hlt, h, h2]
    · by_cases h : i = j
      · subst h; simp [tinsert, tlook, hlt, hik]
      · simp [tinsert, tlook, hlt, h, hr]

theorem tdel_ne {α : Type} (k : Nat) (t : Table α) : ∀ e ∈ tdel k t, e.1 ≠ k := by
  induction t with
  | nil => simp [tdel]
  | cons e rest ih =>
    obtain ⟨i, v⟩ := e
    by_cases h : i = k
    · simpa [tdel, h] using ih
    · intro x hx
      simp only [tdel, h, if_false, List.mem_cons] at hx
      rcases hx with rfl | hx
      · exact h
      · exact ih x hx

/-- Reading after a write: the value written at its number, every other number as before. -/
@[simp] theorem tlook_tput {α : Type} [DecidableEq α] (dflt : Nat → α) (t : Table α) (k : Nat) (v : α) (j : Nat) :
    tlook dflt (tput dflt t k v) j = if j = k then v else tlook dflt t j := by
  unfold tput
  by_cases h : v = dflt k
  · simp only [h, if_true, tlook_tdel]
    by_cases hj : j = k
    · simp [hj]
    · simp [hj]
  · simp only [h, if_false, tlook_tinsert _ _ _ _ _ (tdel_ne k t), tlook_tdel]
    by_cases hj : j = k <;> simp [hj]

/-- Reading after a change. -/
@[simp] theorem tlook_tmod {α : Type} [DecidableEq α] (dflt : Nat → α) (t : Table α) (k : Nat) (f : α → α) (j : Nat) :
    tlook dflt (tmod dflt t k f) j = if j = k then f (tlook dflt t k) else tlook dflt t j := by
  simp [tmod]

/-- An empty table holds what nothing has changed. -/
@[simp] theorem tlook_nil {α : Type} (dflt : Nat → α) (k : Nat) : tlook dflt [] k = dflt k := rfl

theorem tRising_mono {α : Type} (t : Table α) (a b : Nat) (h : a ≤ b) (hr : tRising b t = true) : tRising a t = true := by
  cases t with
  | nil => rfl
  | cons e rest =>
    obtain ⟨i, v⟩ := e
    simp only [tRising, Bool.and_eq_true, decide_eq_true_eq] at hr ⊢
    exact ⟨Nat.le_trans h hr.1, hr.2⟩

theorem tRising_tdel {α : Type} (k : Nat) (t : Table α) (lo : Nat) (h : tRising lo t = true) : tRising lo (tdel k t) = true := by
  induction t generalizing lo with
  | nil => rfl
  | cons e rest ih =>
    obtain ⟨i, v⟩ := e
    simp only [tRising, Bool.and_eq_true, decide_eq_true_eq] at h
    by_cases hk : i = k
    · simp only [tdel, hk, if_true]
      exact ih lo (tRising_mono rest lo (i + 1) (by omega) h.2)
    · simp only [tdel, hk, if_false, tRising, Bool.and_eq_true, decide_eq_true_eq]
      exact ⟨h.1, ih (i + 1) h.2⟩

theorem tRising_tinsert {α : Type} (k : Nat) (v : α) (t : Table α) (lo : Nat) (hlo : lo ≤ k) (h : tRising lo t = true)
    (hk : ∀ e ∈ t, e.1 ≠ k) : tRising lo (tinsert k v t) = true := by
  induction t generalizing lo with
  | nil => simp [tinsert, tRising, hlo]
  | cons e rest ih =>
    obtain ⟨i, w⟩ := e
    have hik : i ≠ k := hk (i, w) (by simp)
    simp only [tRising, Bool.and_eq_true, decide_eq_true_eq] at h
    by_cases hlt : k < i
    · simp only [tinsert, hlt, if_true, tRising, Bool.and_eq_true, decide_eq_true_eq]
      exact ⟨hlo, by omega, h.2⟩
    · simp only [tinsert, hlt, if_false, tRising, Bool.and_eq_true, decide_eq_true_eq]
      exact ⟨h.1, ih (i + 1) (by omega) h.2 (fun e he => hk e (by simp [he]))⟩

theorem mem_tinsert {α : Type} (k : Nat) (v : α) (t : Table α) (e : Nat × α) : e ∈ tinsert k v t → e = (k, v) ∨ e ∈ t := by
  induction t with
  | nil => simp [tinsert]
  | cons a rest ih =>
    obtain ⟨i, w⟩ := a
    by_cases hlt : k < i
    · simp [tinsert, hlt]
    · simp only [tinsert, hlt, if_false, List.mem_cons]
      rintro (h | h)
      · exact .inr (.inl h)
      · rcases ih h with h' | h'
        · exact .inl h'
        · exact .inr (.inr h')

theorem mem_tdel {α : Type} (k : Nat) (t : Table α) (e : Nat × α) : e ∈ tdel k t → e ∈ t := by
  induction t with
  | nil => simp [tdel]
  | cons a rest ih =>
    obtain ⟨i, w⟩ := a
    by_cases h : i = k
    · simp only [tdel, h, if_true]; intro he; exact List.mem_cons_of_mem _ (ih he)
    · simp only [tdel, h, if_false, List.mem_cons]
      rintro (he | he)
      · exact .inl he
      · exact .inr (ih he)

/-- A write keeps the canonical form. -/
theorem twf_tput {α : Type} [DecidableEq α] (dflt : Nat → α) (t : Table α) (k : Nat) (v : α) (h : twf dflt t = true) :
    twf dflt (tput dflt t k v) = true := by
  simp only [twf, Bool.and_eq_true, List.all_eq_true, decide_eq_true_eq] at h ⊢
  unfold tput
  by_cases hv : v = dflt k
  · simp only [hv, if_true]
    exact ⟨tRising_tdel k t 0 h.1, fun e he => h.2 e (mem_tdel k t e he)⟩
  · simp only [hv, if_false]
    refine ⟨tRising_tinsert k v _ 0 (Nat.zero_le k) (tRising_tdel k t 0 h.1) (tdel_ne k t), fun e he => ?_⟩
    rcases mem_tinsert k v _ e he with rfl | he
    · exact hv
    · exact h.2 e (mem_tdel k t e he)

/-- A change keeps the canonical form. -/
theorem twf_tmod {α : Type} [DecidableEq α] (dflt : Nat → α) (t : Table α) (k : Nat) (f : α → α) (h : twf dflt t = true) :
    twf dflt (tmod dflt t k f) = true := twf_tput dflt t k _ h

theorem mem_tmap {α : Type} [DecidableEq α] (dflt : Nat → α) (f : Nat → α → α) (t : Table α) (e : Nat × α) (h : e ∈ tmap dflt f t) :
    e.2 ≠ dflt e.1 ∧ ∃ v, (e.1, v) ∈ t := by
  induction t with
  | nil => simp [tmap] at h
  | cons a rest ih =>
    obtain ⟨k, v⟩ := a
    by_cases hd : f k v = dflt k
    · rw [tmap, if_pos hd] at h
      obtain ⟨h1, v', h2⟩ := ih (mem_tdel k _ e h)
      exact ⟨h1, v', List.mem_cons_of_mem _ h2⟩
    · rw [tmap, if_neg hd] at h
      rcases List.mem_cons.mp h with rfl | h
      · exact ⟨hd, v, List.mem_cons_self⟩
      · obtain ⟨h1, v', h2⟩ := ih h
        exact ⟨h1, v', List.mem_cons_of_mem _ h2⟩

/-- A changed table reads as the change of what it read, where the change keeps what an unlisted number holds. -/
theorem tlook_tmap {α : Type} [DecidableEq α] (dflt : Nat → α) (f : Nat → α → α) (t : Table α) (j : Nat) (h : f j (dflt j) = dflt j) :
    tlook dflt (tmap dflt f t) j = f j (tlook dflt t j) := by
  induction t with
  | nil => simp [tmap, tlook, h]
  | cons a rest ih =>
    obtain ⟨k, v⟩ := a
    by_cases hd : f k v = dflt k
    · rw [tmap, if_pos hd, tlook_tdel]
      by_cases hk : k = j
      · subst hk; simp [tlook, hd]
      · simp [tlook, hk, Ne.symm hk, ih]
    · rw [tmap, if_neg hd]
      by_cases hk : k = j
      · subst hk; simp [tlook]
      · simp [tlook, hk, ih]

theorem tRising_tmap {α : Type} [DecidableEq α] (dflt : Nat → α) (f : Nat → α → α) (t : Table α) (lo : Nat) (h : tRising lo t = true) :
    tRising lo (tmap dflt f t) = true := by
  induction t generalizing lo with
  | nil => rfl
  | cons a rest ih =>
    obtain ⟨k, v⟩ := a
    simp only [tRising, Bool.and_eq_true, decide_eq_true_eq] at h
    by_cases hd : f k v = dflt k
    · rw [tmap, if_pos hd]
      exact tRising_tdel k _ lo (ih lo (tRising_mono rest lo (k + 1) (by omega) h.2))
    · rw [tmap, if_neg hd]
      simp only [tRising, Bool.and_eq_true, decide_eq_true_eq]
      exact ⟨h.1, ih (k + 1) h.2⟩

/-- A change of every entry keeps the canonical form. -/
theorem twf_tmap {α : Type} [DecidableEq α] (dflt : Nat → α) (f : Nat → α → α) (t : Table α) (h : twf dflt t = true) :
    twf dflt (tmap dflt f t) = true := by
  simp only [twf, Bool.and_eq_true, List.all_eq_true, decide_eq_true_eq] at h ⊢
  exact ⟨tRising_tmap dflt f t 0 h.1, fun e he => (mem_tmap dflt f t e he).1⟩

end Sys2Proof.Machine
end

