-- ==== Sys2Proof/Laws/State.lean ====
section
/-! SUPPORT. One law for each field of the device and each named update of it: what an update leaves alone, and what a reading gives after it. -/
namespace Sys2Proof.Machine

@[simp] theorem State.act_now (s : State) (f : Nat → Dev → Dev) : (s.act f).now = s.now := rfl
@[simp] theorem State.act_pending (s : State) (f : Nat → Dev → Dev) : (s.act f).pending = s.pending := rfl
@[simp] theorem State.act_dev (s : State) (f : Nat → Dev → Dev) : (s.act f).dev = f s.now s.dev := rfl

/-! `Dev.modFn`. -/

@[simp] theorem Dev.modFn_glb (d : Dev) (f : Nat) (g : FnSlot → FnSlot) : (d.modFn f g).glb = d.glb := by simp only [Dev.modFn]
@[simp] theorem Dev.modFn_host (d : Dev) (f : Nat) (g : FnSlot → FnSlot) : (d.modFn f g).host = d.host := by simp only [Dev.modFn]
@[simp] theorem Dev.modFn_regs (d : Dev) (f : Nat) (g : FnSlot → FnSlot) : (d.modFn f g).regs = d.regs := by simp only [Dev.modFn]
@[simp] theorem Dev.modFn_props (d : Dev) (f : Nat) (g : FnSlot → FnSlot) : (d.modFn f g).props = d.props := by simp only [Dev.modFn]
@[simp] theorem Dev.modFn_force (d : Dev) (f : Nat) (g : FnSlot → FnSlot) : (d.modFn f g).force = d.force := by simp only [Dev.modFn]
@[simp] theorem Dev.modFn_propStaged (d : Dev) (f : Nat) (g : FnSlot → FnSlot) : (d.modFn f g).propStaged = d.propStaged := by simp only [Dev.modFn]
@[simp] theorem Dev.modFn_arrivals (d : Dev) (f : Nat) (g : FnSlot → FnSlot) : (d.modFn f g).arrivals = d.arrivals := by simp only [Dev.modFn]
@[simp] theorem Dev.modFn_claims (d : Dev) (f : Nat) (g : FnSlot → FnSlot) : (d.modFn f g).claims = d.claims := by simp only [Dev.modFn]
@[simp] theorem Dev.modFn_counts (d : Dev) (f : Nat) (g : FnSlot → FnSlot) : (d.modFn f g).counts = d.counts := by simp only [Dev.modFn]
@[simp] theorem Dev.modFn_freeN (d : Dev) (f : Nat) (g : FnSlot → FnSlot) : (d.modFn f g).freeN = d.freeN := by simp only [Dev.modFn]
@[simp] theorem Dev.modFn_pln (d : Dev) (f : Nat) (g : FnSlot → FnSlot) : (d.modFn f g).pln = d.pln := by simp only [Dev.modFn]
@[simp] theorem Dev.modFn_mac (d : Dev) (f : Nat) (g : FnSlot → FnSlot) : (d.modFn f g).mac = d.mac := by simp only [Dev.modFn]
@[simp] theorem Dev.modFn_mdm (d : Dev) (f : Nat) (g : FnSlot → FnSlot) : (d.modFn f g).mdm = d.mdm := by simp only [Dev.modFn]
@[simp] theorem Dev.modFn_dec (d : Dev) (f : Nat) (g : FnSlot → FnSlot) : (d.modFn f g).dec = d.dec := by simp only [Dev.modFn]
@[simp] theorem Dev.modFn_fe (d : Dev) (f : Nat) (g : FnSlot → FnSlot) : (d.modFn f g).fe = d.fe := by simp only [Dev.modFn]
@[simp] theorem Dev.modFn_bt (d : Dev) (f : Nat) (g : FnSlot → FnSlot) : (d.modFn f g).bt = d.bt := by simp only [Dev.modFn]
@[simp] theorem Dev.modFn_emac (d : Dev) (f : Nat) (g : FnSlot → FnSlot) : (d.modFn f g).emac = d.emac := by simp only [Dev.modFn]
@[simp] theorem Dev.modFn_rte (d : Dev) (f : Nat) (g : FnSlot → FnSlot) : (d.modFn f g).rte = d.rte := by simp only [Dev.modFn]
@[simp] theorem Dev.modFn_tm (d : Dev) (f : Nat) (g : FnSlot → FnSlot) : (d.modFn f g).tm = d.tm := by simp only [Dev.modFn]
@[simp] theorem Dev.modFn_wcx (d : Dev) (f : Nat) (g : FnSlot → FnSlot) : (d.modFn f g).wcx = d.wcx := by simp only [Dev.modFn]
@[simp] theorem Dev.modFn_sealEng (d : Dev) (f : Nat) (g : FnSlot → FnSlot) : (d.modFn f g).sealEng = d.sealEng := by simp only [Dev.modFn]
@[simp] theorem Dev.modFn_chk (d : Dev) (f : Nat) (g : FnSlot → FnSlot) : (d.modFn f g).chk = d.chk := by simp only [Dev.modFn]
@[simp] theorem Dev.modFn_rgm (d : Dev) (f : Nat) (g : FnSlot → FnSlot) : (d.modFn f g).rgm = d.rgm := by simp only [Dev.modFn]
@[simp] theorem Dev.modFn_mem (d : Dev) (f : Nat) (g : FnSlot → FnSlot) : (d.modFn f g).mem = d.mem := by simp only [Dev.modFn]
@[simp] theorem Dev.modFn_gaf (d : Dev) (f : Nat) (g : FnSlot → FnSlot) : (d.modFn f g).gaf = d.gaf := by simp only [Dev.modFn]
@[simp] theorem Dev.modFn_mgr (d : Dev) (f : Nat) (g : FnSlot → FnSlot) : (d.modFn f g).mgr = d.mgr := by simp only [Dev.modFn]
@[simp] theorem Dev.modFn_ts (d : Dev) (f : Nat) (g : FnSlot → FnSlot) : (d.modFn f g).ts = d.ts := by simp only [Dev.modFn]
@[simp] theorem Dev.modFn_dly (d : Dev) (f : Nat) (g : FnSlot → FnSlot) : (d.modFn f g).dly = d.dly := by simp only [Dev.modFn]
@[simp] theorem Dev.modFn_tst (d : Dev) (f : Nat) (g : FnSlot → FnSlot) : (d.modFn f g).tst = d.tst := by simp only [Dev.modFn]

/-! `Dev.bump`. -/

@[simp] theorem Dev.bump_glb (d : Dev) (b k n : Nat) : (d.bump b k n).glb = d.glb := by simp only [Dev.bump]
@[simp] theorem Dev.bump_fns (d : Dev) (b k n : Nat) : (d.bump b k n).fns = d.fns := by simp only [Dev.bump]
@[simp] theorem Dev.bump_host (d : Dev) (b k n : Nat) : (d.bump b k n).host = d.host := by simp only [Dev.bump]
@[simp] theorem Dev.bump_regs (d : Dev) (b k n : Nat) : (d.bump b k n).regs = d.regs := by simp only [Dev.bump]
@[simp] theorem Dev.bump_props (d : Dev) (b k n : Nat) : (d.bump b k n).props = d.props := by simp only [Dev.bump]
@[simp] theorem Dev.bump_force (d : Dev) (b k n : Nat) : (d.bump b k n).force = d.force := by simp only [Dev.bump]
@[simp] theorem Dev.bump_propStaged (d : Dev) (b k n : Nat) : (d.bump b k n).propStaged = d.propStaged := by simp only [Dev.bump]
@[simp] theorem Dev.bump_arrivals (d : Dev) (b k n : Nat) : (d.bump b k n).arrivals = d.arrivals := by simp only [Dev.bump]
@[simp] theorem Dev.bump_claims (d : Dev) (b k n : Nat) : (d.bump b k n).claims = d.claims := by simp only [Dev.bump]
@[simp] theorem Dev.bump_freeN (d : Dev) (b k n : Nat) : (d.bump b k n).freeN = d.freeN := by simp only [Dev.bump]
@[simp] theorem Dev.bump_pln (d : Dev) (b k n : Nat) : (d.bump b k n).pln = d.pln := by simp only [Dev.bump]
@[simp] theorem Dev.bump_mac (d : Dev) (b k n : Nat) : (d.bump b k n).mac = d.mac := by simp only [Dev.bump]
@[simp] theorem Dev.bump_mdm (d : Dev) (b k n : Nat) : (d.bump b k n).mdm = d.mdm := by simp only [Dev.bump]
@[simp] theorem Dev.bump_dec (d : Dev) (b k n : Nat) : (d.bump b k n).dec = d.dec := by simp only [Dev.bump]
@[simp] theorem Dev.bump_fe (d : Dev) (b k n : Nat) : (d.bump b k n).fe = d.fe := by simp only [Dev.bump]
@[simp] theorem Dev.bump_bt (d : Dev) (b k n : Nat) : (d.bump b k n).bt = d.bt := by simp only [Dev.bump]
@[simp] theorem Dev.bump_emac (d : Dev) (b k n : Nat) : (d.bump b k n).emac = d.emac := by simp only [Dev.bump]
@[simp] theorem Dev.bump_rte (d : Dev) (b k n : Nat) : (d.bump b k n).rte = d.rte := by simp only [Dev.bump]
@[simp] theorem Dev.bump_tm (d : Dev) (b k n : Nat) : (d.bump b k n).tm = d.tm := by simp only [Dev.bump]
@[simp] theorem Dev.bump_wcx (d : Dev) (b k n : Nat) : (d.bump b k n).wcx = d.wcx := by simp only [Dev.bump]
@[simp] theorem Dev.bump_sealEng (d : Dev) (b k n : Nat) : (d.bump b k n).sealEng = d.sealEng := by simp only [Dev.bump]
@[simp] theorem Dev.bump_chk (d : Dev) (b k n : Nat) : (d.bump b k n).chk = d.chk := by simp only [Dev.bump]
@[simp] theorem Dev.bump_rgm (d : Dev) (b k n : Nat) : (d.bump b k n).rgm = d.rgm := by simp only [Dev.bump]
@[simp] theorem Dev.bump_mem (d : Dev) (b k n : Nat) : (d.bump b k n).mem = d.mem := by simp only [Dev.bump]
@[simp] theorem Dev.bump_gaf (d : Dev) (b k n : Nat) : (d.bump b k n).gaf = d.gaf := by simp only [Dev.bump]
@[simp] theorem Dev.bump_mgr (d : Dev) (b k n : Nat) : (d.bump b k n).mgr = d.mgr := by simp only [Dev.bump]
@[simp] theorem Dev.bump_ts (d : Dev) (b k n : Nat) : (d.bump b k n).ts = d.ts := by simp only [Dev.bump]
@[simp] theorem Dev.bump_dly (d : Dev) (b k n : Nat) : (d.bump b k n).dly = d.dly := by simp only [Dev.bump]
@[simp] theorem Dev.bump_tst (d : Dev) (b k n : Nat) : (d.bump b k n).tst = d.tst := by simp only [Dev.bump]

/-! `Dev.step`. -/

@[simp] theorem Dev.step_glb (d : Dev) (id ten ix n : Nat) : (d.step id ten ix n).glb = d.glb := by rw [Dev.step]
@[simp] theorem Dev.step_fns (d : Dev) (id ten ix n : Nat) : (d.step id ten ix n).fns = d.fns := by rw [Dev.step]
@[simp] theorem Dev.step_host (d : Dev) (id ten ix n : Nat) : (d.step id ten ix n).host = d.host := by rw [Dev.step]
@[simp] theorem Dev.step_regs (d : Dev) (id ten ix n : Nat) : (d.step id ten ix n).regs = d.regs := by rw [Dev.step]
@[simp] theorem Dev.step_propStaged (d : Dev) (id ten ix n : Nat) : (d.step id ten ix n).propStaged = d.propStaged := by rw [Dev.step]
@[simp] theorem Dev.step_arrivals (d : Dev) (id ten ix n : Nat) : (d.step id ten ix n).arrivals = d.arrivals := by rw [Dev.step]
@[simp] theorem Dev.step_claims (d : Dev) (id ten ix n : Nat) : (d.step id ten ix n).claims = d.claims := by rw [Dev.step]
@[simp] theorem Dev.step_counts (d : Dev) (id ten ix n : Nat) : (d.step id ten ix n).counts = d.counts := by rw [Dev.step]
@[simp] theorem Dev.step_freeN (d : Dev) (id ten ix n : Nat) : (d.step id ten ix n).freeN = d.freeN := by rw [Dev.step]
@[simp] theorem Dev.step_pln (d : Dev) (id ten ix n : Nat) : (d.step id ten ix n).pln = d.pln := by rw [Dev.step]
@[simp] theorem Dev.step_mac (d : Dev) (id ten ix n : Nat) : (d.step id ten ix n).mac = d.mac := by rw [Dev.step]
@[simp] theorem Dev.step_mdm (d : Dev) (id ten ix n : Nat) : (d.step id ten ix n).mdm = d.mdm := by rw [Dev.step]
@[simp] theorem Dev.step_dec (d : Dev) (id ten ix n : Nat) : (d.step id ten ix n).dec = d.dec := by rw [Dev.step]
@[simp] theorem Dev.step_fe (d : Dev) (id ten ix n : Nat) : (d.step id ten ix n).fe = d.fe := by rw [Dev.step]
@[simp] theorem Dev.step_bt (d : Dev) (id ten ix n : Nat) : (d.step id ten ix n).bt = d.bt := by rw [Dev.step]
@[simp] theorem Dev.step_emac (d : Dev) (id ten ix n : Nat) : (d.step id ten ix n).emac = d.emac := by rw [Dev.step]
@[simp] theorem Dev.step_rte (d : Dev) (id ten ix n : Nat) : (d.step id ten ix n).rte = d.rte := by rw [Dev.step]
@[simp] theorem Dev.step_tm (d : Dev) (id ten ix n : Nat) : (d.step id ten ix n).tm = d.tm := by rw [Dev.step]
@[simp] theorem Dev.step_wcx (d : Dev) (id ten ix n : Nat) : (d.step id ten ix n).wcx = d.wcx := by rw [Dev.step]
@[simp] theorem Dev.step_sealEng (d : Dev) (id ten ix n : Nat) : (d.step id ten ix n).sealEng = d.sealEng := by rw [Dev.step]
@[simp] theorem Dev.step_chk (d : Dev) (id ten ix n : Nat) : (d.step id ten ix n).chk = d.chk := by rw [Dev.step]
@[simp] theorem Dev.step_rgm (d : Dev) (id ten ix n : Nat) : (d.step id ten ix n).rgm = d.rgm := by rw [Dev.step]
@[simp] theorem Dev.step_mem (d : Dev) (id ten ix n : Nat) : (d.step id ten ix n).mem = d.mem := by rw [Dev.step]
@[simp] theorem Dev.step_gaf (d : Dev) (id ten ix n : Nat) : (d.step id ten ix n).gaf = d.gaf := by rw [Dev.step]
@[simp] theorem Dev.step_mgr (d : Dev) (id ten ix n : Nat) : (d.step id ten ix n).mgr = d.mgr := by rw [Dev.step]
@[simp] theorem Dev.step_ts (d : Dev) (id ten ix n : Nat) : (d.step id ten ix n).ts = d.ts := by rw [Dev.step]
@[simp] theorem Dev.step_dly (d : Dev) (id ten ix n : Nat) : (d.step id ten ix n).dly = d.dly := by rw [Dev.step]
@[simp] theorem Dev.step_tst (d : Dev) (id ten ix n : Nat) : (d.step id ten ix n).tst = d.tst := by rw [Dev.step]

/-! `Dev.putReg`. -/

@[simp] theorem Dev.putReg_glb (d : Dev) (a : Nat) (v : Reg) : (d.putReg a v).glb = d.glb := by simp only [Dev.putReg]
@[simp] theorem Dev.putReg_fns (d : Dev) (a : Nat) (v : Reg) : (d.putReg a v).fns = d.fns := by simp only [Dev.putReg]
@[simp] theorem Dev.putReg_host (d : Dev) (a : Nat) (v : Reg) : (d.putReg a v).host = d.host := by simp only [Dev.putReg]
@[simp] theorem Dev.putReg_props (d : Dev) (a : Nat) (v : Reg) : (d.putReg a v).props = d.props := by simp only [Dev.putReg]
@[simp] theorem Dev.putReg_force (d : Dev) (a : Nat) (v : Reg) : (d.putReg a v).force = d.force := by simp only [Dev.putReg]
@[simp] theorem Dev.putReg_propStaged (d : Dev) (a : Nat) (v : Reg) : (d.putReg a v).propStaged = d.propStaged := by simp only [Dev.putReg]
@[simp] theorem Dev.putReg_arrivals (d : Dev) (a : Nat) (v : Reg) : (d.putReg a v).arrivals = d.arrivals := by simp only [Dev.putReg]
@[simp] theorem Dev.putReg_claims (d : Dev) (a : Nat) (v : Reg) : (d.putReg a v).claims = d.claims := by simp only [Dev.putReg]
@[simp] theorem Dev.putReg_counts (d : Dev) (a : Nat) (v : Reg) : (d.putReg a v).counts = d.counts := by simp only [Dev.putReg]
@[simp] theorem Dev.putReg_freeN (d : Dev) (a : Nat) (v : Reg) : (d.putReg a v).freeN = d.freeN := by simp only [Dev.putReg]
@[simp] theorem Dev.putReg_pln (d : Dev) (a : Nat) (v : Reg) : (d.putReg a v).pln = d.pln := by simp only [Dev.putReg]
@[simp] theorem Dev.putReg_mac (d : Dev) (a : Nat) (v : Reg) : (d.putReg a v).mac = d.mac := by simp only [Dev.putReg]
@[simp] theorem Dev.putReg_mdm (d : Dev) (a : Nat) (v : Reg) : (d.putReg a v).mdm = d.mdm := by simp only [Dev.putReg]
@[simp] theorem Dev.putReg_dec (d : Dev) (a : Nat) (v : Reg) : (d.putReg a v).dec = d.dec := by simp only [Dev.putReg]
@[simp] theorem Dev.putReg_fe (d : Dev) (a : Nat) (v : Reg) : (d.putReg a v).fe = d.fe := by simp only [Dev.putReg]
@[simp] theorem Dev.putReg_bt (d : Dev) (a : Nat) (v : Reg) : (d.putReg a v).bt = d.bt := by simp only [Dev.putReg]
@[simp] theorem Dev.putReg_emac (d : Dev) (a : Nat) (v : Reg) : (d.putReg a v).emac = d.emac := by simp only [Dev.putReg]
@[simp] theorem Dev.putReg_rte (d : Dev) (a : Nat) (v : Reg) : (d.putReg a v).rte = d.rte := by simp only [Dev.putReg]
@[simp] theorem Dev.putReg_tm (d : Dev) (a : Nat) (v : Reg) : (d.putReg a v).tm = d.tm := by simp only [Dev.putReg]
@[simp] theorem Dev.putReg_wcx (d : Dev) (a : Nat) (v : Reg) : (d.putReg a v).wcx = d.wcx := by simp only [Dev.putReg]
@[simp] theorem Dev.putReg_sealEng (d : Dev) (a : Nat) (v : Reg) : (d.putReg a v).sealEng = d.sealEng := by simp only [Dev.putReg]
@[simp] theorem Dev.putReg_chk (d : Dev) (a : Nat) (v : Reg) : (d.putReg a v).chk = d.chk := by simp only [Dev.putReg]
@[simp] theorem Dev.putReg_rgm (d : Dev) (a : Nat) (v : Reg) : (d.putReg a v).rgm = d.rgm := by simp only [Dev.putReg]
@[simp] theorem Dev.putReg_mem (d : Dev) (a : Nat) (v : Reg) : (d.putReg a v).mem = d.mem := by simp only [Dev.putReg]
@[simp] theorem Dev.putReg_gaf (d : Dev) (a : Nat) (v : Reg) : (d.putReg a v).gaf = d.gaf := by simp only [Dev.putReg]
@[simp] theorem Dev.putReg_mgr (d : Dev) (a : Nat) (v : Reg) : (d.putReg a v).mgr = d.mgr := by simp only [Dev.putReg]
@[simp] theorem Dev.putReg_ts (d : Dev) (a : Nat) (v : Reg) : (d.putReg a v).ts = d.ts := by simp only [Dev.putReg]
@[simp] theorem Dev.putReg_dly (d : Dev) (a : Nat) (v : Reg) : (d.putReg a v).dly = d.dly := by simp only [Dev.putReg]
@[simp] theorem Dev.putReg_tst (d : Dev) (a : Nat) (v : Reg) : (d.putReg a v).tst = d.tst := by simp only [Dev.putReg]

/-! `Dev.reads`. -/

@[simp] theorem Dev.reads_fns (d : Dev) (m : Master) (v : Reg) : (d.reads m v).fns = d.fns := by simp only [Dev.reads]
@[simp] theorem Dev.reads_host (d : Dev) (m : Master) (v : Reg) : (d.reads m v).host = d.host := by simp only [Dev.reads]
@[simp] theorem Dev.reads_regs (d : Dev) (m : Master) (v : Reg) : (d.reads m v).regs = d.regs := by simp only [Dev.reads]
@[simp] theorem Dev.reads_props (d : Dev) (m : Master) (v : Reg) : (d.reads m v).props = d.props := by simp only [Dev.reads]
@[simp] theorem Dev.reads_force (d : Dev) (m : Master) (v : Reg) : (d.reads m v).force = d.force := by simp only [Dev.reads]
@[simp] theorem Dev.reads_propStaged (d : Dev) (m : Master) (v : Reg) : (d.reads m v).propStaged = d.propStaged := by simp only [Dev.reads]
@[simp] theorem Dev.reads_arrivals (d : Dev) (m : Master) (v : Reg) : (d.reads m v).arrivals = d.arrivals := by simp only [Dev.reads]
@[simp] theorem Dev.reads_claims (d : Dev) (m : Master) (v : Reg) : (d.reads m v).claims = d.claims := by simp only [Dev.reads]
@[simp] theorem Dev.reads_counts (d : Dev) (m : Master) (v : Reg) : (d.reads m v).counts = d.counts := by simp only [Dev.reads]
@[simp] theorem Dev.reads_freeN (d : Dev) (m : Master) (v : Reg) : (d.reads m v).freeN = d.freeN := by simp only [Dev.reads]
@[simp] theorem Dev.reads_pln (d : Dev) (m : Master) (v : Reg) : (d.reads m v).pln = d.pln := by simp only [Dev.reads]
@[simp] theorem Dev.reads_mac (d : Dev) (m : Master) (v : Reg) : (d.reads m v).mac = d.mac := by simp only [Dev.reads]
@[simp] theorem Dev.reads_mdm (d : Dev) (m : Master) (v : Reg) : (d.reads m v).mdm = d.mdm := by simp only [Dev.reads]
@[simp] theorem Dev.reads_dec (d : Dev) (m : Master) (v : Reg) : (d.reads m v).dec = d.dec := by simp only [Dev.reads]
@[simp] theorem Dev.reads_fe (d : Dev) (m : Master) (v : Reg) : (d.reads m v).fe = d.fe := by simp only [Dev.reads]
@[simp] theorem Dev.reads_bt (d : Dev) (m : Master) (v : Reg) : (d.reads m v).bt = d.bt := by simp only [Dev.reads]
@[simp] theorem Dev.reads_emac (d : Dev) (m : Master) (v : Reg) : (d.reads m v).emac = d.emac := by simp only [Dev.reads]
@[simp] theorem Dev.reads_rte (d : Dev) (m : Master) (v : Reg) : (d.reads m v).rte = d.rte := by simp only [Dev.reads]
@[simp] theorem Dev.reads_tm (d : Dev) (m : Master) (v : Reg) : (d.reads m v).tm = d.tm := by simp only [Dev.reads]
@[simp] theorem Dev.reads_wcx (d : Dev) (m : Master) (v : Reg) : (d.reads m v).wcx = d.wcx := by simp only [Dev.reads]
@[simp] theorem Dev.reads_sealEng (d : Dev) (m : Master) (v : Reg) : (d.reads m v).sealEng = d.sealEng := by simp only [Dev.reads]
@[simp] theorem Dev.reads_chk (d : Dev) (m : Master) (v : Reg) : (d.reads m v).chk = d.chk := by simp only [Dev.reads]
@[simp] theorem Dev.reads_rgm (d : Dev) (m : Master) (v : Reg) : (d.reads m v).rgm = d.rgm := by simp only [Dev.reads]
@[simp] theorem Dev.reads_mem (d : Dev) (m : Master) (v : Reg) : (d.reads m v).mem = d.mem := by simp only [Dev.reads]
@[simp] theorem Dev.reads_gaf (d : Dev) (m : Master) (v : Reg) : (d.reads m v).gaf = d.gaf := by simp only [Dev.reads]
@[simp] theorem Dev.reads_mgr (d : Dev) (m : Master) (v : Reg) : (d.reads m v).mgr = d.mgr := by simp only [Dev.reads]
@[simp] theorem Dev.reads_ts (d : Dev) (m : Master) (v : Reg) : (d.reads m v).ts = d.ts := by simp only [Dev.reads]
@[simp] theorem Dev.reads_dly (d : Dev) (m : Master) (v : Reg) : (d.reads m v).dly = d.dly := by simp only [Dev.reads]
@[simp] theorem Dev.reads_tst (d : Dev) (m : Master) (v : Reg) : (d.reads m v).tst = d.tst := by simp only [Dev.reads]

/-! `Dev.drew`. -/

@[simp] theorem Dev.drew_glb (d : Dev) : (d.drew).glb = d.glb := by simp only [Dev.drew]
@[simp] theorem Dev.drew_fns (d : Dev) : (d.drew).fns = d.fns := by simp only [Dev.drew]
@[simp] theorem Dev.drew_host (d : Dev) : (d.drew).host = d.host := by simp only [Dev.drew]
@[simp] theorem Dev.drew_regs (d : Dev) : (d.drew).regs = d.regs := by simp only [Dev.drew]
@[simp] theorem Dev.drew_props (d : Dev) : (d.drew).props = d.props := by simp only [Dev.drew]
@[simp] theorem Dev.drew_force (d : Dev) : (d.drew).force = d.force := by simp only [Dev.drew]
@[simp] theorem Dev.drew_propStaged (d : Dev) : (d.drew).propStaged = d.propStaged := by simp only [Dev.drew]
@[simp] theorem Dev.drew_arrivals (d : Dev) : (d.drew).arrivals = d.arrivals := by simp only [Dev.drew]
@[simp] theorem Dev.drew_claims (d : Dev) : (d.drew).claims = d.claims := by simp only [Dev.drew]
@[simp] theorem Dev.drew_counts (d : Dev) : (d.drew).counts = d.counts := by simp only [Dev.drew]
@[simp] theorem Dev.drew_pln (d : Dev) : (d.drew).pln = d.pln := by simp only [Dev.drew]
@[simp] theorem Dev.drew_mac (d : Dev) : (d.drew).mac = d.mac := by simp only [Dev.drew]
@[simp] theorem Dev.drew_mdm (d : Dev) : (d.drew).mdm = d.mdm := by simp only [Dev.drew]
@[simp] theorem Dev.drew_dec (d : Dev) : (d.drew).dec = d.dec := by simp only [Dev.drew]
@[simp] theorem Dev.drew_fe (d : Dev) : (d.drew).fe = d.fe := by simp only [Dev.drew]
@[simp] theorem Dev.drew_bt (d : Dev) : (d.drew).bt = d.bt := by simp only [Dev.drew]
@[simp] theorem Dev.drew_emac (d : Dev) : (d.drew).emac = d.emac := by simp only [Dev.drew]
@[simp] theorem Dev.drew_rte (d : Dev) : (d.drew).rte = d.rte := by simp only [Dev.drew]
@[simp] theorem Dev.drew_tm (d : Dev) : (d.drew).tm = d.tm := by simp only [Dev.drew]
@[simp] theorem Dev.drew_wcx (d : Dev) : (d.drew).wcx = d.wcx := by simp only [Dev.drew]
@[simp] theorem Dev.drew_sealEng (d : Dev) : (d.drew).sealEng = d.sealEng := by simp only [Dev.drew]
@[simp] theorem Dev.drew_chk (d : Dev) : (d.drew).chk = d.chk := by simp only [Dev.drew]
@[simp] theorem Dev.drew_rgm (d : Dev) : (d.drew).rgm = d.rgm := by simp only [Dev.drew]
@[simp] theorem Dev.drew_mem (d : Dev) : (d.drew).mem = d.mem := by simp only [Dev.drew]
@[simp] theorem Dev.drew_gaf (d : Dev) : (d.drew).gaf = d.gaf := by simp only [Dev.drew]
@[simp] theorem Dev.drew_mgr (d : Dev) : (d.drew).mgr = d.mgr := by simp only [Dev.drew]
@[simp] theorem Dev.drew_ts (d : Dev) : (d.drew).ts = d.ts := by simp only [Dev.drew]
@[simp] theorem Dev.drew_dly (d : Dev) : (d.drew).dly = d.dly := by simp only [Dev.drew]
@[simp] theorem Dev.drew_tst (d : Dev) : (d.drew).tst = d.tst := by simp only [Dev.drew]

/-! `Dev.blPut`. -/

@[simp] theorem Dev.blPut_glb (d : Dev) (a : Nat) (l : List Byte) : (d.blPut a l).glb = d.glb := by simp only [Dev.blPut]
@[simp] theorem Dev.blPut_fns (d : Dev) (a : Nat) (l : List Byte) : (d.blPut a l).fns = d.fns := by simp only [Dev.blPut]
@[simp] theorem Dev.blPut_host (d : Dev) (a : Nat) (l : List Byte) : (d.blPut a l).host = d.host := by simp only [Dev.blPut]
@[simp] theorem Dev.blPut_regs (d : Dev) (a : Nat) (l : List Byte) : (d.blPut a l).regs = d.regs := by simp only [Dev.blPut]
@[simp] theorem Dev.blPut_props (d : Dev) (a : Nat) (l : List Byte) : (d.blPut a l).props = d.props := by simp only [Dev.blPut]
@[simp] theorem Dev.blPut_force (d : Dev) (a : Nat) (l : List Byte) : (d.blPut a l).force = d.force := by simp only [Dev.blPut]
@[simp] theorem Dev.blPut_propStaged (d : Dev) (a : Nat) (l : List Byte) : (d.blPut a l).propStaged = d.propStaged := by simp only [Dev.blPut]
@[simp] theorem Dev.blPut_arrivals (d : Dev) (a : Nat) (l : List Byte) : (d.blPut a l).arrivals = d.arrivals := by simp only [Dev.blPut]
@[simp] theorem Dev.blPut_claims (d : Dev) (a : Nat) (l : List Byte) : (d.blPut a l).claims = d.claims := by simp only [Dev.blPut]
@[simp] theorem Dev.blPut_counts (d : Dev) (a : Nat) (l : List Byte) : (d.blPut a l).counts = d.counts := by simp only [Dev.blPut]
@[simp] theorem Dev.blPut_freeN (d : Dev) (a : Nat) (l : List Byte) : (d.blPut a l).freeN = d.freeN := by simp only [Dev.blPut]
@[simp] theorem Dev.blPut_pln (d : Dev) (a : Nat) (l : List Byte) : (d.blPut a l).pln = d.pln := by simp only [Dev.blPut]
@[simp] theorem Dev.blPut_mac (d : Dev) (a : Nat) (l : List Byte) : (d.blPut a l).mac = d.mac := by simp only [Dev.blPut]
@[simp] theorem Dev.blPut_mdm (d : Dev) (a : Nat) (l : List Byte) : (d.blPut a l).mdm = d.mdm := by simp only [Dev.blPut]
@[simp] theorem Dev.blPut_dec (d : Dev) (a : Nat) (l : List Byte) : (d.blPut a l).dec = d.dec := by simp only [Dev.blPut]
@[simp] theorem Dev.blPut_fe (d : Dev) (a : Nat) (l : List Byte) : (d.blPut a l).fe = d.fe := by simp only [Dev.blPut]
@[simp] theorem Dev.blPut_bt (d : Dev) (a : Nat) (l : List Byte) : (d.blPut a l).bt = d.bt := by simp only [Dev.blPut]
@[simp] theorem Dev.blPut_emac (d : Dev) (a : Nat) (l : List Byte) : (d.blPut a l).emac = d.emac := by simp only [Dev.blPut]
@[simp] theorem Dev.blPut_rte (d : Dev) (a : Nat) (l : List Byte) : (d.blPut a l).rte = d.rte := by simp only [Dev.blPut]
@[simp] theorem Dev.blPut_tm (d : Dev) (a : Nat) (l : List Byte) : (d.blPut a l).tm = d.tm := by simp only [Dev.blPut]
@[simp] theorem Dev.blPut_wcx (d : Dev) (a : Nat) (l : List Byte) : (d.blPut a l).wcx = d.wcx := by simp only [Dev.blPut]
@[simp] theorem Dev.blPut_sealEng (d : Dev) (a : Nat) (l : List Byte) : (d.blPut a l).sealEng = d.sealEng := by simp only [Dev.blPut]
@[simp] theorem Dev.blPut_chk (d : Dev) (a : Nat) (l : List Byte) : (d.blPut a l).chk = d.chk := by simp only [Dev.blPut]
@[simp] theorem Dev.blPut_rgm (d : Dev) (a : Nat) (l : List Byte) : (d.blPut a l).rgm = d.rgm := by simp only [Dev.blPut]
@[simp] theorem Dev.blPut_gaf (d : Dev) (a : Nat) (l : List Byte) : (d.blPut a l).gaf = d.gaf := by simp only [Dev.blPut]
@[simp] theorem Dev.blPut_mgr (d : Dev) (a : Nat) (l : List Byte) : (d.blPut a l).mgr = d.mgr := by simp only [Dev.blPut]
@[simp] theorem Dev.blPut_ts (d : Dev) (a : Nat) (l : List Byte) : (d.blPut a l).ts = d.ts := by simp only [Dev.blPut]
@[simp] theorem Dev.blPut_dly (d : Dev) (a : Nat) (l : List Byte) : (d.blPut a l).dly = d.dly := by simp only [Dev.blPut]
@[simp] theorem Dev.blPut_tst (d : Dev) (a : Nat) (l : List Byte) : (d.blPut a l).tst = d.tst := by simp only [Dev.blPut]

/-! `Dev.hbmPut`. -/

@[simp] theorem Dev.hbmPut_glb (d : Dev) (a : Nat) (l : List Byte) : (d.hbmPut a l).glb = d.glb := by simp only [Dev.hbmPut]
@[simp] theorem Dev.hbmPut_fns (d : Dev) (a : Nat) (l : List Byte) : (d.hbmPut a l).fns = d.fns := by simp only [Dev.hbmPut]
@[simp] theorem Dev.hbmPut_host (d : Dev) (a : Nat) (l : List Byte) : (d.hbmPut a l).host = d.host := by simp only [Dev.hbmPut]
@[simp] theorem Dev.hbmPut_regs (d : Dev) (a : Nat) (l : List Byte) : (d.hbmPut a l).regs = d.regs := by simp only [Dev.hbmPut]
@[simp] theorem Dev.hbmPut_props (d : Dev) (a : Nat) (l : List Byte) : (d.hbmPut a l).props = d.props := by simp only [Dev.hbmPut]
@[simp] theorem Dev.hbmPut_force (d : Dev) (a : Nat) (l : List Byte) : (d.hbmPut a l).force = d.force := by simp only [Dev.hbmPut]
@[simp] theorem Dev.hbmPut_propStaged (d : Dev) (a : Nat) (l : List Byte) : (d.hbmPut a l).propStaged = d.propStaged := by simp only [Dev.hbmPut]
@[simp] theorem Dev.hbmPut_arrivals (d : Dev) (a : Nat) (l : List Byte) : (d.hbmPut a l).arrivals = d.arrivals := by simp only [Dev.hbmPut]
@[simp] theorem Dev.hbmPut_claims (d : Dev) (a : Nat) (l : List Byte) : (d.hbmPut a l).claims = d.claims := by simp only [Dev.hbmPut]
@[simp] theorem Dev.hbmPut_counts (d : Dev) (a : Nat) (l : List Byte) : (d.hbmPut a l).counts = d.counts := by simp only [Dev.hbmPut]
@[simp] theorem Dev.hbmPut_freeN (d : Dev) (a : Nat) (l : List Byte) : (d.hbmPut a l).freeN = d.freeN := by simp only [Dev.hbmPut]
@[simp] theorem Dev.hbmPut_pln (d : Dev) (a : Nat) (l : List Byte) : (d.hbmPut a l).pln = d.pln := by simp only [Dev.hbmPut]
@[simp] theorem Dev.hbmPut_mac (d : Dev) (a : Nat) (l : List Byte) : (d.hbmPut a l).mac = d.mac := by simp only [Dev.hbmPut]
@[simp] theorem Dev.hbmPut_mdm (d : Dev) (a : Nat) (l : List Byte) : (d.hbmPut a l).mdm = d.mdm := by simp only [Dev.hbmPut]
@[simp] theorem Dev.hbmPut_dec (d : Dev) (a : Nat) (l : List Byte) : (d.hbmPut a l).dec = d.dec := by simp only [Dev.hbmPut]
@[simp] theorem Dev.hbmPut_fe (d : Dev) (a : Nat) (l : List Byte) : (d.hbmPut a l).fe = d.fe := by simp only [Dev.hbmPut]
@[simp] theorem Dev.hbmPut_bt (d : Dev) (a : Nat) (l : List Byte) : (d.hbmPut a l).bt = d.bt := by simp only [Dev.hbmPut]
@[simp] theorem Dev.hbmPut_emac (d : Dev) (a : Nat) (l : List Byte) : (d.hbmPut a l).emac = d.emac := by simp only [Dev.hbmPut]
@[simp] theorem Dev.hbmPut_rte (d : Dev) (a : Nat) (l : List Byte) : (d.hbmPut a l).rte = d.rte := by simp only [Dev.hbmPut]
@[simp] theorem Dev.hbmPut_tm (d : Dev) (a : Nat) (l : List Byte) : (d.hbmPut a l).tm = d.tm := by simp only [Dev.hbmPut]
@[simp] theorem Dev.hbmPut_wcx (d : Dev) (a : Nat) (l : List Byte) : (d.hbmPut a l).wcx = d.wcx := by simp only [Dev.hbmPut]
@[simp] theorem Dev.hbmPut_sealEng (d : Dev) (a : Nat) (l : List Byte) : (d.hbmPut a l).sealEng = d.sealEng := by simp only [Dev.hbmPut]
@[simp] theorem Dev.hbmPut_chk (d : Dev) (a : Nat) (l : List Byte) : (d.hbmPut a l).chk = d.chk := by simp only [Dev.hbmPut]
@[simp] theorem Dev.hbmPut_rgm (d : Dev) (a : Nat) (l : List Byte) : (d.hbmPut a l).rgm = d.rgm := by simp only [Dev.hbmPut]
@[simp] theorem Dev.hbmPut_gaf (d : Dev) (a : Nat) (l : List Byte) : (d.hbmPut a l).gaf = d.gaf := by simp only [Dev.hbmPut]
@[simp] theorem Dev.hbmPut_mgr (d : Dev) (a : Nat) (l : List Byte) : (d.hbmPut a l).mgr = d.mgr := by simp only [Dev.hbmPut]
@[simp] theorem Dev.hbmPut_ts (d : Dev) (a : Nat) (l : List Byte) : (d.hbmPut a l).ts = d.ts := by simp only [Dev.hbmPut]
@[simp] theorem Dev.hbmPut_dly (d : Dev) (a : Nat) (l : List Byte) : (d.hbmPut a l).dly = d.dly := by simp only [Dev.hbmPut]
@[simp] theorem Dev.hbmPut_tst (d : Dev) (a : Nat) (l : List Byte) : (d.hbmPut a l).tst = d.tst := by simp only [Dev.hbmPut]

/-! `Dev.hostPut`. -/

@[simp] theorem Dev.hostPut_glb (d : Dev) (f a : Nat) (l : List Byte) : (d.hostPut f a l).glb = d.glb := by simp only [Dev.hostPut, Dev.bump]
@[simp] theorem Dev.hostPut_fns (d : Dev) (f a : Nat) (l : List Byte) : (d.hostPut f a l).fns = d.fns := by simp only [Dev.hostPut, Dev.bump]
@[simp] theorem Dev.hostPut_regs (d : Dev) (f a : Nat) (l : List Byte) : (d.hostPut f a l).regs = d.regs := by simp only [Dev.hostPut, Dev.bump]
@[simp] theorem Dev.hostPut_props (d : Dev) (f a : Nat) (l : List Byte) : (d.hostPut f a l).props = d.props := by simp only [Dev.hostPut, Dev.bump]
@[simp] theorem Dev.hostPut_force (d : Dev) (f a : Nat) (l : List Byte) : (d.hostPut f a l).force = d.force := by simp only [Dev.hostPut, Dev.bump]
@[simp] theorem Dev.hostPut_propStaged (d : Dev) (f a : Nat) (l : List Byte) : (d.hostPut f a l).propStaged = d.propStaged := by simp only [Dev.hostPut, Dev.bump]
@[simp] theorem Dev.hostPut_arrivals (d : Dev) (f a : Nat) (l : List Byte) : (d.hostPut f a l).arrivals = d.arrivals := by simp only [Dev.hostPut, Dev.bump]
@[simp] theorem Dev.hostPut_claims (d : Dev) (f a : Nat) (l : List Byte) : (d.hostPut f a l).claims = d.claims := by simp only [Dev.hostPut, Dev.bump]
@[simp] theorem Dev.hostPut_freeN (d : Dev) (f a : Nat) (l : List Byte) : (d.hostPut f a l).freeN = d.freeN := by simp only [Dev.hostPut, Dev.bump]
@[simp] theorem Dev.hostPut_pln (d : Dev) (f a : Nat) (l : List Byte) : (d.hostPut f a l).pln = d.pln := by simp only [Dev.hostPut, Dev.bump]
@[simp] theorem Dev.hostPut_mac (d : Dev) (f a : Nat) (l : List Byte) : (d.hostPut f a l).mac = d.mac := by simp only [Dev.hostPut, Dev.bump]
@[simp] theorem Dev.hostPut_mdm (d : Dev) (f a : Nat) (l : List Byte) : (d.hostPut f a l).mdm = d.mdm := by simp only [Dev.hostPut, Dev.bump]
@[simp] theorem Dev.hostPut_dec (d : Dev) (f a : Nat) (l : List Byte) : (d.hostPut f a l).dec = d.dec := by simp only [Dev.hostPut, Dev.bump]
@[simp] theorem Dev.hostPut_fe (d : Dev) (f a : Nat) (l : List Byte) : (d.hostPut f a l).fe = d.fe := by simp only [Dev.hostPut, Dev.bump]
@[simp] theorem Dev.hostPut_bt (d : Dev) (f a : Nat) (l : List Byte) : (d.hostPut f a l).bt = d.bt := by simp only [Dev.hostPut, Dev.bump]
@[simp] theorem Dev.hostPut_emac (d : Dev) (f a : Nat) (l : List Byte) : (d.hostPut f a l).emac = d.emac := by simp only [Dev.hostPut, Dev.bump]
@[simp] theorem Dev.hostPut_rte (d : Dev) (f a : Nat) (l : List Byte) : (d.hostPut f a l).rte = d.rte := by simp only [Dev.hostPut, Dev.bump]
@[simp] theorem Dev.hostPut_tm (d : Dev) (f a : Nat) (l : List Byte) : (d.hostPut f a l).tm = d.tm := by simp only [Dev.hostPut, Dev.bump]
@[simp] theorem Dev.hostPut_wcx (d : Dev) (f a : Nat) (l : List Byte) : (d.hostPut f a l).wcx = d.wcx := by simp only [Dev.hostPut, Dev.bump]
@[simp] theorem Dev.hostPut_sealEng (d : Dev) (f a : Nat) (l : List Byte) : (d.hostPut f a l).sealEng = d.sealEng := by simp only [Dev.hostPut, Dev.bump]
@[simp] theorem Dev.hostPut_chk (d : Dev) (f a : Nat) (l : List Byte) : (d.hostPut f a l).chk = d.chk := by simp only [Dev.hostPut, Dev.bump]
@[simp] theorem Dev.hostPut_rgm (d : Dev) (f a : Nat) (l : List Byte) : (d.hostPut f a l).rgm = d.rgm := by simp only [Dev.hostPut, Dev.bump]
@[simp] theorem Dev.hostPut_mem (d : Dev) (f a : Nat) (l : List Byte) : (d.hostPut f a l).mem = d.mem := by simp only [Dev.hostPut, Dev.bump]
@[simp] theorem Dev.hostPut_gaf (d : Dev) (f a : Nat) (l : List Byte) : (d.hostPut f a l).gaf = d.gaf := by simp only [Dev.hostPut, Dev.bump]
@[simp] theorem Dev.hostPut_mgr (d : Dev) (f a : Nat) (l : List Byte) : (d.hostPut f a l).mgr = d.mgr := by simp only [Dev.hostPut, Dev.bump]
@[simp] theorem Dev.hostPut_ts (d : Dev) (f a : Nat) (l : List Byte) : (d.hostPut f a l).ts = d.ts := by simp only [Dev.hostPut, Dev.bump]
@[simp] theorem Dev.hostPut_dly (d : Dev) (f a : Nat) (l : List Byte) : (d.hostPut f a l).dly = d.dly := by simp only [Dev.hostPut, Dev.bump]
@[simp] theorem Dev.hostPut_tst (d : Dev) (f a : Nat) (l : List Byte) : (d.hostPut f a l).tst = d.tst := by simp only [Dev.hostPut, Dev.bump]

/-! `Dev.claim`. -/

@[simp] theorem Dev.claim_glb (d : Dev) (r : Resource) (n : Nat) : (d.claim r n).glb = d.glb := by simp only [Dev.claim]
@[simp] theorem Dev.claim_fns (d : Dev) (r : Resource) (n : Nat) : (d.claim r n).fns = d.fns := by simp only [Dev.claim]
@[simp] theorem Dev.claim_host (d : Dev) (r : Resource) (n : Nat) : (d.claim r n).host = d.host := by simp only [Dev.claim]
@[simp] theorem Dev.claim_regs (d : Dev) (r : Resource) (n : Nat) : (d.claim r n).regs = d.regs := by simp only [Dev.claim]
@[simp] theorem Dev.claim_props (d : Dev) (r : Resource) (n : Nat) : (d.claim r n).props = d.props := by simp only [Dev.claim]
@[simp] theorem Dev.claim_force (d : Dev) (r : Resource) (n : Nat) : (d.claim r n).force = d.force := by simp only [Dev.claim]
@[simp] theorem Dev.claim_propStaged (d : Dev) (r : Resource) (n : Nat) : (d.claim r n).propStaged = d.propStaged := by simp only [Dev.claim]
@[simp] theorem Dev.claim_arrivals (d : Dev) (r : Resource) (n : Nat) : (d.claim r n).arrivals = d.arrivals := by simp only [Dev.claim]
@[simp] theorem Dev.claim_counts (d : Dev) (r : Resource) (n : Nat) : (d.claim r n).counts = d.counts := by simp only [Dev.claim]
@[simp] theorem Dev.claim_freeN (d : Dev) (r : Resource) (n : Nat) : (d.claim r n).freeN = d.freeN := by simp only [Dev.claim]
@[simp] theorem Dev.claim_pln (d : Dev) (r : Resource) (n : Nat) : (d.claim r n).pln = d.pln := by simp only [Dev.claim]
@[simp] theorem Dev.claim_mac (d : Dev) (r : Resource) (n : Nat) : (d.claim r n).mac = d.mac := by simp only [Dev.claim]
@[simp] theorem Dev.claim_mdm (d : Dev) (r : Resource) (n : Nat) : (d.claim r n).mdm = d.mdm := by simp only [Dev.claim]
@[simp] theorem Dev.claim_dec (d : Dev) (r : Resource) (n : Nat) : (d.claim r n).dec = d.dec := by simp only [Dev.claim]
@[simp] theorem Dev.claim_fe (d : Dev) (r : Resource) (n : Nat) : (d.claim r n).fe = d.fe := by simp only [Dev.claim]
@[simp] theorem Dev.claim_bt (d : Dev) (r : Resource) (n : Nat) : (d.claim r n).bt = d.bt := by simp only [Dev.claim]
@[simp] theorem Dev.claim_emac (d : Dev) (r : Resource) (n : Nat) : (d.claim r n).emac = d.emac := by simp only [Dev.claim]
@[simp] theorem Dev.claim_rte (d : Dev) (r : Resource) (n : Nat) : (d.claim r n).rte = d.rte := by simp only [Dev.claim]
@[simp] theorem Dev.claim_tm (d : Dev) (r : Resource) (n : Nat) : (d.claim r n).tm = d.tm := by simp only [Dev.claim]
@[simp] theorem Dev.claim_wcx (d : Dev) (r : Resource) (n : Nat) : (d.claim r n).wcx = d.wcx := by simp only [Dev.claim]
@[simp] theorem Dev.claim_sealEng (d : Dev) (r : Resource) (n : Nat) : (d.claim r n).sealEng = d.sealEng := by simp only [Dev.claim]
@[simp] theorem Dev.claim_chk (d : Dev) (r : Resource) (n : Nat) : (d.claim r n).chk = d.chk := by simp only [Dev.claim]
@[simp] theorem Dev.claim_rgm (d : Dev) (r : Resource) (n : Nat) : (d.claim r n).rgm = d.rgm := by simp only [Dev.claim]
@[simp] theorem Dev.claim_mem (d : Dev) (r : Resource) (n : Nat) : (d.claim r n).mem = d.mem := by simp only [Dev.claim]
@[simp] theorem Dev.claim_gaf (d : Dev) (r : Resource) (n : Nat) : (d.claim r n).gaf = d.gaf := by simp only [Dev.claim]
@[simp] theorem Dev.claim_mgr (d : Dev) (r : Resource) (n : Nat) : (d.claim r n).mgr = d.mgr := by simp only [Dev.claim]
@[simp] theorem Dev.claim_ts (d : Dev) (r : Resource) (n : Nat) : (d.claim r n).ts = d.ts := by simp only [Dev.claim]
@[simp] theorem Dev.claim_dly (d : Dev) (r : Resource) (n : Nat) : (d.claim r n).dly = d.dly := by simp only [Dev.claim]
@[simp] theorem Dev.claim_tst (d : Dev) (r : Resource) (n : Nat) : (d.claim r n).tst = d.tst := by simp only [Dev.claim]

/-! `Dev.handoff`. -/

@[simp] theorem Dev.handoff_fns (d : Dev) (t : Nat) (k : HandoffKind) (i : Nat) : (d.handoff t k i).fns = d.fns := by simp only [Dev.handoff]
@[simp] theorem Dev.handoff_host (d : Dev) (t : Nat) (k : HandoffKind) (i : Nat) : (d.handoff t k i).host = d.host := by simp only [Dev.handoff]
@[simp] theorem Dev.handoff_regs (d : Dev) (t : Nat) (k : HandoffKind) (i : Nat) : (d.handoff t k i).regs = d.regs := by simp only [Dev.handoff]
@[simp] theorem Dev.handoff_props (d : Dev) (t : Nat) (k : HandoffKind) (i : Nat) : (d.handoff t k i).props = d.props := by simp only [Dev.handoff]
@[simp] theorem Dev.handoff_force (d : Dev) (t : Nat) (k : HandoffKind) (i : Nat) : (d.handoff t k i).force = d.force := by simp only [Dev.handoff]
@[simp] theorem Dev.handoff_propStaged (d : Dev) (t : Nat) (k : HandoffKind) (i : Nat) : (d.handoff t k i).propStaged = d.propStaged := by simp only [Dev.handoff]
@[simp] theorem Dev.handoff_arrivals (d : Dev) (t : Nat) (k : HandoffKind) (i : Nat) : (d.handoff t k i).arrivals = d.arrivals := by simp only [Dev.handoff]
@[simp] theorem Dev.handoff_claims (d : Dev) (t : Nat) (k : HandoffKind) (i : Nat) : (d.handoff t k i).claims = d.claims := by simp only [Dev.handoff]
@[simp] theorem Dev.handoff_counts (d : Dev) (t : Nat) (k : HandoffKind) (i : Nat) : (d.handoff t k i).counts = d.counts := by simp only [Dev.handoff]
@[simp] theorem Dev.handoff_freeN (d : Dev) (t : Nat) (k : HandoffKind) (i : Nat) : (d.handoff t k i).freeN = d.freeN := by simp only [Dev.handoff]
@[simp] theorem Dev.handoff_pln (d : Dev) (t : Nat) (k : HandoffKind) (i : Nat) : (d.handoff t k i).pln = d.pln := by simp only [Dev.handoff]
@[simp] theorem Dev.handoff_mac (d : Dev) (t : Nat) (k : HandoffKind) (i : Nat) : (d.handoff t k i).mac = d.mac := by simp only [Dev.handoff]
@[simp] theorem Dev.handoff_mdm (d : Dev) (t : Nat) (k : HandoffKind) (i : Nat) : (d.handoff t k i).mdm = d.mdm := by simp only [Dev.handoff]
@[simp] theorem Dev.handoff_dec (d : Dev) (t : Nat) (k : HandoffKind) (i : Nat) : (d.handoff t k i).dec = d.dec := by simp only [Dev.handoff]
@[simp] theorem Dev.handoff_fe (d : Dev) (t : Nat) (k : HandoffKind) (i : Nat) : (d.handoff t k i).fe = d.fe := by simp only [Dev.handoff]
@[simp] theorem Dev.handoff_bt (d : Dev) (t : Nat) (k : HandoffKind) (i : Nat) : (d.handoff t k i).bt = d.bt := by simp only [Dev.handoff]
@[simp] theorem Dev.handoff_emac (d : Dev) (t : Nat) (k : HandoffKind) (i : Nat) : (d.handoff t k i).emac = d.emac := by simp only [Dev.handoff]
@[simp] theorem Dev.handoff_rte (d : Dev) (t : Nat) (k : HandoffKind) (i : Nat) : (d.handoff t k i).rte = d.rte := by simp only [Dev.handoff]
@[simp] theorem Dev.handoff_tm (d : Dev) (t : Nat) (k : HandoffKind) (i : Nat) : (d.handoff t k i).tm = d.tm := by simp only [Dev.handoff]
@[simp] theorem Dev.handoff_wcx (d : Dev) (t : Nat) (k : HandoffKind) (i : Nat) : (d.handoff t k i).wcx = d.wcx := by simp only [Dev.handoff]
@[simp] theorem Dev.handoff_sealEng (d : Dev) (t : Nat) (k : HandoffKind) (i : Nat) : (d.handoff t k i).sealEng = d.sealEng := by simp only [Dev.handoff]
@[simp] theorem Dev.handoff_chk (d : Dev) (t : Nat) (k : HandoffKind) (i : Nat) : (d.handoff t k i).chk = d.chk := by simp only [Dev.handoff]
@[simp] theorem Dev.handoff_rgm (d : Dev) (t : Nat) (k : HandoffKind) (i : Nat) : (d.handoff t k i).rgm = d.rgm := by simp only [Dev.handoff]
@[simp] theorem Dev.handoff_mem (d : Dev) (t : Nat) (k : HandoffKind) (i : Nat) : (d.handoff t k i).mem = d.mem := by simp only [Dev.handoff]
@[simp] theorem Dev.handoff_gaf (d : Dev) (t : Nat) (k : HandoffKind) (i : Nat) : (d.handoff t k i).gaf = d.gaf := by simp only [Dev.handoff]
@[simp] theorem Dev.handoff_mgr (d : Dev) (t : Nat) (k : HandoffKind) (i : Nat) : (d.handoff t k i).mgr = d.mgr := by simp only [Dev.handoff]
@[simp] theorem Dev.handoff_ts (d : Dev) (t : Nat) (k : HandoffKind) (i : Nat) : (d.handoff t k i).ts = d.ts := by simp only [Dev.handoff]
@[simp] theorem Dev.handoff_dly (d : Dev) (t : Nat) (k : HandoffKind) (i : Nat) : (d.handoff t k i).dly = d.dly := by simp only [Dev.handoff]
@[simp] theorem Dev.handoff_tst (d : Dev) (t : Nat) (k : HandoffKind) (i : Nat) : (d.handoff t k i).tst = d.tst := by simp only [Dev.handoff]

/-! `Dev.modCore`. -/

@[simp] theorem Dev.modCore_glb (d : Dev) (c : Nat) (f : Core → Core) : (d.modCore c f).glb = d.glb := by simp only [Dev.modCore]
@[simp] theorem Dev.modCore_fns (d : Dev) (c : Nat) (f : Core → Core) : (d.modCore c f).fns = d.fns := by simp only [Dev.modCore]
@[simp] theorem Dev.modCore_host (d : Dev) (c : Nat) (f : Core → Core) : (d.modCore c f).host = d.host := by simp only [Dev.modCore]
@[simp] theorem Dev.modCore_regs (d : Dev) (c : Nat) (f : Core → Core) : (d.modCore c f).regs = d.regs := by simp only [Dev.modCore]
@[simp] theorem Dev.modCore_props (d : Dev) (c : Nat) (f : Core → Core) : (d.modCore c f).props = d.props := by simp only [Dev.modCore]
@[simp] theorem Dev.modCore_force (d : Dev) (c : Nat) (f : Core → Core) : (d.modCore c f).force = d.force := by simp only [Dev.modCore]
@[simp] theorem Dev.modCore_propStaged (d : Dev) (c : Nat) (f : Core → Core) : (d.modCore c f).propStaged = d.propStaged := by simp only [Dev.modCore]
@[simp] theorem Dev.modCore_arrivals (d : Dev) (c : Nat) (f : Core → Core) : (d.modCore c f).arrivals = d.arrivals := by simp only [Dev.modCore]
@[simp] theorem Dev.modCore_claims (d : Dev) (c : Nat) (f : Core → Core) : (d.modCore c f).claims = d.claims := by simp only [Dev.modCore]
@[simp] theorem Dev.modCore_counts (d : Dev) (c : Nat) (f : Core → Core) : (d.modCore c f).counts = d.counts := by simp only [Dev.modCore]
@[simp] theorem Dev.modCore_freeN (d : Dev) (c : Nat) (f : Core → Core) : (d.modCore c f).freeN = d.freeN := by simp only [Dev.modCore]
@[simp] theorem Dev.modCore_pln (d : Dev) (c : Nat) (f : Core → Core) : (d.modCore c f).pln = d.pln := by simp only [Dev.modCore]
@[simp] theorem Dev.modCore_mac (d : Dev) (c : Nat) (f : Core → Core) : (d.modCore c f).mac = d.mac := by simp only [Dev.modCore]
@[simp] theorem Dev.modCore_mdm (d : Dev) (c : Nat) (f : Core → Core) : (d.modCore c f).mdm = d.mdm := by simp only [Dev.modCore]
@[simp] theorem Dev.modCore_dec (d : Dev) (c : Nat) (f : Core → Core) : (d.modCore c f).dec = d.dec := by simp only [Dev.modCore]
@[simp] theorem Dev.modCore_fe (d : Dev) (c : Nat) (f : Core → Core) : (d.modCore c f).fe = d.fe := by simp only [Dev.modCore]
@[simp] theorem Dev.modCore_bt (d : Dev) (c : Nat) (f : Core → Core) : (d.modCore c f).bt = d.bt := by simp only [Dev.modCore]
@[simp] theorem Dev.modCore_emac (d : Dev) (c : Nat) (f : Core → Core) : (d.modCore c f).emac = d.emac := by simp only [Dev.modCore]
@[simp] theorem Dev.modCore_rte (d : Dev) (c : Nat) (f : Core → Core) : (d.modCore c f).rte = d.rte := by simp only [Dev.modCore]
@[simp] theorem Dev.modCore_tm (d : Dev) (c : Nat) (f : Core → Core) : (d.modCore c f).tm = d.tm := by simp only [Dev.modCore]
@[simp] theorem Dev.modCore_wcx (d : Dev) (c : Nat) (f : Core → Core) : (d.modCore c f).wcx = d.wcx := by simp only [Dev.modCore]
@[simp] theorem Dev.modCore_sealEng (d : Dev) (c : Nat) (f : Core → Core) : (d.modCore c f).sealEng = d.sealEng := by simp only [Dev.modCore]
@[simp] theorem Dev.modCore_chk (d : Dev) (c : Nat) (f : Core → Core) : (d.modCore c f).chk = d.chk := by simp only [Dev.modCore]
@[simp] theorem Dev.modCore_mem (d : Dev) (c : Nat) (f : Core → Core) : (d.modCore c f).mem = d.mem := by simp only [Dev.modCore]
@[simp] theorem Dev.modCore_gaf (d : Dev) (c : Nat) (f : Core → Core) : (d.modCore c f).gaf = d.gaf := by simp only [Dev.modCore]
@[simp] theorem Dev.modCore_mgr (d : Dev) (c : Nat) (f : Core → Core) : (d.modCore c f).mgr = d.mgr := by simp only [Dev.modCore]
@[simp] theorem Dev.modCore_ts (d : Dev) (c : Nat) (f : Core → Core) : (d.modCore c f).ts = d.ts := by simp only [Dev.modCore]
@[simp] theorem Dev.modCore_dly (d : Dev) (c : Nat) (f : Core → Core) : (d.modCore c f).dly = d.dly := by simp only [Dev.modCore]
@[simp] theorem Dev.modCore_tst (d : Dev) (c : Nat) (f : Core → Core) : (d.modCore c f).tst = d.tst := by simp only [Dev.modCore]

/-! `Dev.modHart`. -/

@[simp] theorem Dev.modHart_glb (d : Dev) (c : Nat) (f : Hart → Hart) : (d.modHart c f).glb = d.glb := by simp [Dev.modHart]
@[simp] theorem Dev.modHart_fns (d : Dev) (c : Nat) (f : Hart → Hart) : (d.modHart c f).fns = d.fns := by simp [Dev.modHart]
@[simp] theorem Dev.modHart_host (d : Dev) (c : Nat) (f : Hart → Hart) : (d.modHart c f).host = d.host := by simp [Dev.modHart]
@[simp] theorem Dev.modHart_regs (d : Dev) (c : Nat) (f : Hart → Hart) : (d.modHart c f).regs = d.regs := by simp [Dev.modHart]
@[simp] theorem Dev.modHart_props (d : Dev) (c : Nat) (f : Hart → Hart) : (d.modHart c f).props = d.props := by simp [Dev.modHart]
@[simp] theorem Dev.modHart_force (d : Dev) (c : Nat) (f : Hart → Hart) : (d.modHart c f).force = d.force := by simp [Dev.modHart]
@[simp] theorem Dev.modHart_propStaged (d : Dev) (c : Nat) (f : Hart → Hart) : (d.modHart c f).propStaged = d.propStaged := by simp [Dev.modHart]
@[simp] theorem Dev.modHart_arrivals (d : Dev) (c : Nat) (f : Hart → Hart) : (d.modHart c f).arrivals = d.arrivals := by simp [Dev.modHart]
@[simp] theorem Dev.modHart_claims (d : Dev) (c : Nat) (f : Hart → Hart) : (d.modHart c f).claims = d.claims := by simp [Dev.modHart]
@[simp] theorem Dev.modHart_counts (d : Dev) (c : Nat) (f : Hart → Hart) : (d.modHart c f).counts = d.counts := by simp [Dev.modHart]
@[simp] theorem Dev.modHart_freeN (d : Dev) (c : Nat) (f : Hart → Hart) : (d.modHart c f).freeN = d.freeN := by simp [Dev.modHart]
@[simp] theorem Dev.modHart_pln (d : Dev) (c : Nat) (f : Hart → Hart) : (d.modHart c f).pln = d.pln := by simp [Dev.modHart]
@[simp] theorem Dev.modHart_mac (d : Dev) (c : Nat) (f : Hart → Hart) : (d.modHart c f).mac = d.mac := by simp [Dev.modHart]
@[simp] theorem Dev.modHart_mdm (d : Dev) (c : Nat) (f : Hart → Hart) : (d.modHart c f).mdm = d.mdm := by simp [Dev.modHart]
@[simp] theorem Dev.modHart_dec (d : Dev) (c : Nat) (f : Hart → Hart) : (d.modHart c f).dec = d.dec := by simp [Dev.modHart]
@[simp] theorem Dev.modHart_fe (d : Dev) (c : Nat) (f : Hart → Hart) : (d.modHart c f).fe = d.fe := by simp [Dev.modHart]
@[simp] theorem Dev.modHart_bt (d : Dev) (c : Nat) (f : Hart → Hart) : (d.modHart c f).bt = d.bt := by simp [Dev.modHart]
@[simp] theorem Dev.modHart_emac (d : Dev) (c : Nat) (f : Hart → Hart) : (d.modHart c f).emac = d.emac := by simp [Dev.modHart]
@[simp] theorem Dev.modHart_rte (d : Dev) (c : Nat) (f : Hart → Hart) : (d.modHart c f).rte = d.rte := by simp [Dev.modHart]
@[simp] theorem Dev.modHart_tm (d : Dev) (c : Nat) (f : Hart → Hart) : (d.modHart c f).tm = d.tm := by simp [Dev.modHart]
@[simp] theorem Dev.modHart_wcx (d : Dev) (c : Nat) (f : Hart → Hart) : (d.modHart c f).wcx = d.wcx := by simp [Dev.modHart]
@[simp] theorem Dev.modHart_sealEng (d : Dev) (c : Nat) (f : Hart → Hart) : (d.modHart c f).sealEng = d.sealEng := by simp [Dev.modHart]
@[simp] theorem Dev.modHart_chk (d : Dev) (c : Nat) (f : Hart → Hart) : (d.modHart c f).chk = d.chk := by simp [Dev.modHart]
@[simp] theorem Dev.modHart_mem (d : Dev) (c : Nat) (f : Hart → Hart) : (d.modHart c f).mem = d.mem := by simp [Dev.modHart]
@[simp] theorem Dev.modHart_gaf (d : Dev) (c : Nat) (f : Hart → Hart) : (d.modHart c f).gaf = d.gaf := by simp [Dev.modHart]
@[simp] theorem Dev.modHart_mgr (d : Dev) (c : Nat) (f : Hart → Hart) : (d.modHart c f).mgr = d.mgr := by simp [Dev.modHart]
@[simp] theorem Dev.modHart_ts (d : Dev) (c : Nat) (f : Hart → Hart) : (d.modHart c f).ts = d.ts := by simp [Dev.modHart]
@[simp] theorem Dev.modHart_dly (d : Dev) (c : Nat) (f : Hart → Hart) : (d.modHart c f).dly = d.dly := by simp [Dev.modHart]
@[simp] theorem Dev.modHart_tst (d : Dev) (c : Nat) (f : Hart → Hart) : (d.modHart c f).tst = d.tst := by simp [Dev.modHart]

/-! `Dev.coreFault`. -/

@[simp] theorem Dev.coreFault_glb (d : Dev) (m : Master) (k v : Nat) : (d.coreFault m k v).glb = d.glb := by unfold Dev.coreFault; split <;> rfl
@[simp] theorem Dev.coreFault_fns (d : Dev) (m : Master) (k v : Nat) : (d.coreFault m k v).fns = d.fns := by unfold Dev.coreFault; split <;> rfl
@[simp] theorem Dev.coreFault_host (d : Dev) (m : Master) (k v : Nat) : (d.coreFault m k v).host = d.host := by unfold Dev.coreFault; split <;> rfl
@[simp] theorem Dev.coreFault_regs (d : Dev) (m : Master) (k v : Nat) : (d.coreFault m k v).regs = d.regs := by unfold Dev.coreFault; split <;> rfl
@[simp] theorem Dev.coreFault_props (d : Dev) (m : Master) (k v : Nat) : (d.coreFault m k v).props = d.props := by unfold Dev.coreFault; split <;> rfl
@[simp] theorem Dev.coreFault_force (d : Dev) (m : Master) (k v : Nat) : (d.coreFault m k v).force = d.force := by unfold Dev.coreFault; split <;> rfl
@[simp] theorem Dev.coreFault_propStaged (d : Dev) (m : Master) (k v : Nat) : (d.coreFault m k v).propStaged = d.propStaged := by unfold Dev.coreFault; split <;> rfl
@[simp] theorem Dev.coreFault_arrivals (d : Dev) (m : Master) (k v : Nat) : (d.coreFault m k v).arrivals = d.arrivals := by unfold Dev.coreFault; split <;> rfl
@[simp] theorem Dev.coreFault_claims (d : Dev) (m : Master) (k v : Nat) : (d.coreFault m k v).claims = d.claims := by unfold Dev.coreFault; split <;> rfl
@[simp] theorem Dev.coreFault_counts (d : Dev) (m : Master) (k v : Nat) : (d.coreFault m k v).counts = d.counts := by unfold Dev.coreFault; split <;> rfl
@[simp] theorem Dev.coreFault_freeN (d : Dev) (m : Master) (k v : Nat) : (d.coreFault m k v).freeN = d.freeN := by unfold Dev.coreFault; split <;> rfl
@[simp] theorem Dev.coreFault_pln (d : Dev) (m : Master) (k v : Nat) : (d.coreFault m k v).pln = d.pln := by unfold Dev.coreFault; split <;> rfl
@[simp] theorem Dev.coreFault_mac (d : Dev) (m : Master) (k v : Nat) : (d.coreFault m k v).mac = d.mac := by unfold Dev.coreFault; split <;> rfl
@[simp] theorem Dev.coreFault_mdm (d : Dev) (m : Master) (k v : Nat) : (d.coreFault m k v).mdm = d.mdm := by unfold Dev.coreFault; split <;> rfl
@[simp] theorem Dev.coreFault_dec (d : Dev) (m : Master) (k v : Nat) : (d.coreFault m k v).dec = d.dec := by unfold Dev.coreFault; split <;> rfl
@[simp] theorem Dev.coreFault_fe (d : Dev) (m : Master) (k v : Nat) : (d.coreFault m k v).fe = d.fe := by unfold Dev.coreFault; split <;> rfl
@[simp] theorem Dev.coreFault_bt (d : Dev) (m : Master) (k v : Nat) : (d.coreFault m k v).bt = d.bt := by unfold Dev.coreFault; split <;> rfl
@[simp] theorem Dev.coreFault_emac (d : Dev) (m : Master) (k v : Nat) : (d.coreFault m k v).emac = d.emac := by unfold Dev.coreFault; split <;> rfl
@[simp] theorem Dev.coreFault_rte (d : Dev) (m : Master) (k v : Nat) : (d.coreFault m k v).rte = d.rte := by unfold Dev.coreFault; split <;> rfl
@[simp] theorem Dev.coreFault_tm (d : Dev) (m : Master) (k v : Nat) : (d.coreFault m k v).tm = d.tm := by unfold Dev.coreFault; split <;> rfl
@[simp] theorem Dev.coreFault_wcx (d : Dev) (m : Master) (k v : Nat) : (d.coreFault m k v).wcx = d.wcx := by unfold Dev.coreFault; split <;> rfl
@[simp] theorem Dev.coreFault_sealEng (d : Dev) (m : Master) (k v : Nat) : (d.coreFault m k v).sealEng = d.sealEng := by unfold Dev.coreFault; split <;> rfl
@[simp] theorem Dev.coreFault_chk (d : Dev) (m : Master) (k v : Nat) : (d.coreFault m k v).chk = d.chk := by unfold Dev.coreFault; split <;> rfl
@[simp] theorem Dev.coreFault_mem (d : Dev) (m : Master) (k v : Nat) : (d.coreFault m k v).mem = d.mem := by unfold Dev.coreFault; split <;> rfl
@[simp] theorem Dev.coreFault_gaf (d : Dev) (m : Master) (k v : Nat) : (d.coreFault m k v).gaf = d.gaf := by unfold Dev.coreFault; split <;> rfl
@[simp] theorem Dev.coreFault_mgr (d : Dev) (m : Master) (k v : Nat) : (d.coreFault m k v).mgr = d.mgr := by unfold Dev.coreFault; split <;> rfl
@[simp] theorem Dev.coreFault_ts (d : Dev) (m : Master) (k v : Nat) : (d.coreFault m k v).ts = d.ts := by unfold Dev.coreFault; split <;> rfl
@[simp] theorem Dev.coreFault_dly (d : Dev) (m : Master) (k v : Nat) : (d.coreFault m k v).dly = d.dly := by unfold Dev.coreFault; split <;> rfl
@[simp] theorem Dev.coreFault_tst (d : Dev) (m : Master) (k v : Nat) : (d.coreFault m k v).tst = d.tst := by unfold Dev.coreFault; split <;> rfl

/-! `Dev.markSet`. -/

@[simp] theorem Dev.markSet_fns (d : Dev) (a b : Nat) : (d.markSet a b).fns = d.fns := by simp only [Dev.markSet]
@[simp] theorem Dev.markSet_host (d : Dev) (a b : Nat) : (d.markSet a b).host = d.host := by simp only [Dev.markSet]
@[simp] theorem Dev.markSet_regs (d : Dev) (a b : Nat) : (d.markSet a b).regs = d.regs := by simp only [Dev.markSet]
@[simp] theorem Dev.markSet_props (d : Dev) (a b : Nat) : (d.markSet a b).props = d.props := by simp only [Dev.markSet]
@[simp] theorem Dev.markSet_force (d : Dev) (a b : Nat) : (d.markSet a b).force = d.force := by simp only [Dev.markSet]
@[simp] theorem Dev.markSet_propStaged (d : Dev) (a b : Nat) : (d.markSet a b).propStaged = d.propStaged := by simp only [Dev.markSet]
@[simp] theorem Dev.markSet_arrivals (d : Dev) (a b : Nat) : (d.markSet a b).arrivals = d.arrivals := by simp only [Dev.markSet]
@[simp] theorem Dev.markSet_claims (d : Dev) (a b : Nat) : (d.markSet a b).claims = d.claims := by simp only [Dev.markSet]
@[simp] theorem Dev.markSet_counts (d : Dev) (a b : Nat) : (d.markSet a b).counts = d.counts := by simp only [Dev.markSet]
@[simp] theorem Dev.markSet_freeN (d : Dev) (a b : Nat) : (d.markSet a b).freeN = d.freeN := by simp only [Dev.markSet]
@[simp] theorem Dev.markSet_pln (d : Dev) (a b : Nat) : (d.markSet a b).pln = d.pln := by simp only [Dev.markSet]
@[simp] theorem Dev.markSet_mac (d : Dev) (a b : Nat) : (d.markSet a b).mac = d.mac := by simp only [Dev.markSet]
@[simp] theorem Dev.markSet_mdm (d : Dev) (a b : Nat) : (d.markSet a b).mdm = d.mdm := by simp only [Dev.markSet]
@[simp] theorem Dev.markSet_dec (d : Dev) (a b : Nat) : (d.markSet a b).dec = d.dec := by simp only [Dev.markSet]
@[simp] theorem Dev.markSet_fe (d : Dev) (a b : Nat) : (d.markSet a b).fe = d.fe := by simp only [Dev.markSet]
@[simp] theorem Dev.markSet_bt (d : Dev) (a b : Nat) : (d.markSet a b).bt = d.bt := by simp only [Dev.markSet]
@[simp] theorem Dev.markSet_emac (d : Dev) (a b : Nat) : (d.markSet a b).emac = d.emac := by simp only [Dev.markSet]
@[simp] theorem Dev.markSet_rte (d : Dev) (a b : Nat) : (d.markSet a b).rte = d.rte := by simp only [Dev.markSet]
@[simp] theorem Dev.markSet_tm (d : Dev) (a b : Nat) : (d.markSet a b).tm = d.tm := by simp only [Dev.markSet]
@[simp] theorem Dev.markSet_wcx (d : Dev) (a b : Nat) : (d.markSet a b).wcx = d.wcx := by simp only [Dev.markSet]
@[simp] theorem Dev.markSet_sealEng (d : Dev) (a b : Nat) : (d.markSet a b).sealEng = d.sealEng := by simp only [Dev.markSet]
@[simp] theorem Dev.markSet_chk (d : Dev) (a b : Nat) : (d.markSet a b).chk = d.chk := by simp only [Dev.markSet]
@[simp] theorem Dev.markSet_rgm (d : Dev) (a b : Nat) : (d.markSet a b).rgm = d.rgm := by simp only [Dev.markSet]
@[simp] theorem Dev.markSet_mem (d : Dev) (a b : Nat) : (d.markSet a b).mem = d.mem := by simp only [Dev.markSet]
@[simp] theorem Dev.markSet_gaf (d : Dev) (a b : Nat) : (d.markSet a b).gaf = d.gaf := by simp only [Dev.markSet]
@[simp] theorem Dev.markSet_mgr (d : Dev) (a b : Nat) : (d.markSet a b).mgr = d.mgr := by simp only [Dev.markSet]
@[simp] theorem Dev.markSet_ts (d : Dev) (a b : Nat) : (d.markSet a b).ts = d.ts := by simp only [Dev.markSet]
@[simp] theorem Dev.markSet_dly (d : Dev) (a b : Nat) : (d.markSet a b).dly = d.dly := by simp only [Dev.markSet]
@[simp] theorem Dev.markSet_tst (d : Dev) (a b : Nat) : (d.markSet a b).tst = d.tst := by simp only [Dev.markSet]

/-! `Dev.logBit`. -/

@[simp] theorem Dev.logBit_glb (d : Dev) (t a b k x : Nat) : (d.logBit t a b k x).glb = d.glb := by simp only [Dev.logBit]
@[simp] theorem Dev.logBit_fns (d : Dev) (t a b k x : Nat) : (d.logBit t a b k x).fns = d.fns := by simp only [Dev.logBit]
@[simp] theorem Dev.logBit_host (d : Dev) (t a b k x : Nat) : (d.logBit t a b k x).host = d.host := by simp only [Dev.logBit]
@[simp] theorem Dev.logBit_regs (d : Dev) (t a b k x : Nat) : (d.logBit t a b k x).regs = d.regs := by simp only [Dev.logBit]
@[simp] theorem Dev.logBit_props (d : Dev) (t a b k x : Nat) : (d.logBit t a b k x).props = d.props := by simp only [Dev.logBit]
@[simp] theorem Dev.logBit_force (d : Dev) (t a b k x : Nat) : (d.logBit t a b k x).force = d.force := by simp only [Dev.logBit]
@[simp] theorem Dev.logBit_propStaged (d : Dev) (t a b k x : Nat) : (d.logBit t a b k x).propStaged = d.propStaged := by simp only [Dev.logBit]
@[simp] theorem Dev.logBit_arrivals (d : Dev) (t a b k x : Nat) : (d.logBit t a b k x).arrivals = d.arrivals := by simp only [Dev.logBit]
@[simp] theorem Dev.logBit_claims (d : Dev) (t a b k x : Nat) : (d.logBit t a b k x).claims = d.claims := by simp only [Dev.logBit]
@[simp] theorem Dev.logBit_counts (d : Dev) (t a b k x : Nat) : (d.logBit t a b k x).counts = d.counts := by simp only [Dev.logBit]
@[simp] theorem Dev.logBit_freeN (d : Dev) (t a b k x : Nat) : (d.logBit t a b k x).freeN = d.freeN := by simp only [Dev.logBit]
@[simp] theorem Dev.logBit_pln (d : Dev) (t a b k x : Nat) : (d.logBit t a b k x).pln = d.pln := by simp only [Dev.logBit]
@[simp] theorem Dev.logBit_mac (d : Dev) (t a b k x : Nat) : (d.logBit t a b k x).mac = d.mac := by simp only [Dev.logBit]
@[simp] theorem Dev.logBit_mdm (d : Dev) (t a b k x : Nat) : (d.logBit t a b k x).mdm = d.mdm := by simp only [Dev.logBit]
@[simp] theorem Dev.logBit_dec (d : Dev) (t a b k x : Nat) : (d.logBit t a b k x).dec = d.dec := by simp only [Dev.logBit]
@[simp] theorem Dev.logBit_fe (d : Dev) (t a b k x : Nat) : (d.logBit t a b k x).fe = d.fe := by simp only [Dev.logBit]
@[simp] theorem Dev.logBit_bt (d : Dev) (t a b k x : Nat) : (d.logBit t a b k x).bt = d.bt := by simp only [Dev.logBit]
@[simp] theorem Dev.logBit_emac (d : Dev) (t a b k x : Nat) : (d.logBit t a b k x).emac = d.emac := by simp only [Dev.logBit]
@[simp] theorem Dev.logBit_rte (d : Dev) (t a b k x : Nat) : (d.logBit t a b k x).rte = d.rte := by simp only [Dev.logBit]
@[simp] theorem Dev.logBit_tm (d : Dev) (t a b k x : Nat) : (d.logBit t a b k x).tm = d.tm := by simp only [Dev.logBit]
@[simp] theorem Dev.logBit_wcx (d : Dev) (t a b k x : Nat) : (d.logBit t a b k x).wcx = d.wcx := by simp only [Dev.logBit]
@[simp] theorem Dev.logBit_sealEng (d : Dev) (t a b k x : Nat) : (d.logBit t a b k x).sealEng = d.sealEng := by simp only [Dev.logBit]
@[simp] theorem Dev.logBit_chk (d : Dev) (t a b k x : Nat) : (d.logBit t a b k x).chk = d.chk := by simp only [Dev.logBit]
@[simp] theorem Dev.logBit_rgm (d : Dev) (t a b k x : Nat) : (d.logBit t a b k x).rgm = d.rgm := by simp only [Dev.logBit]
@[simp] theorem Dev.logBit_mem (d : Dev) (t a b k x : Nat) : (d.logBit t a b k x).mem = d.mem := by simp only [Dev.logBit]
@[simp] theorem Dev.logBit_gaf (d : Dev) (t a b k x : Nat) : (d.logBit t a b k x).gaf = d.gaf := by simp only [Dev.logBit]
@[simp] theorem Dev.logBit_ts (d : Dev) (t a b k x : Nat) : (d.logBit t a b k x).ts = d.ts := by simp only [Dev.logBit]
@[simp] theorem Dev.logBit_dly (d : Dev) (t a b k x : Nat) : (d.logBit t a b k x).dly = d.dly := by simp only [Dev.logBit]
@[simp] theorem Dev.logBit_tst (d : Dev) (t a b k x : Nat) : (d.logBit t a b k x).tst = d.tst := by simp only [Dev.logBit]

/-! `Dev.sense`. -/

@[simp] theorem Dev.sense_glb (d : Dev) (r : Readings) : (d.sense r).glb = d.glb := by simp only [Dev.sense]
@[simp] theorem Dev.sense_fns (d : Dev) (r : Readings) : (d.sense r).fns = d.fns := by simp only [Dev.sense]
@[simp] theorem Dev.sense_host (d : Dev) (r : Readings) : (d.sense r).host = d.host := by simp only [Dev.sense]
@[simp] theorem Dev.sense_regs (d : Dev) (r : Readings) : (d.sense r).regs = d.regs := by simp only [Dev.sense]
@[simp] theorem Dev.sense_props (d : Dev) (r : Readings) : (d.sense r).props = d.props := by simp only [Dev.sense]
@[simp] theorem Dev.sense_force (d : Dev) (r : Readings) : (d.sense r).force = d.force := by simp only [Dev.sense]
@[simp] theorem Dev.sense_propStaged (d : Dev) (r : Readings) : (d.sense r).propStaged = d.propStaged := by simp only [Dev.sense]
@[simp] theorem Dev.sense_arrivals (d : Dev) (r : Readings) : (d.sense r).arrivals = d.arrivals := by simp only [Dev.sense]
@[simp] theorem Dev.sense_claims (d : Dev) (r : Readings) : (d.sense r).claims = d.claims := by simp only [Dev.sense]
@[simp] theorem Dev.sense_counts (d : Dev) (r : Readings) : (d.sense r).counts = d.counts := by simp only [Dev.sense]
@[simp] theorem Dev.sense_freeN (d : Dev) (r : Readings) : (d.sense r).freeN = d.freeN := by simp only [Dev.sense]
@[simp] theorem Dev.sense_pln (d : Dev) (r : Readings) : (d.sense r).pln = d.pln := by simp only [Dev.sense]
@[simp] theorem Dev.sense_mac (d : Dev) (r : Readings) : (d.sense r).mac = d.mac := by simp only [Dev.sense]
@[simp] theorem Dev.sense_mdm (d : Dev) (r : Readings) : (d.sense r).mdm = d.mdm := by simp only [Dev.sense]
@[simp] theorem Dev.sense_dec (d : Dev) (r : Readings) : (d.sense r).dec = d.dec := by simp only [Dev.sense]
@[simp] theorem Dev.sense_fe (d : Dev) (r : Readings) : (d.sense r).fe = d.fe := by simp only [Dev.sense]
@[simp] theorem Dev.sense_bt (d : Dev) (r : Readings) : (d.sense r).bt = d.bt := by simp only [Dev.sense]
@[simp] theorem Dev.sense_emac (d : Dev) (r : Readings) : (d.sense r).emac = d.emac := by simp only [Dev.sense]
@[simp] theorem Dev.sense_rte (d : Dev) (r : Readings) : (d.sense r).rte = d.rte := by simp only [Dev.sense]
@[simp] theorem Dev.sense_tm (d : Dev) (r : Readings) : (d.sense r).tm = d.tm := by simp only [Dev.sense]
@[simp] theorem Dev.sense_wcx (d : Dev) (r : Readings) : (d.sense r).wcx = d.wcx := by simp only [Dev.sense]
@[simp] theorem Dev.sense_sealEng (d : Dev) (r : Readings) : (d.sense r).sealEng = d.sealEng := by simp only [Dev.sense]
@[simp] theorem Dev.sense_chk (d : Dev) (r : Readings) : (d.sense r).chk = d.chk := by simp only [Dev.sense]
@[simp] theorem Dev.sense_rgm (d : Dev) (r : Readings) : (d.sense r).rgm = d.rgm := by simp only [Dev.sense]
@[simp] theorem Dev.sense_mem (d : Dev) (r : Readings) : (d.sense r).mem = d.mem := by simp only [Dev.sense]
@[simp] theorem Dev.sense_gaf (d : Dev) (r : Readings) : (d.sense r).gaf = d.gaf := by simp only [Dev.sense]
@[simp] theorem Dev.sense_ts (d : Dev) (r : Readings) : (d.sense r).ts = d.ts := by simp only [Dev.sense]
@[simp] theorem Dev.sense_dly (d : Dev) (r : Readings) : (d.sense r).dly = d.dly := by simp only [Dev.sense]
@[simp] theorem Dev.sense_tst (d : Dev) (r : Readings) : (d.sense r).tst = d.tst := by simp only [Dev.sense]

/-! `Dev.fireMsi`. -/

@[simp] theorem Dev.fireMsi_fns (d : Dev) (f v : Nat) : (d.fireMsi f v).fns = d.fns := by unfold Dev.fireMsi; split <;> rfl
@[simp] theorem Dev.fireMsi_host (d : Dev) (f v : Nat) : (d.fireMsi f v).host = d.host := by unfold Dev.fireMsi; split <;> rfl
@[simp] theorem Dev.fireMsi_regs (d : Dev) (f v : Nat) : (d.fireMsi f v).regs = d.regs := by unfold Dev.fireMsi; split <;> rfl
@[simp] theorem Dev.fireMsi_props (d : Dev) (f v : Nat) : (d.fireMsi f v).props = d.props := by unfold Dev.fireMsi; split <;> rfl
@[simp] theorem Dev.fireMsi_force (d : Dev) (f v : Nat) : (d.fireMsi f v).force = d.force := by unfold Dev.fireMsi; split <;> rfl
@[simp] theorem Dev.fireMsi_propStaged (d : Dev) (f v : Nat) : (d.fireMsi f v).propStaged = d.propStaged := by unfold Dev.fireMsi; split <;> rfl
@[simp] theorem Dev.fireMsi_arrivals (d : Dev) (f v : Nat) : (d.fireMsi f v).arrivals = d.arrivals := by unfold Dev.fireMsi; split <;> rfl
@[simp] theorem Dev.fireMsi_claims (d : Dev) (f v : Nat) : (d.fireMsi f v).claims = d.claims := by unfold Dev.fireMsi; split <;> rfl
@[simp] theorem Dev.fireMsi_freeN (d : Dev) (f v : Nat) : (d.fireMsi f v).freeN = d.freeN := by unfold Dev.fireMsi; split <;> rfl
@[simp] theorem Dev.fireMsi_pln (d : Dev) (f v : Nat) : (d.fireMsi f v).pln = d.pln := by unfold Dev.fireMsi; split <;> rfl
@[simp] theorem Dev.fireMsi_mac (d : Dev) (f v : Nat) : (d.fireMsi f v).mac = d.mac := by unfold Dev.fireMsi; split <;> rfl
@[simp] theorem Dev.fireMsi_mdm (d : Dev) (f v : Nat) : (d.fireMsi f v).mdm = d.mdm := by unfold Dev.fireMsi; split <;> rfl
@[simp] theorem Dev.fireMsi_dec (d : Dev) (f v : Nat) : (d.fireMsi f v).dec = d.dec := by unfold Dev.fireMsi; split <;> rfl
@[simp] theorem Dev.fireMsi_fe (d : Dev) (f v : Nat) : (d.fireMsi f v).fe = d.fe := by unfold Dev.fireMsi; split <;> rfl
@[simp] theorem Dev.fireMsi_bt (d : Dev) (f v : Nat) : (d.fireMsi f v).bt = d.bt := by unfold Dev.fireMsi; split <;> rfl
@[simp] theorem Dev.fireMsi_emac (d : Dev) (f v : Nat) : (d.fireMsi f v).emac = d.emac := by unfold Dev.fireMsi; split <;> rfl
@[simp] theorem Dev.fireMsi_rte (d : Dev) (f v : Nat) : (d.fireMsi f v).rte = d.rte := by unfold Dev.fireMsi; split <;> rfl
@[simp] theorem Dev.fireMsi_tm (d : Dev) (f v : Nat) : (d.fireMsi f v).tm = d.tm := by unfold Dev.fireMsi; split <;> rfl
@[simp] theorem Dev.fireMsi_wcx (d : Dev) (f v : Nat) : (d.fireMsi f v).wcx = d.wcx := by unfold Dev.fireMsi; split <;> rfl
@[simp] theorem Dev.fireMsi_sealEng (d : Dev) (f v : Nat) : (d.fireMsi f v).sealEng = d.sealEng := by unfold Dev.fireMsi; split <;> rfl
@[simp] theorem Dev.fireMsi_chk (d : Dev) (f v : Nat) : (d.fireMsi f v).chk = d.chk := by unfold Dev.fireMsi; split <;> rfl
@[simp] theorem Dev.fireMsi_rgm (d : Dev) (f v : Nat) : (d.fireMsi f v).rgm = d.rgm := by unfold Dev.fireMsi; split <;> rfl
@[simp] theorem Dev.fireMsi_mem (d : Dev) (f v : Nat) : (d.fireMsi f v).mem = d.mem := by unfold Dev.fireMsi; split <;> rfl
@[simp] theorem Dev.fireMsi_gaf (d : Dev) (f v : Nat) : (d.fireMsi f v).gaf = d.gaf := by unfold Dev.fireMsi; split <;> rfl
@[simp] theorem Dev.fireMsi_mgr (d : Dev) (f v : Nat) : (d.fireMsi f v).mgr = d.mgr := by unfold Dev.fireMsi; split <;> rfl
@[simp] theorem Dev.fireMsi_ts (d : Dev) (f v : Nat) : (d.fireMsi f v).ts = d.ts := by unfold Dev.fireMsi; split <;> rfl
@[simp] theorem Dev.fireMsi_dly (d : Dev) (f v : Nat) : (d.fireMsi f v).dly = d.dly := by unfold Dev.fireMsi; split <;> rfl
@[simp] theorem Dev.fireMsi_tst (d : Dev) (f v : Nat) : (d.fireMsi f v).tst = d.tst := by unfold Dev.fireMsi; split <;> rfl

/-! `Dev.setIncAt`. -/

@[simp] theorem Dev.setIncAt_fns (d : Dev) (t a b k x : Nat) : (d.setIncAt t a b k x).fns = d.fns := by unfold Dev.setIncAt; dsimp only; split <;> simp
@[simp] theorem Dev.setIncAt_host (d : Dev) (t a b k x : Nat) : (d.setIncAt t a b k x).host = d.host := by unfold Dev.setIncAt; dsimp only; split <;> simp
@[simp] theorem Dev.setIncAt_props (d : Dev) (t a b k x : Nat) : (d.setIncAt t a b k x).props = d.props := by unfold Dev.setIncAt; dsimp only; split <;> simp
@[simp] theorem Dev.setIncAt_force (d : Dev) (t a b k x : Nat) : (d.setIncAt t a b k x).force = d.force := by unfold Dev.setIncAt; dsimp only; split <;> simp
@[simp] theorem Dev.setIncAt_propStaged (d : Dev) (t a b k x : Nat) : (d.setIncAt t a b k x).propStaged = d.propStaged := by unfold Dev.setIncAt; dsimp only; split <;> simp
@[simp] theorem Dev.setIncAt_arrivals (d : Dev) (t a b k x : Nat) : (d.setIncAt t a b k x).arrivals = d.arrivals := by unfold Dev.setIncAt; dsimp only; split <;> simp
@[simp] theorem Dev.setIncAt_claims (d : Dev) (t a b k x : Nat) : (d.setIncAt t a b k x).claims = d.claims := by unfold Dev.setIncAt; dsimp only; split <;> simp
@[simp] theorem Dev.setIncAt_freeN (d : Dev) (t a b k x : Nat) : (d.setIncAt t a b k x).freeN = d.freeN := by unfold Dev.setIncAt; dsimp only; split <;> simp
@[simp] theorem Dev.setIncAt_pln (d : Dev) (t a b k x : Nat) : (d.setIncAt t a b k x).pln = d.pln := by unfold Dev.setIncAt; dsimp only; split <;> simp
@[simp] theorem Dev.setIncAt_mac (d : Dev) (t a b k x : Nat) : (d.setIncAt t a b k x).mac = d.mac := by unfold Dev.setIncAt; dsimp only; split <;> simp
@[simp] theorem Dev.setIncAt_mdm (d : Dev) (t a b k x : Nat) : (d.setIncAt t a b k x).mdm = d.mdm := by unfold Dev.setIncAt; dsimp only; split <;> simp
@[simp] theorem Dev.setIncAt_dec (d : Dev) (t a b k x : Nat) : (d.setIncAt t a b k x).dec = d.dec := by unfold Dev.setIncAt; dsimp only; split <;> simp
@[simp] theorem Dev.setIncAt_fe (d : Dev) (t a b k x : Nat) : (d.setIncAt t a b k x).fe = d.fe := by unfold Dev.setIncAt; dsimp only; split <;> simp
@[simp] theorem Dev.setIncAt_bt (d : Dev) (t a b k x : Nat) : (d.setIncAt t a b k x).bt = d.bt := by unfold Dev.setIncAt; dsimp only; split <;> simp
@[simp] theorem Dev.setIncAt_emac (d : Dev) (t a b k x : Nat) : (d.setIncAt t a b k x).emac = d.emac := by unfold Dev.setIncAt; dsimp only; split <;> simp
@[simp] theorem Dev.setIncAt_rte (d : Dev) (t a b k x : Nat) : (d.setIncAt t a b k x).rte = d.rte := by unfold Dev.setIncAt; dsimp only; split <;> simp
@[simp] theorem Dev.setIncAt_tm (d : Dev) (t a b k x : Nat) : (d.setIncAt t a b k x).tm = d.tm := by unfold Dev.setIncAt; dsimp only; split <;> simp
@[simp] theorem Dev.setIncAt_wcx (d : Dev) (t a b k x : Nat) : (d.setIncAt t a b k x).wcx = d.wcx := by unfold Dev.setIncAt; dsimp only; split <;> simp
@[simp] theorem Dev.setIncAt_sealEng (d : Dev) (t a b k x : Nat) : (d.setIncAt t a b k x).sealEng = d.sealEng := by unfold Dev.setIncAt; dsimp only; split <;> simp
@[simp] theorem Dev.setIncAt_chk (d : Dev) (t a b k x : Nat) : (d.setIncAt t a b k x).chk = d.chk := by unfold Dev.setIncAt; dsimp only; split <;> simp
@[simp] theorem Dev.setIncAt_rgm (d : Dev) (t a b k x : Nat) : (d.setIncAt t a b k x).rgm = d.rgm := by unfold Dev.setIncAt; dsimp only; split <;> simp
@[simp] theorem Dev.setIncAt_mem (d : Dev) (t a b k x : Nat) : (d.setIncAt t a b k x).mem = d.mem := by unfold Dev.setIncAt; dsimp only; split <;> simp
@[simp] theorem Dev.setIncAt_gaf (d : Dev) (t a b k x : Nat) : (d.setIncAt t a b k x).gaf = d.gaf := by unfold Dev.setIncAt; dsimp only; split <;> simp
@[simp] theorem Dev.setIncAt_ts (d : Dev) (t a b k x : Nat) : (d.setIncAt t a b k x).ts = d.ts := by unfold Dev.setIncAt; dsimp only; split <;> simp
@[simp] theorem Dev.setIncAt_dly (d : Dev) (t a b k x : Nat) : (d.setIncAt t a b k x).dly = d.dly := by unfold Dev.setIncAt; dsimp only; split <;> simp
@[simp] theorem Dev.setIncAt_tst (d : Dev) (t a b k x : Nat) : (d.setIncAt t a b k x).tst = d.tst := by unfold Dev.setIncAt; dsimp only; split <;> simp

/-! `Dev.inc`. -/

@[simp] theorem Dev.inc_fns (d : Dev) (t b k x : Nat) : (d.inc t b k x).fns = d.fns := by simp [Dev.inc]
@[simp] theorem Dev.inc_host (d : Dev) (t b k x : Nat) : (d.inc t b k x).host = d.host := by simp [Dev.inc]
@[simp] theorem Dev.inc_props (d : Dev) (t b k x : Nat) : (d.inc t b k x).props = d.props := by simp [Dev.inc]
@[simp] theorem Dev.inc_force (d : Dev) (t b k x : Nat) : (d.inc t b k x).force = d.force := by simp [Dev.inc]
@[simp] theorem Dev.inc_propStaged (d : Dev) (t b k x : Nat) : (d.inc t b k x).propStaged = d.propStaged := by simp [Dev.inc]
@[simp] theorem Dev.inc_arrivals (d : Dev) (t b k x : Nat) : (d.inc t b k x).arrivals = d.arrivals := by simp [Dev.inc]
@[simp] theorem Dev.inc_claims (d : Dev) (t b k x : Nat) : (d.inc t b k x).claims = d.claims := by simp [Dev.inc]
@[simp] theorem Dev.inc_freeN (d : Dev) (t b k x : Nat) : (d.inc t b k x).freeN = d.freeN := by simp [Dev.inc]
@[simp] theorem Dev.inc_pln (d : Dev) (t b k x : Nat) : (d.inc t b k x).pln = d.pln := by simp [Dev.inc]
@[simp] theorem Dev.inc_mac (d : Dev) (t b k x : Nat) : (d.inc t b k x).mac = d.mac := by simp [Dev.inc]
@[simp] theorem Dev.inc_mdm (d : Dev) (t b k x : Nat) : (d.inc t b k x).mdm = d.mdm := by simp [Dev.inc]
@[simp] theorem Dev.inc_dec (d : Dev) (t b k x : Nat) : (d.inc t b k x).dec = d.dec := by simp [Dev.inc]
@[simp] theorem Dev.inc_fe (d : Dev) (t b k x : Nat) : (d.inc t b k x).fe = d.fe := by simp [Dev.inc]
@[simp] theorem Dev.inc_bt (d : Dev) (t b k x : Nat) : (d.inc t b k x).bt = d.bt := by simp [Dev.inc]
@[simp] theorem Dev.inc_emac (d : Dev) (t b k x : Nat) : (d.inc t b k x).emac = d.emac := by simp [Dev.inc]
@[simp] theorem Dev.inc_rte (d : Dev) (t b k x : Nat) : (d.inc t b k x).rte = d.rte := by simp [Dev.inc]
@[simp] theorem Dev.inc_tm (d : Dev) (t b k x : Nat) : (d.inc t b k x).tm = d.tm := by simp [Dev.inc]
@[simp] theorem Dev.inc_wcx (d : Dev) (t b k x : Nat) : (d.inc t b k x).wcx = d.wcx := by simp [Dev.inc]
@[simp] theorem Dev.inc_sealEng (d : Dev) (t b k x : Nat) : (d.inc t b k x).sealEng = d.sealEng := by simp [Dev.inc]
@[simp] theorem Dev.inc_chk (d : Dev) (t b k x : Nat) : (d.inc t b k x).chk = d.chk := by simp [Dev.inc]
@[simp] theorem Dev.inc_rgm (d : Dev) (t b k x : Nat) : (d.inc t b k x).rgm = d.rgm := by simp [Dev.inc]
@[simp] theorem Dev.inc_mem (d : Dev) (t b k x : Nat) : (d.inc t b k x).mem = d.mem := by simp [Dev.inc]
@[simp] theorem Dev.inc_gaf (d : Dev) (t b k x : Nat) : (d.inc t b k x).gaf = d.gaf := by simp [Dev.inc]
@[simp] theorem Dev.inc_ts (d : Dev) (t b k x : Nat) : (d.inc t b k x).ts = d.ts := by simp [Dev.inc]
@[simp] theorem Dev.inc_dly (d : Dev) (t b k x : Nat) : (d.inc t b k x).dly = d.dly := by simp [Dev.inc]
@[simp] theorem Dev.inc_tst (d : Dev) (t b k x : Nat) : (d.inc t b k x).tst = d.tst := by simp [Dev.inc]

/-! `Dev.incMbx`. -/

@[simp] theorem Dev.incMbx_fns (d : Dev) (t f k : Nat) : (d.incMbx t f k).fns = d.fns := by simp [Dev.incMbx]
@[simp] theorem Dev.incMbx_host (d : Dev) (t f k : Nat) : (d.incMbx t f k).host = d.host := by simp [Dev.incMbx]
@[simp] theorem Dev.incMbx_props (d : Dev) (t f k : Nat) : (d.incMbx t f k).props = d.props := by simp [Dev.incMbx]
@[simp] theorem Dev.incMbx_force (d : Dev) (t f k : Nat) : (d.incMbx t f k).force = d.force := by simp [Dev.incMbx]
@[simp] theorem Dev.incMbx_propStaged (d : Dev) (t f k : Nat) : (d.incMbx t f k).propStaged = d.propStaged := by simp [Dev.incMbx]
@[simp] theorem Dev.incMbx_arrivals (d : Dev) (t f k : Nat) : (d.incMbx t f k).arrivals = d.arrivals := by simp [Dev.incMbx]
@[simp] theorem Dev.incMbx_claims (d : Dev) (t f k : Nat) : (d.incMbx t f k).claims = d.claims := by simp [Dev.incMbx]
@[simp] theorem Dev.incMbx_freeN (d : Dev) (t f k : Nat) : (d.incMbx t f k).freeN = d.freeN := by simp [Dev.incMbx]
@[simp] theorem Dev.incMbx_pln (d : Dev) (t f k : Nat) : (d.incMbx t f k).pln = d.pln := by simp [Dev.incMbx]
@[simp] theorem Dev.incMbx_mac (d : Dev) (t f k : Nat) : (d.incMbx t f k).mac = d.mac := by simp [Dev.incMbx]
@[simp] theorem Dev.incMbx_mdm (d : Dev) (t f k : Nat) : (d.incMbx t f k).mdm = d.mdm := by simp [Dev.incMbx]
@[simp] theorem Dev.incMbx_dec (d : Dev) (t f k : Nat) : (d.incMbx t f k).dec = d.dec := by simp [Dev.incMbx]
@[simp] theorem Dev.incMbx_fe (d : Dev) (t f k : Nat) : (d.incMbx t f k).fe = d.fe := by simp [Dev.incMbx]
@[simp] theorem Dev.incMbx_bt (d : Dev) (t f k : Nat) : (d.incMbx t f k).bt = d.bt := by simp [Dev.incMbx]
@[simp] theorem Dev.incMbx_emac (d : Dev) (t f k : Nat) : (d.incMbx t f k).emac = d.emac := by simp [Dev.incMbx]
@[simp] theorem Dev.incMbx_rte (d : Dev) (t f k : Nat) : (d.incMbx t f k).rte = d.rte := by simp [Dev.incMbx]
@[simp] theorem Dev.incMbx_tm (d : Dev) (t f k : Nat) : (d.incMbx t f k).tm = d.tm := by simp [Dev.incMbx]
@[simp] theorem Dev.incMbx_wcx (d : Dev) (t f k : Nat) : (d.incMbx t f k).wcx = d.wcx := by simp [Dev.incMbx]
@[simp] theorem Dev.incMbx_sealEng (d : Dev) (t f k : Nat) : (d.incMbx t f k).sealEng = d.sealEng := by simp [Dev.incMbx]
@[simp] theorem Dev.incMbx_chk (d : Dev) (t f k : Nat) : (d.incMbx t f k).chk = d.chk := by simp [Dev.incMbx]
@[simp] theorem Dev.incMbx_rgm (d : Dev) (t f k : Nat) : (d.incMbx t f k).rgm = d.rgm := by simp [Dev.incMbx]
@[simp] theorem Dev.incMbx_mem (d : Dev) (t f k : Nat) : (d.incMbx t f k).mem = d.mem := by simp [Dev.incMbx]
@[simp] theorem Dev.incMbx_gaf (d : Dev) (t f k : Nat) : (d.incMbx t f k).gaf = d.gaf := by simp [Dev.incMbx]
@[simp] theorem Dev.incMbx_ts (d : Dev) (t f k : Nat) : (d.incMbx t f k).ts = d.ts := by simp [Dev.incMbx]
@[simp] theorem Dev.incMbx_dly (d : Dev) (t f k : Nat) : (d.incMbx t f k).dly = d.dly := by simp [Dev.incMbx]
@[simp] theorem Dev.incMbx_tst (d : Dev) (t f k : Nat) : (d.incMbx t f k).tst = d.tst := by simp [Dev.incMbx]

/-! `Dev.memFault`. -/

@[simp] theorem Dev.memFault_glb (d : Dev) (a k m : Nat) : (d.memFault a k m).glb = d.glb := by simp only [Dev.memFault]
@[simp] theorem Dev.memFault_fns (d : Dev) (a k m : Nat) : (d.memFault a k m).fns = d.fns := by simp only [Dev.memFault]
@[simp] theorem Dev.memFault_host (d : Dev) (a k m : Nat) : (d.memFault a k m).host = d.host := by simp only [Dev.memFault]
@[simp] theorem Dev.memFault_regs (d : Dev) (a k m : Nat) : (d.memFault a k m).regs = d.regs := by simp only [Dev.memFault]
@[simp] theorem Dev.memFault_props (d : Dev) (a k m : Nat) : (d.memFault a k m).props = d.props := by simp only [Dev.memFault]
@[simp] theorem Dev.memFault_force (d : Dev) (a k m : Nat) : (d.memFault a k m).force = d.force := by simp only [Dev.memFault]
@[simp] theorem Dev.memFault_propStaged (d : Dev) (a k m : Nat) : (d.memFault a k m).propStaged = d.propStaged := by simp only [Dev.memFault]
@[simp] theorem Dev.memFault_arrivals (d : Dev) (a k m : Nat) : (d.memFault a k m).arrivals = d.arrivals := by simp only [Dev.memFault]
@[simp] theorem Dev.memFault_claims (d : Dev) (a k m : Nat) : (d.memFault a k m).claims = d.claims := by simp only [Dev.memFault]
@[simp] theorem Dev.memFault_counts (d : Dev) (a k m : Nat) : (d.memFault a k m).counts = d.counts := by simp only [Dev.memFault]
@[simp] theorem Dev.memFault_freeN (d : Dev) (a k m : Nat) : (d.memFault a k m).freeN = d.freeN := by simp only [Dev.memFault]
@[simp] theorem Dev.memFault_pln (d : Dev) (a k m : Nat) : (d.memFault a k m).pln = d.pln := by simp only [Dev.memFault]
@[simp] theorem Dev.memFault_mac (d : Dev) (a k m : Nat) : (d.memFault a k m).mac = d.mac := by simp only [Dev.memFault]
@[simp] theorem Dev.memFault_mdm (d : Dev) (a k m : Nat) : (d.memFault a k m).mdm = d.mdm := by simp only [Dev.memFault]
@[simp] theorem Dev.memFault_dec (d : Dev) (a k m : Nat) : (d.memFault a k m).dec = d.dec := by simp only [Dev.memFault]
@[simp] theorem Dev.memFault_fe (d : Dev) (a k m : Nat) : (d.memFault a k m).fe = d.fe := by simp only [Dev.memFault]
@[simp] theorem Dev.memFault_bt (d : Dev) (a k m : Nat) : (d.memFault a k m).bt = d.bt := by simp only [Dev.memFault]
@[simp] theorem Dev.memFault_emac (d : Dev) (a k m : Nat) : (d.memFault a k m).emac = d.emac := by simp only [Dev.memFault]
@[simp] theorem Dev.memFault_rte (d : Dev) (a k m : Nat) : (d.memFault a k m).rte = d.rte := by simp only [Dev.memFault]
@[simp] theorem Dev.memFault_tm (d : Dev) (a k m : Nat) : (d.memFault a k m).tm = d.tm := by simp only [Dev.memFault]
@[simp] theorem Dev.memFault_wcx (d : Dev) (a k m : Nat) : (d.memFault a k m).wcx = d.wcx := by simp only [Dev.memFault]
@[simp] theorem Dev.memFault_sealEng (d : Dev) (a k m : Nat) : (d.memFault a k m).sealEng = d.sealEng := by simp only [Dev.memFault]
@[simp] theorem Dev.memFault_chk (d : Dev) (a k m : Nat) : (d.memFault a k m).chk = d.chk := by simp only [Dev.memFault]
@[simp] theorem Dev.memFault_rgm (d : Dev) (a k m : Nat) : (d.memFault a k m).rgm = d.rgm := by simp only [Dev.memFault]
@[simp] theorem Dev.memFault_gaf (d : Dev) (a k m : Nat) : (d.memFault a k m).gaf = d.gaf := by simp only [Dev.memFault]
@[simp] theorem Dev.memFault_mgr (d : Dev) (a k m : Nat) : (d.memFault a k m).mgr = d.mgr := by simp only [Dev.memFault]
@[simp] theorem Dev.memFault_ts (d : Dev) (a k m : Nat) : (d.memFault a k m).ts = d.ts := by simp only [Dev.memFault]
@[simp] theorem Dev.memFault_dly (d : Dev) (a k m : Nat) : (d.memFault a k m).dly = d.dly := by simp only [Dev.memFault]
@[simp] theorem Dev.memFault_tst (d : Dev) (a k m : Nat) : (d.memFault a k m).tst = d.tst := by simp only [Dev.memFault]

/-! `Dev.noteDrop`. -/

@[simp] theorem Dev.noteDrop_fns (d : Dev) (t a k m : Nat) : (d.noteDrop t a k m).fns = d.fns := by unfold Dev.noteDrop; split <;> simp
@[simp] theorem Dev.noteDrop_host (d : Dev) (t a k m : Nat) : (d.noteDrop t a k m).host = d.host := by unfold Dev.noteDrop; split <;> simp
@[simp] theorem Dev.noteDrop_props (d : Dev) (t a k m : Nat) : (d.noteDrop t a k m).props = d.props := by unfold Dev.noteDrop; split <;> simp
@[simp] theorem Dev.noteDrop_force (d : Dev) (t a k m : Nat) : (d.noteDrop t a k m).force = d.force := by unfold Dev.noteDrop; split <;> simp
@[simp] theorem Dev.noteDrop_propStaged (d : Dev) (t a k m : Nat) : (d.noteDrop t a k m).propStaged = d.propStaged := by unfold Dev.noteDrop; split <;> simp
@[simp] theorem Dev.noteDrop_arrivals (d : Dev) (t a k m : Nat) : (d.noteDrop t a k m).arrivals = d.arrivals := by unfold Dev.noteDrop; split <;> simp
@[simp] theorem Dev.noteDrop_claims (d : Dev) (t a k m : Nat) : (d.noteDrop t a k m).claims = d.claims := by unfold Dev.noteDrop; split <;> simp
@[simp] theorem Dev.noteDrop_freeN (d : Dev) (t a k m : Nat) : (d.noteDrop t a k m).freeN = d.freeN := by unfold Dev.noteDrop; split <;> simp
@[simp] theorem Dev.noteDrop_pln (d : Dev) (t a k m : Nat) : (d.noteDrop t a k m).pln = d.pln := by unfold Dev.noteDrop; split <;> simp
@[simp] theorem Dev.noteDrop_mac (d : Dev) (t a k m : Nat) : (d.noteDrop t a k m).mac = d.mac := by unfold Dev.noteDrop; split <;> simp
@[simp] theorem Dev.noteDrop_mdm (d : Dev) (t a k m : Nat) : (d.noteDrop t a k m).mdm = d.mdm := by unfold Dev.noteDrop; split <;> simp
@[simp] theorem Dev.noteDrop_dec (d : Dev) (t a k m : Nat) : (d.noteDrop t a k m).dec = d.dec := by unfold Dev.noteDrop; split <;> simp
@[simp] theorem Dev.noteDrop_fe (d : Dev) (t a k m : Nat) : (d.noteDrop t a k m).fe = d.fe := by unfold Dev.noteDrop; split <;> simp
@[simp] theorem Dev.noteDrop_bt (d : Dev) (t a k m : Nat) : (d.noteDrop t a k m).bt = d.bt := by unfold Dev.noteDrop; split <;> simp
@[simp] theorem Dev.noteDrop_emac (d : Dev) (t a k m : Nat) : (d.noteDrop t a k m).emac = d.emac := by unfold Dev.noteDrop; split <;> simp
@[simp] theorem Dev.noteDrop_rte (d : Dev) (t a k m : Nat) : (d.noteDrop t a k m).rte = d.rte := by unfold Dev.noteDrop; split <;> simp
@[simp] theorem Dev.noteDrop_tm (d : Dev) (t a k m : Nat) : (d.noteDrop t a k m).tm = d.tm := by unfold Dev.noteDrop; split <;> simp
@[simp] theorem Dev.noteDrop_wcx (d : Dev) (t a k m : Nat) : (d.noteDrop t a k m).wcx = d.wcx := by unfold Dev.noteDrop; split <;> simp
@[simp] theorem Dev.noteDrop_sealEng (d : Dev) (t a k m : Nat) : (d.noteDrop t a k m).sealEng = d.sealEng := by unfold Dev.noteDrop; split <;> simp
@[simp] theorem Dev.noteDrop_chk (d : Dev) (t a k m : Nat) : (d.noteDrop t a k m).chk = d.chk := by unfold Dev.noteDrop; split <;> simp
@[simp] theorem Dev.noteDrop_rgm (d : Dev) (t a k m : Nat) : (d.noteDrop t a k m).rgm = d.rgm := by unfold Dev.noteDrop; split <;> simp
@[simp] theorem Dev.noteDrop_gaf (d : Dev) (t a k m : Nat) : (d.noteDrop t a k m).gaf = d.gaf := by unfold Dev.noteDrop; split <;> simp
@[simp] theorem Dev.noteDrop_ts (d : Dev) (t a k m : Nat) : (d.noteDrop t a k m).ts = d.ts := by unfold Dev.noteDrop; split <;> simp
@[simp] theorem Dev.noteDrop_dly (d : Dev) (t a k m : Nat) : (d.noteDrop t a k m).dly = d.dly := by unfold Dev.noteDrop; split <;> simp
@[simp] theorem Dev.noteDrop_tst (d : Dev) (t a k m : Nat) : (d.noteDrop t a k m).tst = d.tst := by unfold Dev.noteDrop; split <;> simp

/-! `Dev.backlotPut`. -/

@[simp] theorem Dev.backlotPut_glb (d : Dev) (a : Nat) (l : List Byte) : (d.backlotPut a l).glb = d.glb := by unfold Dev.backlotPut Dev.putHeld; dsimp only; split <;> (try split) <;> (try split) <;> (try split) <;> rfl
@[simp] theorem Dev.backlotPut_fns (d : Dev) (a : Nat) (l : List Byte) : (d.backlotPut a l).fns = d.fns := by unfold Dev.backlotPut Dev.putHeld; dsimp only; split <;> (try split) <;> (try split) <;> (try split) <;> rfl
@[simp] theorem Dev.backlotPut_host (d : Dev) (a : Nat) (l : List Byte) : (d.backlotPut a l).host = d.host := by unfold Dev.backlotPut Dev.putHeld; dsimp only; split <;> (try split) <;> (try split) <;> (try split) <;> rfl
@[simp] theorem Dev.backlotPut_regs (d : Dev) (a : Nat) (l : List Byte) : (d.backlotPut a l).regs = d.regs := by unfold Dev.backlotPut Dev.putHeld; dsimp only; split <;> (try split) <;> (try split) <;> (try split) <;> rfl
@[simp] theorem Dev.backlotPut_props (d : Dev) (a : Nat) (l : List Byte) : (d.backlotPut a l).props = d.props := by unfold Dev.backlotPut Dev.putHeld; dsimp only; split <;> (try split) <;> (try split) <;> (try split) <;> rfl
@[simp] theorem Dev.backlotPut_force (d : Dev) (a : Nat) (l : List Byte) : (d.backlotPut a l).force = d.force := by unfold Dev.backlotPut Dev.putHeld; dsimp only; split <;> (try split) <;> (try split) <;> (try split) <;> rfl
@[simp] theorem Dev.backlotPut_propStaged (d : Dev) (a : Nat) (l : List Byte) : (d.backlotPut a l).propStaged = d.propStaged := by unfold Dev.backlotPut Dev.putHeld; dsimp only; split <;> (try split) <;> (try split) <;> (try split) <;> rfl
@[simp] theorem Dev.backlotPut_arrivals (d : Dev) (a : Nat) (l : List Byte) : (d.backlotPut a l).arrivals = d.arrivals := by unfold Dev.backlotPut Dev.putHeld; dsimp only; split <;> (try split) <;> (try split) <;> (try split) <;> rfl
@[simp] theorem Dev.backlotPut_claims (d : Dev) (a : Nat) (l : List Byte) : (d.backlotPut a l).claims = d.claims := by unfold Dev.backlotPut Dev.putHeld; dsimp only; split <;> (try split) <;> (try split) <;> (try split) <;> rfl
@[simp] theorem Dev.backlotPut_counts (d : Dev) (a : Nat) (l : List Byte) : (d.backlotPut a l).counts = d.counts := by unfold Dev.backlotPut Dev.putHeld; dsimp only; split <;> (try split) <;> (try split) <;> (try split) <;> rfl
@[simp] theorem Dev.backlotPut_freeN (d : Dev) (a : Nat) (l : List Byte) : (d.backlotPut a l).freeN = d.freeN := by unfold Dev.backlotPut Dev.putHeld; dsimp only; split <;> (try split) <;> (try split) <;> (try split) <;> rfl
@[simp] theorem Dev.backlotPut_mac (d : Dev) (a : Nat) (l : List Byte) : (d.backlotPut a l).mac = d.mac := by unfold Dev.backlotPut Dev.putHeld; dsimp only; split <;> (try split) <;> (try split) <;> (try split) <;> rfl
@[simp] theorem Dev.backlotPut_mdm (d : Dev) (a : Nat) (l : List Byte) : (d.backlotPut a l).mdm = d.mdm := by unfold Dev.backlotPut Dev.putHeld; dsimp only; split <;> (try split) <;> (try split) <;> (try split) <;> rfl
@[simp] theorem Dev.backlotPut_dec (d : Dev) (a : Nat) (l : List Byte) : (d.backlotPut a l).dec = d.dec := by unfold Dev.backlotPut Dev.putHeld; dsimp only; split <;> (try split) <;> (try split) <;> (try split) <;> rfl
@[simp] theorem Dev.backlotPut_fe (d : Dev) (a : Nat) (l : List Byte) : (d.backlotPut a l).fe = d.fe := by unfold Dev.backlotPut Dev.putHeld; dsimp only; split <;> (try split) <;> (try split) <;> (try split) <;> rfl
@[simp] theorem Dev.backlotPut_bt (d : Dev) (a : Nat) (l : List Byte) : (d.backlotPut a l).bt = d.bt := by unfold Dev.backlotPut Dev.putHeld; dsimp only; split <;> (try split) <;> (try split) <;> (try split) <;> rfl
@[simp] theorem Dev.backlotPut_emac (d : Dev) (a : Nat) (l : List Byte) : (d.backlotPut a l).emac = d.emac := by unfold Dev.backlotPut Dev.putHeld; dsimp only; split <;> (try split) <;> (try split) <;> (try split) <;> rfl
@[simp] theorem Dev.backlotPut_rte (d : Dev) (a : Nat) (l : List Byte) : (d.backlotPut a l).rte = d.rte := by unfold Dev.backlotPut Dev.putHeld; dsimp only; split <;> (try split) <;> (try split) <;> (try split) <;> rfl
@[simp] theorem Dev.backlotPut_tm (d : Dev) (a : Nat) (l : List Byte) : (d.backlotPut a l).tm = d.tm := by unfold Dev.backlotPut Dev.putHeld; dsimp only; split <;> (try split) <;> (try split) <;> (try split) <;> rfl
@[simp] theorem Dev.backlotPut_wcx (d : Dev) (a : Nat) (l : List Byte) : (d.backlotPut a l).wcx = d.wcx := by unfold Dev.backlotPut Dev.putHeld; dsimp only; split <;> (try split) <;> (try split) <;> (try split) <;> rfl
@[simp] theorem Dev.backlotPut_sealEng (d : Dev) (a : Nat) (l : List Byte) : (d.backlotPut a l).sealEng = d.sealEng := by unfold Dev.backlotPut Dev.putHeld; dsimp only; split <;> (try split) <;> (try split) <;> (try split) <;> rfl
@[simp] theorem Dev.backlotPut_chk (d : Dev) (a : Nat) (l : List Byte) : (d.backlotPut a l).chk = d.chk := by unfold Dev.backlotPut Dev.putHeld; dsimp only; split <;> (try split) <;> (try split) <;> (try split) <;> rfl
@[simp] theorem Dev.backlotPut_rgm (d : Dev) (a : Nat) (l : List Byte) : (d.backlotPut a l).rgm = d.rgm := by unfold Dev.backlotPut Dev.putHeld; dsimp only; split <;> (try split) <;> (try split) <;> (try split) <;> rfl
@[simp] theorem Dev.backlotPut_gaf (d : Dev) (a : Nat) (l : List Byte) : (d.backlotPut a l).gaf = d.gaf := by unfold Dev.backlotPut Dev.putHeld; dsimp only; split <;> (try split) <;> (try split) <;> (try split) <;> rfl
@[simp] theorem Dev.backlotPut_mgr (d : Dev) (a : Nat) (l : List Byte) : (d.backlotPut a l).mgr = d.mgr := by unfold Dev.backlotPut Dev.putHeld; dsimp only; split <;> (try split) <;> (try split) <;> (try split) <;> rfl
@[simp] theorem Dev.backlotPut_ts (d : Dev) (a : Nat) (l : List Byte) : (d.backlotPut a l).ts = d.ts := by unfold Dev.backlotPut Dev.putHeld; dsimp only; split <;> (try split) <;> (try split) <;> (try split) <;> rfl
@[simp] theorem Dev.backlotPut_dly (d : Dev) (a : Nat) (l : List Byte) : (d.backlotPut a l).dly = d.dly := by unfold Dev.backlotPut Dev.putHeld; dsimp only; split <;> (try split) <;> (try split) <;> (try split) <;> rfl
@[simp] theorem Dev.backlotPut_tst (d : Dev) (a : Nat) (l : List Byte) : (d.backlotPut a l).tst = d.tst := by unfold Dev.backlotPut Dev.putHeld; dsimp only; split <;> (try split) <;> (try split) <;> (try split) <;> rfl

/-! `Dev.backlotWords`. -/

@[simp] theorem Dev.backlotWords_fns (d : Dev) (t m a : Nat) (l : List Word) : (d.backlotWords t m a l).fns = d.fns := by
  induction l generalizing d a with
  | nil => rfl
  | cons w ws ih => unfold Dev.backlotWords; rw [ih]; split <;> simp
@[simp] theorem Dev.backlotWords_host (d : Dev) (t m a : Nat) (l : List Word) : (d.backlotWords t m a l).host = d.host := by
  induction l generalizing d a with
  | nil => rfl
  | cons w ws ih => unfold Dev.backlotWords; rw [ih]; split <;> simp
@[simp] theorem Dev.backlotWords_props (d : Dev) (t m a : Nat) (l : List Word) : (d.backlotWords t m a l).props = d.props := by
  induction l generalizing d a with
  | nil => rfl
  | cons w ws ih => unfold Dev.backlotWords; rw [ih]; split <;> simp
@[simp] theorem Dev.backlotWords_force (d : Dev) (t m a : Nat) (l : List Word) : (d.backlotWords t m a l).force = d.force := by
  induction l generalizing d a with
  | nil => rfl
  | cons w ws ih => unfold Dev.backlotWords; rw [ih]; split <;> simp
@[simp] theorem Dev.backlotWords_propStaged (d : Dev) (t m a : Nat) (l : List Word) : (d.backlotWords t m a l).propStaged = d.propStaged := by
  induction l generalizing d a with
  | nil => rfl
  | cons w ws ih => unfold Dev.backlotWords; rw [ih]; split <;> simp
@[simp] theorem Dev.backlotWords_arrivals (d : Dev) (t m a : Nat) (l : List Word) : (d.backlotWords t m a l).arrivals = d.arrivals := by
  induction l generalizing d a with
  | nil => rfl
  | cons w ws ih => unfold Dev.backlotWords; rw [ih]; split <;> simp
@[simp] theorem Dev.backlotWords_claims (d : Dev) (t m a : Nat) (l : List Word) : (d.backlotWords t m a l).claims = d.claims := by
  induction l generalizing d a with
  | nil => rfl
  | cons w ws ih => unfold Dev.backlotWords; rw [ih]; split <;> simp
@[simp] theorem Dev.backlotWords_freeN (d : Dev) (t m a : Nat) (l : List Word) : (d.backlotWords t m a l).freeN = d.freeN := by
  induction l generalizing d a with
  | nil => rfl
  | cons w ws ih => unfold Dev.backlotWords; rw [ih]; split <;> simp
@[simp] theorem Dev.backlotWords_mac (d : Dev) (t m a : Nat) (l : List Word) : (d.backlotWords t m a l).mac = d.mac := by
  induction l generalizing d a with
  | nil => rfl
  | cons w ws ih => unfold Dev.backlotWords; rw [ih]; split <;> simp
@[simp] theorem Dev.backlotWords_mdm (d : Dev) (t m a : Nat) (l : List Word) : (d.backlotWords t m a l).mdm = d.mdm := by
  induction l generalizing d a with
  | nil => rfl
  | cons w ws ih => unfold Dev.backlotWords; rw [ih]; split <;> simp
@[simp] theorem Dev.backlotWords_dec (d : Dev) (t m a : Nat) (l : List Word) : (d.backlotWords t m a l).dec = d.dec := by
  induction l generalizing d a with
  | nil => rfl
  | cons w ws ih => unfold Dev.backlotWords; rw [ih]; split <;> simp
@[simp] theorem Dev.backlotWords_fe (d : Dev) (t m a : Nat) (l : List Word) : (d.backlotWords t m a l).fe = d.fe := by
  induction l generalizing d a with
  | nil => rfl
  | cons w ws ih => unfold Dev.backlotWords; rw [ih]; split <;> simp
@[simp] theorem Dev.backlotWords_bt (d : Dev) (t m a : Nat) (l : List Word) : (d.backlotWords t m a l).bt = d.bt := by
  induction l generalizing d a with
  | nil => rfl
  | cons w ws ih => unfold Dev.backlotWords; rw [ih]; split <;> simp
@[simp] theorem Dev.backlotWords_emac (d : Dev) (t m a : Nat) (l : List Word) : (d.backlotWords t m a l).emac = d.emac := by
  induction l generalizing d a with
  | nil => rfl
  | cons w ws ih => unfold Dev.backlotWords; rw [ih]; split <;> simp
@[simp] theorem Dev.backlotWords_rte (d : Dev) (t m a : Nat) (l : List Word) : (d.backlotWords t m a l).rte = d.rte := by
  induction l generalizing d a with
  | nil => rfl
  | cons w ws ih => unfold Dev.backlotWords; rw [ih]; split <;> simp
@[simp] theorem Dev.backlotWords_tm (d : Dev) (t m a : Nat) (l : List Word) : (d.backlotWords t m a l).tm = d.tm := by
  induction l generalizing d a with
  | nil => rfl
  | cons w ws ih => unfold Dev.backlotWords; rw [ih]; split <;> simp
@[simp] theorem Dev.backlotWords_wcx (d : Dev) (t m a : Nat) (l : List Word) : (d.backlotWords t m a l).wcx = d.wcx := by
  induction l generalizing d a with
  | nil => rfl
  | cons w ws ih => unfold Dev.backlotWords; rw [ih]; split <;> simp
@[simp] theorem Dev.backlotWords_sealEng (d : Dev) (t m a : Nat) (l : List Word) : (d.backlotWords t m a l).sealEng = d.sealEng := by
  induction l generalizing d a with
  | nil => rfl
  | cons w ws ih => unfold Dev.backlotWords; rw [ih]; split <;> simp
@[simp] theorem Dev.backlotWords_chk (d : Dev) (t m a : Nat) (l : List Word) : (d.backlotWords t m a l).chk = d.chk := by
  induction l generalizing d a with
  | nil => rfl
  | cons w ws ih => unfold Dev.backlotWords; rw [ih]; split <;> simp
@[simp] theorem Dev.backlotWords_rgm (d : Dev) (t m a : Nat) (l : List Word) : (d.backlotWords t m a l).rgm = d.rgm := by
  induction l generalizing d a with
  | nil => rfl
  | cons w ws ih => unfold Dev.backlotWords; rw [ih]; split <;> simp
@[simp] theorem Dev.backlotWords_gaf (d : Dev) (t m a : Nat) (l : List Word) : (d.backlotWords t m a l).gaf = d.gaf := by
  induction l generalizing d a with
  | nil => rfl
  | cons w ws ih => unfold Dev.backlotWords; rw [ih]; split <;> simp
@[simp] theorem Dev.backlotWords_ts (d : Dev) (t m a : Nat) (l : List Word) : (d.backlotWords t m a l).ts = d.ts := by
  induction l generalizing d a with
  | nil => rfl
  | cons w ws ih => unfold Dev.backlotWords; rw [ih]; split <;> simp
@[simp] theorem Dev.backlotWords_dly (d : Dev) (t m a : Nat) (l : List Word) : (d.backlotWords t m a l).dly = d.dly := by
  induction l generalizing d a with
  | nil => rfl
  | cons w ws ih => unfold Dev.backlotWords; rw [ih]; split <;> simp
@[simp] theorem Dev.backlotWords_tst (d : Dev) (t m a : Nat) (l : List Word) : (d.backlotWords t m a l).tst = d.tst := by
  induction l generalizing d a with
  | nil => rfl
  | cons w ws ih => unfold Dev.backlotWords; rw [ih]; split <;> simp

/-! `Dev.respond`. -/

@[simp] theorem Dev.respond_host (d : Dev) (t : Nat) (p : Pend) (st : Status) (b : List Word) : (d.respond t p st b).host = d.host := by unfold Dev.respond; dsimp only; split <;> (try split) <;> simp
@[simp] theorem Dev.respond_props (d : Dev) (t : Nat) (p : Pend) (st : Status) (b : List Word) : (d.respond t p st b).props = d.props := by unfold Dev.respond; dsimp only; split <;> (try split) <;> simp
@[simp] theorem Dev.respond_force (d : Dev) (t : Nat) (p : Pend) (st : Status) (b : List Word) : (d.respond t p st b).force = d.force := by unfold Dev.respond; dsimp only; split <;> (try split) <;> simp
@[simp] theorem Dev.respond_propStaged (d : Dev) (t : Nat) (p : Pend) (st : Status) (b : List Word) : (d.respond t p st b).propStaged = d.propStaged := by unfold Dev.respond; dsimp only; split <;> (try split) <;> simp
@[simp] theorem Dev.respond_arrivals (d : Dev) (t : Nat) (p : Pend) (st : Status) (b : List Word) : (d.respond t p st b).arrivals = d.arrivals := by unfold Dev.respond; dsimp only; split <;> (try split) <;> simp
@[simp] theorem Dev.respond_claims (d : Dev) (t : Nat) (p : Pend) (st : Status) (b : List Word) : (d.respond t p st b).claims = d.claims := by unfold Dev.respond; dsimp only; split <;> (try split) <;> simp
@[simp] theorem Dev.respond_freeN (d : Dev) (t : Nat) (p : Pend) (st : Status) (b : List Word) : (d.respond t p st b).freeN = d.freeN := by unfold Dev.respond; dsimp only; split <;> (try split) <;> simp
@[simp] theorem Dev.respond_mac (d : Dev) (t : Nat) (p : Pend) (st : Status) (b : List Word) : (d.respond t p st b).mac = d.mac := by unfold Dev.respond; dsimp only; split <;> (try split) <;> simp
@[simp] theorem Dev.respond_mdm (d : Dev) (t : Nat) (p : Pend) (st : Status) (b : List Word) : (d.respond t p st b).mdm = d.mdm := by unfold Dev.respond; dsimp only; split <;> (try split) <;> simp
@[simp] theorem Dev.respond_dec (d : Dev) (t : Nat) (p : Pend) (st : Status) (b : List Word) : (d.respond t p st b).dec = d.dec := by unfold Dev.respond; dsimp only; split <;> (try split) <;> simp
@[simp] theorem Dev.respond_fe (d : Dev) (t : Nat) (p : Pend) (st : Status) (b : List Word) : (d.respond t p st b).fe = d.fe := by unfold Dev.respond; dsimp only; split <;> (try split) <;> simp
@[simp] theorem Dev.respond_bt (d : Dev) (t : Nat) (p : Pend) (st : Status) (b : List Word) : (d.respond t p st b).bt = d.bt := by unfold Dev.respond; dsimp only; split <;> (try split) <;> simp
@[simp] theorem Dev.respond_emac (d : Dev) (t : Nat) (p : Pend) (st : Status) (b : List Word) : (d.respond t p st b).emac = d.emac := by unfold Dev.respond; dsimp only; split <;> (try split) <;> simp
@[simp] theorem Dev.respond_rte (d : Dev) (t : Nat) (p : Pend) (st : Status) (b : List Word) : (d.respond t p st b).rte = d.rte := by unfold Dev.respond; dsimp only; split <;> (try split) <;> simp
@[simp] theorem Dev.respond_tm (d : Dev) (t : Nat) (p : Pend) (st : Status) (b : List Word) : (d.respond t p st b).tm = d.tm := by unfold Dev.respond; dsimp only; split <;> (try split) <;> simp
@[simp] theorem Dev.respond_wcx (d : Dev) (t : Nat) (p : Pend) (st : Status) (b : List Word) : (d.respond t p st b).wcx = d.wcx := by unfold Dev.respond; dsimp only; split <;> (try split) <;> simp
@[simp] theorem Dev.respond_sealEng (d : Dev) (t : Nat) (p : Pend) (st : Status) (b : List Word) : (d.respond t p st b).sealEng = d.sealEng := by unfold Dev.respond; dsimp only; split <;> (try split) <;> simp
@[simp] theorem Dev.respond_chk (d : Dev) (t : Nat) (p : Pend) (st : Status) (b : List Word) : (d.respond t p st b).chk = d.chk := by unfold Dev.respond; dsimp only; split <;> (try split) <;> simp
@[simp] theorem Dev.respond_gaf (d : Dev) (t : Nat) (p : Pend) (st : Status) (b : List Word) : (d.respond t p st b).gaf = d.gaf := by unfold Dev.respond; dsimp only; split <;> (try split) <;> simp
@[simp] theorem Dev.respond_ts (d : Dev) (t : Nat) (p : Pend) (st : Status) (b : List Word) : (d.respond t p st b).ts = d.ts := by unfold Dev.respond; dsimp only; split <;> (try split) <;> simp
@[simp] theorem Dev.respond_dly (d : Dev) (t : Nat) (p : Pend) (st : Status) (b : List Word) : (d.respond t p st b).dly = d.dly := by unfold Dev.respond; dsimp only; split <;> (try split) <;> simp
@[simp] theorem Dev.respond_tst (d : Dev) (t : Nat) (p : Pend) (st : Status) (b : List Word) : (d.respond t p st b).tst = d.tst := by unfold Dev.respond; dsimp only; split <;> (try split) <;> simp

/-! `Dev.modRing`. -/

@[simp] theorem Dev.modRing_glb (d : Dev) (g : Nat) (f : Ring → Ring) : (d.modRing g f).glb = d.glb := by simp only [Dev.modRing]
@[simp] theorem Dev.modRing_fns (d : Dev) (g : Nat) (f : Ring → Ring) : (d.modRing g f).fns = d.fns := by simp only [Dev.modRing]
@[simp] theorem Dev.modRing_host (d : Dev) (g : Nat) (f : Ring → Ring) : (d.modRing g f).host = d.host := by simp only [Dev.modRing]
@[simp] theorem Dev.modRing_regs (d : Dev) (g : Nat) (f : Ring → Ring) : (d.modRing g f).regs = d.regs := by simp only [Dev.modRing]
@[simp] theorem Dev.modRing_props (d : Dev) (g : Nat) (f : Ring → Ring) : (d.modRing g f).props = d.props := by simp only [Dev.modRing]
@[simp] theorem Dev.modRing_force (d : Dev) (g : Nat) (f : Ring → Ring) : (d.modRing g f).force = d.force := by simp only [Dev.modRing]
@[simp] theorem Dev.modRing_propStaged (d : Dev) (g : Nat) (f : Ring → Ring) : (d.modRing g f).propStaged = d.propStaged := by simp only [Dev.modRing]
@[simp] theorem Dev.modRing_arrivals (d : Dev) (g : Nat) (f : Ring → Ring) : (d.modRing g f).arrivals = d.arrivals := by simp only [Dev.modRing]
@[simp] theorem Dev.modRing_claims (d : Dev) (g : Nat) (f : Ring → Ring) : (d.modRing g f).claims = d.claims := by simp only [Dev.modRing]
@[simp] theorem Dev.modRing_counts (d : Dev) (g : Nat) (f : Ring → Ring) : (d.modRing g f).counts = d.counts := by simp only [Dev.modRing]
@[simp] theorem Dev.modRing_freeN (d : Dev) (g : Nat) (f : Ring → Ring) : (d.modRing g f).freeN = d.freeN := by simp only [Dev.modRing]
@[simp] theorem Dev.modRing_pln (d : Dev) (g : Nat) (f : Ring → Ring) : (d.modRing g f).pln = d.pln := by simp only [Dev.modRing]
@[simp] theorem Dev.modRing_mac (d : Dev) (g : Nat) (f : Ring → Ring) : (d.modRing g f).mac = d.mac := by simp only [Dev.modRing]
@[simp] theorem Dev.modRing_mdm (d : Dev) (g : Nat) (f : Ring → Ring) : (d.modRing g f).mdm = d.mdm := by simp only [Dev.modRing]
@[simp] theorem Dev.modRing_dec (d : Dev) (g : Nat) (f : Ring → Ring) : (d.modRing g f).dec = d.dec := by simp only [Dev.modRing]
@[simp] theorem Dev.modRing_fe (d : Dev) (g : Nat) (f : Ring → Ring) : (d.modRing g f).fe = d.fe := by simp only [Dev.modRing]
@[simp] theorem Dev.modRing_bt (d : Dev) (g : Nat) (f : Ring → Ring) : (d.modRing g f).bt = d.bt := by simp only [Dev.modRing]
@[simp] theorem Dev.modRing_emac (d : Dev) (g : Nat) (f : Ring → Ring) : (d.modRing g f).emac = d.emac := by simp only [Dev.modRing]
@[simp] theorem Dev.modRing_rte (d : Dev) (g : Nat) (f : Ring → Ring) : (d.modRing g f).rte = d.rte := by simp only [Dev.modRing]
@[simp] theorem Dev.modRing_wcx (d : Dev) (g : Nat) (f : Ring → Ring) : (d.modRing g f).wcx = d.wcx := by simp only [Dev.modRing]
@[simp] theorem Dev.modRing_sealEng (d : Dev) (g : Nat) (f : Ring → Ring) : (d.modRing g f).sealEng = d.sealEng := by simp only [Dev.modRing]
@[simp] theorem Dev.modRing_chk (d : Dev) (g : Nat) (f : Ring → Ring) : (d.modRing g f).chk = d.chk := by simp only [Dev.modRing]
@[simp] theorem Dev.modRing_rgm (d : Dev) (g : Nat) (f : Ring → Ring) : (d.modRing g f).rgm = d.rgm := by simp only [Dev.modRing]
@[simp] theorem Dev.modRing_mem (d : Dev) (g : Nat) (f : Ring → Ring) : (d.modRing g f).mem = d.mem := by simp only [Dev.modRing]
@[simp] theorem Dev.modRing_gaf (d : Dev) (g : Nat) (f : Ring → Ring) : (d.modRing g f).gaf = d.gaf := by simp only [Dev.modRing]
@[simp] theorem Dev.modRing_mgr (d : Dev) (g : Nat) (f : Ring → Ring) : (d.modRing g f).mgr = d.mgr := by simp only [Dev.modRing]
@[simp] theorem Dev.modRing_ts (d : Dev) (g : Nat) (f : Ring → Ring) : (d.modRing g f).ts = d.ts := by simp only [Dev.modRing]
@[simp] theorem Dev.modRing_dly (d : Dev) (g : Nat) (f : Ring → Ring) : (d.modRing g f).dly = d.dly := by simp only [Dev.modRing]
@[simp] theorem Dev.modRing_tst (d : Dev) (g : Nat) (f : Ring → Ring) : (d.modRing g f).tst = d.tst := by simp only [Dev.modRing]

/-! `Dev.modPort`. -/

@[simp] theorem Dev.modPort_glb (d : Dev) (p : Nat) (f : Port → Port) : (d.modPort p f).glb = d.glb := by simp only [Dev.modPort]
@[simp] theorem Dev.modPort_fns (d : Dev) (p : Nat) (f : Port → Port) : (d.modPort p f).fns = d.fns := by simp only [Dev.modPort]
@[simp] theorem Dev.modPort_host (d : Dev) (p : Nat) (f : Port → Port) : (d.modPort p f).host = d.host := by simp only [Dev.modPort]
@[simp] theorem Dev.modPort_regs (d : Dev) (p : Nat) (f : Port → Port) : (d.modPort p f).regs = d.regs := by simp only [Dev.modPort]
@[simp] theorem Dev.modPort_props (d : Dev) (p : Nat) (f : Port → Port) : (d.modPort p f).props = d.props := by simp only [Dev.modPort]
@[simp] theorem Dev.modPort_force (d : Dev) (p : Nat) (f : Port → Port) : (d.modPort p f).force = d.force := by simp only [Dev.modPort]
@[simp] theorem Dev.modPort_propStaged (d : Dev) (p : Nat) (f : Port → Port) : (d.modPort p f).propStaged = d.propStaged := by simp only [Dev.modPort]
@[simp] theorem Dev.modPort_arrivals (d : Dev) (p : Nat) (f : Port → Port) : (d.modPort p f).arrivals = d.arrivals := by simp only [Dev.modPort]
@[simp] theorem Dev.modPort_claims (d : Dev) (p : Nat) (f : Port → Port) : (d.modPort p f).claims = d.claims := by simp only [Dev.modPort]
@[simp] theorem Dev.modPort_counts (d : Dev) (p : Nat) (f : Port → Port) : (d.modPort p f).counts = d.counts := by simp only [Dev.modPort]
@[simp] theorem Dev.modPort_freeN (d : Dev) (p : Nat) (f : Port → Port) : (d.modPort p f).freeN = d.freeN := by simp only [Dev.modPort]
@[simp] theorem Dev.modPort_pln (d : Dev) (p : Nat) (f : Port → Port) : (d.modPort p f).pln = d.pln := by simp only [Dev.modPort]
@[simp] theorem Dev.modPort_mac (d : Dev) (p : Nat) (f : Port → Port) : (d.modPort p f).mac = d.mac := by simp only [Dev.modPort]
@[simp] theorem Dev.modPort_mdm (d : Dev) (p : Nat) (f : Port → Port) : (d.modPort p f).mdm = d.mdm := by simp only [Dev.modPort]
@[simp] theorem Dev.modPort_dec (d : Dev) (p : Nat) (f : Port → Port) : (d.modPort p f).dec = d.dec := by simp only [Dev.modPort]
@[simp] theorem Dev.modPort_fe (d : Dev) (p : Nat) (f : Port → Port) : (d.modPort p f).fe = d.fe := by simp only [Dev.modPort]
@[simp] theorem Dev.modPort_bt (d : Dev) (p : Nat) (f : Port → Port) : (d.modPort p f).bt = d.bt := by simp only [Dev.modPort]
@[simp] theorem Dev.modPort_rte (d : Dev) (p : Nat) (f : Port → Port) : (d.modPort p f).rte = d.rte := by simp only [Dev.modPort]
@[simp] theorem Dev.modPort_tm (d : Dev) (p : Nat) (f : Port → Port) : (d.modPort p f).tm = d.tm := by simp only [Dev.modPort]
@[simp] theorem Dev.modPort_wcx (d : Dev) (p : Nat) (f : Port → Port) : (d.modPort p f).wcx = d.wcx := by simp only [Dev.modPort]
@[simp] theorem Dev.modPort_sealEng (d : Dev) (p : Nat) (f : Port → Port) : (d.modPort p f).sealEng = d.sealEng := by simp only [Dev.modPort]
@[simp] theorem Dev.modPort_chk (d : Dev) (p : Nat) (f : Port → Port) : (d.modPort p f).chk = d.chk := by simp only [Dev.modPort]
@[simp] theorem Dev.modPort_rgm (d : Dev) (p : Nat) (f : Port → Port) : (d.modPort p f).rgm = d.rgm := by simp only [Dev.modPort]
@[simp] theorem Dev.modPort_mem (d : Dev) (p : Nat) (f : Port → Port) : (d.modPort p f).mem = d.mem := by simp only [Dev.modPort]
@[simp] theorem Dev.modPort_gaf (d : Dev) (p : Nat) (f : Port → Port) : (d.modPort p f).gaf = d.gaf := by simp only [Dev.modPort]
@[simp] theorem Dev.modPort_mgr (d : Dev) (p : Nat) (f : Port → Port) : (d.modPort p f).mgr = d.mgr := by simp only [Dev.modPort]
@[simp] theorem Dev.modPort_ts (d : Dev) (p : Nat) (f : Port → Port) : (d.modPort p f).ts = d.ts := by simp only [Dev.modPort]
@[simp] theorem Dev.modPort_dly (d : Dev) (p : Nat) (f : Port → Port) : (d.modPort p f).dly = d.dly := by simp only [Dev.modPort]
@[simp] theorem Dev.modPort_tst (d : Dev) (p : Nat) (f : Port → Port) : (d.modPort p f).tst = d.tst := by simp only [Dev.modPort]

/-! `Dev.modRadio`. -/

@[simp] theorem Dev.modRadio_glb (d : Dev) (r : Nat) (f : Radio → Radio) : (d.modRadio r f).glb = d.glb := by simp only [Dev.modRadio]
@[simp] theorem Dev.modRadio_fns (d : Dev) (r : Nat) (f : Radio → Radio) : (d.modRadio r f).fns = d.fns := by simp only [Dev.modRadio]
@[simp] theorem Dev.modRadio_host (d : Dev) (r : Nat) (f : Radio → Radio) : (d.modRadio r f).host = d.host := by simp only [Dev.modRadio]
@[simp] theorem Dev.modRadio_regs (d : Dev) (r : Nat) (f : Radio → Radio) : (d.modRadio r f).regs = d.regs := by simp only [Dev.modRadio]
@[simp] theorem Dev.modRadio_props (d : Dev) (r : Nat) (f : Radio → Radio) : (d.modRadio r f).props = d.props := by simp only [Dev.modRadio]
@[simp] theorem Dev.modRadio_force (d : Dev) (r : Nat) (f : Radio → Radio) : (d.modRadio r f).force = d.force := by simp only [Dev.modRadio]
@[simp] theorem Dev.modRadio_propStaged (d : Dev) (r : Nat) (f : Radio → Radio) : (d.modRadio r f).propStaged = d.propStaged := by simp only [Dev.modRadio]
@[simp] theorem Dev.modRadio_arrivals (d : Dev) (r : Nat) (f : Radio → Radio) : (d.modRadio r f).arrivals = d.arrivals := by simp only [Dev.modRadio]
@[simp] theorem Dev.modRadio_claims (d : Dev) (r : Nat) (f : Radio → Radio) : (d.modRadio r f).claims = d.claims := by simp only [Dev.modRadio]
@[simp] theorem Dev.modRadio_counts (d : Dev) (r : Nat) (f : Radio → Radio) : (d.modRadio r f).counts = d.counts := by simp only [Dev.modRadio]
@[simp] theorem Dev.modRadio_freeN (d : Dev) (r : Nat) (f : Radio → Radio) : (d.modRadio r f).freeN = d.freeN := by simp only [Dev.modRadio]
@[simp] theorem Dev.modRadio_pln (d : Dev) (r : Nat) (f : Radio → Radio) : (d.modRadio r f).pln = d.pln := by simp only [Dev.modRadio]
@[simp] theorem Dev.modRadio_mac (d : Dev) (r : Nat) (f : Radio → Radio) : (d.modRadio r f).mac = d.mac := by simp only [Dev.modRadio]
@[simp] theorem Dev.modRadio_mdm (d : Dev) (r : Nat) (f : Radio → Radio) : (d.modRadio r f).mdm = d.mdm := by simp only [Dev.modRadio]
@[simp] theorem Dev.modRadio_dec (d : Dev) (r : Nat) (f : Radio → Radio) : (d.modRadio r f).dec = d.dec := by simp only [Dev.modRadio]
@[simp] theorem Dev.modRadio_bt (d : Dev) (r : Nat) (f : Radio → Radio) : (d.modRadio r f).bt = d.bt := by simp only [Dev.modRadio]
@[simp] theorem Dev.modRadio_emac (d : Dev) (r : Nat) (f : Radio → Radio) : (d.modRadio r f).emac = d.emac := by simp only [Dev.modRadio]
@[simp] theorem Dev.modRadio_rte (d : Dev) (r : Nat) (f : Radio → Radio) : (d.modRadio r f).rte = d.rte := by simp only [Dev.modRadio]
@[simp] theorem Dev.modRadio_tm (d : Dev) (r : Nat) (f : Radio → Radio) : (d.modRadio r f).tm = d.tm := by simp only [Dev.modRadio]
@[simp] theorem Dev.modRadio_wcx (d : Dev) (r : Nat) (f : Radio → Radio) : (d.modRadio r f).wcx = d.wcx := by simp only [Dev.modRadio]
@[simp] theorem Dev.modRadio_sealEng (d : Dev) (r : Nat) (f : Radio → Radio) : (d.modRadio r f).sealEng = d.sealEng := by simp only [Dev.modRadio]
@[simp] theorem Dev.modRadio_chk (d : Dev) (r : Nat) (f : Radio → Radio) : (d.modRadio r f).chk = d.chk := by simp only [Dev.modRadio]
@[simp] theorem Dev.modRadio_rgm (d : Dev) (r : Nat) (f : Radio → Radio) : (d.modRadio r f).rgm = d.rgm := by simp only [Dev.modRadio]
@[simp] theorem Dev.modRadio_mem (d : Dev) (r : Nat) (f : Radio → Radio) : (d.modRadio r f).mem = d.mem := by simp only [Dev.modRadio]
@[simp] theorem Dev.modRadio_gaf (d : Dev) (r : Nat) (f : Radio → Radio) : (d.modRadio r f).gaf = d.gaf := by simp only [Dev.modRadio]
@[simp] theorem Dev.modRadio_mgr (d : Dev) (r : Nat) (f : Radio → Radio) : (d.modRadio r f).mgr = d.mgr := by simp only [Dev.modRadio]
@[simp] theorem Dev.modRadio_ts (d : Dev) (r : Nat) (f : Radio → Radio) : (d.modRadio r f).ts = d.ts := by simp only [Dev.modRadio]
@[simp] theorem Dev.modRadio_dly (d : Dev) (r : Nat) (f : Radio → Radio) : (d.modRadio r f).dly = d.dly := by simp only [Dev.modRadio]
@[simp] theorem Dev.modRadio_tst (d : Dev) (r : Nat) (f : Radio → Radio) : (d.modRadio r f).tst = d.tst := by simp only [Dev.modRadio]

/-! `Dev.modChain`. -/

@[simp] theorem Dev.modChain_glb (d : Dev) (c : Nat) (f : Chain → Chain) : (d.modChain c f).glb = d.glb := by simp only [Dev.modChain]
@[simp] theorem Dev.modChain_fns (d : Dev) (c : Nat) (f : Chain → Chain) : (d.modChain c f).fns = d.fns := by simp only [Dev.modChain]
@[simp] theorem Dev.modChain_host (d : Dev) (c : Nat) (f : Chain → Chain) : (d.modChain c f).host = d.host := by simp only [Dev.modChain]
@[simp] theorem Dev.modChain_regs (d : Dev) (c : Nat) (f : Chain → Chain) : (d.modChain c f).regs = d.regs := by simp only [Dev.modChain]
@[simp] theorem Dev.modChain_props (d : Dev) (c : Nat) (f : Chain → Chain) : (d.modChain c f).props = d.props := by simp only [Dev.modChain]
@[simp] theorem Dev.modChain_force (d : Dev) (c : Nat) (f : Chain → Chain) : (d.modChain c f).force = d.force := by simp only [Dev.modChain]
@[simp] theorem Dev.modChain_propStaged (d : Dev) (c : Nat) (f : Chain → Chain) : (d.modChain c f).propStaged = d.propStaged := by simp only [Dev.modChain]
@[simp] theorem Dev.modChain_arrivals (d : Dev) (c : Nat) (f : Chain → Chain) : (d.modChain c f).arrivals = d.arrivals := by simp only [Dev.modChain]
@[simp] theorem Dev.modChain_claims (d : Dev) (c : Nat) (f : Chain → Chain) : (d.modChain c f).claims = d.claims := by simp only [Dev.modChain]
@[simp] theorem Dev.modChain_counts (d : Dev) (c : Nat) (f : Chain → Chain) : (d.modChain c f).counts = d.counts := by simp only [Dev.modChain]
@[simp] theorem Dev.modChain_freeN (d : Dev) (c : Nat) (f : Chain → Chain) : (d.modChain c f).freeN = d.freeN := by simp only [Dev.modChain]
@[simp] theorem Dev.modChain_pln (d : Dev) (c : Nat) (f : Chain → Chain) : (d.modChain c f).pln = d.pln := by simp only [Dev.modChain]
@[simp] theorem Dev.modChain_mac (d : Dev) (c : Nat) (f : Chain → Chain) : (d.modChain c f).mac = d.mac := by simp only [Dev.modChain]
@[simp] theorem Dev.modChain_mdm (d : Dev) (c : Nat) (f : Chain → Chain) : (d.modChain c f).mdm = d.mdm := by simp only [Dev.modChain]
@[simp] theorem Dev.modChain_dec (d : Dev) (c : Nat) (f : Chain → Chain) : (d.modChain c f).dec = d.dec := by simp only [Dev.modChain]
@[simp] theorem Dev.modChain_bt (d : Dev) (c : Nat) (f : Chain → Chain) : (d.modChain c f).bt = d.bt := by simp only [Dev.modChain]
@[simp] theorem Dev.modChain_emac (d : Dev) (c : Nat) (f : Chain → Chain) : (d.modChain c f).emac = d.emac := by simp only [Dev.modChain]
@[simp] theorem Dev.modChain_rte (d : Dev) (c : Nat) (f : Chain → Chain) : (d.modChain c f).rte = d.rte := by simp only [Dev.modChain]
@[simp] theorem Dev.modChain_tm (d : Dev) (c : Nat) (f : Chain → Chain) : (d.modChain c f).tm = d.tm := by simp only [Dev.modChain]
@[simp] theorem Dev.modChain_wcx (d : Dev) (c : Nat) (f : Chain → Chain) : (d.modChain c f).wcx = d.wcx := by simp only [Dev.modChain]
@[simp] theorem Dev.modChain_sealEng (d : Dev) (c : Nat) (f : Chain → Chain) : (d.modChain c f).sealEng = d.sealEng := by simp only [Dev.modChain]
@[simp] theorem Dev.modChain_chk (d : Dev) (c : Nat) (f : Chain → Chain) : (d.modChain c f).chk = d.chk := by simp only [Dev.modChain]
@[simp] theorem Dev.modChain_rgm (d : Dev) (c : Nat) (f : Chain → Chain) : (d.modChain c f).rgm = d.rgm := by simp only [Dev.modChain]
@[simp] theorem Dev.modChain_mem (d : Dev) (c : Nat) (f : Chain → Chain) : (d.modChain c f).mem = d.mem := by simp only [Dev.modChain]
@[simp] theorem Dev.modChain_gaf (d : Dev) (c : Nat) (f : Chain → Chain) : (d.modChain c f).gaf = d.gaf := by simp only [Dev.modChain]
@[simp] theorem Dev.modChain_mgr (d : Dev) (c : Nat) (f : Chain → Chain) : (d.modChain c f).mgr = d.mgr := by simp only [Dev.modChain]
@[simp] theorem Dev.modChain_ts (d : Dev) (c : Nat) (f : Chain → Chain) : (d.modChain c f).ts = d.ts := by simp only [Dev.modChain]
@[simp] theorem Dev.modChain_dly (d : Dev) (c : Nat) (f : Chain → Chain) : (d.modChain c f).dly = d.dly := by simp only [Dev.modChain]
@[simp] theorem Dev.modChain_tst (d : Dev) (c : Nat) (f : Chain → Chain) : (d.modChain c f).tst = d.tst := by simp only [Dev.modChain]

/-! `Dev.modBss`. -/

@[simp] theorem Dev.modBss_glb (d : Dev) (b : Nat) (f : Bss → Bss) : (d.modBss b f).glb = d.glb := by simp only [Dev.modBss]
@[simp] theorem Dev.modBss_fns (d : Dev) (b : Nat) (f : Bss → Bss) : (d.modBss b f).fns = d.fns := by simp only [Dev.modBss]
@[simp] theorem Dev.modBss_host (d : Dev) (b : Nat) (f : Bss → Bss) : (d.modBss b f).host = d.host := by simp only [Dev.modBss]
@[simp] theorem Dev.modBss_regs (d : Dev) (b : Nat) (f : Bss → Bss) : (d.modBss b f).regs = d.regs := by simp only [Dev.modBss]
@[simp] theorem Dev.modBss_props (d : Dev) (b : Nat) (f : Bss → Bss) : (d.modBss b f).props = d.props := by simp only [Dev.modBss]
@[simp] theorem Dev.modBss_force (d : Dev) (b : Nat) (f : Bss → Bss) : (d.modBss b f).force = d.force := by simp only [Dev.modBss]
@[simp] theorem Dev.modBss_propStaged (d : Dev) (b : Nat) (f : Bss → Bss) : (d.modBss b f).propStaged = d.propStaged := by simp only [Dev.modBss]
@[simp] theorem Dev.modBss_arrivals (d : Dev) (b : Nat) (f : Bss → Bss) : (d.modBss b f).arrivals = d.arrivals := by simp only [Dev.modBss]
@[simp] theorem Dev.modBss_claims (d : Dev) (b : Nat) (f : Bss → Bss) : (d.modBss b f).claims = d.claims := by simp only [Dev.modBss]
@[simp] theorem Dev.modBss_counts (d : Dev) (b : Nat) (f : Bss → Bss) : (d.modBss b f).counts = d.counts := by simp only [Dev.modBss]
@[simp] theorem Dev.modBss_freeN (d : Dev) (b : Nat) (f : Bss → Bss) : (d.modBss b f).freeN = d.freeN := by simp only [Dev.modBss]
@[simp] theorem Dev.modBss_pln (d : Dev) (b : Nat) (f : Bss → Bss) : (d.modBss b f).pln = d.pln := by simp only [Dev.modBss]
@[simp] theorem Dev.modBss_mdm (d : Dev) (b : Nat) (f : Bss → Bss) : (d.modBss b f).mdm = d.mdm := by simp only [Dev.modBss]
@[simp] theorem Dev.modBss_dec (d : Dev) (b : Nat) (f : Bss → Bss) : (d.modBss b f).dec = d.dec := by simp only [Dev.modBss]
@[simp] theorem Dev.modBss_fe (d : Dev) (b : Nat) (f : Bss → Bss) : (d.modBss b f).fe = d.fe := by simp only [Dev.modBss]
@[simp] theorem Dev.modBss_bt (d : Dev) (b : Nat) (f : Bss → Bss) : (d.modBss b f).bt = d.bt := by simp only [Dev.modBss]
@[simp] theorem Dev.modBss_emac (d : Dev) (b : Nat) (f : Bss → Bss) : (d.modBss b f).emac = d.emac := by simp only [Dev.modBss]
@[simp] theorem Dev.modBss_rte (d : Dev) (b : Nat) (f : Bss → Bss) : (d.modBss b f).rte = d.rte := by simp only [Dev.modBss]
@[simp] theorem Dev.modBss_tm (d : Dev) (b : Nat) (f : Bss → Bss) : (d.modBss b f).tm = d.tm := by simp only [Dev.modBss]
@[simp] theorem Dev.modBss_wcx (d : Dev) (b : Nat) (f : Bss → Bss) : (d.modBss b f).wcx = d.wcx := by simp only [Dev.modBss]
@[simp] theorem Dev.modBss_sealEng (d : Dev) (b : Nat) (f : Bss → Bss) : (d.modBss b f).sealEng = d.sealEng := by simp only [Dev.modBss]
@[simp] theorem Dev.modBss_chk (d : Dev) (b : Nat) (f : Bss → Bss) : (d.modBss b f).chk = d.chk := by simp only [Dev.modBss]
@[simp] theorem Dev.modBss_rgm (d : Dev) (b : Nat) (f : Bss → Bss) : (d.modBss b f).rgm = d.rgm := by simp only [Dev.modBss]
@[simp] theorem Dev.modBss_mem (d : Dev) (b : Nat) (f : Bss → Bss) : (d.modBss b f).mem = d.mem := by simp only [Dev.modBss]
@[simp] theorem Dev.modBss_gaf (d : Dev) (b : Nat) (f : Bss → Bss) : (d.modBss b f).gaf = d.gaf := by simp only [Dev.modBss]
@[simp] theorem Dev.modBss_mgr (d : Dev) (b : Nat) (f : Bss → Bss) : (d.modBss b f).mgr = d.mgr := by simp only [Dev.modBss]
@[simp] theorem Dev.modBss_ts (d : Dev) (b : Nat) (f : Bss → Bss) : (d.modBss b f).ts = d.ts := by simp only [Dev.modBss]
@[simp] theorem Dev.modBss_dly (d : Dev) (b : Nat) (f : Bss → Bss) : (d.modBss b f).dly = d.dly := by simp only [Dev.modBss]
@[simp] theorem Dev.modBss_tst (d : Dev) (b : Nat) (f : Bss → Bss) : (d.modBss b f).tst = d.tst := by simp only [Dev.modBss]

/-! `Dev.modSta`. -/

@[simp] theorem Dev.modSta_glb (d : Dev) (b : Nat) (f : Sta → Sta) : (d.modSta b f).glb = d.glb := by simp only [Dev.modSta]
@[simp] theorem Dev.modSta_fns (d : Dev) (b : Nat) (f : Sta → Sta) : (d.modSta b f).fns = d.fns := by simp only [Dev.modSta]
@[simp] theorem Dev.modSta_host (d : Dev) (b : Nat) (f : Sta → Sta) : (d.modSta b f).host = d.host := by simp only [Dev.modSta]
@[simp] theorem Dev.modSta_regs (d : Dev) (b : Nat) (f : Sta → Sta) : (d.modSta b f).regs = d.regs := by simp only [Dev.modSta]
@[simp] theorem Dev.modSta_props (d : Dev) (b : Nat) (f : Sta → Sta) : (d.modSta b f).props = d.props := by simp only [Dev.modSta]
@[simp] theorem Dev.modSta_force (d : Dev) (b : Nat) (f : Sta → Sta) : (d.modSta b f).force = d.force := by simp only [Dev.modSta]
@[simp] theorem Dev.modSta_propStaged (d : Dev) (b : Nat) (f : Sta → Sta) : (d.modSta b f).propStaged = d.propStaged := by simp only [Dev.modSta]
@[simp] theorem Dev.modSta_arrivals (d : Dev) (b : Nat) (f : Sta → Sta) : (d.modSta b f).arrivals = d.arrivals := by simp only [Dev.modSta]
@[simp] theorem Dev.modSta_claims (d : Dev) (b : Nat) (f : Sta → Sta) : (d.modSta b f).claims = d.claims := by simp only [Dev.modSta]
@[simp] theorem Dev.modSta_counts (d : Dev) (b : Nat) (f : Sta → Sta) : (d.modSta b f).counts = d.counts := by simp only [Dev.modSta]
@[simp] theorem Dev.modSta_freeN (d : Dev) (b : Nat) (f : Sta → Sta) : (d.modSta b f).freeN = d.freeN := by simp only [Dev.modSta]
@[simp] theorem Dev.modSta_pln (d : Dev) (b : Nat) (f : Sta → Sta) : (d.modSta b f).pln = d.pln := by simp only [Dev.modSta]
@[simp] theorem Dev.modSta_mdm (d : Dev) (b : Nat) (f : Sta → Sta) : (d.modSta b f).mdm = d.mdm := by simp only [Dev.modSta]
@[simp] theorem Dev.modSta_dec (d : Dev) (b : Nat) (f : Sta → Sta) : (d.modSta b f).dec = d.dec := by simp only [Dev.modSta]
@[simp] theorem Dev.modSta_fe (d : Dev) (b : Nat) (f : Sta → Sta) : (d.modSta b f).fe = d.fe := by simp only [Dev.modSta]
@[simp] theorem Dev.modSta_bt (d : Dev) (b : Nat) (f : Sta → Sta) : (d.modSta b f).bt = d.bt := by simp only [Dev.modSta]
@[simp] theorem Dev.modSta_emac (d : Dev) (b : Nat) (f : Sta → Sta) : (d.modSta b f).emac = d.emac := by simp only [Dev.modSta]
@[simp] theorem Dev.modSta_rte (d : Dev) (b : Nat) (f : Sta → Sta) : (d.modSta b f).rte = d.rte := by simp only [Dev.modSta]
@[simp] theorem Dev.modSta_tm (d : Dev) (b : Nat) (f : Sta → Sta) : (d.modSta b f).tm = d.tm := by simp only [Dev.modSta]
@[simp] theorem Dev.modSta_wcx (d : Dev) (b : Nat) (f : Sta → Sta) : (d.modSta b f).wcx = d.wcx := by simp only [Dev.modSta]
@[simp] theorem Dev.modSta_sealEng (d : Dev) (b : Nat) (f : Sta → Sta) : (d.modSta b f).sealEng = d.sealEng := by simp only [Dev.modSta]
@[simp] theorem Dev.modSta_chk (d : Dev) (b : Nat) (f : Sta → Sta) : (d.modSta b f).chk = d.chk := by simp only [Dev.modSta]
@[simp] theorem Dev.modSta_rgm (d : Dev) (b : Nat) (f : Sta → Sta) : (d.modSta b f).rgm = d.rgm := by simp only [Dev.modSta]
@[simp] theorem Dev.modSta_mem (d : Dev) (b : Nat) (f : Sta → Sta) : (d.modSta b f).mem = d.mem := by simp only [Dev.modSta]
@[simp] theorem Dev.modSta_gaf (d : Dev) (b : Nat) (f : Sta → Sta) : (d.modSta b f).gaf = d.gaf := by simp only [Dev.modSta]
@[simp] theorem Dev.modSta_mgr (d : Dev) (b : Nat) (f : Sta → Sta) : (d.modSta b f).mgr = d.mgr := by simp only [Dev.modSta]
@[simp] theorem Dev.modSta_ts (d : Dev) (b : Nat) (f : Sta → Sta) : (d.modSta b f).ts = d.ts := by simp only [Dev.modSta]
@[simp] theorem Dev.modSta_dly (d : Dev) (b : Nat) (f : Sta → Sta) : (d.modSta b f).dly = d.dly := by simp only [Dev.modSta]
@[simp] theorem Dev.modSta_tst (d : Dev) (b : Nat) (f : Sta → Sta) : (d.modSta b f).tst = d.tst := by simp only [Dev.modSta]

/-! `Dev.modSlot`. -/

@[simp] theorem Dev.modSlot_glb (d : Dev) (n : Nat) (f : KeySlot → KeySlot) : (d.modSlot n f).glb = d.glb := by simp only [Dev.modSlot]
@[simp] theorem Dev.modSlot_fns (d : Dev) (n : Nat) (f : KeySlot → KeySlot) : (d.modSlot n f).fns = d.fns := by simp only [Dev.modSlot]
@[simp] theorem Dev.modSlot_host (d : Dev) (n : Nat) (f : KeySlot → KeySlot) : (d.modSlot n f).host = d.host := by simp only [Dev.modSlot]
@[simp] theorem Dev.modSlot_regs (d : Dev) (n : Nat) (f : KeySlot → KeySlot) : (d.modSlot n f).regs = d.regs := by simp only [Dev.modSlot]
@[simp] theorem Dev.modSlot_props (d : Dev) (n : Nat) (f : KeySlot → KeySlot) : (d.modSlot n f).props = d.props := by simp only [Dev.modSlot]
@[simp] theorem Dev.modSlot_force (d : Dev) (n : Nat) (f : KeySlot → KeySlot) : (d.modSlot n f).force = d.force := by simp only [Dev.modSlot]
@[simp] theorem Dev.modSlot_propStaged (d : Dev) (n : Nat) (f : KeySlot → KeySlot) : (d.modSlot n f).propStaged = d.propStaged := by simp only [Dev.modSlot]
@[simp] theorem Dev.modSlot_arrivals (d : Dev) (n : Nat) (f : KeySlot → KeySlot) : (d.modSlot n f).arrivals = d.arrivals := by simp only [Dev.modSlot]
@[simp] theorem Dev.modSlot_claims (d : Dev) (n : Nat) (f : KeySlot → KeySlot) : (d.modSlot n f).claims = d.claims := by simp only [Dev.modSlot]
@[simp] theorem Dev.modSlot_counts (d : Dev) (n : Nat) (f : KeySlot → KeySlot) : (d.modSlot n f).counts = d.counts := by simp only [Dev.modSlot]
@[simp] theorem Dev.modSlot_freeN (d : Dev) (n : Nat) (f : KeySlot → KeySlot) : (d.modSlot n f).freeN = d.freeN := by simp only [Dev.modSlot]
@[simp] theorem Dev.modSlot_pln (d : Dev) (n : Nat) (f : KeySlot → KeySlot) : (d.modSlot n f).pln = d.pln := by simp only [Dev.modSlot]
@[simp] theorem Dev.modSlot_mac (d : Dev) (n : Nat) (f : KeySlot → KeySlot) : (d.modSlot n f).mac = d.mac := by simp only [Dev.modSlot]
@[simp] theorem Dev.modSlot_mdm (d : Dev) (n : Nat) (f : KeySlot → KeySlot) : (d.modSlot n f).mdm = d.mdm := by simp only [Dev.modSlot]
@[simp] theorem Dev.modSlot_dec (d : Dev) (n : Nat) (f : KeySlot → KeySlot) : (d.modSlot n f).dec = d.dec := by simp only [Dev.modSlot]
@[simp] theorem Dev.modSlot_fe (d : Dev) (n : Nat) (f : KeySlot → KeySlot) : (d.modSlot n f).fe = d.fe := by simp only [Dev.modSlot]
@[simp] theorem Dev.modSlot_bt (d : Dev) (n : Nat) (f : KeySlot → KeySlot) : (d.modSlot n f).bt = d.bt := by simp only [Dev.modSlot]
@[simp] theorem Dev.modSlot_emac (d : Dev) (n : Nat) (f : KeySlot → KeySlot) : (d.modSlot n f).emac = d.emac := by simp only [Dev.modSlot]
@[simp] theorem Dev.modSlot_rte (d : Dev) (n : Nat) (f : KeySlot → KeySlot) : (d.modSlot n f).rte = d.rte := by simp only [Dev.modSlot]
@[simp] theorem Dev.modSlot_tm (d : Dev) (n : Nat) (f : KeySlot → KeySlot) : (d.modSlot n f).tm = d.tm := by simp only [Dev.modSlot]
@[simp] theorem Dev.modSlot_sealEng (d : Dev) (n : Nat) (f : KeySlot → KeySlot) : (d.modSlot n f).sealEng = d.sealEng := by simp only [Dev.modSlot]
@[simp] theorem Dev.modSlot_chk (d : Dev) (n : Nat) (f : KeySlot → KeySlot) : (d.modSlot n f).chk = d.chk := by simp only [Dev.modSlot]
@[simp] theorem Dev.modSlot_rgm (d : Dev) (n : Nat) (f : KeySlot → KeySlot) : (d.modSlot n f).rgm = d.rgm := by simp only [Dev.modSlot]
@[simp] theorem Dev.modSlot_mem (d : Dev) (n : Nat) (f : KeySlot → KeySlot) : (d.modSlot n f).mem = d.mem := by simp only [Dev.modSlot]
@[simp] theorem Dev.modSlot_gaf (d : Dev) (n : Nat) (f : KeySlot → KeySlot) : (d.modSlot n f).gaf = d.gaf := by simp only [Dev.modSlot]
@[simp] theorem Dev.modSlot_mgr (d : Dev) (n : Nat) (f : KeySlot → KeySlot) : (d.modSlot n f).mgr = d.mgr := by simp only [Dev.modSlot]
@[simp] theorem Dev.modSlot_ts (d : Dev) (n : Nat) (f : KeySlot → KeySlot) : (d.modSlot n f).ts = d.ts := by simp only [Dev.modSlot]
@[simp] theorem Dev.modSlot_dly (d : Dev) (n : Nat) (f : KeySlot → KeySlot) : (d.modSlot n f).dly = d.dly := by simp only [Dev.modSlot]
@[simp] theorem Dev.modSlot_tst (d : Dev) (n : Nat) (f : KeySlot → KeySlot) : (d.modSlot n f).tst = d.tst := by simp only [Dev.modSlot]

/-! `Dev.modChk`. -/

@[simp] theorem Dev.modChk_glb (d : Dev) (n : Nat) (f : Chk → Chk) : (d.modChk n f).glb = d.glb := by simp only [Dev.modChk]
@[simp] theorem Dev.modChk_fns (d : Dev) (n : Nat) (f : Chk → Chk) : (d.modChk n f).fns = d.fns := by simp only [Dev.modChk]
@[simp] theorem Dev.modChk_host (d : Dev) (n : Nat) (f : Chk → Chk) : (d.modChk n f).host = d.host := by simp only [Dev.modChk]
@[simp] theorem Dev.modChk_regs (d : Dev) (n : Nat) (f : Chk → Chk) : (d.modChk n f).regs = d.regs := by simp only [Dev.modChk]
@[simp] theorem Dev.modChk_props (d : Dev) (n : Nat) (f : Chk → Chk) : (d.modChk n f).props = d.props := by simp only [Dev.modChk]
@[simp] theorem Dev.modChk_force (d : Dev) (n : Nat) (f : Chk → Chk) : (d.modChk n f).force = d.force := by simp only [Dev.modChk]
@[simp] theorem Dev.modChk_propStaged (d : Dev) (n : Nat) (f : Chk → Chk) : (d.modChk n f).propStaged = d.propStaged := by simp only [Dev.modChk]
@[simp] theorem Dev.modChk_arrivals (d : Dev) (n : Nat) (f : Chk → Chk) : (d.modChk n f).arrivals = d.arrivals := by simp only [Dev.modChk]
@[simp] theorem Dev.modChk_claims (d : Dev) (n : Nat) (f : Chk → Chk) : (d.modChk n f).claims = d.claims := by simp only [Dev.modChk]
@[simp] theorem Dev.modChk_counts (d : Dev) (n : Nat) (f : Chk → Chk) : (d.modChk n f).counts = d.counts := by simp only [Dev.modChk]
@[simp] theorem Dev.modChk_freeN (d : Dev) (n : Nat) (f : Chk → Chk) : (d.modChk n f).freeN = d.freeN := by simp only [Dev.modChk]
@[simp] theorem Dev.modChk_pln (d : Dev) (n : Nat) (f : Chk → Chk) : (d.modChk n f).pln = d.pln := by simp only [Dev.modChk]
@[simp] theorem Dev.modChk_mac (d : Dev) (n : Nat) (f : Chk → Chk) : (d.modChk n f).mac = d.mac := by simp only [Dev.modChk]
@[simp] theorem Dev.modChk_mdm (d : Dev) (n : Nat) (f : Chk → Chk) : (d.modChk n f).mdm = d.mdm := by simp only [Dev.modChk]
@[simp] theorem Dev.modChk_dec (d : Dev) (n : Nat) (f : Chk → Chk) : (d.modChk n f).dec = d.dec := by simp only [Dev.modChk]
@[simp] theorem Dev.modChk_fe (d : Dev) (n : Nat) (f : Chk → Chk) : (d.modChk n f).fe = d.fe := by simp only [Dev.modChk]
@[simp] theorem Dev.modChk_bt (d : Dev) (n : Nat) (f : Chk → Chk) : (d.modChk n f).bt = d.bt := by simp only [Dev.modChk]
@[simp] theorem Dev.modChk_emac (d : Dev) (n : Nat) (f : Chk → Chk) : (d.modChk n f).emac = d.emac := by simp only [Dev.modChk]
@[simp] theorem Dev.modChk_rte (d : Dev) (n : Nat) (f : Chk → Chk) : (d.modChk n f).rte = d.rte := by simp only [Dev.modChk]
@[simp] theorem Dev.modChk_tm (d : Dev) (n : Nat) (f : Chk → Chk) : (d.modChk n f).tm = d.tm := by simp only [Dev.modChk]
@[simp] theorem Dev.modChk_wcx (d : Dev) (n : Nat) (f : Chk → Chk) : (d.modChk n f).wcx = d.wcx := by simp only [Dev.modChk]
@[simp] theorem Dev.modChk_sealEng (d : Dev) (n : Nat) (f : Chk → Chk) : (d.modChk n f).sealEng = d.sealEng := by simp only [Dev.modChk]
@[simp] theorem Dev.modChk_rgm (d : Dev) (n : Nat) (f : Chk → Chk) : (d.modChk n f).rgm = d.rgm := by simp only [Dev.modChk]
@[simp] theorem Dev.modChk_mem (d : Dev) (n : Nat) (f : Chk → Chk) : (d.modChk n f).mem = d.mem := by simp only [Dev.modChk]
@[simp] theorem Dev.modChk_gaf (d : Dev) (n : Nat) (f : Chk → Chk) : (d.modChk n f).gaf = d.gaf := by simp only [Dev.modChk]
@[simp] theorem Dev.modChk_mgr (d : Dev) (n : Nat) (f : Chk → Chk) : (d.modChk n f).mgr = d.mgr := by simp only [Dev.modChk]
@[simp] theorem Dev.modChk_ts (d : Dev) (n : Nat) (f : Chk → Chk) : (d.modChk n f).ts = d.ts := by simp only [Dev.modChk]
@[simp] theorem Dev.modChk_dly (d : Dev) (n : Nat) (f : Chk → Chk) : (d.modChk n f).dly = d.dly := by simp only [Dev.modChk]
@[simp] theorem Dev.modChk_tst (d : Dev) (n : Nat) (f : Chk → Chk) : (d.modChk n f).tst = d.tst := by simp only [Dev.modChk]

/-! `Dev.modRx`. -/

@[simp] theorem Dev.modRx_glb (d : Dev) (r : Nat) (f : Rx → Rx) : (d.modRx r f).glb = d.glb := by simp only [Dev.modRx]
@[simp] theorem Dev.modRx_fns (d : Dev) (r : Nat) (f : Rx → Rx) : (d.modRx r f).fns = d.fns := by simp only [Dev.modRx]
@[simp] theorem Dev.modRx_host (d : Dev) (r : Nat) (f : Rx → Rx) : (d.modRx r f).host = d.host := by simp only [Dev.modRx]
@[simp] theorem Dev.modRx_regs (d : Dev) (r : Nat) (f : Rx → Rx) : (d.modRx r f).regs = d.regs := by simp only [Dev.modRx]
@[simp] theorem Dev.modRx_props (d : Dev) (r : Nat) (f : Rx → Rx) : (d.modRx r f).props = d.props := by simp only [Dev.modRx]
@[simp] theorem Dev.modRx_force (d : Dev) (r : Nat) (f : Rx → Rx) : (d.modRx r f).force = d.force := by simp only [Dev.modRx]
@[simp] theorem Dev.modRx_propStaged (d : Dev) (r : Nat) (f : Rx → Rx) : (d.modRx r f).propStaged = d.propStaged := by simp only [Dev.modRx]
@[simp] theorem Dev.modRx_arrivals (d : Dev) (r : Nat) (f : Rx → Rx) : (d.modRx r f).arrivals = d.arrivals := by simp only [Dev.modRx]
@[simp] theorem Dev.modRx_claims (d : Dev) (r : Nat) (f : Rx → Rx) : (d.modRx r f).claims = d.claims := by simp only [Dev.modRx]
@[simp] theorem Dev.modRx_counts (d : Dev) (r : Nat) (f : Rx → Rx) : (d.modRx r f).counts = d.counts := by simp only [Dev.modRx]
@[simp] theorem Dev.modRx_freeN (d : Dev) (r : Nat) (f : Rx → Rx) : (d.modRx r f).freeN = d.freeN := by simp only [Dev.modRx]
@[simp] theorem Dev.modRx_pln (d : Dev) (r : Nat) (f : Rx → Rx) : (d.modRx r f).pln = d.pln := by simp only [Dev.modRx]
@[simp] theorem Dev.modRx_mac (d : Dev) (r : Nat) (f : Rx → Rx) : (d.modRx r f).mac = d.mac := by simp only [Dev.modRx]
@[simp] theorem Dev.modRx_dec (d : Dev) (r : Nat) (f : Rx → Rx) : (d.modRx r f).dec = d.dec := by simp only [Dev.modRx]
@[simp] theorem Dev.modRx_fe (d : Dev) (r : Nat) (f : Rx → Rx) : (d.modRx r f).fe = d.fe := by simp only [Dev.modRx]
@[simp] theorem Dev.modRx_bt (d : Dev) (r : Nat) (f : Rx → Rx) : (d.modRx r f).bt = d.bt := by simp only [Dev.modRx]
@[simp] theorem Dev.modRx_emac (d : Dev) (r : Nat) (f : Rx → Rx) : (d.modRx r f).emac = d.emac := by simp only [Dev.modRx]
@[simp] theorem Dev.modRx_rte (d : Dev) (r : Nat) (f : Rx → Rx) : (d.modRx r f).rte = d.rte := by simp only [Dev.modRx]
@[simp] theorem Dev.modRx_tm (d : Dev) (r : Nat) (f : Rx → Rx) : (d.modRx r f).tm = d.tm := by simp only [Dev.modRx]
@[simp] theorem Dev.modRx_wcx (d : Dev) (r : Nat) (f : Rx → Rx) : (d.modRx r f).wcx = d.wcx := by simp only [Dev.modRx]
@[simp] theorem Dev.modRx_sealEng (d : Dev) (r : Nat) (f : Rx → Rx) : (d.modRx r f).sealEng = d.sealEng := by simp only [Dev.modRx]
@[simp] theorem Dev.modRx_chk (d : Dev) (r : Nat) (f : Rx → Rx) : (d.modRx r f).chk = d.chk := by simp only [Dev.modRx]
@[simp] theorem Dev.modRx_rgm (d : Dev) (r : Nat) (f : Rx → Rx) : (d.modRx r f).rgm = d.rgm := by simp only [Dev.modRx]
@[simp] theorem Dev.modRx_mem (d : Dev) (r : Nat) (f : Rx → Rx) : (d.modRx r f).mem = d.mem := by simp only [Dev.modRx]
@[simp] theorem Dev.modRx_gaf (d : Dev) (r : Nat) (f : Rx → Rx) : (d.modRx r f).gaf = d.gaf := by simp only [Dev.modRx]
@[simp] theorem Dev.modRx_mgr (d : Dev) (r : Nat) (f : Rx → Rx) : (d.modRx r f).mgr = d.mgr := by simp only [Dev.modRx]
@[simp] theorem Dev.modRx_ts (d : Dev) (r : Nat) (f : Rx → Rx) : (d.modRx r f).ts = d.ts := by simp only [Dev.modRx]
@[simp] theorem Dev.modRx_dly (d : Dev) (r : Nat) (f : Rx → Rx) : (d.modRx r f).dly = d.dly := by simp only [Dev.modRx]
@[simp] theorem Dev.modRx_tst (d : Dev) (r : Nat) (f : Rx → Rx) : (d.modRx r f).tst = d.tst := by simp only [Dev.modRx]

/-! `Dev.modPlay`. -/

@[simp] theorem Dev.modPlay_glb (d : Dev) (r : Nat) (f : Play → Play) : (d.modPlay r f).glb = d.glb := by simp only [Dev.modPlay]
@[simp] theorem Dev.modPlay_fns (d : Dev) (r : Nat) (f : Play → Play) : (d.modPlay r f).fns = d.fns := by simp only [Dev.modPlay]
@[simp] theorem Dev.modPlay_host (d : Dev) (r : Nat) (f : Play → Play) : (d.modPlay r f).host = d.host := by simp only [Dev.modPlay]
@[simp] theorem Dev.modPlay_regs (d : Dev) (r : Nat) (f : Play → Play) : (d.modPlay r f).regs = d.regs := by simp only [Dev.modPlay]
@[simp] theorem Dev.modPlay_props (d : Dev) (r : Nat) (f : Play → Play) : (d.modPlay r f).props = d.props := by simp only [Dev.modPlay]
@[simp] theorem Dev.modPlay_force (d : Dev) (r : Nat) (f : Play → Play) : (d.modPlay r f).force = d.force := by simp only [Dev.modPlay]
@[simp] theorem Dev.modPlay_propStaged (d : Dev) (r : Nat) (f : Play → Play) : (d.modPlay r f).propStaged = d.propStaged := by simp only [Dev.modPlay]
@[simp] theorem Dev.modPlay_arrivals (d : Dev) (r : Nat) (f : Play → Play) : (d.modPlay r f).arrivals = d.arrivals := by simp only [Dev.modPlay]
@[simp] theorem Dev.modPlay_claims (d : Dev) (r : Nat) (f : Play → Play) : (d.modPlay r f).claims = d.claims := by simp only [Dev.modPlay]
@[simp] theorem Dev.modPlay_counts (d : Dev) (r : Nat) (f : Play → Play) : (d.modPlay r f).counts = d.counts := by simp only [Dev.modPlay]
@[simp] theorem Dev.modPlay_freeN (d : Dev) (r : Nat) (f : Play → Play) : (d.modPlay r f).freeN = d.freeN := by simp only [Dev.modPlay]
@[simp] theorem Dev.modPlay_mac (d : Dev) (r : Nat) (f : Play → Play) : (d.modPlay r f).mac = d.mac := by simp only [Dev.modPlay]
@[simp] theorem Dev.modPlay_mdm (d : Dev) (r : Nat) (f : Play → Play) : (d.modPlay r f).mdm = d.mdm := by simp only [Dev.modPlay]
@[simp] theorem Dev.modPlay_dec (d : Dev) (r : Nat) (f : Play → Play) : (d.modPlay r f).dec = d.dec := by simp only [Dev.modPlay]
@[simp] theorem Dev.modPlay_fe (d : Dev) (r : Nat) (f : Play → Play) : (d.modPlay r f).fe = d.fe := by simp only [Dev.modPlay]
@[simp] theorem Dev.modPlay_bt (d : Dev) (r : Nat) (f : Play → Play) : (d.modPlay r f).bt = d.bt := by simp only [Dev.modPlay]
@[simp] theorem Dev.modPlay_emac (d : Dev) (r : Nat) (f : Play → Play) : (d.modPlay r f).emac = d.emac := by simp only [Dev.modPlay]
@[simp] theorem Dev.modPlay_rte (d : Dev) (r : Nat) (f : Play → Play) : (d.modPlay r f).rte = d.rte := by simp only [Dev.modPlay]
@[simp] theorem Dev.modPlay_tm (d : Dev) (r : Nat) (f : Play → Play) : (d.modPlay r f).tm = d.tm := by simp only [Dev.modPlay]
@[simp] theorem Dev.modPlay_wcx (d : Dev) (r : Nat) (f : Play → Play) : (d.modPlay r f).wcx = d.wcx := by simp only [Dev.modPlay]
@[simp] theorem Dev.modPlay_sealEng (d : Dev) (r : Nat) (f : Play → Play) : (d.modPlay r f).sealEng = d.sealEng := by simp only [Dev.modPlay]
@[simp] theorem Dev.modPlay_chk (d : Dev) (r : Nat) (f : Play → Play) : (d.modPlay r f).chk = d.chk := by simp only [Dev.modPlay]
@[simp] theorem Dev.modPlay_rgm (d : Dev) (r : Nat) (f : Play → Play) : (d.modPlay r f).rgm = d.rgm := by simp only [Dev.modPlay]
@[simp] theorem Dev.modPlay_mem (d : Dev) (r : Nat) (f : Play → Play) : (d.modPlay r f).mem = d.mem := by simp only [Dev.modPlay]
@[simp] theorem Dev.modPlay_gaf (d : Dev) (r : Nat) (f : Play → Play) : (d.modPlay r f).gaf = d.gaf := by simp only [Dev.modPlay]
@[simp] theorem Dev.modPlay_mgr (d : Dev) (r : Nat) (f : Play → Play) : (d.modPlay r f).mgr = d.mgr := by simp only [Dev.modPlay]
@[simp] theorem Dev.modPlay_ts (d : Dev) (r : Nat) (f : Play → Play) : (d.modPlay r f).ts = d.ts := by simp only [Dev.modPlay]
@[simp] theorem Dev.modPlay_dly (d : Dev) (r : Nat) (f : Play → Play) : (d.modPlay r f).dly = d.dly := by simp only [Dev.modPlay]
@[simp] theorem Dev.modPlay_tst (d : Dev) (r : Nat) (f : Play → Play) : (d.modPlay r f).tst = d.tst := by simp only [Dev.modPlay]

/-! `Dev.modBt`. -/

@[simp] theorem Dev.modBt_glb (d : Dev) (f : Bt → Bt) : (d.modBt f).glb = d.glb := by simp only [Dev.modBt]
@[simp] theorem Dev.modBt_fns (d : Dev) (f : Bt → Bt) : (d.modBt f).fns = d.fns := by simp only [Dev.modBt]
@[simp] theorem Dev.modBt_host (d : Dev) (f : Bt → Bt) : (d.modBt f).host = d.host := by simp only [Dev.modBt]
@[simp] theorem Dev.modBt_regs (d : Dev) (f : Bt → Bt) : (d.modBt f).regs = d.regs := by simp only [Dev.modBt]
@[simp] theorem Dev.modBt_props (d : Dev) (f : Bt → Bt) : (d.modBt f).props = d.props := by simp only [Dev.modBt]
@[simp] theorem Dev.modBt_force (d : Dev) (f : Bt → Bt) : (d.modBt f).force = d.force := by simp only [Dev.modBt]
@[simp] theorem Dev.modBt_propStaged (d : Dev) (f : Bt → Bt) : (d.modBt f).propStaged = d.propStaged := by simp only [Dev.modBt]
@[simp] theorem Dev.modBt_arrivals (d : Dev) (f : Bt → Bt) : (d.modBt f).arrivals = d.arrivals := by simp only [Dev.modBt]
@[simp] theorem Dev.modBt_claims (d : Dev) (f : Bt → Bt) : (d.modBt f).claims = d.claims := by simp only [Dev.modBt]
@[simp] theorem Dev.modBt_counts (d : Dev) (f : Bt → Bt) : (d.modBt f).counts = d.counts := by simp only [Dev.modBt]
@[simp] theorem Dev.modBt_freeN (d : Dev) (f : Bt → Bt) : (d.modBt f).freeN = d.freeN := by simp only [Dev.modBt]
@[simp] theorem Dev.modBt_pln (d : Dev) (f : Bt → Bt) : (d.modBt f).pln = d.pln := by simp only [Dev.modBt]
@[simp] theorem Dev.modBt_mac (d : Dev) (f : Bt → Bt) : (d.modBt f).mac = d.mac := by simp only [Dev.modBt]
@[simp] theorem Dev.modBt_mdm (d : Dev) (f : Bt → Bt) : (d.modBt f).mdm = d.mdm := by simp only [Dev.modBt]
@[simp] theorem Dev.modBt_dec (d : Dev) (f : Bt → Bt) : (d.modBt f).dec = d.dec := by simp only [Dev.modBt]
@[simp] theorem Dev.modBt_fe (d : Dev) (f : Bt → Bt) : (d.modBt f).fe = d.fe := by simp only [Dev.modBt]
@[simp] theorem Dev.modBt_emac (d : Dev) (f : Bt → Bt) : (d.modBt f).emac = d.emac := by simp only [Dev.modBt]
@[simp] theorem Dev.modBt_rte (d : Dev) (f : Bt → Bt) : (d.modBt f).rte = d.rte := by simp only [Dev.modBt]
@[simp] theorem Dev.modBt_tm (d : Dev) (f : Bt → Bt) : (d.modBt f).tm = d.tm := by simp only [Dev.modBt]
@[simp] theorem Dev.modBt_wcx (d : Dev) (f : Bt → Bt) : (d.modBt f).wcx = d.wcx := by simp only [Dev.modBt]
@[simp] theorem Dev.modBt_sealEng (d : Dev) (f : Bt → Bt) : (d.modBt f).sealEng = d.sealEng := by simp only [Dev.modBt]
@[simp] theorem Dev.modBt_chk (d : Dev) (f : Bt → Bt) : (d.modBt f).chk = d.chk := by simp only [Dev.modBt]
@[simp] theorem Dev.modBt_rgm (d : Dev) (f : Bt → Bt) : (d.modBt f).rgm = d.rgm := by simp only [Dev.modBt]
@[simp] theorem Dev.modBt_mem (d : Dev) (f : Bt → Bt) : (d.modBt f).mem = d.mem := by simp only [Dev.modBt]
@[simp] theorem Dev.modBt_gaf (d : Dev) (f : Bt → Bt) : (d.modBt f).gaf = d.gaf := by simp only [Dev.modBt]
@[simp] theorem Dev.modBt_mgr (d : Dev) (f : Bt → Bt) : (d.modBt f).mgr = d.mgr := by simp only [Dev.modBt]
@[simp] theorem Dev.modBt_ts (d : Dev) (f : Bt → Bt) : (d.modBt f).ts = d.ts := by simp only [Dev.modBt]
@[simp] theorem Dev.modBt_dly (d : Dev) (f : Bt → Bt) : (d.modBt f).dly = d.dly := by simp only [Dev.modBt]
@[simp] theorem Dev.modBt_tst (d : Dev) (f : Bt → Bt) : (d.modBt f).tst = d.tst := by simp only [Dev.modBt]

/-! `Dev.modCtx`. -/

@[simp] theorem Dev.modCtx_glb (d : Dev) (k : Nat) (f : Ctx → Ctx) : (d.modCtx k f).glb = d.glb := by simp only [Dev.modCtx]
@[simp] theorem Dev.modCtx_fns (d : Dev) (k : Nat) (f : Ctx → Ctx) : (d.modCtx k f).fns = d.fns := by simp only [Dev.modCtx]
@[simp] theorem Dev.modCtx_host (d : Dev) (k : Nat) (f : Ctx → Ctx) : (d.modCtx k f).host = d.host := by simp only [Dev.modCtx]
@[simp] theorem Dev.modCtx_regs (d : Dev) (k : Nat) (f : Ctx → Ctx) : (d.modCtx k f).regs = d.regs := by simp only [Dev.modCtx]
@[simp] theorem Dev.modCtx_props (d : Dev) (k : Nat) (f : Ctx → Ctx) : (d.modCtx k f).props = d.props := by simp only [Dev.modCtx]
@[simp] theorem Dev.modCtx_force (d : Dev) (k : Nat) (f : Ctx → Ctx) : (d.modCtx k f).force = d.force := by simp only [Dev.modCtx]
@[simp] theorem Dev.modCtx_propStaged (d : Dev) (k : Nat) (f : Ctx → Ctx) : (d.modCtx k f).propStaged = d.propStaged := by simp only [Dev.modCtx]
@[simp] theorem Dev.modCtx_arrivals (d : Dev) (k : Nat) (f : Ctx → Ctx) : (d.modCtx k f).arrivals = d.arrivals := by simp only [Dev.modCtx]
@[simp] theorem Dev.modCtx_claims (d : Dev) (k : Nat) (f : Ctx → Ctx) : (d.modCtx k f).claims = d.claims := by simp only [Dev.modCtx]
@[simp] theorem Dev.modCtx_counts (d : Dev) (k : Nat) (f : Ctx → Ctx) : (d.modCtx k f).counts = d.counts := by simp only [Dev.modCtx]
@[simp] theorem Dev.modCtx_freeN (d : Dev) (k : Nat) (f : Ctx → Ctx) : (d.modCtx k f).freeN = d.freeN := by simp only [Dev.modCtx]
@[simp] theorem Dev.modCtx_pln (d : Dev) (k : Nat) (f : Ctx → Ctx) : (d.modCtx k f).pln = d.pln := by simp only [Dev.modCtx]
@[simp] theorem Dev.modCtx_mac (d : Dev) (k : Nat) (f : Ctx → Ctx) : (d.modCtx k f).mac = d.mac := by simp only [Dev.modCtx]
@[simp] theorem Dev.modCtx_mdm (d : Dev) (k : Nat) (f : Ctx → Ctx) : (d.modCtx k f).mdm = d.mdm := by simp only [Dev.modCtx]
@[simp] theorem Dev.modCtx_dec (d : Dev) (k : Nat) (f : Ctx → Ctx) : (d.modCtx k f).dec = d.dec := by simp only [Dev.modCtx]
@[simp] theorem Dev.modCtx_fe (d : Dev) (k : Nat) (f : Ctx → Ctx) : (d.modCtx k f).fe = d.fe := by simp only [Dev.modCtx]
@[simp] theorem Dev.modCtx_bt (d : Dev) (k : Nat) (f : Ctx → Ctx) : (d.modCtx k f).bt = d.bt := by simp only [Dev.modCtx]
@[simp] theorem Dev.modCtx_emac (d : Dev) (k : Nat) (f : Ctx → Ctx) : (d.modCtx k f).emac = d.emac := by simp only [Dev.modCtx]
@[simp] theorem Dev.modCtx_rte (d : Dev) (k : Nat) (f : Ctx → Ctx) : (d.modCtx k f).rte = d.rte := by simp only [Dev.modCtx]
@[simp] theorem Dev.modCtx_tm (d : Dev) (k : Nat) (f : Ctx → Ctx) : (d.modCtx k f).tm = d.tm := by simp only [Dev.modCtx]
@[simp] theorem Dev.modCtx_wcx (d : Dev) (k : Nat) (f : Ctx → Ctx) : (d.modCtx k f).wcx = d.wcx := by simp only [Dev.modCtx]
@[simp] theorem Dev.modCtx_sealEng (d : Dev) (k : Nat) (f : Ctx → Ctx) : (d.modCtx k f).sealEng = d.sealEng := by simp only [Dev.modCtx]
@[simp] theorem Dev.modCtx_chk (d : Dev) (k : Nat) (f : Ctx → Ctx) : (d.modCtx k f).chk = d.chk := by simp only [Dev.modCtx]
@[simp] theorem Dev.modCtx_mem (d : Dev) (k : Nat) (f : Ctx → Ctx) : (d.modCtx k f).mem = d.mem := by simp only [Dev.modCtx]
@[simp] theorem Dev.modCtx_gaf (d : Dev) (k : Nat) (f : Ctx → Ctx) : (d.modCtx k f).gaf = d.gaf := by simp only [Dev.modCtx]
@[simp] theorem Dev.modCtx_mgr (d : Dev) (k : Nat) (f : Ctx → Ctx) : (d.modCtx k f).mgr = d.mgr := by simp only [Dev.modCtx]
@[simp] theorem Dev.modCtx_ts (d : Dev) (k : Nat) (f : Ctx → Ctx) : (d.modCtx k f).ts = d.ts := by simp only [Dev.modCtx]
@[simp] theorem Dev.modCtx_dly (d : Dev) (k : Nat) (f : Ctx → Ctx) : (d.modCtx k f).dly = d.dly := by simp only [Dev.modCtx]
@[simp] theorem Dev.modCtx_tst (d : Dev) (k : Nat) (f : Ctx → Ctx) : (d.modCtx k f).tst = d.tst := by simp only [Dev.modCtx]

/-! `Dev.modList`. -/

@[simp] theorem Dev.modList_glb (d : Dev) (k : Nat) (f : List Nat → List Nat) : (d.modList k f).glb = d.glb := by simp only [Dev.modList]
@[simp] theorem Dev.modList_fns (d : Dev) (k : Nat) (f : List Nat → List Nat) : (d.modList k f).fns = d.fns := by simp only [Dev.modList]
@[simp] theorem Dev.modList_host (d : Dev) (k : Nat) (f : List Nat → List Nat) : (d.modList k f).host = d.host := by simp only [Dev.modList]
@[simp] theorem Dev.modList_regs (d : Dev) (k : Nat) (f : List Nat → List Nat) : (d.modList k f).regs = d.regs := by simp only [Dev.modList]
@[simp] theorem Dev.modList_props (d : Dev) (k : Nat) (f : List Nat → List Nat) : (d.modList k f).props = d.props := by simp only [Dev.modList]
@[simp] theorem Dev.modList_force (d : Dev) (k : Nat) (f : List Nat → List Nat) : (d.modList k f).force = d.force := by simp only [Dev.modList]
@[simp] theorem Dev.modList_propStaged (d : Dev) (k : Nat) (f : List Nat → List Nat) : (d.modList k f).propStaged = d.propStaged := by simp only [Dev.modList]
@[simp] theorem Dev.modList_arrivals (d : Dev) (k : Nat) (f : List Nat → List Nat) : (d.modList k f).arrivals = d.arrivals := by simp only [Dev.modList]
@[simp] theorem Dev.modList_claims (d : Dev) (k : Nat) (f : List Nat → List Nat) : (d.modList k f).claims = d.claims := by simp only [Dev.modList]
@[simp] theorem Dev.modList_counts (d : Dev) (k : Nat) (f : List Nat → List Nat) : (d.modList k f).counts = d.counts := by simp only [Dev.modList]
@[simp] theorem Dev.modList_freeN (d : Dev) (k : Nat) (f : List Nat → List Nat) : (d.modList k f).freeN = d.freeN := by simp only [Dev.modList]
@[simp] theorem Dev.modList_pln (d : Dev) (k : Nat) (f : List Nat → List Nat) : (d.modList k f).pln = d.pln := by simp only [Dev.modList]
@[simp] theorem Dev.modList_mac (d : Dev) (k : Nat) (f : List Nat → List Nat) : (d.modList k f).mac = d.mac := by simp only [Dev.modList]
@[simp] theorem Dev.modList_mdm (d : Dev) (k : Nat) (f : List Nat → List Nat) : (d.modList k f).mdm = d.mdm := by simp only [Dev.modList]
@[simp] theorem Dev.modList_dec (d : Dev) (k : Nat) (f : List Nat → List Nat) : (d.modList k f).dec = d.dec := by simp only [Dev.modList]
@[simp] theorem Dev.modList_fe (d : Dev) (k : Nat) (f : List Nat → List Nat) : (d.modList k f).fe = d.fe := by simp only [Dev.modList]
@[simp] theorem Dev.modList_bt (d : Dev) (k : Nat) (f : List Nat → List Nat) : (d.modList k f).bt = d.bt := by simp only [Dev.modList]
@[simp] theorem Dev.modList_emac (d : Dev) (k : Nat) (f : List Nat → List Nat) : (d.modList k f).emac = d.emac := by simp only [Dev.modList]
@[simp] theorem Dev.modList_rte (d : Dev) (k : Nat) (f : List Nat → List Nat) : (d.modList k f).rte = d.rte := by simp only [Dev.modList]
@[simp] theorem Dev.modList_tm (d : Dev) (k : Nat) (f : List Nat → List Nat) : (d.modList k f).tm = d.tm := by simp only [Dev.modList]
@[simp] theorem Dev.modList_wcx (d : Dev) (k : Nat) (f : List Nat → List Nat) : (d.modList k f).wcx = d.wcx := by simp only [Dev.modList]
@[simp] theorem Dev.modList_sealEng (d : Dev) (k : Nat) (f : List Nat → List Nat) : (d.modList k f).sealEng = d.sealEng := by simp only [Dev.modList]
@[simp] theorem Dev.modList_chk (d : Dev) (k : Nat) (f : List Nat → List Nat) : (d.modList k f).chk = d.chk := by simp only [Dev.modList]
@[simp] theorem Dev.modList_mem (d : Dev) (k : Nat) (f : List Nat → List Nat) : (d.modList k f).mem = d.mem := by simp only [Dev.modList]
@[simp] theorem Dev.modList_gaf (d : Dev) (k : Nat) (f : List Nat → List Nat) : (d.modList k f).gaf = d.gaf := by simp only [Dev.modList]
@[simp] theorem Dev.modList_mgr (d : Dev) (k : Nat) (f : List Nat → List Nat) : (d.modList k f).mgr = d.mgr := by simp only [Dev.modList]
@[simp] theorem Dev.modList_ts (d : Dev) (k : Nat) (f : List Nat → List Nat) : (d.modList k f).ts = d.ts := by simp only [Dev.modList]
@[simp] theorem Dev.modList_dly (d : Dev) (k : Nat) (f : List Nat → List Nat) : (d.modList k f).dly = d.dly := by simp only [Dev.modList]
@[simp] theorem Dev.modList_tst (d : Dev) (k : Nat) (f : List Nat → List Nat) : (d.modList k f).tst = d.tst := by simp only [Dev.modList]

/-- Two devices that agree in every field are one. -/
theorem Dev.eq_of_fields (a b : Dev) (h0 : a.glb = b.glb) (h1 : a.fns = b.fns) (h2 : a.host = b.host) (h3 : a.regs = b.regs) (h4 : a.props = b.props) (h5 : a.force = b.force) (h6 : a.propStaged = b.propStaged) (h7 : a.arrivals = b.arrivals) (h8 : a.claims = b.claims) (h9 : a.counts = b.counts) (h10 : a.freeN = b.freeN) (h11 : a.pln = b.pln) (h12 : a.mac = b.mac) (h13 : a.mdm = b.mdm) (h14 : a.dec = b.dec) (h15 : a.fe = b.fe) (h16 : a.bt = b.bt) (h17 : a.emac = b.emac) (h18 : a.rte = b.rte) (h19 : a.tm = b.tm) (h20 : a.wcx = b.wcx) (h21 : a.sealEng = b.sealEng) (h22 : a.chk = b.chk) (h23 : a.rgm = b.rgm) (h24 : a.mem = b.mem) (h25 : a.gaf = b.gaf) (h26 : a.mgr = b.mgr) (h27 : a.ts = b.ts) (h28 : a.dly = b.dly) (h29 : a.tst = b.tst) : a = b := by
  cases a; cases b; simp_all

/-! Readings after a change. -/

@[simp] theorem Dev.fn_modFn (d : Dev) (f j : Nat) (g : FnSlot → FnSlot) : (d.modFn f g).fn j = if j = f then g (d.fn f) else d.fn j := by
  simp [Dev.fn, Dev.modFn]
@[simp] theorem Dev.reg_putReg (d : Dev) (a j : Nat) (v : Reg) : (d.putReg a v).reg j = if j = a then v else d.reg j := by
  simp [Dev.reg, Dev.putReg]
@[simp] theorem Dev.core_modCore (d : Dev) (c j : Nat) (f : Core → Core) : (d.modCore c f).core j = if j = c then f (d.core c) else d.core j := by
  simp [Dev.core, Dev.modCore]
@[simp] theorem Dev.ring_modRing (d : Dev) (g j : Nat) (f : Ring → Ring) : (d.modRing g f).ring j = if j = g then f (d.ring g) else d.ring j := by
  simp [Dev.ring, Dev.modRing]
@[simp] theorem Dev.port_modPort (d : Dev) (p j : Nat) (f : Port → Port) : (d.modPort p f).port j = if j = p then f (d.port p) else d.port j := by
  simp [Dev.port, Dev.modPort]
@[simp] theorem Dev.radio_modRadio (d : Dev) (r j : Nat) (f : Radio → Radio) : (d.modRadio r f).radio j = if j = r then f (d.radio r) else d.radio j := by
  simp [Dev.radio, Dev.modRadio]
@[simp] theorem Dev.chain_modChain (d : Dev) (c j : Nat) (f : Chain → Chain) : (d.modChain c f).chain j = if j = c then f (d.chain c) else d.chain j := by
  simp [Dev.chain, Dev.modChain]
@[simp] theorem Dev.bssAt_modBss (d : Dev) (b j : Nat) (f : Bss → Bss) : (d.modBss b f).bssAt j = if j = b then f (d.bssAt b) else d.bssAt j := by
  simp [Dev.bssAt, Dev.modBss]
@[simp] theorem Dev.sta_modSta (d : Dev) (b j : Nat) (f : Sta → Sta) : (d.modSta b f).sta j = if j = b then f (d.sta b) else d.sta j := by
  simp [Dev.sta, Dev.modSta]
@[simp] theorem Dev.sta_modBss (d : Dev) (b j : Nat) (f : Bss → Bss) : (d.modBss b f).sta j = d.sta j := rfl
@[simp] theorem Dev.bssAt_modSta (d : Dev) (b j : Nat) (f : Sta → Sta) : (d.modSta b f).bssAt j = d.bssAt j := rfl
@[simp] theorem Dev.play_modPlay (d : Dev) (r j : Nat) (f : Play → Play) : (d.modPlay r f).play j = if j = r then f (d.play r) else d.play j := by
  simp [Dev.play, Dev.modPlay]
@[simp] theorem Dev.counter_bump (d : Dev) (b k n : Nat) (b' k' : Nat) (h : k < 32) (h' : k' < 32) :
    (d.bump b k n).counter b' k' = if b' = b ∧ k' = k then (d.counter b k + n) % 2 ^ 48 else d.counter b' k' := by
  have e : b' * 32 + k' = b * 32 + k ↔ b' = b ∧ k' = k := by omega
  by_cases hh : b' = b ∧ k' = k
  · obtain ⟨rfl, rfl⟩ := hh
    simp [Dev.counter, Dev.bump]
  · have : ¬ b' * 32 + k' = b * 32 + k := fun h => hh (e.mp h)
    simp [Dev.counter, Dev.bump, this, hh]

/-! A hart's registers (R344). -/

@[simp] theorem Dev.core_modHart (d : Dev) (c j : Nat) (f : Hart → Hart) :
    (d.modHart c f).core j = if j = c then { d.core c with hart := f (d.core c).hart } else d.core j := by
  simp [Dev.modHart]
@[simp] theorem Hart.setX_f (h : Hart) (n : Nat) (v : Word) : (h.setX n v).f = h.f := by unfold Hart.setX; split <;> rfl
@[simp] theorem Hart.setX_pc (h : Hart) (n : Nat) (v : Word) : (h.setX n v).pc = h.pc := by unfold Hart.setX; split <;> rfl
@[simp] theorem Hart.setX_user (h : Hart) (n : Nat) (v : Word) : (h.setX n v).user = h.user := by unfold Hart.setX; split <;> rfl
@[simp] theorem Hart.setX_csr (h : Hart) (n : Nat) (v : Word) : (h.setX n v).csr = h.csr := by unfold Hart.setX; split <;> rfl
@[simp] theorem Hart.setX_resv (h : Hart) (n : Nat) (v : Word) : (h.setX n v).resv = h.resv := by unfold Hart.setX; split <;> rfl
@[simp] theorem Hart.xOf_setX (h : Hart) (n j : Nat) (v : Word) (hn : n ≠ 0) (hl : n < 32) : (h.setX n v).xOf j = if j = n then v else h.xOf j := by
  by_cases hj : j = 0
  · subst hj; simp [Hart.xOf, Ne.symm hn]
  · simp [Hart.setX, Hart.xOf, hn, Nat.not_le.mpr hl, hj]
/-- x0 reads 0 whatever is written to it. -/
@[simp] theorem Hart.xOf_zero (h : Hart) : h.xOf 0 = 0 := rfl
@[simp] theorem Hart.csrOf_setCsr (h : Hart) (n j : Nat) (v : Word) : (h.setCsr n v).csrOf j = if j = n then v else h.csrOf j := by
  simp [Hart.setCsr, Hart.csrOf]
/-- A trap is taken in M-mode, at the address that mtvec names, and leaves the register files alone. -/
@[simp] theorem Hart.trap_user (h : Hart) (k v : Nat) : (h.trap k v).user = false := rfl
@[simp] theorem Hart.trap_pc (h : Hart) (k v : Nat) : (h.trap k v).pc = h.csrOf 0x305 &&& ~~~3 := rfl
@[simp] theorem Hart.trap_x (h : Hart) (k v : Nat) : (h.trap k v).x = h.x := rfl
@[simp] theorem Hart.trap_f (h : Hart) (k v : Nat) : (h.trap k v).f = h.f := rfl
/-- A trap saves the pc and says its cause. -/
theorem Hart.trap_saves (h : Hart) (k v : Nat) :
    (h.trap k v).csrOf 0x341 = h.pc ∧ (h.trap k v).csrOf 0x342 = BitVec.ofNat 64 k ∧ (h.trap k v).csrOf 0x343 = BitVec.ofNat 64 v := by
  simp [Hart.trap, Hart.csrOf, Hart.setCsr]

/-- An incident bit that is set reads 1, and every other bit and register is as before (R17). -/
theorem Dev.reg_setIncAt (d : Dev) (t a b k x : Nat) (j : Nat) :
    (d.setIncAt t a b k x).reg j = if j = a then d.reg a ||| BitVec.ofNat 32 (2 ^ k) else d.reg j := by
  have h : (d.setIncAt t a b k x).regs = (d.putReg a (d.reg a ||| BitVec.ofNat 32 (2 ^ k))).regs := by
    unfold Dev.setIncAt Dev.fireMsi; dsimp only; split
    · rfl
    · split <;> rfl
  have h2 := Dev.reg_putReg d a j (d.reg a ||| BitVec.ofNat 32 (2 ^ k))
  unfold Dev.reg at h2 ⊢
  rw [h]; exact h2

end Sys2Proof.Machine
end

