-- ==== Sys2Proof/Laws/Mailbox.lean ====
section
/-! SUPPORT. What the mailbox protocol does with a request that no check of R63 refuses. -/
namespace Sys2Proof.Machine

/-- The device once a request has become outstanding (R59). -/
def Dev.taken (d : Dev) (f : Nat) (req : List Word) : Dev :=
  (d.modFn f (fun s => { s with tags := s.tags ++ [reqTag req] })).bump (2 + f) 0

theorem Dev.refusal_none {d : Dev} {f : Nat} {req : List Word} {len : Nat} (sp : CmdSpec) (ha : Admitted d f req len)
    (hf : sp.f0Only = true → f = 0) (hl : sp.lenOk len = true) (hr : sp.reserved req = false) :
    d.refusal sp (.fn f) req ((d.fn f).tags.contains (reqTag req)) = none := by
  have h1 := ha.length; have h2 := ha.lenPos; have h3 := ha.lenMax
  have h4 : ¬ (512 < len) := by omega
  have h5 : len ≠ 0 := by omega
  have hf' : (sp.f0Only && !(Master.fn f).isF0) = false := by
    by_cases h : sp.f0Only = true
    · simp [h, hf h, Master.isF0]
    · simp [h]
  have hs := ha.seen; have hv := ha.service; have ho := ha.open'
  simp only [Dev.refusal, hs, hv, ho, hf', ha.fresh, h1, hl, ha.reserved, hr, h4, h5]
  simp

/-- An admitted request of a command that answers at once runs its handler on the device in which the request is outstanding, and its answer waits for the response area. -/
theorem Dev.mbxNow_admitted {d : Dev} {f : Nat} {req : List Word} {len : Nat} (t : Nat) (sp : CmdSpec) (h : Dev → Answer)
    (ha : Admitted d f req len) (hf : sp.f0Only = true → f = 0) (hl : sp.lenOk len = true) (hr : sp.reserved req = false) :
    d.mbxNow t sp (.fn f) req h =
      (if (h (d.taken f req)).1 = Status.busy then (h (d.taken f req)).2.2.bump (2 + f) 2 else (h (d.taken f req)).2.2).respond t
        ⟨.fn f, reqTag req, sp.op⟩ (h (d.taken f req)).1 (h (d.taken f req)).2.1 := by
  have h1 : ¬ ((d.fn f).st ≠ .ready) := by simp [ha.ready]
  have h2 : ¬ (32 ≤ (d.fn f).tags.length) := by have := ha.room; omega
  have h3 := Dev.refusal_none sp ha hf hl hr
  unfold Dev.mbxNow Dev.mbx
  simp only [h1, h2, decide_false, Bool.or_false, h3]
  rfl

/-- The same for a command whose handler posts its own response. -/
theorem Dev.mbx_admitted {d : Dev} {f : Nat} {req : List Word} {len : Nat} (t : Nat) (sp : CmdSpec) (h : Pend → Dev → Dev)
    (ha : Admitted d f req len) (hf : sp.f0Only = true → f = 0) (hl : sp.lenOk len = true) (hr : sp.reserved req = false) :
    d.mbx t sp (.fn f) req h = h ⟨.fn f, reqTag req, sp.op⟩ (d.taken f req) := by
  have h1 : ¬ ((d.fn f).st ≠ .ready) := by simp [ha.ready]
  have h2 : ¬ (32 ≤ (d.fn f).tags.length) := by have := ha.room; omega
  have h3 := Dev.refusal_none sp ha hf hl hr
  unfold Dev.mbx
  simp only [h1, h2, decide_false, Bool.or_false, h3]
  rfl

/-- A response to an outstanding request of a function waits behind the others of that function. -/
theorem Dev.respond_fn {d : Dev} {f tag op t : Nat} {st : Status} {body : List Word} (h : (d.fn f).tags.contains tag = true) :
    d.respond t ⟨.fn f, tag, op⟩ st body =
      d.modFn f (fun s => { s with waiting := s.waiting ++ [⟨respHeader tag (1 + body.length) st.code op :: body, decide (st ≠ .pending), beatNo t⟩] }) := by
  unfold Dev.respond
  simp only [h, if_true]

@[simp] theorem Dev.taken_glb (d : Dev) (f : Nat) (req : List Word) : (d.taken f req).glb = d.glb := by simp only [Dev.taken, Dev.bump_glb, Dev.modFn_glb]
@[simp] theorem Dev.taken_host (d : Dev) (f : Nat) (req : List Word) : (d.taken f req).host = d.host := by simp only [Dev.taken, Dev.bump_host, Dev.modFn_host]
@[simp] theorem Dev.taken_regs (d : Dev) (f : Nat) (req : List Word) : (d.taken f req).regs = d.regs := by simp only [Dev.taken, Dev.bump_regs, Dev.modFn_regs]
@[simp] theorem Dev.taken_props (d : Dev) (f : Nat) (req : List Word) : (d.taken f req).props = d.props := by simp only [Dev.taken, Dev.bump_props, Dev.modFn_props]
@[simp] theorem Dev.taken_force (d : Dev) (f : Nat) (req : List Word) : (d.taken f req).force = d.force := by simp only [Dev.taken, Dev.bump_force, Dev.modFn_force]
@[simp] theorem Dev.taken_propStaged (d : Dev) (f : Nat) (req : List Word) : (d.taken f req).propStaged = d.propStaged := by simp only [Dev.taken, Dev.bump_propStaged, Dev.modFn_propStaged]
@[simp] theorem Dev.taken_arrivals (d : Dev) (f : Nat) (req : List Word) : (d.taken f req).arrivals = d.arrivals := by simp only [Dev.taken, Dev.bump_arrivals, Dev.modFn_arrivals]
@[simp] theorem Dev.taken_claims (d : Dev) (f : Nat) (req : List Word) : (d.taken f req).claims = d.claims := by simp only [Dev.taken, Dev.bump_claims, Dev.modFn_claims]
@[simp] theorem Dev.taken_freeN (d : Dev) (f : Nat) (req : List Word) : (d.taken f req).freeN = d.freeN := by simp only [Dev.taken, Dev.bump_freeN, Dev.modFn_freeN]
@[simp] theorem Dev.taken_pln (d : Dev) (f : Nat) (req : List Word) : (d.taken f req).pln = d.pln := by simp only [Dev.taken, Dev.bump_pln, Dev.modFn_pln]
@[simp] theorem Dev.taken_mac (d : Dev) (f : Nat) (req : List Word) : (d.taken f req).mac = d.mac := by simp only [Dev.taken, Dev.bump_mac, Dev.modFn_mac]
@[simp] theorem Dev.taken_mdm (d : Dev) (f : Nat) (req : List Word) : (d.taken f req).mdm = d.mdm := by simp only [Dev.taken, Dev.bump_mdm, Dev.modFn_mdm]
@[simp] theorem Dev.taken_dec (d : Dev) (f : Nat) (req : List Word) : (d.taken f req).dec = d.dec := by simp only [Dev.taken, Dev.bump_dec, Dev.modFn_dec]
@[simp] theorem Dev.taken_fe (d : Dev) (f : Nat) (req : List Word) : (d.taken f req).fe = d.fe := by simp only [Dev.taken, Dev.bump_fe, Dev.modFn_fe]
@[simp] theorem Dev.taken_bt (d : Dev) (f : Nat) (req : List Word) : (d.taken f req).bt = d.bt := by simp only [Dev.taken, Dev.bump_bt, Dev.modFn_bt]
@[simp] theorem Dev.taken_emac (d : Dev) (f : Nat) (req : List Word) : (d.taken f req).emac = d.emac := by simp only [Dev.taken, Dev.bump_emac, Dev.modFn_emac]
@[simp] theorem Dev.taken_rte (d : Dev) (f : Nat) (req : List Word) : (d.taken f req).rte = d.rte := by simp only [Dev.taken, Dev.bump_rte, Dev.modFn_rte]
@[simp] theorem Dev.taken_tm (d : Dev) (f : Nat) (req : List Word) : (d.taken f req).tm = d.tm := by simp only [Dev.taken, Dev.bump_tm, Dev.modFn_tm]
@[simp] theorem Dev.taken_wcx (d : Dev) (f : Nat) (req : List Word) : (d.taken f req).wcx = d.wcx := by simp only [Dev.taken, Dev.bump_wcx, Dev.modFn_wcx]
@[simp] theorem Dev.taken_sealEng (d : Dev) (f : Nat) (req : List Word) : (d.taken f req).sealEng = d.sealEng := by simp only [Dev.taken, Dev.bump_sealEng, Dev.modFn_sealEng]
@[simp] theorem Dev.taken_chk (d : Dev) (f : Nat) (req : List Word) : (d.taken f req).chk = d.chk := by simp only [Dev.taken, Dev.bump_chk, Dev.modFn_chk]
@[simp] theorem Dev.taken_rgm (d : Dev) (f : Nat) (req : List Word) : (d.taken f req).rgm = d.rgm := by simp only [Dev.taken, Dev.bump_rgm, Dev.modFn_rgm]
@[simp] theorem Dev.taken_mem (d : Dev) (f : Nat) (req : List Word) : (d.taken f req).mem = d.mem := by simp only [Dev.taken, Dev.bump_mem, Dev.modFn_mem]
@[simp] theorem Dev.taken_gaf (d : Dev) (f : Nat) (req : List Word) : (d.taken f req).gaf = d.gaf := by simp only [Dev.taken, Dev.bump_gaf, Dev.modFn_gaf]
@[simp] theorem Dev.taken_mgr (d : Dev) (f : Nat) (req : List Word) : (d.taken f req).mgr = d.mgr := by simp only [Dev.taken, Dev.bump_mgr, Dev.modFn_mgr]
@[simp] theorem Dev.taken_ts (d : Dev) (f : Nat) (req : List Word) : (d.taken f req).ts = d.ts := by simp only [Dev.taken, Dev.bump_ts, Dev.modFn_ts]
@[simp] theorem Dev.taken_dly (d : Dev) (f : Nat) (req : List Word) : (d.taken f req).dly = d.dly := by simp only [Dev.taken, Dev.bump_dly, Dev.modFn_dly]
@[simp] theorem Dev.taken_tst (d : Dev) (f : Nat) (req : List Word) : (d.taken f req).tst = d.tst := by simp only [Dev.taken, Dev.bump_tst, Dev.modFn_tst]

/-- Only the tags of the function's slot change as its request becomes outstanding. -/
theorem Dev.taken_fn (d : Dev) (f : Nat) (req : List Word) (j : Nat) :
    (d.taken f req).fn j = if j = f then { d.fn f with tags := (d.fn f).tags ++ [reqTag req] } else d.fn j := by
  have h : (d.taken f req).fn j = (d.modFn f (fun s => { s with tags := s.tags ++ [reqTag req] })).fn j := by
    unfold Dev.fn Dev.taken; rw [Dev.bump_fns]
  rw [h, Dev.fn_modFn]

/-- A response given in a device that left the functions as they were when the request was taken answers the request. -/
theorem Dev.answered_of {d e : Dev} {t f op : Nat} {req : List Word} {st : Status} {body : List Word}
    (he : e.fns = (d.taken f req).fns) : Answered d (e.respond t ⟨.fn f, reqTag req, op⟩ st body) t f req op st body := by
  have hfn : ∀ j, e.fn j = (d.taken f req).fn j := by intro j; unfold Dev.fn; rw [he]
  have ht : (e.fn f).tags.contains (reqTag req) = true := by rw [hfn, Dev.taken_fn]; simp
  rw [Dev.respond_fn ht]
  constructor
  · intro j hj
    rw [Dev.fn_modFn, if_neg hj, hfn, Dev.taken_fn, if_neg hj]
  · rw [Dev.fn_modFn, if_pos rfl, hfn, Dev.taken_fn, if_pos rfl]

/-- A function's response changes its slot alone. -/
theorem Dev.respond_fn_frame (d : Dev) (t f tag op : Nat) (st : Status) (body : List Word) :
    d.respond t ⟨.fn f, tag, op⟩ st body = { d with fns := (d.respond t ⟨.fn f, tag, op⟩ st body).fns } := by
  unfold Dev.respond; dsimp only; split <;> rfl

/-- What an admitted request of a command that answers at once leaves, when its handler answers without BUSY and leaves the functions alone: the request is answered, and everything else is as the handler left it. -/
theorem Dev.mbxNow_gives {d e : Dev} {f : Nat} {req : List Word} {len t : Nat} {sp : CmdSpec} {h : Dev → Answer} {st : Status} {body : List Word}
    (ha : Admitted d f req len) (hf : sp.f0Only = true → f = 0) (hl : sp.lenOk len = true) (hr : sp.reserved req = false)
    (hh : h (d.taken f req) = (st, body, e)) (hst : st ≠ .busy) (he : e.fns = (d.taken f req).fns) :
    Answered d (d.mbxNow t sp (.fn f) req h) t f req sp.op st body ∧
      d.mbxNow t sp (.fn f) req h = { e with fns := (d.mbxNow t sp (.fn f) req h).fns } := by
  rw [Dev.mbxNow_admitted t sp h ha hf hl hr, hh]
  simp only [hst, if_false]
  exact ⟨Dev.answered_of he, Dev.respond_fn_frame _ _ _ _ _ _ _⟩

end Sys2Proof.Machine
end

