-- ==== Sys2Proof/Laws/Memory.lean ====
section
/-! SUPPORT. Memories: a read after a write, what a write leaves alone, and the canonical form, which every write of memory keeps; and a trap of a hart. -/
namespace Sys2Proof.Machine

/-- What stands at an address after octets have been put: one of them inside their range, what stood there before outside it. -/
theorem tlook_putOctets (l : List Byte) : ∀ (m : Table (Option Byte)) (a j : Nat),
    tlook (fun _ => none) (putOctets m a l) j = if a ≤ j ∧ j < a + l.length then l[j - a]? else tlook (fun _ => none) m j := by
  induction l with
  | nil => intro m a j; simp only [putOctets, List.length_nil]; split <;> first | omega | rfl
  | cons b rest ih =>
    intro m a j
    rw [putOctets, ih, tlook_tput, List.length_cons]
    by_cases h : j = a
    · subst h
      rw [if_neg (by omega), if_pos rfl, if_pos (by omega)]; simp
    · by_cases g : a + 1 ≤ j ∧ j < a + 1 + rest.length
      · obtain ⟨k, rfl⟩ : ∃ k, j = a + 1 + k := ⟨j - (a + 1), by omega⟩
        rw [if_pos g, if_pos (by omega), show a + 1 + k - (a + 1) = k by omega, show a + 1 + k - a = k + 1 by omega, List.getElem?_cons_succ]
      · rw [if_neg g, if_neg (by omega), if_neg (by omega)]

/-- A write leaves every octet outside its range as it reads. -/
theorem getOctet_putOctets_outside (m : Table (Option Byte)) (l : List Byte) (e a j : Nat) (h : j < a ∨ a + l.length ≤ j) :
    getOctet (putOctets m a l) e j = getOctet m e j := by
  unfold getOctet; rw [tlook_putOctets, if_neg (by omega)]

/-- A read of an octet that was put gives it. -/
theorem getOctet_putOctets (m : Table (Option Byte)) (l : List Byte) (e a k : Nat) (h : k < l.length) :
    getOctet (putOctets m a l) e (a + k) = l[k] := by
  unfold getOctet; rw [tlook_putOctets, if_pos (by omega)]; simp [h]

/-- Putting octets keeps the canonical form. -/
theorem twf_putOctets (l : List Byte) : ∀ (m : Table (Option Byte)) (a : Nat),
    twf (fun _ => none) m = true → twf (fun _ => none) (putOctets m a l) = true := by
  induction l with
  | nil => intro m a h; exact h
  | cons b rest ih => intro m a h; exact ih _ _ (twf_tput _ _ _ _ h)

/-- Writes of the backlot, of HBM and of the local memories keep the form. -/
theorem Memory.wf_blPut (d : Dev) (off : Nat) (l : List Byte) (h : Memory.wf d.mem = true) : Memory.wf (d.blPut off l).mem = true := by
  simp only [Memory.wf, Dev.blPut, Bool.and_eq_true] at h ⊢; exact ⟨⟨h.1.1, twf_putOctets _ _ _ h.1.2⟩, h.2⟩
theorem Memory.wf_hbmPut (d : Dev) (a : Nat) (l : List Byte) (h : Memory.wf d.mem = true) : Memory.wf (d.hbmPut a l).mem = true := by
  simp only [Memory.wf, Dev.hbmPut, Bool.and_eq_true] at h ⊢; exact ⟨⟨twf_putOctets _ _ _ h.1.1, h.1.2⟩, h.2⟩
theorem Memory.wf_own (x : Mem) (a : Nat) (l : List Byte) (h : Memory.wf x = true) : Memory.wf { x with own := putOctets x.own a l } = true := by
  simp only [Memory.wf, Bool.and_eq_true] at h ⊢; exact ⟨h.1, twf_putOctets _ _ _ h.2⟩
/-- The memories have the form after reset. -/
theorem Memory.wf_reset : Memory.wf State.reset.dev.mem = true := by decide

/-- A trap changes no CSR but mstatus, mepc, mcause and mtval. -/
theorem Hart.trap_csrs (h : Hart) (cause tval j : Nat) (a : j ≠ 0x300) (b : j ≠ 0x341) (c : j ≠ 0x342) (e : j ≠ 0x343) :
    (h.trap cause tval).csrOf j = h.csrOf j := by
  simp [Hart.trap, Hart.csrOf, Hart.setCsr, a, b, c, e]

end Sys2Proof.Machine
end

