-- ==== Sys2Proof/Laws/Shared.lean ====
section
/-! SUPPORT. What the shared operations do, once each: completing, incident bits, counters, refused reads, and devices that differ in a few fields. -/
namespace Sys2Proof.Machine

/-- A meaning that acts on the device completes with what it leaves. -/
theorem completes_act {c : Instr} {s : State} {d : Dev} (f : Nat → Dev → Dev) (h : exec c s = .next (s.act f)) (hd : f s.now s.dev = d) :
    Completes c s d := by
  unfold Completes; rw [h, ← hd]; rfl

/-- A mailbox command that answers at once completes when its request is admitted and its handler answers without BUSY and leaves the functions alone. -/
theorem completes_now {c : Instr} {s : State} {f len : Nat} {req : List Word} {g : Nat → Dev → Dev} {sp : CmdSpec} {h : Dev → Answer}
    {st : Status} {body : List Word} {e : Dev}
    (hx : exec c s = .next (s.act g)) (hg : g s.now s.dev = s.dev.mbxNow s.now sp (.fn f) req h)
    (ha : Admitted s.dev f req len) (hf : sp.f0Only = true → f = 0) (hl : sp.lenOk len = true) (hr : sp.reserved req = false)
    (hh : h (s.dev.taken f req) = (st, body, e)) (hst : st ≠ .busy) (he : e.fns = (s.dev.taken f req).fns) :
    ∃ d, Completes c s d ∧ Answered s.dev d s.now f req sp.op st body ∧ d = { e with fns := d.fns } := by
  have := Dev.mbxNow_gives (t := s.now) ha hf hl hr hh hst he
  exact ⟨_, completes_act g hx hg, this.1, this.2⟩

/-- Functions are read alike in devices whose slots agree; so are registers, counters and the rest. -/
theorem Dev.fn_congr {a b : Dev} (h : a.fns = b.fns) (j : Nat) : a.fn j = b.fn j := by unfold Dev.fn; rw [h]
theorem Dev.reg_congr {a b : Dev} (h : a.regs = b.regs) (j : Nat) : a.reg j = b.reg j := by unfold Dev.reg; rw [h]
theorem Dev.counter_congr {a b : Dev} (h : a.counts = b.counts) (i k : Nat) : a.counter i k = b.counter i k := by unfold Dev.counter; rw [h]
theorem Dev.pv_congr {a b : Dev} (h : a.force = b.force) (i t x : Nat) : a.pv i t x = b.pv i t x := by unfold Dev.pv Dev.inForce; rw [h]

@[simp] theorem Dev.reg_bump (d : Dev) (b k n j : Nat) : (d.bump b k n).reg j = d.reg j := Dev.reg_congr (by simp) j
@[simp] theorem Dev.fn_bump (d : Dev) (b k n j : Nat) : (d.bump b k n).fn j = d.fn j := Dev.fn_congr (by simp) j
@[simp] theorem Dev.fn_inc (d : Dev) (t b k x j : Nat) : (d.inc t b k x).fn j = d.fn j := Dev.fn_congr (by simp) j
@[simp] theorem Dev.fn_incMbx (d : Dev) (t b k j : Nat) : (d.incMbx t b k).fn j = d.fn j := Dev.fn_congr (by simp) j
@[simp] theorem Dev.reg_modFn (d : Dev) (f j : Nat) (g : FnSlot → FnSlot) : (d.modFn f g).reg j = d.reg j := Dev.reg_congr (by simp) j
@[simp] theorem Dev.counter_modFn (d : Dev) (f i j : Nat) (g : FnSlot → FnSlot) : (d.modFn f g).counter i j = d.counter i j := Dev.counter_congr (by simp) i j

/-- A set incident bit reads 1 (R17). -/
theorem Dev.incAt_bit (d : Dev) (t a b k x : Nat) (h : k < 32) : ((d.setIncAt t a b k x).reg a).getLsbD k = true := by
  rw [Dev.reg_setIncAt, if_pos rfl, BitVec.getLsbD_or, BitVec.getLsbD_ofNat, Nat.testBit_two_pow_self]
  simp [h]

theorem Dev.inc_bit (d : Dev) (t b k x : Nat) (h : k < 32) : ((d.inc t b k x).reg (incAddr b)).getLsbD k = true :=
  Dev.incAt_bit d t _ b k x h

/-- Setting an incident bit of a block leaves every register but the block's own incident register as it was. -/
theorem Dev.inc_reg (d : Dev) (t b k x j : Nat) (h : j ≠ incAddr b) : (d.inc t b k x).reg j = d.reg j := by
  unfold Dev.inc; rw [Dev.reg_setIncAt, if_neg h]

theorem Dev.incMbx_bit (d : Dev) (t f k : Nat) (h : k < 32) : ((d.incMbx t f k).reg (0x010200C + f * 0x10000)).getLsbD k = true :=
  Dev.incAt_bit d t _ 1 k 0 h

theorem Dev.incMbx_reg (d : Dev) (t f k j : Nat) (h : j ≠ 0x010200C + f * 0x10000) : (d.incMbx t f k).reg j = d.reg j := by
  unfold Dev.incMbx; rw [Dev.reg_setIncAt, if_neg h]

/-- The debug access port's own counts change its incident register, its own record and the dailies alone (R474). -/
theorem Dev.dapCounts_frame (d : Dev) (t : Nat) (a : Access) : d.dapCounts t a =
    { d with glb := (d.dapCounts t a).glb, regs := (d.dapCounts t a).regs, counts := (d.dapCounts t a).counts,
             mgr := (d.dapCounts t a).mgr, tst := (d.dapCounts t a).tst } := by
  unfold Dev.dapCounts
  split
  · rfl
  · split
    · dsimp only
      split <;> apply Dev.eq_of_fields <;> simp
    · apply Dev.eq_of_fields <;> simp

/-- Filters count in the dailies alone (R446). -/
theorem Dev.filtered_frame (d : Dev) (c s a n : Nat) (w : Bool) : d.filtered c s a n w = { d with counts := (d.filtered c s a n w).counts } := by
  unfold Dev.filtered
  generalize (List.range 16).filter _ = l
  induction l generalizing d with
  | nil => rfl
  | cons x l ih => simp only [List.foldl]; rw [ih]; apply Dev.eq_of_fields <;> simp

/-- A refused read changes what the master's last read returned, alone. -/
theorem Dev.allOnes_frame (d : Dev) (a : Access) : d.allOnes a = { d with glb := (d.allOnes a).glb } := by
  unfold Dev.allOnes; split <;> rfl

theorem Dev.allOnes_reads (d : Dev) (a : Access) : ReadsOnes a (d.allOnes a) := by
  intro h; unfold Dev.allOnes Dev.lastRead; simp [h]

end Sys2Proof.Machine
end

