-- ==== Sys2Proof/WellFormed.lean ====
section
/-! DEFINITION. Which commands are well formed: every operand names a thing the device has (R23 to R28, R49, R52, R55, R260, R302, R337, R348, R349, R400). A meaning does not ask for it: an ill-formed command is no error of the machine, only nothing that the outside can say. -/
namespace Sys2Proof

/-- One of the 16 functions. -/
def fnOk (f : Nat) : Bool := decide (f < 16)
/-- One of the three radios. -/
def radioOk (r : Nat) : Bool := decide (r < 3)
/-- One of the 48 chains. -/
def chainOk (c : Nat) : Bool := decide (c < 48)
/-- One of the 48 BSSs. -/
def bssOk (b : Nat) : Bool := decide (b < 48)
/-- One of the 4,096 station identifiers. -/
def sidOk (s : Nat) : Bool := decide (s < 4096)
/-- One of the 8 traffic identifiers. -/
def tidOk (n : Nat) : Bool := decide (n < 8)
/-- One of the four access categories. -/
def acOk (n : Nat) : Bool := decide (n < 4)
/-- One of the four Ethernet ports. -/
def portOk (p : Nat) : Bool := decide (p < 4)
/-- A pause class: priorities 0 to 7, and 8 for the whole port. -/
def classOk (k : Nat) : Bool := decide (k < 9)
/-- One of the 128 rings. -/
def ringOk (g : Nat) : Bool := decide (g < 128)
/-- One of the 24 crew cores. -/
def coreOk (c : Nat) : Bool := decide (c < 24)
/-- A crew core, or the management core. -/
def coreOptOk (c : Option Nat) : Bool := match c with | some n => coreOk n | none => true
/-- One of the 4,096 task contexts. -/
def taskOk (n : Nat) : Bool := decide (n < 4096)
/-- One of the 16,384 slow-path items or the 24 origination slots (R359). -/
def itemOk (n : Nat) : Bool := decide (n < 16408)
/-- One of the eight check-value units. -/
def unitOk (n : Nat) : Bool := decide (n < 8)
/-- A number of virtual functions. -/
def vfsOk (n : Nat) : Bool := decide (n < 16)
/-- One of the ten voters. -/
def voterOk (k : Nat) : Bool := decide (k < 10)
/-- One of the 24 temperature sensors. -/
def sensorOk (k : Nat) : Bool := decide (k < 24)
/-- One of the 16 voltage monitors. -/
def monitorOk (k : Nat) : Bool := decide (k < 16)
/-- One of the four current-sense inputs. -/
def inputOk (k : Nat) : Bool := decide (k < 4)
/-- A code of the 8-bit instruction register. -/
def codeOk (n : Nat) : Bool := decide (n < 256)
/-- A request has its header and at most the 512 words of the area. -/
def reqOk (q : List Word) : Bool := decide (1 ≤ q.length) && decide (q.length ≤ 512)

/-- A master that exists. -/
def Master.ok : Master → Bool
  | .fn f => fnOk f
  | .mgmt => true
  | .crew c => coreOk c
  | .dap => true
  | .device => true

/-- An access by an existing master. -/
def Access.ok (a : Access) : Bool := a.master.ok

/-- A frame that an existing port received. -/
def BtFrame.ok (x : BtFrame) : Bool := portOk x.port

/-- An intake that exists. -/
def Intake.ok : Intake → Bool
  | .port p => portOk p
  | .wireless => true
  | .ring => true
  | .crew => true

/-- An operation of one of the four classes. -/
def CipherOp.ok (op : CipherOp) : Bool := decide (1 ≤ op.cls) && decide (op.cls ≤ 4)

/-- A codeword of an existing radio and a code rate that exists. -/
def Codeword.ok (x : Codeword) : Bool := radioOk x.radio && sidOk x.sid && decide (x.rate < 4)

/-- A consumer that exists. -/
def Consumer.ok : Consumer → Bool
  | .core c _ => coreOk c
  | .flowBucket => true
  | .packetBuffer _ => true
  | .retakeSlot r s _ _ => radioOk r && sidOk s
  | .seal => true
  | .scrubber => true

/-- Readings of sensors, monitors and inputs that exist. -/
def Readings.ok (r : Readings) : Bool :=
  r.temps.all (fun x => sensorOk x.1) && r.millivolts.all (fun x => monitorOk x.1) && r.milliamps.all (fun x => inputOk x.1)

/-- Readings, where a command brings any. -/
def readingsOptOk (r : Option Readings) : Bool := match r with | some x => x.ok | none => true

/-- A well-formed command. -/
def Instr.wf (i : Instr) : Bool :=
  match i with
  | .badAccess a => a.ok
  | .registerWrite a => a.ok
  | .deniedAccess a => a.ok
  | .unmappedAccess a => a.ok
  | .domainOffAccess a => a.ok
  | .showTimeLoRead m => m.ok
  | .handoff _ => true
  | .powerOnReset => true
  | .supplyFailure monitor _ => monitorOk monitor
  | .warmReset _ => true
  | .boot _ => true
  | .perstN _ => true
  | .doorbell f => fnOk f
  | .responsePosted f => fnOk f
  | .respAck f => fnOk f
  | .badOpcode f req => fnOk f && reqOk req
  | .ifVersion f req => fnOk f && reqOk req
  | .ringAssign f req => fnOk f && reqOk req
  | .propGet f req => fnOk f && reqOk req
  | .propSet f req => fnOk f && reqOk req
  | .propDescribe f req => fnOk f && reqOk req
  | .functionLevelReset f => fnOk f
  | .vfDisable numVfs => vfsOk numVfs
  | .vfEnable numVfs => vfsOk numVfs
  | .shutdownEnd f => fnOk f
  | .enableComplete f => fnOk f
  | .draftOpen drafts => drafts.all (fun x => radioOk x.radio)
  | .budgetPublish r => readingsOptOk r
  | .budgetRevision r => r.ok
  | .cueSend => true
  | .finalPass starved => starved.all radioOk
  | .pictureLock => true
  | .takeContend r => radioOk r
  | .takeStart r _ => radioOk r
  | .takeCompletion r _ => radioOk r
  | .missedCue r => radioOk r
  | .overrunCut r _ => radioOk r
  | .unlocked r => radioOk r
  | .plnStatus f req => fnOk f && reqOk req
  | .plnForceDark f req => fnOk f && reqOk req
  | .plnSheetRead f req => fnOk f && reqOk req
  | .plnTakeLog f req => fnOk f && reqOk req
  | .bssStart f req _ => fnOk f && reqOk req
  | .bssStop f req => fnOk f && reqOk req
  | .staAdd f req => fnOk f && reqOk req
  | .staRemove f req => fnOk f && reqOk req
  | .staQuery f req => fnOk f && reqOk req
  | .sidRelease => true
  | .beacon b _ => bssOk b
  | .beaconSkipped b => bssOk b
  | .contentionTxop b ac _ => bssOk b && acOk ac
  | .mpduReceive r _ => radioOk r
  | .lifetime sid _ => decide (sid < 4096 + 48)
  | .reorderTimeout sid tid => sidOk sid && tidOk tid
  | .detection r _ => radioOk r
  | .lsigCheck r _ => radioOk r
  | .dsssSfdTimeout r _ => radioOk r
  | .capture r _ _ _ => radioOk r
  | .srAbort r _ _ => radioOk r
  | .receptionEnd r _ => radioOk r
  | .noiseReport means => means.all (fun x => radioOk x.radio)
  | .mdmNoiseRead f req => fnOk f && reqOk req
  | .mdmQualityRead f req => fnOk f && reqOk req
  | .codewordDecode cw => cw.ok
  | .decodeDeadline cw => cw.ok
  | .retakeExpired => true
  | .retakePeer f req => fnOk f && reqOk req
  | .feRadioCtrl f req => fnOk f && reqOk req
  | .starting r => radioOk r
  | .locked r => radioOk r
  | .startingFail r => radioOk r
  | .lossOfLock x => radioOk x.radio
  | .reacquisitionTimeout r => radioOk r
  | .radioStop r => radioOk r
  | .channelChange r => radioOk r
  | .fullCalibration r => radioOk r
  | .rollingCalibration chain => chainOk chain
  | .calibrationDone r _ results => radioOk r && results.all (fun x => chainOk x.chain)
  | .calibrationDue chain => chainOk chain
  | .feChainCtrl m chain _ => m.ok && chainOk chain
  | .grantEffect => true
  | .grantExpiry => true
  | .feChannelSet f req => fnOk f && reqOk req
  | .feCalibrate f req => fnOk f && reqOk req
  | .feStatus f req => fnOk f && reqOk req
  | .fe6gGrant f req => fnOk f && reqOk req
  | .ref40Lost => true
  | .btJoin f req => fnOk f && reqOk req
  | .btLeave f req => fnOk f && reqOk req
  | .btNeighbours f req => fnOk f && reqOk req
  | .btTimeAdjust f req => fnOk f && reqOk req
  | .btStatus f req => fnOk f && reqOk req
  | .neighbourSetEffect => true
  | .sync x => portOk x.port
  | .announce x => portOk x.port
  | .timeStep => true
  | .sourceLoss => true
  | .coordExit => true
  | .enterCoordinated => true
  | .clapperMessage => true
  | .clapperMessageRx x => x.ok
  | .clapIn _ => true
  | .clapMissing => true
  | .cueSegment x => x.ok
  | .leaveMessage x => x.ok
  | .portEnable m p _ => m.ok && portOk p
  | .portDisable m p _ => m.ok && portOk p
  | .linkUp p _ => portOk p
  | .linkDown x => match x with | .port p => portOk p | .ref156 => true
  | .ethernetReceive p _ x => portOk p && decide (x.at' < 1000)
  | .pauseFrame p _ => portOk p
  | .pauseRepeat p cls => portOk p && classOk cls
  | .pauseExpiry p cls => portOk p && classOk cls
  | .flowCtrlWrite m p _ => m.ok && portOk p
  | .safetyNetTrip p cls => portOk p && classOk cls
  | .deafEnd p cls => portOk p && classOk cls
  | .frameTransmit p => portOk p
  | .ethernetWake p _ => portOk p
  | .routerFrame src => src.ok
  | .intakeResume p => portOk p
  | .ager => true
  | .rteTableWrite f req => fnOk f && reqOk req
  | .rteTableRead f req => fnOk f && reqOk req
  | .descriptorFetch g _ _ _ => ringOk g
  | .completionWrite g => ringOk g
  | .ringEnable m g _ => m.ok && ringOk g
  | .ringDisable m g _ => m.ok && ringOk g
  | .drainEnd g => ringOk g
  | .dmaErr g _ => ringOk g
  | .ringProd m g _ => m.ok && ringOk g
  | .ringCqHead m g _ => m.ok && ringOk g
  | .coalTimer g => ringOk g
  | .refill => true
  | .queueSample => true
  | .tmPolicerWrite f req => fnOk f && reqOk req
  | .tmPolicerRead f req => fnOk f && reqOk req
  | .tmQueueSample f req => fnOk f && reqOk req
  | .cipherLatch op => op.ok
  | .cipherVerdict _ _ => true
  | .keyCommit => true
  | .wcxKeyWrite f req => fnOk f && reqOk req
  | .wcxKeyErase f req => fnOk f && reqOk req
  | .wcxKeyQuery f req => fnOk f && reqOk req
  | .wcxMacsecPort f req => fnOk f && reqOk req
  | .sealLockOp f req => fnOk f && reqOk req
  | .sealRun f req _ => fnOk f && reqOk req
  | .sealAcquire m => m.ok
  | .sealRelease m => m.ok
  | .sealStart m _ => m.ok
  | .sealDone _ => true
  | .sealHoldExpiry => true
  | .chkAcquire m n => m.ok && unitOk n
  | .chkRelease m n => m.ok && unitOk n
  | .chkStart m n _ => m.ok && unitOk n
  | .chkFinish m n _ => m.ok && unitOk n
  | .chkRestore m n _ => m.ok && unitOk n
  | .chkData m n _ => m.ok && unitOk n
  | .chkDataPart m n _ => m.ok && unitOk n
  | .ready src task => src.ok && (match task with | .task k => taskOk k | .badOp k => taskOk k)
  | .cancel src task => src.ok && taskOk task
  | .alloc src => src.ok
  | .free src task => src.ok && taskOk task
  | .done c => coreOk c
  | .yield c => coreOk c
  | .preempted c => coreOk c
  | .dispatch => true
  | .preemptSlow c => coreOk c
  | .slowPop m => m.ok
  | .reinject m item => m.ok && itemOk item
  | .reinjectCopy m item => m.ok && itemOk item
  | .originate m item => m.ok && itemOk item
  | .drop m item => m.ok && itemOk item
  | .crewCommand m c _ => m.ok && coreOk c
  | .userFault c _ => coreOk c
  | .droppedWrite m _ _ _ => m.ok
  | .uncorrectableError who _ => who.ok
  | .patrolScrub _ _ => true
  | .hbmFail => true
  | .levelRaise _ => true
  | .levelLower => true
  | .pllMove _ => true
  | .thermalTrip sensor _ => sensorOk sensor
  | .supplyCurrentLimit input _ => inputOk input
  | .hostPowerCapBreach => true
  | .thermalHoldEnd => true
  | .criticalTemperature sensor => sensorOk sensor
  | .gafStateSet f req => fnOk f && reqOk req
  | .vote k => voterOk k
  | .voteTimeout => true
  | .stateReached => true
  | .wakeInN => true
  | .tickAlarm => true
  | .showReached => true
  | .gafStatus f req => fnOk f && reqOk req
  | .heartbeat => true
  | .gulmetStall => true
  | .boothWatchdog => true
  | .trialTimeout => true
  | .settingsFlush => true
  | .pfailN _ => true
  | .logEntry => true
  | .logOverflow => true
  | .mgrReset f req => fnOk f && reqOk req
  | .mgrSensorRead f req => fnOk f && reqOk req
  | .mgrLogRead f req => fnOk f && reqOk req
  | .mgrImageBegin f req => fnOk f && reqOk req
  | .mgrImageWrite f req => fnOk f && reqOk req
  | .mgrImageCommit f req => fnOk f && reqOk req
  | .mgrImageConfirm f req => fnOk f && reqOk req
  | .tapEntry _ _ _ _ => true
  | .recordClose _ => true
  | .vddTsWarning _ => true
  | .vddTsLoss => true
  | .vddTsReturn => true
  | .tsSeal _ => true
  | .ident _ _ => true
  | .readRecord _ _ => true
  | .readConfig _ _ => true
  | .writeConfig _ _ => true
  | .portFrameDiscard _ _ => true
  | .recordMirror _ => true
  | .tsTimeReport _ => true
  | .tsStatusRead f req => fnOk f && reqOk req
  | .tsRecordRead f req => fnOk f && reqOk req
  | .snapshot _ => true
  | .peekRead m => m.ok
  | .dlySnapRead f req => fnOk f && reqOk req
  | .dlyRate f req => fnOk f && reqOk req
  | .samplePreload _ => true
  | .extestTrain => true
  | .clamp => true
  | .highz => true
  | .dapAccess => true
  | .lcStatus => true
  | .bypass code => codeOk code
  | .unlock => true
  | .unlockVerify _ _ => true
  | .coreHalt core => coreOptOk core
  | .coreResume core => coreOptOk core
  | .norOperationDone _ _ => true
  | .pcieReferenceLoss _ => true
  | .shutdownCompletionDiscard g => ringOk g
  | .tapReset => true
  | .idcode => true
  | .extest => true
  | .extestPulse => true

end Sys2Proof
end

