-- ==== Sys2Proof/Tests/Slice0.lean ====
section
/-! SUPPORT. The model's own tests: an ill-formed command for each check of WellFormed, small tests of single operations and steps against values the spec gives, and for every obligation one theorem that shows states and operands meeting each clause's hypotheses. -/
namespace Sys2Proof.Tests
set_option Elab.async false
open Sys2Proof Sys2Proof.Machine

/-! Ill-formed commands: one for each check of WellFormed. -/

/-- A well-formed access, draft or frame to spoil. -/
def okReq : List Word := [0x00A7000200000020, 0x10]
theorem test_wf_good : [Instr.doorbell 15, .starting 2, .badAccess { master := .crew 23, addr := 2 }, .propGet 3 okReq, .timeStep].all Instr.wf = true := by decide
theorem test_wf_function : (Instr.doorbell 16).wf = false := by decide
theorem test_wf_request_empty : (Instr.propGet 3 []).wf = false := by decide
theorem test_wf_request_long : (Instr.propGet 3 (List.replicate 513 0)).wf = false := by decide +kernel
theorem test_wf_radio : (Instr.starting 3).wf = false := by decide
theorem test_wf_chain : (Instr.calibrationDue 48).wf = false := by decide
theorem test_wf_bss : (Instr.beacon 48 ⟨0, []⟩).wf = false := by decide
theorem test_wf_sid : (Instr.lifetime 4144 0).wf = false := by decide
theorem test_wf_tid : (Instr.reorderTimeout 5 8).wf = false := by decide
theorem test_wf_ac : (Instr.contentionTxop 0 4 { durationNs := 0 }).wf = false := by decide
theorem test_wf_port : (Instr.linkDown (.port 4)).wf = false := by decide
theorem test_wf_class : (Instr.pauseRepeat 0 9).wf = false := by decide
theorem test_wf_ring : (Instr.completionWrite 128).wf = false := by decide
theorem test_wf_core : (Instr.done 24).wf = false := by decide
theorem test_wf_core_or_mgmt : (Instr.coreHalt (some 24)).wf = false := by decide
theorem test_wf_task : (Instr.ready .mgmt (.task 4096)).wf = false := by decide
theorem test_wf_item : (Instr.drop .mgmt 16408).wf = false := by decide
theorem test_wf_unit : (Instr.chkAcquire .mgmt 8).wf = false := by decide
theorem test_wf_vfs : (Instr.vfEnable 16).wf = false := by decide
theorem test_wf_voter : (Instr.vote 10).wf = false := by decide
theorem test_wf_sensor : (Instr.criticalTemperature 24).wf = false := by decide
theorem test_wf_monitor : (Instr.supplyFailure 16 0).wf = false := by decide
theorem test_wf_input : (Instr.supplyCurrentLimit 4 0).wf = false := by decide
theorem test_wf_code : (Instr.bypass 256).wf = false := by decide
theorem test_wf_master : (Instr.sealAcquire (.crew 24)).wf = false := by decide
theorem test_wf_access : (Instr.registerWrite { master := .fn 16, addr := 0 }).wf = false := by decide
theorem test_wf_big_top : (Instr.leaveMessage ⟨4, 0, 0, 0, []⟩).wf = false := by decide
theorem test_wf_intake : (Instr.routerFrame (.port 4)).wf = false := by decide
theorem test_wf_cipher : (Instr.cipherLatch { cls := 5, len := 0 }).wf = false := by decide
theorem test_wf_codeword : (Instr.codewordDecode { radio := 0, sid := 0, rate := 4, lastLlr := 0 }).wf = false := by decide
theorem test_wf_consumer : (Instr.uncorrectableError (.retakeSlot 3 0 0 0) 0).wf = false := by decide
theorem test_wf_readings : (Instr.budgetRevision { temps := [(24, 25)] }).wf = false := by decide
theorem test_wf_readings_of_a_command : (Instr.budgetPublish (some { milliamps := [(4, 0)] })).wf = false := by decide
theorem test_wf_draft : (Instr.draftOpen [⟨3, {}⟩]).wf = false := by decide
theorem test_wf_chains_calibrated : (Instr.calibrationDone 0 true [{ chain := 48 }]).wf = false := by decide

/-! The spec's worked examples. -/

/-- A device with properties set as the venue has them. -/
def venue (l : List (Nat × Int)) : Dev := { ({} : Dev) with force := l.foldl (fun m x => tput propReset m x.1 (BitVec.ofInt 64 x.2)) [] }

/-- 01, one coherent time reading: 1,024,000,500,250 ns is beat 500 of tick 1,000,000. -/
theorem test_tick_and_beat : (tickOf 1024000500250, beatOf 1024000500250) = (1000000, 500) := by decide

/-- 01, a crowded beat: its inputs in the order in which the table resolves them. -/
theorem test_crowded_beat :
    (({} : Dev).ordered [.ready (.crew 4) (.task 0x2A1), .cancel (.crew 9) 0x2A1, .sealRelease .mgmt, .sealLockOp 5 [0, 0], .sealLockOp 2 [0, 0], .propSet 0 [0],
      .pictureLock, .thermalTrip 7 110]) =
    [.thermalTrip 7 110, .sealRelease .mgmt, .cancel (.crew 9) 0x2A1, .pictureLock, .propSet 0 [0], .sealLockOp 2 [0, 0], .sealLockOp 5 [0, 0], .ready (.crew 4) (.task 0x2A1)] := by
  decide +kernel

/-- 02, a virtual function reads its ring count: word 0 of the request is 0x00A7_0002_0000_0020, word 0 of the answer 0x00A7_0003_0000_0020. -/
theorem test_ring_count_headers : okReq = [packW [(0x020, 12, 0), (2, 10, 32), (0x00A7, 16, 48)], 0x10] ∧ respHeader 0x00A7 3 0 0x020 = 0x00A7000300000020 := by decide

/-- Energy table, budget and cost of one tick at Brannock Arena (03). -/
def brannock : Dev :=
  let p (id ix v : Nat) : Nat × Word := (propKey id 0 ix, BitVec.ofNat 64 v)
  let d : Dev := { ({} : Dev) with force := [p 0x1040 2 60, p 0x1040 3 25, p 0x1040 22 100, p 0x1040 23 45, p 0x1040 40 150, p 0x1040 41 70, p 0x1041 0 1000, p 0x1041 1 2000, p 0x1041 2 3000] }
  let x (kind st nul bw tx rx n : Nat) : TakeRec := { castCount := n, kind := kind, endBeat := 1000, streams := st, nullDims := nul, bw := bw, chainMask := 0xFFFF, txBeats := tx, rxBeats := rx }
  let s (x : TakeRec) (k n : Nat) : Sheet := { state := .drafting, tick := 6, allocs := k * n, takeCount := k, takes := (List.range k).map (fun i => (i, { x with castOffset := i * n })), cast := (List.range (k * n)).map (fun i => (i, { sid := i + 1, bytes := 1 })) }
  { d with pln := { d.pln with budget := 3400, sheets := [(0, s (x 2 4 0 1 300 100 30) 2 30), (3, s (x 2 8 0 3 250 50 60) 3 60), (6, s (x 0 8 4 4 180 40 40) 4 40)] } }

/-- 03, fitting three sheets: the masks left and the chip's cost, 3,387,150 nJ, within 3,400 µJ. -/
theorem test_brannock_fit :
    (let d := brannock.fit 6
     let m (r : Nat) (k : Nat) : Nat := ((d.sheet r 6).take k).chainMask
     ([m 2 0, m 2 1, m 2 2, m 2 3], [m 1 0, m 1 1, m 1 2], [m 0 0, m 0 1], d.sheetCost 2 (d.sheet 2 6) + d.sheetCost 1 (d.sheet 1 6) + d.sheetCost 0 (d.sheet 0 6))) =
    ([0x0FFF, 0x0FFF, 0x0FFF, 0x0FFF], [0x7FFF, 0xFFFF, 0xFFFF], [0xFFFF, 0xFFFF], 3387150) := by decide +kernel

/-- 04, sizing one A-MPDU: the station of AMPDU_EXP 7 is limited to 1,048,575 octets. -/
theorem test_ampdu_limit : ({ ({} : Dev) with mac := { sta := [(9, { used := true, ampduExp := 7 })] } } : Dev).ampduCap 2 9 = 1048575 := by decide +kernel

/-- 05, one noise entry: chain 5, subchannel 3 of a 320 MHz report is entry 83, bits 63:48 of response word 22, and −96.25 dBm reads 0xFE7F. -/
theorem test_noise_entry :
    fld (wd ({ tick := 5, idle := 0, nSub := 16, primary := 0, inService := true, entries := [(83, BitVec.ofNat 16 (unsgn 16 (-385)))] } : NoiseRep).words (22 - 1)) 63 48 = 0xFE7F := by
  decide +kernel

/-- 06, a codeword rescued on another radio: the map names RSN 0x3C, seed 0x5B, codewords 117 and 118. -/
theorem test_retake_map :
    (let body : List Byte := [0x52, 0x54, 0x4B, 0x01, 0x01, 0x00, 0x02, 0x00, 0x3C, 0xB6, 0x00, 0x75, 0x00, 0x02]
     parseMap { radio := 2, sid := 2210, rate := 3, lastLlr := 0, psduCodewords := 3, map := body ++ beBytes (crcOf 0 body) 4 }) = some [⟨0x3C, 0x5B, 117, 2⟩] ∧
    (copyOf [⟨0x3C, 0x5B, 117, 2⟩] 0, copyOf [⟨0x3C, 0x5B, 117, 2⟩] 1) = (some (0x3C, 117), some (0x3C, 118)) := by decide +kernel

/-- Policer 4 of Kestle Yard (11) with an OVERHEAD, after `n` frames of 976 octets: the colours in order. -/
def kestle (overhead : Nat) : Nat → Policer → List Colour
  | 0, _ => []
  | n + 1, x => let m := x.meter .green (x.metered 976); m.1 :: kestle overhead n { x with tc := m.2.1, te := m.2.2 }
/-- The policer with both buckets full. -/
def kestlePolicer (overhead : Nat) : Policer :=
  let x : Policer := { w2 := packW [(100000, 32, 0), (overhead, 8, 32), (2, 2, 56), (1, 2, 62)], w4 := packW [(5900, 24, 0), (2000, 24, 32)] }
  { x with tc := x.cbs, te := x.ebs }

/-- 11, overhead: 0 lets frames 1 to 6 be green and 7 and 8 yellow; +24 lets 1 to 5 be green and 6 and 7 yellow. -/
theorem test_policer_overhead :
    kestle 0 10 (kestlePolicer 0) = List.replicate 6 .green ++ List.replicate 2 .yellow ++ List.replicate 2 .red ∧
    kestle 24 10 (kestlePolicer 24) = List.replicate 5 .green ++ List.replicate 2 .yellow ++ List.replicate 3 .red := by decide +kernel

/-- Wethercote Pavilion (14) at tick 6, beat 256, before the budget for tick 7. -/
def wethercote (temp : Int) : Dev :=
  let d := venue [(propKey 0x9001 0 0, 45000), (propKey 0x9002 0 0, 55000), (propKey 0x9003 0 0, 95), (propKey 0x9004 0 0, 500), (propKey 0x9006 0 0, 0)]
  { d with
    gaf := { d.gaf with pMeas := 41800, meanMa := [(0, 48000)], lockedCost := [(5, 3512000)] }
    mgr := { d.mgr with booted := true, temps := (List.range 24).map (fun i => (i, temp)) } }

/-- 14, a warm night: at 91 °C the budget is 5,560 µJ of reserve 39,291 µJ, limited by the thermal term. -/
theorem test_budget_published :
    (let b := (goBudgetPublish 6400000 none (wethercote 91)).gaf.budget; (b.tick, b.value, b.reserve, b.term, b.pMeas)) = (7, 5560, 39291, 1, 41800) := by decide +kernel

/-- 14: at 97 °C the revision gives 2,488 µJ, at 100 °C 952 µJ, at 102 °C 0. -/
theorem test_budget_values :
    (List.map (fun t => ((wethercote t).budgetFor 41800 t (fun k => if k = 0 then 48000 else 0) 39291).1) [97, 100, 102]) = [2488, 952, 0] := by decide +kernel

/-- 15, an update that never confirms: each boot uses a try of slot B, and with none left B becomes BAD and A boots. -/
theorem test_trial_boot :
    (let m (n : Nat) : Mgr := { ({} : Mgr) with rec0 := { seq := 9, stA := .good, stB := .trial, triesB := n, pref := 1 }, rec1 := { seq := 8, stA := .good, stB := .trial, triesB := n, pref := 1 }, svnFloor := 4 }
     let c (n : Nat) := chooseSlot (m n) { slotA := { svn := 4 }, slotB := { svn := 5 } }
     ((c 3).slot, (c 3).mgr.bootRec.triesB, (c 0).slot, (c 0).mgr.bootRec.stB)) = (some 1, 2, some 0, .bad) := by decide +kernel

/-- 16, one MU PPDU: tenant 2 receives 949,021 + 474,509 ns and tenant 5 976,470 ns. -/
theorem test_airtime_shares :
    giveRest 2400000 (tapShares false 2400000 [⟨2, 484, 2⟩, ⟨2, 242, 2⟩, ⟨5, 996, 1⟩]) = [(2, 949021), (2, 474509), (5, 976470)] := by decide

/-- 17, wrap on a busy uplink: 9,875,000,000 octets in 1,000 ticks are 77,148,437 kb/s. -/
theorem test_rate : ((8898289344 + 2 ^ 48 - 281474000000000) % 2 ^ 48, rateKbs 9875000000 1000) = (9875000000, 77148437) := by decide

/-! Check values and hashes (PRESUMED, log 10: the published check values of the named functions). -/

/-- The octets of "123456789". -/
def digits : List Byte := [0x31, 0x32, 0x33, 0x34, 0x35, 0x36, 0x37, 0x38, 0x39]
theorem test_crc_check_values : [crcOf 0 digits, crcOf 1 digits, crcOf 2 digits, crcOf 3 digits] = [0xCBF43926, 0xE3069283, 0x29B1, 0xF4] := by decide +kernel
theorem test_sha256 : ofBe (sha256 [0x61, 0x62, 0x63]) = 0xba7816bf8f01cfea414140de5dae2223b00361a396177a9cb410ff61f20015ad := by decide +kernel
theorem test_sha384 : ofBe (sha384 [0x61, 0x62, 0x63]) =
    0xcb00753f45a35e8bb5a03d699ac65007272c32ab0eded1631a8b605a43ff5bed8086072ba1e7cc2358baeca134c825a7 := by decide +kernel

/-! One step. -/

/-- A step takes the front command and leaves the rest: TAP_RESET leaves the doorbell waiting. -/
theorem test_step_front : ((step { State.reset with pending := [.tapReset, .doorbell 0] }) matches .next ⟨0, [.doorbell 0], _⟩) = true := by decide +kernel

/-- An empty queue: show time goes to the next beat (R32, log 1). -/
theorem test_idle_beat : ((step State.reset) matches .next ⟨1000, _, _⟩) = true := by decide +kernel

/-- 08, R236: of two masters of one grandmaster class the one of the lower priority1 is chosen, and a Delay_Resp halves the sum of the two ways. -/
theorem test_best_master :
    bestMaster [{ identity := 5, clockClass := 6, sender := 77 }, { identity := 9, clockClass := 7, sender := 3, priority1 := 1 }] = some { identity := 9, clockClass := 7, sender := 3, priority1 := 1 } := by decide

/-- 05, R171: LLRs are handed on in 6 bits, saturated at ±31. -/
theorem test_llrs_saturate : handLlrs [40, 31, -3, -200] = [31, 31, -3, -31] := by decide


/-! A core's accesses (13). -/

/-- The hart of core 2 after an access. -/
def after2 (addr width : Nat) (op : CoreOp) (d : Dev) : Hart := ((goDroppedWrite 5000 (.crew 2) addr width op d).core 2).hart

/-- 13, R346 and R348: a load outside the ranges of the crew map is access fault 5 in M-mode, and a store there 7. -/
theorem test_core_access_fault :
    ((after2 0x30000000 8 (.load 5 true) {}).csrOf 0x342, (after2 0x30000000 8 (.load 5 true) {}).csrOf 0x343, (after2 0x30000000 8 (.store 1) {}).csrOf 0x342) = (5, 0x30000000, 7) := by
  decide +kernel

/-- 13, R345: an atomic operation on the register window faults, and a store-conditional without a reservation stores nothing and answers 1. -/
theorem test_core_atomics :
    ((after2 0x20000000 4 (.amo .add 5 1) {}).csrOf 0x342, (after2 0x10100000 8 (.storeConditional 5 1) {}).xOf 5) = (7, 1) := by decide +kernel

/-- 13, R344: hartid is the core's number, and the time CSR show time. -/
theorem test_core_csrs : ((after2 0xF14 8 (.csrRead 5) {}).xOf 5, (after2 0xC01 8 (.csrRead 5) {}).xOf 5) = (2, 5000) := by decide +kernel

/-- A booted device: F0 and F1 are READY and have issued IF_VERSION. -/
def bfns : Table FnSlot := [(0, { st := .ready, versionSeen := true }), (1, { st := .ready, versionSeen := true })]
def base : Dev := { fns := bfns, mgr := { booted := true }, glb := { pcie := { fn := [(0, { command := 2 })], vfMem := true } } }
/-- A state at show time `t`, with an empty queue. -/
def st (t : Nat) (d : Dev) : State := { now := t, pending := [], dev := d }
/-- A request. -/
def rq (tag op : Nat) (ws : List Word) : List Word := packW [(op, 12, 0), (1 + ws.length, 10, 32), (tag, 16, 48)] :: ws
/-- A UDP packet from 10.0.0.1 to 10.0.0.2 in an Ethernet frame. -/
def ip4 : List Byte :=
  [2, 0, 0, 0, 0, 1, 2, 0, 0, 0, 0, 2, 0x08, 0x00, 0x45, 0, 0, 0x2E, 0, 0, 0, 0, 0x40, 0x11, 0x66, 0xBD, 10, 0, 0, 1, 10, 0, 0, 2,
   0x03, 0xE8, 0x07, 0xD0, 0, 26, 0, 0] ++ List.replicate 18 0
def ip4p : Parsed := { v6 := false, proto := 17, src := 0x0A000001, dst := 0x0A000002, sport := 1000, dport := 2000, l4 := 34, ipEnd := 60, ttl := 64, dscp := 0, echo := false }
/-- A frame that waits somewhere. -/
def pkt (kind src ten : Nat) : Pkt := { octets := ip4, srcKind := kind, src := src, tenant := ten }
/-- The device with one Ethernet port. -/
def withPort (x : Port) : Dev := { base with emac := { port := [(0, x)] } }
/-- The device with one ring. -/
def withRing (g : Nat) (r : Ring) : Dev := { base with tm := { ring := [(g, r)] } }
def bss0 : Bss := { running := true, bssid := 0x020000000001, tenant := 1, beaconTu := 100, dtim := 3 }
def sta5 : Sta := { used := true, addr := 0x020000000055, bss := 0, aid := 9, linkA := 0x020000000055 }
/-- Radio A is on the air, with BSS 0 and station 5. -/
def air : Dev := { base with
  fe := { radio := [(0, { synth := .locked, inService := true, chan := some ⟨0, 1, 0, 5⟩ })] }
  mac := { bss := [(0, bss0)], sta := [(5, sta5)] } }
def withSta (x : Sta) : Dev := { air with mac := { bss := [(0, bss0)], sta := [(5, x)] } }
def withRx (x : Rx) : Dev := { air with mdm := { rx := [(0, x)] } }
/-- A sheet of one take from beat 10 to beat 20 for station 5. -/
def sheet1 (x : SheetState) (tick : Nat) : Sheet :=
  { state := x, tick := tick, allocs := 1, takeCount := 1, costNj := 5000, budgetUj := 100,
    takes := [(0, { castCount := 1, es := 10, ls := 20, endBeat := 100, txBeats := 50, costNj := 5000, chainMask := 1, streams := 1 })],
    cast := [(0, { bytes := 100, ac := 2, nss := 1, sid := 5 })] }
/-- Radio A with a sheet of tick 6 or 7. -/
def onStage (k : Nat) (x : SheetState) (p : Play) : Dev :=
  { air with pln := { budget := 100, sheets := [(k % 3, sheet1 x k)], play := [(0, p)], call := [(5, { valid := true, tenant := 1, backlogVi := 100 })] } }
/-- Radio A as given, and nothing else. -/
def withRadio (x : Radio) : Dev := { base with fe := { radio := [(0, x)] } }
def bt1 : Bt := { mode := .aligning, source := 1, chip := 7, venue := 3, ports := 1, vlan := 10 }
def withBt (x : Bt) : Dev := { base with bt := x }
/-- A Big Top frame: version, message, venue, chip, tick, segment, flags, length, ALIGN_NS, body. -/
def btf (msg chip tick seg align stamp : Nat) (body : List Byte) : BtFrame :=
  { port := 0, vlan := 10, src := 1, stamp := stamp,
    octets := [1, BitVec.ofNat 8 msg] ++ beBytes 3 2 ++ beBytes chip 2 ++ beBytes tick 6 ++ [BitVec.ofNat 8 seg, 0] ++ beBytes body.length 2 ++ beBytes align 4 ++ body }
def withMgr (x : Mgr) : Dev := { base with mgr := x }
def withTs (x : Ts) : Dev := { base with ts := x }
/-- A closed record. -/
def rec1 (n : Nat) : TsRec :=
  { seq := n, chipDark := false, sealOpen := false, configChanged := false, powerGap := false, site := 1, start := 0, fin := 100, showFirst := 5,
    showLast := 50, period := 15, configSeq := 0, lost := 0, prevMac := 0, counts := [(0, ⟨1, 2, 3⟩)], mac := List.replicate 32 7 }
/-- Task 1,030 with descriptor word 1 `w`. -/
def withTask (w : Nat) (r : Rgm) : Dev := { base with rgm := r, mem := { backlot := putOctets [] (256 * 1030 + 8) (leBytes w 8) } }
/-- A task of priority 2, class GENERAL, that core 3 may run. -/
def w3 : Nat := 2 * 2 ^ 61 + 8
def key1 : KeySlot := { used := true, tenant := 1, alg := 0, key := List.replicate 16 7, bind := 5 }
def withKeys (x : Sta) (ks : Table KeySlot) : Dev := { air with mac := { bss := [(0, bss0)], sta := [(5, x)] }, wcx := { slots := ks } }
def withSeal (x : Seal) : Dev := { base with sealEng := x }
def withChk (x : Chk) : Dev := { base with chk := [(2, x)] }
/-- An item in crew hands whose words name a frame of 60 octets. -/
def popped : Dev := { base with
  rte := { items := [(3, { used := true, reason := 4, popped := true, pkt := pkt 2 5 1 })] }
  mem := { backlot := putOctets (putOctets [] (itemOff 3 + 8) (leBytes (60 * 2 ^ 50 + 0x10000000 + 0x0F50000) 8)) (itemOff 16390 + 8) (leBytes (60 * 2 ^ 50 + 0x10000000 + 0x0F50000) 8) } }

theorem admitted_of {d : Dev} {f : Nat} {req : List Word} {n : Nat}
    (h : (decide ((d.fn f).st = .ready ∧ (d.fn f).tags.length < 32 ∧ (d.fn f).versionSeen = true ∧ d.mgr.recovery = false ∧ d.backPressed = false ∧
      reqLen req = n ∧ 1 ≤ n ∧ n ≤ 512 ∧ resv (wd req 0) [(47, 42), (31, 12)] = false ∧ (d.fn f).tags.contains (reqTag req) = false)) = true) : Admitted d f req n :=
  let g := of_decide_eq_true h
  ⟨g.1, g.2.1, g.2.2.1, g.2.2.2.1, g.2.2.2.2.1, g.2.2.2.2.2.1, g.2.2.2.2.2.2.1, g.2.2.2.2.2.2.2.1, g.2.2.2.2.2.2.2.2.1, g.2.2.2.2.2.2.2.2.2⟩
theorem between {P : Nat → Prop} {a b : Nat} (h : ∀ j, j < b → a ≤ j → P j) : ∀ j, a ≤ j → j < b → P j := fun j x y => h j y x
theorem above {P : Nat → Prop} {a b : Nat} (h : ∀ j, j < b → a < j → P j) : ∀ j, a < j → j < b → P j := fun j x y => h j y x
/-- A table that lists every number from `a` on. -/
theorem tlook_run {α : Type} (dflt : Nat → α) (v : α) (n : Nat) : ∀ (a j : Nat), a ≤ j → j < a + n → tlook dflt ((List.range' a n).map (fun i => (i, v))) j = v := by
  induction n with
  | zero => intro a j h1 h2; omega
  | succ n ih =>
    intro a j h1 h2
    simp only [List.range'_succ, List.map_cons, tlook]
    split
    · rfl
    · exact ih (a + 1) j (by omega) (by omega)

/-- The hypotheses of each clause of RefusedAccessesComplete are met. -/
theorem witness_RefusedAccessesComplete :
    (∃ (s : State) (a : Access), (s.dev.onBus a = true) ∧ (goodShape a = false)) ∧
    (∃ (s : State) (f : Nat) (a : Access), (a.master = .fn f) ∧ (s.dev.onBus a = true) ∧ (goodShape a = true) ∧ (s.dev.reach a.master a.addr = none)) ∧
    (∃ (s : State) (a : Access), (s.dev.onBus a = true) ∧ (s.dev.judge a = .unmapped)) ∧
    (∃ (s : State) (a : Access), (s.dev.onBus a = true) ∧ (s.dev.judge a = .off)) :=
  ⟨⟨(st 0 base : State), ({ master := .fn 0, addr := 2, width := 4 } : Access), by decide +kernel⟩,
   ⟨(st 0 base : State), (1 : Nat), ({ master := .fn 1, addr := 0x60000 } : Access), by decide +kernel⟩,
   ⟨(st 0 base : State), ({ master := .fn 0, addr := 0xFFFF0 } : Access), by decide +kernel⟩,
   ⟨(st 0 { base with gaf := { state := .blackout } } : State), ({ master := .mgmt, addr := 0x300040 } : Access), by decide +kernel⟩⟩

/-- The hypotheses of each clause of RegisterWritesTakeEffect are met. -/
theorem witness_RegisterWritesTakeEffect :
    (∃ (s : State) (a : Access) (x : Nat) (v : Reg), (v = a.data.setWidth 32) ∧ (s.dev.onBus a = true) ∧ (a.write = true) ∧ (s.dev.judge a = .at' x)) :=
  ⟨(st 0 base : State), ({ master := .fn 0, addr := 0x40, write := true, data := 1 } : Access), (0x40 : Nat), (({ master := .fn 0, addr := 0x40, write := true, data := 1 } : Access).data.setWidth 32 : Reg), rfl, by decide +kernel⟩

/-- The hypotheses of each clause of TimeReadsAndHandoffsComplete are met. -/
theorem witness_TimeReadsAndHandoffsComplete :
    (∃ (s : State) (m : Master), (s.dev.stopped m = false)) :=
  ⟨(st 123456789012345 base : State), (.fn 0 : Master), by decide +kernel⟩

/-- The hypotheses of each clause of MailboxAndVersionCommandsComplete are met. -/
theorem witness_MailboxAndVersionCommandsComplete :
    (∃ (s : State) (f : Nat), ((s.dev.fn f).st = .ready) ∧ ((s.dev.fn f).reqBusy = false) ∧ ((s.dev.fn f).tags.length < 32) ∧ (s.dev.mbxOpen = true)) ∧
    (∃ (s : State) (f : Nat), (((s.dev.fn f).st ≠ .ready ∨ (s.dev.fn f).reqBusy = true ∨ 32 ≤ (s.dev.fn f).tags.length))) ∧
    (∃ (s : State) (f : Nat) (r : Resp) (rest : List Resp), ((s.dev.fn f).waiting = r :: rest) ∧ ((s.dev.fn f).respValid = false)) ∧
    (∃ (s : State) (f : Nat), ((s.dev.fn f).respValid = true)) ∧
    (∃ (s : State) (f : Nat), ((s.dev.fn f).respValid = false)) ∧
    (∃ (s : State) (f : Nat) (req : List Word), ((s.dev.fn f).st = .ready) ∧ ((s.dev.fn f).tags.length < 32) ∧ ((s.dev.fn f).tags.contains (reqTag req) = false) ∧ (s.dev.mgr.recovery = false) ∧ (reqLen req = 1) ∧ (resv (wd req 0) [(47, 42), (31, 12)] = false)) ∧
    (∃ (s : State) (f : Nat), ((s.dev.fn f).st = .ready) ∧ ((s.dev.fn f).tags.length < 32)) :=
  ⟨⟨(st 0 base : State), (0 : Nat), by decide +kernel⟩,
   ⟨(st 0 base : State), (2 : Nat), by decide +kernel⟩,
   ⟨(st 0 { base with fns := [(0, { st := .ready, tags := [5], waiting := [⟨[0x0005000100000001], true, 0⟩] })] } : State), (0 : Nat), (⟨[0x0005000100000001], true, 0⟩ : Resp), ([] : List Resp), by decide +kernel⟩,
   ⟨(st 0 { base with fns := [(0, { st := .ready, respValid := true })] } : State), (0 : Nat), by decide +kernel⟩,
   ⟨(st 0 base : State), (0 : Nat), by decide +kernel⟩,
   ⟨(st 2500 base : State), (0 : Nat), (rq 7 1 [] : List Word), by decide +kernel⟩,
   ⟨(st 2500 base : State), (0 : Nat), by decide +kernel⟩⟩

/-- The hypotheses of each clause of PropertyCommandsComplete are met. -/
theorem witness_PropertyCommandsComplete :
    (∃ (s : State) (f : Nat) (req : List Word) (p : PropDef), (Admitted s.dev f req 2) ∧ (propDef (itemId (wd req 1)) = some p) ∧ (s.dev.itemCheck (.fn f) (wd req 1) none = .ok) ∧ ((p.id ∉ [0x0010, 0x0011, 0x0012, 0x6110, 0x7011, 0xA010, 0xA011, 0x1040]))) ∧
    (∃ (s : State) (f : Nat) (req : List Word) (p : PropDef), (Admitted s.dev f req 3) ∧ (propDef (itemId (wd req 1)) = some p) ∧ (s.dev.itemCheck (.fn f) (wd req 1) (some (wd req 2)) = .ok) ∧ (pairOf (itemId (wd req 1)) = none) ∧ (s.dev.claimed .prop (itemKey p (.fn f) (wd req 1)) = false)) ∧
    (∃ (s : State) (f : Nat) (req : List Word) (p : PropDef), (Admitted s.dev f req 2) ∧ (propDef (itemId (wd req 1)) = some p) ∧ (fld (wd req 1) 63 36 = 0) ∧ (itemIx (wd req 1) = 0) ∧ (itemTen (wd req 1) = 0) ∧ ((f = 0 ∨ p.access ≠ 3))) :=
  ⟨⟨(st 2500 base : State), (0 : Nat), (rq 7 0x20 [0x0000000000003006] : List Word), ((propDef 0x3006).get (by decide) : PropDef), admitted_of (by decide +kernel), by decide +kernel⟩,
   ⟨(st 2500 base : State), (0 : Nat), (rq 7 0x21 [0x0000000000003006, 1] : List Word), ((propDef 0x3006).get (by decide) : PropDef), admitted_of (by decide +kernel), by decide +kernel⟩,
   ⟨(st 2500 base : State), (0 : Nat), (rq 7 0x22 [0x3006] : List Word), ((propDef 0x3006).get (by decide) : PropDef), admitted_of (by decide +kernel), by decide +kernel⟩⟩

/-- The hypotheses of each clause of FunctionsAndRingAssignmentComplete are met. -/
theorem witness_FunctionsAndRingAssignmentComplete :
    (∃ (s : State) (f : Nat), (s.dev.gaf.state = .show') ∧ (s.dev.gaf.phase = .idle) ∧ (f ≠ 0) ∧ ((s.dev.fn f).st = .ready)) ∧
    (∃ (s : State) (n : Nat), (s.dev.gaf.state = .show') ∧ (s.dev.gaf.phase = .idle) ∧ (n ≤ 15)) ∧
    (∃ (s : State) (n : Nat), (s.dev.gaf.state = .show') ∧ (s.dev.gaf.phase = .idle) ∧ (n ≤ 15)) ∧
    (∃ (s : State) (f : Nat), ((s.dev.fn f).shut = .reset) ∧ (s.dev.drained f = true)) ∧
    (∃ (s : State) (f : Nat), ((s.dev.fn f).shut = .disable) ∧ ((s.dev.fn f).enableAfter = false) ∧ (s.dev.drained f = true)) ∧
    (∃ (s : State) (f : Nat), ((s.dev.fn f).st = .enablePending) ∧ ((s.dev.fn f).shut = .none)) ∧
    (∃ (s : State) (req : List Word) (g : Nat) (f : Nat) (k : Nat), (Admitted s.dev 0 req 2) ∧ (g = fld (wd req 1) 6 0) ∧ (f = fld (wd req 1) 11 8) ∧ (k = (if f = 0 then g else fld (wd req 1) 20 16)) ∧ (fld (wd req 1) 63 21 = 0) ∧ (fld (wd req 1) 15 12 = 0) ∧ (fld (wd req 1) 7 7 = 0) ∧ ((s.dev.ring g).st = .stopped) ∧ ((s.dev.fn f).st = .ready) ∧ (s.dev.claimed .ring g = false) ∧ ((f ≠ 0 → (∀ j, j < 128 → j ≠ g → (s.dev.ring j).owner = f → (s.dev.ring j).loc ≠ k) ∧ ((s.dev.ringsOf f).filter (· != g)).length < 32))) :=
  ⟨⟨(st 2500 base : State), (1 : Nat), by decide +kernel⟩,
   ⟨(st 2500 base : State), (0 : Nat), by decide +kernel⟩,
   ⟨(st 2500 base : State), (3 : Nat), by decide +kernel⟩,
   ⟨(st 2500 { base with fns := [(0, { st := .ready }), (1, { st := .shutdown, shut := .reset })] } : State), (1 : Nat), by decide +kernel⟩,
   ⟨(st 2500 { base with fns := [(0, { st := .ready }), (1, { st := .shutdown, shut := .disable })] } : State), (1 : Nat), by decide +kernel⟩,
   ⟨(st 2500 { base with fns := [(0, { st := .ready }), (1, { st := .enablePending })] } : State), (1 : Nat), by decide +kernel⟩,
   ⟨(st 2500 base : State), (rq 7 0x30 [packW [(20, 7, 0), (1, 4, 8), (3, 5, 16)]] : List Word), (fld (wd (rq 7 0x30 [packW [(20, 7, 0), (1, 4, 8), (3, 5, 16)]] : List Word) 1) 6 0 : Nat), (fld (wd (rq 7 0x30 [packW [(20, 7, 0), (1, 4, 8), (3, 5, 16)]] : List Word) 1) 11 8 : Nat), ((if (fld (wd (rq 7 0x30 [packW [(20, 7, 0), (1, 4, 8), (3, 5, 16)]] : List Word) 1) 11 8 : Nat) = 0 then (fld (wd (rq 7 0x30 [packW [(20, 7, 0), (1, 4, 8), (3, 5, 16)]] : List Word) 1) 6 0 : Nat) else fld (wd (rq 7 0x30 [packW [(20, 7, 0), (1, 4, 8), (3, 5, 16)]] : List Word) 1) 20 16) : Nat), admitted_of (by decide +kernel), rfl, rfl, rfl, by decide +kernel⟩⟩

/-- The hypotheses of each clause of RingControlCompletes are met. -/
theorem witness_RingControlCompletes :
    (∃ (s : State) (m : Master) (g : Nat) (v : Reg), (s.dev.reachesRing m g = true) ∧ ((s.dev.ring g).st = .stopped) ∧ (6 ≤ rfld v 19 16) ∧ ((rfld v 29 28 ≠ 3 ∨ s.dev.wrxFree g = true))) ∧
    (∃ (s : State) (m : Master) (g : Nat) (v : Reg), (s.dev.reachesRing m g = true) ∧ ((s.dev.ring g).st = .stopped) ∧ (rfld v 19 16 < 6)) ∧
    (∃ (s : State) (m : Master) (g : Nat), (s.dev.reachesRing m g = true) ∧ ((s.dev.ring g).st = .running)) ∧
    (∃ (s : State) (m : Master) (g : Nat), (s.dev.reachesRing m g = false)) ∧
    (∃ (s : State) (g : Nat), ((s.dev.ring g).st = .draining) ∧ ((s.dev.ring g).inFlight = 0)) ∧
    (∃ (s : State) (g : Nat), ((s.dev.ring g).st = .running ∨ (s.dev.ring g).st = .draining)) :=
  ⟨⟨(st 2500 base : State), (.fn 0 : Master), (20 : Nat), (0x80060010 : Reg), by decide +kernel⟩,
   ⟨(st 2500 base : State), (.fn 0 : Master), (20 : Nat), (0x80050010 : Reg), by decide +kernel⟩,
   ⟨(st 2500 { base with tm := { ring := [(20, { loc := 20, st := .running, ctrl := 0x90060010 })] } } : State), (.fn 0 : Master), (20 : Nat), by decide +kernel⟩,
   ⟨(st 2500 base : State), (.fn 1 : Master), (20 : Nat), by decide +kernel⟩,
   ⟨(st 2500 { base with tm := { ring := [(20, { loc := 20, st := .draining, ctrl := 0x80060010 })] } } : State), (20 : Nat), by decide +kernel⟩,
   ⟨(st 2500 { base with tm := { ring := [(20, { loc := 20, st := .running, ctrl := 0x80060010 })] } } : State), (20 : Nat), by decide +kernel⟩⟩

/-- The hypotheses of each clause of RingIndexesAndCompletions are met. -/
theorem witness_RingIndexesAndCompletions :
    (∃ (s : State) (m : Master) (g : Nat), (s.dev.reachesRing m g = true)) ∧
    (∃ (s : State) (m : Master) (g : Nat), (s.dev.reachesRing m g = true)) ∧
    (∃ (s : State) (g : Nat) (c : Compl) (w1 : Word), (w1 = packW [(c.w1.toNat, 63, 0), (b2n (s.dev.ring g).phase, 1, 63)]) ∧ ((s.dev.ring g).done = [c]) ∧ (((s.dev.ring g).cqTail + 1) % (s.dev.ring g).size ≠ (s.dev.ring g).cqHead % (s.dev.ring g).size) ∧ ((s.dev.ring g).st ≠ .stopped) ∧ (s.dev.gaf.quiesced.testBit 3 = false)) ∧
    (∃ (s : State) (g : Nat), (s.dev.coalDue g = true)) :=
  ⟨⟨(st 2500 base : State), (.fn 0 : Master), (20 : Nat), by decide +kernel⟩,
   ⟨(st 2500 base : State), (.fn 0 : Master), (20 : Nat), by decide +kernel⟩,
   ⟨(st 2500 { base with tm := { ring := [(20, { loc := 20, st := .running, ctrl := 0x80060010, done := [⟨0, 5, 77, 0⟩] })] } } : State), (20 : Nat), (⟨0, 5, 77, 0⟩ : Compl), (packW [((⟨0, 5, 77, 0⟩ : Compl).w1.toNat, 63, 0), (b2n ((st 2500 { base with tm := { ring := [(20, { loc := 20, st := .running, ctrl := 0x80060010, done := [⟨0, 5, 77, 0⟩] })] } } : State).dev.ring (20 : Nat)).phase, 1, 63)] : Word), rfl, by decide +kernel⟩,
   ⟨(st 2500 { base with glb := { up := 100000000 }, tm := { ring := [(20, { loc := 20, st := .running, ctrl := 0xC0060010, coal := 0x00020001, since := 1, firstAt := 1 })] } } : State), (20 : Nat), by decide +kernel⟩⟩

/-- The hypotheses of each clause of DescriptorsAndPolicersComplete are met. -/
theorem witness_DescriptorsAndPolicersComplete :
    (∃ (s : State) (g : Nat) (w0 : Word) (w1 : Word) (l : List Byte) (x : Desc), (x = descOf (s.dev.ring g).nextId w0 w1) ∧ (s.dev.mayFetch g = true) ∧ ((s.dev.ring g).kind = 0) ∧ (badDesc 0 w1 = false) ∧ (14 ≤ x.len) ∧ (l.length = x.len)) ∧
    (∃ (s : State) (g : Nat) (w1 : Word), (s.dev.mayFetch g = true) ∧ ((s.dev.ring g).kind = 1) ∧ (badDesc 1 w1 = false) ∧ ((s.dev.ring g).queue = [])) ∧
    (∃ (s : State) (g : Nat) (w1 : Word), (s.dev.mayFetch g = true) ∧ (badDesc (s.dev.ring g).kind w1 = true)) ∧
    (∃ (s : State) (g : Nat), (s.dev.mayFetch g = false)) ∧
    (∃ (s : State) (f : Nat) (req : List Word) (i : Nat) (x : Policer), (Admitted s.dev f req 5) ∧ (x = { w2 := wd req 2, w3 := wd req 3, w4 := wd req 4 }) ∧ (i = (if f = 0 then fld (wd req 1) 51 48 else f) * 256 + fld (wd req 1) 7 0) ∧ ((fixedSpec 0x660 false 5 [(1, [(63, 52), (47, 8)]), (2, [(43, 40)]), (3, [(31, 0)]), (4, [(63, 56), (31, 24)])]).reserved req = false) ∧ ((f ≠ 0 → fld (wd req 1) 51 48 = 0)) ∧ ((x.mode = 0 ∨ x.mode = 1 ∨ x.mode = 2)) ∧ (fld x.w2 59 58 ≠ 3) ∧ (fld x.w2 57 56 ≠ 3) ∧ (-64 ≤ x.overhead) ∧ (x.overhead ≤ 63) ∧ ((x.mode ≠ 0 → fld x.w4 23 0 ≠ 0)) ∧ ((x.mode = 2 → fld x.w2 31 0 ≤ fld x.w3 63 32)) ∧ ((x.mode ≠ 2 → fld x.w3 63 32 = 0)) ∧ (s.dev.claimed .policer i = false)) ∧
    (∃ (s : State) (f : Nat) (req : List Word) (x : Policer), (Admitted s.dev f req 2) ∧ (x = s.dev.policer ((if f = 0 then fld (wd req 1) 51 48 else f) * 256 + fld (wd req 1) 7 0)) ∧ (resv (wd req 1) [(63, 52), (47, 8)] = false) ∧ ((f ≠ 0 → fld (wd req 1) 51 48 = 0))) ∧
    (∃ (s : State) (f : Nat) (req : List Word) (q : Nat) (n : Nat), (Admitted s.dev f req 2) ∧ (resv (wd req 1) [(63, 42), (31, 7)] = false) ∧ (q = fld (wd req 1) 41 32) ∧ (n = fld (wd req 1) 6 0) ∧ (q < 656) ∧ (1 ≤ n) ∧ (n ≤ 64) ∧ (s.dev.ownsQueue (.fn f) q = true)) :=
  ⟨⟨(st 2500 { base with tm := { ring := [(20, { loc := 20, st := .running, ctrl := 0x80060010, prod := 3 })] } } : State), (20 : Nat), (0x10000 : Word), (packW [(60, 14, 0), (9, 16, 48)] : Word), (List.replicate 60 0 : List Byte), (descOf ((st 2500 { base with tm := { ring := [(20, { loc := 20, st := .running, ctrl := 0x80060010, prod := 3 })] } } : State).dev.ring (20 : Nat)).nextId (0x10000 : Word) (packW [(60, 14, 0), (9, 16, 48)] : Word) : Desc), rfl, by decide +kernel⟩,
   ⟨(st 2500 { base with tm := { ring := [(20, { loc := 20, st := .running, ctrl := 0x90060010, prod := 3 })] } } : State), (20 : Nat), (packW [(2048, 14, 0), (9, 16, 48)] : Word), by decide +kernel⟩,
   ⟨(st 2500 { base with tm := { ring := [(20, { loc := 20, st := .running, ctrl := 0x80060010, prod := 3 })] } } : State), (20 : Nat), (0 : Word), by decide +kernel⟩,
   ⟨(st 2500 base : State), (20 : Nat), by decide +kernel⟩,
   ⟨(st 2500 base : State), (1 : Nat), (rq 7 0x660 [5, packW [(1, 2, 62), (1000000, 32, 0)], 0, packW [(100, 24, 0)]] : List Word), ((if (1 : Nat) = 0 then fld (wd (rq 7 0x660 [5, packW [(1, 2, 62), (1000000, 32, 0)], 0, packW [(100, 24, 0)]] : List Word) 1) 51 48 else (1 : Nat)) * 256 + fld (wd (rq 7 0x660 [5, packW [(1, 2, 62), (1000000, 32, 0)], 0, packW [(100, 24, 0)]] : List Word) 1) 7 0 : Nat), ({ w2 := wd (rq 7 0x660 [5, packW [(1, 2, 62), (1000000, 32, 0)], 0, packW [(100, 24, 0)]] : List Word) 2, w3 := wd (rq 7 0x660 [5, packW [(1, 2, 62), (1000000, 32, 0)], 0, packW [(100, 24, 0)]] : List Word) 3, w4 := wd (rq 7 0x660 [5, packW [(1, 2, 62), (1000000, 32, 0)], 0, packW [(100, 24, 0)]] : List Word) 4 } : Policer), admitted_of (by decide +kernel), rfl, rfl, by decide +kernel⟩,
   ⟨(st 2500 base : State), (1 : Nat), (rq 7 0x661 [5] : List Word), ((st 2500 base : State).dev.policer ((if (1 : Nat) = 0 then fld (wd (rq 7 0x661 [5] : List Word) 1) 51 48 else (1 : Nat)) * 256 + fld (wd (rq 7 0x661 [5] : List Word) 1) 7 0) : Policer), admitted_of (by decide +kernel), rfl, by decide +kernel⟩,
   ⟨(st 2500 base : State), (0 : Nat), (rq 7 0x662 [packW [(600, 10, 32), (64, 7, 0)]] : List Word), (600 : Nat), (64 : Nat), admitted_of (by decide +kernel), by decide +kernel⟩⟩

/-- The hypotheses of each clause of PortLinksComplete are met. -/
theorem witness_PortLinksComplete :
    (∃ (s : State) (m : Master) (p : Nat), (m.isF0 = true) ∧ ((s.dev.reg (emacAddr p 0)).getLsbD 31 = false)) ∧
    (∃ (m : Master) (p : Nat), (m.isF0 = true) ∧ (p < 4)) ∧
    (∃ (m : Master), (m.isF0 = false)) ∧
    (∃ (s : State) (p : Nat) (x : LinkFacts) (e : Dev), (e = { s.dev with mgr := { s.dev.mgr with ref156 := s.dev.mgr.ref156 || x.refBack } }) ∧ (e.mayLink p = true) ∧ ((s.dev.port p).linkUp = false) ∧ (((s.dev.reg (emacAddr p 0)).getLsbD 30 = true → x.anDone = true))) ∧
    (∃ (s : State) (p : Nat), (p < 4) ∧ ((s.dev.port p).linkUp = true)) ∧
    (∃ (s : State), (s.dev.wakeable = false)) :=
  ⟨⟨(st 2500 base : State), (.fn 0 : Master), (0 : Nat), by decide +kernel⟩,
   ⟨(.fn 0 : Master), (0 : Nat), by decide +kernel⟩,
   ⟨(.fn 1 : Master), by decide +kernel⟩,
   ⟨(st 2500 (base.putReg (emacAddr 0 0) 0x83000000) : State), (0 : Nat), ({} : LinkFacts), ({ (st 2500 (base.putReg (emacAddr 0 0) 0x83000000) : State).dev with mgr := { (st 2500 (base.putReg (emacAddr 0 0) 0x83000000) : State).dev.mgr with ref156 := (st 2500 (base.putReg (emacAddr 0 0) 0x83000000) : State).dev.mgr.ref156 || ({} : LinkFacts).refBack } } : Dev), rfl, by decide +kernel⟩,
   ⟨(st 2500 (withPort { linkUp := true }) : State), (0 : Nat), by decide +kernel⟩,
   ⟨(st 2500 base : State), by decide +kernel⟩⟩

/-- The hypotheses of each clause of EthernetReceiveCompletes are met. -/
theorem witness_EthernetReceiveCompletes :
    (∃ (s : State) (p : Nat) (l : List Byte) (x : Port) (w : WireFacts), (x = s.dev.port p) ∧ (w.fcsOk = true) ∧ (x.linkUp = true) ∧ (s.dev.emacAwake = true) ∧ (60 ≤ l.length) ∧ (l.length + 4 ≤ s.dev.maxFrame p) ∧ (s.dev.occupancy p 8 + l.length ≤ 524288)) ∧
    (∃ (s : State) (p : Nat) (l : List Byte) (w : WireFacts), (p < 4) ∧ ((s.dev.port p).linkUp = true) ∧ (s.dev.emacAwake = true) ∧ ((l.length < 60 ∨ s.dev.maxFrame p < l.length + 4 ∨ w.fcsOk = false))) ∧
    (∃ (s : State) (p : Nat) (l : List Byte) (w : WireFacts), (w.fcsOk = true) ∧ (p < 4) ∧ ((s.dev.port p).linkUp = true) ∧ (s.dev.emacAwake = true) ∧ (60 ≤ l.length) ∧ (l.length + 4 ≤ s.dev.maxFrame p) ∧ (524288 < s.dev.occupancy p 8 + l.length)) ∧
    (∃ (s : State) (p : Nat), ((s.dev.port p).linkUp = false)) :=
  ⟨⟨(st 2500 (withPort { linkUp := true }) : State), (0 : Nat), (ip4 : List Byte), ((st 2500 (withPort { linkUp := true }) : State).dev.port (0 : Nat) : Port), ({ at' := 30 } : WireFacts), rfl, by decide +kernel⟩,
   ⟨(st 2500 (withPort { linkUp := true }) : State), (0 : Nat), (ip4 : List Byte), ({ fcsOk := false } : WireFacts), by decide +kernel⟩,
   ⟨(st 2500 (withPort { linkUp := true, rx := List.replicate 57 (0, { octets := List.replicate 9198 0, srcKind := 0, src := 0, tenant := 0 }) }) : State), (0 : Nat), (ip4 : List Byte), ({} : WireFacts), by decide +kernel⟩,
   ⟨(st 2500 base : State), (0 : Nat), by decide +kernel⟩⟩

/-- The hypotheses of each clause of PauseAndSafetyNetComplete are met. -/
theorem witness_PauseAndSafetyNetComplete :
    (∃ (s : State) (p : Nat), ((s.dev.port p).linkUp = true) ∧ ((s.dev.flowCtrl p).getLsbD 28 = true) ∧ (s.dev.flowMode p = 1) ∧ (s.dev.isDeaf p 8 = false)) ∧
    (∃ (s : State) (p : Nat) (k : Nat), (tlook (fun _ => 0) (s.dev.port p).paused k ≠ 0) ∧ (s.dev.pauseOver p k = true)) ∧
    (∃ (s : State) (p : Nat) (k : Nat), (tlook (fun _ => 0) (s.dev.port p).xoff k ≠ 0) ∧ (tlook (fun _ => 0) (s.dev.port p).xoff k ≤ s.dev.glb.up + 1) ∧ ((s.dev.flowCtrl p).getLsbD 29 = true) ∧ (s.dev.emacAwake = true) ∧ (s.dev.xonAt p ≤ s.dev.occupancy p k)) ∧
    (∃ (m : Master), (m.isF0 = true)) ∧
    (∃ (s : State) (p : Nat) (k : Nat), (p < 4) ∧ (s.dev.tripDue p k = true)) ∧
    (∃ (s : State) (p : Nat) (k : Nat), (tlook (fun _ => 0) (s.dev.port p).deaf k ≠ 0) ∧ (tlook (fun _ => 0) (s.dev.port p).deaf k ≤ s.dev.glb.up + 1)) :=
  ⟨⟨(st 2500 ((withPort { linkUp := true, rateUsed := 3 }).putReg (emacAddr 0 0xC) 0x5000FFFF) : State), (0 : Nat), by decide +kernel⟩,
   ⟨(st 2500 { (withPort { linkUp := true, paused := [(8, 1)] }) with glb := { up := 5 } } : State), (0 : Nat), (8 : Nat), by decide +kernel⟩,
   ⟨(st 2500 (((withPort { linkUp := true, rateUsed := 3, xoff := [(8, 1)], rx := [(0, pkt 0 0 0)] }).putReg (emacAddr 0 0xC) 0x7000FFFF).putReg (emacAddr 0 0x10) 0x01000000) : State), (0 : Nat), (8 : Nat), by decide +kernel⟩,
   ⟨(.fn 0 : Master), by decide +kernel⟩,
   ⟨(st 2500 ((withPort { linkUp := true, stuck := [(8, 1)] }).putReg (emacAddr 0 0x14) 0x80000000) : State), (0 : Nat), (8 : Nat), by decide +kernel⟩,
   ⟨(st 2500 (withPort { linkUp := true, deaf := [(8, 1)] }) : State), (0 : Nat), (8 : Nat), by decide +kernel⟩⟩

/-- The hypotheses of each clause of TransmitAndWakeComplete are met. -/
theorem witness_TransmitAndWakeComplete :
    (∃ (s : State) (p : Nat) (q : Nat) (x : Pkt) (rest : List Pkt), ((∀ k, q < k → k < 8 → s.dev.eligible p k = false)) ∧ (s.dev.running = true) ∧ ((s.dev.port p).linkUp = true) ∧ ((s.dev.port p).busyUntil < s.dev.glb.up + 1000) ∧ ((∀ k, k < 8 → s.dev.queueDeaf p k = false)) ∧ (q < 8) ∧ (s.dev.eligible p q = true) ∧ ((s.dev.port p).queue q = x :: rest) ∧ (14 ≤ x.octets.length) ∧ (x.octets.length + 4 ≤ s.dev.maxFrame p)) ∧
    (∃ (s : State) (p : Nat), ((∀ k, k < 8 → s.dev.queueDeaf p k = false)) ∧ (((s.dev.port p).linkUp = false ∨ s.dev.glb.up + 1000 ≤ (s.dev.port p).busyUntil ∨ s.dev.running = false ∨ (∀ k, k < 8 → s.dev.eligible p k = false)))) ∧
    (∃ (s : State) (p : Nat) (c : Nat) (k : Nat) (x : WakeFact), (s.dev.wakeable = true) ∧ (s.dev.wakeCause p x = some (c, k)) ∧ (s.dev.emac.wakeStatus.getLsbD 31 = false)) :=
  ⟨⟨(st 2500 (withPort { linkUp := true, rateUsed := 3, queues := [(3, [pkt 2 5 1])] }) : State), (0 : Nat), (3 : Nat), (pkt 2 5 1 : Pkt), ([] : List Pkt), above (by decide +kernel), by decide +kernel⟩,
   ⟨(st 2500 base : State), (0 : Nat), by decide +kernel⟩,
   ⟨(st 2500 ({ base with gaf := { state := .interval } }.putReg 0x800100 0x00140000) : State), (0 : Nat), (2 : Nat), (0 : Nat), (.link : WakeFact), by decide +kernel⟩⟩

/-- The hypotheses of each clause of RouterFramesTakeTheirPath are met. -/
theorem witness_RouterFramesTakeTheirPath :
    (∃ (s : State) (x : Pkt) (rest : List Pkt) (p : Parsed) (n : Nat) (g : Nat) (nh : RteEnt), (g = fld (wd nh.words 0) 57 46) ∧ (s.dev.routerOpen = true) ∧ (s.dev.rte.bucketReads ≤ 398) ∧ (s.dev.rte.ring = x :: rest) ∧ (x.srcKind = 2) ∧ (x.again = false) ∧ (parseFrame x.octets = .ok p) ∧ (s.dev.localEp x.tenant p = none) ∧ (s.dev.aclRule x.tenant 2 p = none) ∧ (s.dev.rteFind 0 x.tenant 0 (flowKeyOf 2 p) = none) ∧ (s.dev.natPool x.tenant p = false) ∧ (s.dev.routeOf x.tenant p = some (n, false, false)) ∧ (2 ≤ p.ttl) ∧ (s.dev.rteAt 3 0 n = some nh) ∧ (nh.tenant = x.tenant) ∧ (fld (wd nh.words 0) 59 58 = 2) ∧ (p.ipEnd - 14 ≤ fld (wd nh.words 0) 19 6) ∧ (fld (wd nh.words 1) 63 48 = 0xFFFF) ∧ ((s.dev.ring g).owner = x.tenant) ∧ ((s.dev.ring g).st = .running) ∧ ((s.dev.ring g).kind = 1) ∧ ((s.dev.ring g).queue ≠ []) ∧ (queueOctets (s.dev.ring g).queue + x.octets.length + 8 ≤ s.dev.pv 0x6204 0 g * 1024)) ∧
    (∃ (s : State) (x : Pkt) (rest : List Pkt) (p : Parsed) (k : Nat), (s.dev.routerOpen = true) ∧ (s.dev.rte.bucketReads ≤ 398) ∧ (s.dev.rte.ring = x :: rest) ∧ (x.srcKind = 2) ∧ (x.again = false) ∧ (parseFrame x.octets = .ok p) ∧ (s.dev.localEp x.tenant p = none) ∧ (s.dev.aclRule x.tenant 2 p = none) ∧ (s.dev.rteFind 0 x.tenant 0 (flowKeyOf 2 p) = none) ∧ (s.dev.natPool x.tenant p = false) ∧ (s.dev.routeOf x.tenant p = none) ∧ (s.dev.slowRoom = some k)) ∧
    (∃ (s : State) (q : Nat) (k : Nat) (x : Pkt) (rest : List (Nat × Pkt)), (s.dev.routerOpen = true) ∧ (s.dev.rte.bucketReads ≤ 398) ∧ (tlook (fun _ => []) s.dev.rte.waiting q = []) ∧ (s.dev.gaf.quiesced.testBit 1 = false) ∧ ((s.dev.port q).clear = []) ∧ ((s.dev.port q).rx = (k, x) :: rest) ∧ ((tlook (fun _ => ({} : MacsecPort)) s.dev.wcx.macsec q).en = false) ∧ (x.srcKind = 0) ∧ (x.again = false) ∧ (x.desc = none) ∧ (s.dev.btTakes x = false) ∧ (s.dev.vlanIn x = none)) ∧
    (∃ (s : State), (s.dev.routerOpen = false)) :=
  ⟨⟨(st 2500 { base with rte := { ring := [pkt 2 5 1], ents := [⟨1, 1, 0, [packW [(0x0A000000, 32, 32), (8, 6, 26), (7, 16, 0)]]⟩, ⟨3, 1, 7, [packW [(2, 2, 58), (20, 12, 46), (1500, 14, 6)], packW [(0xFFFF, 16, 48)]]⟩] }, tm := { ring := [(20, { owner := 1, loc := 0, st := .running, ctrl := 0x90060010, queue := [pkt 2 5 1] })] } } : State), (pkt 2 5 1 : Pkt), ([] : List Pkt), (ip4p : Parsed), (7 : Nat), (fld (wd (⟨3, 1, 7, [packW [(2, 2, 58), (20, 12, 46), (1500, 14, 6)], packW [(0xFFFF, 16, 48)]]⟩ : RteEnt).words 0) 57 46 : Nat), (⟨3, 1, 7, [packW [(2, 2, 58), (20, 12, 46), (1500, 14, 6)], packW [(0xFFFF, 16, 48)]]⟩ : RteEnt), rfl, by (repeat' apply And.intro) <;> decide +kernel⟩,
   ⟨(st 2500 { base with rte := { ring := [pkt 2 5 1] } } : State), (pkt 2 5 1 : Pkt), ([] : List Pkt), (ip4p : Parsed), (0 : Nat), by (repeat' apply And.intro) <;> decide +kernel⟩,
   ⟨(st 2500 { (withPort { linkUp := true, rx := [(0, pkt 0 0 0)] }) with rte := {} } : State), (0 : Nat), (0 : Nat), (pkt 0 0 0 : Pkt), ([] : List (Nat × Pkt)), by (repeat' apply And.intro) <;> decide +kernel⟩,
   ⟨(st 2500 { base with gaf := { held := true } } : State), by decide +kernel⟩⟩

/-- The hypotheses of each clause of RouterIntakeAndTablesComplete are met. -/
theorem witness_RouterIntakeAndTablesComplete :
    (∃ (s : State) (p : Nat) (reason : Nat) (k : Nat) (x : Pkt) (rest : List (Nat × Pkt)), (tlook (fun _ => []) s.dev.rte.waiting p = (reason, x) :: rest) ∧ (s.dev.slowRoom = some k)) ∧
    (∃ (s : State) (f : Nat) (req : List Word) (q : RteReq) (n : Nat), (q = rteReq (.fn f) req) ∧ (Admitted s.dev f req n) ∧ (rteLenOk req n = true) ∧ (resv (wd req 1) [(59, 57), (55, 52), (47, 32)] = false) ∧ ((f ≠ 0 → fld (wd req 1) 51 48 = 0)) ∧ (s.dev.rteDenied (.fn f) q true = false) ∧ (rteBad q true = false) ∧ (s.dev.rteWrong q = false) ∧ (s.dev.rteFull q = false) ∧ (s.dev.rteLost q = false) ∧ (s.dev.claimed .table' (rteClaimNo q) = false)) ∧
    (∃ (s : State) (f : Nat) (req : List Word) (q : RteReq) (n : Nat), (q = rteReq (.fn f) req) ∧ (Admitted s.dev f req n) ∧ (rteLenOk req n = true) ∧ (resv (wd req 1) [(59, 57), (55, 52), (47, 32)] = false) ∧ ((f ≠ 0 → fld (wd req 1) 51 48 = 0)) ∧ (s.dev.rteDenied (.fn f) q true = false) ∧ (rteBad q true = false) ∧ (s.dev.rteWrong q = false) ∧ (s.dev.rteFull q = true)) ∧
    (∃ (s : State) (f : Nat) (req : List Word) (q : RteReq) (n : Nat) (e : RteEnt), (q = rteReq (.fn f) req) ∧ (Admitted s.dev f req n) ∧ (rteLenOk req n = true) ∧ (resv (wd req 1) [(59, 52), (47, 32)] = false) ∧ ((f ≠ 0 → fld (wd req 1) 51 48 = 0)) ∧ (s.dev.rteDenied (.fn f) q false = false) ∧ (rteBad q false = false) ∧ (s.dev.rteFind q.tb q.ten q.ix q.key = some e)) :=
  ⟨⟨(st 2500 { base with rte := { waiting := [(0, [(4, pkt 0 0 0)])] } } : State), (0 : Nat), (4 : Nat), (0 : Nat), (pkt 0 0 0 : Pkt), ([] : List (Nat × Pkt)), by decide +kernel⟩,
   ⟨(st 2500 base : State), (1 : Nat), (rq 7 0x640 (packW [(0, 4, 60), (0, 32, 0)] :: [packW [(2000, 16, 18), (1000, 16, 34), (17, 8, 50)], 0, 0x0A000001, 0, 0x0A000002, 0, 0, 0]) : List Word), (rteReq (.fn (1 : Nat)) (rq 7 0x640 (packW [(0, 4, 60), (0, 32, 0)] :: [packW [(2000, 16, 18), (1000, 16, 34), (17, 8, 50)], 0, 0x0A000001, 0, 0x0A000002, 0, 0, 0]) : List Word) : RteReq), (10 : Nat), rfl, admitted_of (by decide +kernel), by decide +kernel⟩,
   ⟨(st 2500 { base with props := [(propKey 0x6102 1 0, 0)], force := [(propKey 0x6102 1 0, 0)] } : State), (1 : Nat), (rq 7 0x640 (packW [(0, 4, 60), (0, 32, 0)] :: [packW [(2000, 16, 18), (1000, 16, 34), (17, 8, 50)], 0, 0x0A000001, 0, 0x0A000002, 0, 0, 0]) : List Word), (rteReq (.fn (1 : Nat)) (rq 7 0x640 (packW [(0, 4, 60), (0, 32, 0)] :: [packW [(2000, 16, 18), (1000, 16, 34), (17, 8, 50)], 0, 0x0A000001, 0, 0x0A000002, 0, 0, 0]) : List Word) : RteReq), (10 : Nat), rfl, admitted_of (by decide +kernel), by decide +kernel⟩,
   ⟨(st 2500 { base with rte := { ents := [⟨0, 1, 0, [packW [(2000, 16, 18), (1000, 16, 34), (17, 8, 50)], 0, 0x0A000001, 0, 0x0A000002, 0, 0, 0]⟩] } } : State), (1 : Nat), (rq 7 0x641 (packW [(0, 4, 60), (0, 32, 0)] :: [packW [(2000, 16, 18), (1000, 16, 34), (17, 8, 50)], 0, 0x0A000001, 0, 0x0A000002, 0, 0, 0]) : List Word), (rteReq (.fn (1 : Nat)) (rq 7 0x641 (packW [(0, 4, 60), (0, 32, 0)] :: [packW [(2000, 16, 18), (1000, 16, 34), (17, 8, 50)], 0, 0x0A000001, 0, 0x0A000002, 0, 0, 0]) : List Word) : RteReq), (10 : Nat), (⟨0, 1, 0, [packW [(2000, 16, 18), (1000, 16, 34), (17, 8, 50)], 0, 0x0A000001, 0, 0x0A000002, 0, 0, 0]⟩ : RteEnt), rfl, admitted_of (by decide +kernel), by decide +kernel⟩⟩

/-- The hypotheses of each clause of BssAndBeaconCommandsComplete are met. -/
theorem witness_BssAndBeaconCommandsComplete :
    (∃ (s : State) (req : List Word) (tpl : Option (List Byte)) (b : Nat) (k : Nat) (ten : Nat) (mld : Nat) (len : Nat), (Admitted s.dev 0 req 5) ∧ (b = fld (wd req 2) 5 0) ∧ (k = fld (wd req 2) 39 24) ∧ (ten = fld (wd req 2) 43 40) ∧ (mld = fld (wd req 2) 10 6) ∧ (len = fld (wd req 4) 11 0) ∧ (resv (wd req 1) [(63, 48)] = false) ∧ (resv (wd req 2) [(63, 44), (15, 14)] = false) ∧ (resv (wd req 4) [(63, 12)] = false) ∧ (b ≤ 47) ∧ (fld (wd req 2) 13 12 ≠ 3) ∧ ((nbit (wd req 2).toNat 11 = true → fld (wd req 2) 13 12 ≠ 0)) ∧ (1 ≤ k) ∧ (k ≤ 1000) ∧ (fld (wd req 2) 23 16 ≠ 0) ∧ (len ≤ 2048) ∧ (fld (wd req 3) 1 0 = 0) ∧ ((mld < 16 ∨ mld = 31)) ∧ ((s.dev.bssAt b).running = false) ∧ ((mld ≠ 31 → ∀ e ∈ s.dev.otherBss b, e.2.mld = mld → radioOf e.1 ≠ radioOf b ∧ e.2.tenant = ten)) ∧ ((∀ e ∈ s.dev.otherBss b, e.2.bssid ≠ fld (wd req 1) 47 0)) ∧ ((s.dev.radio (radioOf b)).inService = true) ∧ ((len = 0 ∨ tpl ≠ none))) ∧
    (∃ (s : State) (req : List Word) (b : Nat), (Admitted s.dev 0 req 2) ∧ (b = fld (wd req 1) 5 0) ∧ (resv (wd req 1) [(63, 9), (7, 6)] = false) ∧ (b ≤ 47) ∧ ((s.dev.bssAt b).running = true) ∧ ((nbit (wd req 1).toNat 8 = true ∨ s.dev.bssStations b = []))) ∧
    (∃ (s : State) (b : Nat) (ns : Nat) (x : Bss), (x = s.dev.bssAt b) ∧ (s.dev.beaconOwed s.now b = true) ∧ ((x.beaconProt = false ∨ 3 ∈ x.enc)) ∧ (s.dev.txopFits s.now (radioOf b) ns = true) ∧ (beatOf s.now < 1000)) ∧
    (∃ (s : State) (b : Nat) (ns : Nat), ((s.dev.beaconOwed s.now b = false ∨ s.dev.txopFits s.now (radioOf b) ns = false))) ∧
    (∃ (s : State) (b : Nat), (s.dev.beaconOwed s.now b = true) ∧ (1000 ≤ beatOf s.now)) ∧
    (∃ (s : State) (b : Nat) (ac : Nat) (x : TxopFacts), (((s.dev.bssAt b).running = true ∨ (s.dev.bssAt b).deauth = true)) ∧ (s.dev.txopFits s.now (radioOf b) x.durationNs = true) ∧ (s.dev.txopBounds s.now b ac x = true)) :=
  ⟨⟨(st 2500 { base with fe := { radio := [(0, { inService := true })] } } : State), (rq 7 0x200 [0x020000000001, packW [(1, 4, 40), (100, 16, 24), (3, 8, 16), (31, 5, 6), (0, 6, 0)], 0, 0] : List Word), (none : Option (List Byte)), (fld (wd (rq 7 0x200 [0x020000000001, packW [(1, 4, 40), (100, 16, 24), (3, 8, 16), (31, 5, 6), (0, 6, 0)], 0, 0] : List Word) 2) 5 0 : Nat), (fld (wd (rq 7 0x200 [0x020000000001, packW [(1, 4, 40), (100, 16, 24), (3, 8, 16), (31, 5, 6), (0, 6, 0)], 0, 0] : List Word) 2) 39 24 : Nat), (fld (wd (rq 7 0x200 [0x020000000001, packW [(1, 4, 40), (100, 16, 24), (3, 8, 16), (31, 5, 6), (0, 6, 0)], 0, 0] : List Word) 2) 43 40 : Nat), (fld (wd (rq 7 0x200 [0x020000000001, packW [(1, 4, 40), (100, 16, 24), (3, 8, 16), (31, 5, 6), (0, 6, 0)], 0, 0] : List Word) 2) 10 6 : Nat), (fld (wd (rq 7 0x200 [0x020000000001, packW [(1, 4, 40), (100, 16, 24), (3, 8, 16), (31, 5, 6), (0, 6, 0)], 0, 0] : List Word) 4) 11 0 : Nat), admitted_of (by decide +kernel), rfl, rfl, rfl, rfl, rfl, by (repeat' apply And.intro) <;> decide +kernel⟩,
   ⟨(st 2500 air : State), (rq 7 0x201 [0x100] : List Word), (fld (wd (rq 7 0x201 [0x100] : List Word) 1) 5 0 : Nat), admitted_of (by decide +kernel), rfl, by decide +kernel⟩,
   ⟨(st 2500 air : State), (0 : Nat), (500000 : Nat), ((st 2500 air : State).dev.bssAt (0 : Nat) : Bss), rfl, by decide +kernel⟩,
   ⟨(st 2500 base : State), (0 : Nat), (500000 : Nat), by decide +kernel⟩,
   ⟨(st 1001000 air : State), (0 : Nat), by decide +kernel⟩,
   ⟨(st 2500 air : State), (0 : Nat), (2 : Nat), ({ durationNs := 100000 } : TxopFacts), by decide +kernel⟩⟩

/-- The hypotheses of each clause of StationCommandsComplete are met. -/
theorem witness_StationCommandsComplete :
    (∃ (s : State) (f : Nat) (req : List Word) (b : Nat) (aid : Nat) (addr : Nat) (links : Nat) (sid : Nat), (Admitted s.dev f req 8) ∧ (b = fld (wd req 2) 48 43) ∧ (aid = fld (wd req 2) 42 32) ∧ (addr = fld (wd req 1) 47 0) ∧ (links = linkMask (fld (wd req 3) 47 0) (fld (wd req 4) 47 0) (fld (wd req 5) 47 0)) ∧ (staAddSpec.reserved req = false) ∧ (b ≤ 47) ∧ ((s.dev.bssAt b).running = true) ∧ ((f = 0 ∨ (s.dev.bssAt b).tenant = f)) ∧ (aid ≠ 0) ∧ (aid ≤ 2007) ∧ (fld (wd req 2) 25 24 ≠ 3) ∧ (fld (wd req 2) 23 20 ≤ 10) ∧ (links ≠ 0) ∧ ((nbit (wd req 2).toNat 55 = true → nbit (wd req 2).toNat 56 = true)) ∧ ((nbit (wd req 2).toNat 56 = false → links = 2 ^ radioOf b ∧ (staLinks req).getD (radioOf b) 0 = addr)) ∧ ((nbit (wd req 2).toNat 56 = true → ∀ r, r < 3 → nbit links r = true → (s.dev.bssAt b).mld ≠ 31 ∧ ∃ e ∈ s.dev.mac.bss, e.2.running = true ∧ e.2.mld = (s.dev.bssAt b).mld ∧ radioOf e.1 = r)) ∧ (mapBad links (fld (wd req 6) 47 24) = false) ∧ (mapBad links (fld (wd req 6) 23 0) = false) ∧ ((∀ r, r < 3 → nbits (fld (wd req 7) 23 0) (8 * r + 7) (8 * r + 5) ≤ maxBw r)) ∧ ((∀ k ∈ staClaims (s.dev.aidSpace b) aid (addr :: (staLinks req).filter (· != 0)), s.dev.claimed .sid k = false)) ∧ ((∀ e ∈ s.dev.mac.sta, e.2.used = true → s.dev.aidSpace e.2.bss = s.dev.aidSpace b → e.2.aid ≠ aid ∧ ∀ a ∈ e.2.addrs, a ∉ addr :: (staLinks req).filter (· != 0))) ∧ (s.dev.freeSid = some sid)) ∧
    (∃ (s : State) (f : Nat) (req : List Word) (sid : Nat), (Admitted s.dev f req 2) ∧ (sid = fld (wd req 1) 11 0) ∧ (resv (wd req 1) [(63, 12)] = false) ∧ ((s.dev.sta sid).used = true) ∧ (s.dev.ownsSta (.fn f) sid = true)) ∧
    (∃ (s : State) (f : Nat) (req : List Word) (sid : Nat) (x : Sta) (c : CallSheet), (Admitted s.dev f req 2) ∧ (sid = fld (wd req 1) 11 0) ∧ (x = s.dev.sta sid) ∧ (c = s.dev.callOf sid) ∧ (resv (wd req 1) [(63, 12)] = false) ∧ (x.used = true) ∧ (s.dev.ownsSta (.fn f) sid = true)) :=
  ⟨⟨(st 2500 air : State), (1 : Nat), (rq 7 0x210  [0x020000000077, packW [(0, 6, 43), (10, 11, 32), (1, 2, 24), (3, 4, 20)], 0x020000000077, 0, 0, 0, 0] : List Word), (fld (wd (rq 7 0x210  [0x020000000077, packW [(0, 6, 43), (10, 11, 32), (1, 2, 24), (3, 4, 20)], 0x020000000077, 0, 0, 0, 0] : List Word) 2) 48 43 : Nat), (fld (wd (rq 7 0x210  [0x020000000077, packW [(0, 6, 43), (10, 11, 32), (1, 2, 24), (3, 4, 20)], 0x020000000077, 0, 0, 0, 0] : List Word) 2) 42 32 : Nat), (fld (wd (rq 7 0x210  [0x020000000077, packW [(0, 6, 43), (10, 11, 32), (1, 2, 24), (3, 4, 20)], 0x020000000077, 0, 0, 0, 0] : List Word) 1) 47 0 : Nat), (linkMask (fld (wd (rq 7 0x210  [0x020000000077, packW [(0, 6, 43), (10, 11, 32), (1, 2, 24), (3, 4, 20)], 0x020000000077, 0, 0, 0, 0] : List Word) 3) 47 0) (fld (wd (rq 7 0x210  [0x020000000077, packW [(0, 6, 43), (10, 11, 32), (1, 2, 24), (3, 4, 20)], 0x020000000077, 0, 0, 0, 0] : List Word) 4) 47 0) (fld (wd (rq 7 0x210  [0x020000000077, packW [(0, 6, 43), (10, 11, 32), (1, 2, 24), (3, 4, 20)], 0x020000000077, 0, 0, 0, 0] : List Word) 5) 47 0) : Nat), (0 : Nat), admitted_of (by decide +kernel), rfl, rfl, rfl, rfl, by (repeat' apply And.intro) <;> decide +kernel⟩,
   ⟨(st 2500 air : State), (1 : Nat), (rq 7 0x211 [5] : List Word), (fld (wd (rq 7 0x211 [5] : List Word) 1) 11 0 : Nat), admitted_of (by decide +kernel), rfl, by decide +kernel⟩,
   ⟨(st 2500 air : State), (1 : Nat), (rq 7 0x212 [5] : List Word), (fld (wd (rq 7 0x212 [5] : List Word) 1) 11 0 : Nat), ((st 2500 air : State).dev.sta (fld (wd (rq 7 0x212 [5] : List Word) 1) 11 0 : Nat) : Sta), ((st 2500 air : State).dev.callOf (fld (wd (rq 7 0x212 [5] : List Word) 1) 11 0 : Nat) : CallSheet), admitted_of (by decide +kernel), rfl, rfl, rfl, by decide +kernel⟩⟩

/-- The hypotheses of each clause of MacReceptionCompletes are met. -/
theorem witness_MacReceptionCompletes :
    (∃ (s : State) (r : Nat) (sid : Nat) (tid : Nat) (seq : Nat) (x : RxMpdu) (m : List Byte), (x.fcsOk = true) ∧ (x.len ≤ 11454) ∧ (x.offset < 8388607) ∧ ((s.dev.bssAt x.bss).running = true) ∧ (s.dev.hears r = true) ∧ ((∀ y ∈ (s.dev.rx r).done, y.start ≠ x.ppdu)) ∧ (radioOf x.bss = r) ∧ (s.dev.sender r x.bss x.ta = some sid) ∧ (x.kind = .data tid seq [m]) ∧ (x.protected' = false) ∧ (x.robust = false) ∧ (m.length ≤ 2316) ∧ ((s.dev.ba sid tid).on = false)) ∧
    (∃ (s : State) (r : Nat), (s.dev.hears r = false) ∧ ((s.dev.rx r).done = [])) ∧
    (∃ (s : State) (r : Nat) (x : RxMpdu), (r < 3) ∧ (x.fcsOk = false) ∧ (s.dev.hears r = true) ∧ ((s.dev.rx r).done = [])) ∧
    (∃ (s : State) (sid : Nat) (tid : Nat) (h : Held), ((s.dev.ba sid tid).held = [h]) ∧ (h.time + s.dev.pv 0x2031 * 1000000 ≤ s.now) ∧ (h.prot = false) ∧ (h.seq ≠ (s.dev.ba sid tid).next) ∧ (h.seq < 4096) ∧ ((s.dev.ba sid tid).next < 4096) ∧ ((∀ m ∈ h.msdus, m.length ≤ 2316))) ∧
    (∃ (s : State) (sid : Nat) (id : Nat) (m : Msdu), ((s.dev.sta sid).queue.find? (fun y => y.id == id) = some m) ∧ (m.onAir = none) ∧ ((∀ r, r < 3 → (s.dev.play r).due s.now = false)) ∧ (m.entry + s.dev.lifeNs (s.dev.staTenant sid) m.ac ≤ s.now)) :=
  ⟨⟨(st 2500 air : State), (0 : Nat), (5 : Nat), (0 : Nat), (5 : Nat), ({ ta := 0x020000000055, bss := 0, len := 100, kind := .data 0 5 [List.replicate 80 1] } : RxMpdu), (List.replicate 80 1 : List Byte), by (repeat' apply And.intro) <;> decide +kernel⟩,
   ⟨(st 2500 base : State), (0 : Nat), by decide +kernel⟩,
   ⟨(st 2500 air : State), (0 : Nat), ({ ta := 1, bss := 0, len := 10, fcsOk := false, kind := .ctrl } : RxMpdu), by decide +kernel⟩,
   ⟨(st 500000000 (withSta { sta5 with baRx := [(0, { window := 64, next := 4, held := [⟨6, 1000, [List.replicate 80 1], false⟩], on := true })] }) : State), (5 : Nat), (0 : Nat), (⟨6, 1000, [List.replicate 80 1], false⟩ : Held), by decide +kernel⟩,
   ⟨(st 500000000000 (withSta { sta5 with queue := [{ id := 3, ac := 2, tid := 4, len := 100, entry := 0 }] }) : State), (5 : Nat), (3 : Nat), ({ id := 3, ac := 2, tid := 4, len := 100, entry := 0 } : Msdu), by decide +kernel⟩⟩

/-- The hypotheses of each clause of ReceptionsAndNoiseComplete are met. -/
theorem witness_ReceptionsAndNoiseComplete :
    (∃ (s : State) (r : Nat) (x : Detect), (s.dev.correlates s.now r x.transmitting = true) ∧ ((s.dev.rx r).receiving = false) ∧ (s.dev.pv 0x3002 0 r ≤ x.corr) ∧ (s.dev.pvi 0x3001 0 r ≤ x.power) ∧ ((x.dsss = true → s.dev.barker r = true))) ∧
    (∃ (s : State) (r : Nat) (x : Detect), ((s.dev.correlates s.now r x.transmitting = false ∨ (s.dev.rx r).receiving = true ∨ x.corr < s.dev.pv 0x3002 0 r ∨ x.power < s.dev.pvi 0x3001 0 r))) ∧
    (∃ (s : State) (r : Nat) (x : LSig), ((s.dev.rx r).receiving = true) ∧ ((s.dev.rx r).dsss = false) ∧ ((s.dev.rx r).lsigPassed = false) ∧ (s.dev.lsigFails r x = false)) ∧
    (∃ (s : State) (r : Nat) (x : LSig), ((s.dev.rx r).receiving = true) ∧ ((s.dev.rx r).dsss = false) ∧ ((s.dev.rx r).lsigPassed = false) ∧ (s.dev.lsigFails r x = true)) ∧
    (∃ (s : State) (r : Nat) (bad : Bool), ((s.dev.rx r).receiving = true) ∧ ((s.dev.rx r).dsss = true) ∧ ((bad = true ∨ (s.dev.rx r).noSfd s.now = true))) ∧
    (∃ (s : State) (r : Nat) (power : Int) (x : Newcomer), ((s.dev.rx r).receiving = true) ∧ (s.dev.hears r = true) ∧ ((s.dev.correlates s.now r false = true ∨ x.txStarts = true)) ∧ ((x.dsss = true → s.dev.barker r = true)) ∧ (s.dev.captures r power x.txStarts = true)) ∧
    (∃ (s : State) (r : Nat) (power : Int) (lsig : Option LSig) (x : Newcomer), ((s.dev.rx r).receiving = true) ∧ (s.dev.hears r = true) ∧ ((s.dev.correlates s.now r false = true ∨ x.txStarts = true)) ∧ ((x.dsss = true → s.dev.barker r = true)) ∧ (s.dev.captures r power x.txStarts = false) ∧ (lsig = none)) ∧
    (∃ (s : State) (r : Nat) (colour : Nat) (power : Int), ((s.dev.rx r).receiving = true) ∧ ((s.dev.rx r).solicited = false) ∧ (s.dev.ownColour r colour = false) ∧ (power < s.dev.obssPd s.now r)) ∧
    (∃ (s : State) (r : Nat), ((s.dev.rx r).receiving = true)) ∧
    (∃ (s : State) (f : Nat) (req : List Word) (x : Nat × NoiseRep), (Admitted s.dev f req 2) ∧ (resv (wd req 1) [(63, 50)] = false) ∧ (fld (wd req 1) 49 48 ≠ 3) ∧ (s.dev.mdm.noise.find? (fun y => y.1 == fld (wd req 1) 49 48 && y.2.tick == fld (wd req 1) 47 0) = some x) ∧ (x.2.inService = true) ∧ (fld (wd req 1) 47 0 < tickOf s.now) ∧ (tickOf s.now ≤ fld (wd req 1) 47 0 + 64)) ∧
    (∃ (s : State) (f : Nat) (req : List Word) (sid : Nat), (Admitted s.dev f req 2) ∧ (sid = fld (wd req 1) 11 0) ∧ (resv (wd req 1) [(63, 12)] = false) ∧ ((s.dev.sta sid).used = true) ∧ (s.dev.ownsSta (.fn f) sid = true)) :=
  ⟨⟨(st 2500 air : State), (0 : Nat), ({ corr := 255, power := -50 } : Detect), by decide +kernel⟩,
   ⟨(st 2500 base : State), (0 : Nat), ({ corr := 255, power := -50 } : Detect), by decide +kernel⟩,
   ⟨(st 2500 (withRx { receiving := true }) : State), (0 : Nat), ({ parityOk := true, rateOk := true, length := 100, durationUs := 100, quality := 255 } : LSig), by decide +kernel⟩,
   ⟨(st 2500 (withRx { receiving := true }) : State), (0 : Nat), ({ parityOk := false, rateOk := true, length := 100, durationUs := 100, quality := 255 } : LSig), by decide +kernel⟩,
   ⟨(st 2500 (withRx { receiving := true, dsss := true }) : State), (0 : Nat), (true : Bool), by decide +kernel⟩,
   ⟨(st 12500 (withRx { receiving := true, level := -60 }) : State), (0 : Nat), (-30 : Int), ({} : Newcomer), by decide +kernel⟩,
   ⟨(st 2500 (withRx { receiving := true, level := -60 }) : State), (0 : Nat), (-59 : Int), (none : Option LSig), ({} : Newcomer), by decide +kernel⟩,
   ⟨(st 2500 (withRx { receiving := true, level := -60 }) : State), (0 : Nat), (5 : Nat), (-100 : Int), by decide +kernel⟩,
   ⟨(st 2500 (withRx { receiving := true, level := -60, lsigPassed := true }) : State), (0 : Nat), by decide +kernel⟩,
   ⟨(st 2048000 { air with mdm := { noise := [(0, { tick := 1, idle := 5, nSub := 1, primary := 0, inService := true, entries := [] })] } } : State), (1 : Nat), (rq 7 0x300 [1] : List Word), ((0, { tick := 1, idle := 5, nSub := 1, primary := 0, inService := true, entries := [] }) : Nat × NoiseRep), admitted_of (by decide +kernel), by decide +kernel⟩,
   ⟨(st 2500 air : State), (1 : Nat), (rq 7 0x301 [5] : List Word), (fld (wd (rq 7 0x301 [5] : List Word) 1) 11 0 : Nat), admitted_of (by decide +kernel), rfl, by decide +kernel⟩⟩

/-- The hypotheses of each clause of CodewordsAndRetakeComplete are met. -/
theorem witness_CodewordsAndRetakeComplete :
    (∃ (s : State) (cw : Codeword), (s.dev.lostTo cw.radio cw.ppdu cw.lastLlr (some cw.sid) = false)) ∧
    (∃ (s : State) (cw : Codeword), (s.dev.lostTo cw.radio cw.ppdu cw.lastLlr (some cw.sid) = true)) ∧
    (∃ (s : State) (cw : Codeword) (o : CwOutcome) (n : Nat), ((cw.aligned = false ∨ (s.dev.peer cw.sid).ul = false)) ∧ (s.dev.cwEnd cw = (o, n))) ∧
    (∃ (s : State) (cw : Codeword) (o : CwOutcome) (n : Nat), ((cw.aligned = false ∨ (s.dev.peer cw.sid).ul = false)) ∧ (s.dev.cwEnd cw = (o, n))) ∧
    (∃ (s : State) (cw : Codeword) (o : CwOutcome) (n : Nat), ((cw.aligned = false ∨ (s.dev.peer cw.sid).ul = false)) ∧ (s.dev.cwEnd cw = (o, n))) ∧
    (∃ (s : State) (x : CwRun), (s.dev.dec.running = [x]) ∧ (x.ends ≤ s.now) ∧ (x.toMac = true)) ∧
    (∃ (s : State) (x : CwRun), (s.dev.dec.running = [x]) ∧ (x.ends ≤ s.now) ∧ (x.toMac = true)) ∧
    (∃ (s : State) (x : CwRun), (s.dev.dec.running = [x]) ∧ (x.ends ≤ s.now) ∧ (x.toMac = true)) ∧
    (∃ (s : State) (x : CwRun), (s.dev.dec.running = [x]) ∧ (x.ends ≤ s.now) ∧ (x.toMac = true) ∧ (x.code = 4)) ∧
    (∃ (s : State) (cw : Codeword), ((cw.aligned = false ∨ (s.dev.peer cw.sid).ul = false))) ∧
    (∃ (s : State) (cw : Codeword) (o : CwOutcome) (n : Nat), (cw.aligned = true) ∧ ((s.dev.peer cw.sid).ul = true) ∧ (cw.copyPsdu = false) ∧ (cw.index ≠ 0) ∧ (s.dev.dec.passed.contains (cw.sid, cw.radio, cw.rsn) = true) ∧ (s.dev.cwEnd cw = (o, n)) ∧ (2 ≤ o.code) ∧ (s.dev.dec.slots.length < 524288)) ∧
    (∃ (s : State) (cw : Codeword) (o : CwOutcome) (n : Nat), (cw.aligned = true) ∧ ((s.dev.peer cw.sid).ul = true) ∧ (cw.copyPsdu = false) ∧ (cw.index ≠ 0) ∧ (s.dev.dec.passed.contains (cw.sid, cw.radio, cw.rsn) = true) ∧ (s.dev.cwEnd cw = (o, n)) ∧ (2 ≤ o.code) ∧ (s.dev.dec.slots.length < 524288)) ∧
    (∃ (s : State) (cw : Codeword) (n : Nat) (rsn : Nat) (index : Nat) (x : Slot), (cw.aligned = true) ∧ ((s.dev.peer cw.sid).ul = true) ∧ (cw.copyPsdu = true) ∧ (cw.index ≠ 0) ∧ (s.dev.dec.bad.contains (cw.radio * 4096 + cw.sid) = false) ∧ (copyOf (tlook (fun _ => []) s.dev.dec.maps (cw.radio * 4096 + cw.sid)) (cw.index - 1) = some (rsn, index)) ∧ (s.dev.dec.slots.find? (fun x => x.isAt cw.sid rsn index && x.gone.isNone && decide (cw.lastLlr < x.expiry * 1024000)) = some x) ∧ (x.rate = cw.rate) ∧ (cw.readError = false) ∧ (s.dev.cwEnd cw = (.pass, n))) ∧
    (∃ (s : State) (cw : Codeword) (n : Nat) (rsn : Nat) (index : Nat) (x : Slot) (y : _), (cw.aligned = true) ∧ ((s.dev.peer cw.sid).ul = true) ∧ (cw.copyPsdu = true) ∧ (cw.index ≠ 0) ∧ (s.dev.dec.bad.contains (cw.radio * 4096 + cw.sid) = false) ∧ (copyOf (tlook (fun _ => []) s.dev.dec.maps (cw.radio * 4096 + cw.sid)) (cw.index - 1) = some (rsn, index)) ∧ (s.dev.dec.slots.find? (fun x => x.isAt cw.sid rsn index && x.gone.isNone && decide (cw.lastLlr < x.expiry * 1024000)) = some x) ∧ (x.rate = cw.rate) ∧ (cw.readError = false) ∧ (s.dev.cwEnd cw = (.pass, n)) ∧ (y ∈ (s.dev.serveCw s.now cw).dec.slots) ∧ (y.isAt cw.sid rsn index = true)) ∧
    (∃ (s : State) (cw : Codeword) (n : Nat) (rsn : Nat) (index : Nat) (x : Slot) (t : _) (y : _), (cw.aligned = true) ∧ ((s.dev.peer cw.sid).ul = true) ∧ (cw.copyPsdu = true) ∧ (cw.index ≠ 0) ∧ (s.dev.dec.bad.contains (cw.radio * 4096 + cw.sid) = false) ∧ (copyOf (tlook (fun _ => []) s.dev.dec.maps (cw.radio * 4096 + cw.sid)) (cw.index - 1) = some (rsn, index)) ∧ (s.dev.dec.slots.find? (fun x => x.isAt cw.sid rsn index && x.gone.isNone && decide (cw.lastLlr < x.expiry * 1024000)) = some x) ∧ (x.rate = cw.rate) ∧ (cw.readError = false) ∧ (s.dev.cwEnd cw = (.pass, n)) ∧ (s.dev.cwEnds cw n ≤ t) ∧ (y ∈ ((s.dev.serveCw s.now cw).landCws t).dec.slots)) ∧
    (∃ (s : State) (cw : Codeword) (o : CwOutcome) (n : Nat) (rsn : Nat) (index : Nat) (x : Slot), (cw.aligned = true) ∧ ((s.dev.peer cw.sid).ul = true) ∧ (cw.copyPsdu = true) ∧ (cw.index ≠ 0) ∧ (s.dev.dec.bad.contains (cw.radio * 4096 + cw.sid) = false) ∧ (copyOf (tlook (fun _ => []) s.dev.dec.maps (cw.radio * 4096 + cw.sid)) (cw.index - 1) = some (rsn, index)) ∧ (s.dev.dec.slots.find? (fun x => x.isAt cw.sid rsn index && x.gone.isNone && decide (cw.lastLlr < x.expiry * 1024000)) = some x) ∧ (x.rate = cw.rate) ∧ (cw.readError = false) ∧ (s.dev.cwEnd cw = (o, n)) ∧ (o ≠ .pass)) ∧
    (∃ (s : State) (cw : Codeword) (o : CwOutcome) (n : Nat) (rsn : Nat) (index : Nat) (x : Slot), (cw.aligned = true) ∧ ((s.dev.peer cw.sid).ul = true) ∧ (cw.copyPsdu = true) ∧ (cw.index ≠ 0) ∧ (s.dev.dec.bad.contains (cw.radio * 4096 + cw.sid) = false) ∧ (copyOf (tlook (fun _ => []) s.dev.dec.maps (cw.radio * 4096 + cw.sid)) (cw.index - 1) = some (rsn, index)) ∧ (s.dev.dec.slots.find? (fun x => x.isAt cw.sid rsn index && x.gone.isNone && decide (cw.lastLlr < x.expiry * 1024000)) = some x) ∧ (x.rate = cw.rate) ∧ (cw.readError = false) ∧ (s.dev.cwEnd cw = (o, n)) ∧ (o ≠ .pass)) ∧
    (∃ (s : State) (f : Nat) (req : List Word) (sid : Nat), (Admitted s.dev f req 3) ∧ (sid = fld (wd req 1) 11 0) ∧ (resv (wd req 1) [(63, 12)] = false) ∧ (resv (wd req 2) [(63, 40), (28, 16)] = false) ∧ ((s.dev.sta sid).used = true) ∧ (s.dev.ownsSta (.fn f) sid = true) ∧ (fld (wd req 2) 39 32 = 1) ∧ ((nbit (wd req 2).toNat 31 = true ∨ nbit (wd req 2).toNat 30 = true)) ∧ ((s.dev.sta sid).retakeOffered = true) ∧ ((s.dev.peer sid).accepted = false) ∧ (s.dev.pv 0x3060 (s.dev.staTenant sid) = 0)) ∧
    (∃ (s : State) (f : Nat) (req : List Word) (sid : Nat), (Admitted s.dev f req 3) ∧ (sid = fld (wd req 1) 11 0) ∧ (resv (wd req 1) [(63, 12)] = false) ∧ (resv (wd req 2) [(63, 40), (28, 16)] = false) ∧ ((s.dev.sta sid).used = true) ∧ (s.dev.ownsSta (.fn f) sid = true) ∧ (fld (wd req 2) 39 32 = 1) ∧ ((nbit (wd req 2).toNat 31 = true ∨ nbit (wd req 2).toNat 30 = true)) ∧ ((s.dev.sta sid).retakeOffered = true) ∧ ((s.dev.peer sid).accepted = false) ∧ (s.dev.pv 0x3060 (s.dev.staTenant sid) ≠ 0)) :=
  ⟨⟨(st 2500 air : State), ({ radio := 0, sid := 5, lastLlr := 1000, unsat := [3, 0], llrs := [40, -3, -200] } : Codeword), by decide +kernel⟩,
   ⟨(st 2500 (withRx { done := [{ start := 0, ended := 500, ok := false }] }) : State), ({ radio := 0, sid := 5, lastLlr := 1000, unsat := [3, 0], llrs := [40, -3, -200] } : Codeword), by decide +kernel⟩,
   ⟨(st 2500 air : State), ({ radio := 0, sid := 5, lastLlr := 1000, unsat := [3, 0], llrs := [40, -3, -200] } : Codeword), ((air.cwEnd { radio := 0, sid := 5, lastLlr := 1000, unsat := [3, 0], llrs := [40, -3, -200] }).1 : CwOutcome), ((air.cwEnd { radio := 0, sid := 5, lastLlr := 1000, unsat := [3, 0], llrs := [40, -3, -200] }).2 : Nat), by decide +kernel⟩,
   ⟨(st 2500 air : State), ({ radio := 0, sid := 5, lastLlr := 1000, unsat := [3, 0], llrs := [40, -3, -200] } : Codeword), ((air.cwEnd { radio := 0, sid := 5, lastLlr := 1000, unsat := [3, 0], llrs := [40, -3, -200] }).1 : CwOutcome), ((air.cwEnd { radio := 0, sid := 5, lastLlr := 1000, unsat := [3, 0], llrs := [40, -3, -200] }).2 : Nat), by decide +kernel⟩,
   ⟨(st 2500 air : State), ({ radio := 0, sid := 5, lastLlr := 1000, unsat := [3, 0], llrs := [40, -3, -200] } : Codeword), ((air.cwEnd { radio := 0, sid := 5, lastLlr := 1000, unsat := [3, 0], llrs := [40, -3, -200] }).1 : CwOutcome), ((air.cwEnd { radio := 0, sid := 5, lastLlr := 1000, unsat := [3, 0], llrs := [40, -3, -200] }).2 : Nat), by decide +kernel⟩,
   ⟨(st 2500 { air with dec := { running := [{ ends := 2000, radio := 0, sid := 5, code := 0, iters := 2 }] } } : State), ({ ends := 2000, radio := 0, sid := 5, code := 0, iters := 2 } : CwRun), by decide +kernel⟩,
   ⟨(st 2500 { air with dec := { running := [{ ends := 2000, radio := 0, sid := 5, code := 0, iters := 2 }] } } : State), ({ ends := 2000, radio := 0, sid := 5, code := 0, iters := 2 } : CwRun), by decide +kernel⟩,
   ⟨(st 2500 { air with dec := { running := [{ ends := 2000, radio := 0, sid := 5, code := 0, iters := 2 }] } } : State), ({ ends := 2000, radio := 0, sid := 5, code := 0, iters := 2 } : CwRun), by decide +kernel⟩,
   ⟨(st 2500 { air with dec := { running := [{ ends := 2000, radio := 0, sid := 5, code := 4, iters := 2 }] } } : State), ({ ends := 2000, radio := 0, sid := 5, code := 4, iters := 2 } : CwRun), by decide +kernel⟩,
   ⟨(st 2500 air : State), ({ radio := 0, sid := 5, lastLlr := 1000, unsat := [3, 0], llrs := [40, -3, -200] } : Codeword), by decide +kernel⟩,
   ⟨(st 2500 { air with dec := { peers := [(5, { accepted := true, ul := true, retainCw := 512 })], passed := [(5, 0, 4)] } } : State), ({ radio := 0, sid := 5, aligned := true, rsn := 4, seed := 9, index := 2, lastLlr := 1000, unsat := List.replicate 20 3, llrs := [31, 200, -300] } : Codeword), ((air.cwEnd { radio := 0, sid := 5, aligned := true, rsn := 4, seed := 9, index := 2, lastLlr := 1000, unsat := List.replicate 20 3, llrs := [31, 200, -300] }).1 : CwOutcome), ((air.cwEnd { radio := 0, sid := 5, aligned := true, rsn := 4, seed := 9, index := 2, lastLlr := 1000, unsat := List.replicate 20 3, llrs := [31, 200, -300] }).2 : Nat), by decide +kernel⟩,
   ⟨(st 2500 { air with dec := { peers := [(5, { accepted := true, ul := true, retainCw := 512 })], passed := [(5, 0, 4)] } } : State), ({ radio := 0, sid := 5, aligned := true, rsn := 4, seed := 9, index := 2, lastLlr := 1000, unsat := List.replicate 20 3, llrs := [31, 200, -300] } : Codeword), ((air.cwEnd { radio := 0, sid := 5, aligned := true, rsn := 4, seed := 9, index := 2, lastLlr := 1000, unsat := List.replicate 20 3, llrs := [31, 200, -300] }).1 : CwOutcome), ((air.cwEnd { radio := 0, sid := 5, aligned := true, rsn := 4, seed := 9, index := 2, lastLlr := 1000, unsat := List.replicate 20 3, llrs := [31, 200, -300] }).2 : Nat), by decide +kernel⟩,
   ⟨(st 2500 { air with dec := { peers := [(5, { accepted := true, ul := true, retainCw := 512 })], maps := [(5, [⟨4, 9, 2, 1⟩])], slots := [{ sid := 5, rsn := 4, index := 2, rate := 0, seed := 9, expiry := 40 }] } } : State), ({ radio := 0, sid := 5, aligned := true, copyPsdu := true, index := 1, lastLlr := 1000, unsat := [3, 0], llrs := [5] } : Codeword), ((Dev.cwEnd { air with dec := { peers := [(5, { accepted := true, ul := true, retainCw := 512 })], maps := [(5, [⟨4, 9, 2, 1⟩])], slots := [{ sid := 5, rsn := 4, index := 2, rate := 0, seed := 9, expiry := 40 }] } } { radio := 0, sid := 5, aligned := true, copyPsdu := true, index := 1, lastLlr := 1000, unsat := [3, 0], llrs := [5] }).2 : Nat), (4 : Nat), (2 : Nat), ({ sid := 5, rsn := 4, index := 2, rate := 0, seed := 9, expiry := 40 } : Slot), by decide +kernel⟩,
   ⟨(st 2500 { air with dec := { peers := [(5, { accepted := true, ul := true, retainCw := 512 })], maps := [(5, [⟨4, 9, 2, 1⟩])], slots := [{ sid := 5, rsn := 4, index := 2, rate := 0, seed := 9, expiry := 40 }] } } : State), ({ radio := 0, sid := 5, aligned := true, copyPsdu := true, index := 1, lastLlr := 1000, unsat := [3, 0], llrs := [5] } : Codeword), ((Dev.cwEnd { air with dec := { peers := [(5, { accepted := true, ul := true, retainCw := 512 })], maps := [(5, [⟨4, 9, 2, 1⟩])], slots := [{ sid := 5, rsn := 4, index := 2, rate := 0, seed := 9, expiry := 40 }] } } { radio := 0, sid := 5, aligned := true, copyPsdu := true, index := 1, lastLlr := 1000, unsat := [3, 0], llrs := [5] }).2 : Nat), (4 : Nat), (2 : Nat), ({ sid := 5, rsn := 4, index := 2, rate := 0, seed := 9, expiry := 40 } : Slot), (({ sid := 5, rsn := 4, index := 2, rate := 0, seed := 9, expiry := 40, combines := 1, gone := some (Dev.cwEnds { air with dec := { peers := [(5, { accepted := true, ul := true, retainCw := 512 })], maps := [(5, [⟨4, 9, 2, 1⟩])], slots := [{ sid := 5, rsn := 4, index := 2, rate := 0, seed := 9, expiry := 40 }] } } { radio := 0, sid := 5, aligned := true, copyPsdu := true, index := 1, lastLlr := 1000, unsat := [3, 0], llrs := [5] } (Dev.cwEnd { air with dec := { peers := [(5, { accepted := true, ul := true, retainCw := 512 })], maps := [(5, [⟨4, 9, 2, 1⟩])], slots := [{ sid := 5, rsn := 4, index := 2, rate := 0, seed := 9, expiry := 40 }] } } { radio := 0, sid := 5, aligned := true, copyPsdu := true, index := 1, lastLlr := 1000, unsat := [3, 0], llrs := [5] }).2) } : Slot)), by (repeat' apply And.intro) <;> decide +kernel⟩,
   ⟨(st 2500 { air with dec := { peers := [(5, { accepted := true, ul := true, retainCw := 512 })], maps := [(5, [⟨4, 9, 2, 1⟩])], slots := [{ sid := 5, rsn := 4, index := 2, rate := 0, seed := 9, expiry := 40 }, { sid := 5, rsn := 4, index := 3, rate := 0, seed := 9, expiry := 40 }] } } : State), ({ radio := 0, sid := 5, aligned := true, copyPsdu := true, index := 1, lastLlr := 1000, unsat := [3, 0], llrs := [5] } : Codeword), ((Dev.cwEnd { air with dec := { peers := [(5, { accepted := true, ul := true, retainCw := 512 })], maps := [(5, [⟨4, 9, 2, 1⟩])], slots := [{ sid := 5, rsn := 4, index := 2, rate := 0, seed := 9, expiry := 40 }, { sid := 5, rsn := 4, index := 3, rate := 0, seed := 9, expiry := 40 }] } } { radio := 0, sid := 5, aligned := true, copyPsdu := true, index := 1, lastLlr := 1000, unsat := [3, 0], llrs := [5] }).2 : Nat), (4 : Nat), (2 : Nat), ({ sid := 5, rsn := 4, index := 2, rate := 0, seed := 9, expiry := 40 } : Slot), (5000), (({ sid := 5, rsn := 4, index := 3, rate := 0, seed := 9, expiry := 40 } : Slot)), by (repeat' apply And.intro) <;> decide +kernel⟩,
   ⟨(st 2500 { air with dec := { peers := [(5, { accepted := true, ul := true, retainCw := 512 })], maps := [(5, [⟨4, 9, 2, 1⟩])], slots := [{ sid := 5, rsn := 4, index := 2, rate := 0, seed := 9, expiry := 40, llrs := [9, 9] }] } } : State), ({ radio := 0, sid := 5, aligned := true, copyPsdu := true, index := 1, lastLlr := 1000, unsat := List.replicate 20 3, llrs := [5, 125] } : Codeword), ((Dev.cwEnd { air with dec := { peers := [(5, { accepted := true, ul := true, retainCw := 512 })], maps := [(5, [⟨4, 9, 2, 1⟩])], slots := [{ sid := 5, rsn := 4, index := 2, rate := 0, seed := 9, expiry := 40, llrs := [9, 9] }] } } { radio := 0, sid := 5, aligned := true, copyPsdu := true, index := 1, lastLlr := 1000, unsat := List.replicate 20 3, llrs := [5, 125] }).1 : CwOutcome), ((Dev.cwEnd { air with dec := { peers := [(5, { accepted := true, ul := true, retainCw := 512 })], maps := [(5, [⟨4, 9, 2, 1⟩])], slots := [{ sid := 5, rsn := 4, index := 2, rate := 0, seed := 9, expiry := 40, llrs := [9, 9] }] } } { radio := 0, sid := 5, aligned := true, copyPsdu := true, index := 1, lastLlr := 1000, unsat := List.replicate 20 3, llrs := [5, 125] }).2 : Nat), (4 : Nat), (2 : Nat), (({ sid := 5, rsn := 4, index := 2, rate := 0, seed := 9, expiry := 40, llrs := [9, 9] } : Slot) : Slot), by decide +kernel⟩,
   ⟨(st 2500 { air with dec := { peers := [(5, { accepted := true, ul := true, retainCw := 512 })], maps := [(5, [⟨4, 9, 2, 1⟩])], slots := [{ sid := 5, rsn := 4, index := 2, rate := 0, seed := 9, expiry := 40, llrs := [9, 9] }] } } : State), ({ radio := 0, sid := 5, aligned := true, copyPsdu := true, index := 1, lastLlr := 1000, unsat := List.replicate 20 3, llrs := [5, 125] } : Codeword), ((Dev.cwEnd { air with dec := { peers := [(5, { accepted := true, ul := true, retainCw := 512 })], maps := [(5, [⟨4, 9, 2, 1⟩])], slots := [{ sid := 5, rsn := 4, index := 2, rate := 0, seed := 9, expiry := 40, llrs := [9, 9] }] } } { radio := 0, sid := 5, aligned := true, copyPsdu := true, index := 1, lastLlr := 1000, unsat := List.replicate 20 3, llrs := [5, 125] }).1 : CwOutcome), ((Dev.cwEnd { air with dec := { peers := [(5, { accepted := true, ul := true, retainCw := 512 })], maps := [(5, [⟨4, 9, 2, 1⟩])], slots := [{ sid := 5, rsn := 4, index := 2, rate := 0, seed := 9, expiry := 40, llrs := [9, 9] }] } } { radio := 0, sid := 5, aligned := true, copyPsdu := true, index := 1, lastLlr := 1000, unsat := List.replicate 20 3, llrs := [5, 125] }).2 : Nat), (4 : Nat), (2 : Nat), (({ sid := 5, rsn := 4, index := 2, rate := 0, seed := 9, expiry := 40, llrs := [9, 9] } : Slot) : Slot), by decide +kernel⟩,
   ⟨(st 2500 { (withSta { sta5 with retakeOffered := true }) with props := [(propKey 0x3060 1 0, 0)], force := [(propKey 0x3060 1 0, 0)] } : State), (1 : Nat), (rq 7 0x310 [5, packW [(1, 8, 32), (1, 1, 31), (1, 1, 30), (512, 16, 0)]] : List Word), (fld (wd (rq 7 0x310 [5, packW [(1, 8, 32), (1, 1, 31), (1, 1, 30), (512, 16, 0)]] : List Word) 1) 11 0 : Nat), admitted_of (by decide +kernel), rfl, by decide +kernel⟩,
   ⟨(st 2500 { (withSta { sta5 with retakeOffered := true }) with props := [(propKey 0x3060 1 0, 4096)], force := [(propKey 0x3060 1 0, 4096)] } : State), (1 : Nat), (rq 7 0x310 [5, packW [(1, 8, 32), (1, 1, 31), (1, 1, 30), (512, 16, 0)]] : List Word), (fld (wd (rq 7 0x310 [5, packW [(1, 8, 32), (1, 1, 31), (1, 1, 30), (512, 16, 0)]] : List Word) 1) 11 0 : Nat), admitted_of (by decide +kernel), rfl, by decide +kernel⟩⟩

/-- The hypotheses of each clause of DraftsAndFinalPassComplete are met. -/
theorem witness_DraftsAndFinalPassComplete :
    (∃ (s : State), (s.dev.pln.opened ≠ tickOf s.now + 1)) ∧
    (∃ (s : State), (s.dev.pln.opened = tickOf s.now + 1)) :=
  ⟨⟨(st 6144000 air : State), by decide +kernel⟩,
   ⟨(st 6144000 { air with pln := { opened := 7 } } : State), by decide +kernel⟩⟩

/-- The hypotheses of each clause of TakesAndPlannerCommandsComplete are met. -/
theorem witness_TakesAndPlannerCommandsComplete :
    (∃ (s : State) (r : Nat) (k : Nat) (x : Sheet), (r < 3) ∧ (s.dev.curTake s.now r = some (x, k)) ∧ ((s.dev.play r).phase = .idle) ∧ (tickStart s.now + (x.take k).es * 1000 ≤ s.now) ∧ ((∃ e ∈ x.castOf k, s.dev.gone e.sid = false ∧ s.dev.entryLive s.now r (x.take k).kind e = true))) ∧
    (∃ (s : State) (r : Nat) (k : Nat) (x : Sheet), (r < 3) ∧ (s.dev.curTake s.now r = some (x, k)) ∧ ((s.dev.play r).phase = .idle) ∧ (tickStart s.now + (x.take k).es * 1000 ≤ s.now) ∧ ((∀ e ∈ x.castOf k, s.dev.gone e.sid = true ∨ s.dev.entryLive s.now r (x.take k).kind e = false))) ∧
    (∃ (s : State) (r : Nat) (k : Nat) (x : Sheet) (facts : TakeStartFacts), (s.dev.curTake s.now r = some (x, k)) ∧ ((s.dev.play r).phase = .contending) ∧ (s.dev.mayTransmit r = true) ∧ ((s.dev.rx r).receiving = false) ∧ (tickStart s.now + (x.take k).es * 1000 ≤ s.now) ∧ (s.now ≤ tickStart s.now + ((x.take k).ls + 1) * 1000) ∧ (tlook (fun _ => 0) s.dev.mac.txopEnd r ≤ s.now) ∧ (s.now + Nat.max 1 facts.airNs ≤ tickStart s.now + 1000000) ∧ ((∃ e ∈ x.castOf k, s.dev.gone e.sid = false ∧ s.dev.entryLive s.now r (x.take k).kind e = true))) ∧
    (∃ (s : State) (r : Nat) (k : Nat) (x : Sheet) (facts : TakeStartFacts), (s.dev.curTake s.now r = some (x, k)) ∧ ((s.dev.play r).phase = .contending) ∧ (s.dev.mayTransmit r = true) ∧ ((s.dev.rx r).receiving = false) ∧ (tickStart s.now + (x.take k).es * 1000 ≤ s.now) ∧ (s.now ≤ tickStart s.now + ((x.take k).ls + 1) * 1000) ∧ (tlook (fun _ => 0) s.dev.mac.txopEnd r ≤ s.now) ∧ (s.now + Nat.max 1 facts.airNs ≤ tickStart s.now + 1000000) ∧ ((∀ e ∈ x.castOf k, s.dev.gone e.sid = true ∨ s.dev.entryLive s.now r (x.take k).kind e = false))) ∧
    (∃ (s : State) (r : Nat) (k : Nat) (x : Sheet), (s.dev.curTake s.now r = some (x, k)) ∧ ((s.dev.play r).phase = .onAir)) ∧
    (∃ (s : State) (r : Nat) (k : Nat) (x : Sheet), (s.dev.pastLs s.now r = some (x, k))) ∧
    (∃ (s : State) (r : Nat) (k : Nat) (x : Sheet), (s.dev.curTake s.now r = some (x, k)) ∧ ((s.dev.play r).phase = .onAir) ∧ (1000 ≤ beatOf s.now)) ∧
    (∃ (s : State) (r : Nat) (k : Nat) (x : Sheet), (s.dev.pastLs s.now r = some (x, k)) ∧ ((s.dev.radio r).synth ≠ .locked)) ∧
    (∃ (s : State) (f : Nat) (req : List Word) (n : (Nat → Bool) → Nat), (Admitted s.dev f req 1) ∧ (n = (fun p => ((s.dev.pln.log.filter (fun x => x.tick + 1 == tickOf s.now)).filter (fun x => p x.code)).length))) ∧
    (∃ (s : State) (req : List Word) (first : Nat) (radios : Nat) (count : Nat), (Admitted s.dev 0 req 3) ∧ (first = fld (wd req 1) 47 0) ∧ (radios = fld (wd req 2) 18 16) ∧ (count = fld (wd req 2) 15 0) ∧ (resv (wd req 1) [(63, 48)] = false) ∧ (resv (wd req 2) [(63, 19)] = false) ∧ (radios ≠ 0) ∧ (lockPassed s.now first = false)) ∧
    (∃ (s : State) (req : List Word) (part : Nat) (r : Nat) (x : Sheet), (Admitted s.dev 0 req 2) ∧ (part = fld (wd req 1) 54 50) ∧ (r = fld (wd req 1) 49 48) ∧ (resv (wd req 1) [(63, 55)] = false) ∧ (r ≠ 3) ∧ (x = s.dev.sheet r (fld (wd req 1) 47 0)) ∧ (x.tick = fld (wd req 1) 47 0) ∧ ((x.state = .locked ∨ x.state = .playing ∨ (x.state = .dark ∧ part = 0))) ∧ ((part ≠ 0 → part ≤ x.takeCount))) ∧
    (∃ (s : State) (req : List Word) (tick : Nat), (Admitted s.dev 0 req 2) ∧ (tick = fld (wd req 1) 47 0) ∧ (resv (wd req 1) [(63, 48)] = false) ∧ (tick < tickOf s.now) ∧ (tickOf s.now ≤ tick + 64)) :=
  ⟨⟨(st 6155000 (onStage 6 .playing {}) : State), (0 : Nat), (0 : Nat), (sheet1 .playing 6 : Sheet), by decide +kernel⟩,
   ⟨(st 6155000 { air with pln := { sheets := [(0, sheet1 .playing 6)] } } : State), (0 : Nat), (0 : Nat), (sheet1 .playing 6 : Sheet), by decide +kernel⟩,
   ⟨(st 6155000 (onStage 6 .playing { phase := .contending }) : State), (0 : Nat), (0 : Nat), (sheet1 .playing 6 : Sheet), ({} : TakeStartFacts), by decide +kernel⟩,
   ⟨(st 6155000 { air with pln := { sheets := [(0, sheet1 .playing 6)], play := [(0, { phase := .contending })] } } : State), (0 : Nat), (0 : Nat), (sheet1 .playing 6 : Sheet), ({} : TakeStartFacts), by decide +kernel⟩,
   ⟨(st 6175000 (onStage 6 .playing { phase := .onAir, startBeat := 12 }) : State), (0 : Nat), (0 : Nat), (sheet1 .playing 6 : Sheet), by decide +kernel⟩,
   ⟨(st 6165000 (onStage 6 .playing {}) : State), (0 : Nat), (0 : Nat), (sheet1 .playing 6 : Sheet), by decide +kernel⟩,
   ⟨(st 7145000 (onStage 6 .playing { phase := .onAir, startBeat := 12 }) : State), (0 : Nat), (0 : Nat), (sheet1 .playing 6 : Sheet), by decide +kernel⟩,
   ⟨(st 6165000 { (onStage 6 .playing {}) with fe := {} } : State), (0 : Nat), (0 : Nat), (sheet1 .playing 6 : Sheet), by decide +kernel⟩,
   ⟨(st 6165000 base : State), (0 : Nat), (rq 7 0x100 [] : List Word), ((fun p => (((st 6165000 base : State).dev.pln.log.filter (fun x => x.tick + 1 == tickOf (st 6165000 base : State).now)).filter (fun x => p x.code)).length) : (Nat → Bool) → Nat), admitted_of (by decide +kernel), rfl⟩,
   ⟨(st 6165000 base : State), (rq 7 0x110 [9, packW [(5, 3, 16), (3, 16, 0)]] : List Word), (fld (wd (rq 7 0x110 [9, packW [(5, 3, 16), (3, 16, 0)]] : List Word) 1) 47 0 : Nat), (fld (wd (rq 7 0x110 [9, packW [(5, 3, 16), (3, 16, 0)]] : List Word) 2) 18 16 : Nat), (fld (wd (rq 7 0x110 [9, packW [(5, 3, 16), (3, 16, 0)]] : List Word) 2) 15 0 : Nat), admitted_of (by decide +kernel), rfl, rfl, rfl, by decide +kernel⟩,
   ⟨(st 6165000 (onStage 6 .playing {}) : State), (rq 7 0x120 [6] : List Word), (fld (wd (rq 7 0x120 [6] : List Word) 1) 54 50 : Nat), (fld (wd (rq 7 0x120 [6] : List Word) 1) 49 48 : Nat), (sheet1 .playing 6 : Sheet), admitted_of (by decide +kernel), rfl, rfl, by decide +kernel⟩,
   ⟨(st 6165000 { base with pln := { log := [⟨5, 0, 0, 0, 1, 0, 1, 10, 12⟩] } } : State), (rq 7 0x130 [5] : List Word), (fld (wd (rq 7 0x130 [5] : List Word) 1) 47 0 : Nat), admitted_of (by decide +kernel), rfl, by decide +kernel⟩⟩

/-- The hypotheses of each clause of BudgetSafetyAndLevelsComplete are met. -/
theorem witness_BudgetSafetyAndLevelsComplete :
    (∃ (s : State) (x : Option Readings) (e : Dev) (b : Nat × Nat) (v : Nat), (e = (match x with | some y => s.dev.sense y | none => s.dev)) ∧ (b = e.budgetFor e.gaf.pMeas e.hottest (fun k => tlook (fun _ => 0) e.gaf.meanMa k) (e.reserve e.gaf.pMeas (e.costOf (tickOf s.now - 1)))) ∧ (v = (if s.dev.gaf.zeroHold then 0 else b.1 % 2 ^ 32))) ∧
    (∃ (s : State) (x : Readings) (e : Dev), (e = s.dev.sense x) ∧ (s.dev.gaf.budget.made = true) ∧ (s.dev.gaf.budget.tick = tickOf s.now + 1) ∧ (256 ≤ beatOf s.now) ∧ (beatOf s.now ≤ 864) ∧ (s.dev.pv 0x9008 ≤ (e.hottest - s.dev.gaf.budget.tUsed).natAbs) ∧ (s.dev.gaf.zeroHold = false)) ∧
    (∃ (s : State) (temp : Int), ((s.dev.pv 0x9005 : Int) ≤ temp)) ∧
    (∃ (s : State) (k : Nat) (ma : Nat), (s.dev.pv 0x9002 0 k ≠ 0) ∧ (s.dev.pv 0x9002 0 k ≤ ma)) ∧
    (∃ (s : State), (s.dev.pv 0x9001 < s.dev.gaf.pMeas)) ∧
    (∃ (s : State), (s.dev.gaf.zeroHold = true) ∧ (64 ≤ s.dev.gaf.coolTicks)) ∧
    (∃ (s : State), (s.dev.gaf.raise = none) ∧ (beatOf s.now = 768) ∧ (s.dev.gaf.level ≤ 5) ∧ (s.dev.pv 0x9010 < s.dev.gaf.level) ∧ (s.dev.pv 0x9012 ≤ s.dev.gaf.raiseTicks) ∧ (s.dev.gaf.zeroHold = false) ∧ (s.dev.gaf.tripDrop = false)) ∧
    (∃ (s : State) (m : LevelMove), (s.dev.gaf.raise = some m) ∧ (m.pll = false) ∧ (m.tick ≤ tickOf s.now) ∧ (beatOf s.now = 0)) ∧
    (∃ (s : State) (mv : Nat) (m : LevelMove), (s.dev.gaf.raise = some m) ∧ (m.pll = false) ∧ (beatOf s.now = 1000) ∧ (mv < 600 + 5 * s.dev.gaf.vid - 10)) ∧
    (∃ (s : State), (beatOf s.now = 0) ∧ (s.dev.gaf.tripDrop = true)) ∧
    (∃ (s : State), (beatOf s.now = 0) ∧ (s.dev.gaf.tripDrop = false) ∧ (s.dev.gaf.level < 5) ∧ (s.dev.pv 0x9011 ≤ s.dev.gaf.zeroRun)) ∧
    (∃ (s : State) (v : Nat), (beatOf s.now = 8) ∧ (s.dev.gaf.lowerVid = some v)) ∧
    (∃ (s : State) (lv : Nat), (s.dev.gaf.raise = none) ∧ (s.dev.gaf.pllTarget = some lv) ∧ (s.dev.gaf.level = 7) ∧ (beatOf s.now = 0) ∧ (levelVid (Nat.max lv (s.dev.pv 0x9010)) ≤ s.dev.gaf.vid)) :=
  ⟨⟨(st 6144000 base : State), (none : Option Readings), ((match (none : Option Readings) with | some y => (st 6144000 base : State).dev.sense y | none => (st 6144000 base : State).dev) : Dev), (((match (none : Option Readings) with | some y => (st 6144000 base : State).dev.sense y | none => (st 6144000 base : State).dev) : Dev).budgetFor ((match (none : Option Readings) with | some y => (st 6144000 base : State).dev.sense y | none => (st 6144000 base : State).dev) : Dev).gaf.pMeas ((match (none : Option Readings) with | some y => (st 6144000 base : State).dev.sense y | none => (st 6144000 base : State).dev) : Dev).hottest (fun k => tlook (fun _ => 0) ((match (none : Option Readings) with | some y => (st 6144000 base : State).dev.sense y | none => (st 6144000 base : State).dev) : Dev).gaf.meanMa k) (((match (none : Option Readings) with | some y => (st 6144000 base : State).dev.sense y | none => (st 6144000 base : State).dev) : Dev).reserve ((match (none : Option Readings) with | some y => (st 6144000 base : State).dev.sense y | none => (st 6144000 base : State).dev) : Dev).gaf.pMeas (((match (none : Option Readings) with | some y => (st 6144000 base : State).dev.sense y | none => (st 6144000 base : State).dev) : Dev).costOf (tickOf (st 6144000 base : State).now - 1))) : Nat × Nat), ((if (st 6144000 base : State).dev.gaf.zeroHold then 0 else (((match (none : Option Readings) with | some y => (st 6144000 base : State).dev.sense y | none => (st 6144000 base : State).dev) : Dev).budgetFor ((match (none : Option Readings) with | some y => (st 6144000 base : State).dev.sense y | none => (st 6144000 base : State).dev) : Dev).gaf.pMeas ((match (none : Option Readings) with | some y => (st 6144000 base : State).dev.sense y | none => (st 6144000 base : State).dev) : Dev).hottest (fun k => tlook (fun _ => 0) ((match (none : Option Readings) with | some y => (st 6144000 base : State).dev.sense y | none => (st 6144000 base : State).dev) : Dev).gaf.meanMa k) (((match (none : Option Readings) with | some y => (st 6144000 base : State).dev.sense y | none => (st 6144000 base : State).dev) : Dev).reserve ((match (none : Option Readings) with | some y => (st 6144000 base : State).dev.sense y | none => (st 6144000 base : State).dev) : Dev).gaf.pMeas (((match (none : Option Readings) with | some y => (st 6144000 base : State).dev.sense y | none => (st 6144000 base : State).dev) : Dev).costOf (tickOf (st 6144000 base : State).now - 1))) : Nat × Nat).1 % 2 ^ 32) : Nat), rfl, rfl, rfl⟩,
   ⟨(st 6644000 { base with gaf := { level := 0, budget := { made := true, tick := 7, tUsed := 25 } } } : State), ({ temps := [(3, 60)] } : Readings), ((st 6644000 { base with gaf := { level := 0, budget := { made := true, tick := 7, tUsed := 25 } } } : State).dev.sense ({ temps := [(3, 60)] } : Readings) : Dev), rfl, by decide +kernel⟩,
   ⟨(st 6144000 base : State), (110 : Int), by decide +kernel⟩,
   ⟨(st 6144000 { base with force := [(propKey 0x9002 0 0, 1000)] } : State), (0 : Nat), (2000 : Nat), by decide +kernel⟩,
   ⟨(st 6144000 { base with gaf := { pMeas := 1000000 } } : State), by decide +kernel⟩,
   ⟨(st 6144000 { base with gaf := { zeroHold := true, coolTicks := 64 } } : State), by decide +kernel⟩,
   ⟨(st 6912000 { base with gaf := { level := 3, raiseTicks := 10000 } } : State), by decide +kernel⟩,
   ⟨(st 7168000 { base with gaf := { level := 3, raise := some ⟨2, 40, false, 7⟩ } } : State), (⟨2, 40, false, 7⟩ : LevelMove), by decide +kernel⟩,
   ⟨(st 7144000 { base with gaf := { level := 3, raise := some ⟨2, 40, false, 7⟩ } } : State), (500 : Nat), (⟨2, 40, false, 7⟩ : LevelMove), by decide +kernel⟩,
   ⟨(st 6144000 { base with gaf := { level := 3, tripDrop := true } } : State), by decide +kernel⟩,
   ⟨(st 6144000 { base with gaf := { level := 3, zeroRun := 10000 } } : State), by decide +kernel⟩,
   ⟨(st 6152000 { base with gaf := { lowerVid := some 5 } } : State), (5 : Nat), by decide +kernel⟩,
   ⟨(st 6144000 { base with gaf := { vid := 200 } } : State), (0 : Nat), by decide +kernel⟩⟩

/-- The hypotheses of each clause of PowerStatesComplete are met. -/
theorem witness_PowerStatesComplete :
    (∃ (s : State) (req : List Word) (target : Nat) (alarm : Nat), (Admitted s.dev 0 req 3) ∧ (target = fld (wd req 1) 1 0) ∧ (alarm = fld (wd req 2) 47 0) ∧ (resv (wd req 1) [(63, 2)] = false) ∧ (resv (wd req 2) [(63, 48)] = false) ∧ (s.dev.claimed .power 0 = false) ∧ ((alarm = 0 ∨ tickOf s.now + 3 ≤ alarm)) ∧ ((target = 1 ∨ target = 2)) ∧ (s.dev.powerIdle = true)) ∧
    (∃ (s : State) (req : List Word) (target : Nat) (alarm : Nat), (Admitted s.dev 0 req 3) ∧ (target = fld (wd req 1) 1 0) ∧ (alarm = fld (wd req 2) 47 0) ∧ (target = 0) ∧ (alarm = 0) ∧ (resv (wd req 1) [(63, 2)] = false) ∧ (resv (wd req 2) [(63, 48)] = false) ∧ (s.dev.claimed .power 0 = false) ∧ ((alarm = 0 ∨ tickOf s.now + 3 ≤ alarm)) ∧ (s.dev.powerIdle = true)) ∧
    (∃ (s : State) (req : List Word) (target : Nat) (alarm : Nat), (Admitted s.dev 0 req 3) ∧ (target = fld (wd req 1) 1 0) ∧ (alarm = fld (wd req 2) 47 0) ∧ (resv (wd req 1) [(63, 2)] = false) ∧ (resv (wd req 2) [(63, 48)] = false) ∧ (s.dev.claimed .power 0 = false) ∧ ((alarm = 0 ∨ tickOf s.now + 3 ≤ alarm)) ∧ (target ≠ 3) ∧ ((alarm ≠ 0 → target ≠ 0)) ∧ (s.dev.powerIdle = false) ∧ (s.dev.gaf.waiting = none)) ∧
    (∃ (s : State) (k : Nat), (k ≤ 9) ∧ (s.dev.gaf.phase = .poll) ∧ (s.dev.agrees k = true)) ∧
    (∃ (s : State) (k : Nat), (k ≤ 9) ∧ (k ≠ 5) ∧ (s.dev.gaf.phase = .poll) ∧ (s.dev.agrees k = false)) ∧
    (∃ (s : State) (k : Nat), (s.dev.gaf.phase = .poll) ∧ (s.dev.gaf.phaseAt + 2048000 ≤ s.dev.glb.up) ∧ (k ≤ 9) ∧ (nbit s.dev.gaf.agreed k = false) ∧ ((∀ j, j < k → nbit s.dev.gaf.agreed j = true))) ∧
    (∃ (s : State), (s.dev.gaf.phase = .poll) ∧ (s.dev.gaf.quiesced = 0x3FF)) ∧
    (∃ (s : State) (r : PowerReq), (s.dev.gaf.phase = .committed) ∧ (s.dev.gaf.req = some r) ∧ (s.dev.gaf.phaseAt + entryNs r.target ≤ s.dev.glb.up)) ∧
    (∃ (s : State), (s.dev.gaf.phase = .rollback) ∧ (s.dev.gaf.phaseAt + 2000 ≤ s.dev.glb.up)) ∧
    (∃ (s : State), (s.dev.pv 0x9020 = 1) ∧ (s.dev.gaf.phase = .idle) ∧ (s.dev.gaf.state ≠ .show') ∧ (s.dev.gaf.wakeStatus.getLsbD 31 = false)) ∧
    (∃ (s : State), (s.dev.gaf.alarm ≠ 0) ∧ (s.dev.gaf.alarm ≤ tickOf s.now) ∧ (s.dev.gaf.phase = .idle) ∧ (s.dev.gaf.state ≠ .show')) ∧
    (∃ (s : State), (s.dev.gaf.phase = .leaving) ∧ (s.dev.gaf.phaseAt + exitNs s.dev.gaf.state ≤ s.dev.glb.up) ∧ (s.dev.gaf.waiting = none)) ∧
    (∃ (s : State) (f : Nat) (req : List Word), (Admitted s.dev f req 1)) ∧
    (∃ (s : State) (r : PowerReq), (s.dev.gaf.phase = .idle) ∧ (s.dev.gaf.state = .show') ∧ (s.dev.gaf.noted = false) ∧ (s.dev.gaf.waiting = some r) ∧ (r.target ≠ 0)) :=
  ⟨⟨(st 6144000 base : State), (rq 7 0x900 [1, 100] : List Word), (fld (wd (rq 7 0x900 [1, 100] : List Word) 1) 1 0 : Nat), (fld (wd (rq 7 0x900 [1, 100] : List Word) 2) 47 0 : Nat), admitted_of (by decide +kernel), rfl, rfl, by decide +kernel⟩,
   ⟨(st 6144000 base : State), (rq 7 0x900 [0, 0] : List Word), (fld (wd (rq 7 0x900 [0, 0] : List Word) 1) 1 0 : Nat), (fld (wd (rq 7 0x900 [0, 0] : List Word) 2) 47 0 : Nat), admitted_of (by decide +kernel), rfl, rfl, rfl, rfl, by decide +kernel⟩,
   ⟨(st 6144000 { base with gaf := { phase := .poll, req := some ⟨1, 0, none⟩ } } : State), (rq 7 0x900 [2, 0] : List Word), (fld (wd (rq 7 0x900 [2, 0] : List Word) 1) 1 0 : Nat), (fld (wd (rq 7 0x900 [2, 0] : List Word) 2) 47 0 : Nat), admitted_of (by decide +kernel), rfl, rfl, by decide +kernel⟩,
   ⟨(st 6144000 { base with gaf := { phase := .poll, req := some ⟨1, 0, none⟩ } } : State), (0 : Nat), by decide +kernel⟩,
   ⟨(st 6144000 { base with gaf := { phase := .poll, req := some ⟨1, 0, none⟩ }, bt := { mode := .coordinated } } : State), (6 : Nat), by decide +kernel⟩,
   ⟨(st 6144000 { base with glb := { up := 3000000 }, gaf := { phase := .poll, req := some ⟨1, 0, none⟩, agreed := 7 } } : State), (3 : Nat), by decide +kernel⟩,
   ⟨(st 6144000 { base with gaf := { phase := .poll, req := some ⟨1, 0, none⟩, agreed := 0x3FF, quiesced := 0x3FF } } : State), by decide +kernel⟩,
   ⟨(st 6144000 { base with glb := { up := 300000000 }, gaf := { phase := .committed, req := some ⟨1, 0, none⟩, agreed := 0x3FF, quiesced := 0x3FF } } : State), (⟨1, 0, none⟩ : PowerReq), by decide +kernel⟩,
   ⟨(st 6144000 { base with glb := { up := 300000 }, gaf := { phase := .rollback, req := some ⟨1, 0, none⟩ } } : State), by decide +kernel⟩,
   ⟨(st 6144000 { base with gaf := { state := .interval }, force := [(propKey 0x9020 0 0, 1)] } : State), by decide +kernel⟩,
   ⟨(st 6144000 { base with gaf := { state := .interval, alarm := 6 } } : State), by decide +kernel⟩,
   ⟨(st 6144000 { base with glb := { up := 300000000 }, gaf := { state := .interval, phase := .leaving } } : State), by decide +kernel⟩,
   ⟨(st 6144000 base : State), (0 : Nat), (rq 7 0x901 [] : List Word), admitted_of (by decide +kernel)⟩,
   ⟨(st 6144000 { base with gaf := { waiting := some ⟨2, 900, none⟩ } } : State), (⟨2, 900, none⟩ : PowerReq), by decide +kernel⟩⟩

/-- The hypotheses of each clause of SynthesisersComplete are met. -/
theorem witness_SynthesisersComplete :
    (∃ (s : State) (r : Nat) (k : Nat), ((s.dev.radio r).startTick = some k) ∧ (k ≤ tickOf s.now) ∧ ((s.dev.radio r).synth = .off)) ∧
    (∃ (s : State) (r : Nat), (((s.dev.radio r).synth = .starting ∨ (s.dev.radio r).synth = .settling)) ∧ (s.dev.glb.up ≤ (s.dev.radio r).entered + lockLimit (s.dev.radio r).synth) ∧ (s.dev.mgr.ref40 = true)) ∧
    (∃ (s : State) (r : Nat), ((s.dev.radio r).synth = .starting) ∧ ((s.dev.radio r).entered + 200000 ≤ s.dev.glb.up) ∧ ((s.dev.radio r).failedPasses < 3)) ∧
    (∃ (s : State) (r : Nat), ((s.dev.radio r).synth = .starting) ∧ ((s.dev.radio r).entered + 200000 ≤ s.dev.glb.up) ∧ (3 ≤ (s.dev.radio r).failedPasses)) ∧
    (∃ (s : State) (r : Nat), ((s.dev.radio r).synth = .settling) ∧ ((s.dev.radio r).entered + 60000 ≤ s.dev.glb.up) ∧ ((s.dev.radio r).failedPasses < 3)) ∧
    (∃ (s : State) (r : Nat), (((s.dev.radio r).synth = .locked ∨ (s.dev.radio r).synth = .calibrating))) ∧
    (∃ (s : State) (r : Nat) (k : Nat), ((s.dev.radio r).stopTick = some k) ∧ (k ≤ tickOf s.now)) ∧
    (∃ (s : State) (r : Nat) (k : Nat) (c : Channel), ((s.dev.radio r).change = some (k, c)) ∧ ((s.dev.radio r).changeBegun = false) ∧ ((s.dev.radio r).inService = true) ∧ ((k ≤ tickOf s.now ∨ (k = tickOf s.now + 1 ∧ 1000 ≤ beatOf s.now))) ∧ ((s.dev.radio r).synth ≠ .fault)) :=
  ⟨⟨(st 6144000 (withRadio { startTick := some 6, stored := some ⟨0, 0, 0, 2412⟩ }) : State), (0 : Nat), (6 : Nat), by decide +kernel⟩,
   ⟨(st 6144000 (withRadio { synth := .starting, startTick := some 6, stored := some ⟨0, 0, 0, 2412⟩ }) : State), (0 : Nat), by decide +kernel⟩,
   ⟨(st 6144000 { (withRadio { synth := .starting, startTick := some 6, stored := some ⟨0, 0, 0, 2412⟩ }) with glb := { up := 300000 } } : State), (0 : Nat), by decide +kernel⟩,
   ⟨(st 6144000 { (withRadio { synth := .starting, startTick := some 6, stored := some ⟨0, 0, 0, 2412⟩, failedPasses := 3 }) with glb := { up := 300000 } } : State), (0 : Nat), by decide +kernel⟩,
   ⟨(st 6144000 { (withRadio { synth := .settling, inService := true, chan := some ⟨0, 0, 0, 2412⟩ }) with glb := { up := 300000 } } : State), (0 : Nat), by decide +kernel⟩,
   ⟨(st 6144000 (withRadio { synth := .locked, inService := true, chan := some ⟨0, 0, 0, 2412⟩ }) : State), (0 : Nat), by decide +kernel⟩,
   ⟨(st 6144000 (withRadio { synth := .locked, inService := true, chan := some ⟨0, 0, 0, 2412⟩, stopTick := some 6 }) : State), (0 : Nat), (6 : Nat), by decide +kernel⟩,
   ⟨(st 6144000 (withRadio { synth := .locked, inService := true, chan := some ⟨0, 0, 0, 2412⟩, change := some (6, ⟨0, 0, 0, 2437⟩) }) : State), (0 : Nat), (6 : Nat), (⟨0, 0, 0, 2437⟩ : Channel), by decide +kernel⟩⟩

/-- The hypotheses of each clause of CalibrationsComplete are met. -/
theorem witness_CalibrationsComplete :
    (∃ (s : State) (r : Nat), ((s.dev.radio r).inService = true) ∧ ((s.dev.radio r).synth = .locked) ∧ (((s.dev.radio r).calAtLock = true ∨ ∃ k ∈ (s.dev.radio r).fullCalAt, k ≤ tickOf s.now ∨ (k = tickOf s.now + 1 ∧ 1000 ≤ beatOf s.now)))) ∧
    (∃ (s : State) (r : Nat), ((s.dev.radio r).synth = .calibrating)) ∧
    (∃ (s : State) (c : Nat), (c < 48) ∧ ((s.dev.chain c).due = true) ∧ (s.dev.hears (c / 16) = true) ∧ (beatOf s.now = 0) ∧ (s.dev.chainFree s.now c = true) ∧ ((∀ k ∈ chainsOf (c / 16), (s.dev.chain k).calibrating = false))) ∧
    (∃ (s : State) (c : Nat), (c < 48) ∧ (s.dev.calDue s.now c = true) ∧ ((s.dev.chain c).due = false)) :=
  ⟨⟨(st 6144000 (withRadio { synth := .locked, inService := true, chan := some ⟨0, 0, 0, 2412⟩, calAtLock := true }) : State), (0 : Nat), by decide +kernel⟩,
   ⟨(st 6144000 (withRadio { synth := .calibrating, inService := true, chan := some ⟨0, 0, 0, 2412⟩ }) : State), (0 : Nat), by decide +kernel⟩,
   ⟨(st 6144000 { (onStage 6 .playing {}) with fe := { radio := [(0, { synth := .locked, inService := true, chan := some ⟨0, 0, 0, 2412⟩ })], chain := [(3, { due := true })] } } : State), (3 : Nat), by decide +kernel⟩,
   ⟨(st 1024000000000 (withRadio { synth := .locked, inService := true, chan := some ⟨0, 0, 0, 2412⟩ }) : State), (3 : Nat), by decide +kernel⟩⟩

/-- The hypotheses of each clause of GrantsAndFrontEndCommandsComplete are met. -/
theorem witness_GrantsAndFrontEndCommandsComplete :
    (∃ (m : Master) (c : Nat) (v : Reg), (m.isF0 = true) ∧ (c < 48) ∧ (v.getLsbD 31 = true)) ∧
    (∃ (m : Master) (c : Nat) (v : Reg), (m.isF0 = true) ∧ (c < 48) ∧ (v.getLsbD 31 = false)) ∧
    (∃ (m : Master), (m.isF0 = false)) ∧
    (∃ (s : State) (req : List Word) (r : Nat), (Admitted s.dev 0 req 2) ∧ (r = fld (wd req 1) 49 48) ∧ (resv (wd req 1) [(63, 50), (47, 1)] = false) ∧ (r ≠ 3) ∧ ((s.dev.radio r).startTick = none) ∧ (nbit (wd req 1).toNat 0 = false) ∧ ((s.dev.radio r).inService = false) ∧ ((s.dev.radio r).stored ≠ none)) ∧
    (∃ (s : State) (req : List Word) (r : Nat), (Admitted s.dev 0 req 2) ∧ (r = fld (wd req 1) 49 48) ∧ (resv (wd req 1) [(63, 50), (47, 1)] = false) ∧ (r ≠ 3) ∧ ((s.dev.radio r).startTick = none) ∧ (nbit (wd req 1).toNat 0 = true) ∧ ((s.dev.radio r).synth ≠ .off) ∧ ((∀ e ∈ s.dev.mac.bss, e.2.running = true → radioOf e.1 ≠ r))) ∧
    (∃ (s : State) (req : List Word) (r : Nat) (change : Nat) (c : Channel), (Admitted s.dev 0 req 3) ∧ (r = fld (wd req 2) 17 16) ∧ (change = fld (wd req 1) 47 0) ∧ (c = channelOf (wd req 2)) ∧ (resv (wd req 1) [(63, 48)] = false) ∧ (resv (wd req 2) [(63, 30), (23, 21)] = false) ∧ (r ≠ 3) ∧ (channelOk r c = true) ∧ ((s.dev.radio r).startTick = none) ∧ (s.dev.grantRefuses s.now r change c = false) ∧ ((if (s.dev.radio r).synth = .off then change = 0 else tickOf s.now + 3 ≤ change))) ∧
    (∃ (s : State) (req : List Word) (r : Nat) (tick : Nat), (Admitted s.dev 0 req 3) ∧ (r = fld (wd req 2) 49 48) ∧ (tick = fld (wd req 1) 47 0) ∧ (resv (wd req 1) [(63, 48)] = false) ∧ (resv (wd req 2) [(63, 50), (47, 9), (7, 6)] = false) ∧ (r ≠ 3) ∧ (nbit (wd req 2).toNat 8 = true) ∧ ((s.dev.radio r).startTick = none) ∧ ((s.dev.radio r).inService = true) ∧ (tickOf s.now + 3 ≤ tick)) ∧
    (∃ (s : State) (req : List Word) (r : Nat) (c : Nat), (Admitted s.dev 0 req 3) ∧ (r = fld (wd req 2) 49 48) ∧ (c = fld (wd req 2) 5 0) ∧ (resv (wd req 1) [(63, 48)] = false) ∧ (resv (wd req 2) [(63, 50), (47, 9), (7, 6)] = false) ∧ (r ≠ 3) ∧ (nbit (wd req 2).toNat 8 = false) ∧ (c / 16 = r) ∧ (fld (wd req 1) 47 0 = 0) ∧ ((s.dev.radio r).startTick = none) ∧ ((s.dev.radio r).inService = true)) ∧
    (∃ (s : State) (f : Nat) (req : List Word) (r : Nat) (x : Radio), (Admitted s.dev f req 2) ∧ (r = fld (wd req 1) 49 48) ∧ (x = s.dev.radio r) ∧ (resv (wd req 1) [(63, 50), (47, 0)] = false) ∧ (r ≠ 3)) ∧
    (∃ (s : State) (req : List Word) (n : Nat) (ws : List Word), (Admitted s.dev 0 req (2 + n)) ∧ ((∀ w ∈ ws, resv w [(63, 40)] = false ∧ badRange (grantRange w) = false)) ∧ (n = fld (wd req 1) 51 48) ∧ (ws = (List.range n).map (fun i => wd req (2 + i))) ∧ (resv (wd req 1) [(63, 52)] = false) ∧ (n ≤ 8) ∧ ((n = 0 → fld (wd req 1) 47 0 = 0)) ∧ ((n ≠ 0 → tickOf s.now + 2 < fld (wd req 1) 47 0))) :=
  ⟨⟨(.fn 0 : Master), (5 : Nat), (0xD8000001 : Reg), by decide +kernel⟩,
   ⟨(.fn 0 : Master), (0 : Nat), (0x20000000 : Reg), by decide +kernel⟩,
   ⟨(.fn 1 : Master), by decide +kernel⟩,
   ⟨(st 6144000 (withRadio { stored := some ⟨0, 0, 0, 2412⟩ }) : State), (rq 7 0x400 [0] : List Word), (fld (wd (rq 7 0x400 [0] : List Word) 1) 49 48 : Nat), admitted_of (by decide +kernel), rfl, by decide +kernel⟩,
   ⟨(st 6144000 (withRadio { synth := .locked, inService := true, chan := some ⟨0, 0, 0, 2412⟩ }) : State), (rq 7 0x400 [1] : List Word), (fld (wd (rq 7 0x400 [1] : List Word) 1) 49 48 : Nat), admitted_of (by decide +kernel), rfl, by decide +kernel⟩,
   ⟨(st 6144000 base : State), (rq 7 0x401 [0, packW [(2412, 16, 0)]] : List Word), (fld (wd (rq 7 0x401 [0, packW [(2412, 16, 0)]] : List Word) 2) 17 16 : Nat), (fld (wd (rq 7 0x401 [0, packW [(2412, 16, 0)]] : List Word) 1) 47 0 : Nat), (channelOf (wd (rq 7 0x401 [0, packW [(2412, 16, 0)]] : List Word) 2) : Channel), admitted_of (by decide +kernel), rfl, rfl, rfl, by decide +kernel⟩,
   ⟨(st 6144000 (withRadio { synth := .locked, inService := true, chan := some ⟨0, 0, 0, 2412⟩ }) : State), (rq 7 0x402 [9, 0x100] : List Word), (fld (wd (rq 7 0x402 [9, 0x100] : List Word) 2) 49 48 : Nat), (fld (wd (rq 7 0x402 [9, 0x100] : List Word) 1) 47 0 : Nat), admitted_of (by decide +kernel), rfl, rfl, by decide +kernel⟩,
   ⟨(st 6144000 (withRadio { synth := .locked, inService := true, chan := some ⟨0, 0, 0, 2412⟩ }) : State), (rq 7 0x402 [0, 3] : List Word), (fld (wd (rq 7 0x402 [0, 3] : List Word) 2) 49 48 : Nat), (fld (wd (rq 7 0x402 [0, 3] : List Word) 2) 5 0 : Nat), admitted_of (by decide +kernel), rfl, rfl, by decide +kernel⟩,
   ⟨(st 6144000 (withRadio { synth := .locked, inService := true, chan := some ⟨0, 0, 0, 2412⟩, change := some (9, ⟨0, 0, 0, 2437⟩) }) : State), (1 : Nat), (rq 7 0x403 [0] : List Word), (fld (wd (rq 7 0x403 [0] : List Word) 1) 49 48 : Nat), ((st 6144000 (withRadio { synth := .locked, inService := true, chan := some ⟨0, 0, 0, 2412⟩, change := some (9, ⟨0, 0, 0, 2437⟩) }) : State).dev.radio (fld (wd (rq 7 0x403 [0] : List Word) 1) 49 48 : Nat) : Radio), admitted_of (by decide +kernel), rfl, rfl, by decide +kernel⟩,
   ⟨(st 6144000 base : State), (rq 7 0x410 [packW [(1, 4, 48), (9, 48, 0)], packW [(5925, 16, 0), (6425, 16, 16), (20, 8, 32)]] : List Word), (1 : Nat), ([packW [(5925, 16, 0), (6425, 16, 16), (20, 8, 32)]] : List Word), admitted_of (by decide +kernel), fun w h => by cases List.mem_singleton.mp h; decide +kernel, by decide +kernel⟩⟩

/-- The hypotheses of each clause of MembershipCommandsComplete are met. -/
theorem witness_MembershipCommandsComplete :
    (∃ (s : State) (req : List Word), (Admitted s.dev 0 req 4) ∧ (resv (wd req 1) [(63, 30)] = false) ∧ (resv (wd req 2) [(63, 48)] = false) ∧ (resv (wd req 3) [(63, 22), (15, 15)] = false) ∧ (fld (wd req 3) 21 20 ≠ 3) ∧ (fld (wd req 3) 19 16 ≠ 0) ∧ (fld (wd req 3) 11 0 ≠ 0) ∧ (fld (wd req 3) 11 0 ≠ 4095) ∧ (nbit (wd req 2).toNat 40 = true) ∧ (s.dev.bt.mode = .off) ∧ ((∀ p, p < 4 → nbit (fld (wd req 3) 19 16) p = true → s.dev.portEnabled p = true))) ∧
    (∃ (s : State) (req : List Word), (Admitted s.dev 0 req 1) ∧ (s.dev.bt.mode ≠ .off)) ∧
    (∃ (s : State) (req : List Word) (n : Nat) (k : Nat) (chips : List Nat), (n = fld (wd req 1) 53 48) ∧ (chips = ((List.range n).map (fun k => wd req (2 + k))).map (fun w => fld w 13 0)) ∧ (k = fld (wd req 1) 47 0) ∧ (Admitted s.dev 0 req (2 + n)) ∧ (resv (wd req 1) [(63, 54)] = false) ∧ ((∀ i, i < n → resv (wd req (2 + i)) [(63, 14)] = false)) ∧ (n ≤ 32) ∧ (hasTwice chips = false) ∧ (s.dev.bt.chip ∉ chips) ∧ (s.dev.bt.mode ≠ .off) ∧ (tickOf s.now + 1 ≤ k)) ∧
    (∃ (s : State) (k : Nat) (l : List Nat), (s.dev.bt.staged = some (k, l)) ∧ (k ≤ tickOf s.now)) ∧
    (∃ (s : State) (req : List Word) (off : Int) (limit : Int), (Admitted s.dev 0 req 3) ∧ (off = (wd req 1).toInt) ∧ (limit = ((s.dev.pv 0x5011 * 1000 : Nat) : Int)) ∧ (-100000 ≤ sgn 32 (fld (wd req 2) 31 0)) ∧ (sgn 32 (fld (wd req 2) 31 0) ≤ 100000) ∧ (s.dev.bt.source = 2)) ∧
    (∃ (s : State) (f : Nat) (req : List Word), (Admitted s.dev f req 1)) ∧
    (∃ (s : State) (x : BtFrame), (s.dev.btAccepts x 3 = true) ∧ (btPlain x.octets = true) ∧ (s.dev.knowsChip (btChip x.octets) = true)) :=
  ⟨⟨(st 6144000 ((withPort { linkUp := true }).putReg (emacAddr 0 0) 0x80000000) : State), (rq 7 0x500 [5, packW [(1, 1, 40), (3, 16, 0)], packW [(1, 2, 20), (1, 4, 16), (4, 3, 12), (10, 12, 0)]] : List Word), admitted_of (by decide +kernel), by decide +kernel⟩,
   ⟨(st 6144000 (withBt bt1) : State), (rq 7 0x501 [] : List Word), admitted_of (by decide +kernel), by decide +kernel⟩,
   ⟨(st 6144000 (withBt bt1) : State), (rq 7 0x510 [packW [(2, 6, 48), (9, 48, 0)], 1, 2] : List Word), (fld (wd (rq 7 0x510 [packW [(2, 6, 48), (9, 48, 0)], 1, 2] : List Word) 1) 53 48 : Nat), (fld (wd (rq 7 0x510 [packW [(2, 6, 48), (9, 48, 0)], 1, 2] : List Word) 1) 47 0 : Nat), (((List.range (fld (wd (rq 7 0x510 [packW [(2, 6, 48), (9, 48, 0)], 1, 2] : List Word) 1) 53 48 : Nat)).map (fun k_q => wd (rq 7 0x510 [packW [(2, 6, 48), (9, 48, 0)], 1, 2] : List Word) (2 + k_q))).map (fun w => fld w 13 0) : List Nat), rfl, rfl, rfl, admitted_of (by decide +kernel), by decide +kernel⟩,
   ⟨(st 6144000 (withBt { bt1 with staged := some (6, [1, 2]) }) : State), (6 : Nat), ([1, 2] : List Nat), by decide +kernel⟩,
   ⟨(st 6144000 (withBt { bt1 with source := 2 }) : State), (rq 7 0x530 [200, 100] : List Word), ((wd (rq 7 0x530 [200, 100] : List Word) 1).toInt : Int), ((((st 6144000 (withBt { bt1 with source := 2 }) : State).dev.pv 0x5011 * 1000 : Nat) : Int) : Int), admitted_of (by decide +kernel), rfl, rfl, by decide +kernel⟩,
   ⟨(st 6144000 base : State), (0 : Nat), (rq 7 0x520 [] : List Word), admitted_of (by decide +kernel)⟩,
   ⟨(st 6144000 (withBt { bt1 with mode := .coordinated, sets := [(1, [9])] }) : State), (btf 3 9 7 1 0xFFFFFFFF 6144000 [] : BtFrame), by decide +kernel⟩⟩

/-- The hypotheses of each clause of AlignmentCompletes are met. -/
theorem witness_AlignmentCompletes :
    (∃ (s : State) (x : SyncMsg) (limit : Int) (off : Int) (m : Int) (o : Nat), (limit = ((s.dev.pv 0x5011 * 1000 : Nat) : Int)) ∧ (s.dev.bt.mode ≠ .off) ∧ (s.dev.bt.source = 0) ∧ (x.domain = s.dev.pv 0x5015) ∧ (nbit s.dev.bt.ports x.port = true) ∧ (s.dev.fromParent x = true) ∧ (x.part = .sync o) ∧ (s.dev.bt.servo.delay = some m) ∧ (off = (o : Int) + x.correctionNs + m - (s.dev.syncStamp x : Int))) ∧
    (∃ (s : State) (x : SyncMsg), (s.dev.bt.mode ≠ .off) ∧ (s.dev.bt.source = 0) ∧ (x.domain = s.dev.pv 0x5015) ∧ (nbit s.dev.bt.ports x.port = true) ∧ (s.dev.fromParent x = true) ∧ (x.part = .syncTwoStep)) ∧
    (∃ (s : State) (x : SyncMsg) (r : _) (t1 : _) (t2 : _) (t3 : _) (m : _), (s.dev.bt.mode ≠ .off) ∧ (s.dev.bt.source = 0) ∧ (x.domain = s.dev.pv 0x5015) ∧ (nbit s.dev.bt.ports x.port = true) ∧ (s.dev.fromParent x = true) ∧ (x.part = .delayResp r) ∧ (x.seq = s.dev.bt.servo.reqSeq) ∧ (s.dev.bt.servo.exchange = some (t1, t2)) ∧ (s.dev.bt.servo.reqSent = some t3) ∧ (s.dev.bt.servo.delay = some m)) ∧
    (∃ (s : State) (x : SyncMsg), (s.dev.fromParent x = false)) ∧
    (∃ (s : State) (x : AnnounceMsg) (y : AnnounceMsg), (s.dev.bt.mode ≠ .off) ∧ (s.dev.bt.source = 0) ∧ (x.domain = s.dev.pv 0x5015) ∧ (nbit s.dev.bt.ports x.port = true) ∧ (x.timeout = true) ∧ (s.dev.bt.servo.parent = some y) ∧ (sameMaster x y = true)) ∧
    (∃ (s : State) (x : AnnounceMsg), (s.dev.bt.mode ≠ .off) ∧ (s.dev.bt.source = 0) ∧ (x.domain = s.dev.pv 0x5015) ∧ (nbit s.dev.bt.ports x.port = true) ∧ (x.timeout = false)) ∧
    (∃ (l : List AnnounceMsg) (x : AnnounceMsg), (bestMaster l = some x)) ∧
    (∃ (l : List AnnounceMsg) (x : AnnounceMsg) (y : _), (bestMaster l = some x) ∧ (y ∈ l)) ∧
    (∃ (s : State) (n : Nat), (s.dev.bt.servo.step = some n) ∧ (s.dev.coordinating = false) ∧ (beatOf s.now = 0)) ∧
    (∃ (s : State), (s.dev.bt.mode ≠ .off) ∧ (s.dev.sourceTimedOut = true)) ∧
    (∃ (s : State) (x : BtFrame), (s.dev.btAccepts x 2 = true) ∧ (s.dev.bt.source = 1) ∧ (btPlain x.octets = true) ∧ (btChip x.octets = s.dev.pv 0x501B) ∧ (btAlignNs x.octets = 0xFFFFFFFF)) ∧
    (∃ (s : State) (x : BtFrame), (s.dev.btAccepts x 2 = true) ∧ (s.dev.bt.source = 1) ∧ (btPlain x.octets = true) ∧ (btChip x.octets = s.dev.pv 0x501B) ∧ (btAlignNs x.octets ≠ 0xFFFFFFFF) ∧ (s.dev.bt.servo.edgeTick = none)) ∧
    (∃ (s : State) (x : BtFrame), (s.dev.btAccepts x 2 = true) ∧ ((s.dev.bt.source ≠ 1 ∨ btChip x.octets ≠ s.dev.pv 0x501B)) ∧ (s.dev.knowsChip (btChip x.octets) = false)) ∧
    (∃ (s : State) (stamp : Nat) (e : Nat) (x : Int), (x = (stamp : Int) - (s.dev.pv 0x5019 : Int) - (((e + s.dev.clapDiv) * 1024000 : Nat) : Int)) ∧ (s.dev.bt.mode ≠ .off) ∧ (s.dev.bt.source = 1) ∧ (s.dev.bt.servo.edgeTick = some e) ∧ (x ≤ 4000) ∧ (-4000 ≤ x)) ∧
    (∃ (s : State) (stamp : Nat) (e : Nat) (x : Int), (x = (stamp : Int) - (s.dev.pv 0x5019 : Int) - (((e + s.dev.clapDiv) * 1024000 : Nat) : Int)) ∧ (s.dev.bt.mode ≠ .off) ∧ (s.dev.bt.source = 1) ∧ (s.dev.bt.servo.edgeTick = some e) ∧ ((4000 < x ∨ x < -4000))) ∧
    (∃ (s : State), (s.dev.edgeOverdue s.now = true) ∧ (s.dev.bt.servo.missing = 0)) ∧
    (∃ (s : State), (s.dev.edgeOverdue s.now = true) ∧ (s.dev.bt.servo.missing ≠ 0)) :=
  ⟨⟨(st 6144000 (withBt { bt1 with source := 0, servo := { masters := [{ identity := 5, clockClass := 6, sender := 77 }], parent := some { identity := 5, clockClass := 6, sender := 77 }, delay := some 50 } }) : State), ({ part := .sync 6143000, sender := 77, stamp := 6142750 } : SyncMsg), ((((st 6144000 (withBt { bt1 with source := 0, servo := { masters := [{ identity := 5, clockClass := 6, sender := 77 }], parent := some { identity := 5, clockClass := 6, sender := 77 }, delay := some 50 } }) : State).dev.pv 0x5011 * 1000 : Nat) : Int) : Int), (((6143000 : Nat) : Int) + 0 + 50 - ((6142750 : Nat) : Int) : Int), (50 : Int), (6143000 : Nat), rfl, by decide +kernel⟩,
   ⟨(st 6144000 (withBt { bt1 with source := 0, servo := { masters := [{ identity := 5, clockClass := 6, sender := 77 }], parent := some { identity := 5, clockClass := 6, sender := 77 } } }) : State), ({ part := .syncTwoStep, sender := 77, seq := 9, stamp := 6142750 } : SyncMsg), by decide +kernel⟩,
   ⟨(st 6144000 (withBt { bt1 with source := 0, servo := { masters := [{ identity := 5, clockClass := 6, sender := 77 }], parent := some { identity := 5, clockClass := 6, sender := 77 }, exchange := some (6143000, 6143100), reqSeq := 9, reqSent := some 6143200, delay := some 50 } }) : State), ({ part := .delayResp 6143400, sender := 77, seq := 9 } : SyncMsg), (6143400), (6143000), (6143100), (6143200), (50), by decide +kernel⟩,
   ⟨(st 6144000 (withBt { bt1 with source := 0, servo := { masters := [{ identity := 5, clockClass := 6, sender := 77 }], parent := some { identity := 5, clockClass := 6, sender := 77 } } }) : State), ({ part := .syncTwoStep, sender := 78 } : SyncMsg), by decide +kernel⟩,
   ⟨(st 6144000 (withBt { bt1 with source := 0, servo := { masters := [{ identity := 5, clockClass := 6, sender := 77 }], parent := some { identity := 5, clockClass := 6, sender := 77 }, usable := true } }) : State), ({ identity := 5, clockClass := 6, sender := 77, timeout := true } : AnnounceMsg), ({ identity := 5, clockClass := 6, sender := 77 } : AnnounceMsg), by decide +kernel⟩,
   ⟨(st 6144000 (withBt { bt1 with source := 0, servo := { masters := [{ identity := 5, clockClass := 6, sender := 77 }], parent := some { identity := 5, clockClass := 6, sender := 77 }, usable := true } }) : State), ({ identity := 5, clockClass := 6, sender := 77, steps := 1 } : AnnounceMsg), by decide +kernel⟩,
   ⟨([{ identity := 5, clockClass := 6, sender := 77 }, { identity := 9, clockClass := 6, sender := 78, priority1 := 1 }] : List AnnounceMsg), ({ identity := 9, clockClass := 6, sender := 78, priority1 := 1 } : AnnounceMsg), by decide +kernel⟩,
   ⟨([{ identity := 5, clockClass := 6, sender := 77 }, { identity := 9, clockClass := 6, sender := 78, priority1 := 1 }] : List AnnounceMsg), ({ identity := 9, clockClass := 6, sender := 78, priority1 := 1 } : AnnounceMsg), (({ identity := 5, clockClass := 6, sender := 77 } : AnnounceMsg)), by decide +kernel⟩,
   ⟨(st 6144000 (withBt { bt1 with source := 0, servo := { step := some 1500000 } }) : State), (1500000 : Nat), by decide +kernel⟩,
   ⟨(st 6144000 { (withBt { bt1 with source := 0, servo := { usable := true } }) with glb := { up := 100000000000 } } : State), by decide +kernel⟩,
   ⟨(st 6144000 { (withBt bt1) with force := [(propKey 0x501B 0 0, 9)] } : State), (btf 2 9 5 1 0xFFFFFFFF 6144000 [] : BtFrame), by decide +kernel⟩,
   ⟨(st 6144000 { (withBt bt1) with force := [(propKey 0x501B 0 0, 9)] } : State), (btf 2 9 5 1 50 6144000 [] : BtFrame), by decide +kernel⟩,
   ⟨(st 6144000 (withBt { bt1 with source := 0 }) : State), (btf 2 55 6 0 30 6100000 [] : BtFrame), by decide +kernel⟩,
   ⟨(st (8*1024000) (withBt { bt1 with servo := { edgeTick := some 4, clapTick := some 7, clapAlign := 30 } }) : State), ((4+(withBt bt1).clapDiv)*1024000 + (withBt bt1).pv 0x5019 + 100 : Nat), (4 : Nat), ((((4+(withBt bt1).clapDiv)*1024000 + (withBt bt1).pv 0x5019 + 100 : Nat) : Int) - ((st (8*1024000) (withBt { bt1 with servo := { edgeTick := some 4, clapTick := some 7, clapAlign := 30 } }) : State).dev.pv 0x5019 : Int) - ((((4 : Nat) + (st (8*1024000) (withBt { bt1 with servo := { edgeTick := some 4, clapTick := some 7, clapAlign := 30 } }) : State).dev.clapDiv) * 1024000 : Nat) : Int) : Int), rfl, by decide +kernel⟩,
   ⟨(st (8*1024000) (withBt { bt1 with servo := { edgeTick := some 4, clapTick := some 7, clapAlign := 30 } }) : State), ((4+(withBt bt1).clapDiv)*1024000 + (withBt bt1).pv 0x5019 + 5000 : Nat), (4 : Nat), ((((4+(withBt bt1).clapDiv)*1024000 + (withBt bt1).pv 0x5019 + 5000 : Nat) : Int) - ((st (8*1024000) (withBt { bt1 with servo := { edgeTick := some 4, clapTick := some 7, clapAlign := 30 } }) : State).dev.pv 0x5019 : Int) - ((((4 : Nat) + (st (8*1024000) (withBt { bt1 with servo := { edgeTick := some 4, clapTick := some 7, clapAlign := 30 } }) : State).dev.clapDiv) * 1024000 : Nat) : Int) : Int), rfl, by decide +kernel⟩,
   ⟨(st (10000*1024000) (withBt { bt1 with servo := { edgeTick := some 4 } }) : State), by decide +kernel⟩,
   ⟨(st (10000*1024000) (withBt { bt1 with servo := { edgeTick := some 4, missing := 1, usable := true } }) : State), by decide +kernel⟩⟩

/-- The hypotheses of each clause of CoordinationCompletes are met. -/
theorem witness_CoordinationCompletes :
    (∃ (s : State), (s.dev.bt.mode = .aligning) ∧ (s.dev.pv 0x5013 ≤ s.dev.bt.servo.goodTicks) ∧ (beatOf s.now = 0) ∧ (s.dev.mgr.ref40 = true)) ∧
    (∃ (s : State), (s.dev.coordinating = true) ∧ ((s.dev.coordDrift = true ∨ s.dev.mgr.ref40 = false))) ∧
    (∃ (s : State) (tick : Nat) (body : List Byte), (tick = tickOf s.now + 1) ∧ (body = (List.range 3).flatMap (fun r => sectionOctets r (if (s.dev.radio r).inService then s.dev.chanAt r tick else none) (if (s.dev.cueEmpties tick).contains r then {} else s.dev.sheet r tick))) ∧ (s.dev.coordinatingFor tick = true) ∧ (beatOf s.now = 384)) ∧
    (∃ (s : State), (s.dev.bt.mode ≠ .off) ∧ (s.dev.pulsed s.now = true) ∧ (beatOf s.now = 8)) ∧
    (∃ (s : State) (x : BtFrame) (chip : Nat) (tick : Nat) (ts : List CueTake), (chip = btChip x.octets) ∧ (tick = btTickOf x.octets) ∧ (tick = tickOf x.stamp + 1) ∧ (s.dev.btAccepts x 1 = true) ∧ (cueHeaderOk x.octets = true) ∧ (octAt x.octets 12 = 1) ∧ (chip ≠ s.dev.bt.chip) ∧ (chip ∈ s.dev.neighbours tick) ∧ ((∀ c ∈ s.dev.bt.cues, ¬ (c.chip = chip ∧ c.tick = tick))) ∧ (parseCue ((x.octets.drop 20).take (beAt x.octets 14 2)) = some ts) ∧ (beatOf x.stamp < 768) ∧ (beatNo s.now ≤ beatNo x.stamp + 2)) :=
  ⟨⟨(st 6144000 (withBt { bt1 with servo := { goodTicks := 100000, usable := true } }) : State), by decide +kernel⟩,
   ⟨(st 6144000 { (withBt { bt1 with mode := .coordinated, servo := { usable := true } }) with mgr := { booted := true, ref40 := false } } : State), by decide +kernel⟩,
   ⟨(st 6528000 (withBt { bt1 with mode := .coordinated }) : State), (tickOf (st 6528000 (withBt { bt1 with mode := .coordinated }) : State).now + 1 : Nat), ((List.range 3).flatMap (fun r => sectionOctets r (if ((st 6528000 (withBt { bt1 with mode := .coordinated }) : State).dev.radio r).inService then (st 6528000 (withBt { bt1 with mode := .coordinated }) : State).dev.chanAt r (tickOf (st 6528000 (withBt { bt1 with mode := .coordinated }) : State).now + 1 : Nat) else none) (if ((st 6528000 (withBt { bt1 with mode := .coordinated }) : State).dev.cueEmpties (tickOf (st 6528000 (withBt { bt1 with mode := .coordinated }) : State).now + 1 : Nat)).contains r then {} else (st 6528000 (withBt { bt1 with mode := .coordinated }) : State).dev.sheet r (tickOf (st 6528000 (withBt { bt1 with mode := .coordinated }) : State).now + 1 : Nat))) : List Byte), rfl, rfl, by decide +kernel⟩,
   ⟨(st 8000 (withBt { bt1 with pulse := 1 }) : State), by decide +kernel⟩,
   ⟨(st 6200000 (withBt { bt1 with sets := [(1, [9])] }) : State), (btf 1 9 7 1 0 6199500 [0,0,0,0,0,0,0,0,1,0,0,0,0,0,0,0,2,0,0,0,0,0,0,0] : BtFrame), (btChip (btf 1 9 7 1 0 6199500 [0,0,0,0,0,0,0,0,1,0,0,0,0,0,0,0,2,0,0,0,0,0,0,0] : BtFrame).octets : Nat), (btTickOf (btf 1 9 7 1 0 6199500 [0,0,0,0,0,0,0,0,1,0,0,0,0,0,0,0,2,0,0,0,0,0,0,0] : BtFrame).octets : Nat), ([] : List CueTake), rfl, rfl, rfl, by decide +kernel⟩⟩

/-- The hypotheses of each clause of ResetsComplete are met. -/
theorem witness_ResetsComplete :
    (∃ (s : State) (j : Nat) (mv : Nat) (lo : Nat), (railMin s.dev j = some lo) ∧ (mv < lo)) ∧
    (∃ (s : State) (j : Nat) (mv : Nat) (lo : Nat), (railMin s.dev j = some lo) ∧ (lo ≤ mv) ∧ (s.dev.mgr.lowRails = [j]) ∧ (s.dev.nvBusy = false) ∧ (s.dev.justReset = false)) ∧
    (∃ (s : State) (src : ResetSource), (src = .warmRstN ∨ (s.dev.nvBusy = false ∧ s.dev.mgr.dirty = [])) ∧ (src ≠ .scan) ∧ (s.dev.mgr.waitReset = none) ∧ (s.dev.justReset = false)) ∧
    (∃ (s : State) (src : ResetSource), (src ≠ .warmRstN) ∧ (flushes src = false ∨ s.dev.mgr.pfail = true) ∧ (s.dev.nvBusy = true)) ∧
    (∃ (s : State) (src : ResetSource), (flushes src = true) ∧ (s.dev.mgr.pfail = false) ∧ (s.dev.mgr.dirty ≠ [])) ∧
    (∃ (s : State) (src : ResetSource) (c : Nat), (c = lastResetCode 0 src) ∧ (src = .warmRstN ∨ (s.dev.nvBusy = false ∧ flushes src = false)) ∧ (src ≠ .scan) ∧ (s.dev.mgr.waitReset = none) ∧ (s.dev.justReset = true)) :=
  ⟨⟨(st 6144000 base : State), (3 : Nat), (700 : Nat), (800 : Nat), by decide +kernel⟩,
   ⟨(st 6144000 (withMgr { booted := true, lowRails := [3] }) : State), (3 : Nat), (850 : Nat), (800 : Nat), by decide +kernel⟩,
   ⟨(st 6144000 base : State), (.warmRstN : ResetSource), by decide +kernel⟩,
   ⟨(st 6144000 (withMgr { booted := true, nvUntil := 9000 }) : State), (.booth : ResetSource), by decide +kernel⟩,
   ⟨(st 6144000 (withMgr { booted := true, dirty := [5] }) : State), (.mgrReset : ResetSource), by decide +kernel⟩,
   ⟨(st 6144000 (withMgr { lastReset := 4, resetBeat := some 0 }) : State), (.warmRstN : ResetSource), (lastResetCode 0 (.warmRstN : ResetSource) : Nat), rfl, by decide +kernel⟩⟩

/-- The hypotheses of each clause of BootCompletes are met. -/
theorem witness_BootCompletes :
    (∃ (s : State) (x : BootFacts) (r : BootRec), (r = (useRec s.dev.mgr x.copy0 x.copy1).1) ∧ (s.dev.mgr.booted = false) ∧ (s.dev.mgr.recovery = false) ∧ (s.dev.gaf.held = false) ∧ (s.dev.mgr.lowRails = []) ∧ (s.dev.mgr.lastReset ≠ 5) ∧ (s.dev.tst.life ≠ 3) ∧ (x.ref40 = true) ∧ (x.ref100 = true) ∧ (x.norOk = true) ∧ (x.hbmOk = true) ∧ (slotPasses s.dev.mgr.svnFloor (if r.pref = 0 then x.slotA else x.slotB) = true) ∧ (r.st r.pref = .good)) ∧
    (∃ (s : State) (x : BootFacts) (r : BootRec), (r = (useRec s.dev.mgr x.copy0 x.copy1).1) ∧ (s.dev.mgr.booted = false) ∧ (s.dev.mgr.recovery = false) ∧ (s.dev.gaf.held = false) ∧ (s.dev.mgr.lowRails = []) ∧ (s.dev.mgr.lastReset ≠ 5) ∧ (s.dev.tst.life ≠ 3) ∧ (x.ref40 = true) ∧ (x.ref100 = true) ∧ (x.norOk = true) ∧ (x.hbmOk = true) ∧ (slotPasses s.dev.mgr.svnFloor (if r.pref = 0 then x.slotA else x.slotB) = true) ∧ (r.st r.pref = .trial) ∧ (0 < r.tries r.pref) ∧ (x.copy0 = true) ∧ (x.copy1 = true) ∧ (r.pref < 2)) ∧
    (∃ (s : State) (x : BootFacts) (r : BootRec), (r = (useRec s.dev.mgr x.copy0 x.copy1).1) ∧ (s.dev.mgr.booted = false) ∧ (s.dev.mgr.recovery = false) ∧ (s.dev.gaf.held = false) ∧ (s.dev.mgr.lowRails = []) ∧ (s.dev.mgr.lastReset ≠ 5) ∧ (s.dev.tst.life ≠ 3) ∧ ((x.ref40 = false ∨ x.ref100 = false))) ∧
    (∃ (s : State) (x : BootFacts) (r : BootRec), (r = (useRec s.dev.mgr x.copy0 x.copy1).1) ∧ (s.dev.mgr.booted = false) ∧ (s.dev.mgr.recovery = false) ∧ (s.dev.gaf.held = false) ∧ (s.dev.mgr.lowRails = []) ∧ (s.dev.mgr.lastReset ≠ 5) ∧ (s.dev.tst.life ≠ 3) ∧ (x.ref40 = true) ∧ (x.ref100 = true) ∧ (x.norOk = false)) ∧
    (∃ (s : State) (x : BootFacts) (r : BootRec), (r = (useRec s.dev.mgr x.copy0 x.copy1).1) ∧ (s.dev.mgr.booted = false) ∧ (s.dev.mgr.recovery = false) ∧ (s.dev.gaf.held = false) ∧ (s.dev.mgr.lowRails = []) ∧ (s.dev.mgr.lastReset ≠ 5) ∧ (s.dev.tst.life ≠ 3) ∧ (x.ref40 = true) ∧ (x.ref100 = true) ∧ (x.norOk = true) ∧ (slotPasses s.dev.mgr.svnFloor x.slotA = false) ∧ (slotPasses s.dev.mgr.svnFloor x.slotB = false)) ∧
    (∃ (s : State) (x : BootFacts) (r : BootRec), (r = (useRec s.dev.mgr x.copy0 x.copy1).1) ∧ (s.dev.mgr.booted = false) ∧ (s.dev.mgr.recovery = false) ∧ (s.dev.gaf.held = false) ∧ (s.dev.mgr.lowRails = []) ∧ (s.dev.mgr.lastReset ≠ 5) ∧ (s.dev.tst.life ≠ 3) ∧ (x.ref40 = true) ∧ (x.ref100 = true) ∧ (x.norOk = true) ∧ (x.hbmOk = false) ∧ (r.st r.pref = .good) ∧ (slotPasses s.dev.mgr.svnFloor (if r.pref = 0 then x.slotA else x.slotB) = true)) ∧
    (∃ (s : State), ((s.dev.mgr.booted = true ∨ s.dev.gaf.held = true ∨ s.dev.mgr.lowRails ≠ []))) :=
  ⟨⟨(st 0 {} : State), ({} : BootFacts), ((useRec (st 0 {} : State).dev.mgr ({} : BootFacts).copy0 ({} : BootFacts).copy1).1 : BootRec), rfl, by (repeat' apply And.intro) <;> decide +kernel⟩,
   ⟨(st 0 { mgr := { rec0 := { seq := 4, pref := 1, stB := .trial, triesB := 2 }, rec1 := { seq := 3 } } } : State), ({} : BootFacts), ((useRec (st 0 { mgr := { rec0 := { seq := 4, pref := 1, stB := .trial, triesB := 2 }, rec1 := { seq := 3 } } } : State).dev.mgr ({} : BootFacts).copy0 ({} : BootFacts).copy1).1 : BootRec), rfl, by (repeat' apply And.intro) <;> decide +kernel⟩,
   ⟨(st 0 {} : State), ({ ref40 := false } : BootFacts), ((useRec (st 0 {} : State).dev.mgr ({ ref40 := false } : BootFacts).copy0 ({ ref40 := false } : BootFacts).copy1).1 : BootRec), rfl, by decide +kernel⟩,
   ⟨(st 0 {} : State), ({ norOk := false } : BootFacts), ((useRec (st 0 {} : State).dev.mgr ({ norOk := false } : BootFacts).copy0 ({ norOk := false } : BootFacts).copy1).1 : BootRec), rfl, by decide +kernel⟩,
   ⟨(st 0 {} : State), ({ slotA := { keyOk := false }, slotB := { sigOk := false } } : BootFacts), ((useRec (st 0 {} : State).dev.mgr ({ slotA := { keyOk := false }, slotB := { sigOk := false } } : BootFacts).copy0 ({ slotA := { keyOk := false }, slotB := { sigOk := false } } : BootFacts).copy1).1 : BootRec), rfl, by decide +kernel⟩,
   ⟨(st 0 {} : State), ({ hbmOk := false } : BootFacts), ((useRec (st 0 {} : State).dev.mgr ({ hbmOk := false } : BootFacts).copy0 ({ hbmOk := false } : BootFacts).copy1).1 : BootRec), rfl, by (repeat' apply And.intro) <;> decide +kernel⟩,
   ⟨(st 6144000 base : State), by decide +kernel⟩⟩

/-- The hypotheses of each clause of WatchdogsAndLinkEventsComplete are met. -/
theorem witness_WatchdogsAndLinkEventsComplete :
    (∃ (s : State), (s.dev.mgrStopped = false) ∧ (s.dev.pv 0xA003 ≤ s.dev.mgr.missed) ∧ (s.dev.pv 0xA002 ≠ 1)) ∧
    (∃ (s : State), (s.dev.mgrStopped = false) ∧ (s.dev.pv 0xA003 ≤ s.dev.mgr.missed) ∧ (s.dev.pv 0xA002 = 1) ∧ (s.dev.nvBusy = false) ∧ (s.dev.mgr.dirty = []) ∧ (s.dev.mgr.waitReset = none) ∧ (s.dev.justReset = false)) ∧
    (∃ (s : State), (s.dev.mgrStopped = false) ∧ (s.dev.nvBusy = false) ∧ (s.dev.mgr.waitReset = none) ∧ (s.dev.justReset = false)) ∧
    (∃ (s : State), (s.dev.mgrStopped = true)) ∧
    (∃ (s : State), (s.dev.trialOver = true) ∧ (s.dev.nvBusy = false) ∧ (s.dev.mgr.dirty = []) ∧ (s.dev.mgr.waitReset = none)) ∧
    (∃ (s : State) (req : List Word), (Admitted s.dev 0 req 1)) ∧
    (∃ (s : State) (g : Nat), ((s.dev.fn (s.dev.ring g).owner).shut ≠ .none)) :=
  ⟨⟨(st 6144000 { (withMgr { booted := true, missed := 100 }) with force := [(propKey 0xA002 0 0, 0)] } : State), by decide +kernel⟩,
   ⟨(st 6144000 { (withMgr { booted := true, missed := 100 }) with force := [(propKey 0xA002 0 0, 1)] } : State), by decide +kernel⟩,
   ⟨(st 6144000 base : State), by decide +kernel⟩,
   ⟨(st 6144000 (withMgr { booted := true, halted := true }) : State), by decide +kernel⟩,
   ⟨(st 6144000 { (withMgr { booted := true, rec0 := { stA := .trial } }) with glb := { up := 100000000000000 } } : State), by decide +kernel⟩,
   ⟨(st 6144000 base : State), (rq 7 0xA00 [] : List Word), admitted_of (by decide +kernel)⟩,
   ⟨(st 6144000 { base with fns := [(1, { st := .shutdown, shut := .reset })], tm := { ring := [(20, { owner := 1, st := .draining, done := [⟨1, 2, 3, 0⟩] })] } } : State), (20 : Nat), by decide +kernel⟩⟩

/-- The hypotheses of each clause of StoresAndLogComplete are met. -/
theorem witness_StoresAndLogComplete :
    (∃ (s : State), (s.dev.mgr.pfail = false) ∧ (s.dev.mgrQuiet = false)) ∧
    (∃ (s : State), (s.dev.mgr.pfail = true)) ∧
    (∃ (s : State) (e : LogEnt) (rest : List LogEnt), (s.dev.mgr.logQ = e :: rest) ∧ (s.dev.mgr.pfail = false) ∧ (s.dev.mgrQuiet = false) ∧ (s.dev.mgr.sec = s.now / 1000000000) ∧ (s.dev.mgr.secCount < 1024)) ∧
    (∃ (s : State) (e : LogEnt) (rest : List LogEnt), (s.dev.mgr.logQ = e :: rest) ∧ (s.dev.mgr.pfail = false) ∧ (s.dev.mgrQuiet = false) ∧ (s.dev.mgr.sec = s.now / 1000000000) ∧ (1024 ≤ s.dev.mgr.secCount)) ∧
    (∃ (s : State) (b : Nat) (n : Nat), (s.dev.mgr.merged = [(b, n)]) ∧ (s.dev.mgr.pfail = false) ∧ (s.dev.mgrQuiet = false)) ∧
    (∃ (s : State) (f : Nat) (req : List Word), (Admitted s.dev f req 1)) ∧
    (∃ (s : State) (req : List Word) (count : Nat) (first : Nat) (old : Nat) (start : Nat) (es : List LogEnt), (Admitted s.dev 0 req 2) ∧ (count = fld (wd req 1) 39 32) ∧ (first = fld (wd req 1) 31 0) ∧ (old = logOldest s.dev.mgr) ∧ (resv (wd req 1) [(63, 40)] = false) ∧ (1 ≤ count) ∧ (count ≤ 63) ∧ (start = (if (s.dev.mgr.nextSeq + 2 ^ 32 - old) % 2 ^ 32 < (s.dev.mgr.nextSeq + 2 ^ 32 - first) % 2 ^ 32 ∧ (s.dev.mgr.nextSeq + 2 ^ 32 - first) % 2 ^ 32 < 2 ^ 31 then old else first)) ∧ (es = logFrom s.dev.mgr.log s.dev.mgr.nextSeq count start)) ∧
    (∃ (s : State), (s.dev.mgr.pfail = false) ∧ (s.dev.mgrQuiet = true)) ∧
    (∃ (s : State), (s.dev.mgr.pfail = true ∨ s.dev.mgrQuiet = true)) :=
  ⟨⟨(st 6144000 (withMgr { booted := true, dirty := [propKey 0x9001 0 0] }) : State), by decide +kernel⟩,
   ⟨(st 6144000 (withMgr { booted := true, dirty := [5], pfail := true }) : State), by decide +kernel⟩,
   ⟨(st 6144000 (withMgr { booted := true, logQ := [{ time := 5000, block := 3, bit := 4, used := true }] }) : State), ({ time := 5000, block := 3, bit := 4, used := true } : LogEnt), ([] : List LogEnt), by decide +kernel⟩,
   ⟨(st 6144000 (withMgr { booted := true, logQ := [{ time := 5000, block := 3, bit := 4, used := true }], secCount := 1024 }) : State), ({ time := 5000, block := 3, bit := 4, used := true } : LogEnt), ([] : List LogEnt), by decide +kernel⟩,
   ⟨(st 6144000 (withMgr { booted := true, merged := [(3, 5)] }) : State), (3 : Nat), (5 : Nat), by decide +kernel⟩,
   ⟨(st 6144000 base : State), (0 : Nat), (rq 7 0xA01 [] : List Word), admitted_of (by decide +kernel)⟩,
   ⟨(st 6144000 base : State), (rq 7 0xA02 [packW [(10, 8, 32), (0, 32, 0)]] : List Word), (fld (wd (rq 7 0xA02 [packW [(10, 8, 32), (0, 32, 0)]] : List Word) 1) 39 32 : Nat), (fld (wd (rq 7 0xA02 [packW [(10, 8, 32), (0, 32, 0)]] : List Word) 1) 31 0 : Nat), (logOldest (st 6144000 base : State).dev.mgr : Nat), (0 : Nat), ([] : List LogEnt), admitted_of (by decide +kernel), rfl, rfl, rfl, by decide +kernel⟩,
   ⟨(st 6144000 { (withMgr { booted := true, dirty := [5] }) with gaf := { state := .interval, quiesced := 0x3FF } } : State), by decide +kernel⟩,
   ⟨(st 6144000 (withMgr { booted := true, pfail := true, logQ := [{ time := 5000, block := 3, bit := 4, used := true }] }) : State), by decide +kernel⟩⟩

/-- The hypotheses of each clause of ImageCommandsComplete are met. -/
theorem witness_ImageCommandsComplete :
    (∃ (s : State) (req : List Word), (Admitted s.dev 0 req 1) ∧ (s.dev.mgr.nor = none) ∧ (s.dev.mgr.pfail = false) ∧ (s.dev.trialRunning = false)) ∧
    (∃ (s : State) (req : List Word) (l : Nat), (Admitted s.dev 0 req l) ∧ (s.dev.mgr.nor = none) ∧ (s.dev.mgr.pfail = false) ∧ (3 ≤ l) ∧ (resv (wd req 1) [(63, 25)] = false) ∧ (imgOffset req % 8 = 0) ∧ (imgOffset req + 8 * imgN req ≤ 32505856) ∧ (s.dev.mgr.image.begun = true) ∧ (s.dev.mgr.image.ranges.any (fun r => decide (imgOffset req < r.2) && decide (r.1 < imgOffset req + 8 * imgN req)) = false)) ∧
    (∃ (s : State) (req : List Word), (Admitted s.dev 0 req 1) ∧ (s.dev.mgr.nor = none) ∧ (s.dev.mgr.pfail = false) ∧ (s.dev.mgr.image.begun = true)) ∧
    (∃ (s : State) (req : List Word), (Admitted s.dev 0 req 1) ∧ (s.dev.mgr.nor = none) ∧ (s.dev.mgr.pfail = false) ∧ (s.dev.trialRunning = true)) ∧
    (∃ (s : State) (req : List Word), (Admitted s.dev 0 req 1) ∧ (s.dev.mgr.nor.isSome = true) ∧ (s.dev.mgr.pfail = false)) ∧
    (∃ (s : State) (j : NorJob), (s.dev.mgr.heldCmds = [j]) ∧ (imageRefusal s.dev j.pend.op j.words true = none) ∧ (s.dev.mgr.nor.isSome = true) ∧ (s.dev.mgr.pfail = false)) ∧
    (∃ (s : State) (j : NorJob), (s.dev.mgr.heldCmds = [j]) ∧ (imageRefusal s.dev j.pend.op j.words true = none) ∧ (s.dev.mgr.nor = none) ∧ (s.dev.mgr.flushDeferred = false)) ∧
    (∃ (s : State) (tag : Nat) (op : Nat) (ws : List Word), (s.dev.mgr.nor = some ⟨⟨.fn 0, tag, op⟩, ws⟩) ∧ (s.dev.mgr.heldCmds = []) ∧ ((s.dev.fn 0).tags.contains tag = true) ∧ (op = 0xA10)) ∧
    (∃ (s : State) (tag : Nat) (op : Nat) (ws : List Word), (s.dev.mgr.nor = some ⟨⟨.fn 0, tag, op⟩, ws⟩) ∧ (s.dev.mgr.heldCmds = []) ∧ ((s.dev.fn 0).tags.contains tag = true) ∧ (op = 0xA11)) ∧
    (∃ (s : State) (tag : Nat) (op : Nat) (ws : List Word) (x : SlotCheck), (s.dev.mgr.nor = some ⟨⟨.fn 0, tag, op⟩, ws⟩) ∧ (s.dev.mgr.heldCmds = []) ∧ ((s.dev.fn 0).tags.contains tag = true) ∧ (op = 0xA12) ∧ (s.dev.mgr.svnFloor ≤ x.svn) ∧ (x.keyOk = true) ∧ (x.sigOk = true) ∧ (x.digestOk = true)) ∧
    (∃ (s : State) (tag : Nat) (op : Nat) (ws : List Word) (x : SlotCheck), (s.dev.mgr.nor = some ⟨⟨.fn 0, tag, op⟩, ws⟩) ∧ (s.dev.mgr.heldCmds = []) ∧ ((s.dev.fn 0).tags.contains tag = true) ∧ (op = 0xA12) ∧ (x.svn < s.dev.mgr.svnFloor)) ∧
    (∃ (s : State) (tag : Nat) (op : Nat) (ws : List Word) (x : SlotCheck), (s.dev.mgr.nor = some ⟨⟨.fn 0, tag, op⟩, ws⟩) ∧ (s.dev.mgr.heldCmds = []) ∧ ((s.dev.fn 0).tags.contains tag = true) ∧ (op = 0xA12) ∧ (s.dev.mgr.svnFloor ≤ x.svn) ∧ ((x.keyOk && x.sigOk && x.digestOk) = false)) ∧
    (∃ (s : State) (tag : Nat) (op : Nat) (ws : List Word), (s.dev.mgr.nor = some ⟨⟨.fn 0, tag, op⟩, ws⟩) ∧ (s.dev.mgr.heldCmds = []) ∧ ((s.dev.fn 0).tags.contains tag = true) ∧ (op = 0xA13)) ∧
    (∃ (s : State) (tag : Nat) (op : Nat) (ws : List Word), (s.dev.mgr.nor = some ⟨⟨.fn 0, tag, op⟩, ws⟩) ∧ (s.dev.mgr.heldCmds = []) ∧ ((s.dev.fn 0).tags.contains tag = true)) :=
  ⟨⟨(st 6144000 base : State), (rq 7 0xA10 [] : List Word), admitted_of (by decide +kernel), by decide +kernel⟩,
   ⟨(st 6144000 (withMgr { booted := true, image := { begun := true, ranges := [(0, 8)] } }) : State), (rq 7 0xA11 [8, 77] : List Word), (3 : Nat), admitted_of (by decide +kernel), by decide +kernel⟩,
   ⟨(st 6144000 (withMgr { booted := true, image := { begun := true } }) : State), (rq 7 0xA12 [] : List Word), admitted_of (by decide +kernel), by decide +kernel⟩,
   ⟨(st 6144000 (withMgr { booted := true, rec0 := { stA := .trial } }) : State), (rq 7 0xA13 [] : List Word), admitted_of (by decide +kernel), by decide +kernel⟩,
   ⟨(st 6144000 { base with fns := [(0, { st := .ready, versionSeen := true, tags := [3] })], mgr := { booted := true, nor := some ⟨⟨.fn 0, 3, 0xA12⟩, []⟩ } } : State), (rq 7 0xA10 [] : List Word), admitted_of (by decide +kernel), by decide +kernel⟩,
   ⟨(st 6144000 { base with fns := [(0, { st := .ready, versionSeen := true, tags := [2, 3] })], mgr := { booted := true, nor := some ⟨⟨.fn 0, 2, 0xA10⟩, rq 2 0xA10 []⟩, heldCmds := [⟨⟨.fn 0, 3, 0xA10⟩, rq 3 0xA10 []⟩] } } : State), (⟨⟨.fn 0, 3, 0xA10⟩, rq 3 0xA10 []⟩ : NorJob), by decide +kernel⟩,
   ⟨(st 6144000 { base with fns := [(0, { st := .ready, versionSeen := true, tags := [2, 3] })], mgr := { booted := true, pfail := true, heldCmds := [⟨⟨.fn 0, 3, 0xA10⟩, rq 3 0xA10 []⟩] } } : State), (⟨⟨.fn 0, 3, 0xA10⟩, rq 3 0xA10 []⟩ : NorJob), by decide +kernel⟩,
   ⟨(st 6144000 { base with fns := [(0, { st := .ready, versionSeen := true, tags := [7] })], mgr := { booted := true, nor := some ⟨⟨.fn 0, 7, 0xA10⟩, []⟩, image := { begun := true } } } : State), (7 : Nat), (0xA10 : Nat), ([] : List Word), by decide +kernel⟩,
   ⟨(st 6144000 { base with fns := [(0, { st := .ready, versionSeen := true, tags := [7] })], mgr := { booted := true, nor := some ⟨⟨.fn 0, 7, 0xA11⟩, [(0x0007000300000A11 : Word), 8, 77]⟩, image := { begun := true } } } : State), (7 : Nat), (0xA11 : Nat), ([(0x0007000300000A11 : Word), 8, 77] : List Word), by decide +kernel⟩,
   ⟨(st 6144000 { base with fns := [(0, { st := .ready, versionSeen := true, tags := [7] })], mgr := { booted := true, nor := some ⟨⟨.fn 0, 7, 0xA12⟩, []⟩, image := { begun := true } } } : State), (7 : Nat), (0xA12 : Nat), ([] : List Word), ({} : SlotCheck), by decide +kernel⟩,
   ⟨(st 6144000 { base with fns := [(0, { st := .ready, versionSeen := true, tags := [7] })], mgr := { booted := true, svnFloor := 3, nor := some ⟨⟨.fn 0, 7, 0xA12⟩, []⟩, image := { begun := true } } } : State), (7 : Nat), (0xA12 : Nat), ([] : List Word), ({ svn := 2 } : SlotCheck), by decide +kernel⟩,
   ⟨(st 6144000 { base with fns := [(0, { st := .ready, versionSeen := true, tags := [7] })], mgr := { booted := true, nor := some ⟨⟨.fn 0, 7, 0xA12⟩, []⟩, image := { begun := true } } } : State), (7 : Nat), (0xA12 : Nat), ([] : List Word), ({ sigOk := false } : SlotCheck), by decide +kernel⟩,
   ⟨(st 6144000 { base with fns := [(0, { st := .ready, versionSeen := true, tags := [7] })], mgr := { booted := true, rec0 := { stA := .trial }, nor := some ⟨⟨.fn 0, 7, 0xA13⟩, []⟩, image := { begun := true } } } : State), (7 : Nat), (0xA13 : Nat), ([] : List Word), by decide +kernel⟩,
   ⟨(st 6144000 { base with fns := [(0, { st := .ready, versionSeen := true, tags := [7] })], mgr := { booted := true, nor := some ⟨⟨.fn 0, 7, 0xA12⟩, []⟩, image := { begun := true } } } : State), (7 : Nat), (0xA12 : Nat), ([] : List Word), by decide +kernel⟩⟩

/-- The hypotheses of each clause of MeteringCompletes are met. -/
theorem witness_MeteringCompletes :
    (∃ (s : State) (tt : Nat), (s.dev.running = true) ∧ (s.dev.glb.tsPresent = true) ∧ (s.dev.ts.vdd ≠ .lost) ∧ (tt < tsEnd s.dev.ts)) ∧
    (∃ (s : State) (tt : Nat), (s.dev.running = true) ∧ (s.dev.glb.tsPresent = true) ∧ (s.dev.ts.vdd ≠ .lost) ∧ (tt < tsEnd s.dev.ts)) ∧
    (∃ (s : State) (tt : Nat) (w : Nat) (st : Nat), (s.dev.running = true) ∧ (s.dev.glb.tsPresent = true) ∧ (s.dev.ts.vdd ≠ .lost) ∧ (tt < tsEnd s.dev.ts) ∧ (0 < w) ∧ (0 < st)) ∧
    (∃ (s : State) (tt : Nat), (s.dev.running = true) ∧ (s.dev.glb.tsPresent = true) ∧ (s.dev.ts.vdd ≠ .lost) ∧ (tt < tsEnd s.dev.ts)) ∧
    (∃ (us : List TapUser), (us ≠ [])) ∧
    (∃ (s : State), (s.dev.ts.vdd = .lost)) ∧
    (∃ (s : State), (s.dev.glb.tsPresent = true) ∧ (s.dev.ts.vdd = .good)) :=
  ⟨⟨(st 6144000 base : State), (500 : Nat), by decide +kernel⟩,
   ⟨(st 6144000 base : State), (500 : Nat), by decide +kernel⟩,
   ⟨(st 6144000 base : State), (500 : Nat), (26 : Nat), (2 : Nat), by decide +kernel⟩,
   ⟨(st 6144000 base : State), (500 : Nat), by decide +kernel⟩,
   ⟨([⟨1, 26, 2⟩, ⟨2, 52, 1⟩, ⟨3, 26, 1⟩] : List TapUser), by decide +kernel⟩,
   ⟨(st 6144000 (withTs { vdd := .lost }) : State), by decide +kernel⟩,
   ⟨(st 6144000 base : State), by decide +kernel⟩⟩

/-- The hypotheses of each clause of TurnstileSupplyAndPortComplete are met. -/
theorem witness_TurnstileSupplyAndPortComplete :
    (∃ (s : State), (s.dev.glb.tsPresent = true) ∧ (s.dev.ts.vdd = .good)) ∧
    (∃ (s : State), (s.dev.glb.tsPresent = true) ∧ (s.dev.ts.vdd = .warning) ∧ (s.dev.ts.ring.length + s.dev.ts.unwritten.length ≤ 144)) ∧
    (∃ (s : State), (s.dev.glb.tsPresent = true)) ∧
    (∃ (s : State) (r : _), (s.dev.glb.tsPresent = true) ∧ (s.dev.ts.vdd = .lost) ∧ (s.dev.ts.ring.getLast? = some r)) ∧
    (∃ (s : State), (s.dev.glb.tsPresent = true)) ∧
    (∃ (s : State) (seq : _) (r : _), (s.dev.glb.tsPresent = true) ∧ (s.dev.ts.vdd ≠ .lost) ∧ (s.dev.ts.ring.find? (fun q => q.seq == seq) = some r) ∧ (s.dev.ts.mirror.recs.length < 32)) ∧
    (∃ (s : State) (tt : _), (s.dev.glb.tsPresent = true) ∧ (s.dev.ts.vdd = .good) ∧ (tt < tsEnd s.dev.ts) ∧ (s.dev.ts.closed = false)) ∧
    (∃ (s : State), (s.dev.glb.tsPresent = false)) ∧
    (∃ (s : State) (tt : Nat), (s.dev.glb.tsPresent = true) ∧ (s.dev.ts.vdd ≠ .lost) ∧ (tt < tsEnd s.dev.ts) ∧ (s.dev.ts.awaitQuiet = false)) ∧
    (∃ (s : State) (tt : Nat) (p : List Byte) (r : _), (s.dev.glb.tsPresent = true) ∧ (s.dev.ts.vdd ≠ .lost) ∧ (tt < tsEnd s.dev.ts) ∧ (s.dev.ts.awaitQuiet = false) ∧ (p.length = 4) ∧ (s.dev.ts.ring.find? (fun q => q.seq == ofBe p) = some r) ∧ (r.lineOk = true)) ∧
    (∃ (s : State) (tt : Nat), (s.dev.glb.tsPresent = true) ∧ (s.dev.ts.vdd ≠ .lost) ∧ (tt < tsEnd s.dev.ts) ∧ (s.dev.ts.awaitQuiet = false)) ∧
    (∃ (s : State) (tt : Nat) (p : List Byte), (s.dev.glb.tsPresent = true) ∧ (s.dev.ts.vdd ≠ .lost) ∧ (tt < tsEnd s.dev.ts) ∧ (s.dev.ts.awaitQuiet = false) ∧ (p.length = 5) ∧ (1 ≤ ofBe (p.take 1)) ∧ (ofBe (p.take 1) ≤ 60) ∧ (s.dev.ts.closed = true)) ∧
    (∃ (s : State) (tt : Nat) (p : List Byte), (s.dev.glb.tsPresent = true) ∧ (s.dev.ts.vdd ≠ .lost) ∧ (tt < tsEnd s.dev.ts) ∧ (s.dev.ts.awaitQuiet = false) ∧ (p.length = 5) ∧ (1 ≤ ofBe (p.take 1)) ∧ (ofBe (p.take 1) ≤ 60) ∧ (s.dev.ts.closed = false)) ∧
    (∃ (s : State) (tt : Nat) (l : List Byte), (s.dev.glb.tsPresent = true) ∧ (s.dev.ts.vdd ≠ .lost) ∧ (tt < tsEnd s.dev.ts) ∧ (s.dev.ts.awaitQuiet = false) ∧ (portGood l = false)) ∧
    (∃ (s : State) (f : Nat) (req : List Word), (Admitted s.dev f req 1) ∧ (s.dev.glb.tsPresent = true) ∧ (s.dev.ts.mirror.recs ≠ [])) ∧
    (∃ (s : State) (f : Nat) (req : List Word) (r : TsRec), (Admitted s.dev f req 2) ∧ (resv (wd req 1) [(63, 32)] = false) ∧ (s.dev.glb.tsPresent = true) ∧ (s.dev.ts.mirror.recs.find? (fun r => r.seq == fld (wd req 1) 31 0) = some r)) :=
  ⟨⟨(st 6144000 base : State), by decide +kernel⟩,
   ⟨(st 6144000 (withTs { vdd := .warning }) : State), by decide +kernel⟩,
   ⟨(st 6144000 base : State), by decide +kernel⟩,
   ⟨(st 6144000 (withTs { vdd := .lost, ring := [rec1 4] }) : State), (rec1 4), by decide +kernel⟩,
   ⟨(st 6144000 base : State), by decide +kernel⟩,
   ⟨(st 6144000 (withTs { ring := [rec1 4, rec1 5], mirror := { recs := [rec1 4] } }) : State), (5), (rec1 5), by decide +kernel⟩,
   ⟨(st 6144000 base : State), (500), by decide +kernel⟩,
   ⟨(st 6144000 { base with glb := { tsPresent := false } } : State), by decide +kernel⟩,
   ⟨(st 6144000 base : State), (500 : Nat), by decide +kernel⟩,
   ⟨(st 6144000 (withTs { ring := [rec1 4] }) : State), (500 : Nat), (([0, 0, 0, 4] : List Byte) : List Byte), (rec1 4), by decide +kernel⟩,
   ⟨(st 6144000 base : State), (500 : Nat), by decide +kernel⟩,
   ⟨(st 6144000 (withTs { closed := true }) : State), (500 : Nat), (([30, 0, 0, 0, 9] : List Byte) : List Byte), by decide +kernel⟩,
   ⟨(st 6144000 base : State), (500 : Nat), (([30, 0, 0, 0, 9] : List Byte) : List Byte), by decide +kernel⟩,
   ⟨(st 6144000 base : State), (500 : Nat), (([0x7E, 1, 2] : List Byte) : List Byte), by decide +kernel⟩,
   ⟨(st 6144000 (withTs { mirror := { present := true, running := true, site := 3, time := 77, recs := [rec1 4] } }) : State), (0 : Nat), (rq 7 0xA20 [] : List Word), admitted_of (by decide +kernel), by decide +kernel⟩,
   ⟨(st 6144000 (withTs { mirror := { present := true, recs := [rec1 4] } }) : State), (1 : Nat), (rq 7 0xA21 [4] : List Word), (rec1 4 : TsRec), admitted_of (by decide +kernel), by decide +kernel⟩⟩

/-- The hypotheses of each clause of DailiesComplete are met. -/
theorem witness_DailiesComplete :
    (∃ (s : State) (n : Nat), (n = (tickOf s.now + 2 ^ 48 - 1) % 2 ^ 48) ∧ (1024000 ≤ s.now) ∧ (s.dev.gaf.state = .show') ∧ (s.dev.mem.hbmFailed = false) ∧ (s.dev.dly.newest ≠ some n)) ∧
    (∃ (s : State) (m : Master), (s.dev.stopped m = false)) ∧
    (∃ (s : State) (f : Nat) (req : List Word) (bank : Nat) (x : Snap), (Admitted s.dev f req 2) ∧ (bank = fld (wd req 1) 53 48) ∧ (resv (wd req 1) [(63, 54)] = false) ∧ ((f = 0 ∨ bank = 2 + f)) ∧ (1 ≤ bank) ∧ (bank ≤ 45) ∧ ((s.dev.namedTick (fld (wd req 1) 47 0)).bind s.dev.snapOf = some x)) ∧
    (∃ (s : State) (f : Nat) (req : List Word) (w : Nat) (kind : Nat) (ix : Nat) (e : Nat) (n : Nat), (Admitted s.dev f req 3) ∧ (w = fld (wd req 2) 20 8) ∧ (kind = fld (wd req 2) 7 6) ∧ (ix = fld (wd req 2) 3 0) ∧ (n = s.dev.windowOctets e w kind ix (nbit (wd req 2).toNat 4)) ∧ (resv (wd req 1) [(63, 48)] = false) ∧ (resv (wd req 2) [(63, 21), (5, 5)] = false) ∧ ((f = 0 ∨ (kind = 2 ∧ ix = f))) ∧ (1 ≤ w) ∧ (w ≤ 4096) ∧ (ix ≤ rateMax kind) ∧ (s.dev.namedTick (fld (wd req 1) 47 0) = some e) ∧ (s.dev.windowOk e w kind ix = true)) :=
  ⟨⟨(st 6144000 base : State), ((tickOf (st 6144000 base : State).now + 2 ^ 48 - 1) % 2 ^ 48 : Nat), rfl, by decide +kernel⟩,
   ⟨(st 6144000 { base with dly := { peekSel := [(0, packR [(3, 5, 0), (1, 6, 8)])] }, counts := [(35, 0x123456789A)] } : State), (.fn 0 : Master), by decide +kernel⟩,
   ⟨(st 6144000 { base with dly := { newest := some 5, ring := [(5, { held := true, tick := 5, showTime := 5120000, counts := [(35, 100)] })] } } : State), (0 : Nat), (rq 7 0xA30 [packW [(1, 6, 48), (5, 48, 0)]] : List Word), (fld (wd (rq 7 0xA30 [packW [(1, 6, 48), (5, 48, 0)]] : List Word) 1) 53 48 : Nat), ({ held := true, tick := 5, showTime := 5120000, counts := [(35, 100)] } : Snap), admitted_of (by decide +kernel), rfl, by decide +kernel⟩,
   ⟨(st 6144000 { base with dly := { newest := some 5, ring := [(4, { held := true, tick := 4, showTime := 4096000, counts := [(35, 40)] }), (5, { held := true, tick := 5, showTime := 5120000, counts := [(35, 100)] })] } } : State), (0 : Nat), (rq 7 0xA31 [0, packW [(1, 13, 8), (1, 2, 6), (2, 4, 0)]] : List Word), (fld (wd (rq 7 0xA31 [0, packW [(1, 13, 8), (1, 2, 6), (2, 4, 0)]] : List Word) 2) 20 8 : Nat), (fld (wd (rq 7 0xA31 [0, packW [(1, 13, 8), (1, 2, 6), (2, 4, 0)]] : List Word) 2) 7 6 : Nat), (fld (wd (rq 7 0xA31 [0, packW [(1, 13, 8), (1, 2, 6), (2, 4, 0)]] : List Word) 2) 3 0 : Nat), (5 : Nat), ((st 6144000 { base with dly := { newest := some 5, ring := [(4, { held := true, tick := 4, showTime := 4096000, counts := [(35, 40)] }), (5, { held := true, tick := 5, showTime := 5120000, counts := [(35, 100)] })] } } : State).dev.windowOctets (5 : Nat) (fld (wd (rq 7 0xA31 [0, packW [(1, 13, 8), (1, 2, 6), (2, 4, 0)]] : List Word) 2) 20 8 : Nat) (fld (wd (rq 7 0xA31 [0, packW [(1, 13, 8), (1, 2, 6), (2, 4, 0)]] : List Word) 2) 7 6 : Nat) (fld (wd (rq 7 0xA31 [0, packW [(1, 13, 8), (1, 2, 6), (2, 4, 0)]] : List Word) 2) 3 0 : Nat) (nbit (wd (rq 7 0xA31 [0, packW [(1, 13, 8), (1, 2, 6), (2, 4, 0)]] : List Word) 2).toNat 4) : Nat), admitted_of (by decide +kernel), rfl, rfl, rfl, rfl, by decide +kernel⟩⟩

/-- The hypotheses of each clause of TestAndDebugPortsComplete are met. -/
theorem witness_TestAndDebugPortsComplete :
    (∃ (s : State), (s.dev.tst.scanning = false)) ∧
    (∃ (s : State), (s.dev.tst.scanning = false)) ∧
    (∃ (s : State), (s.dev.tst.scanning = false)) ∧
    (∃ (s : State), (s.dev.tst.scanning = false)) ∧
    (∃ (s : State), (s.dev.tst.scanning = false)) ∧
    (∃ (c : _), (c ∈ [Instr.extest, .extestPulse, .extestTrain, .clamp, .highz])) ∧
    (∃ (s : State) (c : _), (s.dev.tst.scanning = true) ∧ (s.dev.nvBusy = false) ∧ (s.dev.mgr.lowRails = []) ∧ (s.dev.justReset = false) ∧ (c ∈ [Instr.idcode, .tapReset, .bypass 0xFF])) ∧
    (∃ (s : State), (s.dev.tst.scanning = false)) ∧
    (∃ (s : State), (s.dev.tst.scanning = false) ∧ (s.dev.tst.fails < 3)) ∧
    (∃ (s : State), (s.dev.tst.scanning = false) ∧ (3 ≤ s.dev.tst.fails)) ∧
    (∃ (s : State) (c : Nat), (s.dev.tst.challenge = some c)) ∧
    (∃ (s : State) (c : Nat) (k : _) (g : _), (s.dev.tst.challenge = some c) ∧ ((k && g) = false)) ∧
    (∃ (s : State), (s.dev.tst.challenge = none)) ∧
    (∃ (s : State), (s.dev.tst.connected = true)) ∧
    (∃ (s : State), (s.dev.tst.connected = true)) ∧
    (∃ (s : State), (s.dev.tst.connected = true)) ∧
    (∃ (s : State), (s.dev.tst.connected = true)) ∧
    (∃ (s : State), (s.dev.tst.connected = false)) ∧
    (∃ (s : State), (s.dev.tst.connected = false)) :=
  ⟨⟨(st 6144000 base : State), by decide +kernel⟩,
   ⟨(st 6144000 base : State), by decide +kernel⟩,
   ⟨(st 6144000 base : State), by decide +kernel⟩,
   ⟨(st 6144000 base : State), by decide +kernel⟩,
   ⟨(st 6144000 base : State), by decide +kernel⟩,
   ⟨(Instr.extest), by decide +kernel⟩,
   ⟨(st 6144000 { base with tst := { scanning := true } } : State), (Instr.idcode), by decide +kernel⟩,
   ⟨(st 6144000 base : State), by decide +kernel⟩,
   ⟨(st 6144000 base : State), by decide +kernel⟩,
   ⟨(st 6144000 { base with tst := { fails := 3 } } : State), by decide +kernel⟩,
   ⟨(st 6144000 { base with tst := { challenge := some 7 } } : State), (7 : Nat), by decide +kernel⟩,
   ⟨(st 6144000 { base with tst := { challenge := some 7 } } : State), (7 : Nat), (false), (true), by decide +kernel⟩,
   ⟨(st 6144000 base : State), by decide +kernel⟩,
   ⟨(st 6144000 { base with tst := { connected := true, unlocked := true } } : State), by decide +kernel⟩,
   ⟨(st 6144000 { base with tst := { connected := true, unlocked := true } } : State), by decide +kernel⟩,
   ⟨(st 6144000 { base with tst := { connected := true, unlocked := true }, rgm := { core := [(3, { halted := true })] } } : State), by decide +kernel⟩,
   ⟨(st 6144000 { base with tst := { connected := true, unlocked := true }, mgr := { booted := true, halted := true } } : State), by decide +kernel⟩,
   ⟨(st 6144000 base : State), by decide +kernel⟩,
   ⟨(st 6144000 base : State), by decide +kernel⟩⟩

/-- The hypotheses of each clause of KeySlotsComplete are met. -/
theorem witness_KeySlotsComplete :
    (∃ (s : State) (f : Nat) (req : List Word) (n : Nat), (Admitted s.dev f req 12) ∧ (n = (if fld (wd req 1) 13 0 = 0x3FFF then s.dev.lowestSlot.getD 0 else fld (wd req 1) 13 0)) ∧ (resv (wd req 1) [(63, 60), (55, 52), (31, 14)] = false) ∧ (resv (wd req 5) [(31, 0)] = false) ∧ (resv (wd req 7) [(31, 0)] = false) ∧ (s.dev.keyJudge (.fn f) req = none)) ∧
    (∃ (s : State) (f : Nat) (req : List Word) (st : _), (Admitted s.dev f req 12) ∧ (resv (wd req 1) [(63, 60), (55, 52), (31, 14)] = false) ∧ (resv (wd req 5) [(31, 0)] = false) ∧ (resv (wd req 7) [(31, 0)] = false) ∧ (s.dev.keyJudge (.fn f) req = some st)) ∧
    (∃ (s : State) (f : Nat) (req : List Word) (n : Nat), (Admitted s.dev f req 2) ∧ (n = fld (wd req 1) 13 0) ∧ (resv (wd req 1) [(63, 14)] = false) ∧ (n < keySlots) ∧ ((s.dev.slotView n).used = true) ∧ ((f = 0 ∨ (s.dev.slotView n).tenant = f)) ∧ (s.dev.claimed .keySlot (2 * n) = false)) ∧
    (∃ (s : State) (f : Nat) (req : List Word) (n : Nat) (x : KeySlot), (Admitted s.dev f req 2) ∧ (n = fld (wd req 1) 13 0) ∧ (x = s.dev.slot n) ∧ (resv (wd req 1) [(63, 14)] = false) ∧ (n < keySlots) ∧ ((f = 0 ∨ x.tenant = f)) ∧ (x.used = true)) ∧
    (∃ (s : State) (f : Nat) (req : List Word) (n : Nat) (x : KeySlot), (Admitted s.dev f req 2) ∧ (n = fld (wd req 1) 13 0) ∧ (x = s.dev.slot n) ∧ (resv (wd req 1) [(63, 14)] = false) ∧ (n < keySlots) ∧ ((f = 0 ∨ x.tenant = f)) ∧ (x.used = false)) ∧
    (∃ (s : State) (n : Nat) (b : Nat) (f : Nat) (tag : Nat) (op : Nat) (e : Option KeySlot) (k : _), (s.dev.wcx.staged = [⟨n, e, b, some ⟨.fn f, tag, op⟩⟩]) ∧ (b < beatNo s.dev.glb.up) ∧ ((s.dev.fn f).tags.contains tag = true) ∧ (e = some k)) ∧
    (∃ (s : State) (n : Nat) (b : Nat) (f : Nat) (tag : Nat) (op : Nat) (e : Option KeySlot), (s.dev.wcx.staged = [⟨n, e, b, some ⟨.fn f, tag, op⟩⟩]) ∧ (b < beatNo s.dev.glb.up) ∧ ((s.dev.fn f).tags.contains tag = true) ∧ (e = none)) ∧
    (∃ (s : State) (req : List Word) (p : Nat), (Admitted s.dev 0 req 3) ∧ (p = fld (wd req 1) 1 0) ∧ (resv (wd req 1) [(31, 9), (7, 2)] = false) ∧ ((s.dev.reg (emacAddr p 0)).getLsbD 31 = false) ∧ (s.dev.claimed .macsec p = false) ∧ (nbit (wd req 1).toNat 8 = true) ∧ (s.dev.macsecLoad p ≤ 400)) ∧
    (∃ (s : State) (req : List Word) (p : Nat), (Admitted s.dev 0 req 3) ∧ (p = fld (wd req 1) 1 0) ∧ (resv (wd req 1) [(31, 9), (7, 2)] = false) ∧ ((s.dev.reg (emacAddr p 0)).getLsbD 31 = false) ∧ (s.dev.claimed .macsec p = false) ∧ (nbit (wd req 1).toNat 8 = false)) :=
  ⟨⟨(st 6144000 air : State), (1 : Nat), (rq 7 0x700 [packW [(0, 4, 44), (0, 4, 48), (0, 4, 56), (0x3FFF, 14, 0)], 0, 0, 5, 0, 0, 0, 1, 2, 0, 0] : List Word), ((if fld (wd (rq 7 0x700 [packW [(0, 4, 44), (0, 4, 48), (0, 4, 56), (0x3FFF, 14, 0)], 0, 0, 5, 0, 0, 0, 1, 2, 0, 0] : List Word) 1) 13 0 = 0x3FFF then (st 6144000 air : State).dev.lowestSlot.getD 0 else fld (wd (rq 7 0x700 [packW [(0, 4, 44), (0, 4, 48), (0, 4, 56), (0x3FFF, 14, 0)], 0, 0, 5, 0, 0, 0, 1, 2, 0, 0] : List Word) 1) 13 0) : Nat), admitted_of (by decide +kernel), rfl, by decide +kernel⟩,
   ⟨(st 6144000 base : State), (1 : Nat), (rq 7 0x700 [packW [(0, 4, 44), (0, 4, 48), (0, 4, 56), (0x3FFF, 14, 0)], 0, 0, 5, 0, 0, 0, 1, 2, 0, 0] : List Word), (Status.wrongState), admitted_of (by decide +kernel), by decide +kernel⟩,
   ⟨(st 6144000 (withKeys { sta5 with ptk := 9 } [(9, key1)]) : State), (1 : Nat), (rq 7 0x701 [9] : List Word), (fld (wd (rq 7 0x701 [9] : List Word) 1) 13 0 : Nat), admitted_of (by decide +kernel), rfl, by decide +kernel⟩,
   ⟨(st 6144000 (withKeys { sta5 with ptk := 9 } [(9, key1)]) : State), (1 : Nat), (rq 7 0x702 [9] : List Word), (fld (wd (rq 7 0x702 [9] : List Word) 1) 13 0 : Nat), ((st 6144000 (withKeys { sta5 with ptk := 9 } [(9, key1)]) : State).dev.slot (fld (wd (rq 7 0x702 [9] : List Word) 1) 13 0 : Nat) : KeySlot), admitted_of (by decide +kernel), rfl, rfl, by decide +kernel⟩,
   ⟨(st 6144000 base : State), (0 : Nat), (rq 7 0x702 [9] : List Word), (fld (wd (rq 7 0x702 [9] : List Word) 1) 13 0 : Nat), ((st 6144000 base : State).dev.slot (fld (wd (rq 7 0x702 [9] : List Word) 1) 13 0 : Nat) : KeySlot), admitted_of (by decide +kernel), rfl, rfl, by decide +kernel⟩,
   ⟨(st 6144000 { (withKeys sta5 []) with glb := { up := 5000 }, fns := [(0, { st := .ready, tags := [7] })], wcx := { staged := [⟨9, some key1, 1, some ⟨.fn 0, 7, 0x700⟩⟩] } } : State), (9 : Nat), (1 : Nat), (0 : Nat), (7 : Nat), (0x700 : Nat), (some key1 : Option KeySlot), (key1), by decide +kernel⟩,
   ⟨(st 6144000 { (withKeys { sta5 with ptk := 9 } []) with glb := { up := 5000 }, fns := [(0, { st := .ready, tags := [7] })], wcx := { slots := [(9, key1)], staged := [⟨9, none, 1, some ⟨.fn 0, 7, 0x701⟩⟩] } } : State), (9 : Nat), (1 : Nat), (0 : Nat), (7 : Nat), (0x701 : Nat), (none : Option KeySlot), by decide +kernel⟩,
   ⟨(st 6144000 base : State), (rq 7 0x710 [0x100, 0] : List Word), (fld (wd (rq 7 0x710 [0x100, 0] : List Word) 1) 1 0 : Nat), admitted_of (by decide +kernel), rfl, by decide +kernel⟩,
   ⟨(st 6144000 base : State), (rq 7 0x710 [0, 0] : List Word), (fld (wd (rq 7 0x710 [0, 0] : List Word) 1) 1 0 : Nat), admitted_of (by decide +kernel), rfl, by decide +kernel⟩⟩

/-- The hypotheses of each clause of CipherOperationsComplete are met. -/
theorem witness_CipherOperationsComplete :
    (∃ (s : State) (op : CipherOp) (n : Nat), (s.dev.wcx.waits = []) ∧ (s.dev.coreFree = true) ∧ (op.cls = 1) ∧ (s.dev.wlanTxSlot op = some n) ∧ ((s.dev.slot n).used = true) ∧ ((s.dev.slot n).txPn < pnMax (s.dev.slot n).alg) ∧ (wlanLenOk (s.dev.slot n).alg op = true)) ∧
    (∃ (s : State) (op : CipherOp) (n : Nat), (s.dev.wcx.waits = []) ∧ (s.dev.coreFree = true) ∧ (op.cls = 1) ∧ (s.dev.wlanTxSlot op = some n) ∧ ((s.dev.slot n).used = true) ∧ ((s.dev.slot n).txPn = pnMax (s.dev.slot n).alg) ∧ (wlanLenOk (s.dev.slot n).alg op = true)) ∧
    (∃ (s : State) (op : CipherOp), (s.dev.wcx.waits = []) ∧ (s.dev.coreFree = true) ∧ (op.cls = 1) ∧ (s.dev.wlanTxSlot op = none)) ∧
    (∃ (s : State) (op : CipherOp) (u : Unverified), (s.dev.wcx.waits = []) ∧ (s.dev.coreFree = true) ∧ (op.cls = 2) ∧ (s.dev.presented op = some u) ∧ ((s.dev.sta op.sid).ptk < keySlots) ∧ ((s.dev.slot (s.dev.sta op.sid).ptk).used = true) ∧ (wlanLenOk (s.dev.slot (s.dev.sta op.sid).ptk).alg op = true) ∧ (s.dev.holdUse + cellsOf op.len ≤ holdCells)) ∧
    (∃ (s : State) (op : CipherOp) (u : Unverified), (s.dev.wcx.waits = []) ∧ (s.dev.coreFree = true) ∧ (op.cls = 2) ∧ (s.dev.presented op = some u) ∧ ((s.dev.sta op.sid).ptk < keySlots) ∧ ((s.dev.slot (s.dev.sta op.sid).ptk).used = true) ∧ (wlanLenOk (s.dev.slot (s.dev.sta op.sid).ptk).alg op = true) ∧ (holdCells < s.dev.holdUse + cellsOf op.len)) ∧
    (∃ (s : State) (op : CipherOp) (u : Unverified), (s.dev.wcx.waits = []) ∧ (s.dev.coreFree = true) ∧ (op.cls = 2) ∧ (s.dev.presented op = some u) ∧ (keySlots ≤ (s.dev.sta op.sid).ptk)) ∧
    (∃ (s : State) (op : CipherOp), (s.dev.wcx.waits = []) ∧ (s.dev.coreFree = true) ∧ (op.cls = 2) ∧ (s.dev.presented op = none)) ∧
    (∃ (s : State) (op : CipherOp) (x : Pkt) (k : Nat), (s.dev.wcx.waits = []) ∧ (s.dev.coreFree = true) ∧ (op.cls = 3) ∧ (((s.dev.port op.unit).queue op.tid).find? (fun y => s.dev.wantsSec op.unit y) = some x) ∧ (s.dev.txSa op.unit = some k) ∧ ((s.dev.slot k).used = true) ∧ ((s.dev.slot k).txPn < pnMax (s.dev.slot k).alg) ∧ (13 ≤ x.octets.length) ∧ (x.octets.length ≤ 9180)) ∧
    (∃ (s : State) (op : CipherOp), (s.dev.wcx.waits = []) ∧ (s.dev.coreFree = true) ∧ (op.cls = 4) ∧ ((s.dev.port op.unit).rx.find? (fun e => s.dev.wantsSec op.unit e.2) = none)) ∧
    (∃ (s : State) (x : CipherRun), (s.dev.wcx.waits = []) ∧ (s.dev.wcx.runs.find? (fun y => y.id == x.id) = some x) ∧ (x.op.cls = 1 ∨ x.op.cls = 3)) ∧
    (∃ (s : State) (x : CipherRun) (id : Nat), (s.dev.wcx.waits = []) ∧ (s.dev.wcx.runs = [x]) ∧ (x.id = id) ∧ (x.op.cls = 2 ∨ x.op.cls = 4)) ∧
    (∃ (s : State) (x : CipherRun) (id : Nat), (s.dev.wcx.waits = []) ∧ (s.dev.wcx.runs = [x]) ∧ (x.id = id) ∧ (x.op.cls = 2 ∨ x.op.cls = 4) ∧ (replayOk (s.dev.runSlot x) x.op = false)) ∧
    (∃ (s : State) (x : CipherRun) (id : Nat), (s.dev.wcx.waits = []) ∧ (s.dev.wcx.runs = [x]) ∧ (x.id = id) ∧ (x.op.cls = 2 ∨ x.op.cls = 4) ∧ (replayOk (s.dev.runSlot x) x.op = true) ∧ ((s.dev.slot x.slotNo).used = true) ∧ ((s.dev.slot x.slotNo).gen = x.slot.gen)) :=
  ⟨⟨(st 6144000 (withKeys { sta5 with ptk := 9 } [(9, key1)]) : State), ({ cls := 1, sid := 5, len := 100 } : CipherOp), (9 : Nat), by decide +kernel⟩,
   ⟨(st 6144000 (withKeys { sta5 with ptk := 9 } [(9, { key1 with txPn := 2 ^ 48 - 1 })]) : State), ({ cls := 1, sid := 5, len := 100 } : CipherOp), (9 : Nat), by decide +kernel⟩,
   ⟨(st 6144000 air : State), ({ cls := 1, sid := 5, len := 100 } : CipherOp), by decide +kernel⟩,
   ⟨(st 6144000 { air with mac := { bss := [(0, bss0)], sta := [(5, { sta5 with ptk := 9 })], unverified := [{ sid := 5, mpdu := { ta := 0x020000000055, bss := 0, len := 100, protected' := true, kind := .data 0 5 [] } }] }, wcx := { slots := [(9, key1)] } } : State), ({ cls := 2, sid := 5, len := 100, pn := 3 } : CipherOp), (({ sid := 5, mpdu := { ta := 0x020000000055, bss := 0, len := 100, protected' := true, kind := .data 0 5 [] } } : Unverified) : Unverified), by decide +kernel⟩,
   ⟨(st 6144000 { air with mac := { bss := [(0, bss0)], sta := [(5, { sta5 with ptk := 9 })], unverified := [{ sid := 5, mpdu := { ta := 0x020000000055, bss := 0, len := 100, protected' := true, kind := .data 0 5 [] } }] }, wcx := { slots := [(9, key1)], runs := [⟨4, { cls := 2, sid := 5, len := 100, pn := 3 }, 9, key1, 32768, none, none⟩] } } : State), ({ cls := 2, sid := 5, len := 100, pn := 3 } : CipherOp), (({ sid := 5, mpdu := { ta := 0x020000000055, bss := 0, len := 100, protected' := true, kind := .data 0 5 [] } } : Unverified) : Unverified), by decide +kernel⟩,
   ⟨(st 6144000 { air with mac := { bss := [(0, bss0)], sta := [(5, sta5)], unverified := [{ sid := 5, mpdu := { ta := 0x020000000055, bss := 0, len := 100, protected' := true, kind := .data 0 5 [] } }] } } : State), ({ cls := 2, sid := 5, len := 100, pn := 3 } : CipherOp), (({ sid := 5, mpdu := { ta := 0x020000000055, bss := 0, len := 100, protected' := true, kind := .data 0 5 [] } } : Unverified) : Unverified), by decide +kernel⟩,
   ⟨(st 6144000 (withKeys { sta5 with ptk := 9 } [(9, key1)]) : State), ({ cls := 2, sid := 5, len := 100, pn := 3 } : CipherOp), by decide +kernel⟩,
   ⟨(st 6144000 { (withPort { linkUp := true, queues := [(3, [pkt 2 5 1])] }) with wcx := { macsec := [(0, { en := true })], slots := [(9, { key1 with kind := 4, alg := 8, txActive := true, port := 0 })] } } : State), ({ cls := 3, unit := 0, tid := 3, len := 60 } : CipherOp), (pkt 2 5 1 : Pkt), (9 : Nat), by decide +kernel⟩,
   ⟨(st 6144000 base : State), ({ cls := 4, unit := 0, len := 60 } : CipherOp), by decide +kernel⟩,
   ⟨(st 6144000 { air with wcx := { slots := [(9, key1)], runs := [⟨3, { cls := 2, sid := 5, len := 100 }, 9, key1, 1, none, none⟩, ⟨4, { cls := 1, sid := 5, len := 100 }, 9, key1, 0, none, none⟩] } } : State), (⟨4, { cls := 1, sid := 5, len := 100 }, 9, key1, 0, none, none⟩ : CipherRun), by decide +kernel⟩,
   ⟨(st 6144000 { (withKeys { sta5 with ptk := 9 } []) with wcx := { slots := [(9, key1)], runs := [⟨4, { cls := 2, sid := 5, len := 100, pn := 3 }, 9, key1, 1, none, none⟩] } } : State), (⟨4, { cls := 2, sid := 5, len := 100, pn := 3 }, 9, key1, 1, none, none⟩ : CipherRun), (4 : Nat), by decide +kernel⟩,
   ⟨(st 6144000 { (withKeys { sta5 with ptk := 9 } []) with wcx := { slots := [(9, { key1 with rxPn := [(0, 5)] })], runs := [⟨4, { cls := 2, sid := 5, len := 100, pn := 3 }, 9, key1, 1, none, none⟩] } } : State), (⟨4, { cls := 2, sid := 5, len := 100, pn := 3 }, 9, key1, 1, none, none⟩ : CipherRun), (4 : Nat), by decide +kernel⟩,
   ⟨(st 6144000 { (withKeys { sta5 with ptk := 9 } []) with wcx := { slots := [(9, key1)], runs := [⟨4, { cls := 2, sid := 5, len := 100, pn := 3 }, 9, key1, 1, none, none⟩] } } : State), (⟨4, { cls := 2, sid := 5, len := 100, pn := 3 }, 9, key1, 1, none, none⟩ : CipherRun), (4 : Nat), by decide +kernel⟩⟩

/-- The hypotheses of each clause of SealEngineCompletes are met. -/
theorem witness_SealEngineCompletes :
    (∃ (s : State) (m : Master), (locksByRegister m = true) ∧ (s.dev.sealEng.held = false) ∧ (s.dev.claimed .seal 0 = false)) ∧
    (∃ (s : State) (m : Master), (locksByRegister m = true) ∧ (s.dev.sealEng.held = true ∨ s.dev.claimed .seal 0 = true)) ∧
    (∃ (s : State) (m : Master), (locksByRegister m = true) ∧ (s.dev.ownsSeal m = true) ∧ (s.dev.sealRunning = false)) ∧
    (∃ (s : State) (m : Master), (locksByRegister m = true) ∧ (s.dev.ownsSeal m = false ∨ s.dev.sealRunning = true)) ∧
    (∃ (m : Master), (locksByRegister m = false)) ∧
    (∃ (s : State) (f : Nat) (req : List Word), (Admitted s.dev f req 2) ∧ (resv (wd req 1) [(63, 1)] = false) ∧ ((∀ j, s.dev.sealEng.job = some j → j.pend.caller ≠ .fn f)) ∧ (nbit (wd req 1).toNat 0 = false) ∧ (s.dev.sealEng.held = false) ∧ (s.dev.claimed .seal 0 = false)) ∧
    (∃ (s : State) (f : Nat) (req : List Word), (Admitted s.dev f req 2) ∧ (resv (wd req 1) [(63, 1)] = false) ∧ ((∀ j, s.dev.sealEng.job = some j → j.pend.caller ≠ .fn f)) ∧ (nbit (wd req 1).toNat 0 = false) ∧ (s.dev.sealEng.held = true)) ∧
    (∃ (s : State) (f : Nat) (req : List Word), (Admitted s.dev f req 2) ∧ (resv (wd req 1) [(63, 1)] = false) ∧ ((∀ j, s.dev.sealEng.job = some j → j.pend.caller ≠ .fn f)) ∧ (nbit (wd req 1).toNat 0 = true) ∧ (s.dev.ownsSeal (.fn f) = true) ∧ (s.dev.sealRunning = false)) ∧
    (∃ (s : State) (f : Nat) (req : List Word), (Admitted s.dev f req 2) ∧ (resv (wd req 1) [(63, 1)] = false) ∧ ((∀ j, s.dev.sealEng.job = some j → j.pend.caller ≠ .fn f)) ∧ (nbit (wd req 1).toNat 0 = true) ∧ (s.dev.ownsSeal (.fn f) = false)) ∧
    (∃ (s : State) (f : Nat) (req : List Word) (j : _), (Admitted s.dev f req 2) ∧ (resv (wd req 1) [(63, 1)] = false) ∧ (s.dev.sealEng.job = some j) ∧ (j.pend.caller = .fn f)) ∧
    (∃ (s : State), (s.dev.sealOverdue = true) ∧ (s.dev.sealEng.heldOps = [])) ∧
    (∃ (s : State), (s.dev.sealOverdue = false)) ∧
    (∃ (s : State) (m : Master) (v : Reg) (e : Seal), (e = { s.dev.sealEng with ctrl := v &&& 0x3FF }) ∧ (s.dev.ownsSeal m = true) ∧ (s.dev.sealRunning = false) ∧ (s.dev.gaf.quiesced.testBit 4 = false) ∧ (sealFault e = 0)) ∧
    (∃ (s : State) (m : Master) (v : Reg) (e : Seal), (e = { s.dev.sealEng with ctrl := v &&& 0x3FF }) ∧ (s.dev.ownsSeal m = true) ∧ (s.dev.sealRunning = false) ∧ (s.dev.gaf.quiesced.testBit 4 = false) ∧ (sealFault e ≠ 0)) ∧
    (∃ (s : State) (m : Master), (s.dev.ownsSeal m = false)) ∧
    (∃ (s : State) (m : Master), (s.dev.ownsSeal m = true) ∧ (s.dev.sealRunning = true)) ∧
    (∃ (s : State) (f : Nat) (req : List Word), (Admitted s.dev f req 25) ∧ (resv (wd req 1) [(63, 58), (47, 25)] = false) ∧ (s.dev.ownsSeal (.fn f) = true) ∧ (s.dev.sealRunning = false) ∧ (s.dev.gaf.quiesced.testBit 4 = false) ∧ (fld (wd req 1) 24 0 ≤ 16777216) ∧ (fld (wd req 1) 55 48 ≤ (if nbit (wd req 1).toNat 56 then 128 else 64))) ∧
    (∃ (s : State), (s.dev.sealRunning = true) ∧ (s.dev.sealEng.heldOps = []) ∧ (s.dev.sealEng.job = none) ∧ (s.dev.mem.hbmFailed = false)) ∧
    (∃ (s : State), (s.dev.sealRunning = true) ∧ (s.dev.sealEng.heldOps = []) ∧ (s.dev.sealEng.job = none)) ∧
    (∃ (s : State) (j : _) (f : _) (tag : _) (mac : _), (mac = sealMac (s.dev.sealEng.runCtrl.getLsbD 8) s.dev.sealEng.keyBytes j.msg) ∧ (s.dev.sealRunning = true) ∧ (s.dev.sealEng.heldOps = []) ∧ (s.dev.sealEng.job = some j) ∧ (j.pend = ⟨.fn f, tag, 0x721⟩) ∧ ((s.dev.fn f).tags.contains tag = true) ∧ (j.dmaOk = true) ∧ (j.compare = false ∨ mac = j.expect.take mac.length)) ∧
    (∃ (s : State) (j : _) (f : _) (tag : _) (mac : _), (mac = sealMac (s.dev.sealEng.runCtrl.getLsbD 8) s.dev.sealEng.keyBytes j.msg) ∧ (s.dev.sealRunning = true) ∧ (s.dev.sealEng.heldOps = []) ∧ (s.dev.sealEng.job = some j) ∧ (j.pend = ⟨.fn f, tag, 0x721⟩) ∧ ((s.dev.fn f).tags.contains tag = true) ∧ (j.dmaOk = true) ∧ (j.compare = true) ∧ (mac ≠ j.expect.take mac.length)) ∧
    (∃ (s : State) (j : _) (f : _) (tag : _), (s.dev.sealRunning = true) ∧ (s.dev.sealEng.heldOps = []) ∧ (s.dev.sealEng.job = some j) ∧ (j.pend = ⟨.fn f, tag, 0x721⟩) ∧ ((s.dev.fn f).tags.contains tag = true) ∧ (j.dmaOk = false)) ∧
    (∃ (s : State), (s.dev.sealRunning = false)) :=
  ⟨⟨(st 6144000 base : State), (.fn 0 : Master), by decide +kernel⟩,
   ⟨(st 6144000 (withSeal { held := true, owner := 3 }) : State), (.fn 0 : Master), by decide +kernel⟩,
   ⟨(st 6144000 (withSeal { held := true }) : State), (.fn 0 : Master), by decide +kernel⟩,
   ⟨(st 6144000 base : State), (.fn 0 : Master), by decide +kernel⟩,
   ⟨(.fn 1 : Master), by decide +kernel⟩,
   ⟨(st 6144000 base : State), (1 : Nat), (rq 7 0x720 [0] : List Word), admitted_of (by decide +kernel), by decide +kernel⟩,
   ⟨(st 6144000 (withSeal { held := true }) : State), (1 : Nat), (rq 7 0x720 [0] : List Word), admitted_of (by decide +kernel), by decide +kernel⟩,
   ⟨(st 6144000 (withSeal { held := true, owner := 1 }) : State), (1 : Nat), (rq 7 0x720 [1] : List Word), admitted_of (by decide +kernel), by decide +kernel⟩,
   ⟨(st 6144000 base : State), (1 : Nat), (rq 7 0x720 [1] : List Word), admitted_of (by decide +kernel), by decide +kernel⟩,
   ⟨(st 6144000 { (withSeal { held := true, owner := 1, state := 1, job := some { pend := ⟨.fn 1, 9, 0x721⟩, msg := [], compare := false, expect := [], dmaOk := true } }) with glb := {} } : State), (1 : Nat), (rq 7 0x720 [1] : List Word), (({ pend := ⟨.fn 1, 9, 0x721⟩, msg := [], compare := false, expect := [], dmaOk := true } : SealJob)), admitted_of (by decide +kernel), by decide +kernel⟩,
   ⟨(st 6144000 { (withSeal { held := true, since := 0 }) with glb := { up := 100000000000 } } : State), by decide +kernel⟩,
   ⟨(st 6144000 base : State), by decide +kernel⟩,
   ⟨(st 6144000 (withSeal { held := true }) : State), (.fn 0 : Master), (0x80000010 : Reg), ({ (st 6144000 (withSeal { held := true }) : State).dev.sealEng with ctrl := (0x80000010 : Reg) &&& 0x3FF } : Seal), rfl, by decide +kernel⟩,
   ⟨(st 6144000 (withSeal { held := true }) : State), (.fn 0 : Master), (0x80000050 : Reg), ({ (st 6144000 (withSeal { held := true }) : State).dev.sealEng with ctrl := (0x80000050 : Reg) &&& 0x3FF } : Seal), rfl, by decide +kernel⟩,
   ⟨(st 6144000 base : State), (.fn 0 : Master), by decide +kernel⟩,
   ⟨(st 6144000 (withSeal { held := true, state := 1 }) : State), (.fn 0 : Master), by decide +kernel⟩,
   ⟨(st 6144000 (withSeal { held := true, owner := 1 }) : State), (1 : Nat), (rq 7 0x721 ([packW [(3, 25, 0), (16, 8, 48)]] ++ List.replicate 23 0) : List Word), admitted_of (by decide +kernel), by decide +kernel⟩,
   ⟨(st 6144000 (withSeal { held := true, state := 1, runLen := 0 }) : State), by decide +kernel⟩,
   ⟨(st 6144000 (withSeal { held := true, state := 1 }) : State), by decide +kernel⟩,
   ⟨(st 6144000 { (withSeal { held := true, owner := 0, state := 1, job := some { pend := ⟨.fn 0, 7, 0x721⟩, msg := [1, 2, 3], compare := false, expect := [], dmaOk := true } }) with fns := [(0, { st := .ready, tags := [7] })] } : State), (({ pend := ⟨.fn 0, 7, 0x721⟩, msg := [1, 2, 3], compare := false, expect := [], dmaOk := true } : SealJob)), (0), (7), (sealMac ((st 6144000 { (withSeal { held := true, owner := 0, state := 1, job := some { pend := ⟨.fn 0, 7, 0x721⟩, msg := [1, 2, 3], compare := false, expect := [], dmaOk := true } }) with fns := [(0, { st := .ready, tags := [7] })] } : State).dev.sealEng.runCtrl.getLsbD 8) (st 6144000 { (withSeal { held := true, owner := 0, state := 1, job := some { pend := ⟨.fn 0, 7, 0x721⟩, msg := [1, 2, 3], compare := false, expect := [], dmaOk := true } }) with fns := [(0, { st := .ready, tags := [7] })] } : State).dev.sealEng.keyBytes (({ pend := ⟨.fn 0, 7, 0x721⟩, msg := [1, 2, 3], compare := false, expect := [], dmaOk := true } : SealJob)).msg), rfl, by decide +kernel⟩,
   ⟨(st 6144000 { (withSeal { held := true, owner := 0, state := 1, job := some { pend := ⟨.fn 0, 7, 0x721⟩, msg := [1, 2, 3], compare := true, expect := [0, 0], dmaOk := true } }) with fns := [(0, { st := .ready, tags := [7] })] } : State), (({ pend := ⟨.fn 0, 7, 0x721⟩, msg := [1, 2, 3], compare := true, expect := [0, 0], dmaOk := true } : SealJob)), (0), (7), (sealMac ((st 6144000 { (withSeal { held := true, owner := 0, state := 1, job := some { pend := ⟨.fn 0, 7, 0x721⟩, msg := [1, 2, 3], compare := true, expect := [0, 0], dmaOk := true } }) with fns := [(0, { st := .ready, tags := [7] })] } : State).dev.sealEng.runCtrl.getLsbD 8) (st 6144000 { (withSeal { held := true, owner := 0, state := 1, job := some { pend := ⟨.fn 0, 7, 0x721⟩, msg := [1, 2, 3], compare := true, expect := [0, 0], dmaOk := true } }) with fns := [(0, { st := .ready, tags := [7] })] } : State).dev.sealEng.keyBytes (({ pend := ⟨.fn 0, 7, 0x721⟩, msg := [1, 2, 3], compare := true, expect := [0, 0], dmaOk := true } : SealJob)).msg), rfl, by decide +kernel⟩,
   ⟨(st 6144000 { (withSeal { held := true, owner := 0, state := 1, job := some { pend := ⟨.fn 0, 7, 0x721⟩, msg := [1, 2, 3], compare := false, expect := [], dmaOk := false } }) with fns := [(0, { st := .ready, tags := [7] })] } : State), (({ pend := ⟨.fn 0, 7, 0x721⟩, msg := [1, 2, 3], compare := false, expect := [], dmaOk := false } : SealJob)), (0), (7), by decide +kernel⟩,
   ⟨(st 6144000 base : State), by decide +kernel⟩⟩

/-- The hypotheses of each clause of CheckUnitsComplete are met. -/
theorem witness_CheckUnitsComplete :
    (∃ (s : State) (m : Master) (n : Nat), (locksByRegister m = true) ∧ ((s.dev.chkUnit n).held = false) ∧ (s.dev.claimed .chk n = false)) ∧
    (∃ (s : State) (m : Master) (n : Nat), (locksByRegister m = false ∨ (s.dev.chkUnit n).held = true ∨ s.dev.claimed .chk n = true)) ∧
    (∃ (s : State) (m : Master) (n : Nat), (locksByRegister m = true) ∧ (s.dev.ownsChk m n = true)) ∧
    (∃ (s : State) (m : Master) (n : Nat) (v : Reg) (u : Chk) (c : Chk), (u = s.dev.chkUnit n) ∧ (c = { u with poly := rfld v 1 0, af := v.getLsbD 4, sf := v.getLsbD 5, compare := v.getLsbD 6 }) ∧ (s.dev.ownsChk m n = true) ∧ (v.getLsbD 30 = false) ∧ (v.getLsbD 29 = false)) ∧
    (∃ (s : State) (m : Master) (n : Nat) (v : Reg) (u : Chk) (c : Chk), (u = s.dev.chkUnit n) ∧ (c = { u with poly := rfld v 1 0, af := v.getLsbD 4, sf := v.getLsbD 5, compare := v.getLsbD 6 }) ∧ (s.dev.ownsChk m n = true) ∧ (v.getLsbD 30 = true)) ∧
    (∃ (s : State) (m : Master) (n : Nat) (v : Reg) (u : Chk) (c : Chk), (u = s.dev.chkUnit n) ∧ (c = { u with poly := rfld v 1 0, af := v.getLsbD 4, sf := v.getLsbD 5, compare := v.getLsbD 6 }) ∧ (s.dev.ownsChk m n = true) ∧ (v.getLsbD 31 = false) ∧ (v.getLsbD 30 = false)) ∧
    (∃ (s : State) (m : Master) (n : Nat) (v : Reg) (u : Chk) (c : Chk), (u = s.dev.chkUnit n) ∧ (c = { u with poly := rfld v 1 0, af := v.getLsbD 4, sf := v.getLsbD 5, compare := v.getLsbD 6 }) ∧ (s.dev.ownsChk m n = true) ∧ (v.getLsbD 31 = false) ∧ (v.getLsbD 29 = false) ∧ (n < 8) ∧ (c.compare = false ∨ (c.rem ^^^ crcFinal c.poly) = c.expect.toNat)) ∧
    (∃ (s : State) (m : Master) (n : Nat) (v : Reg) (u : Chk) (c : Chk), (u = s.dev.chkUnit n) ∧ (c = { u with poly := rfld v 1 0, af := v.getLsbD 4, sf := v.getLsbD 5, compare := v.getLsbD 6 }) ∧ (s.dev.ownsChk m n = true) ∧ (v.getLsbD 31 = false) ∧ (v.getLsbD 29 = false) ∧ (n < 8) ∧ (c.compare = true) ∧ ((c.rem ^^^ crcFinal c.poly) ≠ c.expect.toNat)) ∧
    (∃ (s : State) (m : Master) (n : Nat) (v : Reg) (u : Chk) (c : Chk), (u = s.dev.chkUnit n) ∧ (c = { u with poly := rfld v 1 0, af := v.getLsbD 4, sf := v.getLsbD 5, compare := v.getLsbD 6 }) ∧ (s.dev.ownsChk m n = true) ∧ (u.state = 1)) ∧
    (∃ (s : State) (m : Master) (n : Nat) (v : Reg) (u : Chk) (c : Chk), (u = s.dev.chkUnit n) ∧ (c = { u with poly := rfld v 1 0, af := v.getLsbD 4, sf := v.getLsbD 5, compare := v.getLsbD 6 }) ∧ (s.dev.ownsChk m n = true) ∧ (u.state = 1)) ∧
    (∃ (s : State) (m : Master) (n : Nat) (v : Reg) (u : Chk) (c : Chk), (u = s.dev.chkUnit n) ∧ (c = { u with poly := rfld v 1 0, af := v.getLsbD 4, sf := v.getLsbD 5, compare := v.getLsbD 6 }) ∧ (s.dev.ownsChk m n = true) ∧ (u.state ≠ 1)) ∧
    (∃ (s : State) (m : Master) (n : Nat) (v : Reg) (c : Instr), (s.dev.ownsChk m n = false) ∧ (n < 8) ∧ (c ∈ [Instr.chkStart m n v, .chkFinish m n v, .chkRestore m n v, .chkData m n v, .chkDataPart m n v])) :=
  ⟨⟨(st 6144000 base : State), (.fn 0 : Master), (2 : Nat), by decide +kernel⟩,
   ⟨(st 6144000 base : State), (.fn 1 : Master), (2 : Nat), by decide +kernel⟩,
   ⟨(st 6144000 (withChk { held := true }) : State), (.fn 0 : Master), (2 : Nat), by decide +kernel⟩,
   ⟨(st 6144000 (withChk { held := true, foldLo := 5 }) : State), (.fn 0 : Master), (2 : Nat), (0x80000010 : Reg), ((st 6144000 (withChk { held := true, foldLo := 5 }) : State).dev.chkUnit (2 : Nat) : Chk), ({ ((st 6144000 (withChk { held := true, foldLo := 5 }) : State).dev.chkUnit (2 : Nat) : Chk) with poly := rfld (0x80000010 : Reg) 1 0, af := (0x80000010 : Reg).getLsbD 4, sf := (0x80000010 : Reg).getLsbD 5, compare := (0x80000010 : Reg).getLsbD 6 } : Chk), rfl, rfl, by decide +kernel⟩,
   ⟨(st 6144000 (withChk { held := true }) : State), (.fn 0 : Master), (2 : Nat), (0xC0000000 : Reg), ((st 6144000 (withChk { held := true }) : State).dev.chkUnit (2 : Nat) : Chk), ({ ((st 6144000 (withChk { held := true }) : State).dev.chkUnit (2 : Nat) : Chk) with poly := rfld (0xC0000000 : Reg) 1 0, af := (0xC0000000 : Reg).getLsbD 4, sf := (0xC0000000 : Reg).getLsbD 5, compare := (0xC0000000 : Reg).getLsbD 6 } : Chk), rfl, rfl, by decide +kernel⟩,
   ⟨(st 6144000 (withChk { held := true, rem := 4 }) : State), (.fn 0 : Master), (2 : Nat), (0x20000000 : Reg), ((st 6144000 (withChk { held := true, rem := 4 }) : State).dev.chkUnit (2 : Nat) : Chk), ({ ((st 6144000 (withChk { held := true, rem := 4 }) : State).dev.chkUnit (2 : Nat) : Chk) with poly := rfld (0x20000000 : Reg) 1 0, af := (0x20000000 : Reg).getLsbD 4, sf := (0x20000000 : Reg).getLsbD 5, compare := (0x20000000 : Reg).getLsbD 6 } : Chk), rfl, rfl, by decide +kernel⟩,
   ⟨(st 6144000 (withChk { held := true, state := 1, rem := 4 }) : State), (.fn 0 : Master), (2 : Nat), (0x40000000 : Reg), ((st 6144000 (withChk { held := true, state := 1, rem := 4 }) : State).dev.chkUnit (2 : Nat) : Chk), ({ ((st 6144000 (withChk { held := true, state := 1, rem := 4 }) : State).dev.chkUnit (2 : Nat) : Chk) with poly := rfld (0x40000000 : Reg) 1 0, af := (0x40000000 : Reg).getLsbD 4, sf := (0x40000000 : Reg).getLsbD 5, compare := (0x40000000 : Reg).getLsbD 6 } : Chk), rfl, rfl, by decide +kernel⟩,
   ⟨(st 6144000 (withChk { held := true, state := 1, rem := 4, expect := 9 }) : State), (.fn 0 : Master), (2 : Nat), (0x40000040 : Reg), ((st 6144000 (withChk { held := true, state := 1, rem := 4, expect := 9 }) : State).dev.chkUnit (2 : Nat) : Chk), ({ ((st 6144000 (withChk { held := true, state := 1, rem := 4, expect := 9 }) : State).dev.chkUnit (2 : Nat) : Chk) with poly := rfld (0x40000040 : Reg) 1 0, af := (0x40000040 : Reg).getLsbD 4, sf := (0x40000040 : Reg).getLsbD 5, compare := (0x40000040 : Reg).getLsbD 6 } : Chk), rfl, rfl, by decide +kernel⟩,
   ⟨(st 6144000 (withChk { held := true, state := 1, rem := 4 }) : State), (.fn 0 : Master), (2 : Nat), (0x12345678 : Reg), ((st 6144000 (withChk { held := true, state := 1, rem := 4 }) : State).dev.chkUnit (2 : Nat) : Chk), ({ ((st 6144000 (withChk { held := true, state := 1, rem := 4 }) : State).dev.chkUnit (2 : Nat) : Chk) with poly := rfld (0x12345678 : Reg) 1 0, af := (0x12345678 : Reg).getLsbD 4, sf := (0x12345678 : Reg).getLsbD 5, compare := (0x12345678 : Reg).getLsbD 6 } : Chk), rfl, rfl, by decide +kernel⟩,
   ⟨(st 6144000 (withChk { held := true, state := 1, rem := 4 }) : State), (.fn 0 : Master), (2 : Nat), (0x02345678 : Reg), ((st 6144000 (withChk { held := true, state := 1, rem := 4 }) : State).dev.chkUnit (2 : Nat) : Chk), ({ ((st 6144000 (withChk { held := true, state := 1, rem := 4 }) : State).dev.chkUnit (2 : Nat) : Chk) with poly := rfld (0x02345678 : Reg) 1 0, af := (0x02345678 : Reg).getLsbD 4, sf := (0x02345678 : Reg).getLsbD 5, compare := (0x02345678 : Reg).getLsbD 6 } : Chk), rfl, rfl, by decide +kernel⟩,
   ⟨(st 6144000 (withChk { held := true, state := 2, rem := 4 }) : State), (.fn 0 : Master), (2 : Nat), (0x12345678 : Reg), ((st 6144000 (withChk { held := true, state := 2, rem := 4 }) : State).dev.chkUnit (2 : Nat) : Chk), ({ ((st 6144000 (withChk { held := true, state := 2, rem := 4 }) : State).dev.chkUnit (2 : Nat) : Chk) with poly := rfld (0x12345678 : Reg) 1 0, af := (0x12345678 : Reg).getLsbD 4, sf := (0x12345678 : Reg).getLsbD 5, compare := (0x12345678 : Reg).getLsbD 6 } : Chk), rfl, rfl, by decide +kernel⟩,
   ⟨(st 6144000 base : State), (.fn 0 : Master), (2 : Nat), (5 : Reg), (Instr.chkStart (.fn 0) 2 5 : Instr), by decide +kernel⟩⟩

/-- The hypotheses of each clause of TasksComplete are met. -/
theorem witness_TasksComplete :
    (∃ (s : State) (m : Master) (task : Nat) (k : Nat), (k = task % 4096) ∧ (s.dev.inUser m = false ∨ 1024 ≤ k) ∧ (s.dev.taskAffinity k ≠ 0) ∧ (s.dev.taskClass k ≠ 3) ∧ (s.dev.claimed .task k = false) ∧ (s.dev.cancelledNow k = false) ∧ ((s.dev.ctx k).st = .idle)) ∧
    (∃ (s : State) (m : Master) (task : Nat) (k : Nat), (k = task % 4096) ∧ (s.dev.inUser m = false ∨ 1024 ≤ k) ∧ (s.dev.taskAffinity k ≠ 0) ∧ (s.dev.taskClass k ≠ 3) ∧ (s.dev.claimed .task k = false) ∧ (s.dev.cancelledNow k = false) ∧ ((s.dev.ctx k).st = .running)) ∧
    (∃ (s : State) (m : Master) (task : Nat) (k : Nat), (k = task % 4096) ∧ (s.dev.inUser m = false ∨ 1024 ≤ k) ∧ (s.dev.taskAffinity k ≠ 0) ∧ (s.dev.taskClass k ≠ 3) ∧ (s.dev.claimed .task k = true) ∧ ((s.dev.ctx k).st ≠ .free)) ∧
    (∃ (s : State) (m : Master) (task : Nat) (k : Nat), (k = task % 4096) ∧ (s.dev.inUser m = false ∨ 1024 ≤ k) ∧ ((s.dev.ctx k).st = .ready)) ∧
    (∃ (s : State) (m : Master) (task : Nat) (k : Nat), (k = task % 4096) ∧ (s.dev.inUser m = false ∨ 1024 ≤ k) ∧ ((s.dev.ctx k).st = .running)) ∧
    (∃ (s : State) (m : Master) (task : Nat) (k : Nat), (k = task % 4096) ∧ (s.dev.inUser m = false ∨ 1024 ≤ k) ∧ ((s.dev.ctx k).st = .idle)) ∧
    (∃ (s : State) (m : Master) (task : Nat) (k : Nat) (c : _), (k = task % 4096) ∧ (s.dev.inUser m = false ∨ 1024 ≤ k) ∧ ((s.dev.ctx k).st = .free) ∧ (c ∈ [Instr.ready m (.task task), .cancel m task, .free m task])) ∧
    (∃ (s : State) (c : Nat) (task : Nat) (x : _), (s.dev.inUser (.crew c) = true) ∧ (task % 4096 < 1024) ∧ (x ∈ [Instr.ready (.crew c) (.task task), .cancel (.crew c) task, .free (.crew c) task])) ∧
    (∃ (s : State) (k : Nat), ((∀ j, 1024 ≤ j → j < k → (s.dev.ctx j).st ≠ .free)) ∧ (1024 ≤ k) ∧ (k < 4096) ∧ ((s.dev.ctx k).st = .free)) ∧
    (∃ (s : State), ((∀ j, 1024 ≤ j → j < 4096 → (s.dev.ctx j).st ≠ .free))) ∧
    (∃ (s : State) (c : Nat) (k : Nat), ((s.dev.core c).task = some k) ∧ ((s.dev.core c).halted = false) ∧ (s.dev.cancelledNow k = false) ∧ ((s.dev.ctx k).pend = false)) ∧
    (∃ (s : State) (c : Nat) (k : Nat), ((s.dev.core c).task = some k) ∧ ((s.dev.core c).halted = false) ∧ (s.dev.cancelledNow k = false) ∧ ((s.dev.ctx k).pend = true)) ∧
    (∃ (s : State) (c : Nat) (k : Nat), ((s.dev.core c).task = some k) ∧ ((s.dev.core c).halted = false) ∧ (s.dev.cancelledNow k = false)) ∧
    (∃ (s : State) (c : Nat) (k : Nat), ((s.dev.core c).task = some k) ∧ ((s.dev.core c).halted = false) ∧ (s.dev.cancelledNow k = false) ∧ ((s.dev.core c).preempt.isSome = true)) ∧
    (∃ (s : State) (c : Nat) (k : Nat), ((s.dev.core c).task = some k) ∧ ((s.dev.core c).halted = false) ∧ (s.dev.cancelledNow k = false) ∧ (s.dev.taskUser k = true) ∧ (s.dev.stopped (.crew c) = false)) ∧
    (∃ (s : State) (c : Nat) (x : _), ((s.dev.core c).halted = true) ∧ (x ∈ [Instr.done c, .yield c, .preempted c])) ∧
    (∃ (s : State) (c : Nat) (x : _), ((s.dev.core c).halted = false) ∧ ((s.dev.core c).task = none) ∧ (x ∈ [Instr.done c, .yield c, .preempted c])) ∧
    (∃ (s : State) (c : Nat), ((s.dev.core c).halted = false) ∧ ((s.dev.core c).preempt = none)) :=
  ⟨⟨(st 6144000 (withTask w3 { ctx := [(1030, { st := .idle })] }) : State), (.mgmt : Master), (1030 : Nat), ((1030 : Nat) % 4096 : Nat), rfl, by decide +kernel⟩,
   ⟨(st 6144000 (withTask w3 { ctx := [(1030, { st := .running })] }) : State), (.mgmt : Master), (1030 : Nat), ((1030 : Nat) % 4096 : Nat), rfl, by decide +kernel⟩,
   ⟨(st 6144000 { (withTask w3 { ctx := [(1030, { st := .ready })], lists := [(2, [1030])] }) with claims := [(Resource.code .task, 1030)] } : State), (.crew 4 : Master), (1030 : Nat), ((1030 : Nat) % 4096 : Nat), rfl, by decide +kernel⟩,
   ⟨(st 6144000 (withTask w3 { ctx := [(1030, { st := .ready })], lists := [(2, [1030])] }) : State), (.mgmt : Master), (1030 : Nat), ((1030 : Nat) % 4096 : Nat), rfl, by decide +kernel⟩,
   ⟨(st 6144000 (withTask w3 { ctx := [(1030, { st := .running })], core := [(3, { task := some 1030 })] }) : State), (.mgmt : Master), (1030 : Nat), ((1030 : Nat) % 4096 : Nat), rfl, by decide +kernel⟩,
   ⟨(st 6144000 (withTask w3 { ctx := [(1030, { st := .idle })] }) : State), (.mgmt : Master), (1030 : Nat), ((1030 : Nat) % 4096 : Nat), rfl, by decide +kernel⟩,
   ⟨(st 6144000 (withTask w3 {  }) : State), (.mgmt : Master), (1030 : Nat), ((1030 : Nat) % 4096 : Nat), (Instr.ready .mgmt (.task 1030)), rfl, by decide +kernel⟩,
   ⟨(st 6144000 (withTask (w3 + 2 ^ 57) { ctx := [(1030, { st := .running })], core := [(3, { task := some 1030 })] }) : State), (3 : Nat), (5 : Nat), (Instr.ready (.crew 3) (.task 5)), by decide +kernel⟩,
   ⟨(st 6144000 base : State), (1024 : Nat), between (by decide +kernel), by decide +kernel⟩,
   ⟨(st 6144000 { base with rgm := { ctx := (List.range' 1024 3072).map (fun i => (i, { st := .idle })) } } : State), fun j a b => by
    have h : (st 6144000 { base with rgm := { ctx := (List.range' 1024 3072).map (fun i => (i, { st := .idle })) } }).dev.ctx j = { st := .idle } := tlook_run ctxReset _ 3072 1024 j a b
    rw [h]; decide⟩,
   ⟨(st 6144000 (withTask w3 { ctx := [(1030, { st := .running })], core := [(3, { task := some 1030 })] }) : State), (3 : Nat), (1030 : Nat), by decide +kernel⟩,
   ⟨(st 6144000 (withTask w3 { ctx := [(1030, { st := .running, pend := true })], core := [(3, { task := some 1030 })] }) : State), (3 : Nat), (1030 : Nat), by decide +kernel⟩,
   ⟨(st 6144000 (withTask w3 { ctx := [(1030, { st := .running, pend := true })], core := [(3, { task := some 1030 })] }) : State), (3 : Nat), (1030 : Nat), by decide +kernel⟩,
   ⟨(st 6144000 (withTask w3 { ctx := [(1030, { st := .running })], core := [(3, { task := some 1030, preempt := some (1040, 0) })] }) : State), (3 : Nat), (1030 : Nat), by decide +kernel⟩,
   ⟨(st 6144000 (withTask (w3 + 2 ^ 57) { ctx := [(1030, { st := .running })], core := [(3, { task := some 1030 })] }) : State), (3 : Nat), (1030 : Nat), by decide +kernel⟩,
   ⟨(st 6144000 { base with rgm := { core := [(3, { task := some 1030, halted := true })] } } : State), (3 : Nat), (Instr.yield 3), by decide +kernel⟩,
   ⟨(st 6144000 base : State), (3 : Nat), (Instr.done 3), by decide +kernel⟩,
   ⟨(st 6144000 base : State), (3 : Nat), by decide +kernel⟩⟩

/-- The hypotheses of each clause of DispatchCompletes are met. -/
theorem witness_DispatchCompletes :
    (∃ (s : State) (p : Nat) (k : Nat) (c : _), (s.dev.rgmHalted = false) ∧ (s.dev.rte.slow = []) ∧ (planBeats.contains (beatOf s.now) = false) ∧ (p < 8) ∧ (s.dev.readyList p = [k]) ∧ ((∀ q, q < 8 → q ≠ p → s.dev.readyList q = [])) ∧ (s.dev.taskClass k ≠ 3) ∧ (s.dev.taskAffinity k ≠ 0) ∧ (s.dev.freeCore (s.dev.taskAffinity k) = some c)) ∧
    (∃ (s : State) (p : Nat) (k : Nat) (c : _), (s.dev.rgmHalted = false) ∧ (s.dev.rte.slow = []) ∧ (planBeats.contains (beatOf s.now) = false) ∧ (p < 8) ∧ (s.dev.readyList p = [k]) ∧ ((∀ q, q < 8 → q ≠ p → s.dev.readyList q = [])) ∧ (s.dev.taskClass k ≠ 3) ∧ (s.dev.taskAffinity k ≠ 0) ∧ (s.dev.freeCore (s.dev.taskAffinity k) = none) ∧ (s.dev.askedFor k = false) ∧ (s.dev.victim k = some c)) ∧
    (∃ (s : State), (s.dev.rgmHalted = true) ∧ (s.dev.rte.slow = []) ∧ (planBeats.contains (beatOf s.now) = false)) ∧
    (∃ (s : State) (c : Nat), (s.dev.preemptLate c = true)) ∧
    (∃ (s : State) (c : Nat), (s.dev.preemptLate c = false)) :=
  ⟨⟨(st 6150000 (withTask w3 { ctx := [(1030, { st := .ready })], lists := [(2, [1030])] }) : State), (2 : Nat), (1030 : Nat), (3), by decide +kernel⟩,
   ⟨(st 6150000 { (withTask w3 { ctx := [(1030, { st := .ready }), (1031, { st := .running })], lists := [(2, [1030])], core := [(3, { task := some 1031 })] }) with mem := { backlot := putOctets (putOctets [] (256 * 1030 + 8) (leBytes w3 8)) (256 * 1031 + 8) (leBytes (5 * 2 ^ 61 + 8) 8) } } : State), (2 : Nat), (1030 : Nat), (3), by decide +kernel⟩,
   ⟨(st 6150000 { base with gaf := { quiesced := 0x3FF } } : State), by decide +kernel⟩,
   ⟨(st 6144000 { base with glb := { up := 100000000000 }, rgm := { core := [(3, { task := some 1030, preempt := some (1040, 0) })] } } : State), (3 : Nat), by decide +kernel⟩,
   ⟨(st 6144000 base : State), (3 : Nat), by decide +kernel⟩⟩

/-- The hypotheses of each clause of SlowPathCompletes are met. -/
theorem witness_SlowPathCompletes :
    (∃ (s : State) (m : Master), (m.isF0 = true) ∧ (s.dev.stopped m = false) ∧ (s.dev.rte.slow = [])) ∧
    (∃ (s : State) (m : Master) (k : _) (rest : _), (m.isF0 = true) ∧ (s.dev.stopped m = false) ∧ (s.dev.rte.slow = k :: rest)) ∧
    (∃ (s : State) (m : Master) (k : Nat), (m.isF0 = true) ∧ (s.dev.isPopped k = true)) ∧
    (∃ (s : State) (m : Master) (k : Nat), (m.isF0 = true) ∧ (s.dev.isPopped k = true) ∧ (s.dev.crewFrameOk k = true)) ∧
    (∃ (s : State) (m : Master) (k : Nat), (m.isF0 = true) ∧ (isOrigin k = true) ∧ (s.dev.crewFrameOk k = true)) ∧
    (∃ (s : State) (m : Master) (k : Nat), (m.isF0 = true) ∧ (s.dev.isPopped k = true)) ∧
    (∃ (s : State) (m : Master) (k : Nat) (x : _), (m.isF0 = true) ∧ (s.dev.isPopped k = false) ∧ (x ∈ [Instr.reinject m k, .reinjectCopy m k, .drop m k])) ∧
    (∃ (s : State) (c : Nat) (off : Nat) (n : Nat) (req : List Word) (x : KeySlot), (req = s.dev.crewRequest off) ∧ (x = s.dev.slot n) ∧ ((s.dev.core c).cmdBusy = false) ∧ (off < 2 ^ 25) ∧ (off % 8 = 0) ∧ ((∀ i, i < 6 → s.dev.backlotDrop (off + 8 * i) 8 = 0 ∧ s.dev.heldWord (off / 8 + i) = none)) ∧ (s.dev.mgr.recovery = false) ∧ (reqOp req = 0x702) ∧ (reqLen req = 2) ∧ (resv (wd req 0) [(47, 42), (31, 12)] = false) ∧ (resv (wd req 1) [(63, 14)] = false) ∧ (n = fld (wd req 1) 13 0) ∧ (n < keySlots) ∧ (x.used = true)) ∧
    (∃ (s : State) (c : Nat) (off : Nat), ((s.dev.core c).cmdBusy = false) ∧ (s.dev.mgr.recovery = false) ∧ (0x0700000 ≤ off) ∧ (off + 8 ≤ 0x0F00000)) ∧
    (∃ (s : State) (c : Nat), ((s.dev.core c).cmdBusy = true)) ∧
    (∃ (m : Master) (c : Nat), (m ≠ .crew c)) :=
  ⟨⟨(st 6144000 base : State), (.mgmt : Master), by decide +kernel⟩,
   ⟨(st 6144000 { base with rte := { slow := [3], items := [(3, { used := true, reason := 4, pkt := pkt 2 5 1 })] } } : State), (.mgmt : Master), (3), ([]), by decide +kernel⟩,
   ⟨(st 6144000 popped : State), (.crew 2 : Master), (3 : Nat), by decide +kernel⟩,
   ⟨(st 6144000 popped : State), (.crew 2 : Master), (3 : Nat), by decide +kernel⟩,
   ⟨(st 6144000 popped : State), (.crew 2 : Master), (16390 : Nat), by decide +kernel⟩,
   ⟨(st 6144000 popped : State), (.crew 2 : Master), (3 : Nat), by decide +kernel⟩,
   ⟨(st 6144000 base : State), (.mgmt : Master), (3 : Nat), (Instr.drop .mgmt 3), by decide +kernel⟩,
   ⟨(st 6144000 { (withKeys { sta5 with ptk := 9 } [(9, key1)]) with mem := { backlot := putOctets [] 0x0F50000 (wordOctets (rq 7 0x702 [9])) } } : State), (3 : Nat), (0x0F50000 : Nat), (9 : Nat), ((st 6144000 { (withKeys { sta5 with ptk := 9 } [(9, key1)]) with mem := { backlot := putOctets [] 0x0F50000 (wordOctets (rq 7 0x702 [9])) } } : State).dev.crewRequest (0x0F50000 : Nat) : List Word), ((st 6144000 { (withKeys { sta5 with ptk := 9 } [(9, key1)]) with mem := { backlot := putOctets [] 0x0F50000 (wordOctets (rq 7 0x702 [9])) } } : State).dev.slot (9 : Nat) : KeySlot), rfl, rfl, by (repeat' apply And.intro) <;> decide +kernel⟩,
   ⟨(st 6144000 base : State), (3 : Nat), (0x0700000 : Nat), by decide +kernel⟩,
   ⟨(st 6144000 { base with rgm := { core := [(3, { cmdBusy := true })] } } : State), (3 : Nat), by decide +kernel⟩,
   ⟨(.fn 0 : Master), (3 : Nat), by decide +kernel⟩⟩

/-- The hypotheses of each clause of MemoryCommandsComplete are met. -/
theorem witness_MemoryCommandsComplete :
    (∃ (s : State) (m : Master) (addr : Nat) (width : Nat) (a : Nat), (s.dev.passes m addr width 1) ∧ (s.dev.poisoned 1 addr width = []) ∧ (crewPlace addr = some (1, a)) ∧ (s.dev.dropKind m 1 a width = 0) ∧ (s.dev.heldWord (a / 8) = none) ∧ (a % 8 + width ≤ 8)) ∧
    (∃ (s : State) (m : Master) (addr : Nat) (width : Nat) (a : Nat), (s.dev.passes m addr width 1) ∧ (s.dev.poisoned 0 addr width = []) ∧ (crewPlace addr = some (0, a)) ∧ (a + width ≤ 0x400000000) ∧ (s.dev.dropKind m 0 a width = 0) ∧ (s.dev.mem.hbmFailed = false)) ∧
    (∃ (s : State) (m : Master) (addr : Nat) (width : Nat) (sp : Nat) (a : Nat), (s.dev.passes m addr width 1) ∧ (crewPlace addr = some (sp, a)) ∧ (spot m addr width = some (.mem sp a)) ∧ (s.dev.dropKind m sp a width ≠ 0)) ∧
    (∃ (addr : Nat), ((crewPlace addr).isSome = true)) ∧
    (∃ (s : State) (m : Master) (addr : Nat) (width : Nat) (a : Nat) (sid : Nat) (i : Nat), (s.dev.passes m addr width 1) ∧ (s.dev.poisoned 1 addr width = []) ∧ (crewPlace addr = some (1, a)) ∧ (s.dev.dropKind m 1 a width = 0) ∧ (0x0100000 ≤ a) ∧ (a < 0x0300000) ∧ (a % 512 < 80) ∧ (a % 8 + width ≤ 8) ∧ (sid = (a - 0x0100000) / 512) ∧ (i = a % 512 / 8)) ∧
    (∃ (s : State) (m : Master) (addr : Nat) (width : Nat) (a : Nat) (n : Nat) (i : Nat), (s.dev.passes m addr width 1) ∧ (s.dev.poisoned 1 addr width = []) ∧ (crewPlace addr = some (1, a)) ∧ (s.dev.dropKind m 1 a width = 0) ∧ (storeBase ≤ a) ∧ (a < logBase) ∧ (n = (a - storeBase) / 0x20000) ∧ (i = (a - storeBase) % 0x20000 / 8) ∧ (slotField i = true) ∧ (a % 8 + width ≤ 8)) ∧
    (∃ (s : State) (m : Master) (addr : Nat) (width : Nat) (sp : Nat) (a : Nat), (s.dev.passes m addr width 1) ∧ (spot m addr width = some (.mem sp a)) ∧ (s.dev.dropKind m sp a width = 0) ∧ ((s.dev.poisoned sp addr width).all (coversWord sp addr width) = false)) ∧
    (∃ (s : State) (m : Master) (addr : Nat) (width : Nat), (s.dev.passes m addr width 1) ∧ (spot m addr width = none)) ∧
    (∃ (s : State) (q : Nat) (x : Pkt) (rest : List Pkt), (tlook (fun _ => []) s.dev.tm.queues q = x :: rest)) ∧
    (∃ (s : State), (s.dev.sealRunning = true) ∧ (s.dev.sealEng.job = none) ∧ (s.dev.sealEng.heldOps = [])) ∧
    (∃ (s : State), (s.dev.mem.hbmFailed = false)) ∧
    (∃ (s : State) (m : Master) (addr : Nat) (width : Nat) (a : Nat), (s.dev.passes m addr width 1) ∧ (spot m addr width = some (.own a))) ∧
    (∃ (s : State) (c : Nat) (addr : Nat) (width : Nat) (sp : Nat) (a : Nat), (s.dev.passes (.crew c) addr width 0) ∧ (spot (.crew c) addr width = some (.mem sp a)) ∧ (s.dev.readFails sp addr width = false)) ∧
    (∃ (s : State) (c : Nat) (addr : Nat) (width : Nat) (sp : Nat) (a : Nat), (s.dev.passes (.crew c) addr width 0) ∧ (spot (.crew c) addr width = some (.mem sp a)) ∧ (s.dev.readFails sp addr width = true)) ∧
    (∃ (s : State) (c : Nat) (addr : Nat) (width : Nat) (a : Nat), (s.dev.passes (.crew c) addr width 0) ∧ (spot (.crew c) addr width = some (.own a))) ∧
    (∃ (s : State) (c : Nat) (addr : Nat) (width : Nat), (s.dev.passes (.crew c) addr width 0) ∧ (spot (.crew c) addr width = none)) ∧
    (∃ (s : State) (c : Nat) (addr : Nat) (width : Nat) (a : Nat), (s.dev.passes (.crew c) addr width 1) ∧ (atomicShape addr width = true) ∧ (spot (.crew c) addr width = some (.own a)) ∧ (c < 24) ∧ ((s.dev.core c).hart.resv = some addr)) ∧
    (∃ (s : State) (c : Nat) (addr : Nat) (width : Nat) (a : Nat), (s.dev.passes (.crew c) addr width 1) ∧ (atomicShape addr width = true) ∧ (spot (.crew c) addr width = some (.own a)) ∧ (c < 24) ∧ ((s.dev.core c).hart.resv ≠ some addr)) ∧
    (∃ (s : State) (c : Nat) (addr : Nat) (width : Nat) (a : Nat), (s.dev.passes (.crew c) addr width 0) ∧ (atomicShape addr width = true) ∧ (spot (.crew c) addr width = some (.own a))) ∧
    (∃ (s : State) (c : Nat) (addr : Nat) (width : Nat) (a : Nat), (s.dev.passes (.crew c) addr width 1) ∧ (atomicShape addr width = true) ∧ (spot (.crew c) addr width = some (.own a))) ∧
    (∃ (s : State) (c : Nat) (addr : Nat) (width : Nat) (o : Nat), (s.dev.passes (.crew c) addr width 1) ∧ (spot (.crew c) addr width = some (.window o))) ∧
    (∃ (s : State) (c : Nat), (s.dev.stopped (.crew c) = false)) ∧
    (∃ (s : State) (c : Nat), (s.dev.stopped (.crew c) = false) ∧ ((s.dev.core c).hart.user = false)) ∧
    (∃ (s : State) (c : Nat), (s.dev.stopped (.crew c) = false) ∧ ((s.dev.core c).hart.user = true)) ∧
    (∃ (s : State) (c : Nat) (k : Nat) (addr : Nat) (width : Nat), (s.dev.stopped (.crew c) = false) ∧ ((s.dev.core c).task = some k) ∧ (s.dev.taskUser k = true) ∧ (s.dev.cancelledNow k = false) ∧ ((s.dev.core c).hart.pmpOk addr width 1 = false)) ∧
    (∃ (s : State) (m : Master), (s.dev.stopped m = true)) :=
  ⟨⟨(st 6144000 base : State), (.crew 3 : Master), (0x10F50000 : Nat), (8 : Nat), (0x0F50000 : Nat), by decide +kernel⟩,
   ⟨(st 6144000 base : State), (.crew 3 : Master), (0x1270000000 : Nat), (4 : Nat), (0x270000000 : Nat), by decide +kernel⟩,
   ⟨(st 6144000 base : State), (.crew 3 : Master), (0x10000000 : Nat), (8 : Nat), (1 : Nat), (0 : Nat), by decide +kernel⟩,
   ⟨(0x10F50000 : Nat), by decide +kernel⟩,
   ⟨(st 6144000 air : State), (.crew 3 : Master), (0x10100A08 : Nat), (8 : Nat), (0x0100A08 : Nat), (5 : Nat), (1 : Nat), by decide +kernel⟩,
   ⟨(st 6144000 (onStage 7 .drafting {}) : State), (.crew 3 : Master), (0x10320048 : Nat), (8 : Nat), (0x0320048 : Nat), (1 : Nat), (9 : Nat), by decide +kernel⟩,
   ⟨(st 6144000 { base with mem := { poison := [0x10F50000] } } : State), (.crew 3 : Master), (0x10F50000 : Nat), (4 : Nat), (1 : Nat), (0x0F50000 : Nat), by decide +kernel⟩,
   ⟨(st 6144000 base : State), (.crew 3 : Master), (0x2000000 : Nat), (4 : Nat), by decide +kernel⟩,
   ⟨(st 6144000 { base with tm := { queues := [(9, [pkt 2 5 1])] } } : State), (9 : Nat), (pkt 2 5 1 : Pkt), ([] : List Pkt), by decide +kernel⟩,
   ⟨(st 6144000 (withSeal { held := true, state := 1 }) : State), by decide +kernel⟩,
   ⟨(st 6144000 base : State), by decide +kernel⟩,
   ⟨(st 6144000 base : State), (.crew 3 : Master), (0x00100 : Nat), (4 : Nat), (0x60100 : Nat), by decide +kernel⟩,
   ⟨(st 6144000 { base with rgm := { core := [(3, { hart := {} })] } } : State), (3 : Nat), (0x10000100 : Nat), (8 : Nat), ((1 : Nat) : Nat), ((0x100 : Nat) : Nat), by decide +kernel⟩,
   ⟨(st 6144000 { base with mem := { poison := [0x10F50000] } } : State), (3 : Nat), (0x10F50000 : Nat), (4 : Nat), ((1 : Nat) : Nat), ((0x0F50000 : Nat) : Nat), by decide +kernel⟩,
   ⟨(st 6144000 { base with mem := { own := putOctets [] 0x60040 [5, 0, 0, 0x80] }, rgm := { core := [(3, { hart := { resv := none, x := [(6, 7)] } })] } } : State), (3 : Nat), (0x40 : Nat), (4 : Nat), ((0x60040 : Nat) : Nat), by decide +kernel⟩,
   ⟨(st 6144000 base : State), (3 : Nat), (0x2000000 : Nat), (4 : Nat), by decide +kernel⟩,
   ⟨(st 6144000 { base with mem := { own := putOctets [] 0x60040 [5, 0, 0, 0x80] }, rgm := { core := [(3, { hart := { resv := some 0x40, x := [(6, 7)] } })] } } : State), (3 : Nat), (0x40 : Nat), (4 : Nat), ((0x60040 : Nat) : Nat), by decide +kernel⟩,
   ⟨(st 6144000 { base with mem := { own := putOctets [] 0x60040 [5, 0, 0, 0x80] }, rgm := { core := [(3, { hart := { resv := none, x := [(6, 7)] } })] } } : State), (3 : Nat), (0x40 : Nat), (4 : Nat), ((0x60040 : Nat) : Nat), by decide +kernel⟩,
   ⟨(st 6144000 { base with mem := { own := putOctets [] 0x60040 [5, 0, 0, 0x80] }, rgm := { core := [(3, { hart := { resv := none, x := [(6, 7)] } })] } } : State), (3 : Nat), (0x40 : Nat), (4 : Nat), ((0x60040 : Nat) : Nat), by decide +kernel⟩,
   ⟨(st 6144000 { base with mem := { own := putOctets [] 0x60040 [5, 0, 0, 0x80] }, rgm := { core := [(3, { hart := { resv := none, x := [(6, 7)] } })] } } : State), (3 : Nat), (0x40 : Nat), (4 : Nat), ((0x60040 : Nat) : Nat), by decide +kernel⟩,
   ⟨(st 6144000 base : State), (3 : Nat), (0x20200040 : Nat), (4 : Nat), ((0x200040 : Nat) : Nat), by decide +kernel⟩,
   ⟨(st 6144000 base : State), (3 : Nat), by decide +kernel⟩,
   ⟨(st 6144000 base : State), (3 : Nat), by decide +kernel⟩,
   ⟨(st 6144000 { base with rgm := { core := [(3, { hart := { user := true } })] } } : State), (3 : Nat), by decide +kernel⟩,
   ⟨(st 6144000 (withTask (w3 + 2 ^ 57) { ctx := [(1030, { st := .running })], core := [(3, { task := some 1030, hart := { user := true } })] }) : State), (3 : Nat), (1030 : Nat), (0x10000100 : Nat), (8 : Nat), by decide +kernel⟩,
   ⟨(st 6144000 { base with rgm := { core := [(3, { halted := true })] } } : State), (.crew 3 : Master), by decide +kernel⟩⟩

/-- The hypotheses of each clause of StepRunsTheFrontCommand are met. -/
theorem witness_StepRunsTheFrontCommand :
    (∃ (s : State) (c : Instr) (rest : List Instr), (s.pending = c :: rest)) :=
  ⟨({ st 6144000 base with pending := [.handoff ⟨4100, .timestamp, 7⟩, .refill] } : State), (.handoff ⟨4100, .timestamp, 7⟩ : Instr), ([.refill] : List Instr), by decide +kernel⟩

/-- The hypotheses of each clause of AnEmptyQueueLivesOneBeat are met. -/
theorem witness_AnEmptyQueueLivesOneBeat :
    (∃ (s : State), (s.pending = []) ∧ (s.dev.glb.filled = false) ∧ (s.dev.fillers s.now ≠ [])) ∧
    (∃ (s : State), (s.pending = []) ∧ (s.dev.glb.filled = true ∨ s.dev.fillers s.now = [])) :=
  ⟨⟨(st 6400000 base : State), by decide +kernel⟩,
   ⟨(st 6144000 { base with glb := { filled := true } } : State), by decide +kernel⟩⟩

/-- The hypotheses of each clause of ShowTimeNeverRunsBackwards are met. -/
theorem witness_ShowTimeNeverRunsBackwards :
    (∃ (n : Nat) (s : State) (u : State), (LivesOn n s u)) ∧
    (∃ (s : State) (rest : List Instr), (s.pending = .powerOnReset :: rest)) :=
  ⟨⟨(0 : Nat), (st 6144000 { base with glb := { filled := true } } : State), (st 6144000 { base with glb := { filled := true } } : State), rfl⟩,
   ⟨({ st 6144000 base with pending := [.powerOnReset] } : State), ([] : List Instr), by decide +kernel⟩⟩

/-- The hypotheses of each clause of ResetHolds are met. -/
theorem witness_ResetHolds :
    (∃ (f : _), (f ≠ 0)) ∧
    (∃ (f : _), (f ≠ 0)) ∧
    (∃ (b : _), (b ≤ 20)) :=
  ⟨⟨((3 : Nat)), by decide +kernel⟩,
   ⟨((3 : Nat)), by decide +kernel⟩,
   ⟨((0 : Nat)), by decide +kernel⟩⟩

/-- The hypotheses of each clause of TheDebugPortStaysGuarded are met. -/
theorem witness_TheDebugPortStaysGuarded :
    (∃ (s : State) (u : State), (Guarded s.dev) ∧ (step s = .next u)) ∧
    (∃ (s : State) (u : State), (Guarded s.dev) ∧ (step s = .next u)) :=
  ⟨⟨({ st 6144000 base with pending := [.idcode] } : State), ({ st 6144000 base with dev := goIdcode 6144000 base } : State), by constructor <;> decide, rfl⟩,
   ⟨({ st 6144000 base with pending := [.idcode] } : State), ({ st 6144000 base with dev := goIdcode 6144000 base } : State), by constructor <;> decide, rfl⟩⟩

/-- The hypotheses of each clause of MailboxRequestsTurnedAway are met. -/
theorem witness_MailboxRequestsTurnedAway :
    (∃ (c : Instr) (s : State) (f : Nat) (op : Nat) (req : List Word), (mailboxForm c = some (f, req, op)) ∧ ((s.dev.fn f).st ≠ .ready ∨ 32 ≤ (s.dev.fn f).tags.length)) ∧
    (∃ (c : Instr) (s : State) (f : Nat) (op : Nat) (req : List Word), (mailboxForm c = some (f, req, op)) ∧ ((s.dev.fn f).st = .ready) ∧ ((s.dev.fn f).tags.length < 32) ∧ ((s.dev.fn f).versionSeen = false) ∧ (op ≠ 1)) ∧
    (∃ (c : Instr) (s : State) (f : Nat) (op : Nat) (req : List Word), (mailboxForm c = some (f, req, op)) ∧ ((s.dev.fn f).st = .ready) ∧ ((s.dev.fn f).tags.length < 32) ∧ ((s.dev.fn f).versionSeen = true) ∧ (s.dev.mgr.recovery = false) ∧ (f ≠ 0) ∧ (op ∈ f0OnlyOps)) :=
  ⟨⟨(.propGet 2 (rq 7 0x20 [0x3006]) : Instr), (st 6144000 base : State), (2 : Nat), (0x20 : Nat), (rq 7 0x20 [0x3006] : List Word), by decide +kernel⟩,
   ⟨(.propGet 0 (rq 7 0x20 [0x3006]) : Instr), (st 6144000 {} : State), (0 : Nat), (0x20 : Nat), (rq 7 0x20 [0x3006] : List Word), by decide +kernel⟩,
   ⟨(.btJoin 1 (rq 7 0x500 [0x3006]) : Instr), (st 6144000 base : State), (1 : Nat), (0x500 : Nat), (rq 7 0x500 [0x3006] : List Word), by decide +kernel⟩⟩

/-- The hypotheses of each clause of SimultaneousInputsAreRanked are met. -/
theorem witness_SimultaneousInputsAreRanked :
    (∃ (d : Dev) (l : List Instr) (l' : List Instr), (l.Perm l') ∧ ((∀ x ∈ l, ∀ y ∈ l, d.rank x = d.rank y → x = y))) ∧
    (∃ (d : Dev) (l : List Instr) (y : _), ((∃ x ∈ l, d.isReset x = true)) ∧ (y ∈ d.ordered l)) ∧
    (∃ (d : Dev) (l : List Instr) (y : _), ((∃ x ∈ l, d.isReset x = true)) ∧ (y ∈ d.ordered l)) ∧
    (∃ (d : Dev) (l : List Instr), ((∀ x ∈ l, d.isReset x = false))) ∧
    (∃ (d : Dev) (l : List Instr), ((∀ x ∈ l, d.isReset x = false))) ∧
    (∃ (m : Master) (m' : Master), (m ≠ .device) ∧ (m' ≠ .device) ∧ (m.code < 0x40) ∧ (m'.code < 0x40)) ∧
    (∃ (m : Master) (m' : Master), (m ≠ .device) ∧ (m' ≠ .device) ∧ (m.code < 0x40) ∧ (m'.code < 0x40)) ∧
    (∃ (m : Master) (m' : Master), (m ≠ .device) ∧ (m' ≠ .device) ∧ (m.code < 0x40) ∧ (m'.code < 0x40)) ∧
    (∃ (d : Dev) (c : Nat) (c' : Nat) (off : Nat) (off' : Nat), (c < 24) ∧ (c' < 24) ∧ (reqOp (d.crewRequest (off % 2 ^ 25)) = 0x701) ∧ (reqOp (d.crewRequest (off' % 2 ^ 25)) ≠ 0x701)) :=
  ⟨⟨(base : Dev), ([.sealAcquire .mgmt, .sealRelease (.fn 0)] : List Instr), ([.sealRelease (.fn 0), .sealAcquire .mgmt] : List Instr), by decide +kernel⟩,
   ⟨(base : Dev), ([.warmReset .booth, .sealRelease (.fn 0)] : List Instr), (Instr.warmReset .booth), by decide +kernel⟩,
   ⟨(base : Dev), ([.warmReset .booth, .sealRelease (.fn 0)] : List Instr), (Instr.warmReset .booth), by decide +kernel⟩,
   ⟨(base : Dev), ([.sealAcquire .mgmt, .sealRelease (.fn 0)] : List Instr), by decide +kernel⟩,
   ⟨(base : Dev), ([.sealAcquire .mgmt, .sealRelease (.fn 0)] : List Instr), by decide +kernel⟩,
   ⟨(.fn 0 : Master), (.mgmt : Master), by decide +kernel⟩,
   ⟨(.fn 0 : Master), (.mgmt : Master), by decide +kernel⟩,
   ⟨(.fn 0 : Master), (.mgmt : Master), by decide +kernel⟩,
   ⟨({ base with mem := { backlot := putOctets [] 0x0F50000 (wordOctets (rq 7 0x701 [9])) } } : Dev), (23 : Nat), (0 : Nat), (0x0F50000 : Nat), (0 : Nat), by decide +kernel⟩⟩

/-- The hypotheses of each clause of AClearNeverLosesASetting are met. -/
theorem witness_AClearNeverLosesASetting :
    (∃ (d : Dev) (b : Nat) (i : Nat) (a : Access) (r : RegDef), (b ≤ 20) ∧ (b ≠ 12) ∧ (i < 32) ∧ (a.addr = incAddr b) ∧ (regDef (incAddr b) = some r) ∧ (r.w1c.getLsbD i = true) ∧ (a.data.getLsbD i = true) ∧ (d.glb.incSet.contains (incAddr b, i) = false) ∧ (d.glb.incSet.contains (incAddr b, i + 32) = false)) ∧
    (∃ (d : Dev) (b : Nat) (i : Nat) (a : Access) (r : RegDef), (b ≤ 20) ∧ (b ≠ 12) ∧ (i < 32) ∧ (a.addr = incAddr b) ∧ (regDef (incAddr b) = some r) ∧ (r.w1c.getLsbD i = true) ∧ (a.data.getLsbD i = true) ∧ ((d.reg (incAddr b)).getLsbD i = true) ∧ (d.glb.incSet.contains (incAddr b, i) = true) ∧ (d.glb.incSet.contains (incAddr b, i + 32) = false)) ∧
    (∃ (d : Dev) (b : Nat) (i : Nat) (a : Access) (r : RegDef), (b ≤ 20) ∧ (b ≠ 12) ∧ (i < 32) ∧ (a.addr = incAddr b) ∧ (regDef (incAddr b) = some r) ∧ (r.w1c.getLsbD i = true) ∧ (a.data.getLsbD i = true) ∧ ((d.reg (incAddr b)).getLsbD i = true) ∧ (d.glb.incSet.contains (incAddr b, i) = true) ∧ (d.glb.incSet.contains (incAddr b, i + 32) = false)) ∧
    (∃ (d : Dev) (b : Nat) (i : Nat) (a : Access) (r : RegDef), (b ≤ 20) ∧ (b ≠ 12) ∧ (i < 32) ∧ (a.addr = incAddr b) ∧ (regDef (incAddr b) = some r) ∧ (r.w1c.getLsbD i = true) ∧ (a.data.getLsbD i = true) ∧ ((d.reg (incAddr b)).getLsbD i = true) ∧ (d.glb.incSet.contains (incAddr b, i + 32) = true)) ∧
    (∃ (b : Nat) (i : Nat) (a : Access) (r : RegDef), (b ≤ 20) ∧ (b ≠ 12) ∧ (i < 32) ∧ (a.addr = incAddr b) ∧ (regDef (incAddr b) = some r) ∧ (r.w1c.getLsbD i = true) ∧ (a.data.getLsbD i = false)) ∧
    (∃ (b : Nat) (i : Nat) (a : Access) (r : RegDef) (j : _), (b ≤ 20) ∧ (b ≠ 12) ∧ (i < 32) ∧ (a.addr = incAddr b) ∧ (regDef (incAddr b) = some r) ∧ (r.w1c.getLsbD i = true) ∧ (j ≠ incAddr b)) :=
  ⟨⟨(base.putReg 0x200040 1 : Dev), (2 : Nat), (0 : Nat), ({ master := .fn 0, addr := 0x200040, write := true, data := 1 } : Access), ((regDef 0x200040).get (by decide) : RegDef), by decide +kernel⟩,
   ⟨({ (base.putReg 0x200040 1) with glb := { incSet := [(0x200040, 0)] } } : Dev), (2 : Nat), (0 : Nat), ({ master := .fn 0, addr := 0x200040, write := true, data := 1 } : Access), ((regDef 0x200040).get (by decide) : RegDef), by decide +kernel⟩,
   ⟨({ (base.putReg 0x200040 1) with glb := { incSet := [(0x200040, 0)] } } : Dev), (2 : Nat), (0 : Nat), ({ master := .fn 0, addr := 0x200040, write := true, data := 1 } : Access), ((regDef 0x200040).get (by decide) : RegDef), by decide +kernel⟩,
   ⟨({ (base.putReg 0x200040 1) with glb := { incSet := [(0x200040, 32)] } } : Dev), (2 : Nat), (0 : Nat), ({ master := .fn 0, addr := 0x200040, write := true, data := 1 } : Access), ((regDef 0x200040).get (by decide) : RegDef), by decide +kernel⟩,
   ⟨(2 : Nat), (0 : Nat), ({ master := .fn 0, addr := 0x200040, write := true, data := 2 } : Access), ((regDef 0x200040).get (by decide) : RegDef), by decide +kernel⟩,
   ⟨(2 : Nat), (0 : Nat), ({ master := .fn 0, addr := 0x200040, write := true, data := 1 } : Access), ((regDef 0x200040).get (by decide) : RegDef), ((0x40 : Nat)), by decide +kernel⟩⟩

/-- The hypotheses of each clause of TheCheckValueOfARecord are met. -/
theorem witness_TheCheckValueOfARecord :
    (∃ (s : State) (m : Master) (n : Nat) (v : Reg) (u : Chk), (u = s.dev.chkUnit n) ∧ (s.dev.ownsChk m n = true) ∧ (v.getLsbD 31 = false) ∧ (v.getLsbD 30 = false) ∧ (v.getLsbD 29 = false)) :=
  ⟨(st 6144000 (withChk { held := true }) : State), (.fn 0 : Master), (2 : Nat), (0x00000000 : Reg), ((st 6144000 (withChk { held := true }) : State).dev.chkUnit (2 : Nat) : Chk), rfl, by decide +kernel⟩

/-- The hypotheses of each clause of ReceptionAndMemoryFormsComplete are met. -/
theorem witness_ReceptionAndMemoryFormsComplete :
    (∃ (s : State) (r : Nat) (l : List RxMpdu), (l.filter (s.dev.rxTaken r) = [])) ∧
    (∃ (s : State) (r : Nat) (l : List RxMpdu), (r < 3) ∧ (l.filter (s.dev.rxTaken r) ≠ [])) ∧
    (∃ (s : State) (sid : Nat) (tid : Nat), ((∀ h ∈ (s.dev.ba sid tid).held, s.now < h.time + s.dev.pv 0x2031 * 1000000))) ∧
    (∃ (s : State) (sid : Nat) (tid : Nat), ((∃ h ∈ (s.dev.ba sid tid).held, h.seq = (s.dev.ba sid tid).next)) ∧ ((∀ h ∈ (s.dev.ba sid tid).held, h.seq < 4096))) ∧
    (∃ (s : State) (sid : Nat) (tid : Nat), ((∃ h ∈ (s.dev.ba sid tid).held, h.time + s.dev.pv 0x2031 * 1000000 ≤ s.now)) ∧ ((∀ h ∈ (s.dev.ba sid tid).held, h.seq < 4096 ∧ h.seq ≠ (s.dev.ba sid tid).next)) ∧ ((s.dev.ba sid tid).next < 4096)) ∧
    (∃ (s : State) (sid : Nat) (id : Nat) (e : Dev) (m : _), (e = (List.range 3).foldl (fun x r => x.startPpdus s.now r) s.dev) ∧ ((e.sta sid).queue.find? (fun y => y.id == id) = some m) ∧ (m.onAir = none) ∧ (m.entry + e.lifeNs (e.staTenant sid) m.ac ≤ s.now)) ∧
    (∃ (s : State) (sid : Nat) (id : Nat) (e : Dev) (m : _), (e = (List.range 3).foldl (fun x r => x.startPpdus s.now r) s.dev) ∧ ((e.sta sid).queue.find? (fun y => y.id == id) = some m) ∧ (m.onAir ≠ none ∨ s.now < m.entry + e.lifeNs (e.staTenant sid) m.ac)) ∧
    (∃ (s : State) (sid : Nat) (id : Nat) (e : Dev) (b : _) (m : _), (e = (List.range 3).foldl (fun x r => x.startPpdus s.now r) s.dev) ∧ ((e.sta sid).queue.find? (fun y => y.id == id) = none) ∧ (sid = 4096 + b) ∧ (((e.bssAt b).groupHeld ++ (e.bssAt b).groupQueue).find? (fun y => y.id == id) = some m) ∧ (m.entry + e.lifeNs (e.bssAt b).tenant m.ac ≤ s.now)) ∧
    (∃ (s : State) (sid : Nat) (id : Nat) (e : Dev) (b : _) (m : _), (e = (List.range 3).foldl (fun x r => x.startPpdus s.now r) s.dev) ∧ ((e.sta sid).queue.find? (fun y => y.id == id) = none) ∧ (sid = 4096 + b) ∧ (((e.bssAt b).groupHeld ++ (e.bssAt b).groupQueue).find? (fun y => y.id == id) = some m) ∧ (s.now < m.entry + e.lifeNs (e.bssAt b).tenant m.ac)) ∧
    (∃ (s : State) (m : Master) (addr : Nat) (width : Nat), (s.dev.passes m addr width 1) ∧ (spot m addr width = none)) ∧
    (∃ (s : State) (m : Master) (addr : Nat) (width : Nat) (sp : _) (a : _), (s.dev.passes m addr width 1) ∧ (spot m addr width = some (.mem sp a)) ∧ (s.dev.dropKind m sp a width = 0)) ∧
    (∃ (s : State) (m : Master) (addr : Nat) (width : Nat) (sp : _) (a : _), (s.dev.passes m addr width 1) ∧ (spot m addr width = some (.mem sp a)) ∧ (s.dev.dropKind m sp a width ≠ 0)) ∧
    (∃ (s : State) (who : Consumer), ((who = .seal → s.dev.sealEng.job = none ∧ s.dev.sealEng.heldOps = []))) ∧
    (∃ (s : State), (s.dev.mem.hbmFailed = true)) ∧
    (∃ (s : State), (s.dev.mem.hbmFailed = false)) :=
  ⟨⟨(st 2500 base : State), (0 : Nat), ([{ ta := 1, bss := 0, len := 10, fcsOk := false, kind := .ctrl }] : List RxMpdu), by decide +kernel⟩,
   ⟨(st 2500 air : State), (0 : Nat), ([{ ta := 1, bss := 0, len := 10, fcsOk := false, kind := .ctrl }, { ta := 0x020000000055, bss := 0, len := 100, kind := .data 0 5 [List.replicate 80 1] }] : List RxMpdu), by decide +kernel⟩,
   ⟨(st 2500 air : State), (5 : Nat), (0 : Nat), by decide +kernel⟩,
   ⟨(st 500000000 (withSta { sta5 with baRx := [(0, { window := 64, next := 4, held := [⟨4, 1000, [], true⟩, ⟨6, 1000, [List.replicate 80 1], false⟩], on := true })] }) : State), (5 : Nat), (0 : Nat), by decide +kernel⟩,
   ⟨(st 500000000 (withSta { sta5 with baRx := [(0, { window := 64, next := 4, held := [⟨9, 1000, [[2]], false⟩, ⟨6, 1000, [List.replicate 80 1], false⟩, ⟨7, 500000000, [[1]], false⟩], on := true })] }) : State), (5 : Nat), (0 : Nat), by decide +kernel⟩,
   ⟨(st 500000000000 (withSta { sta5 with queue := [{ id := 3, ac := 2, tid := 4, len := 100, entry := 0 }] }) : State), (5 : Nat), (3 : Nat), (withSta { sta5 with queue := [{ id := 3, ac := 2, tid := 4, len := 100, entry := 0 }] } : Dev), (({ id := 3, ac := 2, tid := 4, len := 100, entry := 0 } : Msdu)), by decide +kernel⟩,
   ⟨(st 500000000000 (withSta { sta5 with queue := [{ id := 3, ac := 2, tid := 4, len := 100, entry := 500000000000 }] }) : State), (5 : Nat), (3 : Nat), (withSta { sta5 with queue := [{ id := 3, ac := 2, tid := 4, len := 100, entry := 500000000000 }] } : Dev), (({ id := 3, ac := 2, tid := 4, len := 100, entry := 500000000000 } : Msdu)), by decide +kernel⟩,
   ⟨(st 500000000000 { base with mac := { bss := [(0, { bss0 with groupHeld := [{ id := 3, ac := 2, tid := 4, len := 100, entry := 0 }] })] } } : State), (4096 : Nat), (3 : Nat), ({ base with mac := { bss := [(0, { bss0 with groupHeld := [{ id := 3, ac := 2, tid := 4, len := 100, entry := 0 }] })] } } : Dev), ((0 : Nat)), (({ id := 3, ac := 2, tid := 4, len := 100, entry := 0 } : Msdu)), by decide +kernel⟩,
   ⟨(st 500000000000 { base with mac := { bss := [(0, { bss0 with groupHeld := [{ id := 3, ac := 2, tid := 4, len := 100, entry := 500000000000 }] })] } } : State), (4096 : Nat), (3 : Nat), ({ base with mac := { bss := [(0, { bss0 with groupHeld := [{ id := 3, ac := 2, tid := 4, len := 100, entry := 500000000000 }] })] } } : Dev), ((0 : Nat)), (({ id := 3, ac := 2, tid := 4, len := 100, entry := 500000000000 } : Msdu)), by decide +kernel⟩,
   ⟨(st 6144000 base : State), (.crew 3 : Master), (0x2000000 : Nat), (8 : Nat), by decide +kernel⟩,
   ⟨(st 6144000 base : State), (.crew 3 : Master), (0x10F50000 : Nat), (8 : Nat), ((1 : Nat)), ((0x0F50000 : Nat)), by decide +kernel⟩,
   ⟨(st 6144000 base : State), (.crew 3 : Master), (0x10000000 : Nat), (8 : Nat), ((1 : Nat)), ((0 : Nat)), by decide +kernel⟩,
   ⟨(st 6144000 base : State), (.core 3 false : Consumer), by decide +kernel⟩,
   ⟨(st 6144000 { base with mem := { hbmFailed := true } } : State), by decide +kernel⟩,
   ⟨(st 6144000 base : State), by decide +kernel⟩⟩


end Sys2Proof.Tests
end

section
/-! PROOFS. Register writes: what a write does by the place it reaches (O2), and what a clear of incident bits does at its boundary (O58). -/
namespace Sys2Proof.Machine

/-! The device that a reaching write meets. -/

/-- The device after the counts that an access to address `x` leaves behind: the debug access port's own, then the filters'. -/
def Dev.counted (d : Dev) (t : Nat) (a : Access) (x : Nat) : Dev :=
  if a.master.isF0 then (d.dapCounts t a).filtered a.master.code 2 x a.width a.write else d.dapCounts t a

/-- The debug access port's counts do not change what becomes of an access. -/
theorem Dev.judge_dapCounts (d : Dev) (t : Nat) (a : Access) : (d.dapCounts t a).judge a = d.judge a := by
  rw [Dev.dapCounts_frame]; rfl

/-- A write that reaches a register is `writeAt` on the counted device. -/
theorem Dev.access_write {d : Dev} {t x : Nat} {a : Access} (hb : d.onBus a = true) (hw : a.write = true) (hj : d.judge a = .at' x) :
    d.access t a = (d.counted t a x).writeAt t a x := by
  simp only [Dev.access, hb, Dev.judge_dapCounts, hj, hw, Dev.counted, Bool.not_true, Bool.false_eq_true, if_false, if_true]

theorem Dev.counted_frame (d : Dev) (t : Nat) (a : Access) (x : Nat) : d.counted t a x =
    { d with glb := (d.counted t a x).glb, regs := (d.counted t a x).regs, counts := (d.counted t a x).counts,
             mgr := (d.counted t a x).mgr, tst := (d.counted t a x).tst } := by
  unfold Dev.counted
  split
  · rw [Dev.filtered_frame, Dev.dapCounts_frame]
  · exact Dev.dapCounts_frame d t a

/-- For a master other than the debug access port only the filters count. -/
theorem Dev.counted_of_ne_dap (d : Dev) (t : Nat) {a : Access} (x : Nat) (hm : a.master ≠ .dap) :
    d.counted t a x = { d with counts := (d.counted t a x).counts } := by
  have h0 : d.dapCounts t a = d := by simp [Dev.dapCounts, hm]
  unfold Dev.counted
  rw [h0]
  split
  · exact Dev.filtered_frame d _ _ _ _ _
  · rfl

/-- A write by the debug access port is noted in its own record (R474). -/
theorem Dev.counted_wrote (d : Dev) (t : Nat) {a : Access} (x : Nat) (hm : a.master = .dap) (hw : a.write = true) :
    (d.counted t a x).tst.wrote = true := by
  have h0 : (d.dapCounts t a).tst.wrote = true := by
    simp only [Dev.dapCounts, hm, hw, ne_eq, not_true_eq_false, if_false, if_true]
    split
    · assumption
    · rw [Dev.inc_tst]
  unfold Dev.counted
  split
  · rw [Dev.filtered_frame]; exact h0
  · exact h0

/-! Which registers a write can reach. -/

/-- A register or area occupies every address that an access reaches: `judge` answers `.at'` only in the branches under that test. -/
theorem Dev.occupied_of_judge {d : Dev} {a : Access} {x : Nat} (hj : d.judge a = .at' x) : d.occupied a.master a.write x = true := by
  unfold Dev.judge at hj
  repeat' split at hj
  all_goals simp_all

/-- F0's rights do not make another slot's registers writable (R56). -/
theorem Dev.not_otherSlot_of_judge {d : Dev} {a : Access} {x : Nat} (hw : a.write = true) (hj : d.judge a = .at' x) :
    ¬ (a.master.isF0 = true ∧ 0x110000 ≤ x ∧ x < 0x200000) := by
  rintro ⟨hm, hlo, hhi⟩
  have hx : 0x100000 ≤ x := by omega
  have hf : (x - 0x100000) / 0x10000 ≠ 0 := by omega
  have ho := Dev.occupied_of_judge hj
  simp [Dev.occupied, hx, hhi, hm, hf, hw] at ho

/-! `writeAt`, place by place. -/

theorem Dev.writeAt_mbx (d : Dev) (t : Nat) (a : Access) {x f o : Nat} (hx : x = 0x100000 + f * 0x10000 + o) (hf : f < 16) (ho : o < 0x2010)
    (hi : o ≠ 0x200C) : d.writeAt t a x = d.writeMbx t f o a := by
  have h1 : 0x100000 ≤ x := by omega
  have h2 : x < 0x200000 := by omega
  have h3 : x % 0x10000 = o := by omega
  have h4 : (x - 0x100000) / 0x10000 = f := by omega
  simp [Dev.writeAt, h1, h2, h3, h4, hi]

theorem Dev.writeAt_slowReturn (d : Dev) (t : Nat) (a : Access) :
    d.writeAt t a 0xD00014 = d.slowReturn t a.master (rfld (a.data.setWidth 32 : Reg) 31 29) (rfld (a.data.setWidth 32 : Reg) 14 0) := by
  simp [Dev.writeAt]

theorem Dev.writeAt_chk (d : Dev) (t : Nat) (a : Access) {x : Nat} (hlo : 0xC01000 ≤ x) (hhi : x < 0xC01800) (h0 : x % 0x100 ≠ 0) :
    d.writeAt t a x = d.writeChk t a.master ((x - 0xC01000) / 0x100) (x % 0x100) (a.data.setWidth 32) := by
  have h1 : ¬ x < 0x200000 := by omega
  have h2 : x ≠ 0xD00014 := by omega
  simp [Dev.writeAt, h1, h2, hlo, hhi, h0]

/-- An address whose writes no block takes at once: one outside the slots (but for their incident registers), RGM_SLOW_RETURN and the check-value units (but for their locks). -/
def waitsAt (x : Nat) : Prop :=
  (x < 0x100000 ∨ 0x200000 ≤ x ∨ x % 0x10000 = 0x200C) ∧ x ≠ 0xD00014 ∧ (x < 0xC01000 ∨ 0xC01800 ≤ x ∨ x % 0x100 = 0)

/-- A write that waits is made of ranked inputs (R32), or is dropped at a lock or in another function's slot, or is staged (R19). -/
theorem Dev.writeAt_of_waits (d : Dev) (t : Nat) (a : Access) {x : Nat} (hx : waitsAt x) : d.writeAt t a x =
    if writtenInputs a.master x (a.data.setWidth 32) ≠ [] then { d with arrivals := d.arrivals ++ writtenInputs a.master x (a.data.setWidth 32) }
    else if (x = 0xB80000 ∨ 0xC01000 ≤ x ∧ x < 0xC01800) ∨ a.master.isF0 = true ∧ 0x110000 ≤ x ∧ x < 0x200000 then d
    else { d with glb := { d.glb with staged := d.glb.staged ++ [{ a with addr := x }] } } := by
  obtain ⟨hslot, hret, hchk⟩ := hx
  have e1 : (0x100000 ≤ x && decide (x < 0x200000) && x % 0x10000 != 0x200C) = false := by
    simp only [Bool.and_eq_false_iff, decide_eq_false_iff_not, bne_eq_false_iff_eq]; omega
  have e3 : (0xC01000 ≤ x && decide (x < 0xC01800) && x % 0x100 != 0) = false := by
    simp only [Bool.and_eq_false_iff, decide_eq_false_iff_not, bne_eq_false_iff_eq]; omega
  simp only [Dev.writeAt, e1, e3, hret, Bool.false_eq_true, if_false]
  cases hl : writtenInputs a.master x (a.data.setWidth 32) with
  | nil => simp [and_assoc]
  | cons i l => simp

/-- Only the two kinds of lock and the cores' ports turn a write into ranked inputs. -/
theorem writtenInputs_eq_nil (m : Master) {x : Nat} (v : Reg) (hs : x ≠ 0xB80000) (hc : ¬ (0xC01000 ≤ x ∧ x < 0xC01800 ∧ x % 0x100 = 0))
    (hp : ¬ (0xD01000 ≤ x ∧ x < 0xD01600)) : writtenInputs m x v = [] := by
  have e1 : (0xC01000 ≤ x && x % 0x100 == 0 && decide (x < 0xC01800)) = false := by
    simp only [Bool.and_eq_false_iff, decide_eq_false_iff_not, beq_eq_false_iff_ne]; omega
  have e2 : (0xD01000 ≤ x && decide (x < 0xD01600)) = false := by
    simp only [Bool.and_eq_false_iff, decide_eq_false_iff_not]; omega
  simp only [writtenInputs, hs, e1, e2, Bool.false_eq_true, if_false, ite_self]

/-- A write of a lock is its ranked inputs and nothing else, also where it has none. -/
theorem Dev.writeAt_lock (d : Dev) (t : Nat) (a : Access) {x : Nat} (hx : x = 0xB80000 ∨ (0xC01000 ≤ x ∧ x < 0xC01800 ∧ x % 0x100 = 0)) :
    d.writeAt t a x = { d with arrivals := d.arrivals ++ writtenInputs a.master x (a.data.setWidth 32) } := by
  rw [Dev.writeAt_of_waits d t a (by unfold waitsAt; omega)]
  by_cases hl : writtenInputs a.master x (a.data.setWidth 32) = []
  · rw [if_neg (not_not_intro hl), if_pos (by omega), hl, List.append_nil]
  · rw [if_pos hl]

/-- Every other write that has no ranked input waits, staged, for the end of its beat (R19). -/
theorem Dev.writeAt_staged (d : Dev) (t : Nat) (a : Access) {x : Nat} (hx : waitsAt x) (hl : writtenInputs a.master x (a.data.setWidth 32) = [])
    (hlock : ¬ (x = 0xB80000 ∨ 0xC01000 ≤ x ∧ x < 0xC01800)) (hslot : ¬ (a.master.isF0 = true ∧ 0x110000 ≤ x ∧ x < 0x200000)) :
    d.writeAt t a x = { d with glb := { d.glb with staged := d.glb.staged ++ [{ a with addr := x }] } } := by
  rw [Dev.writeAt_of_waits d t a hx, if_neg (not_not_intro hl), if_neg (not_or.mpr ⟨hlock, hslot⟩)]

/-! A mailbox slot's own writes (R55, R56). -/

/-- A request area after a write at offset `o` of it: a 64-bit write puts the word, a 32-bit write its half. -/
def areaWrite (a : Access) (o : Nat) (m : Table Word) : Table Word :=
  if a.width = 8 then tput (fun _ => 0) m (o / 8) a.data else setHalf m o (a.data.setWidth 32)

theorem tlook_areaWrite {a : Access} (o : Nat) (m : Table Word) (i : Nat) (hw : a.width = 8) :
    tlook (fun _ => (0 : Word)) (areaWrite a o m) i = if i = o / 8 then a.data else tlook (fun _ => 0) m i := by
  rw [areaWrite, if_pos hw, tlook_tput]

/-- A write of the request area changes that area alone. -/
theorem Dev.writeMbx_request (d : Dev) (t : Nat) (a : Access) (f : Nat) {o : Nat} (ho : o < 0x1000) :
    d.writeMbx t f o a = d.modFn f (fun s => { s with reqArea := areaWrite a o s.reqArea }) := by
  unfold Dev.writeMbx
  rw [if_pos ho]
  rfl

theorem Dev.writeMbx_doorbell (d : Dev) (t f : Nat) {a : Access} (hb : a.data.getLsbD 0 = true) : d.writeMbx t f 0x2000 a = goDoorbell t f d := by
  simp [Dev.writeMbx, hb]

theorem Dev.writeMbx_respAck (d : Dev) (t f : Nat) {a : Access} (hb : a.data.getLsbD 0 = true) : d.writeMbx t f 0x2008 a = goRespAck t f d := by
  simp [Dev.writeMbx, hb]

/-- The rest of a slot ignores a write. -/
theorem Dev.writeMbx_ignored (d : Dev) (t f : Nat) {a : Access} {o : Nat} (ho : 0x1000 ≤ o) (hb : o ≠ 0x2000 ∧ o ≠ 0x2008 ∨ a.data.getLsbD 0 = false) :
    d.writeMbx t f o a = d := by
  have h1 : ¬ o < 0x1000 := by omega
  rcases hb with ⟨h2, h3⟩ | hb
  · simp [Dev.writeMbx, h1, h2, h3]
  · simp only [Dev.writeMbx, h1, hb, Bool.and_false, Bool.false_eq_true, if_false]

/-! A check-value unit's writes (R338). -/

/-- A stranger's write of a unit sets the unit's incident bit, and changes nothing else. -/
theorem Dev.writeChk_stranger (d : Dev) (t o : Nat) {m : Master} {n : Nat} (v : Reg) (hm : d.ownsChk m n = false) :
    d.writeChk t m n o v = d.inc t 13 (8 + n) := by
  simp [Dev.writeChk, Dev.chkWrite, hm]

/-- An incident bit changes the registers, the log, the interrupts and their counter alone. -/
theorem Dev.inc_frame (d : Dev) (t b k x : Nat) : d.inc t b k x =
    { d with regs := (d.inc t b k x).regs, glb := (d.inc t b k x).glb, mgr := (d.inc t b k x).mgr, counts := (d.inc t b k x).counts } := by
  apply Dev.eq_of_fields <;> simp

/-- The owner's write of CHK_n_EXPECT. -/
theorem Dev.writeChk_expect (d : Dev) (t : Nat) {m : Master} {n : Nat} (v : Reg) (hm : d.ownsChk m n = true) :
    d.writeChk t m n 0x20 v = d.modChk n (fun c => { c with expect := v }) := by
  simp [Dev.writeChk, Dev.chkWrite, hm]

theorem Dev.chkUnit_modChk (d : Dev) (n j : Nat) (g : Chk → Chk) : (d.modChk n g).chkUnit j = if j = n then g (d.chkUnit n) else d.chkUnit j := by
  simp [Dev.chkUnit, Dev.modChk]

/-- Settles O2, by the place that the write reaches: one law of `writeAt` for each. -/
theorem registerWritesTakeEffect : Obligations.RegisterWritesTakeEffect := by
  unfold Obligations.RegisterWritesTakeEffect
  rintro s a x v hb hw hj rfl
  have hslot := Dev.not_otherSlot_of_judge hw hj
  refine ⟨s.dev.counted s.now a x, (s.dev.counted s.now a x).writeAt s.now a x, completes_act _ rfl (Dev.access_write hb hw hj),
    Dev.counted_frame _ _ _ _, Dev.counted_of_ne_dap _ _ _, fun hm => Dev.counted_wrote _ _ _ hm hw, ?_⟩
  generalize s.dev.counted s.now a x = e
  refine ⟨fun f o hx hf ho => ⟨fun hreq => ?_, fun hlo hi hbit => ?_, fun ho' hbit => ?_, fun ho' hbit => ?_⟩, fun hx => ?_, fun hlo hhi h0 => ?_,
    fun hx => Dev.writeAt_lock e s.now a hx, fun hlo hhi hl => ?_, fun hx => ?_⟩
  · -- the request area
    rw [Dev.writeAt_mbx e s.now a hx hf ho (by omega), Dev.writeMbx_request e s.now a f hreq]
    refine ⟨rfl, fun j hjf => by simp [hjf], by simp, fun h8 i => ?_⟩
    rw [Dev.fn_modFn, if_pos rfl, tlook_areaWrite o _ i h8]
  · rw [Dev.writeAt_mbx e s.now a hx hf ho hi, Dev.writeMbx_ignored e s.now f hlo hbit]
  · subst ho'
    rw [Dev.writeAt_mbx e s.now a hx hf ho (by decide), Dev.writeMbx_doorbell e s.now f hbit]
    exact completes_act _ rfl rfl
  · subst ho'
    rw [Dev.writeAt_mbx e s.now a hx hf ho (by decide), Dev.writeMbx_respAck e s.now f hbit]
    exact completes_act _ rfl rfl
  · -- RGM_SLOW_RETURN
    subst hx
    rw [Dev.writeAt_slowReturn]
    refine ⟨fun hop => ?_, fun hop => ?_, fun hop => ?_, fun hop => ?_⟩ <;> rw [hop] <;> exact completes_act _ rfl rfl
  · -- a check-value unit
    rw [Dev.writeAt_chk e s.now a hlo hhi h0]
    refine ⟨fun hm => ?_, fun hm => ⟨rfl, fun ho => ?_⟩⟩
    · rw [Dev.writeChk_stranger e s.now _ _ hm]
      exact ⟨Dev.inc_bit e s.now 13 _ 0 (by omega), Dev.inc_frame e s.now 13 _ 0⟩
    · rw [ho, Dev.writeChk_expect e s.now _ hm]
      exact ⟨by simp [Dev.chkUnit_modChk], rfl⟩
  · -- a core's port
    rw [Dev.writeAt_of_waits e s.now a (by unfold waitsAt; omega), if_pos hl]
  · -- everything else is staged
    have hl : writtenInputs a.master x (a.data.setWidth 32) = [] := by
      rcases hx with hx | hx | hx | ⟨hlo, hhi, hl⟩
      case inr.inr.inr => exact hl
      all_goals exact writtenInputs_eq_nil _ _ (by omega) (by omega) (by omega)
    exact Dev.writeAt_staged e s.now a (by unfold waitsAt; omega) hl (by omega) hslot

/-! A clear of incident bits at the boundary (R18). -/

/-- Every incident register stands at 0x40 of its block's range, but for MBX's in slot 0 and the seal engine's, which is left out. -/
theorem incAddr_place : ∀ b ≤ 20, b ≠ 12 → incAddr b = 0x10200C ∨ incAddr b % 0x100000 = 0x40 := by decide

theorem incBlock_incAddr : ∀ b ≤ 20, incBlock (incAddr b) = b := by decide

/-- No bit of an incident register is writable but by a clear (R17). -/
theorem regDef_incAddr_rw {b : Nat} {r : RegDef} (hb : b ≤ 20) (hr : regDef (incAddr b) = some r) : r.rw = 0#32 := by
  have h : ∀ b ≤ 20, (regDef (incAddr b)).all (fun r => r.rw == 0) = true := by decide
  have := h b hb
  rw [hr] at this
  simpa using this

/-- A write of an incident register lands as one of a plain register: no block keeps it for itself. -/
theorem Dev.writeLands_incAddr (d : Dev) (t : Nat) {b : Nat} {a : Access} (hb : b ≤ 20) (h12 : b ≠ 12) (ha : a.addr = incAddr b) :
    d.writeLands t a = d.writePlain t (incAddr b) (a.data.setWidth 32) := by
  have hx := incAddr_place b hb h12
  rw [← ha] at hx ⊢
  simp only [Dev.writeLands, Bool.and_eq_true, decide_eq_true_eq]
  rw [if_neg (by omega), if_neg (by omega), if_neg (by omega), if_neg (by omega), if_neg (by omega), if_neg (by omega), if_neg (by omega),
    if_neg (by omega)]

theorem sumN_append (l m : List Nat) : sumN (l ++ m) = sumN l + sumN m := by
  induction l with
  | nil => rw [List.nil_append, sumN, Nat.zero_add]
  | cons n l ih => rw [List.cons_append, sumN, sumN, ih, Nat.add_assoc]

/-- The number whose bits below `n` are those that `p` picks; `Dev.clearable` is built from it. -/
def bitsOf (p : Nat → Bool) (n : Nat) : Nat := sumN (((List.range n).filter p).map (fun i => 2 ^ i))

theorem bitsOf_succ (p : Nat → Bool) (n : Nat) : bitsOf p (n + 1) = (if p n then 2 ^ n else 0) + bitsOf p n := by
  unfold bitsOf
  rw [List.range_succ, List.filter_append, List.map_append, sumN_append, Nat.add_comm, List.filter_cons, List.filter_nil]
  cases p n <;> rfl

theorem bitsOf_lt (p : Nat → Bool) (n : Nat) : bitsOf p n < 2 ^ n := by
  induction n with
  | zero => exact Nat.zero_lt_one
  | succ n ih => rw [bitsOf_succ, Nat.pow_succ]; split <;> omega

theorem testBit_bitsOf (p : Nat → Bool) (n i : Nat) : (bitsOf p n).testBit i = (decide (i < n) && p i) := by
  induction n with
  | zero => exact Nat.zero_testBit i
  | succ n ih =>
    rcases Nat.lt_trichotomy i n with h | rfl | h
    · -- a lower bit is as before
      have hi : i < n + 1 := by omega
      have hp : (bitsOf p (n + 1)).testBit i = (bitsOf p n).testBit i := by
        rw [bitsOf_succ]
        split
        · exact Nat.testBit_two_pow_add_gt h _
        · rw [Nat.zero_add]
      rw [hp, ih, decide_eq_true h, decide_eq_true hi]
    · -- the new bit was 0
      have h0 : (bitsOf p i).testBit i = false := Nat.testBit_lt_two_pow (bitsOf_lt p i)
      rw [bitsOf_succ, decide_eq_true (Nat.lt_succ_self i), Bool.true_and]
      cases p i with
      | true => rw [if_pos rfl, Nat.testBit_two_pow_add_eq, h0]; rfl
      | false => rw [if_neg Bool.false_ne_true, Nat.zero_add, h0]
    · -- the number is too small for a higher bit
      have hi : ¬ i < n + 1 := by omega
      rw [decide_eq_false hi, Bool.false_and]
      exact Nat.testBit_lt_two_pow (Nat.lt_of_lt_of_le (bitsOf_lt p (n + 1)) (Nat.pow_le_pow_right (by decide) h))

/-- What a write clears, bit by bit. -/
theorem Dev.clearable_bit (d : Dev) (x : Nat) (r : RegDef) (v : Reg) {i : Nat} (hi : i < 32) : (d.clearable x r v).getLsbD i =
    (v.getLsbD i && r.w1c.getLsbD i && !d.glb.incSet.contains (x, i) && !d.glb.incSet.contains (x, i + 32)) := by
  have h : d.clearable x r v = BitVec.ofNat 32 (bitsOf
      (fun i => v.getLsbD i && r.w1c.getLsbD i && !d.glb.incSet.contains (x, i) && !d.glb.incSet.contains (x, i + 32)) 32) := rfl
  rw [h, BitVec.getLsbD_ofNat, testBit_bitsOf, decide_eq_true hi, Bool.true_and, Bool.true_and]

/-- A bit set again in the beat is logged anew, and fires F0's vector 1. -/
def Dev.logAgain (t x : Nat) (d : Dev) (i : Nat) : Dev := (d.logBit t x (incBlock x) i 0).fireMsi 0 1

@[simp] theorem Dev.logAgain_regs (t x : Nat) (d : Dev) (i : Nat) : (d.logAgain t x i).regs = d.regs := by simp [Dev.logAgain]

theorem Dev.logAgain_all_regs (t x : Nat) (l : List Nat) (d : Dev) : (l.foldl (Dev.logAgain t x) d).regs = d.regs := by
  induction l generalizing d with
  | nil => rfl
  | cons i l ih => rw [List.foldl_cons, ih, Dev.logAgain_regs]

/-- What waits for the log goes on waiting. -/
theorem Dev.mem_logQ_logAgain_all (t x : Nat) (l : List Nat) {d : Dev} {e : LogEnt} (h : e ∈ d.mgr.logQ) :
    e ∈ (l.foldl (Dev.logAgain t x) d).mgr.logQ := by
  induction l generalizing d with
  | nil => exact h
  | cons i l ih => exact ih (by simp [Dev.logAgain, Dev.logBit, h])

/-- Every listed bit gets an entry of its own. -/
theorem Dev.logAgain_all_logs (t x : Nat) {l : List Nat} (d : Dev) {i : Nat} (h : i ∈ l) :
    ∃ e ∈ (l.foldl (Dev.logAgain t x) d).mgr.logQ, e.block = incBlock x ∧ e.bit = i ∧ e.time = boundaryOf t := by
  induction l generalizing d with
  | nil => cases h
  | cons j l ih =>
    rcases List.mem_cons.mp h with rfl | h
    · exact ⟨_, Dev.mem_logQ_logAgain_all t x l (by simp [Dev.logAgain, Dev.logBit]; exact .inr rfl), rfl, rfl, rfl⟩
    · exact ih _ h

/-- A write of a register that has no RW field clears what it can, and logs what it cannot. -/
theorem Dev.writePlain_w1c (d : Dev) (t : Nat) {x : Nat} (v : Reg) {r : RegDef} (hr : regDef x = some r) (hrw : r.rw = 0#32) :
    d.writePlain t x v = ((d.relogged x r v).foldl (Dev.logAgain t x) d).putReg x (d.reg x &&& ~~~ d.clearable x r v) := by
  simp only [Dev.writePlain, hr, hrw, BitVec.zero_or, BitVec.and_zero, BitVec.or_zero]
  rfl

section
variable {d : Dev} {t b i : Nat} {a : Access} {r : RegDef} (hb : b ≤ 20) (h12 : b ≠ 12) (ha : a.addr = incAddr b) (hr : regDef (incAddr b) = some r)
include hb h12 ha hr

theorem Dev.writeLands_clears : d.writeLands t a = ((d.relogged (incAddr b) r (a.data.setWidth 32)).foldl (Dev.logAgain t (incAddr b)) d).putReg
    (incAddr b) (d.reg (incAddr b) &&& ~~~ d.clearable (incAddr b) r (a.data.setWidth 32)) := by
  rw [Dev.writeLands_incAddr d t hb h12 ha, Dev.writePlain_w1c d t _ hr (regDef_incAddr_rw hb hr)]

/-- An incident bit after a write of its register: as it was, less a clear that no setting in the beat has overtaken. -/
theorem Dev.writeLands_incident_bit (hi : i < 32) (hc : r.w1c.getLsbD i = true) : ((d.writeLands t a).reg (incAddr b)).getLsbD i =
    ((d.reg (incAddr b)).getLsbD i &&
      !(a.data.getLsbD i && !d.glb.incSet.contains (incAddr b, i) && !d.glb.incSet.contains (incAddr b, i + 32))) := by
  rw [Dev.writeLands_clears hb h12 ha hr, Dev.reg_putReg, if_pos rfl, BitVec.getLsbD_and, BitVec.getLsbD_not, Dev.clearable_bit _ _ _ _ hi,
    BitVec.getLsbD_setWidth, hc]
  simp [hi]

theorem Dev.writeLands_incident_others {j : Nat} (hj : j ≠ incAddr b) : (d.writeLands t a).reg j = d.reg j := by
  rw [Dev.writeLands_clears hb h12 ha hr, Dev.reg_putReg, if_neg hj]
  exact Dev.reg_congr (Dev.logAgain_all_regs _ _ _ _) j

/-- A bit that was set before the beat and set again in it is logged with the boundary's time (R18, R418). -/
theorem Dev.writeLands_incident_logs (hi : i < 32) (hc : r.w1c.getLsbD i = true) (hv : a.data.getLsbD i = true)
    (hs : d.glb.incSet.contains (incAddr b, i) = true) (hn : d.glb.incSet.contains (incAddr b, i + 32) = false) :
    ∃ e ∈ (d.writeLands t a).mgr.logQ, e.block = b ∧ e.bit = i ∧ e.time = boundaryOf t := by
  have hmem : i ∈ d.relogged (incAddr b) r (a.data.setWidth 32) := by
    simp only [Dev.relogged, List.mem_filter, List.mem_range, BitVec.getLsbD_setWidth, hi, hc, hv, hs, hn]
    decide
  obtain ⟨e, he, hblock, hbit, htime⟩ := Dev.logAgain_all_logs t (incAddr b) d hmem
  rw [incBlock_incAddr b hb] at hblock
  rw [Dev.writeLands_clears hb h12 ha hr, Dev.putReg_mgr]
  exact ⟨e, he, hblock, hbit, htime⟩

end

/-- Settles O58: each clause is the law of an incident bit under a write, for one case of the marks of the beat. -/
theorem aClearNeverLosesASetting : Obligations.AClearNeverLosesASetting := by
  unfold Obligations.AClearNeverLosesASetting
  intro d t b i a r hb h12 hi ha hr hc
  have hbit := Dev.writeLands_incident_bit (d := d) (t := t) hb h12 ha hr hi hc
  refine ⟨fun hv hs hn => ?_, fun hv hold hs hn => ⟨?_, ?_⟩, fun hv hold hn => ?_, fun hv => ?_, fun j hj => ?_⟩
  · rw [hbit, hv, hs, hn]; simp
  · rw [hbit, hold, hs]; simp
  · exact Dev.writeLands_incident_logs hb h12 ha hr hi hc hv hs hn
  · rw [hbit, hold, hn]; simp
  · rw [hbit, hv]; simp
  · exact Dev.writeLands_incident_others hb h12 ha hr hj

end Sys2Proof.Machine
end

section
/-! PROOFS. Mailbox slots and their commands: what a doorbell, a response and an acknowledgement do, and what becomes of a request that is turned away (O4, O56). -/
namespace Sys2Proof.Machine

/-! Incident bits of a slot. -/

/-- An incident bit of a slot changes the registers, the log, the interrupts and their counter alone. -/
theorem Dev.incMbx_frame (d : Dev) (t f k : Nat) : d.incMbx t f k =
    { d with regs := (d.incMbx t f k).regs, glb := (d.incMbx t f k).glb, counts := (d.incMbx t f k).counts, mgr := (d.incMbx t f k).mgr } := by
  apply Dev.eq_of_fields <;> simp

/-- A doorbell or a request that is lost, and the counter of those (R59). -/
def Dev.lost (d : Dev) (t f : Nat) : Dev := (d.incMbx t f 0).bump (2 + f) 3

theorem Dev.lost_bit (d : Dev) (t f : Nat) : ((d.lost t f).reg (0x10200C + f * 0x10000)).getLsbD 0 = true := by
  rw [Dev.lost, Dev.reg_bump]
  exact Dev.incMbx_bit d t f 0 (by omega)

theorem Dev.lost_reg (d : Dev) (t f : Nat) {j : Nat} (hj : j ≠ 0x10200C + f * 0x10000) : (d.lost t f).reg j = d.reg j := by
  rw [Dev.lost, Dev.reg_bump, Dev.incMbx_reg d t f 0 j hj]

theorem Dev.lost_frame (d : Dev) (t f : Nat) : d.lost t f =
    { d with regs := (d.lost t f).regs, glb := (d.lost t f).glb, counts := (d.lost t f).counts, mgr := (d.lost t f).mgr } := by
  apply Dev.eq_of_fields <;> simp [Dev.lost]

/-! The doorbell, the posting and the acknowledgement of a response (R56, R58). -/

theorem goDoorbell_lost {t f : Nat} {d : Dev} (h : (d.fn f).st ≠ .ready ∨ (d.fn f).reqBusy = true ∨ 32 ≤ (d.fn f).tags.length) :
    goDoorbell t f d = d.lost t f := by
  unfold goDoorbell
  exact if_pos (by simpa [or_assoc] using h)

theorem goDoorbell_taken {t f : Nat} {d : Dev} (hr : (d.fn f).st = .ready) (hb : (d.fn f).reqBusy = false) (hl : (d.fn f).tags.length < 32)
    (ho : d.mbxOpen = true) : goDoorbell t f d = d.modFn f (fun s => { s with reqBusy := true, rangAt := d.arrivals.length }) := by
  simp [goDoorbell, hr, hb, ho, Nat.not_le.mpr hl]

/-- The slot once its response `r` has entered the response area and `rest` waits on (R58). -/
def FnSlot.posted (s : FnSlot) (r : Resp) (rest : List Resp) : FnSlot :=
  { s with waiting := rest, respValid := true, respFinal := r.final, respTag := fld (wd r.words 0) 63 48, respArea := putWords s.respArea 0 r.words }

section
variable {f : Nat} {d : Dev} {r : Resp} {rest : List Resp} (hw : (d.fn f).waiting = r :: rest) (hv : (d.fn f).respValid = false)
include hw hv

/-- Posting is the change of the slot, then counters, then vector 0. -/
theorem goResponsePosted_eq : ∃ e : Dev, goResponsePosted f d = e.fireMsi f 0 ∧ e = { d.modFn f (fun s => s.posted r rest) with counts := e.counts } := by
  simp only [goResponsePosted, hw, hv, Bool.false_eq_true, if_false]
  refine ⟨_, rfl, ?_⟩
  split <;> split <;> rfl

theorem goResponsePosted_fns : (goResponsePosted f d).fns = (d.modFn f (fun s => s.posted r rest)).fns := by
  obtain ⟨e, hgo, he⟩ := goResponsePosted_eq hw hv
  rw [hgo, Dev.fireMsi_fns, he]

theorem goResponsePosted_frame : goResponsePosted f d =
    { d with fns := (goResponsePosted f d).fns, counts := (goResponsePosted f d).counts, glb := (goResponsePosted f d).glb } := by
  obtain ⟨e, hgo, he⟩ := goResponsePosted_eq hw hv
  rw [hgo]
  apply Dev.eq_of_fields <;> simp <;> rw [he] <;> simp

end

theorem goRespAck_staged {t f : Nat} {d : Dev} (hv : (d.fn f).respValid = true) :
    goRespAck t f d = d.modFn f (fun s => { s with ackStaged := true }) := by
  simp only [goRespAck, hv, if_true]

theorem goRespAck_stray {t f : Nat} {d : Dev} (hv : (d.fn f).respValid = false) : goRespAck t f d = d.incMbx t f 2 := by
  simp only [goRespAck, hv, Bool.false_eq_true, if_false]

/-! Taking a request (R59, R63). -/

/-- A request is lost of a function that is not READY or has 32 outstanding. -/
theorem Dev.mbx_lost {d : Dev} {f : Nat} (t : Nat) (sp : CmdSpec) (req : List Word) (h : Pend → Dev → Dev)
    (hf : (d.fn f).st ≠ .ready ∨ 32 ≤ (d.fn f).tags.length) : d.mbx t sp (.fn f) req h = d.lost t f := by
  unfold Dev.mbx
  exact if_pos (by simpa using hf)

/-- A request that no check of R63 refuses runs its handler. -/
theorem Dev.mbx_passed {d : Dev} {f : Nat} {req : List Word} (t : Nat) {sp : CmdSpec} (h : Pend → Dev → Dev)
    (hr : (d.fn f).st = .ready) (hl : (d.fn f).tags.length < 32)
    (hp : d.refusal sp (.fn f) req ((d.fn f).tags.contains (reqTag req)) = none) :
    d.mbx t sp (.fn f) req h = h ⟨.fn f, reqTag req, sp.op⟩ (d.taken f req) := by
  simp only [Dev.mbx, hr, Nat.not_le.mpr hl, hp, ne_eq, not_true_eq_false, decide_false, Bool.or_false, Bool.false_eq_true, if_false]
  rfl

/-- A request that is refused before its tag is looked at is answered, and nothing else happens. -/
theorem Dev.mbx_refused {d : Dev} {f : Nat} {req : List Word} (t : Nat) {sp : CmdSpec} {st : Status} (h : Pend → Dev → Dev)
    (hr : (d.fn f).st = .ready) (hl : (d.fn f).tags.length < 32) (hp : ∀ clash, d.refusal sp (.fn f) req clash = some st) (hb : st ≠ .busy) :
    d.mbx t sp (.fn f) req h = (d.taken f req).respond t ⟨.fn f, reqTag req, sp.op⟩ st [] := by
  simp only [Dev.mbx, hr, Nat.not_le.mpr hl, hp, ne_eq, not_true_eq_false, decide_false, Bool.or_false, Bool.false_eq_true, if_false,
    Option.isNone_some, Bool.and_false]
  rfl

/-- A response to a request just taken answers it, and changes the slots and the counters alone. -/
theorem Dev.taken_respond (d : Dev) (t f op : Nat) (req : List Word) (st : Status) (body : List Word) :
    Answered d ((d.taken f req).respond t ⟨.fn f, reqTag req, op⟩ st body) t f req op st body ∧
      (d.taken f req).respond t ⟨.fn f, reqTag req, op⟩ st body =
        { d with fns := ((d.taken f req).respond t ⟨.fn f, reqTag req, op⟩ st body).fns,
                 counts := ((d.taken f req).respond t ⟨.fn f, reqTag req, op⟩ st body).counts } := by
  refine ⟨Dev.answered_of rfl, ?_⟩
  rw [Dev.respond_fn_frame]
  rfl

/-- Before IF_VERSION every other command has WRONG_STATE (R63, step 2). -/
theorem Dev.refusal_unversioned {d : Dev} {sp : CmdSpec} {f : Nat} (req : List Word) (clash : Bool) (hv : (d.fn f).versionSeen = false) (ho : sp.op ≠ 1) :
    d.refusal sp (.fn f) req clash = some .wrongState := by
  simp [Dev.refusal, hv, ho]

/-- A command of F0 alone has NOT_PERMITTED from a virtual function (R63, step 3). -/
theorem Dev.refusal_f0Only {d : Dev} {sp : CmdSpec} {f : Nat} (req : List Word) (clash : Bool) (hv : (d.fn f).versionSeen = true)
    (hs : d.mgr.recovery = false) (ho : sp.f0Only = true) (hf : f ≠ 0) : d.refusal sp (.fn f) req clash = some .notPermitted := by
  simp [Dev.refusal, hv, hs, ho, hf, Master.isF0]

/-- The effect `g` takes the request `req` of function `f` through `Dev.mbx`, by the rows `sp` of its command. -/
def TakesRequest (f : Nat) (req : List Word) (sp : CmdSpec) (g : Nat → Dev → Dev) : Prop :=
  ∃ h : Nat → Pend → Dev → Dev, ∀ t d, g t d = d.mbx t sp (.fn f) req (h t)

theorem takesRequest_mbx {f : Nat} {req : List Word} {sp : CmdSpec} (h : Nat → Pend → Dev → Dev) :
    TakesRequest f req sp fun t d => d.mbx t sp (.fn f) req (h t) := ⟨h, fun _ _ => rfl⟩

theorem takesRequest_mbxNow {f : Nat} {req : List Word} {sp : CmdSpec} (h : Nat → Dev → Answer) :
    TakesRequest f req sp fun t d => d.mbxNow t sp (.fn f) req (h t) := by
  unfold Dev.mbxNow
  exact takesRequest_mbx _

theorem takesRequest_goImage {f : Nat} {req : List Word} {sp : CmdSpec} :
    TakesRequest f req sp fun t d => goImage t sp (.fn f) req d := by
  unfold goImage
  exact takesRequest_mbx _

/-- Every mailbox command takes its request through `Dev.mbx`, under the opcode and the issuers of its row of R64: a command that posts its own responses, one that works on the NOR, or one that answers at once. -/
theorem exec_mailboxForm {c : Instr} {f op : Nat} {req : List Word} (h : mailboxForm c = some (f, req, op)) :
    ∃ (sp : CmdSpec) (g : Nat → Dev → Dev), (∀ s, exec c s = .next (s.act g)) ∧ TakesRequest f req sp g ∧
      sp.op = op ∧ sp.f0Only = decide (op ∈ f0OnlyOps) := by
  cases c <;> cases h
  case feRadioCtrl | wcxKeyWrite | wcxKeyErase | sealLockOp | sealRun | gafStateSet =>
    exact ⟨_, _, fun _ => rfl, takesRequest_mbx _, rfl, rfl⟩
  case mgrImageBegin | mgrImageWrite | mgrImageCommit | mgrImageConfirm =>
    exact ⟨_, _, fun _ => rfl, takesRequest_goImage, rfl, rfl⟩
  all_goals exact ⟨_, _, fun _ => rfl, takesRequest_mbxNow _, rfl, rfl⟩

/-- Settles O56: every mailbox command goes through `Dev.mbx`, which judges the function first, then the version, then the issuer. -/
theorem mailboxRequestsTurnedAway : Obligations.MailboxRequestsTurnedAway := by
  unfold Obligations.MailboxRequestsTurnedAway
  intro c s f op req hc
  obtain ⟨sp, g, hx, ⟨h, hg⟩, rfl, hf0⟩ := exec_mailboxForm hc
  refine ⟨fun hf => ?_, fun hr hl => ⟨fun hv ho => ?_, fun hv hs hf ho => ?_⟩⟩
  · exact ⟨_, completes_act _ (hx s) ((hg _ _).trans (Dev.mbx_lost _ sp req _ hf)), Dev.lost_bit _ _ _, fun j hj => Dev.lost_reg _ _ _ hj, Dev.lost_frame _ _ _⟩
  · exact ⟨_, completes_act _ (hx s) ((hg _ _).trans (Dev.mbx_refused _ _ hr hl (fun b => Dev.refusal_unversioned req b hv ho) (by decide))),
      Dev.taken_respond _ _ _ _ _ _ _⟩
  · have hp : sp.f0Only = true := by rw [hf0]; exact decide_eq_true ho
    exact ⟨_, completes_act _ (hx s) ((hg _ _).trans (Dev.mbx_refused _ _ hr hl (fun b => Dev.refusal_f0Only req b hv hs hp hf) (by decide))),
      Dev.taken_respond _ _ _ _ _ _ _⟩

/-! IF_VERSION and unknown opcodes. -/

/-- IF_VERSION needs no version before it and is served while the host is held back (R63, R65). -/
theorem Dev.refusal_ifVersion {d : Dev} {f : Nat} {req : List Word} (hs : d.mgr.recovery = false) (hl : reqLen req = 1)
    (hr : resv (wd req 0) [(47, 42), (31, 12)] = false) : d.refusal (fixedSpec 0x001 false 1 []) (.fn f) req false = none := by
  simp [Dev.refusal, fixedSpec, hs, hl, hr]

/-- An accepted IF_VERSION lifts the version check, and answers the interface version and the tenant (R65). -/
theorem goIfVersion_passed {d : Dev} {t f : Nat} {req : List Word} (hr : (d.fn f).st = .ready) (hl : (d.fn f).tags.length < 32)
    (ht : (d.fn f).tags.contains (reqTag req) = false) (hs : d.mgr.recovery = false) (hn : reqLen req = 1)
    (hv : resv (wd req 0) [(47, 42), (31, 12)] = false) :
    goIfVersion t (.fn f) req d = ((d.taken f req).modFn f (fun s => { s with versionSeen := true })).respond t ⟨.fn f, reqTag req, 1⟩ .ok
      [packW [(3, 8, 0), (3, 8, 8), (2, 8, 16), (Config.fwPatch.toNat, 16, 24)], packW [(f, 4, 0)]] := by
  have hp : d.refusal (fixedSpec 0x001 false 1 []) (.fn f) req ((d.fn f).tags.contains (reqTag req)) = none := by
    rw [ht]; exact Dev.refusal_ifVersion hs hn hv
  rw [goIfVersion, Dev.mbxNow, Dev.mbx_passed t _ hr hl hp]
  simp [hs, Master.tenant, fixedSpec]

/-- An opcode that no chapter defines is answered BAD_OPCODE, and nothing else happens (R63, step 1). -/
theorem goBadOpcode_answered {d : Dev} {t f : Nat} {req : List Word} (hr : (d.fn f).st = .ready) (hl : (d.fn f).tags.length < 32) :
    goBadOpcode t (.fn f) req d = (d.taken f req).respond t ⟨.fn f, reqTag req, reqOp req⟩ .badOpcode [] := by
  simp only [goBadOpcode, hr, Nat.not_le.mpr hl, ne_eq, not_true_eq_false, decide_false, Bool.or_false, Bool.false_eq_true, if_false]
  rfl

/-- Settles O4, command by command: each clause is what the command's own lemma says of the slot. -/
theorem mailboxAndVersionCommandsComplete : Obligations.MailboxAndVersionCommandsComplete := by
  unfold Obligations.MailboxAndVersionCommandsComplete
  refine ⟨⟨fun s f hr hb hl ho => ?_, fun s f h => ?_, fun s f r rest hw hv => ?_, fun s f hv => ?_, fun s f hv => ?_⟩,
    fun s f req hr hl ht hs hn hv => ?_, fun s f req hr hl => ?_⟩
  · exact ⟨_, completes_act _ rfl (goDoorbell_taken hr hb hl ho), by rw [Dev.fn_modFn, if_pos rfl], fun j hj => by rw [Dev.fn_modFn, if_neg hj], rfl⟩
  · exact ⟨_, completes_act _ rfl (goDoorbell_lost h), Dev.lost_bit _ _ _, fun j hj => Dev.lost_reg _ _ _ hj, Dev.lost_frame _ _ _⟩
  · have hfn : ∀ j, (goResponsePosted f s.dev).fn j = if j = f then (s.dev.fn f).posted r rest else s.dev.fn j := fun j => by
      rw [Dev.fn_congr (goResponsePosted_fns hw hv) j, Dev.fn_modFn]
    refine ⟨_, completes_act _ rfl rfl, ?_, ?_, ?_, ?_, ?_, fun j hj => by rw [hfn, if_neg hj], goResponsePosted_frame hw hv⟩ <;>
      rw [hfn, if_pos rfl] <;> rfl
  · exact ⟨_, completes_act _ rfl (goRespAck_staged hv), by rw [Dev.fn_modFn, if_pos rfl], fun j hj => by rw [Dev.fn_modFn, if_neg hj], rfl⟩
  · exact ⟨_, completes_act _ rfl (goRespAck_stray hv), Dev.incMbx_bit _ _ _ _ (by omega), Dev.incMbx_frame _ _ _ _⟩
  · have htag : (((s.dev.taken f req).modFn f (fun s => { s with versionSeen := true })).fn f).tags.contains (reqTag req) = true := by
      simp [Dev.taken_fn]
    refine ⟨_, completes_act _ rfl ((goIfVersion_passed hr hl ht hs hn hv).trans (Dev.respond_fn htag)), ?_, ?_, ?_, fun j hj => ?_, rfl⟩
    · simp
    · simp [Dev.taken_fn]
    · simp [Dev.taken_fn, Status.code]
    · simp [Dev.taken_fn, hj]
  · exact ⟨_, completes_act _ rfl (goBadOpcode_answered hr hl), Dev.taken_respond _ _ _ _ _ _ _⟩

end Sys2Proof.Machine
end

section
/-! PROOFS. Properties: the commands that read, write and describe one instance (O5). -/
namespace Sys2Proof.Machine

/-- A command acts when no row of its condition table applies (R63, step 7). -/
theorem judged_none {d : Dev} {rows : List (Bool × Status)} (h : Dev → Answer) (hr : ∀ r ∈ rows, r.1 = false) : judged d rows h = h d := by
  have hn : firstOf rows = none := by
    induction rows with
    | nil => rfl
    | cons r rows ih =>
      rw [firstOf, hr r List.mem_cons_self]
      exact ih fun x hx => hr x (List.mem_cons_of_mem _ hx)
  rw [judged, hn]

/-! One item of a property command. -/

theorem propItems_one {req : List Word} (h : reqLen req = 2) : propItems req 1 = [wd req 1] := by
  simp [propItems, h]

theorem setPairs_one {req : List Word} (h : reqLen req = 3) : setPairs req = [(wd req 1, wd req 2)] := by
  simp [setPairs, h]

theorem pairKey_eq {w : Word} {p : PropDef} (who : Master) (hp : propDef (itemId w) = some p) : pairKey who w = itemKey p who w := by
  simp only [pairKey, hp]

/-- A property that is no reading, and no index of which is unsupported, gives the value most recently written (R70, R72). -/
theorem Dev.propRead_stored {d : Dev} {p : PropDef} (ten ix : Nat) (h : p.id ∉ [0x0010, 0x0011, 0x0012, 0x6110, 0x7011, 0xA010, 0xA011, 0x1040]) :
    d.propRead p ten ix = d.written (propKey p.id ten ix) := by
  simp only [List.mem_cons, List.not_mem_nil, or_false, not_or] at h
  obtain ⟨h1, h2, h3, h4, h5, h6, h7, h8⟩ := h
  simp [Dev.propRead, h1, h2, h3, h4, h5, h6, h7, h8]

theorem Dev.getItem_stored {d : Dev} {who : Master} {w : Word} {p : PropDef} (hp : propDef (itemId w) = some p) (hc : d.itemCheck who w none = .ok)
    (h : p.id ∉ [0x0010, 0x0011, 0x0012, 0x6110, 0x7011, 0xA010, 0xA011, 0x1040]) : d.getItem who w = (.ok, d.written (itemKey p who w)) := by
  simp only [Dev.getItem, hc, hp, Dev.propRead_stored _ _ h, itemKey]

/-- An item that passes R69's rules, that no other property constrains and that no higher input has written may be written (R69, R70, R72). -/
theorem Dev.setItem_ok {d : Dev} {who : Master} {ps : List (Word × Word)} {w v : Word} (hc : d.itemCheck who w (some v) = .ok)
    (hpair : pairOf (itemId w) = none) (hcl : d.claimed .prop (pairKey who w) = false) : d.setItem who ps (w, v) = .ok := by
  simp [Dev.setItem, hc, Dev.pairBroken, hpair, hcl]

/-! Writing one instance (R68, R70). -/

section
variable (d : Dev) (p : PropDef) (key : Nat) (v : Word)

/-- A written property that persists joins the settings to be flushed (R413); nothing else tells the two kinds of property apart. -/
theorem Dev.writeProp_eq : ∃ m : Mgr, d.writeProp p key v = { d with
    props := tput propReset d.props key v, propStaged := d.propStaged.filter (fun e => e.1 != key) ++ [(key, p.effect)]
    mgr := m, claims := (Resource.prop.code, key) :: d.claims } := by
  unfold Dev.writeProp
  split <;> exact ⟨_, rfl⟩

theorem Dev.writeProp_written (k : Nat) : (d.writeProp p key v).written k = if k = key then v else d.written k := by
  obtain ⟨m, h⟩ := d.writeProp_eq p key v
  rw [h]
  exact tlook_tput propReset d.props key v k

theorem Dev.writeProp_staged : (key, p.effect) ∈ (d.writeProp p key v).propStaged := by
  obtain ⟨m, h⟩ := d.writeProp_eq p key v
  rw [h]
  simp

/-- The value comes into force at the point of its EFFECT, not at the write. -/
theorem Dev.writeProp_frame : d.writeProp p key v = { d with
    props := (d.writeProp p key v).props, propStaged := (d.writeProp p key v).propStaged
    mgr := (d.writeProp p key v).mgr, claims := (d.writeProp p key v).claims } := by
  obtain ⟨m, h⟩ := d.writeProp_eq p key v
  rw [h]

end

/-- Settles O5: each request has one item, and the lemma of that item gives the answer. -/
theorem propertyCommandsComplete : Obligations.PropertyCommandsComplete := by
  unfold Obligations.PropertyCommandsComplete
  refine ⟨fun s f req p ha hp hc hid => ?_, fun s f req p ha hp hc hpair hcl => ?_, fun s f req p ha hp hw hix hten hacc => ?_⟩
  · obtain ⟨d, hx, hans, hd⟩ := completes_now (c := .propGet f req) (st := .ok) rfl rfl ha (by simp) (by simp) rfl
      (by simp only [propItems_one ha.length, List.map_cons, List.map_nil, Dev.getItem_stored (d := s.dev.taken f req) hp hc hid]; rfl) (by decide) rfl
    exact ⟨d, hx, hans, by rw [hd]; rfl⟩
  · have hitem : (s.dev.taken f req).setItem (.fn f) [(wd req 1, wd req 2)] (wd req 1, wd req 2) = .ok :=
      Dev.setItem_ok hc hpair (by rw [pairKey_eq _ hp]; exact hcl)
    have hset : List.foldl (Dev.applyPair (.fn f)) (s.dev.taken f req) [(wd req 1, wd req 2)] =
        (s.dev.taken f req).writeProp p (itemKey p (.fn f) (wd req 1)) (wd req 2) := by
      simp only [List.foldl_cons, List.foldl_nil, Dev.applyPair, hp]
    have hframe := (s.dev.taken f req).writeProp_frame p (itemKey p (.fn f) (wd req 1)) (wd req 2)
    obtain ⟨d, hx, hans, hd⟩ := completes_now (c := .propSet f req) (st := .ok) rfl rfl ha (by simp) (by simp) rfl
      (by simp only [setPairs_one ha.length, List.map_cons, List.map_nil, hitem, firstFailing, if_true, hset]; rfl) (by decide) (by rw [hframe])
    refine ⟨d, hx, hans, ?_, fun k hk => ?_, ?_, ?_, ?_⟩ <;> rw [hd]
    · exact ((s.dev.taken f req).writeProp_written p _ _ _).trans (if_pos rfl)
    · exact ((s.dev.taken f req).writeProp_written p _ _ _).trans (if_neg hk)
    · exact (s.dev.taken f req).writeProp_staged p _ _
    · rw [hframe]; rfl
    · rw [hframe]; rfl
  · have hrows : ∀ r ∈ [(itemIx (wd req 1) != 0 || itemTen (wd req 1) != 0, Status.badParam), (!(Master.fn f).isF0 && p.access == 3, .notPermitted)],
        r.1 = false := by
      rcases hacc with rfl | hacc
      · simp [hix, hten, Master.isF0]
      · simp [hix, hten, hacc]
    obtain ⟨d, hx, hans, hd⟩ := completes_now (c := .propDescribe f req) (st := .ok) rfl rfl ha (by simp [fixedSpec]) (by simp [fixedSpec])
      (by simp [fixedSpec, resv, hw]) (by simp only [hp]; exact judged_none _ hrows) (by decide) rfl
    exact ⟨d, hx, hans, by rw [hd]; rfl⟩

end Sys2Proof.Machine
end

section
/-! PROOFS. Function states and rings: what a ring's stop leaves alone, what the shutdown and the enable of one function do, and the same for a range of functions (O6). -/
namespace Sys2Proof.Machine

/-! The stop of a ring changes no function's slot (R309). -/

@[simp] theorem releaseStamps_fns (d : Dev) (g i : Nat) : (releaseStamps d g i).fns = d.fns := rfl
@[simp] theorem Dev.dropped_fns (d : Dev) (t f : Nat) : (d.dropped t f).fns = d.fns := rfl

@[simp] theorem Dev.fireRing_fns (d : Dev) (g : Nat) : (d.fireRing g).fns = d.fns := by
  unfold Dev.fireRing; dsimp only; split <;> simp

@[simp] theorem Dev.coalesce_fns (d : Dev) (g : Nat) : (d.coalesce g).fns = d.fns := by
  unfold Dev.coalesce; dsimp only; split <;> simp

@[simp] theorem Dev.postOne_fns (d : Dev) (g : Nat) : (d.postOne g).fns = d.fns := by
  unfold Dev.postOne; dsimp only; split
  · rfl
  · split <;> simp

theorem iterN_postOne_fns (d : Dev) (g n : Nat) : (Dev.postAll.iterN n (fun e => e.postOne g) d).fns = d.fns := by
  induction n generalizing d with
  | zero => rfl
  | succ n ih => rw [Dev.postAll.iterN, ih, Dev.postOne_fns]

@[simp] theorem Dev.postAll_fns (d : Dev) (g : Nat) : (d.postAll g).fns = d.fns := iterN_postOne_fns d g _

@[simp] theorem Dev.completeDesc_fns (d : Dev) (g : Nat) (x : Desc) (i : ComplInfo) : (d.completeDesc g x i).fns = d.fns := by
  unfold Dev.completeDesc; dsimp only; simp

@[simp] theorem Dev.finish_fns (d : Dev) (x : Option (Nat × Nat)) (i : ComplInfo) : (d.finish x i).fns = d.fns := by
  unfold Dev.finish; split
  · rfl
  · split <;> simp

@[simp] theorem Dev.dropAtRing_fns (d : Dev) (t o : Nat) (p : Pkt) : (d.dropAtRing t o p).fns = d.fns := by
  unfold Dev.dropAtRing; simp

/-- A fold whose every step keeps an observation keeps it. -/
theorem foldl_keeps {α β γ : Type} {op : α → β → α} {obs : α → γ} (h : ∀ a b, obs (op a b) = obs a) (l : List β) (a : α) :
    obs (l.foldl op a) = obs a := by
  induction l generalizing a with
  | nil => rfl
  | cons b l ih => rw [List.foldl_cons, ih, h]

@[simp] theorem Dev.noteDelay_fns (d : Dev) (q n : Nat) : (d.noteDelay q n).fns = d.fns := rfl

@[simp] theorem Dev.noteDelays_fns (d : Dev) (q : Nat) (l : List Pkt) : (d.noteDelays q l).fns = d.fns :=
  foldl_keeps (obs := Dev.fns) (fun _ _ => Dev.noteDelay_fns _ _ _) l d

@[simp] theorem Dev.noteFlush_fns (d : Dev) (g : Nat) : (d.noteFlush g).fns = d.fns := by
  unfold Dev.noteFlush
  dsimp only
  rw [foldl_keeps (obs := Dev.fns) (fun _ _ => Dev.noteDelay_fns _ _ _), foldl_keeps (obs := Dev.fns) (fun _ _ => Dev.noteDelays_fns _ _ _),
    foldl_keeps (obs := Dev.fns) (fun _ _ => Dev.noteDelays_fns _ _ _)]

@[simp] theorem forgetFrames_fns (d : Dev) (g : Nat) : (forgetFrames g d).fns = d.fns := Dev.noteFlush_fns d g

@[simp] theorem Dev.flushRing_fns (d : Dev) (t g : Nat) : (d.flushRing t g).fns = d.fns := by
  unfold Dev.flushRing
  dsimp only
  rw [foldl_keeps (obs := Dev.fns) (fun _ _ => Dev.dropAtRing_fns _ _ _ _), Dev.modRing_fns,
    foldl_keeps (obs := Dev.fns) (fun _ _ => Dev.completeDesc_fns _ _ _ _),
    foldl_keeps (obs := Dev.fns) (fun _ _ => Dev.completeDesc_fns _ _ _ _), forgetFrames_fns]

@[simp] theorem Dev.drainRing_fns (d : Dev) (t g : Nat) : (d.drainRing t g).fns = d.fns := by
  unfold Dev.drainRing; split <;> simp

/-! What a shutdown does to the slots (R53, R392). -/

/-- From `d` to `e` the slots change at most in the responses that wait, and only where a request is outstanding. -/
def OnlyAnswers (d e : Dev) : Prop :=
  ∀ j, ∃ w, e.fn j = { d.fn j with waiting := w } ∧ ((d.fn j).tags = [] → w = (d.fn j).waiting)

theorem onlyAnswers_of_fn {d e : Dev} (h : ∀ j, e.fn j = d.fn j) : OnlyAnswers d e := fun j => ⟨(d.fn j).waiting, h j, fun _ => rfl⟩

theorem OnlyAnswers.trans {d e a : Dev} (h : OnlyAnswers d e) (h' : OnlyAnswers e a) : OnlyAnswers d a := by
  intro j
  obtain ⟨w, hw, hnil⟩ := h j
  obtain ⟨w', hw', hnil'⟩ := h' j
  rw [hw] at hw' hnil'
  exact ⟨w', hw', fun ht => (hnil' ht).trans (hnil ht)⟩

/-- A response goes to a function that has its request outstanding, or to no function. -/
theorem Dev.respond_onlyAnswers (d : Dev) (t : Nat) (p : Pend) (st : Status) (body : List Word) : OnlyAnswers d (d.respond t p st body) := by
  obtain ⟨who, tag, op⟩ := p
  match who with
  | .fn f =>
    intro j
    by_cases ht : (d.fn f).tags.contains tag = true
    · rw [Dev.respond_fn ht, Dev.fn_modFn]
      by_cases hj : j = f
      · subst hj
        rw [if_pos rfl]
        exact ⟨_, rfl, fun hn => by simp [hn] at ht⟩
      · rw [if_neg hj]
        exact ⟨_, rfl, fun _ => rfl⟩
    · refine ⟨_, ?_, fun _ => rfl⟩
      simp only [Dev.respond, ht, Bool.false_eq_true, if_false]
  | .crew c =>
    refine onlyAnswers_of_fn fun j => Dev.fn_congr ?_ j
    unfold Dev.respond
    dsimp only
    split <;> exact Dev.backlotWords_fns ..
  | .mgmt | .dap | .device => exact onlyAnswers_of_fn fun _ => rfl

theorem Dev.sealForced_onlyAnswers (d : Dev) (t : Nat) : OnlyAnswers d (d.sealForced t) := by
  have h : OnlyAnswers d ((({ d with sealEng := {} } : Dev).inc t 12 1).bump 38 5) :=
    onlyAnswers_of_fn fun j => Dev.fn_congr (by simp) j
  unfold Dev.sealForced
  dsimp only
  split
  · exact h.trans (Dev.respond_onlyAnswers _ _ _ _ _)
  · exact h

/-- The slot of a function whose shutdown has begun: its requests are forgotten. -/
def FnSlot.shutDown (s : FnSlot) (k : ShutKind) (up : Nat) : FnSlot :=
  { s with tags := [], waiting := [], reqBusy := false, st := .shutdown, shut := k, shutStart := up }

/-- Beyond its function's slot a shutdown touches the slots only as the seal lock's owner is answered. -/
theorem Dev.beginShut_onlyAnswers (d : Dev) (t f : Nat) (k : ShutKind) :
    OnlyAnswers (d.modFn f (fun s => s.shutDown k d.glb.up)) (d.beginShut t f k) := by
  have hforget : ∀ j, (d.forgetRequests f).fn j = (d.modFn f (fun s => { s with tags := [], waiting := [], reqBusy := false })).fn j := fun _ => rfl
  unfold Dev.beginShut
  dsimp only
  generalize hd2 : (d.forgetRequests f).modFn f _ = d2
  have h2 : ∀ j, d2.fn j = (d.modFn f (fun s => s.shutDown k d.glb.up)).fn j := fun j => by
    rw [← hd2, Dev.fn_modFn, Dev.fn_modFn, hforget, hforget, Dev.fn_modFn, Dev.fn_modFn, if_pos rfl]
    by_cases hj : j = f
    · rw [if_pos hj, if_pos hj]; rfl
    · rw [if_neg hj, if_neg hj, if_neg hj]
  generalize hd3 : (if (d.fn f).reqBusy = true then (d2.incMbx t f 0).bump (2 + f) 3 else d2) = d3
  have h3 : OnlyAnswers d2 d3 := onlyAnswers_of_fn fun j => by
    rw [← hd3]
    split
    · rw [Dev.fn_bump, Dev.fn_incMbx]
    · rfl
  generalize hd4 : (if (d3.sealEng.held && d3.sealEng.owner == f) = true then d3.sealForced t else d3) = d4
  have h4 : OnlyAnswers d3 d4 := by
    rw [← hd4]
    split
    · exact d3.sealForced_onlyAnswers t
    · exact onlyAnswers_of_fn fun _ => rfl
  have h5 : OnlyAnswers d4 (List.foldl (Dev.drainRing t) d4 (d4.ringsOf f)) :=
    onlyAnswers_of_fn fun j => Dev.fn_congr (foldl_keeps (obs := Dev.fns) (fun _ _ => Dev.drainRing_fns _ _ _) _ _) j
  exact (onlyAnswers_of_fn h2).trans (h3.trans (h4.trans h5))

/-- The shutdown of a READY function (R53, R392). -/
theorem Dev.shutFn_ready {d : Dev} {f : Nat} (t : Nat) (k : ShutKind) (hr : (d.fn f).st = .ready) :
    (d.shutFn t f k).fn f = (d.fn f).shutDown k d.glb.up := by
  obtain ⟨w, hw, hnil⟩ := Dev.beginShut_onlyAnswers (d.modPcie f (fun _ => {})) t f k f
  have hslot : ((d.modPcie f (fun _ => {})).modFn f (fun s => s.shutDown k d.glb.up)).fn f = (d.fn f).shutDown k d.glb.up := by
    rw [Dev.fn_modFn, if_pos rfl]; rfl
  have hgo : d.shutFn t f k = (d.modPcie f (fun _ => {})).beginShut t f k := by
    simp only [Dev.shutFn, hr]
  have hup : (d.modPcie f (fun _ => {})).glb.up = d.glb.up := rfl
  rw [hup, hslot] at hw hnil
  rw [hgo, hw, hnil rfl]

/-- The shutdown of one function leaves every other's slot, but for a response that may come to wait. -/
theorem Dev.shutFn_others (d : Dev) (t : Nat) (k : ShutKind) {f j : Nat} (hj : j ≠ f) :
    ∃ w, (d.shutFn t f k).fn j = { d.fn j with waiting := w } := by
  have hkeep : ∀ g, ((d.modPcie f (fun _ => {})).modFn f g).fn j = d.fn j := fun g => by rw [Dev.fn_modFn, if_neg hj]; rfl
  cases hst : (d.fn f).st <;> simp only [Dev.shutFn, hst]
  case off => exact ⟨(d.fn j).waiting, rfl⟩
  case ready =>
    obtain ⟨w, hw, -⟩ := Dev.beginShut_onlyAnswers (d.modPcie f (fun _ => {})) t f k j
    exact ⟨w, by rw [hw, hkeep]⟩
  case shutdown =>
    split
    · exact ⟨(d.fn j).waiting, hkeep _⟩
    · exact ⟨(d.fn j).waiting, rfl⟩
  case enablePending =>
    split
    · exact ⟨(d.fn j).waiting, rfl⟩
    · split <;> exact ⟨(d.fn j).waiting, hkeep _⟩

/-! A range of functions, one after the other. -/

section
variable {α : Type} {op : α → Nat → α} {R : α → α → Prop} {j : Nat} (hrefl : ∀ a, R a a) (htrans : ∀ {a b c}, R a b → R b c → R a c)
  (hop : ∀ a i, j ≠ i → R a (op a i))
include hrefl htrans hop

/-- What every other number's step keeps is kept by a fold that does not meet `j`. -/
theorem foldl_apart {l : List Nat} (hj : j ∉ l) (a : α) : R a (l.foldl op a) := by
  induction l generalizing a with
  | nil => exact hrefl a
  | cons i l ih =>
    obtain ⟨hi, hl⟩ := not_or.mp (fun h => hj (List.mem_cons.mpr h))
    exact htrans (hop a i hi) (ih hl _)

/-- A fold that meets `j` once is the step of `j` between steps that keep what they keep. -/
theorem foldl_once {l : List Nat} (hn : l.Nodup) (hj : j ∈ l) (a : α) : ∃ b, R a b ∧ R (op b j) (l.foldl op a) := by
  induction l generalizing a with
  | nil => cases hj
  | cons i l ih =>
    obtain ⟨hi, hl⟩ := List.nodup_cons.mp hn
    by_cases hij : j = i
    · subst hij
      exact ⟨a, hrefl a, foldl_apart hrefl htrans hop hi _⟩
    · obtain ⟨b, hab, hb⟩ := ih hl ((List.mem_cons.mp hj).resolve_left hij) (op a i)
      exact ⟨b, htrans (hop a i hij) hab, hb⟩

end

/-- Two devices in which function `j`'s slot differs at most in the responses that wait. -/
def SameSlot (j : Nat) (d e : Dev) : Prop := ∃ w, e.fn j = { d.fn j with waiting := w }

theorem SameSlot.refl (j : Nat) (d : Dev) : SameSlot j d d := ⟨(d.fn j).waiting, rfl⟩

theorem SameSlot.trans {j : Nat} {d e a : Dev} (h : SameSlot j d e) (h' : SameSlot j e a) : SameSlot j d a := by
  obtain ⟨w, hw⟩ := h
  obtain ⟨w', hw'⟩ := h'
  exact ⟨w', by rw [hw', hw]⟩

theorem SameSlot.st {j : Nat} {d e : Dev} (h : SameSlot j d e) : (e.fn j).st = (d.fn j).st := by
  obtain ⟨w, hw⟩ := h
  rw [hw]

theorem SameSlot.shut {j : Nat} {d e : Dev} (h : SameSlot j d e) : (e.fn j).shut = (d.fn j).shut := by
  obtain ⟨w, hw⟩ := h
  rw [hw]

theorem SameSlot.tags {j : Nat} {d e : Dev} (h : SameSlot j d e) : (e.fn j).tags = (d.fn j).tags := by
  obtain ⟨w, hw⟩ := h
  rw [hw]

/-- The virtual functions that a condition picks, in the order in which an event takes them. -/
theorem mem_vfs {p : Nat → Bool} {f : Nat} : f ∈ ((List.range 15).map (· + 1)).filter p ↔ 1 ≤ f ∧ f ≤ 15 ∧ p f = true := by
  simp only [List.mem_filter, List.mem_map, List.mem_range]
  constructor
  · rintro ⟨⟨i, hi, rfl⟩, hp⟩
    exact ⟨by omega, by omega, hp⟩
  · rintro ⟨h1, h15, hp⟩
    exact ⟨⟨f - 1, by omega, by omega⟩, hp⟩

theorem nodup_vfs (p : Nat → Bool) : (((List.range 15).map (· + 1)).filter p).Nodup := List.Pairwise.filter p (by decide)

/-- A shutdown of several functions: each READY one among them is in SHUTDOWN, without a request. -/
theorem foldl_shutFn_ready {d : Dev} {t f : Nat} {k : ShutKind} {l : List Nat} (hn : l.Nodup) (hf : f ∈ l) (hr : (d.fn f).st = .ready) :
    ((l.foldl (fun e v => e.shutFn t v k) d).fn f).st = .shutdown ∧ ((l.foldl (fun e v => e.shutFn t v k) d).fn f).shut = k ∧
      ((l.foldl (fun e v => e.shutFn t v k) d).fn f).tags = [] := by
  obtain ⟨b, hb, he⟩ := foldl_once (R := SameSlot f) (SameSlot.refl f) SameSlot.trans (fun a i hi => a.shutFn_others t k hi) hn hf d
  have hslot := Dev.shutFn_ready t k (hb.st.trans hr)
  rw [he.st, he.shut, he.tags, hslot]
  exact ⟨rfl, rfl, rfl⟩

/-- It leaves the others alone. -/
theorem foldl_shutFn_others {t f : Nat} {k : ShutKind} {l : List Nat} (hf : f ∉ l) (d : Dev) : SameSlot f d (l.foldl (fun e v => e.shutFn t v k) d) :=
  foldl_apart (SameSlot.refl f) SameSlot.trans (fun a _ hi => a.shutFn_others t k hi) hf d

/-! The enable of functions (R392, R393). -/

theorem Dev.enableFn_off {d : Dev} {f : Nat} (h : (d.fn f).st = .off) :
    d.enableFn f = d.modFn f (fun _ => { st := .enablePending, enableStart := d.glb.up }) := by
  simp only [Dev.enableFn, h]

theorem Dev.enableFn_idle {d : Dev} {f : Nat} (h : (d.fn f).st = .ready ∨ (d.fn f).st = .enablePending) : d.enableFn f = d := by
  rcases h with h | h <;> simp only [Dev.enableFn, h]

/-- The enable of a function changes its slot at most. -/
theorem Dev.enableFn_eq (d : Dev) (f : Nat) : d.enableFn f = d ∨ ∃ g, d.enableFn f = d.modFn f g := by
  unfold Dev.enableFn
  split
  case h_1 => exact .inr ⟨_, rfl⟩
  case h_2 =>
    split
    · exact .inr ⟨_, rfl⟩
    · exact .inl rfl
  case h_3 => exact .inl rfl

theorem Dev.enableFn_others (d : Dev) {f j : Nat} (hj : j ≠ f) : (d.enableFn f).fn j = d.fn j := by
  rcases d.enableFn_eq f with h | ⟨g, h⟩
  · rw [h]
  · rw [h, Dev.fn_modFn, if_neg hj]

theorem foldl_enableFn_frame (l : List Nat) (d : Dev) : ∃ m, l.foldl Dev.enableFn d = { d with fns := m } := by
  induction l generalizing d with
  | nil => exact ⟨d.fns, rfl⟩
  | cons f l ih =>
    obtain ⟨m, hm⟩ := ih (d.enableFn f)
    rw [List.foldl_cons, hm]
    rcases d.enableFn_eq f with h | ⟨g, h⟩ <;> rw [h] <;> exact ⟨m, rfl⟩

section
variable {d : Dev} {f : Nat} {l : List Nat}

theorem foldl_enableFn_apart (hf : f ∉ l) (d : Dev) : (l.foldl Dev.enableFn d).fn f = d.fn f :=
  foldl_apart (op := Dev.enableFn) (R := fun a b => b.fn f = a.fn f) (fun _ => rfl) (fun h h' => h'.trans h) (fun a _ hi => a.enableFn_others hi) hf d

theorem foldl_enableFn_once (hn : l.Nodup) (hf : f ∈ l) (d : Dev) : ∃ b : Dev, b.fn f = d.fn f ∧ (l.foldl Dev.enableFn d).fn f = (b.enableFn f).fn f :=
  foldl_once (op := Dev.enableFn) (R := fun a b => b.fn f = a.fn f) (fun _ => rfl) (fun h h' => h'.trans h) (fun a _ hi => a.enableFn_others hi) hn hf d

theorem foldl_enableFn_off (hn : l.Nodup) (hf : f ∈ l) (h : (d.fn f).st = .off) : ((l.foldl Dev.enableFn d).fn f).st = .enablePending := by
  obtain ⟨b, hb, he⟩ := foldl_enableFn_once hn hf d
  rw [he, Dev.enableFn_off (by rw [hb]; exact h), Dev.fn_modFn, if_pos rfl]

theorem foldl_enableFn_idle (hn : l.Nodup) (hf : f ∈ l) (h : (d.fn f).st = .ready ∨ (d.fn f).st = .enablePending) :
    (l.foldl Dev.enableFn d).fn f = d.fn f := by
  obtain ⟨b, hb, he⟩ := foldl_enableFn_once hn hf d
  rw [he, Dev.enableFn_idle (by rw [hb]; exact h), hb]

end

/-! Rings that go back to F0 (R54, R310). -/

/-- A ring's return to F0. -/
def Dev.returnRing (d : Dev) (g : Nat) : Dev := dropStamps (d.modRing g (fun _ => ringReset g)) g

theorem Dev.returnRings_eq (d : Dev) (f : Nat) : d.returnRings f = (d.ringsOf f).foldl Dev.returnRing d := rfl

theorem mem_ringsOf {d : Dev} {f g : Nat} : g ∈ d.ringsOf f ↔ g < 128 ∧ (d.ring g).owner = f := by
  simp [Dev.ringsOf]

theorem nodup_ringsOf (d : Dev) (f : Nat) : (d.ringsOf f).Nodup := List.Pairwise.filter _ List.nodup_range

/-- The stamps of a ring leave every port's list (R274). -/
theorem dropStamps_port (d : Dev) (g p : Nat) : (dropStamps d g).port p = { d.port p with ts := (d.port p).ts.filter (fun x => x.1 != g) } :=
  tlook_tmap portReset (fun _ (y : Port) => { y with ts := y.ts.filter (fun x => x.1 != g) }) d.emac.port p rfl

theorem dropStamps_ring (d : Dev) (g j : Nat) : (dropStamps d g).ring j = d.ring j := rfl

theorem Dev.returnRing_ring (d : Dev) (g j : Nat) : (d.returnRing g).ring j = if j = g then ringReset g else d.ring j := by
  rw [Dev.returnRing, dropStamps_ring, Dev.ring_modRing]

theorem foldl_returnRing_frame (l : List Nat) (d : Dev) :
    ∃ m p, l.foldl Dev.returnRing d = { d with tm := m, emac := { d.emac with port := p } } := by
  induction l generalizing d with
  | nil => exact ⟨d.tm, d.emac.port, rfl⟩
  | cons g l ih =>
    obtain ⟨m, p, h⟩ := ih (d.returnRing g)
    exact ⟨m, p, h⟩

theorem foldl_returnRing_port (l : List Nat) (d : Dev) (p : Nat) :
    (l.foldl Dev.returnRing d).port p = { d.port p with ts := (d.port p).ts.filter (fun x => !l.contains x.1) } := by
  induction l generalizing d with
  | nil =>
    have hall : (d.port p).ts.filter (fun x => !([] : List Nat).contains x.1) = (d.port p).ts := List.filter_eq_self.mpr fun _ _ => rfl
    exact (congrArg (fun l => { d.port p with ts := l }) hall).symm
  | cons g l ih =>
    have hport : (d.returnRing g).port p = { d.port p with ts := (d.port p).ts.filter (fun x => x.1 != g) } :=
      dropStamps_port (d.modRing g (fun _ => ringReset g)) g p
    rw [List.foldl_cons, ih, hport]
    simp only [List.filter_filter, List.contains_cons, Bool.not_or, bne, Bool.and_comm]

theorem Dev.returnRings_ring_own {d : Dev} {f g : Nat} (hg : g < 128) (ho : (d.ring g).owner = f) : (d.returnRings f).ring g = ringReset g := by
  obtain ⟨b, -, he⟩ := foldl_once (op := Dev.returnRing) (R := fun a b => b.ring g = a.ring g) (fun _ => rfl) (fun h h' => h'.trans h)
    (fun a i hi => by rw [Dev.returnRing_ring, if_neg hi]) (nodup_ringsOf d f) (mem_ringsOf.mpr ⟨hg, ho⟩) d
  rw [Dev.returnRings_eq, he, Dev.returnRing_ring, if_pos rfl]

theorem Dev.returnRings_ring_others {d : Dev} {f g : Nat} (ho : (d.ring g).owner ≠ f) : (d.returnRings f).ring g = d.ring g :=
  foldl_apart (op := Dev.returnRing) (R := fun a b => b.ring g = a.ring g) (fun _ => rfl) (fun h h' => h'.trans h)
    (fun a i hi => by rw [Dev.returnRing_ring, if_neg hi]) (fun h => ho (mem_ringsOf.mp h).2) d

theorem Dev.returnRings_port (d : Dev) (f p : Nat) : (d.returnRings f).port p =
    { d.port p with ts := (d.port p).ts.filter (fun x => !(decide (x.1 < 128) && (d.ring x.1).owner == f)) } := by
  have hmem : ∀ g, (d.ringsOf f).contains g = (decide (g < 128) && (d.ring g).owner == f) := fun g => by
    rw [Bool.eq_iff_iff, List.contains_iff_mem, mem_ringsOf]; simp
  rw [Dev.returnRings_eq, foldl_returnRing_port]
  simp only [hmem]

/-! The events (R54, R389, R392, R393). -/

section
variable {d : Dev} (hs : d.gaf.state = .show') (hp : d.gaf.phase = .idle)
include hs hp

/-- In Show with no power entry under way a host's function event has its effect at once, and is no wake. -/
theorem Dev.hostEvent_show (f : Nat) (c : Instr) (act : Dev → Dev) : d.hostEvent f c act = act d := by
  simp [Dev.hostEvent, Dev.wake, hs, hp]

theorem goFunctionLevelReset_show (t : Nat) {f : Nat} (hf : f ≠ 0) : goFunctionLevelReset t f d = d.shutFn t f .reset := by
  rw [goFunctionLevelReset, Dev.hostEvent_show hs hp, Dev.flr, if_neg hf]

theorem goVfDisable_show (t n : Nat) : goVfDisable t n d =
    (((List.range 15).map (· + 1)).filter (fun f => decide (n < f))).foldl (fun e f => e.shutFn t f .disable) (d.setNumVfs n) := by
  rw [goVfDisable, Dev.hostEvent_show hs hp]

theorem goVfEnable_show (n : Nat) : goVfEnable n d =
    (((List.range 15).map (· + 1)).filter (fun f => decide (f ≤ n))).foldl Dev.enableFn (d.setNumVfs n) := by
  rw [goVfEnable, Dev.hostEvent_show hs hp]

end

theorem goShutdownEnd_reset {d : Dev} {f : Nat} (hk : (d.fn f).shut = .reset) (hd : d.drained f = true) :
    goShutdownEnd f d = d.modFn f (fun _ => { st := .ready }) := by
  simp [goShutdownEnd, hk, hd]

theorem goShutdownEnd_disable {d : Dev} {f : Nat} (hk : (d.fn f).shut = .disable) (ha : (d.fn f).enableAfter = false) (hd : d.drained f = true) :
    goShutdownEnd f d = (d.returnRings f).modFn f (fun _ => { st := .off }) := by
  simp [goShutdownEnd, hk, ha, hd]

theorem goEnableComplete_pending {d : Dev} {f : Nat} (h : (d.fn f).st = .enablePending) (hk : (d.fn f).shut = .none) :
    goEnableComplete f d = d.modFn f (fun _ => { st := .ready }) := by
  simp [goEnableComplete, h, hk]

/-! RING_ASSIGN (R66, R73). -/

/-- The device once ring `g` is function `f`'s, under local number `k`. -/
def Dev.assigned (d : Dev) (g f k : Nat) : Dev := dropStamps ((d.modRing g (fun _ => { owner := f, loc := k })).claim .ring g) g

theorem Dev.assigned_ring (d : Dev) (g f k j : Nat) : (d.assigned g f k).ring j = if j = g then { owner := f, loc := k } else d.ring j :=
  Dev.ring_modRing d g j _

theorem Dev.assigned_port (d : Dev) (g f k p : Nat) :
    (d.assigned g f k).port p = { d.port p with ts := (d.port p).ts.filter (fun x => x.1 != g) } :=
  dropStamps_port ((d.modRing g (fun _ => { owner := f, loc := k })).claim .ring g) g p

/-- The condition table of RING_ASSIGN. -/
def Dev.ringAssignRows (d : Dev) (g f k : Nat) : List (Bool × Status) :=
  [(!(d.ring g).stopped, .wrongState),
   (decide ((d.fn f).st ≠ .ready), .wrongState),
   (f != 0 && ((d.ringsOf f).filter (· != g)).any (fun r => (d.ring r).loc == k), .wrongState),
   (f != 0 && decide (32 ≤ ((d.ringsOf f).filter (· != g)).length), .noResource),
   (d.claimed .ring g, .busy)]

/-- No row applies to a stopped ring that goes to a READY function with room for it under a local number of its own. -/
theorem Dev.ringAssignRows_none {d : Dev} {g f k : Nat} (hst : (d.ring g).st = .stopped) (hr : (d.fn f).st = .ready) (hcl : d.claimed .ring g = false)
    (hown : f ≠ 0 → (∀ j, j < 128 → j ≠ g → (d.ring j).owner = f → (d.ring j).loc ≠ k) ∧ ((d.ringsOf f).filter (· != g)).length < 32) :
    ∀ r ∈ d.ringAssignRows g f k, r.1 = false := by
  have hloc : (f != 0 && ((d.ringsOf f).filter (· != g)).any (fun r => (d.ring r).loc == k)) = false := by
    by_cases hf : f = 0
    · simp [hf]
    · rw [Bool.and_eq_false_iff, List.any_eq_false]
      refine .inr fun j hj => ?_
      obtain ⟨hj, hjg⟩ := List.mem_filter.mp hj
      obtain ⟨hlt, ho⟩ := mem_ringsOf.mp hj
      simpa using (hown hf).1 j hlt (by simpa using hjg) ho
  have hroom : (f != 0 && decide (32 ≤ ((d.ringsOf f).filter (· != g)).length)) = false := by
    by_cases hf : f = 0
    · simp [hf]
    · rw [decide_eq_false (Nat.not_le.mpr (hown hf).2), Bool.and_false]
  simp only [Dev.ringAssignRows, hloc, hroom, hcl, List.forall_mem_cons]
  simp [Ring.stopped, hst, hr]

/-- Taking a request leaves every function's state as it is. -/
theorem Dev.taken_st (d : Dev) (f : Nat) (req : List Word) (j : Nat) : ((d.taken f req).fn j).st = (d.fn j).st := by
  rw [Dev.taken_fn]
  split
  case isTrue h => rw [h]
  case isFalse => rfl

/-- Settles O6: each event by its effect on one function, carried over the functions that it takes. -/
theorem functionsAndRingAssignmentComplete : Obligations.FunctionsAndRingAssignmentComplete := by
  unfold Obligations.FunctionsAndRingAssignmentComplete
  refine ⟨⟨fun s f hs hp hf hr => ?_, fun s n hs hp hn => ?_, fun s n hs hp hn => ?_, fun s f hk hd => ?_, fun s f hk ha hd => ?_, fun s f h hk => ?_⟩,
    fun s req g f k ha h1 h2 h3 hg hf hk hst hr hcl hown => ?_⟩
  · have hslot := Dev.shutFn_ready s.now .reset hr
    refine ⟨_, completes_act _ rfl (goFunctionLevelReset_show hs hp s.now hf), ?_, ?_, ?_, ?_, fun j hj => ?_⟩
    · rw [hslot]; rfl
    · rw [hslot]; rfl
    · rw [hslot]; rfl
    · rw [hslot]; rfl
    · have hsame : SameSlot j s.dev (s.dev.shutFn s.now f .reset) := s.dev.shutFn_others s.now .reset hj
      exact ⟨hsame.st, hsame.tags⟩
  · refine ⟨_, completes_act _ rfl (goVfDisable_show hs hp s.now n), fun f hlo hhi hr => ?_, fun f hf => ?_⟩
    · exact foldl_shutFn_ready (nodup_vfs _) (mem_vfs.mpr ⟨by omega, hhi, decide_eq_true hlo⟩) hr
    · have hmem : f ∉ ((List.range 15).map (· + 1)).filter (fun f => decide (n < f)) := fun h =>
        Nat.not_lt.mpr hf (of_decide_eq_true (mem_vfs.mp h).2.2)
      have hsame := foldl_shutFn_others (t := s.now) (k := .disable) hmem (s.dev.setNumVfs n)
      exact ⟨hsame.st, hsame.tags⟩
  · obtain ⟨m, hm⟩ := foldl_enableFn_frame (((List.range 15).map (· + 1)).filter (fun f => decide (f ≤ n))) (s.dev.setNumVfs n)
    refine ⟨_, completes_act _ rfl (goVfEnable_show hs hp n), fun f hlo hhi hst => ?_, fun f hf => ?_, ?_, ?_⟩
    · exact foldl_enableFn_off (nodup_vfs _) (mem_vfs.mpr ⟨hlo, by omega, decide_eq_true hhi⟩) hst
    · by_cases hmem : f ∈ ((List.range 15).map (· + 1)).filter (fun f => decide (f ≤ n))
      · obtain ⟨hlo, -, hhi⟩ := mem_vfs.mp hmem
        have hhi := of_decide_eq_true hhi
        exact foldl_enableFn_idle (d := s.dev.setNumVfs n) (nodup_vfs _) hmem ((hf.resolve_left (by omega)).resolve_left (by omega))
      · exact foldl_enableFn_apart hmem (s.dev.setNumVfs n)
    · rw [hm]; rfl
    · rw [hm]; rfl
  · exact ⟨_, completes_act _ rfl (goShutdownEnd_reset hk hd), by rw [Dev.fn_modFn, if_pos rfl], fun j hj => by rw [Dev.fn_modFn, if_neg hj], rfl⟩
  · have hframe : ∃ m p, s.dev.returnRings f = { s.dev with tm := m, emac := { s.dev.emac with port := p } } := foldl_returnRing_frame _ _
    refine ⟨_, completes_act _ rfl (goShutdownEnd_disable hk ha hd), by rw [Dev.fn_modFn, if_pos rfl], fun j hj => ?_,
      fun g hg ho => Dev.returnRings_ring_own hg ho, fun g ho => Dev.returnRings_ring_others ho, fun p => Dev.returnRings_port s.dev f p, ?_⟩
    · obtain ⟨m, p, h⟩ := hframe
      rw [Dev.fn_modFn, if_neg hj, h]; rfl
    · obtain ⟨m, p, h⟩ := hframe
      rw [h]; rfl
  · exact ⟨_, completes_act _ rfl (goEnableComplete_pending h hk), by rw [Dev.fn_modFn, if_pos rfl], fun j hj => by rw [Dev.fn_modFn, if_neg hj], rfl⟩
  · obtain ⟨d, hx, hans, hd⟩ := completes_now (c := .ringAssign 0 req) (st := .ok) (e := (s.dev.taken 0 req).assigned g f k) rfl rfl ha (fun _ => rfl)
      (by simp [fixedSpec]) (by simp [fixedSpec, resv, h1, h2, h3])
      (by subst hg hf hk; exact judged_none _ (Dev.ringAssignRows_none (d := s.dev.taken 0 req) hst ((s.dev.taken_st 0 req _).trans hr) hcl hown))
      (by decide) rfl
    refine ⟨d, hx, hans, ?_, fun j hj => ?_, fun p => ?_, ?_⟩ <;> rw [hd]
    · exact ((s.dev.taken 0 req).assigned_ring g f k g).trans (if_pos rfl)
    · exact ((s.dev.taken 0 req).assigned_ring g f k j).trans (if_neg hj)
    · exact (s.dev.taken 0 req).assigned_port g f k p
    · rfl

end Sys2Proof.Machine
end

section
/-! PROOFS. Sheets and picture lock: which slot a change reaches, and how the judgement of the radios, one after the other, keeps both limits (O22). -/
namespace Sys2Proof.Machine

/-! Slots (R77). -/

theorem slotNo_inj {q k r m : Nat} : slotNo q k = slotNo r m ↔ q = r ∧ k % 3 = m % 3 := by
  unfold slotNo; omega

/-- Sheets are read alike in devices whose slots agree. -/
theorem Dev.sheet_congr {d e : Dev} (h : e.pln.sheets = d.pln.sheets) (r tick : Nat) : e.sheet r tick = d.sheet r tick := by
  unfold Dev.sheet; rw [h]

@[simp] theorem Dev.sheet_bump (d : Dev) (b k n r tick : Nat) : (d.bump b k n).sheet r tick = d.sheet r tick := rfl

@[simp] theorem Dev.sheet_inc (d : Dev) (t b k x r tick : Nat) : (d.inc t b k x).sheet r tick = d.sheet r tick :=
  Dev.sheet_congr (by rw [Dev.inc_pln]) r tick

@[simp] theorem Dev.sheet_step (d : Dev) (id ten ix n r tick : Nat) : (d.step id ten ix n).sheet r tick = d.sheet r tick :=
  Dev.sheet_congr (by rw [Dev.step_pln]) r tick

/-- Ticks three apart share a slot. -/
theorem Dev.sheet_mod (d : Dev) (r : Nat) {k tick : Nat} (h : k % 3 = tick % 3) : d.sheet r k = d.sheet r tick := by
  unfold Dev.sheet; rw [slotNo_inj.mpr ⟨rfl, h⟩]

theorem Dev.sheet_modSheet (d : Dev) (r tick : Nat) (f : Sheet → Sheet) (q k : Nat) :
    (d.modSheet r tick f).sheet q k = if q = r ∧ k % 3 = tick % 3 then f (d.sheet r tick) else d.sheet q k := by
  unfold Dev.sheet Dev.modSheet
  rw [tlook_tmod]
  simp only [slotNo_inj]

theorem Dev.sheet_modSheet_same (d : Dev) (r tick : Nat) (f : Sheet → Sheet) : (d.modSheet r tick f).sheet r tick = f (d.sheet r tick) := by
  rw [Dev.sheet_modSheet, if_pos ⟨rfl, rfl⟩]

theorem Dev.sheet_modSheet_others (d : Dev) {r q : Nat} (tick : Nat) (f : Sheet → Sheet) (k : Nat) (h : q ≠ r) :
    (d.modSheet r tick f).sheet q k = d.sheet q k := by
  rw [Dev.sheet_modSheet, if_neg (fun hq => h hq.1)]

/-- One change for each of the first `n` radios, each in its own slot of a tick. -/
theorem foldl_modSheet_sheet (g : Nat → Sheet → Sheet) (d : Dev) (tick n r k : Nat) :
    ((List.range n).foldl (fun e q => e.modSheet q tick (g q)) d).sheet r k =
      if r < n ∧ k % 3 = tick % 3 then g r (d.sheet r tick) else d.sheet r k := by
  induction n generalizing k with
  | zero => simp
  | succ n ih =>
    rw [List.range_succ, List.foldl_append, List.foldl_cons, List.foldl_nil, Dev.sheet_modSheet]
    by_cases hr : r = n
    · subst hr
      simp [ih]
    · have hlt : r < n + 1 ↔ r < n := by omega
      simp [ih, hr, hlt]

/-! One radio's judgement (R86, R114). -/

/-- What the judgement of radio `r` leaves of the run: the planner has changed in its slots alone, no other radio's sheet has changed, and the radio's own went DARK, with the totals as they were, or was LOCKED and is in the totals, which both keep their limits. -/
structure LockRun.Judged (tick r : Nat) (x y : LockRun) : Prop where
  rest : y.dev.pln = { x.dev.pln with sheets := y.dev.pln.sheets }
  others : ∀ q k, q ≠ r → y.dev.sheet q k = x.dev.sheet q k
  outcome : ((y.dev.sheet r tick).state = .dark ∧ y.allocs = x.allocs ∧ y.cost = x.cost) ∨
    ((y.dev.sheet r tick).state = .locked ∧
      (y.allocs = x.allocs + (y.dev.sheet r tick).allocs ∧ y.allocs ≤ 1024) ∧
      (y.cost = x.cost + (y.dev.sheet r tick).costNj ∧ y.cost ≤ 1000 * x.dev.pln.budget))

/-- A radio goes dark from a device in which no more than its own slot has changed. -/
theorem LockRun.judged_darken {x : LockRun} {d : Dev} {r : Nat} (tick result reason : Nat)
    (hrest : d.pln = { x.dev.pln with sheets := d.pln.sheets }) (hothers : ∀ q k, q ≠ r → d.sheet q k = x.dev.sheet q k) :
    LockRun.Judged tick r x ({ x with dev := d }.darken r tick result reason) := by
  refine ⟨?_, fun q k hq => ?_, Or.inl ⟨?_, rfl, rfl⟩⟩
  · simp only [LockRun.darken, Dev.bump_pln, Dev.step_pln]
    rw [Dev.modSheet, hrest]
  · simp only [LockRun.darken, Dev.sheet_bump, Dev.sheet_step]
    rw [Dev.sheet_modSheet_others _ _ _ _ hq, hothers q k hq]
  · simp only [LockRun.darken, Dev.sheet_bump, Dev.sheet_step, Dev.sheet_modSheet_same]

/-- An incident bit changes nothing of the planner. -/
theorem LockRun.judged_darken_inc (x : LockRun) (t tick r b result reason : Nat) :
    LockRun.Judged tick r x ({ x with dev := x.dev.inc t 2 b }.darken r tick result reason) :=
  LockRun.judged_darken tick result reason (by rw [Dev.inc_pln]) (fun q k _ => Dev.sheet_inc _ _ _ _ _ q k)

theorem LockRun.judge_judged (t tick : Nat) (x : LockRun) (r : Nat) : LockRun.Judged tick r x (x.judge t tick r) := by
  unfold LockRun.judge
  dsimp only
  split
  case isTrue => exact LockRun.judged_darken tick 5 0 rfl (fun _ _ _ => rfl)
  split
  case isTrue => exact LockRun.judged_darken tick 4 0 rfl (fun _ _ _ => rfl)
  split
  case isTrue => exact LockRun.judged_darken_inc x t tick r r 2 0
  split
  case h_1 reason _ => exact LockRun.judged_darken_inc x t tick r 3 3 reason
  split
  case isTrue => exact LockRun.judged_darken_inc x t tick r 4 6 0
  split
  case isTrue =>
    exact LockRun.judged_darken tick 7 0 (by rw [Dev.inc_pln]; rfl)
      (fun q k hq => (Dev.sheet_inc _ _ _ _ _ q k).trans (Dev.sheet_modSheet_others _ tick _ k hq))
  case isFalse hallocs hcost =>
    refine ⟨by simp only [Dev.bump_pln]; rfl, fun q k hq => ?_, Or.inr ?_⟩
    · simp only [Dev.sheet_bump]
      exact Dev.sheet_modSheet_others _ tick _ k hq
    · simp only [Dev.sheet_bump, Dev.sheet_modSheet_same]
      exact ⟨trivial, ⟨rfl, Nat.le_of_not_lt hallocs⟩, ⟨rfl, Nat.le_of_not_lt hcost⟩⟩

/-! The radios, one after the other. -/

/-- A number of the sheets of a tick, summed over those of the first `n` radios that are LOCKED. -/
def Dev.lockedSum (d : Dev) (tick n : Nat) (f : Sheet → Nat) : Nat :=
  sumN ((List.range n).map (fun r => if (d.sheet r tick).state = .locked then f (d.sheet r tick) else 0))

theorem Dev.lockedSum_succ (d : Dev) (tick n : Nat) (f : Sheet → Nat) :
    d.lockedSum tick (n + 1) f = d.lockedSum tick n f + if (d.sheet n tick).state = .locked then f (d.sheet n tick) else 0 := by
  simp [Dev.lockedSum, List.range_succ, sumN_append, sumN]

theorem Dev.lockedSum_congr {d e : Dev} {tick n : Nat} (f : Sheet → Nat) (h : ∀ r, r < n → e.sheet r tick = d.sheet r tick) :
    e.lockedSum tick n f = d.lockedSum tick n f := by
  unfold Dev.lockedSum
  congr 1
  exact List.map_congr_left (fun r hr => by rw [h r (List.mem_range.mp hr)])

/-- A lock run that began in device `d` and has judged the first `n` radios: each of their sheets is settled, the totals are those of the locked ones, and keep the limits (R86). -/
structure LockRun.After (d : Dev) (tick n : Nat) (x : LockRun) : Prop where
  rest : x.dev.pln = { d.pln with sheets := x.dev.pln.sheets }
  settled : ∀ r, r < n → (x.dev.sheet r tick).state = .locked ∨ (x.dev.sheet r tick).state = .dark
  allocs : x.allocs = x.dev.lockedSum tick n (·.allocs)
  allocsMax : x.allocs ≤ 1024
  cost : x.cost = x.dev.lockedSum tick n (·.costNj)
  costMax : x.cost ≤ 1000 * d.pln.budget

theorem LockRun.after_none (d : Dev) (tick : Nat) : LockRun.After d tick 0 { dev := d } :=
  ⟨rfl, fun r hr => absurd hr (Nat.not_lt_zero r), rfl, Nat.zero_le _, rfl, Nat.zero_le _⟩

/-- The judgement of the next radio carries the run on. -/
theorem LockRun.After.succ {d : Dev} {tick n : Nat} {x y : LockRun} (h : LockRun.After d tick n x) (hj : LockRun.Judged tick n x y) :
    LockRun.After d tick (n + 1) y := by
  have hsum (f : Sheet → Nat) : y.dev.lockedSum tick n f = x.dev.lockedSum tick n f :=
    Dev.lockedSum_congr f (fun r hr => hj.others r tick (Nat.ne_of_lt hr))
  have hbudget : x.dev.pln.budget = d.pln.budget := by rw [h.rest]
  have hrest : y.dev.pln = { d.pln with sheets := y.dev.pln.sheets } := by rw [hj.rest, h.rest]
  have hsettled (hn : (y.dev.sheet n tick).state = .locked ∨ (y.dev.sheet n tick).state = .dark) (r : Nat) (hr : r < n + 1) :
      (y.dev.sheet r tick).state = .locked ∨ (y.dev.sheet r tick).state = .dark := by
    rcases Nat.lt_succ_iff_lt_or_eq.mp hr with hlt | rfl
    · rw [hj.others r tick (Nat.ne_of_lt hlt)]; exact h.settled r hlt
    · exact hn
  obtain ⟨hdark, hallocs, hcost⟩ | ⟨hlocked, ⟨hallocs, hamax⟩, ⟨hcost, hcmax⟩⟩ := hj.outcome
  · have hsame (f : Sheet → Nat) : y.dev.lockedSum tick (n + 1) f = x.dev.lockedSum tick n f := by
      simp [Dev.lockedSum_succ, hdark, hsum]
    exact ⟨hrest, hsettled (Or.inr hdark), by rw [hallocs, hsame, h.allocs], hallocs ▸ h.allocsMax, by rw [hcost, hsame, h.cost], hcost ▸ h.costMax⟩
  · have hmore (f : Sheet → Nat) : y.dev.lockedSum tick (n + 1) f = x.dev.lockedSum tick n f + f (y.dev.sheet n tick) := by
      rw [Dev.lockedSum_succ, if_pos hlocked, hsum]
    exact ⟨hrest, hsettled (Or.inl hlocked), by rw [hallocs, hmore, h.allocs], hamax, by rw [hcost, hmore, h.cost], hbudget ▸ hcmax⟩

theorem LockRun.foldl_judge_after (t : Nat) (d : Dev) (tick n : Nat) :
    LockRun.After d tick n ((List.range n).foldl (LockRun.judge t tick) { dev := d }) := by
  induction n with
  | zero => exact LockRun.after_none d tick
  | succ n ih =>
    rw [List.range_succ, List.foldl_append]
    exact ih.succ (LockRun.judge_judged t tick _ n)

/-! What follows the judgement: the weights, and a shedding that waited for the lock. -/

theorem Dev.weighTake_pln (d : Dev) (t r tick k : Nat) : (d.weighTake t r tick k).pln = d.pln := by
  unfold Dev.weighTake
  dsimp only
  rw [apply_ite Dev.pln, Dev.inc_pln, Dev.bump_pln]
  exact ite_self _

theorem Dev.weigh_pln (d : Dev) (t tick : Nat) : (d.weigh t tick).pln = d.pln := by
  refine foldl_keeps (obs := Dev.pln) (fun e r => ?_) _ _
  dsimp only
  split
  · exact foldl_keeps (obs := Dev.pln) (fun e k => e.weighTake_pln t r tick k) _ _
  · rfl

/-- A take of a tick that is yet to come is only noted as shed (R99). -/
theorem Dev.shedTake_ahead (d : Dev) {t tick : Nat} (r k : Nat) (h : tick ≠ tickOf t) :
    ∃ shed, (d.shedTake t r tick k).pln = { d.pln with shed := shed } := by
  unfold Dev.shedTake
  dsimp only
  split
  · exact ⟨d.pln.shed, rfl⟩
  · rw [if_pos (by simp [h]), Dev.step_pln]
    exact ⟨_, rfl⟩

theorem Dev.shedTick_ahead (d : Dev) {t tick : Nat} (budget : Nat) (h : tick ≠ tickOf t) :
    ∃ shed, (d.shedTick t tick budget).pln = { d.pln with shed := shed } := by
  unfold Dev.shedTick
  refine List.foldlRecOn (motive := fun e : Dev => ∃ shed, e.pln = { d.pln with shed := shed }) _ _ ⟨d.pln.shed, rfl⟩ (fun e he x _ => ?_)
  obtain ⟨shed, he⟩ := he
  obtain ⟨more, hmore⟩ := Dev.shedTake_ahead e x.1 x.2 h
  split
  · exact ⟨more, by rw [Dev.bump_pln, hmore, he]⟩
  · exact ⟨shed, he⟩

/-- PICTURE_LOCK leaves the planner as the judgement of the three radios does, with the last lock's record, the held revision published and the takes shed (R104, R114, R380). -/
theorem goPictureLock_pln (t : Nat) (d : Dev) : ∃ x : LockRun, LockRun.After d (tickOf t + 1) 3 x ∧ ∃ status shed,
    (goPictureLock t d).pln = { x.dev.pln with
      lockCost := x.cost, lockTick := (tickOf t + 1) % 2 ^ 48, lockStatus := status, shed := shed
      budget := d.pln.heldRevision.getD d.pln.budget, heldRevision := none } := by
  have hafter := LockRun.foldl_judge_after t d (tickOf t + 1) 3
  refine ⟨_, hafter, ?_⟩
  have hheld := congrArg Pln.heldRevision hafter.rest
  have hbudget := congrArg Pln.budget hafter.rest
  unfold goPictureLock
  dsimp only
  rw [hheld, hbudget]
  split
  · exact ⟨_, _, Dev.weigh_pln _ _ _⟩
  · obtain ⟨shed, hshed⟩ := Dev.shedTick_ahead _ _ (Nat.succ_ne_self (tickOf t))
    exact ⟨_, shed, by rw [hshed, Dev.weigh_pln]⟩

/-- Settles O22: the run of the three judgements settles every sheet within both limits, and what follows it leaves the sheets alone. -/
theorem pictureLockBoundsAndCompletes : Obligations.PictureLockBoundsAndCompletes := by
  unfold Obligations.PictureLockBoundsAndCompletes
  intro s
  obtain ⟨x, hx, status, shed, hpln⟩ := goPictureLock_pln s.now s.dev
  have hsheet (r : Nat) : (goPictureLock s.now s.dev).sheet r (tickOf s.now + 1) = x.dev.sheet r (tickOf s.now + 1) :=
    Dev.sheet_congr (by rw [hpln]) r _
  have hsum (f : Sheet → Nat) : (goPictureLock s.now s.dev).lockedSum (tickOf s.now + 1) 3 f = x.dev.lockedSum (tickOf s.now + 1) 3 f :=
    Dev.lockedSum_congr f (fun r _ => hsheet r)
  refine ⟨_, completes_act _ rfl rfl, fun r hr => ?_, ?_, ?_, by rw [hpln], by rw [hpln], by rw [hpln]⟩
  · rw [hsheet]; exact hx.settled r hr
  · exact Nat.le_trans (Nat.le_of_eq ((hsum (·.allocs)).trans hx.allocs.symm)) hx.allocsMax
  · exact Nat.le_trans (Nat.le_of_eq ((hsum (·.costNj)).trans hx.cost.symm)) hx.costMax

end Sys2Proof.Machine
end

section
/-! PROOFS. Drafts and the final pass: what the opening of a tick's draft keeps of the plan, what firmware drafts may change of a sheet, and how the final pass leaves each one (O21). -/
namespace Sys2Proof.Machine

/-! The plan: what the play of takes leaves as it is. -/

/-- The budget, Big Top and the sheets. -/
def Dev.plan (d : Dev) : Nat × Bt × Table Sheet := (d.pln.budget, d.bt, d.pln.sheets)

/-- The budget, Big Top and every sheet's state. -/
def Dev.standing (d : Dev) : Nat × Bt × (Nat → Nat → SheetState) := (d.pln.budget, d.bt, fun r k => (d.sheet r k).state)

theorem Dev.plan_congr {d e : Dev} (hp : e.pln = d.pln) (hb : e.bt = d.bt) : e.plan = d.plan := by
  unfold Dev.plan; rw [hp, hb]

section
variable {d e : Dev}

theorem Dev.budget_of_plan (h : e.plan = d.plan) : e.pln.budget = d.pln.budget := congrArg Prod.fst h

theorem Dev.bt_of_plan (h : e.plan = d.plan) : e.bt = d.bt := congrArg (fun p => p.2.1) h

theorem Dev.sheet_of_plan (h : e.plan = d.plan) (r k : Nat) : e.sheet r k = d.sheet r k :=
  Dev.sheet_congr (congrArg (fun p => p.2.2) h) r k

theorem Dev.budget_of_standing (h : e.standing = d.standing) : e.pln.budget = d.pln.budget := congrArg Prod.fst h

theorem Dev.bt_of_standing (h : e.standing = d.standing) : e.bt = d.bt := congrArg (fun p => p.2.1) h

theorem Dev.state_of_standing (h : e.standing = d.standing) (r k : Nat) : (e.sheet r k).state = (d.sheet r k).state :=
  congrArg (fun p => p.2.2 r k) h

theorem Dev.standing_of_plan (h : e.plan = d.plan) : e.standing = d.standing := by
  unfold Dev.standing
  simp only [Dev.budget_of_plan h, Dev.bt_of_plan h, Dev.sheet_of_plan h]

end

@[simp] theorem Dev.plan_bump (d : Dev) (b k n : Nat) : (d.bump b k n).plan = d.plan := rfl
@[simp] theorem Dev.plan_step (d : Dev) (id ten ix n : Nat) : (d.step id ten ix n).plan = d.plan := Dev.plan_congr (by simp) (by simp)
@[simp] theorem Dev.plan_drew (d : Dev) : d.drew.plan = d.plan := rfl
@[simp] theorem Dev.plan_handoff (d : Dev) (t : Nat) (k : HandoffKind) (i : Nat) : (d.handoff t k i).plan = d.plan := rfl
@[simp] theorem Dev.plan_modPlay (d : Dev) (r : Nat) (f : Play → Play) : (d.modPlay r f).plan = d.plan := rfl
@[simp] theorem Dev.plan_modRx (d : Dev) (r : Nat) (f : Rx → Rx) : (d.modRx r f).plan = d.plan := rfl
@[simp] theorem Dev.plan_modCall (d : Dev) (sid : Nat) (f : CallSheet → CallSheet) : (d.modCall sid f).plan = d.plan := rfl
@[simp] theorem Dev.plan_logTake (d : Dev) (x : TakeLogRec) : (d.logTake x).plan = d.plan := rfl
@[simp] theorem Dev.plan_inc (d : Dev) (t b k x : Nat) : (d.inc t b k x).plan = d.plan := Dev.plan_congr (by simp) (by simp)

@[simp] theorem Dev.plan_cutAir (d : Dev) (t r : Nat) : (d.cutAir t r).plan = d.plan := by
  unfold Dev.cutAir; split <;> rfl

@[simp] theorem Dev.plan_setFem (d : Dev) (c : Nat) (pa lna byp : Bool) (port : Nat) : (d.setFem c pa lna byp port).plan = d.plan := by
  unfold Dev.setFem; split <;> rfl

@[simp] theorem Dev.plan_femChain (d : Dev) (t c : Nat) : (d.femChain t c).plan = d.plan := by
  unfold Dev.femChain
  dsimp only
  split
  · simp
  · split
    · simp
    · split <;> simp

@[simp] theorem Dev.plan_femSettle (d : Dev) (t r : Nat) : (d.femSettle t r).plan = d.plan :=
  foldl_keeps (obs := Dev.plan) (fun e c => e.plan_femChain t c) _ _

@[simp] theorem Dev.plan_countMissed (d : Dev) (l : List CastEntry) : (d.countMissed l).plan = d.plan :=
  foldl_keeps (obs := Dev.plan) (fun e (x : CastEntry) => e.plan_modCall x.sid _) _ _

@[simp] theorem Dev.plan_shedRecord (d : Dev) (t r tick k b : Nat) : (d.shedRecord t r tick k b).plan = d.plan := by
  simp [Dev.shedRecord]

@[simp] theorem Dev.plan_endTake (d : Dev) (t r k b : Nat) : (d.endTake t r k b).plan = d.plan := by
  unfold Dev.endTake
  dsimp only
  split <;> simp

@[simp] theorem Dev.plan_takeDone (d : Dev) (t r k code sent abandoned served startBeat b : Nat) :
    (d.takeDone t r k code sent abandoned served startBeat b).plan = d.plan := by
  simp [Dev.takeDone]

@[simp] theorem Dev.plan_countSkips (d : Dev) (r n : Nat) : (d.countSkips r n).plan = d.plan := by
  unfold Dev.countSkips; split <;> rfl

@[simp] theorem Dev.plan_declareMissed (d : Dev) (t r : Nat) (s : Sheet) (k : Nat) : (d.declareMissed t r s k).plan = d.plan := by
  simp [Dev.declareMissed]

@[simp] theorem Dev.plan_declareUnlocked (d : Dev) (t r : Nat) (s : Sheet) (k : Nat) : (d.declareUnlocked t r s k).plan = d.plan := by
  simp [Dev.declareUnlocked]

/-! The play of takes keeps the standing: VOID marks are all that it writes into a sheet (R97). -/

/-- A change that keeps a sheet's state. -/
theorem Dev.standing_modSheet (d : Dev) (r tick : Nat) {f : Sheet → Sheet} (h : (f (d.sheet r tick)).state = (d.sheet r tick).state) :
    (d.modSheet r tick f).standing = d.standing := by
  have hstate (q k : Nat) : ((d.modSheet r tick f).sheet q k).state = (d.sheet q k).state := by
    rw [Dev.sheet_modSheet]
    split
    case isTrue hq => rw [h, hq.1, Dev.sheet_mod d r hq.2]
    case isFalse => rfl
  unfold Dev.standing
  simp only [hstate]
  rfl

theorem Dev.standing_markVoid (d : Dev) (r tick k : Nat) : (d.markVoid r tick k).standing = d.standing :=
  Dev.standing_modSheet d r tick rfl

theorem Dev.standing_contend (d : Dev) (t r : Nat) (s : Sheet) (k : Nat) : (d.contend t r s k).standing = d.standing := by
  unfold Dev.contend
  dsimp only
  split <;> exact (Dev.standing_of_plan (by simp)).trans (Dev.standing_markVoid d r (tickOf t) k)

theorem Dev.standing_nextTake (t r n : Nat) (d : Dev) : (Dev.nextTake t r n d).standing = d.standing := by
  induction n generalizing d with
  | zero => rfl
  | succ n ih =>
    unfold Dev.nextTake
    split
    case h_1 => rfl
    case h_2 s k _ =>
      split
      case isTrue => rfl
      split
      case isTrue =>
        rw [ih]
        exact Dev.standing_of_plan (by split <;> simp)
      split
      case isTrue => rw [ih, Dev.standing_contend]
      case isFalse => rfl

/-! The opening of a tick (R76, R77). -/

/-- A locked sheet of the tick plays, and nothing else of the plan changes. -/
theorem Dev.openPlay_locked {d : Dev} {t r : Nat} (hs : (d.sheet r (tickOf t)).state = .locked) (ht : (d.sheet r (tickOf t)).tick = tickOf t) :
    (d.openPlay t r).plan = (d.modSheet r (tickOf t) (fun s => { s with state := .playing })).plan := by
  unfold Dev.openPlay
  dsimp only
  rw [if_pos (by simpa using ⟨hs, ht⟩)]
  exact foldl_keeps (obs := Dev.plan) (fun e (x : Nat × Nat × Nat) => e.plan_shedRecord t r (tickOf t) x.2.2 0) _ _

theorem Dev.openPlay_unlocked {d : Dev} {t r : Nat} (h : ¬ ((d.sheet r (tickOf t)).state = .locked ∧ (d.sheet r (tickOf t)).tick = tickOf t)) :
    (d.openPlay t r).plan = d.plan := by
  unfold Dev.openPlay
  dsimp only
  split
  case isTrue hc =>
    rw [Bool.and_eq_true, decide_eq_true_eq, beq_iff_eq] at hc
    exact absurd hc h
  case isFalse => rfl

/-- The start of radio `r`'s play keeps the budget, Big Top and the other radios' sheets. -/
structure PlayOpened (r : Nat) (d e : Dev) : Prop where
  budget : e.pln.budget = d.pln.budget
  bt : e.bt = d.bt
  others : ∀ q k, q ≠ r → e.sheet q k = d.sheet q k

theorem Dev.openPlay_opened (d : Dev) (t r : Nat) : PlayOpened r d (d.openPlay t r) := by
  by_cases h : (d.sheet r (tickOf t)).state = .locked ∧ (d.sheet r (tickOf t)).tick = tickOf t
  · have hplan := Dev.openPlay_locked h.1 h.2
    exact ⟨(Dev.budget_of_plan hplan).trans rfl, (Dev.bt_of_plan hplan).trans rfl,
      fun q k hq => (Dev.sheet_of_plan hplan q k).trans (Dev.sheet_modSheet_others d _ _ k hq)⟩
  · have hplan := Dev.openPlay_unlocked h
    exact ⟨Dev.budget_of_plan hplan, Dev.bt_of_plan hplan, fun q k _ => Dev.sheet_of_plan hplan q k⟩

/-- The play of the three radios starts. -/
def Dev.openPlays (d : Dev) (t : Nat) : Dev := (List.range 3).foldl (fun e r => e.openPlay t r) d

theorem Dev.openPlays_budget (d : Dev) (t : Nat) : (d.openPlays t).pln.budget = d.pln.budget :=
  foldl_keeps (obs := fun e : Dev => e.pln.budget) (fun e r => (e.openPlay_opened t r).budget) _ _

theorem Dev.openPlays_bt (d : Dev) (t : Nat) : (d.openPlays t).bt = d.bt :=
  foldl_keeps (obs := Dev.bt) (fun e r => (e.openPlay_opened t r).bt) _ _

theorem Dev.openPlays_playing {d : Dev} {t r : Nat} (hr : r < 3) (hs : (d.sheet r (tickOf t)).state = .locked)
    (ht : (d.sheet r (tickOf t)).tick = tickOf t) : ((d.openPlays t).sheet r (tickOf t)).state = .playing := by
  obtain ⟨b, hb, hlast⟩ := foldl_once (R := fun e e' : Dev => e'.sheet r (tickOf t) = e.sheet r (tickOf t)) (fun _ => rfl)
    (fun h h' => h'.trans h) (fun e q hq => (e.openPlay_opened t q).others r _ hq) List.nodup_range (List.mem_range.mpr hr) d
  have hplan := Dev.openPlay_locked (d := b) (t := t) (by rw [hb]; exact hs) (by rw [hb]; exact ht)
  unfold Dev.openPlays
  rw [hlast, Dev.sheet_of_plan hplan, Dev.sheet_modSheet_same]

/-- The opening of a tick is the start of its play, and what follows keeps the standing. -/
theorem Dev.openTick_standing (d : Dev) (t : Nat) : (d.openTick t).standing = (d.openPlays t).standing := by
  have hnext := foldl_keeps (obs := Dev.standing) (fun e r => Dev.standing_nextTake t r 16 e) (List.range 3) (d.openPlays t)
  unfold Dev.openTick
  dsimp only
  rw [← hnext]
  unfold Dev.openPlays
  generalize List.foldl (fun e r => Dev.nextTake t r 16 e) _ _ = e
  split <;> exact Dev.standing_of_plan rfl

theorem Dev.openTick_budget (d : Dev) (t : Nat) : (d.openTick t).pln.budget = d.pln.budget :=
  (Dev.budget_of_standing (d.openTick_standing t)).trans (d.openPlays_budget t)

theorem Dev.openTick_bt (d : Dev) (t : Nat) : (d.openTick t).bt = d.bt :=
  (Dev.bt_of_standing (d.openTick_standing t)).trans (d.openPlays_bt t)

theorem Dev.coordinatingFor_congr {d e : Dev} (h : e.bt = d.bt) (tick : Nat) : e.coordinatingFor tick = d.coordinatingFor tick := by
  unfold Dev.coordinatingFor Dev.coordinating; rw [h]

/-- The empty draft that a slot takes for a tick: DRAFTING, in the mode of the tick, under the published budget (R77, R104). -/
def Dev.emptyDraft (d : Dev) (tick : Nat) : Sheet :=
  { state := .drafting, tick := tick % 2 ^ 48, coord := d.coordinatingFor tick, budgetUj := d.pln.budget }

theorem Dev.emptyDraft_congr {d e : Dev} (hbudget : e.pln.budget = d.pln.budget) (hbt : e.bt = d.bt) (tick : Nat) :
    e.emptyDraft tick = d.emptyDraft tick := by
  unfold Dev.emptyDraft; rw [hbudget, Dev.coordinatingFor_congr hbt]

/-- A slot of the three radios takes an empty draft, a slot of another tick stays (R77). -/
theorem Dev.openSlots_sheet (d : Dev) (tick : Nat) {r : Nat} (hr : r < 3) (k : Nat) :
    (d.openSlots tick).sheet r k = if k % 3 = tick % 3 then d.emptyDraft tick else d.sheet r k := by
  have hall := foldl_modSheet_sheet (fun _ _ => d.emptyDraft tick) d tick 3 r k
  simp only [hr, true_and] at hall
  exact hall

theorem Dev.openSlots_budget (d : Dev) (tick : Nat) : (d.openSlots tick).pln.budget = d.pln.budget :=
  foldl_keeps (obs := fun e : Dev => e.pln.budget) (by intros; rfl) _ _

theorem Dev.openSlots_opened (d : Dev) (tick : Nat) : (d.openSlots tick).pln.opened = d.pln.opened :=
  foldl_keeps (obs := fun e : Dev => e.pln.opened) (by intros; rfl) _ _

/-- A draft's opening is noted (R76). -/
def Dev.noteOpened (d : Dev) (opened : Nat) : Dev := { d with pln := { d.pln with opened := opened } }

theorem Dev.noteOpened_plan (d : Dev) (opened : Nat) : (d.noteOpened opened).plan = d.plan := rfl

theorem Dev.noteOpened_opened (d : Dev) (opened : Nat) : (d.noteOpened opened).pln.opened = opened := rfl

/-- The device once the draft of its tick has opened (R76, R77). -/
def Dev.draftsOpened (d : Dev) (t : Nat) : Dev := ((d.openTick t).noteOpened (tickOf t + 1)).openSlots (tickOf t + 2)

theorem Dev.draftsOpened_opened (d : Dev) (t : Nat) : (d.draftsOpened t).pln.opened = tickOf t + 1 := by
  rw [Dev.draftsOpened, Dev.openSlots_opened, Dev.noteOpened_opened]

theorem Dev.draftsOpened_budget (d : Dev) (t : Nat) : (d.draftsOpened t).pln.budget = d.pln.budget := by
  rw [Dev.draftsOpened, Dev.openSlots_budget, Dev.budget_of_plan (Dev.noteOpened_plan _ _), Dev.openTick_budget]

theorem Dev.draftsOpened_slot (d : Dev) (t : Nat) {r : Nat} (hr : r < 3) :
    (d.draftsOpened t).sheet r (tickOf t + 2) = d.emptyDraft (tickOf t + 2) := by
  have hplan := Dev.noteOpened_plan (d.openTick t) (tickOf t + 1)
  rw [Dev.draftsOpened, Dev.openSlots_sheet _ _ hr, if_pos rfl]
  exact Dev.emptyDraft_congr ((Dev.budget_of_plan hplan).trans (d.openTick_budget t)) ((Dev.bt_of_plan hplan).trans (d.openTick_bt t)) _

/-- The tick that begins has another slot than the one drafted. -/
theorem Dev.draftsOpened_playing {d : Dev} {t r : Nat} (hr : r < 3) (hs : (d.sheet r (tickOf t)).state = .locked)
    (ht : (d.sheet r (tickOf t)).tick = tickOf t) : ((d.draftsOpened t).sheet r (tickOf t)).state = .playing := by
  rw [Dev.draftsOpened, Dev.openSlots_sheet _ _ hr, if_neg (by omega), Dev.sheet_of_plan (Dev.noteOpened_plan _ _),
    Dev.state_of_standing (d.openTick_standing t), Dev.openPlays_playing hr hs ht]

/-! The firmware's drafts (R76, R104). -/

/-- What a draft may change of a sheet: not its state, tick or mode, and its budget only to the one given. -/
structure SheetRedrafted (budget : Nat) (s s' : Sheet) : Prop where
  state : s'.state = s.state
  tick : s'.tick = s.tick
  coord : s'.coord = s.coord
  budgetUj : s'.budgetUj = s.budgetUj ∨ s'.budgetUj = budget

theorem SheetRedrafted.refl (budget : Nat) (s : Sheet) : SheetRedrafted budget s s := ⟨rfl, rfl, rfl, Or.inl rfl⟩

theorem SheetRedrafted.trans {budget : Nat} {a b c : Sheet} (h : SheetRedrafted budget a b) (h' : SheetRedrafted budget b c) :
    SheetRedrafted budget a c :=
  ⟨h'.state.trans h.state, h'.tick.trans h.tick, h'.coord.trans h.coord, h'.budgetUj.elim (fun e => h.budgetUj.imp e.trans e.trans) Or.inr⟩

/-- Laying takes out changes no head of a sheet. -/
theorem layParts_redrafted (budget k off : Nat) (ps : List Part) (s : Sheet) : SheetRedrafted budget s (layParts k off ps s) := by
  induction ps generalizing k off s with
  | nil => exact ⟨rfl, rfl, rfl, Or.inl rfl⟩
  | cons p ps ih =>
    refine SheetRedrafted.trans ?_ (ih (k + 1) (off + p.cast.length) _)
    exact ⟨rfl, rfl, rfl, Or.inl rfl⟩

theorem withParts_redrafted (budget : Nat) (s : Sheet) (ps : List Part) : SheetRedrafted budget s (s.withParts ps) := by
  refine SheetRedrafted.trans ?_ (layParts_redrafted budget 0 0 ps _)
  exact ⟨rfl, rfl, rfl, Or.inl rfl⟩

/-- Between two devices drafts have been taken: the budget and the tick opened last are the same, and every sheet is the same or redrafted against that budget. -/
structure Redrafted (d e : Dev) : Prop where
  budget : e.pln.budget = d.pln.budget
  opened : e.pln.opened = d.pln.opened
  sheet : ∀ r k, SheetRedrafted d.pln.budget (d.sheet r k) (e.sheet r k)

theorem Redrafted.refl (d : Dev) : Redrafted d d := ⟨rfl, rfl, fun _ _ => .refl _ _⟩

theorem Redrafted.trans {a b c : Dev} (h : Redrafted a b) (h' : Redrafted b c) : Redrafted a c :=
  ⟨h'.budget.trans h.budget, h'.opened.trans h.opened, fun r k => (h.sheet r k).trans (h.budget ▸ h'.sheet r k)⟩

theorem redrafted_modSheet (d : Dev) (r tick : Nat) {f : Sheet → Sheet} (hf : ∀ s, SheetRedrafted d.pln.budget s (f s)) :
    Redrafted d (d.modSheet r tick f) := by
  refine ⟨rfl, rfl, fun q k => ?_⟩
  rw [Dev.sheet_modSheet]
  split
  case isTrue hq => rw [hq.1, Dev.sheet_mod d r hq.2]; exact hf _
  case isFalse => exact .refl _ _

theorem redrafted_noteFresh (d : Dev) (r tick : Nat) (ps : List RPart) : Redrafted d (d.noteFresh r tick ps) :=
  ⟨rfl, rfl, fun _ _ => .refl _ _⟩

theorem Dev.putDrafts_redrafted (d : Dev) (t tick : Nat) (drafts : List Draft) : Redrafted d (d.putDrafts t tick drafts) := by
  unfold Dev.putDrafts
  dsimp only
  refine List.foldlRecOn (motive := Redrafted d) _ _ (.refl d) (fun e he r _ => ?_)
  have hbudget := he.budget
  split
  case isTrue => exact he
  split
  case h_1 x _ =>
    refine he.trans (Redrafted.trans (redrafted_noteFresh e r tick _) (redrafted_modSheet _ r tick (fun s => ?_)))
    exact ⟨(withParts_redrafted 0 _ _).state, (withParts_redrafted 0 _ _).tick, (withParts_redrafted 0 _ _).coord, Or.inr hbudget.symm⟩
  case h_2 =>
    refine he.trans (redrafted_modSheet _ r tick (fun s => ?_))
    split
    · exact .refl _ _
    · exact withParts_redrafted _ _ _

theorem goDraftOpen_redrafted {t : Nat} {d : Dev} (drafts : List Draft) (h : d.pln.opened ≠ tickOf t + 1) :
    Redrafted (d.draftsOpened t) (goDraftOpen t drafts d) := by
  unfold goDraftOpen
  dsimp only
  rw [if_neg h]
  split
  · exact .refl _
  · exact (Dev.putDrafts_redrafted _ t _ drafts).trans (Dev.putDrafts_redrafted _ t _ drafts)

theorem goDraftOpen_again {t : Nat} {d : Dev} (h : d.pln.opened = tickOf t + 1) : goDraftOpen t [] d = d := by
  simp [goDraftOpen, h]

/-! The final pass (R89, R103). -/

@[simp] theorem Dev.countLate_pln (d : Dev) (t : Nat) : (d.countLate t).pln = d.pln := by simp [Dev.countLate]

theorem Dev.lateCues_pln (d : Dev) (t tick : Nat) : (d.lateCues t tick).pln = d.pln := by
  unfold Dev.lateCues
  dsimp only
  split
  · rfl
  · refine (foldl_keeps (obs := Dev.pln) (fun e c => ?_) _ _).trans rfl
    split
    · rfl
    · rw [Dev.countLate_pln]

/-- Takes laid out with a cast each have no empty cast. -/
theorem layParts_cast {ps : List Part} (hps : ∀ p ∈ ps, p.cast ≠ []) (k off : Nat) (s : Sheet) (hs : ∀ q, q < k → (s.take q).castCount ≠ 0) :
    ∀ q, q < (layParts k off ps s).takeCount → ((layParts k off ps s).take q).castCount ≠ 0 := by
  induction ps generalizing k off s with
  | nil => exact hs
  | cons p ps ih =>
    obtain ⟨hp, hps⟩ := List.forall_mem_cons.mp hps
    refine ih hps (k + 1) (off + p.cast.length) _ (fun q hq => ?_)
    simp only [Sheet.take, tlook_tput]
    split
    case isTrue => exact fun h => hp (List.length_eq_zero_iff.mp h)
    case isFalse hne => exact hs q (by omega)

theorem withParts_cast (s : Sheet) {ps : List Part} (hps : ∀ p ∈ ps, p.cast ≠ []) :
    ∀ q, q < (s.withParts ps).takeCount → ((s.withParts ps).take q).castCount ≠ 0 :=
  layParts_cast hps 0 0 _ (fun q hq => absurd hq (Nat.not_lt_zero q))

/-- How the final pass leaves the sheet `s` of a tick: one that it takes up, still drafted for that tick and not starved, has its takes with a cast laid out anew and is READY; another stays as it is. -/
structure FinalSheet (tick : Nat) (starved : Bool) (s s' : Sheet) : Prop where
  kept : (s.state ≠ .drafting ∨ s.tick ≠ tick ∨ starved = true) → s' = s
  ready : s.state = .drafting → s.tick = tick → starved = false → ∃ ps : List Part, (∀ p ∈ ps, p.cast ≠ []) ∧ s' = (s.withParts ps).readied

/-- FINAL_PASS is one change of a sheet for each radio, after late cues and exclusions that touch no sheet (R112, R245). -/
theorem goFinalPass_form (t : Nat) (starved : List Nat) (d : Dev) : ∃ (one : Nat → Sheet → Sheet) (out : List Nat) (excl : CallSheet → CallSheet),
    (∀ r s, FinalSheet (tickOf t + 1) (starved.contains r) s (one r s)) ∧
    (goFinalPass t starved d).pln = ((List.range 3).foldl (fun e r => e.modSheet r (tickOf t + 1) (one r))
      (out.foldl (fun e sid => e.modCall sid excl) (d.lateCues t (tickOf t + 1)))).pln := by
  unfold goFinalPass
  dsimp only
  refine ⟨_, _, _, fun r s => ⟨fun h => ?_, fun hs ht hstarved => ?_⟩, rfl⟩
  · exact if_pos (by simpa [or_assoc] using h)
  · exact ⟨_, fun p hp => by simpa using (List.mem_filter.mp hp).2, if_neg (by simpa [hs, ht] using hstarved)⟩

theorem goFinalPass_sheet (t : Nat) (starved : List Nat) (d : Dev) {r : Nat} (hr : r < 3) :
    FinalSheet (tickOf t + 1) (starved.contains r) (d.sheet r (tickOf t + 1)) ((goFinalPass t starved d).sheet r (tickOf t + 1)) := by
  obtain ⟨one, out, excl, hone, hpln⟩ := goFinalPass_form t starved d
  have hcalls := foldl_keeps (obs := Dev.plan) (fun e sid => e.plan_modCall sid excl) out (d.lateCues t (tickOf t + 1))
  have hlate := Dev.sheet_congr (congrArg Pln.sheets (d.lateCues_pln t (tickOf t + 1))) r (tickOf t + 1)
  rw [Dev.sheet_congr (congrArg Pln.sheets hpln), foldl_modSheet_sheet one _ _ 3, if_pos ⟨hr, rfl⟩, Dev.sheet_of_plan hcalls, hlate]
  exact hone r _

/-- Settles O21: a draft keeps what the opening of its tick wrote, and the final pass lays out only takes with a cast. -/
theorem draftsAndFinalPassComplete : Obligations.DraftsAndFinalPassComplete := by
  unfold Obligations.DraftsAndFinalPassComplete
  refine ⟨fun s drafts h => ?_, fun s h => completes_act _ rfl (goDraftOpen_again h), fun s starved => ?_⟩
  · have hnew := goDraftOpen_redrafted (t := s.now) drafts h
    refine ⟨_, completes_act _ rfl rfl, hnew.opened.trans (s.dev.draftsOpened_opened s.now), fun r hr => ?_, fun r hr hs ht => ?_⟩
    · obtain ⟨hstate, htick, hcoord, hbudget⟩ := hnew.sheet r (tickOf s.now + 2)
      rw [Dev.draftsOpened_budget] at hbudget
      rw [Dev.draftsOpened_slot _ _ hr] at hstate htick hcoord hbudget
      exact ⟨hstate, htick, hbudget.elim id id, hcoord⟩
    · exact ((hnew.sheet r _).state).trans (Dev.draftsOpened_playing hr hs ht)
  · refine ⟨_, completes_act _ rfl rfl, rfl, fun r hr hs ht hstarved => ?_, fun r hr h => (goFinalPass_sheet s.now starved s.dev hr).kept h⟩
    obtain ⟨ps, hps, hsheet⟩ := (goFinalPass_sheet s.now starved s.dev hr).ready hs ht hstarved
    rw [hsheet]
    exact ⟨rfl, withParts_cast _ hps⟩

end Sys2Proof.Machine
end

section
/-! PROOFS. Codewords and Retake: how a codeword's end is settled, case by case, what its slot leaves with it, and what an agreement grants (O20). -/
namespace Sys2Proof.Machine

/-! The ends of a codeword (R185 to R198). -/

/-- Only the first codeword of a PPDU forgets a PSDU discarded before it. -/
theorem Dev.newPsdu_later {d : Dev} {cw : Codeword} (hi : cw.index ≠ 0) : d.newPsdu cw = d := by
  simp [Dev.newPsdu, hi]

theorem Dev.newPsdu_eq (d : Dev) (cw : Codeword) : ∃ bad, d.newPsdu cw = { d with dec := { d.dec with bad := bad } } := by
  unfold Dev.newPsdu
  split
  · exact ⟨_, rfl⟩
  · exact ⟨d.dec.bad, rfl⟩

/-- Without uplink Retake a codeword ends as its run did. -/
theorem Dev.endCw_plain {d : Dev} {cw : Codeword} (t ends : Nat) (e : CwOutcome × Nat) (h : cw.aligned = false ∨ (d.peer cw.sid).ul = false) :
    ∃ bad, d.endCw t ends cw e = ({ d with dec := { d.dec with bad := bad } } : Dev).cwOutcome ends cw e.1 e.2 := by
  obtain ⟨bad, hbad⟩ := d.newPsdu_eq cw
  have hpeer : (d.newPsdu cw).peer cw.sid = d.peer cw.sid := by rw [hbad]; rfl
  refine ⟨bad, ?_⟩
  unfold Dev.endCw
  dsimp only
  rw [hpeer, if_pos (by rcases h with h | h <;> simp [h]), hbad]

section
variable {d : Dev} {cw : Codeword} (ha : cw.aligned = true) (hu : (d.peer cw.sid).ul = true) (hi : cw.index ≠ 0)
include ha hu hi

/-- A later codeword of the PPDU's own RSN. -/
theorem Dev.endCw_own (t ends : Nat) (e : CwOutcome × Nat) (hc : cw.copyPsdu = false) :
    d.endCw t ends cw e = (d.ownCw t cw e.1).cwOutcome ends cw e.1 e.2 := by
  simp [Dev.endCw, Dev.newPsdu_later hi, ha, hu, hc]

/-- A codeword that the map of a sound copy PSDU names. -/
theorem Dev.endCw_copy {rsn index : Nat} (t ends : Nat) (e : CwOutcome × Nat) (hc : cw.copyPsdu = true)
    (hb : d.dec.bad.contains (cw.radio * 4096 + cw.sid) = false)
    (hcopy : copyOf (tlook (fun _ => []) d.dec.maps (cw.radio * 4096 + cw.sid)) (cw.index - 1) = some (rsn, index)) :
    d.endCw t ends cw e = d.endCopy t ends cw rsn index e := by
  simp only [Dev.endCw, Dev.newPsdu_later hi, ha, hu, hc, hi, hb, hcopy, Bool.not_true, Bool.or_false, Bool.false_eq_true, if_false]

end

/-! What becomes of the slots (R192 to R198). -/

/-- The slot of a kept codeword. -/
def keptSlot (cw : Codeword) : Slot :=
  { sid := cw.sid, rsn := cw.rsn, index := cw.index, rate := cw.rate, seed := cw.seed, expiry := tickOf cw.ppdu + 3
    llrs := cw.llrs.map (fun v => max (-127) (min 127 v)) }

theorem Dev.keepCw_dec {d : Dev} (t : Nat) (cw : Codeword) (h : d.dec.slots.length < 524288) :
    (d.keepCw t cw).dec = { d.dec with slots := d.dec.slots.filter (fun x => !x.isAt cw.sid cw.rsn cw.index) ++ [keptSlot cw] } := by
  unfold Dev.keepCw
  rw [if_neg (by omega)]
  rfl

/-- A failed codeword other than codeword 0 is kept when that one has passed. -/
theorem Dev.ownCw_failed {d : Dev} {cw : Codeword} {o : CwOutcome} (t : Nat) (hi : cw.index ≠ 0)
    (hp : d.dec.passed.contains (cw.sid, cw.radio, cw.rsn) = true) (ho : 2 ≤ o.code) : d.ownCw t cw o = d.keepCw t cw := by
  simp only [Dev.ownCw, ne_eq, hi, not_false_eq_true, if_true, hp, ho, decide_true, Bool.true_or, Bool.and_true]

/-- The slots once a copy has met the one of an identity: the combine is counted there, and `f` says what it leaves. -/
def combinedSlots (sid rsn index : Nat) (f : Slot → Slot) (l : List Slot) : List Slot :=
  l.map (fun y => if y.isAt sid rsn index then f { y with combines := y.combines + 1 } else y)

/-- A slot whose combine has passed: it goes at the end of the decode (R197). -/
def Slot.passedWith (ends : Nat) (y : Slot) : Slot := { y with gone := some ends }

/-- A slot whose combine has failed: it holds the sum, and the decode holds it (R197, R198). -/
def Slot.addedTo (ends : Nat) (llrs : List Int) (y : Slot) : Slot := { y with llrs := addLlrs y.llrs llrs, busy := some ends }

/-- A slot of the identity has been combined. -/
theorem mem_combinedSlots_at {sid rsn index : Nat} {f : Slot → Slot} {l : List Slot} {y : Slot} (hy : y ∈ combinedSlots sid rsn index f l)
    (ha : y.isAt sid rsn index = true) : ∃ x ∈ l, y = f { x with combines := x.combines + 1 } := by
  obtain ⟨x, hx, rfl⟩ := List.mem_map.mp hy
  by_cases hat : x.isAt sid rsn index = true
  · exact ⟨x, hx, if_pos hat⟩
  · rw [if_neg hat] at ha
    exact absurd ha hat

theorem mem_combinedSlots_of_mem {sid rsn index : Nat} (f : Slot → Slot) {l : List Slot} {x : Slot} (hx : x ∈ l) (ha : x.isAt sid rsn index = true) :
    f { x with combines := x.combines + 1 } ∈ combinedSlots sid rsn index f l :=
  List.mem_map.mpr ⟨x, hx, if_pos ha⟩

section
variable {d : Dev} {cw : Codeword} {rsn index : Nat} {x : Slot} (t ends n : Nat)
  (hx : d.dec.slots.find? (fun x => x.isAt cw.sid rsn index && x.gone.isNone && decide (cw.lastLlr < x.expiry * 1024000)) = some x)
  (hrate : x.rate = cw.rate) (hread : cw.readError = false)
include hx hrate hread

/-- A copy that passes with its original settles the slot, which goes with the decode (R197, R198). -/
theorem Dev.endCopy_passed : (d.endCopy t ends cw rsn index (.pass, n)).dec = { d.dec with
    slots := combinedSlots cw.sid rsn index (Slot.passedWith ends) d.dec.slots
    running := d.dec.running ++ [{ ends := ends, radio := cw.radio, sid := cw.sid, code := 1, iters := n, combined := true, combine := true }] } := by
  simp only [Dev.endCopy, hx, hrate, hread, ne_eq, not_true_eq_false, Bool.false_eq_true, if_false, if_true]
  rfl

/-- A copy that fails adds its LLRs to the slot, which its decode holds (R197, R198). -/
theorem Dev.endCopy_failed {o : CwOutcome} (ho : o ≠ .pass) : (d.endCopy t ends cw rsn index (o, n)).dec = { d.dec with
    slots := combinedSlots cw.sid rsn index (Slot.addedTo ends cw.llrs) d.dec.slots
    running := d.dec.running ++
      [{ ends := ends, radio := cw.radio, sid := cw.sid, code := o.code, iters := n, combined := o == .passCombined, combine := true }] } := by
  simp only [Dev.endCopy, hx, hrate, hread, ho, ne_eq, not_true_eq_false, Bool.false_eq_true, if_false]
  rfl

end

/-! Serving a codeword (R184 to R186). -/

/-- The cores are taken as `l` says. -/
def Dev.withCores (d : Dev) (l : List Nat) : Dev := { d with dec := { d.dec with cores := l } }

/-- A codeword takes its core as its run says, and ends with it. -/
theorem Dev.serveCw_eq {d : Dev} {cw : Codeword} {o : CwOutcome} {n : Nat} (t : Nat) (h : d.cwEnd cw = (o, n)) : d.serveCw t cw =
    (d.withCores (d.coresAfter cw n)).endCw t (d.cwEnds cw n) cw (o, n) := by
  rw [Dev.serveCw, h, Dev.withCores]

section
variable {d : Dev} {cw : Codeword} {o : CwOutcome} {n : Nat} (t : Nat)

theorem Dev.serveCw_plain (he : d.cwEnd cw = (o, n)) (h : cw.aligned = false ∨ (d.peer cw.sid).ul = false) : ∃ bad, d.serveCw t cw =
    ({ d.withCores (d.coresAfter cw n) with dec := { (d.withCores (d.coresAfter cw n)).dec with bad := bad } } : Dev).cwOutcome (d.cwEnds cw n) cw o n := by
  rw [Dev.serveCw_eq t he]
  exact Dev.endCw_plain t _ (o, n) h

section
variable (ha : cw.aligned = true) (hu : (d.peer cw.sid).ul = true) (hi : cw.index ≠ 0)
include ha hu hi

theorem Dev.serveCw_kept (he : d.cwEnd cw = (o, n)) (hc : cw.copyPsdu = false) (hp : d.dec.passed.contains (cw.sid, cw.radio, cw.rsn) = true)
    (ho : 2 ≤ o.code) (hl : d.dec.slots.length < 524288) : (d.serveCw t cw).dec = { d.dec with
      cores := d.coresAfter cw n
      slots := d.dec.slots.filter (fun x => !x.isAt cw.sid cw.rsn cw.index) ++ [keptSlot cw]
      running := d.dec.running ++ [{ ends := d.cwEnds cw n, radio := cw.radio, sid := cw.sid, code := o.code, iters := n }] } := by
  have hend := Dev.endCw_own (d := d.withCores (d.coresAfter cw n)) ha hu hi t (d.cwEnds cw n) (o, n) hc
  have hown := Dev.ownCw_failed (d := d.withCores (d.coresAfter cw n)) t hi hp ho
  have hkeep := Dev.keepCw_dec (d := d.withCores (d.coresAfter cw n)) t cw hl
  have hcomb : (o == .passCombined) = false := beq_eq_false_iff_ne.mpr fun h => absurd (h ▸ ho) (by decide)
  rw [Dev.serveCw_eq t he, hend, hown, Dev.cwOutcome, hkeep, hcomb]
  rfl

variable {rsn index : Nat} {x : Slot} (hc : cw.copyPsdu = true) (hb : d.dec.bad.contains (cw.radio * 4096 + cw.sid) = false)
  (hcopy : copyOf (tlook (fun _ => []) d.dec.maps (cw.radio * 4096 + cw.sid)) (cw.index - 1) = some (rsn, index))
  (hx : d.dec.slots.find? (fun x => x.isAt cw.sid rsn index && x.gone.isNone && decide (cw.lastLlr < x.expiry * 1024000)) = some x)
  (hrate : x.rate = cw.rate) (hread : cw.readError = false)
include hc hb hcopy hx hrate hread

theorem Dev.serveCw_copy_passed (he : d.cwEnd cw = (.pass, n)) : (d.serveCw t cw).dec = { d.dec with
    cores := d.coresAfter cw n
    slots := combinedSlots cw.sid rsn index (Slot.passedWith (d.cwEnds cw n)) d.dec.slots
    running := d.dec.running ++
      [{ ends := d.cwEnds cw n, radio := cw.radio, sid := cw.sid, code := 1, iters := n, combined := true, combine := true }] } := by
  have hend := Dev.endCw_copy (d := d.withCores (d.coresAfter cw n)) ha hu hi t (d.cwEnds cw n) (.pass, n) hc hb hcopy
  rw [Dev.serveCw_eq t he, hend]
  exact Dev.endCopy_passed (d := d.withCores (d.coresAfter cw n)) t _ n hx hrate hread

theorem Dev.serveCw_copy_failed (he : d.cwEnd cw = (o, n)) (ho : o ≠ .pass) : (d.serveCw t cw).dec = { d.dec with
    cores := d.coresAfter cw n
    slots := combinedSlots cw.sid rsn index (Slot.addedTo (d.cwEnds cw n) cw.llrs) d.dec.slots
    running := d.dec.running ++
      [{ ends := d.cwEnds cw n, radio := cw.radio, sid := cw.sid, code := o.code, iters := n, combined := o == .passCombined, combine := true }] } := by
  have hend := Dev.endCw_copy (d := d.withCores (d.coresAfter cw n)) ha hu hi t (d.cwEnds cw n) (o, n) hc hb hcopy
  rw [Dev.serveCw_eq t he, hend]
  exact Dev.endCopy_failed (d := d.withCores (d.coresAfter cw n)) t _ n hx hrate hread ho

end

/-- The deadline of a codeword that still waits, without uplink Retake: its hard decisions decide it (R186). -/
theorem goDecodeDeadline_plain (h : cw.aligned = false ∨ (d.peer cw.sid).ul = false) : ∃ bad, goDecodeDeadline t cw d = { d with dec := { d.dec with
    bad := bad
    waiting := d.dec.waiting.erase { cw with llrs := handLlrs cw.llrs }
    running := d.dec.running ++ [{ ends := cw.lastLlr + 6000, radio := cw.radio, sid := cw.sid, code := if cw.hardZero then 0 else 4 }] } } := by
  obtain ⟨bad, hend⟩ := Dev.endCw_plain (d := { d with dec := { d.dec with waiting := d.dec.waiting.erase { cw with llrs := handLlrs cw.llrs } } })
    (cw := { cw with llrs := handLlrs cw.llrs }) t (cwDeadline cw) (hardEnd cw) h
  refine ⟨bad, hend.trans ?_⟩
  unfold hardEnd
  cases cw.hardZero <;> rfl

end

/-! Landing: a codeword's end comes (R39, R187, R198). -/

/-- Sorting loses nothing. -/
theorem sortBy_ne_nil {α : Type} (key : α → Nat) {l : List α} (h : l ≠ []) : sortBy key l ≠ [] := by
  cases l with
  | nil => exact absurd rfl h
  | cons x rest =>
    rw [sortBy]
    cases sortBy key rest with
    | nil => simp [sortBy.insertByFront]
    | cons y ys =>
      rw [sortBy.insertByFront]
      split <;> simp

theorem Dev.setIncAt_handoffWait (d : Dev) (t a b k x : Nat) : (d.setIncAt t a b k x).glb.handoffWait = d.glb.handoffWait := by
  unfold Dev.setIncAt Dev.fireMsi
  dsimp only
  split
  · rfl
  · split <;> rfl

/-- The coding cluster, and what has been handed off. -/
def Dev.coded (d : Dev) : Dec × List Handoff := (d.dec, d.glb.handoffWait)

@[simp] theorem Dev.coded_bump (d : Dev) (b k n : Nat) : (d.bump b k n).coded = d.coded := rfl
@[simp] theorem Dev.coded_step (d : Dev) (id ten ix n : Nat) : (d.step id ten ix n).coded = d.coded := by
  simp [Dev.coded]
@[simp] theorem Dev.coded_inc (d : Dev) (t b k x : Nat) : (d.inc t b k x).coded = d.coded := by
  simp [Dev.coded, Dev.inc, Dev.setIncAt_handoffWait]

/-- Of an end the coding cluster keeps, and hands off, only what the MAC is to have. -/
theorem Dev.cwEnded_coded (d : Dev) (t : Nat) (x : CwRun) : (d.cwEnded t x).coded =
    if x.toMac then ({ d.dec with outcomes := d.dec.outcomes ++ [(x.code, x.sid)] },
      d.glb.handoffWait ++ [⟨x.ends, if 2 ≤ x.code then .decodeFailure else .codewordOutcome, x.sid⟩])
    else d.coded := by
  have hstep : ∀ e : Dev, (if decide (2 ≤ x.code) = true then e.step 0x3070 0 x.radio else e).coded = e.coded := fun e => by split <;> simp
  have hcomb : ∀ e : Dev, (if x.combined = true then (e.bump (27 + x.radio) 9).step 0x3072 0 x.radio else e).coded = e.coded := fun e => by split <;> simp
  have hinc : ∀ e : Dev, (if x.code = 4 then e.inc t 5 0 else e).coded = e.coded := fun e => by split <;> simp
  unfold Dev.cwEnded
  dsimp only
  rw [hinc, hcomb, hstep]
  split <;> simp [Dev.coded, Dev.handoff]

theorem Dev.cwEnded_slots (d : Dev) (t : Nat) (x : CwRun) : (d.cwEnded t x).dec.slots = d.dec.slots := by
  have h := congrArg (fun c => c.1.slots) (d.cwEnded_coded t x)
  dsimp only at h
  split at h <;> exact h

/-- A missed deadline is an incident. -/
theorem Dev.cwEnded_incident (d : Dev) {x : CwRun} (t : Nat) (h : x.code = 4) : ((d.cwEnded t x).reg 0x500040).getLsbD 0 = true := by
  unfold Dev.cwEnded
  dsimp only
  rw [if_pos h]
  exact Dev.inc_bit _ _ 5 _ _ (by omega)

/-- A single run that has ended lands. -/
theorem Dev.landCws_one {d : Dev} {t : Nat} {x : CwRun} (h : d.dec.running = [x]) (hx : x.ends ≤ t) : d.landCws t =
    Dev.cwEnded { d with dec := { d.dec with running := [], slots := d.dec.slots.filter (fun y => !y.overBy t) } } t x := by
  simp [Dev.landCws, h, hx, sortBy, sortBy.insertByFront]

/-- As a run lands, the slots whose decodes are over are released. -/
theorem Dev.landCws_slots {d : Dev} {t : Nat} {x : CwRun} (h : x ∈ d.dec.running) (hx : x.ends ≤ t) :
    (d.landCws t).dec.slots = d.dec.slots.filter (fun y => !y.overBy t) := by
  have hdue : d.dec.running.filter (fun y => decide (y.ends ≤ t)) ≠ [] :=
    List.ne_nil_of_mem (List.mem_filter.mpr ⟨h, decide_eq_true hx⟩)
  unfold Dev.landCws
  dsimp only
  rw [if_neg (by simpa using sortBy_ne_nil _ hdue)]
  exact foldl_keeps (obs := fun e : Dev => e.dec.slots) (fun e y => e.cwEnded_slots t y) _ _

/-! Retention and negotiation (R189, R194, R198, R202). -/

/-- The slots whose window is over are released; only a count of them is noted beside. -/
theorem goRetakeExpired_releases (t : Nat) (d : Dev) :
    (goRetakeExpired t d).dec = { d.dec with slots := d.dec.slots.filter (fun x =>
      !(x.gone.isNone && decide (x.expiry ≤ tickOf t) && !x.busy.any (fun k => decide (t < k)))) } ∧
    goRetakeExpired t d = { d with dec := (goRetakeExpired t d).dec, props := (goRetakeExpired t d).props, force := (goRetakeExpired t d).force } := by
  unfold goRetakeExpired
  dsimp only
  split <;> exact ⟨rfl, rfl⟩

/-- What RETAKE_PEER leaves of an agreement that it grants (R189, R202). -/
def Dev.agreed (d : Dev) (sid : Nat) (p : Peer) : Dev := (d.modPeer sid (fun _ => p)).modCall sid (fun c => { c with retake := true })

theorem Dev.agreed_peer (d : Dev) (sid : Nat) (p : Peer) (j : Nat) : (d.agreed sid p).peer j = if j = sid then p else d.peer j :=
  tlook_tmod peerReset d.dec.peers sid (fun _ => p) j

theorem Dev.agreed_callOf (d : Dev) (sid : Nat) (p : Peer) (j : Nat) :
    (d.agreed sid p).callOf j = if j = sid then { d.callOf sid with retake := true } else d.callOf j :=
  tlook_tmod callReset d.pln.call sid (fun c => { c with retake := true }) j

/-- Settles O20: each clause is the lemma of its kind of codeword, and the two commands of Retake give what their tables say. -/
theorem codewordsAndRetakeComplete : Obligations.CodewordsAndRetakeComplete := by
  unfold Obligations.CodewordsAndRetakeComplete
  refine ⟨⟨fun s cw => ⟨fun h => ?_, fun h => ?_⟩, fun s cw o n h he => ?_, fun s x hrun hx hmac => ?_, fun s cw h => ?_,
    fun s cw o n ha hu hc hi hp he ho hl => ?_, fun s cw n rsn index x ha hu hc hi hb hcopy hx hrate hread he => ?_,
    fun s cw o n rsn index x ha hu hc hi hb hcopy hx hrate hread he ho => ?_⟩, fun s => ?_, fun s f req sid hadm h1 h2 hsid hused hown hver hdir hoff hacc => ?_⟩
  · exact ⟨_, completes_act _ rfl (if_neg (by simp [h])), rfl⟩
  · exact completes_act _ rfl (if_pos h)
  · obtain ⟨bad, hserve⟩ := Dev.serveCw_plain s.now he h
    rw [hserve]
    exact ⟨rfl, rfl, rfl⟩
  · rw [Dev.landCws_one hrun hx]
    obtain ⟨hdec, hhand⟩ := Prod.mk.inj ((Dev.cwEnded_coded _ s.now x).trans (if_pos hmac))
    exact ⟨by rw [hdec], by rw [hdec], hhand, Dev.cwEnded_incident _ _⟩
  · obtain ⟨bad, hgo⟩ := goDecodeDeadline_plain s.now h
    exact ⟨_, completes_act _ rfl hgo, rfl, rfl, rfl, rfl, rfl⟩
  · rw [Dev.serveCw_kept s.now ha hu hi he hc hp ho hl]
    exact ⟨rfl, rfl⟩
  · have hdec := Dev.serveCw_copy_passed s.now ha hu hi hc hb hcopy hx hrate hread he
    have hgone : ∀ y ∈ (s.dev.serveCw s.now cw).dec.slots, y.isAt cw.sid rsn index = true → y.gone = some (s.dev.cwEnds cw n) := fun y hy hat => by
      obtain ⟨z, -, rfl⟩ := mem_combinedSlots_at (congrArg Dec.slots hdec ▸ hy) hat
      rfl
    refine ⟨by rw [hdec], hgone, fun t ht y hy => ?_⟩
    rw [Dev.landCws_slots (by rw [hdec]; exact List.mem_append_right _ (List.mem_singleton_self _)) ht, List.mem_filter] at hy
    obtain ⟨hy, hover⟩ := hy
    refine Bool.eq_false_iff.mpr fun hat => ?_
    have hdone : y.overBy t = true := by
      rw [Slot.overBy, hgone y hy hat, Option.any_some, decide_eq_true ht, Bool.true_or]
    rw [hdone] at hover
    cases hover
  · have hslot : x.isAt cw.sid rsn index = true := by
      have hp := List.find?_some hx
      simp only [Bool.and_eq_true] at hp
      exact hp.1.1
    rw [Dev.serveCw_copy_failed s.now ha hu hi hc hb hcopy hx hrate hread he ho]
    exact ⟨rfl, mem_combinedSlots_of_mem (Slot.addedTo (s.dev.cwEnds cw n) cw.llrs) (List.mem_of_find?_eq_some hx) hslot⟩
  · obtain ⟨hdec, hframe⟩ := goRetakeExpired_releases s.now s.dev
    exact ⟨_, completes_act _ rfl rfl, hdec, hframe⟩
  · have hrows : ∀ r ∈ [((s.dev.sta sid).used && !s.dev.ownsSta (.fn f) sid, Status.notPermitted),
        (fld (wd req 2) 39 32 != 1 || (!nbit (wd req 2).toNat 31 && !nbit (wd req 2).toNat 30), .badParam),
        (!(s.dev.sta sid).used || !(s.dev.sta sid).retakeOffered || (s.dev.peer sid).accepted, .wrongState)], r.1 = false := by
      rcases hdir with hdir | hdir <;> simp [hown, hver, hdir, hused, hoff, hacc]
    subst hsid
    refine ⟨fun hp => ?_, fun hp => ?_⟩
    · obtain ⟨d, hc, hans, hd⟩ := completes_now (c := .retakePeer f req) (st := .ok) rfl rfl hadm (by simp [fixedSpec]) (by simp [fixedSpec])
        (by simp [fixedSpec, h1, h2]) ((judged_none _ hrows).trans (if_pos hp)) (by decide) rfl
      exact ⟨d, hc, hans, by rw [hd]; rfl⟩
    · obtain ⟨d, hc, hans, hd⟩ := completes_now (c := .retakePeer f req) (st := .ok) rfl rfl hadm (by simp [fixedSpec]) (by simp [fixedSpec])
        (by simp [fixedSpec, h1, h2]) ((judged_none _ hrows).trans (if_neg hp)) (by decide) rfl
      refine ⟨d, hc, hans, ?_, ?_, fun j hj => ⟨?_, ?_⟩, ?_⟩ <;> rw [hd]
      · exact (Dev.agreed_peer (s.dev.taken f req) _ _ _).trans (if_pos rfl)
      · exact (Dev.agreed_callOf (s.dev.taken f req) _ _ _).trans (if_pos rfl)
      · exact (Dev.agreed_peer (s.dev.taken f req) _ _ _).trans (if_neg hj)
      · exact (Dev.agreed_callOf (s.dev.taken f req) _ _ _).trans (if_neg hj)
      · rfl

end Sys2Proof.Machine
end

section
/-! PROOFS. Receptions and noise: what a reception's end leaves in its radio's log and receiver, what the converters' clipping leaves alone, and the modems' two reads (O19). -/
namespace Sys2Proof.Machine

/-! Receivers. -/

@[simp] theorem Dev.rx_modRx (d : Dev) (r : Nat) (f : Rx → Rx) (j : Nat) : (d.modRx r f).rx j = if j = r then f (d.rx r) else d.rx j := by
  simp [Dev.rx, Dev.modRx]

theorem Dev.rx_congr {d e : Dev} (h : e.mdm.rx = d.mdm.rx) (j : Nat) : e.rx j = d.rx j := by unfold Dev.rx; rw [h]

/-- The reports that radio `r` has written. -/
def Dev.logged (d : Dev) (r : Nat) : Nat := tlook (fun _ => 0) d.mdm.logCount r

theorem Dev.logged_congr {d e : Dev} (h : e.mdm.logCount = d.mdm.logCount) (r : Nat) : e.logged r = d.logged r := by unfold Dev.logged; rw [h]

theorem Dev.logged_modRx (d : Dev) (r : Nat) (f : Rx → Rx) (j : Nat) : (d.modRx r f).logged j = d.logged j := rfl

/-! Ports and lines: what follows a reception in the front end (R212, R216, R227). -/

/-- Between two devices only the front end and the counters differ. -/
def OnlyChains (d e : Dev) : Prop := ∃ fe counts, e = { d with fe := fe, counts := counts }

theorem OnlyChains.refl (d : Dev) : OnlyChains d d := ⟨d.fe, d.counts, rfl⟩

theorem OnlyChains.trans {d e a : Dev} (h : OnlyChains d e) (h' : OnlyChains e a) : OnlyChains d a := by
  obtain ⟨fe, counts, rfl⟩ := h
  obtain ⟨fe', counts', rfl⟩ := h'
  exact ⟨fe', counts', rfl⟩

theorem OnlyChains.mdm {d e : Dev} (h : OnlyChains d e) : e.mdm = d.mdm := by
  obtain ⟨fe, counts, rfl⟩ := h
  rfl

theorem OnlyChains.regs {d e : Dev} (h : OnlyChains d e) : e.regs = d.regs := by
  obtain ⟨fe, counts, rfl⟩ := h
  rfl

theorem onlyChains_ite {d a b : Dev} {c : Prop} [Decidable c] (ha : OnlyChains d a) (hb : OnlyChains d b) : OnlyChains d (if c then a else b) := by
  split
  · exact ha
  · exact hb

theorem onlyChains_foldl {β : Type} {op : Dev → β → Dev} (h : ∀ e b, OnlyChains e (op e b)) (l : List β) (d : Dev) : OnlyChains d (l.foldl op d) :=
  List.foldlRecOn (motive := OnlyChains d) l op (.refl d) fun _ he b _ => he.trans (h _ b)

theorem onlyChains_bump (d : Dev) (b k n : Nat) : OnlyChains d (d.bump b k n) := ⟨d.fe, _, rfl⟩

theorem onlyChains_modChain (d : Dev) (c : Nat) (f : Chain → Chain) : OnlyChains d (d.modChain c f) := ⟨_, d.counts, rfl⟩

theorem onlyChains_setFem (d : Dev) (c : Nat) (pa lna byp : Bool) (port : Nat) : OnlyChains d (d.setFem c pa lna byp port) :=
  onlyChains_ite (.refl d) (onlyChains_modChain d c _)

theorem onlyChains_femChain (d : Dev) (t c : Nat) : OnlyChains d (d.femChain t c) :=
  onlyChains_ite (onlyChains_setFem ..) (onlyChains_ite (onlyChains_setFem ..) (onlyChains_ite (onlyChains_setFem ..) (onlyChains_setFem ..)))

theorem onlyChains_femSettle (d : Dev) (t r : Nat) : OnlyChains d (d.femSettle t r) := onlyChains_foldl (fun e c => onlyChains_femChain e t c) _ d

theorem onlyChains_choosePort (d : Dev) (r : Nat) (x : Nat × Int × Int) : OnlyChains d (d.choosePort r x) :=
  have hport (f : Chain → Chain) : OnlyChains d (if d.overridden x.1 then d else d.modChain x.1 f) :=
    onlyChains_ite (.refl d) (onlyChains_modChain d x.1 f)
  onlyChains_ite (onlyChains_ite (hport _) ((hport _).trans (onlyChains_bump _ _ _ _))) (.refl d)

theorem onlyChains_agcBypass (d : Dev) (r : Nat) (power : Int) : OnlyChains d (d.agcBypass r power) :=
  onlyChains_ite (onlyChains_foldl (fun e c => onlyChains_ite (.refl e) (onlyChains_modChain e c _)) _ d) (.refl d)

/-! A detection (R153, R160). -/

/-- The receiver that a detection takes. -/
def Rx.detects (t : Nat) (x : Detect) (y : Rx) : Rx :=
  { y with
    receiving := true, start := t - x.sinceNs, detected := t, level := x.power, frozen := true, dsss := x.dsss, solicited := x.solicited
    lsigPassed := false, lostDb := 0, busyBeat := true, sfdAt := x.sfdNs.map (t + ·), gains := gainsOf x.gains, stf := none, clipAt := x.clipNs.map (t + ·) }

theorem goDetection_taken {t r : Nat} {x : Detect} {d : Dev} (hc : d.correlates t r x.transmitting = true) (hr : (d.rx r).receiving = false)
    (hcorr : d.pv 0x3002 0 r ≤ x.corr) (hpow : d.pvi 0x3001 0 r ≤ x.power) (hd : x.dsss = true → d.barker r = true) :
    OnlyChains (d.modRx r (Rx.detects t x)) (goDetection t r x d) := by
  have hb : (x.dsss && !d.barker r) = false := by
    cases h : x.dsss
    · rfl
    · simp [hd h]
  have hsettled := (onlyChains_bump (d.modRx r (Rx.detects t x)) (24 + r) 9 1).trans (onlyChains_femSettle _ t r)
  unfold goDetection
  rw [if_neg (by simp [hc, hr, hb, hcorr, hpow])]
  exact (hsettled.trans (onlyChains_ite (.refl _) (onlyChains_foldl (fun e y => onlyChains_choosePort e r y) _ _))).trans (onlyChains_agcBypass _ r x.power)

theorem goDetection_none {t r : Nat} {x : Detect} {d : Dev} (h : d.correlates t r x.transmitting = false ∨ (d.rx r).receiving = true ∨
    x.corr < d.pv 0x3002 0 r ∨ x.power < d.pvi 0x3001 0 r) : goDetection t r x d = d := by
  unfold goDetection
  exact if_pos (by rcases h with h | h | h | h <;> simp [h])

/-! Clipping (R161). -/

/-- An incident bit that is set stays set as others are (R17). -/
theorem Dev.inc_keeps (d : Dev) (t b k x : Nat) {a i : Nat} (h : (d.reg a).getLsbD i = true) : ((d.inc t b k x).reg a).getLsbD i = true := by
  unfold Dev.inc
  rw [Dev.reg_setIncAt]
  split
  case isTrue ha => rw [BitVec.getLsbD_or, ← ha, h, Bool.true_or]
  case isFalse => exact h

/-- An incident counts nothing but F0's vector. -/
theorem Dev.counter_inc (d : Dev) (t b k x : Nat) {i j : Nat} (hi : i ≠ 2) (hj : j < 32) : (d.inc t b k x).counter i j = d.counter i j := by
  unfold Dev.inc Dev.setIncAt
  dsimp only
  split
  · rfl
  · unfold Dev.fireMsi
    split
    · rw [Dev.counter_bump _ _ _ _ _ _ (by omega) hj, if_neg (by omega)]
      rfl
    · rfl

/-- By `t` what was due of the converters' clipping in the reception of radio `r` has come: its place in the receiver is gone, and it may have been counted and flagged. -/
structure ClipLanded (t r : Nat) (d e : Dev) : Prop where
  rx : e.rx r = { d.rx r with clipAt := (d.rx r).clipAt.filter (fun k => decide (t < k)) }
  others : ∀ j, j ≠ r → e.rx j = d.rx j
  counter : e.counter (24 + r) 8 = d.counter (24 + r) 8
  frame : e = { d with mdm := { d.mdm with rx := e.mdm.rx }, counts := e.counts, regs := e.regs, glb := e.glb, mgr := e.mgr }

theorem Dev.clip_frame (d : Dev) (t r : Nat) (c : Bool) : d.clip t r c =
    { d with counts := (d.clip t r c).counts, regs := (d.clip t r c).regs, glb := (d.clip t r c).glb, mgr := (d.clip t r c).mgr } := by
  unfold Dev.clip
  split
  · apply Dev.eq_of_fields <;> simp
  · rfl

theorem Dev.clip_mdm (d : Dev) (t r : Nat) (c : Bool) : (d.clip t r c).mdm = d.mdm := by rw [Dev.clip_frame]

theorem Dev.clip_counter (d : Dev) (t r : Nat) (c : Bool) : (d.clip t r c).counter (24 + r) 8 = d.counter (24 + r) 8 := by
  unfold Dev.clip
  split
  · rw [Dev.counter_inc _ _ _ _ _ (by omega) (by omega), Dev.counter_bump _ _ _ _ _ _ (by omega) (by omega), if_neg (by omega)]
  · rfl

/-- A clipping has been flagged. -/
def Dev.clipFlagged (d : Dev) : Bool := (d.reg 0x400040).getLsbD 0

theorem Dev.clipFlagged_congr {d e : Dev} (h : e.regs = d.regs) : e.clipFlagged = d.clipFlagged := by
  unfold Dev.clipFlagged
  rw [Dev.reg_congr h]

/-- Clipping in a reception is flagged. -/
theorem Dev.clip_flags {d : Dev} {r : Nat} {c : Bool} (t : Nat) (hc : c = true) (hr : (d.rx r).receiving = true) : (d.clip t r c).clipFlagged = true := by
  rw [Dev.clip, hc, hr]
  exact Dev.inc_bit _ t 4 0 0 (by omega)

/-- What is still to come of an instant, by whether it has come. -/
theorem filter_pending (o : Option Nat) (t : Nat) :
    o.filter (fun k => decide (t < k)) = if o.any (fun k => decide (k ≤ t)) then none else o := by
  cases o with
  | none => rfl
  | some k => by_cases hk : k ≤ t <;> simp [Option.filter, hk, Nat.lt_of_not_le]

theorem Dev.clipDue_landed (d : Dev) (t r : Nat) : ClipLanded t r d (d.clipDue t r) := by
  have hpending := filter_pending (d.rx r).clipAt t
  have hrx : ∀ j, (d.clip t r (d.rx r).frozen).rx j = d.rx j := Dev.rx_congr (by rw [Dev.clip_mdm])
  unfold Dev.clipDue
  split
  case isTrue h =>
    rw [if_pos h] at hpending
    refine ⟨?_, fun j hj => ?_, d.clip_counter t r _, ?_⟩
    · rw [Dev.rx_modRx, if_pos rfl, hrx, hpending]
    · rw [Dev.rx_modRx, if_neg hj, hrx]
    · rw [Dev.modRx, d.clip_frame t r (d.rx r).frozen]
  case isFalse h =>
    rw [if_neg h] at hpending
    exact ⟨by rw [hpending], fun _ _ => rfl, rfl, rfl⟩

theorem ClipLanded.clip {t r : Nat} {d e : Dev} (h : ClipLanded t r d e) (c : Bool) : ClipLanded t r d (e.clip t r c) := by
  have hrx : ∀ j, (e.clip t r c).rx j = e.rx j := Dev.rx_congr (by rw [Dev.clip_mdm])
  refine ⟨(hrx r).trans h.rx, fun j hj => (hrx j).trans (h.others j hj), (e.clip_counter t r c).trans h.counter, ?_⟩
  rw [e.clip_frame t r c, h.frame]

/-! What the clipping leaves as it was. -/

theorem Dev.skipShed_congr {d e : Dev} (h : e.pln = d.pln) (t r n k : Nat) : e.skipShed t r n k = d.skipShed t r n k := by
  induction n generalizing k with
  | zero => rfl
  | succ n ih => rw [Dev.skipShed, Dev.skipShed, Dev.isShed, Dev.isShed, h, ih]

/-- The take that a radio turns to is the plan's. -/
theorem Dev.curTake_congr {d e : Dev} (h : e.pln = d.pln) (t r : Nat) : e.curTake t r = d.curTake t r := by
  unfold Dev.curTake Dev.playing Dev.play
  simp only [Dev.sheet_congr (congrArg Pln.sheets h), Dev.skipShed_congr h, h]

theorem Dev.lsigFails_congr {d e : Dev} (h : e.force = d.force) (r : Nat) (x : LSig) : e.lsigFails r x = d.lsigFails r x := by
  unfold Dev.lsigFails
  rw [Dev.pv_congr h]

section
variable {t r : Nat} {d e : Dev} (h : ClipLanded t r d e)
include h

theorem ClipLanded.pln : e.pln = d.pln := by rw [h.frame]
theorem ClipLanded.force : e.force = d.force := by rw [h.frame]
theorem ClipLanded.logCount : e.mdm.logCount = d.mdm.logCount := by rw [h.frame]
theorem ClipLanded.log : e.mdm.log = d.mdm.log := by rw [h.frame]

theorem ClipLanded.captures (power : Int) (txStarts : Bool) : e.captures r power txStarts = d.captures r power txStarts := by
  have hmargin : e.pvi 0x3004 0 r = d.pvi 0x3004 0 r := by unfold Dev.pvi Dev.inForce; rw [h.force]
  unfold Dev.captures
  rw [Dev.pv_congr h.force, hmargin, h.rx]

theorem ClipLanded.falseAt (lsig : Option LSig) : e.falseAt r lsig = d.falseAt r lsig := by
  unfold Dev.falseAt
  cases lsig with
  | none => rfl
  | some y => simp only [Dev.lsigFails_congr h.force, h.rx]

theorem ClipLanded.tbCast : e.tbCast t r = d.tbCast t r := by
  have hplay : e.play r = d.play r := by unfold Dev.play; rw [h.pln]
  unfold Dev.tbCast
  rw [Dev.curTake_congr h.pln, hplay, h.rx]

end

/-! Reports (R164, R165). -/

/-- Between two devices radio `r` has written `n` reports, and every receiver stands as it did. -/
structure Reported (r n : Nat) (d e : Dev) : Prop where
  rx : ∀ j, e.rx j = d.rx j
  logged : e.logged r = d.logged r + n
  clipped : d.clipFlagged = true → e.clipFlagged = true

theorem Reported.refl (r : Nat) (d : Dev) : Reported r 0 d d := ⟨fun _ => rfl, rfl, id⟩

theorem Reported.trans {r n m : Nat} {d e a : Dev} (h : Reported r n d e) (h' : Reported r m e a) : Reported r (n + m) d a :=
  ⟨fun j => (h'.rx j).trans (h.rx j), by rw [h'.logged, h.logged, Nat.add_assoc], h'.clipped ∘ h.clipped⟩

theorem reported_foldl {β : Type} {r n : Nat} {op : Dev → β → Dev} (h : ∀ e b, Reported r n e (op e b)) (l : List β) (d : Dev) :
    Reported r (l.length * n) d (l.foldl op d) := by
  induction l generalizing d with
  | nil => simpa using Reported.refl r d
  | cons b l ih =>
    rw [List.foldl_cons, List.length_cons, Nat.succ_mul, Nat.add_comm]
    exact (h d b).trans (ih _)

/-- Between two devices the modems are the same, and a clipping that was flagged still is. -/
structure Noted (d e : Dev) : Prop where
  mdm : e.mdm = d.mdm
  clipped : d.clipFlagged = true → e.clipFlagged = true

theorem Noted.trans {d e a : Dev} (h : Noted d e) (h' : Noted e a) : Noted d a := ⟨h'.mdm.trans h.mdm, h'.clipped ∘ h.clipped⟩

theorem noted_of_eq {d e : Dev} (hmdm : e.mdm = d.mdm) (hregs : e.regs = d.regs) : Noted d e := ⟨hmdm, by rw [Dev.clipFlagged_congr hregs]; exact id⟩

theorem noted_bump (d : Dev) (b k n : Nat) : Noted d (d.bump b k n) := noted_of_eq rfl rfl
theorem noted_step (d : Dev) (id ten ix n : Nat) : Noted d (d.step id ten ix n) := noted_of_eq (by simp) (by simp)
theorem noted_inc (d : Dev) (t b k x : Nat) : Noted d (d.inc t b k x) := ⟨by simp, Dev.inc_keeps d t b k x⟩

theorem noted_ite {d a b : Dev} {c : Prop} [Decidable c] (ha : Noted d a) (hb : Noted d b) : Noted d (if c then a else b) := by
  split
  · exact ha
  · exact hb

theorem Noted.reported {d e : Dev} (h : Noted d e) (r : Nat) : Reported r 0 d e :=
  ⟨Dev.rx_congr (by rw [h.mdm]), Dev.logged_congr (by rw [h.mdm]) r, h.clipped⟩

/-- The device with a report of radio `r` of the words `ws`, the latest of its station, in the log (R164). -/
def Dev.entered (d : Dev) (r : Nat) (ws : List Word) (latest : Table (List Word)) : Dev := { d with mdm := { d.mdm with
  log := tput (fun _ => []) d.mdm.log (r * 4096 + d.logged r % 4096) ws
  logCount := tput (fun _ => 0) d.mdm.logCount r (d.logged r + 1)
  latest := latest } }

theorem Dev.entered_reported (d : Dev) (r : Nat) (ws : List Word) (latest : Table (List Word)) : Reported r 1 d (d.entered r ws latest) :=
  ⟨fun _ => rfl, (tlook_tput (fun _ => 0) d.mdm.logCount r (d.logged r + 1) r).trans (if_pos rfl), id⟩

theorem Dev.entered_log (d : Dev) (r : Nat) (ws : List Word) (latest : Table (List Word)) :
    tlook (fun _ => []) (d.entered r ws latest).mdm.log (r * 4096 + d.logged r % 4096) = ws :=
  (tlook_tput (fun _ => []) d.mdm.log _ ws _).trans (if_pos rfl)

/-- A report is entered next in the log, with its status; the rest is counts and flags (R164). -/
theorem Dev.report_noted (d : Dev) (t r status : Nat) (u : UserReport) (newc : Nat) : ∃ (v : UserReport) (latest : Table (List Word)),
    Noted (d.entered r (reportWords (d.rx r).start r status v (d.noiseField t r) ((t - (d.rx r).start) / 1000) newc) latest)
      (d.report t r status u newc) := by
  have hcounted (e : Dev) (b b' k k' n : Nat) : Noted e ((e.drew.bump b k 1).bump b' k' n) := noted_of_eq rfl rfl
  have hstatus (e : Dev) : Noted e (if status = 1 then e.step 0x3040 0 r else if status = 2 then e.step 0x3041 0 r else e) :=
    noted_ite (noted_step ..) (noted_ite (noted_step ..) (noted_of_eq rfl rfl))
  have htracked (e : Dev) (b : Bool) : Noted e (if b then e.bump (24 + r) 12 else e) := noted_ite (noted_bump ..) (noted_of_eq rfl rfl)
  have htol (e : Dev) (b : Bool) : Noted e (if b then (e.bump (24 + r) 11).inc t 4 1 else e) :=
    noted_ite ((noted_bump ..).trans (noted_inc ..)) (noted_of_eq rfl rfl)
  exact ⟨_, _, (((hcounted _ _ _ _ _ _).trans (hstatus _)).trans (htracked _ _)).trans (htol _ _)⟩

theorem Dev.report_reported (d : Dev) (t r status : Nat) (u : UserReport) (newc : Nat) : Reported r 1 d (d.report t r status u newc) := by
  obtain ⟨v, latest, h⟩ := d.report_noted t r status u newc
  exact (d.entered_reported r _ latest).trans (h.reported r)

/-- STATUS of a report (R164). -/
theorem reportWords_status (start r : Nat) {status : Nat} (u : UserReport) (noise dur newc : Nat) (h : status < 16) :
    fld (wd (reportWords start r status u noise dur newc) 0) 53 50 = status := by
  have hbeat : beatOf start < 1024 := by unfold beatOf; omega
  have htick : tickOf start < 2 ^ 48 := Nat.mod_lt _ (by decide)
  simp only [reportWords, wd, List.getD_cons_zero, fld, nbits, packW, packN, BitVec.toNat_ofNat, Nat.shiftRight_eq_div_pow]
  omega

theorem Dev.report_status (d : Dev) (t r : Nat) {status : Nat} (u : UserReport) (newc : Nat) (h : status < 16) :
    fld (wd (tlook (fun _ => []) (d.report t r status u newc).mdm.log (r * 4096 + d.logged r % 4096)) 0) 53 50 = status := by
  obtain ⟨v, latest, hnoted⟩ := d.report_noted t r status u newc
  rw [hnoted.mdm, Dev.entered_log]
  exact reportWords_status _ _ _ _ _ _ h

/-! The receiver is freed (R161, R165). -/

/-- The receiver after a reception that left `y`. -/
def Rx.stopped (t : Nat) (y : RxDone) (x : Rx) : Rx :=
  { x with
    receiving := false, frozen := false, dsss := false, solicited := false, lsigPassed := false, lostDb := 0, busyBeat := true, sfdAt := none, stf := none, clipAt := none
    preset := if x.solicited then none else x.preset, named := if x.solicited then [] else x.named
    done := y :: x.done.filter (fun z => decide (t < z.ended + 1024000)) }

theorem Dev.stopRx_stopped (d : Dev) (t r : Nat) (y : RxDone) (heard held : Bool) (chains : Nat) :
    OnlyChains (d.modRx r (Rx.stopped t y)) (d.stopRx t r y heard held chains) := by
  have hports (e : Dev) : OnlyChains e (if heard then (List.range 16).foldl (fun e i =>
      if nbit chains i then e.modChain (16 * r + i) (fun z => { z with lastPort := some z.port }) else e) e else e) :=
    onlyChains_ite (onlyChains_foldl (fun e i => onlyChains_ite (onlyChains_modChain e _ _) (.refl e)) _ e) (.refl e)
  exact onlyChains_ite (hports _) ((hports _).trans (onlyChains_femSettle _ t r))

theorem Dev.stopRx_rx (d : Dev) (t r : Nat) (y : RxDone) (heard held : Bool) (chains : Nat) (j : Nat) :
    (d.stopRx t r y heard held chains).rx j = if j = r then (d.rx r).stopped t y else d.rx j := by
  rw [Dev.rx_congr (congrArg Mdm.rx (d.stopRx_stopped t r y heard held chains).mdm), Dev.rx_modRx]

theorem Dev.stopRx_logged (d : Dev) (t r : Nat) (y : RxDone) (heard held : Bool) (chains : Nat) :
    (d.stopRx t r y heard held chains).logged r = d.logged r :=
  Dev.logged_congr (congrArg Mdm.logCount (d.stopRx_stopped t r y heard held chains).mdm) r

theorem Dev.stopRx_log (d : Dev) (t r : Nat) (y : RxDone) (heard held : Bool) (chains : Nat) :
    (d.stopRx t r y heard held chains).mdm.log = d.mdm.log :=
  (congrArg Mdm.log (d.stopRx_stopped t r y heard held chains).mdm).trans rfl

theorem Dev.stopRx_clipFlagged (d : Dev) (t r : Nat) (y : RxDone) (heard held : Bool) (chains : Nat) :
    (d.stopRx t r y heard held chains).clipFlagged = d.clipFlagged :=
  (Dev.clipFlagged_congr (d.stopRx_stopped t r y heard held chains).regs).trans rfl

/-! A reception that ends short of its end (R155 to R157, R163, R164). -/

/-- The users of whom a reception that ends short has reports of their own: of a solicited one that was no false detection, those that the trigger named. -/
def Dev.abortCast (d : Dev) (t r status : Nat) : List CastEntry := if (d.rx r).solicited && status != 2 then d.tbCast t r else []

theorem ClipLanded.abortCast {t r : Nat} {d e : Dev} (h : ClipLanded t r d e) (status : Nat) : e.abortCast t r status = d.abortCast t r status := by
  unfold Dev.abortCast
  rw [h.rx, h.tbCast]

/-- How many reports a reception has that a newcomer ends, or that ends as a false detection at that instant (R159). -/
theorem Dev.abortCast_length (d : Dev) (t r : Nat) (false' : Bool) :
    Nat.max 1 (d.abortCast t r (if false' then 2 else 1)).length =
      if (d.rx r).solicited = true ∧ false' = false then Nat.max 1 (d.tbCast t r).length else 1 := by
  unfold Dev.abortCast
  cases false' <;> cases (d.rx r).solicited <;> rfl

/-- The reports are written: one of `u`, or one for each user in `cast`. -/
def Dev.abortReports (d : Dev) (t r status newc : Nat) (u : UserReport) (cast : List CastEntry) : Dev :=
  if cast.isEmpty then d.abortReport t r status newc u
  else cast.foldl (fun e c => e.abortReport t r status newc (plannedUser (e.openReport r) c)) d

section
variable (d : Dev) (t r status newc : Nat) (u : UserReport) (cast : List CastEntry) (held : Bool)

theorem Dev.abortReport_reported : Reported r 1 d (d.abortReport t r status newc u) :=
  have h := Dev.report_reported { d with freeN := d.freeN + 2 } t r status u newc
  ⟨h.rx, h.logged, h.clipped⟩

theorem Dev.abortReports_reported : Reported r (Nat.max 1 cast.length) d (d.abortReports t r status newc u cast) := by
  cases cast with
  | nil => exact d.abortReport_reported t r status newc u
  | cons c cast =>
    have hlen : Nat.max 1 (c :: cast).length = (c :: cast).length * 1 := by
      rw [Nat.mul_one]; exact Nat.max_eq_right (by simp)
    rw [hlen]
    exact reported_foldl (fun e c => e.abortReport_reported t r status newc (plannedUser (e.openReport r) c)) (c :: cast) d

/-- The reports, then the end of the reception. -/
theorem Dev.abortRx_eq : ∃ (u : UserReport) (y : RxDone) (heard : Bool) (chains : Nat), d.abortRx t r status newc held =
    ((d.clipDue t r).abortReports t r status newc u (d.abortCast t r status)).stopRx t r y heard held chains := by
  rw [← (d.clipDue_landed t r).abortCast]
  exact ⟨_, _, _, _, rfl⟩

theorem Dev.abortRx_rx : ∃ (x : Rx) (y : RxDone), (d.abortRx t r status newc held).rx r = x.stopped t y := by
  obtain ⟨u, y, heard, chains, heq⟩ := d.abortRx_eq t r status newc held
  exact ⟨_, y, by rw [heq, Dev.stopRx_rx, if_pos rfl]⟩

theorem Dev.abortRx_logged : (d.abortRx t r status newc held).logged r = d.logged r + Nat.max 1 (d.abortCast t r status).length := by
  obtain ⟨u, y, heard, chains, heq⟩ := d.abortRx_eq t r status newc held
  rw [heq, Dev.stopRx_logged, (Dev.abortReports_reported _ t r status newc u _).logged, Dev.logged_congr (d.clipDue_landed t r).logCount]

end

/-- Between two devices the receiver of radio `r` has been freed, with one report of a status next in its log. -/
structure EndedWith (r status : Nat) (d e : Dev) : Prop where
  receiving : (e.rx r).receiving = false
  logged : e.logged r = d.logged r + 1
  status : fld (wd (tlook (fun _ => []) e.mdm.log (r * 4096 + d.logged r % 4096)) 0) 53 50 = status

theorem EndedWith.of_mdm {r status : Nat} {d d' e : Dev} (hm : d'.mdm = d.mdm) (h : EndedWith r status d' e) : EndedWith r status d e :=
  have hlogged : d'.logged r = d.logged r := Dev.logged_congr (by rw [hm]) r
  ⟨h.receiving, hlogged ▸ h.logged, hlogged ▸ h.status⟩

/-- A reception that was not solicited, or a false detection, has one report as it ends short. -/
theorem Dev.abortRx_endedWith {d : Dev} {r status : Nat} (t newc : Nat) (held : Bool) (h : (d.rx r).solicited = false ∨ status = 2) (hs : status < 16) :
    EndedWith r status d (d.abortRx t r status newc held) := by
  have hcast : d.abortCast t r status = [] := if_neg (by rcases h with h | h <;> simp [h])
  have hclip := d.clipDue_landed t r
  obtain ⟨x, y, hrx⟩ := d.abortRx_rx t r status newc held
  obtain ⟨u, y, heard, chains, heq⟩ := d.abortRx_eq t r status newc held
  refine ⟨by rw [hrx]; rfl, by rw [Dev.abortRx_logged, hcast]; rfl, ?_⟩
  rw [heq, hcast, Dev.stopRx_log, ← Dev.logged_congr hclip.logCount]
  exact Dev.report_status { d.clipDue t r with freeN := (d.clipDue t r).freeN + 2 } t r u newc hs

/-! LSIG_CHECK, DSSS_SFD_TIMEOUT and SR_ABORT (R155, R156, R163). -/

/-- The check judges an OFDM reception once, after the clipping that came with it. -/
theorem goLsigCheck_judged {d : Dev} {r : Nat} (t : Nat) (x : LSig) (hr : (d.rx r).receiving = true) (hd : (d.rx r).dsss = false)
    (hl : (d.rx r).lsigPassed = false) : goLsigCheck t r x d =
      if d.lsigFails r x then (d.clip t r x.clipped).abortRx t r 2 ((d.clip t r x.clipped).rx r).lostDb false
      else (d.clip t r x.clipped).modRx r (fun y => { y with lsigPassed := true, stf := x.stf.map (fun z => (y.start + z.1, z.2)) }) := by
  rw [← Dev.lsigFails_congr (show (d.clip t r x.clipped).force = d.force by rw [Dev.clip_frame])]
  exact if_neg (by simp [hr, hd, hl])

theorem goDsssSfdTimeout_ended {d : Dev} {t r : Nat} {bad : Bool} (hr : (d.rx r).receiving = true) (hd : (d.rx r).dsss = true)
    (h : bad = true ∨ (d.rx r).noSfd t = true) : EndedWith r 2 d (goDsssSfdTimeout t r bad d) := by
  unfold goDsssSfdTimeout
  rw [if_pos (by rcases h with h | h <;> simp [hr, hd, h])]
  exact Dev.abortRx_endedWith t _ false (.inr rfl) (by decide)

theorem goSrAbort_ended {d : Dev} {t r colour : Nat} {power : Int} (hr : (d.rx r).receiving = true) (hs : (d.rx r).solicited = false)
    (hc : d.ownColour r colour = false) (hp : power < d.obssPd t r) : EndedWith r 6 d (goSrAbort t r colour power d) := by
  unfold goSrAbort
  rw [if_pos (by simp [hr, hs, hc, hp])]
  exact Dev.abortRx_endedWith t _ false (.inl hs) (by decide)

/-! CAPTURE (R157 to R159). -/

/-- The receiver that a newcomer takes over. -/
def Rx.capturedBy (t : Nat) (power : Int) (x : Newcomer) (y : Rx) : Rx :=
  { y with
    receiving := true, start := t - Nat.max 1600 (Nat.min 4000 x.sinceNs), detected := t, level := power, frozen := true, dsss := x.dsss, solicited := x.solicited
    sfdAt := x.sfdNs.map (t + ·), gains := gainsOf x.gains, clipAt := x.clipNs.map (t + ·) }

section
variable {t r : Nat} {power : Int} {lsig : Option LSig} {x : Newcomer} {d : Dev} (hr : (d.rx r).receiving = true) (hh : d.hears r = true)
  (hc : d.correlates t r false = true ∨ x.txStarts = true) (hd : x.dsss = true → d.barker r = true)
include hr hh hc hd

/-- The second correlator declares the newcomer. -/
theorem goCapture_declared :
    (!(d.rx r).receiving || !d.correlates t r false && !x.txStarts || !d.hears r || (x.dsss && !d.barker r)) = false := by
  have hb : (x.dsss && !d.barker r) = false := by
    cases h : x.dsss
    · rfl
    · simp [hd h]
  rcases hc with hc | hc <;> simp [hr, hh, hc, hb]

/-- A newcomer that exceeds the level by the margin ends the reception, as a false detection when its L-SIG fails at that instant, and takes the receiver. -/
theorem goCapture_captured (hcap : d.captures r power x.txStarts = true) : ∃ newc, goCapture t r power lsig x d =
    ((((d.clipDue t r).clip t r x.clipped).abortRx t r (if d.falseAt r lsig then 2 else 1) newc true).modRx r (Rx.capturedBy t power x)).bump (24 + r) 9 := by
  have hclip := (d.clipDue_landed t r).clip x.clipped
  unfold goCapture
  rw [if_neg (by rw [goCapture_declared hr hh hc hd]; decide)]
  dsimp only
  rw [if_pos (by rw [hclip.captures, hcap]), hclip.falseAt]
  split <;> exact ⟨_, rfl⟩

/-- The newcomer has the receiver, and what it ended has its reports. -/
theorem goCapture_takes (hcap : d.captures r power x.txStarts = true) : ∃ z : Rx, z.lsigPassed = false ∧
    (goCapture t r power lsig x d).rx r = Rx.capturedBy t power x z ∧ (goCapture t r power lsig x d).logged r = d.logged r +
      if (d.rx r).solicited = true ∧ d.falseAt r lsig = false then Nat.max 1 (d.tbCast t r).length else 1 := by
  obtain ⟨newc, hgo⟩ := goCapture_captured (t := t) (lsig := lsig) hr hh hc hd hcap
  have hclip := (d.clipDue_landed t r).clip x.clipped
  obtain ⟨z, y, hz⟩ := ((d.clipDue t r).clip t r x.clipped).abortRx_rx t r (if d.falseAt r lsig then 2 else 1) newc true
  have hlog := ((d.clipDue t r).clip t r x.clipped).abortRx_logged t r (if d.falseAt r lsig then 2 else 1) newc true
  rw [hclip.abortCast, Dev.logged_congr hclip.logCount, d.abortCast_length] at hlog
  generalize Dev.abortRx _ _ _ _ _ _ = e at hgo hz hlog
  rw [hgo]
  exact ⟨z.stopped t y, rfl, (e.rx_modRx r _ r).trans (by rw [if_pos rfl, hz]), hlog⟩

/-- Another newcomer is lost, after the clipping that came with it. -/
theorem goCapture_lost (hcap : d.captures r power x.txStarts = false) : goCapture t r power none x d =
    ((d.clipDue t r).clip t r x.clipped).loseNewcomer r power := by
  have hclip := (d.clipDue_landed t r).clip x.clipped
  unfold goCapture
  rw [if_neg (by rw [goCapture_declared hr hh hc hd]; decide)]
  dsimp only
  rw [if_neg (by rw [hclip.captures, hcap]; decide)]

end

section
variable (d : Dev) (r : Nat) (power : Int)

theorem Dev.loseNewcomer_rx : (d.loseNewcomer r power).rx r = { d.rx r with lostDb := Nat.max (d.rx r).lostDb (power - (d.rx r).level).toNat } := by
  have hmdm : (d.loseNewcomer r power).mdm = (d.modRx r (fun y => { y with lostDb := Nat.max y.lostDb (power - y.level).toNat })).mdm := by
    simp only [Dev.loseNewcomer, Dev.bump_mdm, Dev.step_mdm]
  rw [Dev.rx_congr (congrArg Mdm.rx hmdm), Dev.rx_modRx, if_pos rfl]

theorem Dev.loseNewcomer_counter : (d.loseNewcomer r power).counter (24 + r) 8 = (d.counter (24 + r) 8 + 1) % 2 ^ 48 := by
  rw [Dev.loseNewcomer, Dev.counter_bump _ _ _ _ _ _ (by omega) (by omega), if_pos ⟨rfl, rfl⟩,
    Dev.counter_congr (show (Dev.step _ 0x3042 0 r).counts = d.counts by simp)]

theorem Dev.loseNewcomer_frame : d.loseNewcomer r power = { d with
    mdm := (d.loseNewcomer r power).mdm, props := (d.loseNewcomer r power).props, force := (d.loseNewcomer r power).force, counts := (d.loseNewcomer r power).counts } := by
  apply Dev.eq_of_fields <;> simp [Dev.loseNewcomer]

end

/-! The end of a reception (R164 to R175). -/

theorem noted_estimates (d : Dev) (r status : Nat) (u : UserReport) : Noted d (d.estimates r status u) := by
  unfold Dev.estimates
  dsimp only
  split
  · exact noted_of_eq rfl rfl
  · split <;> exact noted_of_eq rfl rfl

theorem feedback_reported (d : Dev) (t r : Nat) (f : Feedback) : Reported r 0 d (d.feedback t r f) := by
  unfold Dev.feedback
  split
  · exact ((noted_bump ..).trans (noted_inc ..)).reported r
  · exact ⟨fun _ => rfl, rfl, id⟩

theorem putCross_reported (d : Dev) (t r : Nat) (x : CrossEst) : Reported r 0 d (d.putCross t r x) := by
  unfold Dev.putCross
  dsimp only
  split
  · exact .refl r d
  · exact ⟨fun _ => rfl, rfl, id⟩

/-- How many users an ended reception has. -/
theorem Dev.rxUsers_length (d : Dev) (t r : Nat) (l : List UserReport) : (d.rxUsers t r l).length =
    if !(d.rx r).solicited then 1 else if (d.tbCast t r).isEmpty then l.length else (d.tbCast t r).length := by
  unfold Dev.rxUsers
  dsimp only
  split
  · rfl
  · split <;> simp

theorem ClipLanded.rxUsers_length {t r : Nat} {d e : Dev} (h : ClipLanded t r d e) (l : List UserReport) :
    (e.rxUsers t r l).length = (d.rxUsers t r l).length := by
  rw [Dev.rxUsers_length, Dev.rxUsers_length, h.rx, h.tbCast]

theorem RxDone.ofEnd_start (start t : Nat) (solicited : Bool) (us : List (UserReport × Nat)) : (RxDone.ofEnd start t solicited us).start = start := by
  unfold RxDone.ofEnd
  split
  · rfl
  · split <;> rfl

/-- The reports of an ended reception's users, with the estimates, the feedback and the cross-channel estimates that go with them. -/
def Dev.endReports (d : Dev) (t r newc : Nat) (us : List (UserReport × Nat)) (x : RxEnd) : Dev :=
  x.cross.foldl (fun e c => e.putCross t r c) (x.feedback.foldl (fun e f => e.feedback t r f)
    (us.foldl (fun e u => ((e.report t r u.2 u.1 newc).estimates r u.2 u.1).bump (27 + r) 6 (if u.2 = 4 then 0 else u.1.bccOctets)) d))

theorem Dev.endReports_reported (d : Dev) (t r newc : Nat) (us : List (UserReport × Nat)) (x : RxEnd) :
    Reported r us.length d (d.endReports t r newc us x) := by
  have huser (e : Dev) (u : UserReport × Nat) (n : Nat) :
      Reported r 1 e (((e.report t r u.2 u.1 newc).estimates r u.2 u.1).bump (27 + r) 6 n) :=
    (e.report_reported t r u.2 u.1 newc).trans (((noted_estimates _ r u.2 u.1).trans (noted_bump ..)).reported r)
  have hall := ((reported_foldl (fun e u => huser e u (if u.2 = 4 then 0 else u.1.bccOctets)) us d).trans
    (reported_foldl (fun e f => feedback_reported e t r f) x.feedback _)).trans (reported_foldl (fun e c => putCross_reported e t r c) x.cross _)
  rwa [Nat.mul_one, Nat.mul_zero, Nat.mul_zero] at hall

/-- The order in which the detector took the streams is left in the receiver (R171). -/
def Rx.tookStreams (x : RxEnd) (z : Rx) : Rx := { z with sic := (sortBy (fun k => 4096 - k.2) x.snr).map (·.1) }

/-- One report for each user; then the order of the streams is left, and the receiver is freed. -/
theorem goReceptionEnd_reported {t r : Nat} (x : RxEnd) {d : Dev} (hr : (d.rx r).receiving = true) :
    ∃ (e : Dev) (y : RxDone) (chains : Nat), Reported r (d.rxUsers t r x.reports).length ((d.clipDue t r).clip t r x.clipped) e ∧ y.start = (d.rx r).start ∧
      goReceptionEnd t r x d = (e.modRx r (Rx.tookStreams x)).stopRx t r y true false chains := by
  have hlen := ((d.clipDue_landed t r).clip x.clipped).rxUsers_length x.reports
  have hend : goReceptionEnd t r x d = _ := if_neg (by simp [hr])
  refine ⟨_, _, _, ?_, RxDone.ofEnd_start _ _ _ _, hend⟩
  generalize (d.clipDue t r).clip t r x.clipped = e at hlen ⊢
  generalize hus : (e.rxUsers t r x.reports).map _ = us
  have hcount : us.length = (d.rxUsers t r x.reports).length := by rw [← hus, List.length_map, hlen]
  rw [← hcount]
  split
  · have h := Dev.endReports_reported { e with freeN := e.freeN + 2 * (e.rxUsers t r x.reports).length } t r (d.rx r).lostDb us x
    exact ⟨h.rx, h.logged, h.clipped⟩
  · exact e.endReports_reported t r (d.rx r).lostDb us x

theorem goReceptionEnd_frees {t r : Nat} (x : RxEnd) {d : Dev} (hr : (d.rx r).receiving = true) :
    ∃ (z : Rx) (y : RxDone), (goReceptionEnd t r x d).rx r = (Rx.tookStreams x z).stopped t y ∧ y.start = (d.rx r).start ∧
      (goReceptionEnd t r x d).logged r = d.logged r + (d.rxUsers t r x.reports).length ∧
      (x.clipped = true → (goReceptionEnd t r x d).clipFlagged = true) ∧ ∀ j, j ≠ r → (goReceptionEnd t r x d).rx j = d.rx j := by
  obtain ⟨e, y, chains, hrep, hstart, hgo⟩ := goReceptionEnd_reported (t := t) x hr
  have hdue := d.clipDue_landed t r
  have hclip := hdue.clip x.clipped
  refine ⟨e.rx r, y, ?_, hstart, ?_, fun hc => ?_, fun j hj => ?_⟩ <;> rw [hgo]
  · rw [Dev.stopRx_rx, if_pos rfl, Dev.rx_modRx, if_pos rfl]
  · rw [Dev.stopRx_logged, Dev.logged_modRx, hrep.logged, Dev.logged_congr hclip.logCount]
  · exact (Dev.stopRx_clipFlagged _ _ _ _ _ _ _).trans (hrep.clipped (Dev.clip_flags _ hc (by rw [hdue.rx]; exact hr)))
  · rw [Dev.stopRx_rx, if_neg hj, Dev.rx_modRx, if_neg hj, hrep.rx, hclip.others j hj]

/-! Reads (R166, R180, R181). -/

/-- The report of one of the 64 latest ticks of a radio in service is answered (R180). -/
theorem goMdmNoiseRead_answer {d : Dev} {t r tick : Nat} {x : Nat × NoiseRep} (hr : r ≠ 3)
    (hx : d.mdm.noise.find? (fun y => y.1 == r && y.2.tick == tick) = some x) (hin : x.2.inService = true) (hpast : tick < tickOf t) (hlast : tickOf t ≤ tick + 64) :
    judged d [(r == 3, .badParam), (!((((d.mdm.noise.find? (fun y => y.1 == r && y.2.tick == tick)).map (·.2)).map (·.inService)).getD false), .wrongState),
        (decide (tickOf t ≤ tick) || decide (tick + 64 < tickOf t), .wrongState)]
      (fun e => (.ok, (((d.mdm.noise.find? (fun y => y.1 == r && y.2.tick == tick)).map (·.2)).map NoiseRep.words).getD [], e)) = (.ok, x.2.words, d) := by
  rw [judged_none _ (by simp [hr, hx, hin, Nat.not_le.mpr hpast, Nat.not_lt.mpr hlast]), hx]
  rfl

/-- Settles O19: each clause is the lemma of its event, with what the clipping before it leaves alone. -/
theorem receptionsAndNoiseComplete : Obligations.ReceptionsAndNoiseComplete := by
  unfold Obligations.ReceptionsAndNoiseComplete
  refine ⟨⟨fun s r x hc hr hcorr hpow hd => ?_, fun s r x h => completes_act _ rfl (goDetection_none h), fun s r x hr hd hl => ⟨fun hx => ?_, fun hx => ?_⟩,
    fun s r bad hr hd h => ?_, fun s r power lsig x hr hh hc hd => ⟨fun hcap => ?_, fun hcap hl => ?_⟩, fun s r colour power hr hs hc hp => ?_, fun s r x hr => ?_⟩,
    fun s means => ⟨_, completes_act _ rfl rfl, rfl, rfl⟩, fun s f req x hadm hv hr hx hin hpast hlast => ?_, fun s f req sid hadm hv hsid hused hown => ?_⟩
  · obtain ⟨fe, counts, hgo⟩ := goDetection_taken (t := s.now) hc hr hcorr hpow hd
    refine ⟨_, completes_act _ rfl hgo, ?_, fun j hj => ?_, rfl⟩
    · exact (Dev.rx_modRx s.dev r (Rx.detects s.now x) r).trans (if_pos rfl)
    · exact (Dev.rx_modRx s.dev r (Rx.detects s.now x) j).trans (if_neg hj)
  · have hrx : ∀ j, (s.dev.clip s.now r x.clipped).rx j = s.dev.rx j := Dev.rx_congr (by rw [Dev.clip_mdm])
    refine ⟨_, completes_act _ rfl ((goLsigCheck_judged s.now x hr hd hl).trans (if_neg (by simp [hx]))), ?_, fun hc => ?_, fun j hj => ?_, ?_⟩
    · rw [Dev.rx_modRx, if_pos rfl, hrx]
    · exact Dev.clip_flags s.now hc hr
    · rw [Dev.rx_modRx, if_neg hj, hrx]
    · rw [Dev.modRx, Dev.clip_frame]
  · have h := (Dev.abortRx_endedWith (r := r) s.now ((s.dev.clip s.now r x.clipped).rx r).lostDb false (.inr rfl) (by decide)).of_mdm (s.dev.clip_mdm s.now r x.clipped)
    exact ⟨_, completes_act _ rfl ((goLsigCheck_judged s.now x hr hd hl).trans (if_pos hx)), h.receiving, h.logged, h.status⟩
  · have h := goDsssSfdTimeout_ended hr hd h
    exact ⟨_, completes_act _ rfl rfl, h.receiving, h.logged, h.status⟩
  · obtain ⟨z, hz, hrx, hlog⟩ := goCapture_takes (t := s.now) (lsig := lsig) hr hh hc hd hcap
    exact ⟨_, completes_act _ rfl rfl, congrArg Rx.receiving hrx, congrArg Rx.level hrx, congrArg Rx.frozen hrx, congrArg Rx.dsss hrx,
      congrArg Rx.solicited hrx, (congrArg Rx.lsigPassed hrx).trans hz, congrArg Rx.start hrx, hlog⟩
  · subst hl
    have hclip := (s.dev.clipDue_landed s.now r).clip x.clipped
    refine ⟨_, completes_act _ rfl (goCapture_lost (t := s.now) hr hh hc hd hcap), ?_, ?_, ?_⟩
    · rw [Dev.loseNewcomer_rx, hclip.rx]
    · rw [Dev.loseNewcomer_counter, hclip.counter]
    · rw [Dev.loseNewcomer_frame, hclip.frame]
  · have h := goSrAbort_ended hr hs hc hp
    exact ⟨_, completes_act _ rfl rfl, h.receiving, h.logged, h.status⟩
  · obtain ⟨z, y, hrx, hstart, hlog, hclipped, hothers⟩ := goReceptionEnd_frees (t := s.now) x hr
    refine ⟨_, completes_act _ rfl rfl, ?_, ?_, hlog, ?_, ⟨y, ?_, hstart⟩, hclipped, hothers⟩ <;> rw [hrx] <;> rfl
  · obtain ⟨d, hc, hans, hd⟩ := completes_now (c := .mdmNoiseRead f req) (st := .ok) rfl rfl hadm (by simp [fixedSpec]) (by simp [fixedSpec])
      (by simp [fixedSpec, hv]) (goMdmNoiseRead_answer (d := s.dev.taken f req) hr hx hin hpast hlast) (by decide) rfl
    exact ⟨d, hc, hans, by rw [hd]; rfl⟩
  · have hrows : ∀ row ∈ [((s.dev.sta sid).used && !s.dev.ownsSta (.fn f) sid, Status.notPermitted), (!(s.dev.sta sid).used, .wrongState)], row.1 = false := by
      simp [hown, hused]
    subst hsid
    obtain ⟨d, hc, hans, hd⟩ := completes_now (c := .mdmQualityRead f req) (st := .ok) rfl rfl hadm (by simp [fixedSpec]) (by simp [fixedSpec])
      (by simp [fixedSpec, hv]) (judged_none _ hrows) (by decide) rfl
    exact ⟨d, hc, hans, by rw [hd]; rfl⟩

end Sys2Proof.Machine
end

section
/-! PROOFS. Big Top, shared: what sending a frame leaves alone, and what the loss, the return and an offset of the source of time do to the member (R234, R237, R244). -/
namespace Sys2Proof.Machine

/-! A frame of the device's own on its way to a port (R312, R315). -/

/-- Between two devices only frames on their way to the ports have moved: the traffic manager, the ports, the hand-offs that wait, and counts. -/
def OnlyTraffic (d e : Dev) : Prop :=
  ∃ tm emac glb props force counts, e = { d with tm := tm, emac := emac, glb := glb, props := props, force := force, counts := counts }

theorem OnlyTraffic.refl (d : Dev) : OnlyTraffic d d := ⟨d.tm, d.emac, d.glb, d.props, d.force, d.counts, rfl⟩

theorem OnlyTraffic.trans {d e a : Dev} (h : OnlyTraffic d e) (h' : OnlyTraffic e a) : OnlyTraffic d a := by
  obtain ⟨tm, emac, glb, props, force, counts, rfl⟩ := h
  obtain ⟨tm', emac', glb', props', force', counts', rfl⟩ := h'
  exact ⟨tm', emac', glb', props', force', counts', rfl⟩

section
variable {d e : Dev} (h : OnlyTraffic d e)
include h

theorem OnlyTraffic.bt : e.bt = d.bt := by obtain ⟨_, _, _, _, _, _, rfl⟩ := h; rfl
theorem OnlyTraffic.fns : e.fns = d.fns := by obtain ⟨_, _, _, _, _, _, rfl⟩ := h; rfl
theorem OnlyTraffic.regs : e.regs = d.regs := by obtain ⟨_, _, _, _, _, _, rfl⟩ := h; rfl
theorem OnlyTraffic.pln : e.pln = d.pln := by obtain ⟨_, _, _, _, _, _, rfl⟩ := h; rfl

end

theorem onlyTraffic_ite {d a b : Dev} {c : Prop} [Decidable c] (ha : OnlyTraffic d a) (hb : OnlyTraffic d b) : OnlyTraffic d (if c then a else b) := by
  split
  · exact ha
  · exact hb

theorem onlyTraffic_foldl {β : Type} {op : Dev → β → Dev} (h : ∀ e b, OnlyTraffic e (op e b)) (l : List β) (d : Dev) : OnlyTraffic d (l.foldl op d) :=
  List.foldlRecOn (motive := OnlyTraffic d) l op (.refl d) fun _ he b _ => he.trans (h _ b)

theorem onlyTraffic_bump (d : Dev) (b k n : Nat) : OnlyTraffic d (d.bump b k n) := ⟨_, _, _, _, _, _, rfl⟩

theorem onlyTraffic_tailDrop (d : Dev) (t ten : Nat) : OnlyTraffic d (d.tailDrop t ten none) := ⟨_, _, _, _, _, _, rfl⟩

theorem onlyTraffic_shaperTake (d : Dev) (p t : Nat) (x : Pkt) : OnlyTraffic d (d.shaperTake p t x) :=
  onlyTraffic_ite (.refl d) ⟨_, _, _, _, _, _, rfl⟩

theorem onlyTraffic_moveFrame (d : Dev) (p t c deficit : Nat) (x : Pkt) (rest : List Pkt) : OnlyTraffic d (d.moveFrame p t c deficit x rest) :=
  have hqueue : ∀ tm : Tm, OnlyTraffic d { d with tm := tm } := fun _ => ⟨_, _, _, _, _, _, rfl⟩
  have hport : ∀ (e : Dev) (f : Port → Port), OnlyTraffic e (e.modPort p f) := fun _ _ => ⟨_, _, _, _, _, _, rfl⟩
  have hdelay : ∀ (e : Dev) (q n : Nat), OnlyTraffic e (e.noteDelay q n) := fun _ _ _ => ⟨_, _, _, _, _, _, rfl⟩
  (((((hqueue _).trans (onlyTraffic_shaperTake _ p t x)).trans (hdelay _ _ _)).trans (hport _ _)).trans (onlyTraffic_bump _ 36 p 1)).trans
    ((onlyTraffic_bump _ 36 (4 + p) _).trans (onlyTraffic_bump _ 41 16 _))

theorem onlyTraffic_drrStep (d : Dev) (p c : Nat) : OnlyTraffic d (d.drrStep p c) := by
  unfold Dev.drrStep
  dsimp only
  split
  case h_1 => exact ⟨_, _, _, _, _, _, rfl⟩
  case h_2 => exact onlyTraffic_ite ⟨_, _, _, _, _, _, rfl⟩ (onlyTraffic_ite (onlyTraffic_moveFrame d _ _ _ _ _ _) ⟨_, _, _, _, _, _, rfl⟩)

theorem onlyTraffic_pumpClass (p c n : Nat) (d : Dev) : OnlyTraffic d (Dev.pumpClass p c n d) := by
  induction n generalizing d with
  | zero => exact .refl d
  | succ n ih => exact onlyTraffic_ite ((onlyTraffic_drrStep d p c).trans (ih _)) (.refl d)

/-- A frame without a descriptor joins its queue or is dropped at the tail. -/
theorem onlyTraffic_toPort (d : Dev) (t p : Nat) {x : Pkt} (hx : x.desc = none) : OnlyTraffic d (d.toPort t p x) := by
  unfold Dev.toPort Dev.pump
  dsimp only
  rw [hx]
  exact onlyTraffic_ite (onlyTraffic_tailDrop d t x.tenant) (.trans ⟨_, _, _, _, _, _, rfl⟩ (onlyTraffic_pumpClass _ _ _ _))

/-- A frame of the member's own is noted as sent; the rest is traffic (R246). -/
theorem Dev.btSend_sent (d : Dev) (t msg tick seg : Nat) (body : List Byte) :
    OnlyTraffic (d.modBt (fun b => { b with tx := b.tx ++ [⟨msg, tick, body⟩] })) (d.btSend t msg tick seg body) :=
  onlyTraffic_foldl (fun e p => onlyTraffic_ite (onlyTraffic_toPort e t p rfl) (.refl e)) _ _

theorem Dev.btLeaveMsg_sent (d : Dev) (t : Nat) :
    OnlyTraffic (d.modBt (fun b => { b with tx := b.tx ++ [⟨3, Nat.max d.bt.cueSent (tickOf t + 1), []⟩] })) (d.btLeaveMsg t) :=
  (d.btSend_sent t 3 _ 1 []).trans (onlyTraffic_bump _ 33 6 1)

/-- A Delay_Req takes the next sequenceId and waits for its transmit stamp (R236). -/
theorem Dev.askDelay_asked (d : Dev) (t p : Nat) (udp : Bool) :
    OnlyTraffic (d.modServo (fun s => { s with reqSeq := (s.reqSeq + 1) % 65536, reqSent := none })) (d.askDelay t p udp) :=
  onlyTraffic_toPort _ t p rfl

/-! The source of time (R234, R237, R244). -/

/-- The mode after the loss of the source: COORDINATED goes to HOLDOVER, ALIGNING to INDEPENDENT (R244). -/
def lostMode (m : BtMode) : BtMode := if m = .coordinated then .holdover else if m = .aligning then .independent else m

/-- The mode once the source is usable: INDEPENDENT goes to ALIGNING, HOLDOVER back to COORDINATED (R234, R244). -/
def foundMode (m : BtMode) : BtMode := if m = .independent then .aligning else if m = .holdover then .coordinated else m

theorem Dev.sourceLost_bt (d : Dev) :
    d.sourceLost.bt = { d.bt with mode := lostMode d.bt.mode, servo := { d.bt.servo with usable := false, goodTicks := 0, step := none } } := by
  unfold Dev.sourceLost
  dsimp only
  split
  case h_1 h => rw [h]; rfl
  case h_2 h => rw [h]; rfl
  case h_3 h1 h2 => rw [lostMode, if_neg h1, if_neg h2]; rfl

/-- A member whose source is usable; its good ticks begin anew where it was INDEPENDENT, which `goodTicks` and `goodNow` stand for. -/
def Bt.sourced (goodTicks : Nat) (goodNow : Bool) (b : Bt) : Bt :=
  { b with mode := foundMode b.mode, servo := { b.servo with usable := true, goodTicks := goodTicks, goodNow := goodNow } }

theorem Dev.sourceUsable_eq (d : Dev) : ∃ goodTicks goodNow, d.sourceUsable = d.modBt (Bt.sourced goodTicks goodNow) := by
  refine ⟨if d.bt.mode = .independent then 0 else d.bt.servo.goodTicks, if d.bt.mode = .independent then false else d.bt.servo.goodNow, ?_⟩
  unfold Dev.sourceUsable Dev.modBt Bt.sourced foundMode
  cases h : d.bt.mode <;> simp [Dev.modServo, Dev.modBt, h]

/-- The limit in ns beyond which an offset is stepped (R237). -/
def Dev.stepLimit (d : Dev) : Int := ((d.pv 0x5011 * 1000 : Nat) : Int)

/-- A servo with an offset to correct: slewed, or stepped when it is ahead by more than the limit (R237); the last offset is not filtered, which is the model's choice (log 17). -/
def Servo.corrected (limit off : Int) (lastCorr estAtCorr : Nat) (s : Servo) : Servo :=
  { s with offset := off, slew := if limit < off then 0 else off, step := if limit < off then some off.toNat else none
           lastCorr := lastCorr, estAtCorr := estAtCorr }

theorem Dev.applyOffset_eq (d : Dev) (t : Nat) (off : Int) : ∃ est, d.applyOffset t off =
    if off < -d.stepLimit then (d.modServo (Servo.corrected d.stepLimit off d.glb.up est)).inc t 7 5
    else d.modServo (Servo.corrected d.stepLimit off d.glb.up est) := ⟨_, rfl⟩

/-- What an offset from a usable source leaves; one behind by more than the limit sets bit 5 of BT_INCIDENT (R234, R237). -/
structure OffsetTaken (off : Int) (d e : Dev) : Prop where
  bt : ∃ goodTicks goodNow est,
    e.bt = { d.bt.sourced goodTicks goodNow with servo := (d.bt.sourced goodTicks goodNow).servo.corrected d.stepLimit off d.glb.up est }
  fns : e.fns = d.fns
  behind : off < -d.stepLimit → (e.reg 0x700040).getLsbD 5 = true

theorem Dev.sourceUsable_applyOffset (d : Dev) (t : Nat) (off : Int) : OffsetTaken off d (d.sourceUsable.applyOffset t off) := by
  obtain ⟨n, g, husable⟩ := d.sourceUsable_eq
  obtain ⟨est, hoff⟩ := d.sourceUsable.applyOffset_eq t off
  have hlimit : d.sourceUsable.stepLimit = d.stepLimit := by rw [husable]; rfl
  rw [hoff, hlimit, husable]
  split
  case isTrue => exact ⟨⟨n, g, est, Dev.inc_bt _ _ _ _ _⟩, Dev.inc_fns _ _ _ _ _, fun _ => Dev.inc_bit _ t 7 5 0 (by decide)⟩
  case isFalse hb => exact ⟨⟨n, g, est, rfl⟩, rfl, fun h => absurd h hb⟩

end Sys2Proof.Machine
end

section
/-! PROOFS. Membership of the venue: the mailbox commands of Big Top, the neighbour set that comes into force, and a neighbour's leave message (O29). -/
namespace Sys2Proof.Machine

theorem Dev.coordinating_of_leaving {d : Dev} {k : Nat} (h : d.bt.leaveTick = some k) : d.coordinating = false := by
  simp [Dev.coordinating, h]

/-! The commands of R259, on a device that has taken the request. -/

/-- The member with the fields of a BT_JOIN request: ALIGNING with a usable source, otherwise INDEPENDENT (R233, R235). -/
def Bt.joined (req : List Word) (b : Bt) : Bt := { b with
  mode := if b.servo.usable then .aligning else .independent, source := fld (wd req 3) 21 20, chip := fld (wd req 1) 29 16, venue := fld (wd req 1) 15 0
  group := fld (wd req 2) 47 0, ports := fld (wd req 3) 19 16, pcp := fld (wd req 3) 14 12, vlan := fld (wd req 3) 11 0 }

theorem btJoin_completes {s : State} {req : List Word} (ha : Admitted s.dev 0 req 4) (h1 : resv (wd req 1) [(63, 30)] = false)
    (h2 : resv (wd req 2) [(63, 48)] = false) (h3 : resv (wd req 3) [(63, 22), (15, 15)] = false) (hsrc : fld (wd req 3) 21 20 ≠ 3)
    (hports : fld (wd req 3) 19 16 ≠ 0) (hv0 : fld (wd req 3) 11 0 ≠ 0) (hv1 : fld (wd req 3) 11 0 ≠ 4095) (hgroup : nbit (wd req 2).toNat 40 = true)
    (hoff : s.dev.bt.mode = .off) (hup : ∀ p, p < 4 → nbit (fld (wd req 3) 19 16) p = true → s.dev.portEnabled p = true) :
    ∃ d, Completes (.btJoin 0 req) s d ∧ Answered s.dev d s.now 0 req 0x500 .ok [] ∧ d = { (s.dev.taken 0 req).modBt (Bt.joined req) with fns := d.fns } := by
  have hany : (List.range 4).any (fun p => nbit (fld (wd req 3) 19 16) p && !(s.dev.taken 0 req).portEnabled p) = false :=
    List.any_eq_false.mpr fun p hp => by
      have := hup p (List.mem_range.mp hp)
      rw [show (s.dev.taken 0 req).portEnabled p = s.dev.portEnabled p from rfl]
      simpa using this
  exact completes_now (c := .btJoin 0 req) (st := .ok) rfl rfl ha (fun _ => rfl) (by simp [fixedSpec]) (by simp [fixedSpec, h1, h2, h3])
    (judged_none _ (by simp [hsrc, hports, hv0, hv1, hgroup, hoff, hany])) (by decide) rfl

/-- The device that BT_LEAVE leaves: a coordinating member sends its leave message, and any member ends at the next tick (R245). -/
def Dev.leaving (d : Dev) (t : Nat) : Dev := (if d.coordinating then d.btLeaveMsg t else d).modBt (fun b => { b with leaveTick := some (tickOf t + 1) })

/-- The leave message changes the member's record of sent frames alone; the rest is traffic. -/
theorem Dev.leaving_sent (d : Dev) (t : Nat) : ∃ e, OnlyTraffic e (if d.coordinating then d.btLeaveMsg t else d) ∧ e.fns = d.fns ∧
    e.bt = { d.bt with tx := if d.coordinating then d.bt.tx ++ [⟨3, Nat.max d.bt.cueSent (tickOf t + 1), []⟩] else d.bt.tx } := by
  cases d.coordinating
  case false => exact ⟨d, .refl d, rfl, rfl⟩
  case true => exact ⟨_, d.btLeaveMsg_sent t, rfl, rfl⟩

theorem Dev.leaving_fns (d : Dev) (t : Nat) : (d.leaving t).fns = d.fns := by
  obtain ⟨e, hsent, hfns, -⟩ := d.leaving_sent t
  exact hsent.fns.trans hfns

theorem Dev.leaving_bt (d : Dev) (t : Nat) : (d.leaving t).bt = { d.bt with
    leaveTick := some (tickOf t + 1), tx := if d.coordinating then d.bt.tx ++ [⟨3, Nat.max d.bt.cueSent (tickOf t + 1), []⟩] else d.bt.tx } := by
  obtain ⟨e, hsent, -, hbt⟩ := d.leaving_sent t
  rw [Dev.leaving, Dev.modBt, hsent.bt, hbt]

theorem btLeave_completes {s : State} {req : List Word} (ha : Admitted s.dev 0 req 1) (hmode : s.dev.bt.mode ≠ .off) :
    ∃ d, Completes (.btLeave 0 req) s d ∧ Answered s.dev d s.now 0 req 0x501 .ok [] ∧ d = { (s.dev.taken 0 req).leaving s.now with fns := d.fns } :=
  completes_now (c := .btLeave 0 req) (st := .ok) rfl rfl ha (fun _ => rfl) (by simp [fixedSpec]) (by simp [fixedSpec])
    (judged_none _ (by simp [hmode])) (by decide) (Dev.leaving_fns _ _)

theorem btNeighbours_completes {s : State} {req : List Word} {n k : Nat} {chips : List Nat} (hn : n = fld (wd req 1) 53 48)
    (hchips : chips = ((List.range n).map (fun k => wd req (2 + k))).map (fun w => fld w 13 0)) (hk : k = fld (wd req 1) 47 0)
    (ha : Admitted s.dev 0 req (2 + n)) (h1 : resv (wd req 1) [(63, 54)] = false) (hw : ∀ i, i < n → resv (wd req (2 + i)) [(63, 14)] = false)
    (hmax : n ≤ 32) (htwice : hasTwice chips = false) (hown : s.dev.bt.chip ∉ chips) (hmode : s.dev.bt.mode ≠ .off) (hlate : tickOf s.now + 1 ≤ k) :
    ∃ d, Completes (.btNeighbours 0 req) s d ∧ Answered s.dev d s.now 0 req 0x510 .ok [] ∧
      d = { (s.dev.taken 0 req).modBt (fun b => { b with staged := some (k, chips) }) with fns := d.fns } := by
  have hany : ((List.range n).map (fun k => wd req (2 + k))).any (fun w => resv w [(63, 14)]) = false := by
    simpa using hw
  subst hn hk
  exact completes_now (c := .btNeighbours 0 req) (st := .ok) rfl rfl ha (fun _ => rfl) (by simp) (by simp [h1, hany])
    (by rw [← hchips]; exact judged_none _ (by simp [hmax, htwice, hmode, Nat.not_lt.mpr hlate, hown])) (by decide) rfl

/-- The device of a host's correction before its offset is applied: its error, its rate and its instant are kept (R235). -/
def Dev.adjusted (d : Dev) (req : List Word) : Dev :=
  d.modServo (fun s => { s with hostErr := fld (wd req 2) 63 32, rate := sgn 32 (fld (wd req 2) 31 0), lastSync := d.glb.up })

theorem btTimeAdjust_completes {s : State} {req : List Word} (ha : Admitted s.dev 0 req 3) (hlo : -100000 ≤ sgn 32 (fld (wd req 2) 31 0))
    (hhi : sgn 32 (fld (wd req 2) 31 0) ≤ 100000) (hsrc : s.dev.bt.source = 2) :
    ∃ d e, Completes (.btTimeAdjust 0 req) s d ∧ Answered s.dev d s.now 0 req 0x530 .ok [] ∧
      OffsetTaken (wd req 1).toInt ((s.dev.taken 0 req).adjusted req) e ∧ d = { e with fns := d.fns } := by
  have htaken := ((s.dev.taken 0 req).adjusted req).sourceUsable_applyOffset s.now (wd req 1).toInt
  obtain ⟨d, hc, hans, hd⟩ := completes_now (c := .btTimeAdjust 0 req) (st := .ok) rfl rfl ha (fun _ => rfl) (by simp [fixedSpec]) (by simp [fixedSpec])
    (judged_none _ (by simp [hsrc, Int.not_lt.mpr hlo, Int.not_lt.mpr hhi])) (by decide) htaken.fns
  exact ⟨d, _, hc, hans, htaken, hd⟩

/-- BT_STATUS answers in any mode; HOLD_MS before the first correction is the model's choice (log 147). -/
theorem btStatus_completes {s : State} {f : Nat} {req : List Word} (ha : Admitted s.dev f req 1) :
    ∃ d, Completes (.btStatus f req) s d ∧ Answered s.dev d s.now f req 0x520 .ok [packW [(s.dev.btAlign.toNat, 32, 0), (s.dev.btState.toNat, 32, 32)],
        packW [(s.dev.bt.finalTick, 48, 0), (s.dev.bt.venue, 16, 48)],
        packW [(s.dev.bt.coordMap, 32, 0), (Nat.min ((s.dev.glb.up - s.dev.bt.servo.lastCorr) / 1000000) 0xFFFFFFFF, 32, 32)]] ∧
      d = { s.dev.taken f req with fns := d.fns } :=
  completes_now (c := .btStatus f req) (st := .ok) rfl rfl ha (by simp [fixedSpec]) (by simp [fixedSpec]) (by simp [fixedSpec]) rfl (by decide) rfl

/-! What a tick and a neighbour bring (R245, R254). -/

theorem goNeighbourSetEffect_due {t k : Nat} {l : List Nat} {d : Dev} (hs : d.bt.staged = some (k, l)) (hk : k ≤ tickOf t) :
    goNeighbourSetEffect t d = d.modBt (fun b => { b with sets := ((k, l) :: b.sets).take 5, staged := none }) := by
  simp only [goNeighbourSetEffect, hs, hk, if_true]

theorem goLeaveMessage_known {x : BtFrame} {d : Dev} (ha : d.btAccepts x 3 = true) (hp : btPlain x.octets = true)
    (hk : d.knowsChip (btChip x.octets) = true) : goLeaveMessage x d =
      (d.modBt (fun b => { b with left := (btChip x.octets, btTickOf x.octets) :: b.left.filter (fun y => y.1 != btChip x.octets) })).bump 33 7 := by
  simp [goLeaveMessage, ha, hp, hk]

/-- A chip's leave message withdraws its cues from its tick on. -/
theorem Dev.cueOf_left {d : Dev} {chip tick k : Nat} (h : (chip, tick) ∈ d.bt.left) (hk : tick ≤ k) : d.cueOf k chip = none :=
  if_pos (List.any_eq_true.mpr ⟨_, h, by simpa using hk⟩)

/-- Settles O29: the lemma of each command gives its answer and the member it leaves. -/
theorem membershipCommandsComplete : Obligations.MembershipCommandsComplete := by
  unfold Obligations.MembershipCommandsComplete
  refine ⟨fun s req ha h1 h2 h3 hsrc hports hv0 hv1 hgroup hoff hup => ?_, fun s req ha hmode => ?_,
    fun s req n k chips hn hchips hk ha h1 hw hmax htwice hown hmode hlate => ?_, fun s k l hs hk => ⟨_, completes_act _ rfl (goNeighbourSetEffect_due hs hk), ?_⟩,
    fun s req off limit ha hoff hlimit hlo hhi hsrc => ?_, fun s f req ha => ?_, fun s x ha hp hk => ?_⟩
  · obtain ⟨d, hc, hans, hd⟩ := btJoin_completes ha h1 h2 h3 hsrc hports hv0 hv1 hgroup hoff hup
    exact ⟨d, hc, hans, by rw [hd]; rfl, by rw [hd]; rfl⟩
  · obtain ⟨d, hc, hans, hd⟩ := btLeave_completes ha hmode
    have hbt : d.bt = ((s.dev.taken 0 req).leaving s.now).bt := by rw [hd]
    rw [Dev.leaving_bt] at hbt
    exact ⟨d, hc, hans, by rw [hbt], by rw [hbt]; rfl, by rw [hbt]; rfl, Dev.coordinating_of_leaving (by rw [hbt])⟩
  · obtain ⟨d, hc, hans, hd⟩ := btNeighbours_completes hn hchips hk ha h1 hw hmax htwice hown hmode hlate
    exact ⟨d, hc, hans, by rw [hd]; rfl, by rw [hd]; rfl⟩
  · rw [Dev.modBt]
  · subst hoff hlimit
    obtain ⟨d, e, hc, hans, htaken, hd⟩ := btTimeAdjust_completes ha hlo hhi hsrc
    obtain ⟨n, g, est, hbt⟩ := htaken.bt
    have hd' : d.bt = e.bt := by rw [hd]
    rw [hbt] at hd'
    refine ⟨d, hc, hans, ?_, ?_, ?_, ?_, ?_, ?_, fun hb => ?_⟩
    any_goals rw [hd']; rfl
    rw [hd]
    exact htaken.behind hb
  · obtain ⟨d, hc, hans, hd⟩ := btStatus_completes ha
    exact ⟨d, hc, hans, by rw [hd]; rfl⟩
  · have hgo := goLeaveMessage_known ha hp hk
    refine ⟨_, completes_act _ rfl hgo, ?_, fun k hle => Dev.cueOf_left ?_ hle, rfl, rfl⟩ <;> exact List.mem_cons_self

end Sys2Proof.Machine
end

section
/-! PROOFS. Alignment of show time: the choice of the master and what its messages do, the step of show time, and the clapper (O30). -/
namespace Sys2Proof.Machine

/-! The best master (R236). -/

theorem before_asymm {l m : List Nat} (h : before l m = true) : before m l = false := by
  induction l generalizing m with
  | nil => exact absurd h (by simp [before])
  | cons x xs ih =>
    cases m with
    | nil => rfl
    | cons y ys =>
      simp only [before, Bool.or_eq_true, Bool.and_eq_true, decide_eq_true_eq, beq_iff_eq, Bool.or_eq_false_iff, Bool.and_eq_false_iff,
        decide_eq_false_iff_not, beq_eq_false_iff_ne] at h ⊢
      rcases h with h | ⟨rfl, h⟩
      · omega
      · exact ⟨Nat.lt_irrefl x, .inr (ih h)⟩

/-- Among lists of one length, what does not come before a second that does not come before a third does not come before the third. -/
theorem not_before_trans {l m n : List Nat} (hlm : l.length = m.length) (hmn : m.length = n.length) (h : before l m = false)
    (h' : before m n = false) : before l n = false := by
  induction l generalizing m n with
  | nil => rfl
  | cons x xs ih =>
    cases m with
    | nil => cases hlm
    | cons y ys =>
      cases n with
      | nil => rfl
      | cons z zs =>
        simp only [before, Bool.or_eq_false_iff, Bool.and_eq_false_iff, decide_eq_false_iff_not, beq_eq_false_iff_ne] at h h' ⊢
        obtain ⟨hxy, hxs⟩ := h
        obtain ⟨hyz, hys⟩ := h'
        refine ⟨by omega, ?_⟩
        by_cases hxz : x = z
        · exact .inr (ih (Nat.succ.inj hlm) (Nat.succ.inj hmn) (hxs.resolve_left (by omega)) (hys.resolve_left (by omega)))
        · exact .inl hxz

/-- The best master is one of those heard, and none of them comes before it in the ranking of IEEE 1588, which is the model's reading of R236 (log 129). -/
theorem bestMaster_best {l : List AnnounceMsg} {x : AnnounceMsg} (h : bestMaster l = some x) :
    x ∈ l ∧ ∀ y ∈ l, before (masterRank y) (masterRank x) = false := by
  induction l generalizing x with
  | nil => cases h
  | cons a rest ih =>
    have hself (y : AnnounceMsg) : before (masterRank y) (masterRank y) = false :=
      Bool.eq_false_iff.mpr fun h => Bool.eq_false_iff.mp (before_asymm h) h
    cases hr : bestMaster rest with
    | none =>
      have hnil : rest = [] := by
        cases rest with
        | nil => rfl
        | cons b rest =>
          simp only [bestMaster] at hr
          split at hr
          · split at hr <;> cases hr
          · cases hr
      simp only [bestMaster, hr, Option.some.injEq] at h
      subst h hnil
      exact ⟨List.mem_cons_self, fun y hy => List.mem_singleton.mp hy ▸ hself _⟩
    | some b =>
      obtain ⟨hb, hbest⟩ := ih hr
      simp only [bestMaster, hr] at h
      split at h
      case isTrue hlt =>
        cases h
        exact ⟨List.mem_cons_of_mem _ hb, List.forall_mem_cons.mpr ⟨before_asymm hlt, hbest⟩⟩
      case isFalse hge =>
        cases h
        exact ⟨List.mem_cons_self, List.forall_mem_cons.mpr ⟨hself _, fun y hy => not_before_trans (m := masterRank b) rfl rfl (hbest y hy) (Bool.eq_false_iff.mpr hge)⟩⟩

/-! Announce (R236, R244). -/

theorem Dev.chooseMaster_kept {d : Dev} {l : List AnnounceMsg} {x y : AnnounceMsg} (hx : bestMaster l = some x) (hy : d.bt.servo.parent = some y)
    (hs : sameMaster x y = true) : d.chooseMaster l = d.modServo (fun s => { s with masters := l, parent := some x }) := by
  simp [Dev.chooseMaster, hx, hy, hs]

/-- The choice among the masters heard changes nothing of the member but them, the one chosen and the exchange with it. -/
theorem Dev.chooseMaster_eq (d : Dev) (l : List AnnounceMsg) : ∃ heard exchange reqSent delay, d.chooseMaster l = d.modServo (fun s => { s with
    masters := l, parent := bestMaster l, heard := heard, exchange := exchange, reqSent := reqSent, delay := delay }) := by
  cases h : bestMaster l with
  | none => exact ⟨none, none, none, none, by rw [Dev.chooseMaster, h]; rfl⟩
  | some x =>
    cases hp : d.bt.servo.parent with
    | none => exact ⟨none, none, none, none, by rw [Dev.chooseMaster, h, hp]; rfl⟩
    | some y =>
      cases hs : sameMaster x y with
      | true => exact ⟨_, _, _, _, Dev.chooseMaster_kept h hp hs⟩
      | false => exact ⟨none, none, none, none, by rw [Dev.chooseMaster, h, hp, if_neg (by simp [hs])]; rfl⟩

theorem Dev.chooseMaster_masters (d : Dev) (l : List AnnounceMsg) : (d.chooseMaster l).bt.servo.masters = l := by
  obtain ⟨h, e, r, m, heq⟩ := d.chooseMaster_eq l; rw [heq]; rfl

theorem Dev.chooseMaster_parent (d : Dev) (l : List AnnounceMsg) : (d.chooseMaster l).bt.servo.parent = bestMaster l := by
  obtain ⟨h, e, r, m, heq⟩ := d.chooseMaster_eq l; rw [heq]; rfl

theorem Dev.chooseMaster_mode (d : Dev) (l : List AnnounceMsg) : (d.chooseMaster l).bt.mode = d.bt.mode := by
  obtain ⟨h, e, r, m, heq⟩ := d.chooseMaster_eq l; rw [heq]; rfl

/-- The masters heard once an Announce, or its receipt timeout, has come. -/
def Dev.mastersAfter (d : Dev) (x : AnnounceMsg) : List AnnounceMsg :=
  let rest := d.bt.servo.masters.filter (fun z => !sameMaster x z)
  if x.timeout then rest else x :: rest

/-- What loses the source of the member `d` that has chosen its master anew in `e` (R244): the timeout of the old one, another grandmaster, or one worse than GM_CLASS_MAX. -/
def Dev.announceLoses (d e : Dev) (x : AnnounceMsg) : Bool :=
  (x.timeout && (match d.bt.servo.parent with | some y => sameMaster x y | none => false)) ||
  (d.bt.servo.parent.isSome && e.bt.servo.gm != d.bt.servo.gm) ||
  (match e.bt.servo.parent with | some y => decide (d.pv 0x5014 < y.clockClass) | none => false)

section
variable {d e : Dev} {x y : AnnounceMsg}

theorem Dev.announceLoses_timeout (ht : x.timeout = true) (hy : d.bt.servo.parent = some y) (hs : sameMaster x y = true) : d.announceLoses e x = true := by
  simp [Dev.announceLoses, ht, hy, hs]

theorem Dev.announceLoses_changed (hy : d.bt.servo.parent = some y) (hg : e.bt.servo.gm ≠ some y.identity) : d.announceLoses e x = true := by
  have hold : d.bt.servo.gm = some y.identity := by rw [Servo.gm, hy]; rfl
  simp [Dev.announceLoses, hy, hold, hg]

theorem Dev.announceLoses_poor (hy : e.bt.servo.parent = some y) (hc : d.pv 0x5014 < y.clockClass) : d.announceLoses e x = true := by
  simp [Dev.announceLoses, hy, hc]

/-- A master that stays the same, of the same grandmaster and good enough, loses nothing. -/
theorem Dev.announceLoses_same (ht : x.timeout = false) (hy : d.bt.servo.parent = some y) (hx : e.bt.servo.parent = some x)
    (hi : x.identity = y.identity) (hc : x.clockClass ≤ d.pv 0x5014) : d.announceLoses e x = false := by
  simp [Dev.announceLoses, ht, hy, hx, Servo.gm, hi, Nat.not_lt.mpr hc]

end

section
variable {d : Dev} {x : AnnounceMsg} (hmode : d.bt.mode ≠ .off) (hsrc : d.bt.source = 0) (hdom : x.domain = d.pv 0x5015)
  (hport : nbit d.bt.ports x.port = true)
include hmode hsrc hdom hport

theorem goAnnounce_heard : goAnnounce x d =
    if d.announceLoses (d.chooseMaster (d.mastersAfter x)) x then (d.chooseMaster (d.mastersAfter x)).sourceLost else d.chooseMaster (d.mastersAfter x) :=
  (if_neg (by simp [hmode, hsrc, hdom, hport])).trans rfl

theorem goAnnounce_lost (h : d.announceLoses (d.chooseMaster (d.mastersAfter x)) x = true) :
    goAnnounce x d = (d.chooseMaster (d.mastersAfter x)).sourceLost :=
  (goAnnounce_heard hmode hsrc hdom hport).trans (if_pos h)

theorem goAnnounce_kept (h : d.announceLoses (d.chooseMaster (d.mastersAfter x)) x = false) :
    goAnnounce x d = d.chooseMaster (d.mastersAfter x) :=
  (goAnnounce_heard hmode hsrc hdom hport).trans (if_neg (by simp [h]))

/-- Whether the source is lost or not, the masters heard and the best of them are kept. -/
theorem goAnnounce_masters : (goAnnounce x d).bt.servo.masters = d.mastersAfter x ∧ (goAnnounce x d).bt.servo.parent = bestMaster (d.mastersAfter x) := by
  rw [goAnnounce_heard hmode hsrc hdom hport]
  split
  · rw [Dev.sourceLost_bt]; exact ⟨d.chooseMaster_masters _, d.chooseMaster_parent _⟩
  · exact ⟨d.chooseMaster_masters _, d.chooseMaster_parent _⟩

theorem goAnnounce_usable (h : d.announceLoses (d.chooseMaster (d.mastersAfter x)) x = true) : (goAnnounce x d).bt.servo.usable = false := by
  rw [goAnnounce_lost hmode hsrc hdom hport h, Dev.sourceLost_bt]

theorem goAnnounce_mode (h : d.announceLoses (d.chooseMaster (d.mastersAfter x)) x = true) : (goAnnounce x d).bt.mode = lostMode d.bt.mode := by
  rw [goAnnounce_lost hmode hsrc hdom hport h, Dev.sourceLost_bt, Dev.chooseMaster_mode]

/-- The same master announced anew is kept with what it announces. -/
theorem goAnnounce_same {y : AnnounceMsg} (ht : x.timeout = false) (hy : d.bt.servo.parent = some y) (hs : sameMaster x y = true)
    (hx : bestMaster (d.mastersAfter x) = some x) (hi : x.identity = y.identity) (hc : x.clockClass ≤ d.pv 0x5014) :
    goAnnounce x d = d.modServo (fun s => { s with masters := d.mastersAfter x, parent := some x }) :=
  (goAnnounce_kept hmode hsrc hdom hport (Dev.announceLoses_same ht hy ((d.chooseMaster_parent _).trans hx) hi hc)).trans (Dev.chooseMaster_kept hx hy hs)

end

/-! The messages of the chosen master (R236, R237). -/

/-- A Sync of the chosen master has come: its instant is noted and it is counted (R244). -/
def Dev.syncAccepted (d : Dev) : Dev := (d.modServo (fun s => { s with lastSync := d.glb.up })).bump 33 12

theorem goSync_stranger {t : Nat} {x : SyncMsg} {d : Dev} (h : d.fromParent x = false) : goSync t x d = d := by
  simp [goSync, h]

section
variable {d : Dev} {t : Nat} {x : SyncMsg} (hmode : d.bt.mode ≠ .off) (hsrc : d.bt.source = 0) (hdom : x.domain = d.pv 0x5015)
  (hport : nbit d.bt.ports x.port = true) (hpar : d.fromParent x = true)
include hmode hsrc hdom hport hpar

theorem goSync_oneStep {o : Nat} (hp : x.part = .sync o) : goSync t x d = d.syncAccepted.syncHeard t x (o + x.correctionNs) (d.syncStamp x) := by
  refine (if_neg (by simp [hmode, hsrc, hdom, hport, hpar])).trans ?_
  simp only [hp]
  rfl

theorem goSync_twoStep (hp : x.part = .syncTwoStep) :
    goSync t x d = d.syncAccepted.modServo (fun s => { s with heard := some (x.seq, x.correctionNs, d.syncStamp x) }) := by
  refine (if_neg (by simp [hmode, hsrc, hdom, hport, hpar])).trans ?_
  simp only [hp]
  rfl

theorem goSync_delayResp {r : Nat} (hp : x.part = .delayResp r) : goSync t x d = d.delayAnswered t x.seq (r - x.correctionNs) := by
  refine (if_neg (by simp [hmode, hsrc, hdom, hport, hpar])).trans ?_
  simp only [hp]

end

/-- What a Sync of known origin leaves once the path delay is measured: its offset is taken, and a Delay_Req follows it (R236, R237). -/
theorem Dev.syncHeard_measured {d : Dev} {m : Int} (t : Nat) (x : SyncMsg) (origin : Int) (stamp : Nat) (hm : d.bt.servo.delay = some m) :
    ∃ e, OffsetTaken (origin + m - stamp) (d.modServo (fun s => { s with heard := none, exchange := some (origin, (stamp : Int)) })) e ∧
      OnlyTraffic (e.modServo (fun s => { s with reqSeq := (s.reqSeq + 1) % 65536, reqSent := none })) (d.syncHeard t x origin stamp) := by
  refine ⟨_, Dev.sourceUsable_applyOffset _ t _, ?_⟩
  simp only [Dev.syncHeard, hm]
  exact Dev.askDelay_asked _ t x.port x.udp

/-- An answered Delay_Req gives the delay anew, without a filter (the model's choice, log 129). -/
theorem Dev.delayAnswered_again {d : Dev} {t1 t2 m : Int} {t3 : Nat} (t : Nat) {seq : Nat} (received : Int) (hseq : seq = d.bt.servo.reqSeq)
    (hex : d.bt.servo.exchange = some (t1, t2)) (hsent : d.bt.servo.reqSent = some t3) (hm : d.bt.servo.delay = some m) :
    d.delayAnswered t seq received = d.modServo (fun s => { s with delay := some (pathDelay t1 t2 t3 received), reqSent := none }) := by
  simp [Dev.delayAnswered, hex, hsent, hseq, hm]

/-! The step of show time (R237, R238). -/

/-- The start of a radio's play changes the state of no sheet but a locked one. -/
theorem Dev.openPlay_state {d : Dev} {q k : Nat} (t r : Nat) (h : (d.sheet q k).state ≠ .locked) :
    ((d.openPlay t r).sheet q k).state = (d.sheet q k).state := by
  by_cases hl : (d.sheet r (tickOf t)).state = .locked ∧ (d.sheet r (tickOf t)).tick = tickOf t
  · rw [Dev.sheet_of_plan (Dev.openPlay_locked hl.1 hl.2), Dev.sheet_modSheet]
    split
    case isTrue hq => exact absurd (by rw [hq.1, Dev.sheet_mod d r hq.2]; exact hl.1) h
    case isFalse => rfl
  · rw [Dev.sheet_of_plan (Dev.openPlay_unlocked hl)]

theorem Dev.openPlays_dark {d : Dev} {q k : Nat} (t : Nat) (h : (d.sheet q k).state = .dark) : ((d.openPlays t).sheet q k).state = .dark :=
  List.foldlRecOn (motive := fun e : Dev => (e.sheet q k).state = .dark) _ _ h
    fun e he r _ => (Dev.openPlay_state t r (by rw [he]; decide)).trans he

/-- A dark sheet of another slot than the draft's stays dark as the draft opens (R76, R77). -/
theorem goDraftOpen_dark {d : Dev} {t r k : Nat} (hr : r < 3) (hk : k % 3 ≠ (tickOf t + 2) % 3) (h : (d.sheet r k).state = .dark) :
    ((goDraftOpen t [] d).sheet r k).state = .dark := by
  by_cases ho : d.pln.opened = tickOf t + 1
  · rw [goDraftOpen_again ho, h]
  · rw [((goDraftOpen_redrafted [] ho).sheet r k).state, Dev.draftsOpened, Dev.openSlots_sheet _ _ hr, if_neg hk,
      Dev.sheet_of_plan (Dev.noteOpened_plan _ _), Dev.state_of_standing (d.openTick_standing t), Dev.openPlays_dark t h]

@[simp] theorem Dev.sheet_stepDark (d : Dev) (r k : Nat) : d.stepDark.sheet r k = d.sheet r k :=
  foldl_keeps (obs := fun e : Dev => e.sheet r k) (fun e q => by simp) (List.range 3) d

/-- A sheet that a step of show time makes dark (R238). -/
def steppedSheet (tick : Nat) : Sheet := { state := .dark, tick := tick % 2 ^ 48 }

/-- The slots of a radio as a step lands in tick `k` (R238). -/
def Dev.landRadio (k : Nat) (d : Dev) (r : Nat) : Dev :=
  ((d.modSheet r k (fun _ => steppedSheet k)).modSheet r (k + 1) (fun _ => steppedSheet (k + 1))).modSheet r (k + 2) (fun _ => {})

/-- The device as a step of show time lands at `t`, before the draft opens. -/
def Dev.landed (d : Dev) (t : Nat) : Dev :=
  let e := ((List.range 3).foldl (Dev.landRadio (tickOf t)) d).stepDark
  if 896 ≤ beatOf t then e.stepDark else e

theorem Dev.landRadio_others (d : Dev) {r q : Nat} (k j : Nat) (h : r ≠ q) : (d.landRadio k q).sheet r j = d.sheet r j := by
  simp only [Dev.landRadio, Dev.sheet_modSheet_others _ _ _ _ h]

theorem Dev.landRadio_dark (d : Dev) (k r : Nat) :
    ((d.landRadio k r).sheet r k).state = .dark ∧ ((d.landRadio k r).sheet r (k + 1)).state = .dark := by
  have h1 : ¬ (k % 3 = (k + 1) % 3) := by omega
  have h2 : ¬ (k % 3 = (k + 2) % 3) := by omega
  have h3 : ¬ ((k + 1) % 3 = (k + 2) % 3) := by omega
  simp only [Dev.landRadio, Dev.sheet_modSheet, true_and, h1, h2, h3, if_true, if_false]
  exact ⟨rfl, rfl⟩

/-- The landing tick and the next are dark on every radio. -/
theorem Dev.landed_dark (d : Dev) (t : Nat) {r : Nat} (hr : r < 3) :
    ((d.landed t).sheet r (tickOf t)).state = .dark ∧ ((d.landed t).sheet r (tickOf t + 1)).state = .dark := by
  obtain ⟨b, -, hlast⟩ := foldl_once (R := fun e e' : Dev => ∀ j, e'.sheet r j = e.sheet r j) (op := Dev.landRadio (tickOf t)) (fun _ _ => rfl)
    (fun h h' j => (h' j).trans (h j)) (fun e q hq j => e.landRadio_others _ j hq) List.nodup_range (List.mem_range.mpr hr) d
  have hsheet (j : Nat) : (d.landed t).sheet r j = (b.landRadio (tickOf t) r).sheet r j := by
    unfold Dev.landed
    dsimp only
    split <;> simp only [Dev.sheet_stepDark, hlast]
  rw [hsheet, hsheet]
  exact b.landRadio_dark _ r

/-- A servo whose step is done starts its exchange and its count of good ticks anew (R238). -/
def Servo.stepDone (lastCorr estAtCorr : Nat) (s : Servo) : Servo :=
  { s with step := none, offset := 0, slew := 0, lastCorr := lastCorr, goodTicks := 0, goodNow := false, heard := none, exchange := none
           reqSent := none, estAtCorr := estAtCorr }

/-- The device once the step's draft has opened and its Retake slots have run out, with its servo and its pulse set anew. -/
def Dev.restarted (d : Dev) (t est : Nat) : Dev := ((d.modServo (Servo.stepDone d.glb.up est)).modBt (fun b => { b with pulse := 0 })).pulse t

/-- After its sheets a step changes the servo and the pulse, and flags itself (R238). -/
theorem Dev.stepped_eq (d : Dev) (t : Nat) : ∃ est e, e = (goRetakeExpired t (goDraftOpen t [] (d.landed t))).restarted t est ∧
    d.stepped t = ((({ e with dly := { e.dly with stepped := true } } : Dev).inc t 0 2).bump 1 4).bump 33 13 :=
  ⟨_, _, rfl, rfl⟩

theorem Dev.pulse_servo (d : Dev) (t : Nat) : (d.pulse t).bt.servo = d.bt.servo := by unfold Dev.pulse; split <;> rfl

theorem Dev.pulse_pln (d : Dev) (t : Nat) : (d.pulse t).pln = d.pln := by unfold Dev.pulse; split <;> rfl

theorem Dev.restarted_step (d : Dev) (t est : Nat) : (d.restarted t est).bt.servo.step = none := by rw [Dev.restarted, Dev.pulse_servo]; rfl

theorem Dev.restarted_pln (d : Dev) (t est : Nat) : (d.restarted t est).pln = d.pln := (Dev.pulse_pln _ t).trans rfl

theorem Dev.stepped_step (d : Dev) (t : Nat) : (d.stepped t).bt.servo.step = none := by
  obtain ⟨est, e, he, heq⟩ := d.stepped_eq t
  have hbt : (d.stepped t).bt = e.bt := by rw [heq]; simp
  rw [hbt, he, Dev.restarted_step]

/-- A step of show time is flagged in the dailies and in GLB_INCIDENT (R238). -/
theorem Dev.stepped_flagged (d : Dev) (t : Nat) : (d.stepped t).dly.stepped = true ∧ ((d.stepped t).reg 0x40).getLsbD 2 = true := by
  obtain ⟨est, e, -, heq⟩ := d.stepped_eq t
  rw [heq]
  exact ⟨by simp, Dev.inc_bit _ t 0 2 0 (by decide)⟩

theorem Dev.stepped_sheet (d : Dev) (t r k : Nat) : (d.stepped t).sheet r k = (goDraftOpen t [] (d.landed t)).sheet r k := by
  obtain ⟨est, e, he, heq⟩ := d.stepped_eq t
  have hpln : (d.stepped t).pln = e.pln := by rw [heq]; simp
  refine Dev.sheet_congr ?_ r k
  rw [hpln, he, Dev.restarted_pln, (goRetakeExpired_releases t _).2]

theorem Dev.stepped_dark (d : Dev) (t : Nat) {r : Nat} (hr : r < 3) :
    ((d.stepped t).sheet r (tickOf t)).state = .dark ∧ ((d.stepped t).sheet r (tickOf t + 1)).state = .dark := by
  rw [Dev.stepped_sheet, Dev.stepped_sheet]
  obtain ⟨hnow, hnext⟩ := d.landed_dark t hr
  exact ⟨goDraftOpen_dark hr (by omega) hnow, goDraftOpen_dark hr (by omega) hnext⟩

theorem execTimeStep_due {s : State} {n : Nat} (hn : s.dev.bt.servo.step = some n) (hc : s.dev.coordinating = false) (hb : beatOf s.now = 0) :
    exec .timeStep s = .next { s with now := s.now + n, dev := s.dev.stepped (s.now + n) } := by
  simp [exec, execTimeStep, hn, hc, hb]

/-! The clapper (R241, R242). -/

/-- A clapper message of neither leader nor neighbour is dropped and counted (R246). -/
theorem goClapperMessageRx_stranger {t : Nat} {x : BtFrame} {d : Dev} (ha : d.btAccepts x 2 = true)
    (hl : d.bt.source ≠ 1 ∨ btChip x.octets ≠ d.pv 0x501B) (hk : d.knowsChip (btChip x.octets) = false) : goClapperMessageRx t x d = d.bump 33 11 := by
  simp [goClapperMessageRx, ha, hk, hl]

section
variable {d : Dev} {t : Nat} {x : BtFrame} (ha : d.btAccepts x 2 = true) (hsrc : d.bt.source = 1) (hp : btPlain x.octets = true)
  (hl : btChip x.octets = d.pv 0x501B)
include ha hsrc hp hl

/-- A leader without alignment takes its follower's source, and the next edge is not its first. -/
theorem goClapperMessageRx_lost (hn : btAlignNs x.octets = 0xFFFFFFFF) : goClapperMessageRx t x d =
    (d.modServo (fun s => { s with clapTick := none, clapAlign := btAlignNs x.octets })).sourceLost := by
  simp [goClapperMessageRx, ha, hsrc, hp, hl, hn]

/-- Before the first edge a clapper message gives its number and the leader's error. -/
theorem goClapperMessageRx_first (hn : btAlignNs x.octets ≠ 0xFFFFFFFF) (he : d.bt.servo.edgeTick = none) : goClapperMessageRx t x d =
    d.modServo (fun s => { s with clapTick := some (btTickOf x.octets), clapAlign := btAlignNs x.octets }) := by
  simp [goClapperMessageRx, ha, hsrc, hp, hl, hn, he]

end

theorem Dev.acceptEdge_counts (d : Dev) (t number : Nat) (at' : Int) :
    (d.acceptEdge t number at').bt.servo.edgeTick = some number ∧ (d.acceptEdge t number at').bt.servo.missing = 0 := by
  unfold Dev.acceptEdge
  dsimp only
  split
  · exact ⟨rfl, rfl⟩
  · obtain ⟨n, g, est, hbt⟩ := (Dev.sourceUsable_applyOffset ((d.modServo (fun s => { s with edgeTick := some number, missing := 0, lastSync := d.glb.up })).bump 33 9)
      t ((number : Int) * 1024000 - at')).bt
    rw [hbt]
    exact ⟨rfl, rfl⟩

section
variable {d : Dev} {t stamp e : Nat} {x : Int} (hmode : d.bt.mode ≠ .off) (hsrc : d.bt.source = 1) (he : d.bt.servo.edgeTick = some e)
  (hx : x = (stamp : Int) - (d.pv 0x5019 : Int) - (((e + d.clapDiv) * 1024000 : Nat) : Int))
include hmode hsrc he hx

/-- An edge within 4 µs of the expected one is accepted under the next number. -/
theorem goClapIn_expected (hhi : x ≤ 4000) (hlo : -4000 ≤ x) : goClapIn t stamp d = d.acceptEdge t (e + d.clapDiv) ((stamp : Int) - (d.pv 0x5019 : Nat)) := by
  subst hx
  simp only [goClapIn, hmode, hsrc, he, hhi, hlo]
  rfl

theorem goClapIn_stray (h : 4000 < x ∨ x < -4000) : goClapIn t stamp d = d.bump 33 10 := by
  subst hx
  have hc : ¬ ((stamp : Int) - (d.pv 0x5019 : Int) - (((e + d.clapDiv) * 1024000 : Nat) : Int) ≤ 4000 ∧
    -4000 ≤ (stamp : Int) - (d.pv 0x5019 : Int) - (((e + d.clapDiv) * 1024000 : Nat) : Int)) := by omega
  simp only [goClapIn, hmode, hsrc, he, ← Bool.decide_and, hc]
  rfl

end

theorem goClapMissing_first {d : Dev} {t : Nat} (h : d.edgeOverdue t = true) (hm : d.bt.servo.missing = 0) : goClapMissing t d =
    d.modServo (fun s => { s with missing := s.missing + 1, edgeTick := s.edgeTick.map (· + d.clapDiv) }) := by
  simp [goClapMissing, h, hm]

theorem goClapMissing_again {d : Dev} {t : Nat} (h : d.edgeOverdue t = true) (hm : d.bt.servo.missing ≠ 0) : goClapMissing t d =
    ((d.modServo (fun s => { s with missing := 0, edgeTick := none, clapTick := none })).sourceLost).inc t 7 4 := by
  simp [goClapMissing, h, Nat.one_le_iff_ne_zero.mpr hm]

/-- Settles O30: each message, edge and step by its own lemma, over what the source's loss and an offset do to the member. -/
theorem alignmentCompletes : Obligations.AlignmentCompletes := by
  unfold Obligations.AlignmentCompletes
  refine ⟨fun s x limit off m o hlimit hmode hsrc hdom hport hpar hp hm hoff => ?_, fun s x hmode hsrc hdom hport hpar => ⟨fun hp => ?_, fun r t1 t2 t3 m hp hseq hex hsent hm => ?_⟩,
    fun s x h => completes_act _ rfl (goSync_stranger h), fun s x y hmode hsrc hdom hport => ⟨fun ht hy hs => ?_, fun ht => ?_⟩, fun l x h => bestMaster_best h,
    fun s n hn hc hb => ?_, fun s hmode ht => ?_, fun s x ha hsrc hp hl => ⟨fun hn => ?_, fun hn he => ?_⟩, fun s x ha hl hk => ?_,
    fun s stamp e x hmode hsrc he hx => ⟨fun hhi hlo => ?_, fun h => ?_⟩, fun s h => ⟨fun hm => ?_, fun hm => ?_⟩⟩
  · subst hlimit hoff
    obtain ⟨e, htaken, hasked⟩ := Dev.syncHeard_measured (d := s.dev.syncAccepted) s.now x (o + x.correctionNs) (s.dev.syncStamp x) hm
    obtain ⟨n, g, est, hbt⟩ := htaken.bt
    have hd := hasked.bt
    rw [Dev.modServo, Dev.modBt, hbt] at hd
    refine ⟨_, completes_act _ rfl (goSync_oneStep hmode hsrc hdom hport hpar hp), ?_, ?_, ?_, ?_, ?_, ?_, ?_, ?_, fun hb => ?_⟩
    any_goals rw [hd]; rfl
    rw [Dev.reg_congr hasked.regs]
    exact htaken.behind hb
  · exact ⟨_, completes_act _ rfl (goSync_twoStep hmode hsrc hdom hport hpar hp), rfl, rfl⟩
  · exact ⟨_, completes_act _ rfl ((goSync_delayResp hmode hsrc hdom hport hpar hp).trans (Dev.delayAnswered_again _ _ hseq hex hsent hm)), rfl⟩
  · have hlost := Dev.announceLoses_timeout (e := s.dev.chooseMaster (s.dev.mastersAfter x)) ht hy hs
    obtain ⟨hmasters, hparent⟩ := goAnnounce_masters hmode hsrc hdom hport
    have hafter : s.dev.mastersAfter x = s.dev.bt.servo.masters.filter (fun z => !sameMaster x z) := if_pos ht
    refine ⟨_, completes_act _ rfl rfl, goAnnounce_usable hmode hsrc hdom hport hlost, fun z hz => ?_, by rw [hmasters, hparent],
      goAnnounce_mode hmode hsrc hdom hport hlost⟩
    rw [hmasters, hafter, List.mem_filter, Bool.not_eq_true'] at hz
    exact hz.symm
  · obtain ⟨hmasters, hparent⟩ := goAnnounce_masters hmode hsrc hdom hport
    have hchosen := s.dev.chooseMaster_parent (s.dev.mastersAfter x)
    refine ⟨_, completes_act _ rfl rfl, hmasters.trans (if_neg (by simp [ht])), by rw [hmasters, hparent], fun z hz hc => ?_, fun hy hg => ?_, fun hy hs hbest hi hc => ?_⟩
    · exact goAnnounce_usable hmode hsrc hdom hport (Dev.announceLoses_poor (hchosen.trans (hparent.symm.trans hz)) hc)
    · refine goAnnounce_usable hmode hsrc hdom hport (Dev.announceLoses_changed hy fun h => hg ?_)
      rw [Servo.gm, hchosen] at h
      rw [Servo.gm, hparent, h]
    · rw [hmasters] at hbest ⊢
      exact goAnnounce_same hmode hsrc hdom hport ht hy hs hbest hi hc
  · exact ⟨_, execTimeStep_due hn hc hb, s.dev.stepped_step _, (s.dev.stepped_flagged _).1, (s.dev.stepped_flagged _).2, fun r hr => s.dev.stepped_dark _ hr⟩
  · have hgo : goSourceLoss s.dev = s.dev.sourceLost := if_pos (by simp [hmode, ht])
    refine ⟨_, completes_act _ rfl hgo, ?_, ?_, ?_, ?_⟩ <;> rw [Dev.sourceLost_bt]
    rfl
  · refine ⟨_, completes_act _ rfl (goClapperMessageRx_lost ha hsrc hp hl hn), ?_, ?_⟩ <;> rw [Dev.sourceLost_bt]
    rfl
  · exact ⟨_, completes_act _ rfl (goClapperMessageRx_first ha hsrc hp hl hn he), rfl⟩
  · exact ⟨_, completes_act _ rfl (goClapperMessageRx_stranger ha hl hk), by simp, rfl⟩
  · obtain ⟨hedge, hmissing⟩ := s.dev.acceptEdge_counts s.now (e + s.dev.clapDiv) ((stamp : Int) - (s.dev.pv 0x5019 : Nat))
    exact ⟨_, completes_act _ rfl (goClapIn_expected hmode hsrc he hx hhi hlo), hedge, hmissing⟩
  · exact ⟨_, completes_act _ rfl (goClapIn_stray hmode hsrc he hx h), rfl, by simp, rfl⟩
  · exact ⟨_, completes_act _ rfl (goClapMissing_first h hm), by rw [Dev.modServo, Dev.modBt, hm]⟩
  · have hbt := (Dev.inc_bt (s.dev.modServo (fun v => { v with missing := 0, edgeTick := none, clapTick := none })).sourceLost s.now 7 4 0).trans (Dev.sourceLost_bt _)
    exact ⟨_, completes_act _ rfl (goClapMissing_again h hm), by rw [hbt], by rw [hbt]; rfl, Dev.inc_bit _ s.now 7 4 0 (by decide)⟩

end Sys2Proof.Machine
end

section
/-! PROOFS. Coordinated operation: entering and leaving it, the member's own cue and clapper message, and a neighbour's cue (O31). -/
namespace Sys2Proof.Machine

/-! Entering and leaving (R243 to R245). -/

theorem goEnterCoordinated_due {t : Nat} {d : Dev} (hmode : d.bt.mode = .aligning) (hgood : d.pv 0x5013 ≤ d.bt.servo.goodTicks) (hb : beatOf t = 0)
    (href : d.mgr.ref40 = true) : goEnterCoordinated t d =
      d.modBt (fun b => { b with mode := .coordinated, coordFrom := tickOf t + 2, servo := { b.servo with goodTicks := 0 } }) := by
  simp [goEnterCoordinated, hmode, hgood, hb, href]

/-- The device of a member that has sent its leave message and is in coordinated operation no more (R245); with a usable source it is ALIGNING, which is the model's choice (log 60). -/
def Dev.exited (d : Dev) (t : Nat) : Dev := (d.btLeaveMsg t).modBt (fun b => { b with
  mode := if b.servo.usable then .aligning else .independent, servo := { b.servo with goodTicks := 0, goodNow := false } })

theorem Dev.exited_bt (d : Dev) (t : Nat) : (d.exited t).bt = { d.bt with
    mode := if d.bt.servo.usable then .aligning else .independent, servo := { d.bt.servo with goodTicks := 0, goodNow := false }
    tx := d.bt.tx ++ [⟨3, Nat.max d.bt.cueSent (tickOf t + 1), []⟩] } := by
  rw [Dev.exited, Dev.modBt, (d.btLeaveMsg_sent t).bt]
  rfl

/-- An exit from HOLDOVER by its limits is counted and flagged too (R244); the loss of the 40 MHz reference alone sets no bit, which is the model's choice (log 60). -/
theorem goCoordExit_due {t : Nat} {d : Dev} (hc : d.coordinating = true) (h : d.coordDrift = true ∨ d.mgr.ref40 = false) :
    goCoordExit t d = if d.coordDrift = true ∧ d.bt.mode = .holdover then (((d.exited t).bump 33 15).step 0x5043).inc t 7 0 else (d.exited t).bump 33 15 := by
  refine (if_neg (by simp [hc])).trans ((if_neg ?_).trans ?_)
  · rcases h with h | h <;> simp [h]
  · simp only [Bool.and_eq_true, decide_eq_true_eq]
    rfl

theorem goCoordExit_bt {t : Nat} {d : Dev} (hc : d.coordinating = true) (h : d.coordDrift = true ∨ d.mgr.ref40 = false) :
    (goCoordExit t d).bt = (d.exited t).bt := by
  rw [goCoordExit_due hc h]
  split <;> simp

/-! The member's own cue (R249) and clapper message (R242). -/

theorem OnlyTraffic.modBt {d e : Dev} (h : OnlyTraffic d e) (f : Bt → Bt) : OnlyTraffic (d.modBt f) (e.modBt f) := by
  obtain ⟨tm, emac, glb, props, force, counts, rfl⟩ := h
  exact ⟨tm, emac, glb, props, force, counts, rfl⟩

/-- A cue's segments are noted as sent, in their order. -/
theorem foldl_btSend_sent (t tick n : Nat) (l : List (List Byte × Nat)) (d : Dev) :
    OnlyTraffic (d.modBt (fun b => { b with tx := b.tx ++ l.map (fun x => ⟨1, tick, x.1⟩) }))
      (l.foldl (fun e x => (e.btSend t 1 tick (x.2 * 16 + n) x.1).bump 33 1) d) := by
  induction l generalizing d with
  | nil => simpa [Dev.modBt] using OnlyTraffic.refl d
  | cons x l ih =>
    have hfirst := ((d.btSend_sent t 1 tick (x.2 * 16 + n) x.1).trans (onlyTraffic_bump _ 33 1 1)).modBt
      (fun b => { b with tx := b.tx ++ l.map (fun x => ⟨1, tick, x.1⟩) })
    simpa [Dev.modBt] using hfirst.trans (ih _)

/-- A sheet that is cued with no take (R249): one still drafted for the tick loses its takes. -/
def emptied (tick : Nat) (s : Sheet) : Sheet :=
  if s.tick == tick && (s.state == .drafting || s.state == .ready) then s.withParts [] else s

theorem emptied_emptied (tick : Nat) (s : Sheet) : emptied tick (emptied tick s) = emptied tick s := by
  unfold emptied
  split
  case isTrue => exact ite_eq_left_iff.mpr (fun _ => rfl)
  case isFalse => rfl

/-- Changing sheets of a tick by a change that does no more the second time. -/
theorem foldl_modSheet_once {f : Sheet → Sheet} (hf : ∀ s, f (f s) = f s) (tick r : Nat) (l : List Nat) (d : Dev) :
    (l.foldl (fun e q => e.modSheet q tick f) d).sheet r tick = if r ∈ l then f (d.sheet r tick) else d.sheet r tick := by
  induction l generalizing d with
  | nil => rfl
  | cons q l ih =>
    rw [List.foldl_cons, ih, Dev.sheet_modSheet]
    by_cases hq : r = q
    · subst hq
      simp [hf]
    · simp [hq]

/-- The device once the radios cued empty have lost their takes. -/
def Dev.cueEmptied (d : Dev) (tick : Nat) : Dev := (d.cueEmpties tick).foldl (fun e r => e.modSheet r tick (emptied tick)) d

theorem Dev.cueEmptied_frame (d : Dev) (tick : Nat) : d.cueEmptied tick = { d with pln := (d.cueEmptied tick).pln } :=
  List.foldlRecOn (motive := fun e : Dev => e = { d with pln := e.pln }) _ _ rfl fun e he r _ => by
    rw [he]; rfl

theorem Dev.cueEmptied_sheet (d : Dev) (tick r : Nat) : (d.cueEmptied tick).sheet r tick =
    if (d.cueEmpties tick).contains r then emptied tick (d.sheet r tick) else d.sheet r tick := by
  rw [Dev.cueEmptied, foldl_modSheet_once (emptied_emptied tick)]
  simp

/-- The body of a cue with a section without takes for each radio in `empty` (R248, R249). -/
def Dev.bodyWithout (d : Dev) (empty : List Nat) (tick : Nat) : List Byte :=
  (List.range 3).flatMap (fun r => sectionOctets r (if (d.radio r).inService then d.chanAt r tick else none) (if empty.contains r then {} else d.sheet r tick))

/-- The sheets that are emptied do not stand in the body. -/
theorem Dev.cueEmptied_body (d : Dev) (tick : Nat) :
    (d.cueEmptied tick).bodyWithout (d.cueEmpties tick) tick = d.bodyWithout (d.cueEmpties tick) tick := by
  rw [Dev.bodyWithout, Dev.bodyWithout, List.flatMap_def, List.flatMap_def]
  refine congrArg List.flatten (List.map_congr_left fun r _ => ?_)
  have hradio : (d.cueEmptied tick).radio r = d.radio r := by rw [Dev.cueEmptied_frame]; rfl
  have hchan : (d.cueEmptied tick).chanAt r tick = d.chanAt r tick := by rw [Dev.chanAt, hradio]; rfl
  rw [Dev.cueEmptied_sheet, hradio, hchan]
  cases (d.cueEmpties tick).contains r <;> rfl

/-- The segments of the member's cue for a tick as they are noted when they are sent. -/
def Dev.cueTx (d : Dev) (tick : Nat) : List BtTx := (segments 4 (d.bodyWithout (d.cueEmpties tick) tick)).map (fun b => ⟨1, tick, b⟩)

theorem goCueSend_coordinating {t tick : Nat} {d : Dev} (ht : tick = tickOf t + 1) (hc : d.coordinatingFor tick = true) (hb : beatOf t = 384) :
    ∃ e, OnlyTraffic ((d.cueEmptied tick).modBt (fun b => { b with tx := b.tx ++ d.cueTx tick })) e ∧
      goCueSend t d = (e.modBt (fun b => { b with cueSent := tick + 1 })).bump 33 0 := by
  subst ht
  have hsent := foldl_btSend_sent t (tickOf t + 1) (segments 4 (d.bodyWithout (d.cueEmpties (tickOf t + 1)) (tickOf t + 1))).length
    (List.zipIdx (segments 4 (d.bodyWithout (d.cueEmpties (tickOf t + 1)) (tickOf t + 1)))) (d.cueEmptied (tickOf t + 1))
  have hmap (l : List (List Byte)) : (List.zipIdx l).map (fun x => (⟨1, tickOf t + 1, x.1⟩ : BtTx)) = l.map (fun b => ⟨1, tickOf t + 1, b⟩) := by
    rw [show (fun x : List Byte × Nat => (⟨1, tickOf t + 1, x.1⟩ : BtTx)) = (fun b => ⟨1, tickOf t + 1, b⟩) ∘ Prod.fst from rfl, ← List.map_map,
      List.zipIdx_map_fst]
  rw [hmap] at hsent
  refine ⟨_, hsent, (if_neg (by simp [hc, hb])).trans ?_⟩
  rw [← Dev.cueEmptied_body]
  rfl

section
variable {t tick : Nat} {d : Dev} (ht : tick = tickOf t + 1) (hc : d.coordinatingFor tick = true) (hb : beatOf t = 384)
include ht hc hb

theorem goCueSend_bt : (goCueSend t d).bt = { d.bt with cueSent := tick + 1, tx := d.bt.tx ++ d.cueTx tick } := by
  obtain ⟨e, hsent, hgo⟩ := goCueSend_coordinating ht hc hb
  have hbt : (d.cueEmptied tick).bt = d.bt := by rw [Dev.cueEmptied_frame]
  rw [hgo, Dev.bump_bt, Dev.modBt, hsent.bt, Dev.modBt, hbt]

theorem goCueSend_sheet (r : Nat) : (goCueSend t d).sheet r tick =
    if (d.cueEmpties tick).contains r then emptied tick (d.sheet r tick) else d.sheet r tick := by
  obtain ⟨e, hsent, hgo⟩ := goCueSend_coordinating ht hc hb
  rw [hgo, Dev.sheet_bump, Dev.sheet_congr (d := d.cueEmptied tick) (by rw [Dev.modBt_pln, hsent.pln]; rfl), Dev.cueEmptied_sheet]

end

theorem emptied_takeCount {tick : Nat} {s : Sheet} (ht : s.tick = tick) (hs : s.state = .ready) : (emptied tick s).takeCount = 0 := by
  rw [emptied, if_pos (by simp [ht, hs])]
  rfl

theorem goClapperMessage_due {t : Nat} {d : Dev} (hmode : d.bt.mode ≠ .off) (hp : d.pulsed t = true) (hb : beatOf t = 8) :
    goClapperMessage t d = (d.btSend t 2 (tickOf t) 1 []).bump 33 8 := by
  simp [goClapperMessage, hmode, hp, hb]

/-! A neighbour's cue (R250 to R252). -/

/-- A whole cue that comes in time, where none of its chip and tick stands, is kept and counted. -/
theorem Dev.cueComplete_timely {d : Dev} {t stamp : Nat} {c : Cue} (hnew : ∀ x ∈ d.bt.cues, ¬ (x.chip = c.chip ∧ x.tick = c.tick))
    (hp : (parseCue c.body).isSome = true) (hb : beatOf stamp < 768) (hn : beatNo t ≤ beatNo stamp + 2) :
    d.cueComplete t stamp c = ((d.putCue { c with complete := true }).step 0x5040).bump 33 2 := by
  have hany : d.bt.cues.any (fun x => x.chip == c.chip && x.tick == c.tick && x.src != c.src && x.complete) = false :=
    List.any_eq_false.mpr fun x hx => by
      have := hnew x hx
      simp only [Bool.and_eq_true, beq_iff_eq, not_and] at this ⊢
      exact fun h => absurd h.1.2 (this h.1.1)
  have hbody : (parseCue ({ c with complete := true } : Cue).body).isNone = false := by
    rw [Option.isNone_eq_false_iff]
    exact hp
  simp [Dev.cueComplete, hany, hbody, Nat.not_le.mpr hb, Nat.not_lt.mpr hn]

/-- The cue that one frame brings whole. -/
def wholeCue (x : BtFrame) : Cue :=
  { chip := btChip x.octets, tick := btTickOf x.octets, src := x.src, segCount := 1, segs := [(0, (x.octets.drop 20).take (beAt x.octets 14 2))] }

/-- The leave message of a chip whose cue comes is forgotten, which is the model's choice (log 146). -/
def Bt.rejoined (c : Cue) (b : Bt) : Bt := { b with left := b.left.filter (fun y => !(y.1 == c.chip && decide (y.2 ≤ c.tick))) }

theorem goCueSegment_whole {t : Nat} {x : BtFrame} {d : Dev} (ha : d.btAccepts x 1 = true) (hh : cueHeaderOk x.octets = true) (hseg : octAt x.octets 12 = 1)
    (hown : btChip x.octets ≠ d.bt.chip) (hnb : btChip x.octets ∈ d.neighbours (btTickOf x.octets)) (htick : btTickOf x.octets = tickOf x.stamp + 1)
    (hnew : ∀ c ∈ d.bt.cues, ¬ (c.chip = btChip x.octets ∧ c.tick = btTickOf x.octets)) :
    goCueSegment t x d = (d.modBt (Bt.rejoined (wholeCue x))).cueComplete t x.stamp (wholeCue x) := by
  have hany (p : Cue → Bool) : d.bt.cues.any (fun c => c.chip == btChip x.octets && c.tick == btTickOf x.octets && p c) = false :=
    List.any_eq_false.mpr fun c hc => by simpa using fun h1 h2 => absurd ⟨h1, h2⟩ (hnew c hc)
  have hfind : d.bt.cues.find? (fun c => c.chip == btChip x.octets && c.tick == btTickOf x.octets && c.src == x.src) = none :=
    List.find?_eq_none.mpr (List.any_eq_false.mp (hany fun c => c.src == x.src))
  simp only [goCueSegment, ha, hh, hseg, hown, hany, hfind]
  rw [htick] at hnb
  unfold Bt.rejoined
  simp [hnb, htick, wholeCue]

/-- The device that holds a cue of a chip that had none for its tick: it is kept, whole, and counted. -/
def Dev.holding (d : Dev) (c : Cue) : Dev := (((d.modBt (Bt.rejoined c)).putCue { c with complete := true }).step 0x5040).bump 33 2

theorem Dev.holding_frame (d : Dev) (c : Cue) : d.holding c = { d with
    bt := (d.holding c).bt, props := (d.holding c).props, force := (d.holding c).force, counts := (d.holding c).counts } := rfl

theorem Dev.holding_cues (d : Dev) (c : Cue) : (d.holding c).bt.cues =
    d.bt.cues.filter (fun x => !(x.chip == c.chip && x.tick == c.tick && x.src == c.src)) ++ [{ c with complete := true }] := rfl

theorem Dev.holding_left (d : Dev) (c : Cue) : (d.holding c).bt.left = d.bt.left.filter (fun y => !(y.1 == c.chip && decide (y.2 ≤ c.tick))) := rfl

/-- The cue that a chip has just sent whole is the one that holds for its tick. -/
theorem Dev.holding_cueOf {d : Dev} {c : Cue} (hnew : ∀ x ∈ d.bt.cues, ¬ (x.chip = c.chip ∧ x.tick = c.tick)) (hl : c.late = false) (hb : c.bad = false)
    (hc : c.clash = false) : (d.holding c).cueOf c.tick c.chip = parseCue c.body := by
  have hleft : (d.holding c).bt.left.any (fun x => x.1 == c.chip && decide (x.2 ≤ c.tick)) = false :=
    List.any_eq_false.mpr fun y hy => by
      rw [Dev.holding_left, List.mem_filter, Bool.not_eq_true'] at hy
      exact Bool.eq_false_iff.mp hy.2
  have hcues : (d.holding c).bt.cues.filter (fun x => x.chip == c.chip && x.tick == c.tick) = [{ c with complete := true }] := by
    rw [Dev.holding_cues, List.filter_append, List.filter_filter, List.filter_eq_nil_iff.mpr (fun x hx => ?_)]
    · simp
    · simpa using fun h1 h2 => absurd ⟨h1, h2⟩ (hnew x hx)
  simp only [Dev.cueOf, hleft, hcues]
  simp [hl, hb, hc, Cue.body]

/-- The cues of other chips and ticks hold as they did. -/
theorem Dev.holding_cueOf_others {d : Dev} {c : Cue} {k j : Nat} (h : k ≠ c.tick ∨ j ≠ c.chip) (hl : d.bt.left = []) :
    (d.holding c).cueOf k j = d.cueOf k j := by
  have hother (x : Cue) : (x.chip == j && x.tick == k) = true → (x.chip == c.chip && x.tick == c.tick && x.src == c.src) = false := by
    simp only [Bool.and_eq_true, beq_iff_eq]
    rintro ⟨rfl, rfl⟩
    rcases h with h | h <;> simp [h]
  have hcues : (d.holding c).bt.cues.filter (fun x => x.chip == j && x.tick == k) = d.bt.cues.filter (fun x => x.chip == j && x.tick == k) := by
    rw [Dev.holding_cues, List.filter_append, List.filter_filter]
    have hself : ([{ c with complete := true }] : List Cue).filter (fun x => x.chip == j && x.tick == k) = [] := by
      simp only [List.filter_eq_nil_iff, List.mem_singleton, forall_eq, Bool.and_eq_true, beq_iff_eq]
      rintro ⟨rfl, rfl⟩
      rcases h with h | h <;> exact h rfl
    rw [hself, List.append_nil]
    refine List.filter_congr fun x _ => ?_
    cases hx : (x.chip == j && x.tick == k) with
    | false => rfl
    | true => rw [hother x hx]; rfl
  unfold Dev.cueOf
  rw [hcues, Dev.holding_left, hl]
  rfl

/-- Settles O31: entering, leaving, the own cue, the clapper message and a neighbour's cue, each by its own lemma. -/
theorem coordinationCompletes : Obligations.CoordinationCompletes := by
  unfold Obligations.CoordinationCompletes
  refine ⟨fun s hmode hgood hb href => ⟨_, completes_act _ rfl (goEnterCoordinated_due hmode hgood hb href), rfl⟩, fun s hc h => ?_,
    fun s tick body ht hc hb hbody => ?_, fun s hmode hp hb => ?_,
    fun s x chip tick ts ha hh hseg hchip htick hown hnb hnext hnew hp hbeat hlate => ?_⟩
  · have hbt := (goCoordExit_bt (t := s.now) hc h).trans (s.dev.exited_bt s.now)
    refine ⟨_, completes_act _ rfl rfl, by rw [hbt], ?_, by rw [hbt], fun hdrift hmode => ?_⟩
    · rw [Dev.coordinating, hbt]
      cases s.dev.bt.servo.usable <;> rfl
    · rw [goCoordExit_due hc h, if_pos ⟨hdrift, hmode⟩]
      exact Dev.inc_bit _ s.now 7 0 0 (by decide)
  · subst hbody
    have hbt := goCueSend_bt ht hc hb
    refine ⟨_, completes_act _ rfl rfl, by rw [hbt], by rw [hbt]; rfl, fun r _ hr => ?_, fun r _ hr hs hready => ?_⟩
    · rw [goCueSend_sheet ht hc hb, hr]; rfl
    · rw [goCueSend_sheet ht hc hb, if_pos hr, emptied_takeCount hs hready]
  · exact ⟨_, completes_act _ rfl (goClapperMessage_due hmode hp hb), (Dev.bump_bt _ _ _ _).trans (s.dev.btSend_sent s.now 2 (tickOf s.now) 1 []).bt⟩
  · subst hchip htick
    have hparse : parseCue (wholeCue x).body = some ts := by
      rw [← hp]; simp [Cue.body, wholeCue, sortBy, sortBy.insertByFront]
    have hgo : goCueSegment s.now x s.dev = s.dev.holding (wholeCue x) :=
      (goCueSegment_whole ha hh hseg hown hnb hnext hnew).trans (Dev.cueComplete_timely hnew (by rw [hparse]; rfl) hbeat hlate)
    exact ⟨_, completes_act _ rfl hgo, (Dev.holding_cueOf hnew rfl rfl rfl).trans hparse, fun k j h hl => Dev.holding_cueOf_others h hl, s.dev.holding_frame _⟩

end Sys2Proof.Machine
end

section
/-! PROOFS. The router's intakes: what the end of a frame leaves alone, the slow-path queue, and the path of a frame from its intake to a ring, to the queue or to its drop (O14). -/
namespace Sys2Proof.Machine

/-! What the end of a frame reaches (R305 to R311). -/

/-- Between two devices only a frame's completion has happened: it reaches the rings, host memory, the ports' stamps, the interrupts and the counts. -/
def OnlyCompletions (d e : Dev) : Prop :=
  ∃ tm host emac glb counts, e = { d with tm := tm, host := host, emac := emac, glb := glb, counts := counts }

theorem OnlyCompletions.refl (d : Dev) : OnlyCompletions d d := ⟨d.tm, d.host, d.emac, d.glb, d.counts, rfl⟩

theorem OnlyCompletions.trans {d e a : Dev} (h : OnlyCompletions d e) (h' : OnlyCompletions e a) : OnlyCompletions d a := by
  obtain ⟨tm, host, emac, glb, counts, rfl⟩ := h
  obtain ⟨tm', host', emac', glb', counts', rfl⟩ := h'
  exact ⟨tm', host', emac', glb', counts', rfl⟩

theorem OnlyCompletions.rte {d e : Dev} (h : OnlyCompletions d e) : e.rte = d.rte := by obtain ⟨_, _, _, _, _, rfl⟩ := h; rfl

theorem onlyCompletions_ite {d a b : Dev} {c : Prop} [Decidable c] (ha : OnlyCompletions d a) (hb : OnlyCompletions d b) :
    OnlyCompletions d (if c then a else b) := by
  split
  · exact ha
  · exact hb

theorem onlyCompletions_modRing (d : Dev) (g : Nat) (f : Ring → Ring) : OnlyCompletions d (d.modRing g f) := ⟨_, _, _, _, _, rfl⟩

theorem onlyCompletions_fireMsi (d : Dev) (f v : Nat) : OnlyCompletions d (d.fireMsi f v) :=
  onlyCompletions_ite ⟨_, _, _, _, _, rfl⟩ (.refl d)

theorem onlyCompletions_fireRing (d : Dev) (g : Nat) : OnlyCompletions d (d.fireRing g) :=
  onlyCompletions_ite ((onlyCompletions_modRing d g _).trans (onlyCompletions_fireMsi _ _ _)) (onlyCompletions_modRing d g _)

theorem onlyCompletions_coalesce (d : Dev) (g : Nat) : OnlyCompletions d (d.coalesce g) :=
  onlyCompletions_ite ((onlyCompletions_modRing d g _).trans (onlyCompletions_fireRing _ g)) (onlyCompletions_modRing d g _)

theorem onlyCompletions_postOne (d : Dev) (g : Nat) : OnlyCompletions d (d.postOne g) := by
  have hput : ∀ (e : Dev) (f a : Nat) (l : List Byte), OnlyCompletions e (e.hostPut f a l) := fun _ _ _ _ => ⟨_, _, _, _, _, rfl⟩
  have hstamps : ∀ (e : Dev) (i : Nat), OnlyCompletions e (releaseStamps e g i) := fun _ _ => ⟨_, _, _, _, _, rfl⟩
  have hbump : ∀ (e : Dev) (b k n : Nat), OnlyCompletions e (e.bump b k n) := fun _ _ _ _ => ⟨_, _, _, _, _, rfl⟩
  unfold Dev.postOne
  dsimp only
  split
  · exact .refl d
  · exact onlyCompletions_ite (.refl d)
      (((((hput d _ _ _).trans (onlyCompletions_modRing _ g _)).trans (hstamps _ _)).trans (hbump _ _ _ _)).trans (hbump _ _ _ _) |>.trans
        (onlyCompletions_coalesce _ g))

theorem onlyCompletions_iterN (g n : Nat) (d : Dev) : OnlyCompletions d (Dev.postAll.iterN n (fun e => e.postOne g) d) := by
  induction n generalizing d with
  | zero => exact .refl d
  | succ n ih => exact (onlyCompletions_postOne d g).trans (ih _)

theorem onlyCompletions_completeDesc (d : Dev) (g : Nat) (x : Desc) (i : ComplInfo) : OnlyCompletions d (d.completeDesc g x i) :=
  (onlyCompletions_modRing d g _).trans (onlyCompletions_iterN g _ _)

theorem onlyCompletions_finish (d : Dev) (desc : Option (Nat × Nat)) (i : ComplInfo) : OnlyCompletions d (d.finish desc i) := by
  unfold Dev.finish
  split
  · exact .refl d
  · split
    · exact onlyCompletions_completeDesc d _ _ i
    · exact .refl d

/-! The slow-path queue (R295). -/

/-- The router once item `k` has entered the slow-path queue as `i`. -/
def Rte.queued (r : Rte) (k : Nat) (i : SlowItem) : Rte := { r with items := tput itemReset r.items k i, slow := r.slow ++ [k] }

/-- The item that a frame becomes. -/
def slowItemOf (reason hash : Nat) (x : Pkt) : SlowItem := { used := true, reason := reason, pkt := { x with desc := none }, hash := hash }

theorem Dev.item_queued {d : Dev} {r : Rte} {k : Nat} {i : SlowItem} (h : d.rte = r.queued k i) (j : Nat) :
    d.item j = if j = k then i else tlook itemReset r.items j := by
  rw [Dev.item, h, Rte.queued, tlook_tput]

theorem Dev.pushSlow_rte (d : Dev) (k reason hash : Nat) (x : Pkt) :
    (d.pushSlow k reason hash x).rte = d.rte.queued k (slowItemOf reason hash x) := by
  rw [← (onlyCompletions_finish d x.desc { status := 0xA }).rte]
  rfl

/-- While the queue has room a frame for the slow path enters it. -/
theorem Dev.toSlow_rte {d : Dev} {k : Nat} (t reason hash : Nat) (x : Pkt) (hk : d.slowRoom = some k) :
    (d.toSlow t reason hash x).rte = d.rte.queued k (slowItemOf reason hash x) := by
  rw [Dev.toSlow, hk]
  exact d.pushSlow_rte k reason hash x

/-! A port's receive buffer has shrunk (R267). -/

/-- From `d` to `e` only the pause that port `p` sends may have changed. -/
structure OnlyPause (p : Nat) (d e : Dev) : Prop where
  frame : e = { d with emac := e.emac }
  others : ∀ j, j ≠ p → e.port j = d.port j
  rx : (e.port p).rx = (d.port p).rx

theorem OnlyPause.refl (p : Nat) (d : Dev) : OnlyPause p d d := ⟨rfl, fun _ _ => rfl, rfl⟩

theorem OnlyPause.trans {p : Nat} {d e a : Dev} (h : OnlyPause p d e) (h' : OnlyPause p e a) : OnlyPause p d a where
  frame := by rw [h'.frame, h.frame]
  others j hj := (h'.others j hj).trans (h.others j hj)
  rx := h'.rx.trans h.rx

theorem onlyPause_modPort (d : Dev) (p : Nat) {f : Port → Port} (hf : (f (d.port p)).rx = (d.port p).rx) : OnlyPause p d (d.modPort p f) where
  frame := rfl
  others j hj := by rw [Dev.port_modPort, if_neg hj]
  rx := by rw [Dev.port_modPort, if_pos rfl, hf]

theorem onlyPause_pauseFall (d : Dev) (p k : Nat) : OnlyPause p d (d.pauseFall p k) := by
  have hxoff := onlyPause_modPort d p (f := fun x => { x with xoff := tput (fun _ => 0) x.xoff k 0 }) rfl
  unfold Dev.pauseFall
  dsimp only
  split
  · split
    · exact hxoff.trans (onlyPause_modPort _ p rfl)
    · exact hxoff
  · exact .refl p d

theorem onlyPause_drainPause (d : Dev) (p : Nat) : OnlyPause p d (d.drainPause p) :=
  List.foldlRecOn (motive := OnlyPause p d) _ _ (.refl p d) fun e he k _ => he.trans (onlyPause_pauseFall e p k)

/-! The packet buffer is full (R315). -/

theorem Dev.bufFull_congr {d e : Dev} (hr : e.rte = d.rte) (ht : e.tm = d.tm) (hm : e.mac = d.mac) : e.bufFull = d.bufFull := by
  unfold Dev.bufFull Dev.bufUse
  rw [hr, ht, hm]

theorem Dev.noteFull_of_room {d : Dev} (t : Nat) (h : d.bufFull = false) : d.noteFull t = d := by
  simp [Dev.noteFull, h]

@[simp] theorem Dev.noteFull_rte (d : Dev) (t : Nat) : (d.noteFull t).rte = d.rte := by
  unfold Dev.noteFull; split <;> simp

@[simp] theorem Dev.noteFull_ring (d : Dev) (t g : Nat) : (d.noteFull t).ring g = d.ring g := by
  unfold Dev.noteFull Dev.ring; split <;> simp

/-- Noting that the buffer is full takes no cell of it. -/
theorem Dev.noteFull_bufFull (d : Dev) (t : Nat) : (d.noteFull t).bufFull = d.bufFull := by
  unfold Dev.noteFull
  split
  · exact Dev.bufFull_congr (d := { d with tm := { d.tm with full := true } }) (Dev.inc_rte _ _ _ _ _) (Dev.inc_tm _ _ _ _ _) (Dev.inc_mac _ _ _ _ _)
  · rfl

/-! Parsing: where the IP packet of a parsed frame ends (R284). -/

theorem parse4_ipEnd {f : List Byte} {p : Parsed} (h : parse4 f = .ok p) : 34 ≤ p.ipEnd ∧ p.ipEnd ≤ f.length := by
  simp only [parse4] at h
  split at h
  case isTrue => cases h
  case isFalse hver =>
    split at h
    case isTrue => cases h
    case isFalse =>
      split at h
      case isTrue => cases h
      case isFalse hbad =>
        split at h
        case isTrue => cases h
        case isFalse =>
          cases h
          simp only [Bool.or_eq_true, decide_eq_true_eq, not_or, Nat.not_lt] at hver hbad
          dsimp only
          omega

theorem parse6_ipEnd {f : List Byte} {p : Parsed} (h : parse6 f = .ok p) : 34 ≤ p.ipEnd ∧ p.ipEnd ≤ f.length := by
  simp only [parse6] at h
  split at h
  case isTrue => cases h
  case isFalse hver =>
    split at h
    · cases h
    · split at h
      case isTrue => cases h
      case isFalse =>
        split at h
        case isTrue => cases h
        case isFalse =>
          cases h
          simp only [Bool.or_eq_true, decide_eq_true_eq, not_or, Nat.not_lt] at hver
          dsimp only
          omega

theorem parseFrame_ipEnd {f : List Byte} {p : Parsed} (h : parseFrame f = .ok p) : 34 ≤ p.ipEnd ∧ p.ipEnd ≤ f.length := by
  unfold parseFrame at h
  split at h
  · cases h
  · exact parse4_ipEnd h
  · exact parse6_ipEnd h
  · cases h

/-! Lengths of rewritten frames (R294). -/

@[simp] theorem leBytes_length (n k : Nat) : (leBytes n k).length = k := by
  induction k generalizing n with
  | zero => rfl
  | succ k ih => rw [leBytes, List.length_cons, ih]

@[simp] theorem beBytes_length (n k : Nat) : (beBytes n k).length = k := by rw [beBytes, List.length_reverse, leBytes_length]

theorem putAt_length {l v : List Byte} {i : Nat} (h : i + v.length ≤ l.length) : (putAt l i v).length = l.length := by
  simp only [putAt, List.length_append, List.length_take, List.length_drop]
  omega

theorem ip4Sum_length {l : List Byte} {i : Nat} (n : Nat) (h : i + 12 ≤ l.length) : (ip4Sum l i n).length = l.length := by
  have hclear : (putAt l (i + 10) [0, 0]).length = l.length := putAt_length h
  rw [ip4Sum, putAt_length (by rw [beBytes_length, hclear]; exact h), hclear]

theorem lessTtl_length {f : List Byte} (p : Parsed) (h : 26 ≤ f.length) : (lessTtl f p).length = f.length := by
  unfold lessTtl
  split
  · exact putAt_length (show 21 + 1 ≤ f.length by omega)
  · have hput : (putAt f 22 [BitVec.ofNat 8 (p.ttl - 1)]).length = f.length := putAt_length (show 22 + 1 ≤ f.length by omega)
    rw [ip4Sum_length 20 (by rw [hput]; exact h), hput]

theorem tagsOf_length (w : Word) (pri : Nat) : (tagsOf w pri).length ≤ 8 := by
  unfold tagsOf
  dsimp only
  split <;> simp

/-- The frame that goes to a ring by the next hop `nh`: its destination address, its tags, and the rest of the rewritten frame `f` (R294). -/
def ringFrame (nh : List Word) (pri : Nat) (f : List Byte) : List Byte :=
  beBytes (fld (wd nh 1) 47 0) 6 ++ (f.drop 6).take 6 ++ tagsOf (wd nh 0) pri ++ f.drop 12

theorem ringFrame_length {f : List Byte} (nh : List Word) (pri : Nat) (h : 12 ≤ f.length) : (ringFrame nh pri f).length ≤ f.length + 8 := by
  have := tagsOf_length (wd nh 0) pri
  simp only [ringFrame, List.length_append, beBytes_length, List.length_take, List.length_drop]
  omega

theorem ringFrame_address (nh : List Word) (pri : Nat) (f : List Byte) : (ringFrame nh pri f).take 6 = beBytes (fld (wd nh 1) 47 0) 6 := by
  rw [ringFrame, List.append_assoc, List.append_assoc, List.take_append_of_le_length (by simp), List.take_of_length_le (by simp)]

/-! A frame for a ring that holds waiting frames (R314). -/

theorem Dev.bump_counts (d : Dev) (b k n : Nat) : ∃ counts, d.bump b k n = { d with counts := counts } := ⟨_, rfl⟩

/-- A frame joins the tail of ring `g`'s queue. -/
def Dev.joinRing (d : Dev) (g : Nat) (y : Pkt) : Dev := d.modRing g (fun r => { r with queue := r.queue ++ [{ y with enq := d.glb.up }] })

theorem Dev.toRing_joins {d : Dev} {g : Nat} {y : Pkt} (t : Nat) (b : Option Nat) (hq : (d.ring g).queue ≠ [])
    (hroom : queueOctets (d.ring g).queue + y.octets.length ≤ d.pv 0x6204 0 g * 1024) : d.toRing t g y b = d.joinRing g y := by
  unfold Dev.toRing
  dsimp only
  split
  next hnil _ => exact absurd hnil hq
  next => exact if_neg (Nat.not_lt.mpr hroom)

/-- A frame routed to a running RX ring that holds waiting frames joins them; the rest is counted. -/
theorem Dev.routeToRing_joins {d : Dev} {g : Nat} {y : Pkt} (t : Nat) (hst : (d.ring g).st = .running) (hk : (d.ring g).kind = 1)
    (hq : (d.ring g).queue ≠ []) (hroom : queueOctets (d.ring g).queue + y.octets.length ≤ d.pv 0x6204 0 g * 1024) :
    ∃ counts, d.routeToRing t g y = { d.joinRing g y with counts := counts } := by
  simp only [Dev.routeToRing, hst, hk, ne_eq, not_true_eq_false, decide_false, Bool.or_self, Bool.false_eq_true, if_false]
  split
  · rw [Dev.toRing_joins (d := d.hbmOctets 0 y.octets.length) t none hq hroom]
    exact ⟨_, rfl⟩
  · rw [Dev.toRing_joins t none hq hroom]
    exact ⟨_, rfl⟩

/-- The route of `x`, parsed as `p`, has neither NAT nor SLOW, and its next hop `nh`, entry `n`, is without a tunnel and leads to ring `g` of the frame's tenant: a running RX ring that holds waiting frames and has room for this one with two tags. -/
structure RingRoute (d : Dev) (x : Pkt) (p : Parsed) (n g : Nat) (nh : RteEnt) : Prop where
  route : d.routeOf x.tenant p = some (n, false, false)
  ttl : 2 ≤ p.ttl
  hop : d.rteAt 3 0 n = some nh
  tenant : nh.tenant = x.tenant
  kind : fld (wd nh.words 0) 59 58 = 2
  target : g = fld (wd nh.words 0) 57 46
  mtu : p.ipEnd - 14 ≤ fld (wd nh.words 0) 19 6
  noTunnel : fld (wd nh.words 1) 63 48 = 0xFFFF
  owner : (d.ring g).owner = x.tenant
  running : (d.ring g).st = .running
  rx : (d.ring g).kind = 1
  waits : (d.ring g).queue ≠ []
  room : queueOctets (d.ring g).queue + x.octets.length + 8 ≤ d.pv 0x6204 0 g * 1024

/-- The frame `x` as it goes to a ring by the next hop `nh` (R294). -/
def Dev.forRing (d : Dev) (x : Pkt) (p : Parsed) (nh : RteEnt) : Pkt :=
  { x with octets := ringFrame nh.words d.free.toNat (lessTtl (x.octets.take p.ipEnd) p), tc := p.dscp / 8 }

/-- The rewritten frame is longer by its tags at most. -/
theorem Dev.forRing_length (d : Dev) {x : Pkt} {p : Parsed} (nh : RteEnt) (hp : parseFrame x.octets = .ok p) :
    (d.forRing x p nh).octets.length ≤ x.octets.length + 8 := by
  obtain ⟨hend, hlen⟩ := parseFrame_ipEnd hp
  have htake : (x.octets.take p.ipEnd).length = p.ipEnd := List.length_take_of_le hlen
  have hless : (lessTtl (x.octets.take p.ipEnd) p).length = p.ipEnd := by rw [lessTtl_length p (by omega), htake]
  have hframe := ringFrame_length nh.words d.free.toNat (f := lessTtl (x.octets.take p.ipEnd) p) (by omega)
  unfold Dev.forRing
  dsimp only
  omega

/-- The last steps of R283 on such a route: the rewritten frame joins the ring's queue. -/
theorem RingRoute.forward {d : Dev} {x : Pkt} {p : Parsed} {n g : Nat} {nh : RteEnt} (h : RingRoute d x p n g nh) (t hash : Nat)
    (hp : parseFrame x.octets = .ok p) : ∃ counts, d.forward t x p hash { nh := n, tc := p.dscp / 8, policer := none, rewrite := id } =
      { d.drew.joinRing g (d.forRing x p nh) with counts := counts } := by
  have hlen := d.forRing_length nh hp
  have hroom := h.room
  have hfit : queueOctets (d.ring g).queue + (d.forRing x p nh).octets.length ≤ d.pv 0x6204 0 g * 1024 := by omega
  have hegress : d.egressOk x.tenant nh.words = true := by simp [Dev.egressOk, h.kind, ← h.target, h.owner]
  have hforward : d.forward t x p hash { nh := n, tc := p.dscp / 8, policer := none, rewrite := id } =
      (d.drew.bump 35 31).routeToRing t g (d.forRing x p nh) := by
    simp only [Dev.forward, Nat.not_le.mpr h.ttl, if_false, h.hop, h.kind, Nat.not_lt.mpr h.mtu, h.noTunnel, h.tenant, hegress, Dev.handOff, ← h.target]
    rw [if_neg (by decide), if_neg (by decide), if_neg (by simp)]
    rfl
  obtain ⟨c, hout⟩ := Dev.bump_counts d.drew 35 31 1
  rw [hforward, hout]
  exact Dev.routeToRing_joins (d := { d.drew with counts := c }) t h.running h.rx h.waits hfit

/-! From the ring intake to the routes (R283). -/

/-- The frame `x` waits first at the ring intake of an open router whose beat admits a miss; it parses as `p`, and no tunnel endpoint, ACL rule, flow entry or NAT is for it. -/
structure RingMiss (d : Dev) (x : Pkt) (rest : List Pkt) (p : Parsed) : Prop where
  isOpen : d.routerOpen = true
  reads : d.rte.bucketReads ≤ 398
  head : d.rte.ring = x :: rest
  kind : x.srcKind = 2
  fresh : x.again = false
  parsed : parseFrame x.octets = .ok p
  noEnd : d.localEp x.tenant p = none
  noRule : d.aclRule x.tenant 2 p = none
  noFlow : d.rteFind 0 x.tenant 0 (flowKeyOf 2 p) = none
  noNat : d.natPool x.tenant p = false

/-- The device once the router has taken the first frame of the ring intake and looked up its flow in vain: the frame is gone from the intake, two buckets have been read, and the counts are what they are. -/
def Dev.missed (d : Dev) (rest : List Pkt) (counts : Table Nat) : Dev :=
  { d with rte := { d.rte with ring := rest, bucketReads := d.rte.bucketReads + 2, badBucket := false }, counts := counts }

/-- A flow that has no entry costs two bucket reads (R288). -/
theorem Dev.flowLookup_miss {d : Dev} {ten : Nat} {key : List Word} (t : Nat) (h : d.rteFind 0 ten 0 key = none) :
    ∃ counts, d.flowLookup t ten key =
      ({ d with rte := { d.rte with bucketReads := d.rte.bucketReads + 2, badBucket := false }, counts := counts }, none) := by
  simp only [Dev.flowLookup, h, Dev.hbmOctets]
  obtain ⟨_, hread⟩ := Dev.bump_counts { d with rte := { d.rte with bucketReads := d.rte.bucketReads + 2, badBucket := false } } 41 17 1024
  rw [hread]
  exact ⟨_, rfl⟩

theorem goRouterFrame_closed {d : Dev} (t : Nat) (i : Intake) (h : d.routerOpen = false) : goRouterFrame t i d = d := by
  simp [goRouterFrame, h]

/-- An open router takes a frame whose way reads no more buckets than the beat has. -/
theorem goRouterFrame_takes {d d1 : Dev} {i : Intake} {x : Pkt} (t : Nat) (ho : d.routerOpen = true) (hi : d.takeIntake i = some (x, d1))
    (hr : (d1.enter t x).rte.bucketReads ≤ 400) : goRouterFrame t i d = ((d1.enter t x).intakeLeft i).noteFull t := by
  simp [goRouterFrame, ho, hi, Nat.not_lt.mpr hr]

section
variable {d : Dev} {x : Pkt} {rest : List Pkt} {p : Parsed} (h : RingMiss d x rest p)
include h

theorem RingMiss.takeIntake : d.takeIntake .ring = some (x, { d with rte := { d.rte with ring := rest } }) := by
  rw [Dev.takeIntake, h.head]

/-- Such a frame comes to the route path. -/
theorem RingMiss.enter (t : Nat) : ∃ counts, ({ d with rte := { d.rte with ring := rest } } : Dev).enter t x =
    (d.missed rest counts).routePath t x p (hashOf x.tenant 2 p).toNat none := by
  obtain ⟨c, hin⟩ := Dev.bump_counts { d with rte := { d.rte with ring := rest } } 35 2 1
  have hend : ({ d with rte := { d.rte with ring := rest }, counts := c } : Dev).localEp x.tenant p = none := h.noEnd
  have hrule : ({ d with rte := { d.rte with ring := rest }, counts := c } : Dev).aclRule x.tenant 2 p = none := h.noRule
  obtain ⟨counts, hflow⟩ := Dev.flowLookup_miss (d := { d with rte := { d.rte with ring := rest }, counts := c }) t h.noFlow
  refine ⟨counts, ?_⟩
  simp only [Dev.enter, h.fresh, Bool.false_eq_true, if_false, h.kind, hin, Dev.routeIn, h.parsed, Dev.terminate, hend, Dev.lookup, hrule, hflow]
  rfl

/-- The router takes such a frame, and nothing but the route path is left to happen to it. -/
theorem RingMiss.routed (t : Nat) : ∃ counts,
    ((d.missed rest counts).routePath t x p (hashOf x.tenant 2 p).toNat none).rte.bucketReads ≤ 400 →
    goRouterFrame t .ring d = ((d.missed rest counts).routePath t x p (hashOf x.tenant 2 p).toNat none).noteFull t := by
  obtain ⟨counts, henter⟩ := h.enter t
  refine ⟨counts, fun hr => ?_⟩
  rw [← henter] at hr ⊢
  exact goRouterFrame_takes t h.isOpen h.takeIntake hr

variable (counts : Table Nat)

theorem RingMiss.missed_natPool : (d.missed rest counts).natPool x.tenant p = false := h.noNat

/-- Without a route the frame is for the slow path (R292). -/
theorem RingMiss.routePath_unrouted (t : Nat) (hroute : d.routeOf x.tenant p = none) :
    (d.missed rest counts).routePath t x p (hashOf x.tenant 2 p).toNat none = (d.missed rest counts).toSlow t 4 (hashOf x.tenant 2 p).toNat x := by
  have hr : (d.missed rest counts).routeOf x.tenant p = none := hroute
  simp [Dev.routePath, h.missed_natPool, hr]

/-- A route without NAT and SLOW forwards the frame in the class of its DSCP (R292). -/
theorem RingMiss.routePath_routed (t : Nat) {n : Nat} (hroute : d.routeOf x.tenant p = some (n, false, false)) :
    (d.missed rest counts).routePath t x p (hashOf x.tenant 2 p).toNat none =
      (d.missed rest counts).forward t x p (hashOf x.tenant 2 p).toNat { nh := n, tc := p.dscp / 8, policer := none, rewrite := id } := by
  have hr : (d.missed rest counts).routeOf x.tenant p = some (n, false, false) := hroute
  simp [Dev.routePath, h.missed_natPool, hr]

/-- A miss with a route to a ring that holds waiting frames: the frame leaves the intake and joins them. -/
theorem RingMiss.joins {n g : Nat} {nh : RteEnt} (hroute : RingRoute d x p n g nh) (t : Nat) :
    ∃ counts, goRouterFrame t .ring d = Dev.noteFull ((d.missed rest counts).drew.joinRing g (d.forRing x p nh)) t := by
  obtain ⟨route, ttl, hop, tenant, kind, target, mtu, noTunnel, owner, running, rx, waits, room⟩ := hroute
  obtain ⟨c, hrouted⟩ := h.routed t
  have hmissed : RingRoute (d.missed rest c) x p n g nh := ⟨route, ttl, hop, tenant, kind, target, mtu, noTunnel, owner, running, rx, waits, room⟩
  obtain ⟨counts, hjoins⟩ := hmissed.forward t (hashOf x.tenant 2 p).toNat h.parsed
  rw [(h.routePath_routed c t route).trans hjoins] at hrouted
  exact ⟨counts, hrouted (Nat.add_le_add_right h.reads 2)⟩

/-- A miss without a route: the frame leaves the intake and enters the slow-path queue. -/
theorem RingMiss.goesSlow {k : Nat} (t : Nat) (hroute : d.routeOf x.tenant p = none) (hroom : d.slowRoom = some k) :
    ∃ counts, (goRouterFrame t .ring d).rte = (d.missed rest counts).rte.queued k (slowItemOf 4 (hashOf x.tenant 2 p).toNat x) := by
  obtain ⟨counts, hrouted⟩ := h.routed t
  have hslow := Dev.toSlow_rte (d := d.missed rest counts) t 4 (hashOf x.tenant 2 p).toNat x hroom
  rw [← h.routePath_unrouted counts t hroute] at hslow
  exact ⟨counts, by rw [hrouted (by rw [hslow]; exact Nat.add_le_add_right h.reads 2), Dev.noteFull_rte, hslow]⟩

end

/-! From a port's intake (R280, R281). -/

/-- The frame `x`, of priority `k`, waits first in port `q`'s receive buffer, and the router may take it there: none waits for the slow path, the ports have not quiesced, and MACsec is off. -/
structure PortHead (d : Dev) (q k : Nat) (x : Pkt) (rest : List (Nat × Pkt)) : Prop where
  noneWaits : tlook (fun _ => []) d.rte.waiting q = []
  awake : d.gaf.quiesced.testBit 1 = false
  noClear : (d.port q).clear = []
  head : (d.port q).rx = (k, x) :: rest
  noSec : (tlook (fun _ => ({} : MacsecPort)) d.wcx.macsec q).en = false

theorem PortHead.takeIntake {d : Dev} {q k : Nat} {x : Pkt} {rest : List (Nat × Pkt)} (h : PortHead d q k x rest) :
    d.takeIntake (.port q) = some ({ x with tc := k }, d.modPort q (fun y => { y with rx := rest })) := by
  simp [Dev.takeIntake, h.noneWaits, h.awake, h.noClear, h.head, Dev.wantsSec, h.noSec]

/-- The VLAN map does not look at a frame's traffic class. -/
theorem Dev.vlanIn_class {d : Dev} {x : Pkt} (k : Nat) (h : d.vlanIn x = none) : d.vlanIn { x with tc := k } = none := by
  unfold Dev.vlanIn at h ⊢
  dsimp only at h ⊢
  split at h
  · rfl
  · simpa using h

/-- An Ethernet frame whose VLAN has no entry is dropped (R281). -/
theorem Dev.enter_vlanMiss {d : Dev} {x : Pkt} (t : Nat) (hk : x.srcKind = 0) (ha : x.again = false) (hd : x.desc = none)
    (hb : d.btTakes x = false) (hv : d.vlanIn x = none) : d.enter t x = ((d.bump 35 0).bump 35 21).dropped t x.tenant := by
  simp [Dev.enter, ha, hk, hb, hv, Dev.rteDrop, hd, Dev.finish]

theorem Dev.bufFull_of_open {d : Dev} (h : d.routerOpen = true) : d.bufFull = false := by
  simp only [Dev.routerOpen, Bool.and_eq_true, Bool.not_eq_true'] at h
  obtain ⟨⟨_, hroom⟩, _⟩ := h
  exact hroom

/-- A frame of a port whose VLAN has no entry leaves the buffer and is dropped, counted and handed off; else only the port's pause may change. -/
theorem PortHead.goRouterFrame_vlanMiss {d : Dev} {q k : Nat} {x : Pkt} {rest : List (Nat × Pkt)} (h : PortHead d q k x rest) (t : Nat)
    (ho : d.routerOpen = true) (hr : d.rte.bucketReads ≤ 398) (hk : x.srcKind = 0) (ha : x.again = false) (hd : x.desc = none)
    (hb : d.btTakes x = false) (hv : d.vlanIn x = none) :
    OnlyPause q ((((d.bump 35 0).bump 35 21).dropped t x.tenant).modPort q (fun y => { y with rx := rest })) (goRouterFrame t (.port q) d) := by
  have henter : (d.modPort q (fun y => { y with rx := rest })).enter t { x with tc := k } = _ :=
    Dev.enter_vlanMiss t hk ha hd hb (Dev.vlanIn_class (d := d) k hv)
  have hpause := onlyPause_drainPause ((((d.modPort q (fun y => { y with rx := rest })).bump 35 0).bump 35 21).dropped t x.tenant) q
  rw [goRouterFrame_takes t ho h.takeIntake (by rw [henter]; exact Nat.le_trans hr (by decide)), henter,
    Dev.intakeLeft, Dev.noteFull_of_room t ((Dev.bufFull_congr ?_ ?_ ?_).trans (Dev.bufFull_of_open ho))]
  · exact hpause
  all_goals rw [hpause.frame]; rfl

/-- Settles O14: the route to a ring, the slow path, the VLAN miss and the closed router, each by its own lemma. -/
theorem routerFramesTakeTheirPath : Obligations.RouterFramesTakeTheirPath := by
  unfold Obligations.RouterFramesTakeTheirPath
  refine ⟨fun s x rest p n g nh ho hr hhead hk ha hp hend hrule hflow hnat hroute httl hnh hten hkind hg hmtu htun hown hst hrx hq hroom => ?_,
    fun s x rest p k ho hr hhead hk ha hp hend hrule hflow hnat hroute hroom => ?_,
    fun s q k x rest ho hr hw hq hc hrx hen hk ha hd hb hv => ?_,
    fun s i ho => completes_act _ rfl (goRouterFrame_closed s.now i ho)⟩
  · have hmiss : RingMiss s.dev x rest p := ⟨ho, hr, hhead, hk, ha, hp, hend, hrule, hflow, hnat⟩
    obtain ⟨counts, hgo⟩ := hmiss.joins ⟨hroute, httl, hnh, hten, hkind, hg, hmtu, htun, hown, hst, hrx, hq, hroom⟩ s.now
    refine ⟨_, { s.dev.forRing x p nh with enq := s.dev.glb.up }, completes_act _ rfl hgo, by rw [Dev.noteFull_rte]; rfl, ?_, rfl, rfl,
      ringFrame_address _ _ _, fun j hj => ?_, by rw [Dev.noteFull_rte]; rfl, fun hfull => ?_⟩
    · rw [Dev.noteFull_ring]
      exact (congrArg Ring.queue (Dev.ring_modRing _ _ _ _)).trans (by rw [if_pos rfl]; rfl)
    · rw [Dev.noteFull_ring]
      exact (Dev.ring_modRing _ _ _ _).trans (if_neg hj)
    · rw [Dev.noteFull_of_room s.now ((Dev.noteFull_bufFull _ _).symm.trans hfull)]
      rfl
  · have hmiss : RingMiss s.dev x rest p := ⟨ho, hr, hhead, hk, ha, hp, hend, hrule, hflow, hnat⟩
    obtain ⟨counts, hrte⟩ := hmiss.goesSlow s.now hroute hroom
    have hitem : (goRouterFrame s.now .ring s.dev).item k = slowItemOf 4 (hashOf x.tenant 2 p).toNat x := by
      rw [Dev.item_queued hrte, if_pos rfl]
    refine ⟨_, completes_act _ rfl rfl, by rw [hrte]; rfl, by rw [hrte]; rfl, by rw [hitem]; rfl, by rw [hitem]; rfl, fun j hj => ?_,
      by rw [hrte]; rfl⟩
    rw [Dev.item_queued hrte, if_neg hj]; rfl
  · have h := PortHead.goRouterFrame_vlanMiss ⟨hw, hq, hc, hrx, hen⟩ s.now ho hr hk ha hd hb hv
    have hcounts : (goRouterFrame s.now (.port q) s.dev).counts = ((s.dev.bump 35 0).bump 35 21).counts := by rw [h.frame]; rfl
    refine ⟨_, completes_act _ rfl rfl, ?_, ?_, fun j hj => ?_, by rw [h.frame]; rfl, by rw [h.frame]; rfl⟩
    · exact h.rx.trans (congrArg Port.rx ((Dev.port_modPort _ _ _ _).trans (if_pos rfl)))
    · rw [Dev.counter_congr hcounts]
      simp
    · exact (h.others j hj).trans ((Dev.port_modPort _ _ _ _).trans (if_neg hj))

end Sys2Proof.Machine
end

section
/-! PROOFS. The router's tables: the frame that waits at a port's intake, the two commands of R299 and R300, and the ager (O15). -/
namespace Sys2Proof.Machine

/-! The intake goes on (R295). -/

/-- Once the slow-path queue has room, the first frame that waits at a port's intake enters it. -/
theorem goIntakeResume_rte {d : Dev} {p reason k : Nat} {x : Pkt} {rest : List (Nat × Pkt)} (t : Nat)
    (hw : tlook (fun _ => []) d.rte.waiting p = (reason, x) :: rest) (hk : d.slowRoom = some k) :
    ∃ hash, (goIntakeResume t p d).rte =
      ({ d.rte with waiting := tput (fun _ => []) d.rte.waiting p rest } : Rte).queued k (slowItemOf reason hash x) := by
  simp only [goIntakeResume, hw, hk]
  rw [(onlyPause_drainPause _ p).frame]
  exact ⟨_, Dev.toSlow_rte (d := { d with rte := { d.rte with waiting := tput (fun _ => []) d.rte.waiting p rest } }) t reason _ x hk⟩

/-! Requests of R299 and R300. -/

/-- A request that names no tenant passes the rows of its TENANT field. -/
theorem tenantRows_pass {f v : Nat} (h : f ≠ 0 → v = 0) : tenantRows (.fn f) v = [(false, .notPermitted), (false, .badParam)] := by
  by_cases hf : f = 0
  · simp [tenantRows, Master.isF0, hf]
  · simp [tenantRows, h hf]

/-- The change that a good write or erase stages. -/
def rteChangeOf (q : RteReq) : RteChange := ⟨q.tb, q.ten, q.ix, q.key, if q.erase then none else some q.ws⟩

/-! A request that has been taken is judged by the same tables. -/

section
variable (d : Dev) (f : Nat) (req : List Word)

@[simp] theorem Dev.taken_rteDenied : (d.taken f req).rteDenied = d.rteDenied := by
  unfold Dev.rteDenied Dev.rteKept; simp only [Dev.taken_rte]
@[simp] theorem Dev.taken_rteWrong : (d.taken f req).rteWrong = d.rteWrong := by
  unfold Dev.rteWrong Dev.rteFind Dev.rteKept; simp only [Dev.taken_rte]
@[simp] theorem Dev.taken_rteInserts : (d.taken f req).rteInserts = d.rteInserts := by
  unfold Dev.rteInserts Dev.rteKept; simp only [Dev.taken_rte]
@[simp] theorem Dev.taken_noPlace (q : RteReq) (all : Bool) : (d.taken f req).noPlace q all = d.noPlace q all := by
  unfold Dev.noPlace Dev.rteLaid; simp only [Dev.taken_rte]
@[simp] theorem Dev.taken_rteOver : (d.taken f req).rteOver = d.rteOver := by
  unfold Dev.rteOver Dev.rteHeld Dev.rteKept Dev.rteQuota Dev.pv Dev.inForce
  simp only [Dev.taken_rte, Dev.taken_force]
@[simp] theorem Dev.taken_rteLost : (d.taken f req).rteLost = d.rteLost := by
  unfold Dev.rteLost; simp only [Dev.taken_rteInserts, Dev.taken_rteOver, Dev.taken_noPlace]
@[simp] theorem Dev.taken_rteFull : (d.taken f req).rteFull = d.rteFull := by
  unfold Dev.rteFull; simp only [Dev.taken_rteInserts, Dev.taken_rteOver, Dev.taken_noPlace, Dev.taken_rteLost]
@[simp] theorem Dev.taken_claimed (r : Resource) (n : Nat) : (d.taken f req).claimed r n = d.claimed r n := by
  unfold Dev.claimed; rw [Dev.taken_claims]
@[simp] theorem Dev.taken_rteFind (tb ten ix : Nat) (key : List Word) : (d.taken f req).rteFind tb ten ix key = d.rteFind tb ten ix key := by
  unfold Dev.rteFind; rw [Dev.taken_rte]

end

/-! The ager (R291). -/

/-- The removal of a flow entry. -/
def flowRemoval (e : RteEnt) : RteChange := ⟨0, e.tenant, e.index, rteKey 0 e.words, none⟩

/-- Staging the removal of flows, one after the other, counts each and changes nothing else. -/
theorem foldl_stage_removals (l : List RteEnt) (d : Dev) : ∃ counts,
    l.foldl (fun x e => (x.rteStage (flowRemoval e)).bump 35 29) d =
      { d with rte := { d.rte with staged := d.rte.staged ++ l.map flowRemoval }, counts := counts } := by
  induction l generalizing d with
  | nil => exact ⟨d.counts, by simp⟩
  | cons e l ih =>
    obtain ⟨counts, h⟩ := ih ((d.rteStage (flowRemoval e)).bump 35 29)
    exact ⟨counts, by rw [List.foldl_cons, h]; simp [Dev.rteStage, Dev.bump]⟩

/-- Settles O15: the waiting frame and the ager by lemmas of their own, the two table commands by the first row of their condition tables that applies. -/
theorem routerIntakeAndTablesComplete : Obligations.RouterIntakeAndTablesComplete := by
  unfold Obligations.RouterIntakeAndTablesComplete
  refine ⟨fun s p reason k x rest hw hk => ?_, fun s f req q n hq ha hl hv hten hden hbad hwrong hfull hlost hclaim => ?_,
    fun s f req q n hq ha hl hv hten hden hbad hwrong hfull => ?_, fun s f req q n e hq ha hl hv hten hden hbad hfind => ?_, fun s => ?_⟩
  · obtain ⟨hash, hrte⟩ := goIntakeResume_rte s.now hw hk
    have hitem : (goIntakeResume s.now p s.dev).item k = slowItemOf reason hash x := by rw [Dev.item_queued hrte, if_pos rfl]
    refine ⟨_, completes_act _ rfl rfl, by rw [hrte]; simp [Rte.queued], by rw [hrte]; rfl, by rw [hitem]; rfl, by rw [hitem]; rfl,
      by rw [hitem]; rfl, fun j hj => ?_, fun j hj => ?_⟩
    · rw [Dev.item_queued hrte, if_neg hj]; rfl
    · rw [hrte]; simp [Rte.queued, hj]
  · subst hq
    obtain ⟨d, hc, hans, hd⟩ := completes_now (c := .rteTableWrite f req) (st := .ok) (body := [])
      (e := ((s.dev.taken f req).rteStage (rteChangeOf (rteReq (.fn f) req))).claim .table' (rteClaimNo (rteReq (.fn f) req)))
      rfl rfl ha (by simp) hl hv
      (by simp [firstOf, tenantRows_pass hten, hden, hbad, hwrong, hfull, hlost, hclaim, rteChangeOf]) (by decide) rfl
    exact ⟨d, hc, hans, by rw [hd]; rfl, by rw [hd]; rfl⟩
  · subst hq
    obtain ⟨d, hc, hans, hd⟩ := completes_now (c := .rteTableWrite f req) (st := .noResource) (body := [])
      (e := if (rteReq (.fn f) req).tb = 0 then (s.dev.taken f req).inc s.now 9 0 else s.dev.taken f req)
      rfl rfl ha (by simp) hl hv (by simp [firstOf, tenantRows_pass hten, hden, hbad, hwrong, hfull]) (by decide) (by split <;> simp)
    refine ⟨d, hc, hans, ?_, fun htb => ?_⟩
    · rw [hd]
      dsimp only
      split <;> simp
    · rw [hd, if_pos htb]
      exact Dev.inc_bit _ s.now 9 0 0 (by decide)
  · subst hq
    obtain ⟨d, hc, hans, hd⟩ := completes_now (c := .rteTableRead f req) (st := .ok) (body := packW [(e.tenant, 4, 0)] :: e.words)
      (e := s.dev.taken f req) rfl rfl ha (by simp) hl hv
      ((judged_none _ (by simp [tenantRows_pass hten, hden, hbad])).trans (by simp [hfind])) (by decide) rfl
    exact ⟨d, hc, hans, by rw [hd]; rfl⟩
  · obtain ⟨counts, hgo⟩ := foldl_stage_removals (s.dev.rte.ents.filter (s.dev.flowIdle (tickOf s.now))) s.dev
    exact ⟨_, completes_act _ rfl hgo, rfl, rfl⟩

end Sys2Proof.Machine
end

section
/-! PROOFS. Rings, shared: what the end of descriptors, the stop of a ring and the firing of its vector do to the rings (R305 to R311). -/
namespace Sys2Proof.Machine

/-! Completions of one ring (R305, R306, R311). -/

/-- From `r` to `r'` a ring has at most ended descriptors and passed completions on: it serves the same, it has no buffer it had not, and its frames still wait. -/
structure Ring.Ends (r r' : Ring) : Prop where
  frame : r' = { r with inflight := r'.inflight, free := r'.free, done := r'.done, cqTail := r'.cqTail, phase := r'.phase, since := r'.since, firstAt := r'.firstAt }
  free : r'.free.Sublist r.free

theorem Ring.Ends.refl (r : Ring) : r.Ends r := ⟨rfl, .refl _⟩

theorem Ring.Ends.trans {r r' r'' : Ring} (h : r.Ends r') (h' : r'.Ends r'') : r.Ends r'' :=
  ⟨by rw [h'.frame, h.frame], h'.free.trans h.free⟩

section
variable {r r' : Ring} (h : r.Ends r')
include h

theorem Ring.Ends.st : r'.st = r.st := by rw [h.frame]
theorem Ring.Ends.queue : r'.queue = r.queue := by rw [h.frame]
theorem Ring.Ends.cons : r'.cons = r.cons := by rw [h.frame]
theorem Ring.Ends.prod : r'.prod = r.prod := by rw [h.frame]
theorem Ring.Ends.cqHead : r'.cqHead = r.cqHead := by rw [h.frame]

end

/-- From `d` to `e` descriptors have ended on ring `g` alone. -/
structure EndsAt (g : Nat) (d e : Dev) : Prop where
  ends : (d.ring g).Ends (e.ring g)
  others : ∀ j, j ≠ g → e.ring j = d.ring j

theorem EndsAt.refl (g : Nat) (d : Dev) : EndsAt g d d := ⟨.refl _, fun _ _ => rfl⟩

theorem EndsAt.trans {g : Nat} {d e a : Dev} (h : EndsAt g d e) (h' : EndsAt g e a) : EndsAt g d a :=
  ⟨h.ends.trans h'.ends, fun j hj => (h'.others j hj).trans (h.others j hj)⟩

theorem endsAt_modRing (d : Dev) {g : Nat} {f : Ring → Ring} (hf : (d.ring g).Ends (f (d.ring g))) : EndsAt g d (d.modRing g f) :=
  ⟨by rw [Dev.ring_modRing, if_pos rfl]; exact hf, fun j hj => by rw [Dev.ring_modRing, if_neg hj]⟩

theorem Dev.ring_congr {d e : Dev} (h : e.tm = d.tm) (j : Nat) : e.ring j = d.ring j := by unfold Dev.ring; rw [h]

@[simp] theorem Dev.ring_bump (d : Dev) (b k n j : Nat) : (d.bump b k n).ring j = d.ring j := rfl
@[simp] theorem Dev.ring_inc (d : Dev) (t b k x j : Nat) : (d.inc t b k x).ring j = d.ring j := Dev.ring_congr (by simp) j
@[simp] theorem Dev.ring_hostPut (d : Dev) (f a : Nat) (l : List Byte) (j : Nat) : (d.hostPut f a l).ring j = d.ring j := rfl
theorem Dev.host_hostPut (d : Dev) (f a : Nat) (l : List Byte) : (d.hostPut f a l).host = putOctets d.host (f * 2 ^ 64 + a) l := by
  rw [Dev.hostPut, Dev.bump_host]
@[simp] theorem releaseStamps_host (d : Dev) (g id : Nat) : (releaseStamps d g id).host = d.host := rfl
@[simp] theorem releaseStamps_ring (d : Dev) (g id j : Nat) : (releaseStamps d g id).ring j = d.ring j := rfl

/-- Firing a ring's vector restarts its count, and changes no ring otherwise. -/
theorem Dev.fireRing_ring (d : Dev) (g j : Nat) : (d.fireRing g).ring j = if j = g then { d.ring g with since := 0, firstAt := 0 } else d.ring j := by
  rw [← Dev.ring_modRing d g j fun r => { r with since := 0, firstAt := 0 }]
  apply Dev.ring_congr
  unfold Dev.fireRing
  dsimp only
  split
  · rw [Dev.fireMsi_tm]
  · rfl

@[simp] theorem Dev.fireRing_host (d : Dev) (g : Nat) : (d.fireRing g).host = d.host := by
  unfold Dev.fireRing; dsimp only; split <;> simp

@[simp] theorem Dev.fireRing_regs (d : Dev) (g : Nat) : (d.fireRing g).regs = d.regs := by
  unfold Dev.fireRing; dsimp only; split <;> simp

/-- Counting a completion toward the next firing changes the count alone. -/
theorem Dev.coalesce_ring (d : Dev) (g : Nat) : ∃ since firstAt, ∀ j,
    (d.coalesce g).ring j = if j = g then { d.ring g with since := since, firstAt := firstAt } else d.ring j := by
  unfold Dev.coalesce
  dsimp only
  split
  · refine ⟨0, 0, fun j => ?_⟩
    rw [Dev.fireRing_ring, Dev.ring_modRing, Dev.ring_modRing, if_pos rfl]
    split <;> rfl
  · exact ⟨_, _, fun j => Dev.ring_modRing d g j _⟩

@[simp] theorem Dev.coalesce_host (d : Dev) (g : Nat) : (d.coalesce g).host = d.host := by
  unfold Dev.coalesce; dsimp only; split <;> simp

/-- A completion may be posted: the array has room, the ring is not stopped, and the traffic manager has not quiesced (R305, R307, R383). -/
structure Dev.MayPost (d : Dev) (g : Nat) : Prop where
  room : ((d.ring g).cqTail + 1) % (d.ring g).size ≠ (d.ring g).cqHead % (d.ring g).size
  st : (d.ring g).st ≠ .stopped
  awake : d.gaf.quiesced.testBit 3 = false

/-- A ring once its oldest completion stands in the array, with `rest` still waiting. -/
def Ring.posted (r : Ring) (rest : List Compl) : Ring :=
  { r with done := rest, cqTail := (r.cqTail + 1) % r.size, phase := if (r.cqTail + 1) % r.size = 0 then !r.phase else r.phase }

/-- The octets of a completion in the array: its words, the second with the PHASE bit. -/
def Ring.postedOctets (r : Ring) (c : Compl) : List Byte := wordOctets [c.w0, packW [(c.w1.toNat, 63, 0), (b2n r.phase, 1, 63)]]

section
variable {d : Dev} {g : Nat} {c : Compl} {rest : List Compl}

theorem Dev.postOne_waits (h : (d.ring g).done = [] ∨ ¬ d.MayPost g) : d.postOne g = d := by
  unfold Dev.postOne
  dsimp only
  split
  · rfl
  · next hd =>
    refine if_pos ?_
    by_contra hn
    simp only [Bool.or_eq_true, not_or, decide_eq_true_eq, beq_iff_eq, Bool.not_eq_true] at hn
    obtain ⟨⟨hroom, hst⟩, hawake⟩ := hn
    exact (h.resolve_left (by simp [hd])) ⟨hroom, hst, hawake⟩

/-- A post is the host's write of the completion, the ring moved on, and the count toward the next firing. -/
theorem Dev.postOne_posts (hd : (d.ring g).done = c :: rest) (h : d.MayPost g) : ∃ since firstAt,
    (∀ j, (d.postOne g).ring j = if j = g then { (d.ring g).posted rest with since := since, firstAt := firstAt } else d.ring j) ∧
    (d.postOne g).host = putOctets d.host
      ((d.ring g).owner * 2 ^ 64 + ((d.ring g).base + 16 * (d.ring g).size + 16 * (d.ring g).cqTail)) ((d.ring g).postedOctets c) := by
  obtain ⟨hroom, hst, hawake⟩ := h
  simp only [Dev.postOne, hd]
  rw [if_neg (by simp [hroom, hst, hawake])]
  generalize he : Dev.bump (Dev.bump _ _ _ _) _ _ _ = e
  have hring : ∀ j, e.ring j = if j = g then (d.ring g).posted rest else d.ring j := fun j => by
    rw [← he]
    simp only [Dev.ring_bump, releaseStamps_ring, Dev.ring_modRing, Dev.ring_hostPut]
    rfl
  obtain ⟨since, firstAt, hco⟩ := e.coalesce_ring g
  refine ⟨since, firstAt, fun j => ?_, ?_⟩
  · rw [hco, hring, hring, if_pos rfl]
    split <;> rfl
  · rw [Dev.coalesce_host, ← he, Dev.bump_host, Dev.bump_host, releaseStamps_host, Dev.modRing_host, Dev.host_hostPut, Ring.postedOctets]

theorem endsAt_postOne (d : Dev) (g : Nat) : EndsAt g d (d.postOne g) := by
  by_cases h : d.MayPost g
  · cases hd : (d.ring g).done with
    | nil => rw [Dev.postOne_waits (.inl hd)]; exact .refl g d
    | cons c rest =>
      obtain ⟨since, firstAt, hring, -⟩ := Dev.postOne_posts hd h
      exact ⟨by rw [hring, if_pos rfl]; exact ⟨rfl, .refl _⟩, fun j hj => by rw [hring, if_neg hj]⟩
  · rw [Dev.postOne_waits (.inr h)]; exact .refl g d

end

theorem endsAt_iterN (g n : Nat) (d : Dev) : EndsAt g d (Dev.postAll.iterN n (fun e => e.postOne g) d) := by
  induction n generalizing d with
  | zero => exact .refl g d
  | succ n ih => exact (endsAt_postOne d g).trans (ih _)

theorem endsAt_postAll (d : Dev) (g : Nat) : EndsAt g d (d.postAll g) := endsAt_iterN g _ d

/-- Where no completion waits, none is posted. -/
theorem Dev.postAll_idle {d : Dev} {g : Nat} (h : (d.ring g).done = []) : d.postAll g = d := by
  rw [Dev.postAll, h]; rfl

theorem Dev.postAll_one {d : Dev} {g : Nat} {c : Compl} (h : (d.ring g).done = [c]) : d.postAll g = d.postOne g := by
  rw [Dev.postAll, h]; rfl

/-- The ring of a descriptor that has ended, before its completion is posted. -/
def Ring.ended (r : Ring) (x : Desc) (i : ComplInfo) (up : Nat) : Ring :=
  { r with
    inflight := r.inflight.filter (fun y => y.id != x.id), free := r.free.filter (fun y => y.id != x.id)
    done := r.done ++ [⟨x.id, (complWords r.kind x i).1, (complWords r.kind x i).2, up⟩] }

theorem endsAt_completeDesc (d : Dev) (g : Nat) (x : Desc) (i : ComplInfo) : EndsAt g d (d.completeDesc g x i) :=
  (endsAt_modRing d (f := fun _ => (d.ring g).ended x i d.glb.up) ⟨rfl, List.filter_sublist⟩).trans (endsAt_postAll _ g)

/-- A descriptor that has ended is no longer a free buffer. -/
theorem Dev.completeDesc_free {d : Dev} {g : Nat} {x y : Desc} {i : ComplInfo} (h : y ∈ ((d.completeDesc g x i).ring g).free) : y.id ≠ x.id := by
  have hsub := (endsAt_postAll (d.modRing g (fun _ => (d.ring g).ended x i d.glb.up)) g).ends.free.subset h
  rw [Dev.ring_modRing, if_pos rfl] at hsub
  simpa using (List.mem_filter.mp hsub).2

theorem endsAt_foldl {β : Type} {g : Nat} {op : Dev → β → Dev} (h : ∀ e b, EndsAt g e (op e b)) (l : List β) (d : Dev) : EndsAt g d (l.foldl op d) :=
  List.foldlRecOn (motive := EndsAt g d) l op (.refl g d) fun _ he b _ => he.trans (h _ b)

theorem foldl_completeDesc_free {g : Nat} {i : ComplInfo} {l : List Desc} {d : Dev} {y : Desc}
    (hy : y ∈ ((l.foldl (fun e x => e.completeDesc g x i) d).ring g).free) : ∀ x ∈ l, y.id ≠ x.id := by
  induction l generalizing d with
  | nil => exact fun x hx => nomatch hx
  | cons z l ih =>
    have hz := Dev.completeDesc_free ((endsAt_foldl (fun e x => endsAt_completeDesc e g x i) l (d.completeDesc g z i)).ends.free.subset hy)
    exact List.forall_mem_cons.mpr ⟨hz, ih hy⟩

/-! Completions of any ring. -/

/-- From `d` to `e` descriptors have ended, whichever rings they came from. -/
def AllEnd (d e : Dev) : Prop := ∀ j, (d.ring j).Ends (e.ring j)

theorem AllEnd.refl (d : Dev) : AllEnd d d := fun _ => .refl _
theorem AllEnd.trans {d e a : Dev} (h : AllEnd d e) (h' : AllEnd e a) : AllEnd d a := fun j => (h j).trans (h' j)

theorem EndsAt.all {g : Nat} {d e : Dev} (h : EndsAt g d e) : AllEnd d e := fun j => by
  by_cases hj : j = g
  · rw [hj]; exact h.ends
  · rw [h.others j hj]; exact .refl _

theorem allEnd_finish (d : Dev) (desc : Option (Nat × Nat)) (i : ComplInfo) : AllEnd d (d.finish desc i) := by
  unfold Dev.finish
  split
  · exact .refl d
  · split
    · exact (endsAt_completeDesc d _ _ i).all
    · exact .refl d

theorem allEnd_dropAtRing (d : Dev) (t owner : Nat) (p : Pkt) : AllEnd d (d.dropAtRing t owner p) :=
  allEnd_finish ((d.bump (2 + owner) 29).dropped t p.tenant) p.desc { status := 8 }

/-! A ring stops (R309). -/

theorem Dev.noteDelay_rings (d : Dev) (q n : Nat) : (d.noteDelay q n).tm.ring = d.tm.ring := rfl

theorem Dev.noteDelays_rings (d : Dev) (q : Nat) (l : List Pkt) : (d.noteDelays q l).tm.ring = d.tm.ring :=
  foldl_keeps (obs := fun e : Dev => e.tm.ring) (fun _ _ => Dev.noteDelay_rings _ _ _) l d

theorem Dev.noteFlush_rings (d : Dev) (g : Nat) : (d.noteFlush g).tm.ring = d.tm.ring :=
  (foldl_keeps (obs := fun e : Dev => e.tm.ring) (fun _ _ => Dev.noteDelay_rings _ _ _) _ _).trans
    ((foldl_keeps (obs := fun e : Dev => e.tm.ring) (fun _ _ => Dev.noteDelays_rings _ _ _) _ _).trans
      (foldl_keeps (obs := fun e : Dev => e.tm.ring) (fun _ _ => Dev.noteDelays_rings _ _ _) _ _))

/-- Forgetting a ring's frames takes them out of the rings' queues. -/
theorem forgetFrames_ring (d : Dev) (g j : Nat) :
    (forgetFrames g d).ring j = { d.ring j with queue := (d.ring j).queue.filter (Pkt.keptFrom g) } := by
  have hmap := tlook_tmap ringReset (fun _ r => { r with queue := r.queue.filter (Pkt.keptFrom g) }) (d.noteFlush g).tm.ring j rfl
  rw [Dev.noteFlush_rings] at hmap
  rw [Dev.ring, Dev.ring, ← hmap, ← d.noteFlush_rings g]
  rfl

/-- What the stop of ring `g` leaves of the rings: it has neither buffers nor waiting frames, and every ring is in the state it was in. -/
structure Flushed (g : Nat) (d e : Dev) : Prop where
  st : ∀ j, (e.ring j).st = (d.ring j).st
  queue : (e.ring g).queue = []
  free : (e.ring g).free = []

theorem flushed_flushRing (d : Dev) (t g : Nat) : Flushed g d (d.flushRing t g) := by
  unfold Dev.flushRing
  dsimp only
  generalize hd2 : List.foldl _ (forgetFrames g d) _ = d2
  generalize hd3 : List.foldl _ d2 (d.ring g).free = d3
  have h2 : EndsAt g (forgetFrames g d) d2 := hd2 ▸ endsAt_foldl (fun e x => endsAt_completeDesc e g x _) _ _
  have h3 : EndsAt g d2 d3 := hd3 ▸ endsAt_foldl (fun e x => endsAt_completeDesc e g x _) _ _
  have h5 : AllEnd (d3.modRing g (fun r => { r with queue := [] })) (List.foldl (fun e p => e.dropAtRing t (d.ring g).owner p) _ (d.ring g).queue) :=
    List.foldlRecOn (motive := AllEnd (d3.modRing g (fun r => { r with queue := [] }))) _ _ (.refl _) fun e he p _ => he.trans (allEnd_dropAtRing e t _ p)
  have hnone : (d3.ring g).free = [] := by
    refine List.eq_nil_iff_forall_not_mem.mpr fun y hy => ?_
    have hold : y ∈ ((forgetFrames g d).ring g).free := (h3.ends.free.trans h2.ends.free).subset hy
    rw [forgetFrames_ring] at hold
    exact foldl_completeDesc_free (hd3 ▸ hy) y hold rfl
  refine ⟨fun j => ?_, ?_, ?_⟩
  · have hst := ((h2.trans h3).all j).st
    rw [forgetFrames_ring] at hst
    rw [(h5 j).st, Dev.ring_modRing]
    split
    case isTrue hj => rw [hj] at hst ⊢; exact hst
    case isFalse => exact hst
  · rw [(h5 g).queue, Dev.ring_modRing, if_pos rfl]
  · have hsub := (h5 g).free
    rw [Dev.ring_modRing, if_pos rfl] at hsub
    exact List.sublist_nil.mp (hnone ▸ hsub)

/-- A running ring drains from its disable on. -/
theorem Dev.drainRing_running {d : Dev} {g : Nat} (t : Nat) (h : (d.ring g).st = .running) :
    ((d.drainRing t g).ring g).st = .draining ∧ ((d.drainRing t g).ring g).queue = [] ∧ ((d.drainRing t g).ring g).free = [] ∧
      ∀ j, j ≠ g → ((d.drainRing t g).ring j).st = (d.ring j).st := by
  have hflush := flushed_flushRing (d.modRing g (fun r => { r with st := .draining })) t g
  rw [Dev.drainRing, if_pos h]
  refine ⟨by rw [hflush.st, Dev.ring_modRing, if_pos rfl], hflush.queue, hflush.free, fun j hj => ?_⟩
  rw [hflush.st, Dev.ring_modRing, if_neg hj]

/-- A failed DMA ends at most the descriptor whose buffer it was for; then the ring stops, and its vector fires. -/
theorem Dev.faultRing_eq {d : Dev} {g : Nat} (t : Nat) (x : Option Nat) (h : (d.ring g).st = .running ∨ (d.ring g).st = .draining) :
    ∃ e, EndsAt g (d.modRing g (fun r => { r with st := .fault })) e ∧ d.faultRing t g x = ((e.flushRing t g).inc t 10 1).fireRing g := by
  unfold Dev.faultRing
  dsimp only
  rw [if_neg (by rcases h with h | h <;> simp [h])]
  refine ⟨_, ?_, rfl⟩
  split
  · split
    · exact endsAt_completeDesc _ g _ _
    · exact .refl g _
  · exact .refl g _

/-- A failed DMA takes a ring that runs or drains out of service, and no other. -/
theorem Dev.faultRing_fails {d : Dev} {g : Nat} (t : Nat) (x : Option Nat) (h : (d.ring g).st = .running ∨ (d.ring g).st = .draining) :
    ((d.faultRing t g x).ring g).st = .fault ∧ ((d.faultRing t g x).reg 0xA00040).getLsbD 1 = true ∧
      ∀ j, j ≠ g → ((d.faultRing t g x).ring j).st = (d.ring j).st := by
  obtain ⟨e, hend, heq⟩ := d.faultRing_eq t x h
  have hst : ∀ j, ((d.faultRing t g x).ring j).st = ((d.modRing g (fun r => { r with st := .fault })).ring j).st := fun j => by
    rw [heq, ← (hend.all j).st, ← (flushed_flushRing e t g).st j, Dev.fireRing_ring, Dev.ring_inc, Dev.ring_inc]
    split
    case isTrue hj => rw [hj]
    case isFalse => rfl
  refine ⟨by rw [hst, Dev.ring_modRing, if_pos rfl], ?_, fun j hj => by rw [hst, Dev.ring_modRing, if_neg hj]⟩
  rw [heq, Dev.reg_congr (Dev.fireRing_regs _ g)]
  exact Dev.inc_bit _ t 10 1 0 (by decide)

end Sys2Proof.Machine
end

section
/-! PROOFS. Ring control: enabling, disabling, draining and failing rings (O7). -/
namespace Sys2Proof.Machine

/-! TM_RING_CTRL (R309, R310). -/

/-- Setting ENABLE changes no other field of the register. -/
theorem ringFields_and_enable (v : Reg) : (v ||| 0x80000000) &&& ringFields = v &&& ringFields := by
  rw [BitVec.and_comm, BitVec.and_or_distrib_left]
  simp [ringFields, BitVec.and_comm]

/-- TM_RING_CTRL of an enabled ring. -/
def ctrlEnabled (v : Reg) : Reg := (v &&& ringFields) ||| 0x80000000

theorem rfld_eq_extractLsb (v : Reg) (lo n : Nat) : rfld v (lo + n) lo = (v.extractLsb' lo (n + 1)).toNat := by
  rw [BitVec.extractLsb'_toNat, rfld, nbits, show lo + n + 1 - lo = n + 1 by omega]

/-- An enable stores every field that it covers as it is written. -/
theorem rfld_ctrlEnabled (v : Reg) {lo n : Nat} (hfield : ringFields.extractLsb' lo (n + 1) = BitVec.allOnes (n + 1))
    (hapart : (0x80000000 : Reg).extractLsb' lo (n + 1) = 0) : rfld (ctrlEnabled v) (lo + n) lo = rfld v (lo + n) lo := by
  rw [rfld_eq_extractLsb, rfld_eq_extractLsb, ctrlEnabled, BitVec.extractLsb'_or, BitVec.extractLsb'_and, hfield, hapart, BitVec.and_allOnes]
  exact congrArg BitVec.toNat BitVec.or_zero

theorem rfld_ctrlEnabled_size (v : Reg) : rfld (ctrlEnabled v) 19 16 = rfld v 19 16 := rfld_ctrlEnabled v (lo := 16) (n := 3) (by decide) (by decide)

theorem rfld_ctrlEnabled_kind (v : Reg) : rfld (ctrlEnabled v) 29 28 = rfld v 29 28 := rfld_ctrlEnabled v (lo := 28) (n := 1) (by decide) (by decide)

theorem rfld_size_le (v : Reg) : rfld v 19 16 ≤ 15 := by
  rw [rfld, nbits]; omega

/-- Whether another WRX ring of its function runs does not turn on what the ring itself holds beside its owner. -/
theorem Dev.wrxFree_modRing {d : Dev} {g : Nat} {f : Ring → Ring} (hf : (f (d.ring g)).owner = (d.ring g).owner) :
    (d.modRing g f).wrxFree g = d.wrxFree g := by
  have howner : ∀ j, ((d.modRing g f).ring j).owner = (d.ring j).owner := fun j => by
    rw [Dev.ring_modRing]
    split
    case isTrue hj => rw [hj, hf]
    case isFalse => rfl
  have hrings : (d.modRing g f).ringsOf (d.ring g).owner = d.ringsOf (d.ring g).owner := by
    simp only [Dev.ringsOf, howner]
  rw [Dev.wrxFree, Dev.wrxFree, howner, hrings, Bool.eq_iff_iff, List.all_eq_true, List.all_eq_true]
  refine forall₂_congr fun j _ => ?_
  by_cases hj : j = g
  · simp [hj]
  · rw [Dev.ring_modRing, if_neg hj]

/-- The ring as its enable leaves it: empty, and running (R307, R309). -/
def Ring.started (r : Ring) (v : Reg) : Ring :=
  { r with
    ctrl := ctrlEnabled v, st := .running, cfgErr := false, prod := 0, cons := 0, cqHead := 0, cqTail := 0, phase := true
    inflight := [], free := [], done := [], since := 0, firstAt := 0, queue := [] }

section
variable {d : Dev} {g : Nat} {v : Reg}

theorem Dev.modRing_congr {f f' : Ring → Ring} (h : f (d.ring g) = f' (d.ring g)) : d.modRing g f = d.modRing g f' := by
  have h' : f (tlook ringReset d.tm.ring g) = f' (tlook ringReset d.tm.ring g) := h
  rw [Dev.modRing, Dev.modRing, tmod, tmod, h']

/-- The enable of a stopped ring is judged by the register it writes. -/
theorem Dev.ringCtrl_enable (t : Nat) (hst : (d.ring g).st = .stopped) : d.ringCtrl t g (v ||| 0x80000000) =
    if rfld v 19 16 < 6 ∨ (rfld v 29 28 = 3 ∧ d.wrxFree g = false) then
      ((d.modRing g (fun r => { r with ctrl := ctrlEnabled v })).modRing g (fun r => { r with cfgErr := true })).inc t 10 2
    else (d.modRing g (fun r => { r with ctrl := ctrlEnabled v })).modRing g (fun r => r.started v) := by
  have hon : (v ||| 0x80000000).getLsbD 31 = true := by simp
  have hstop : (d.ring g).stopped = true := by simp [Ring.stopped, hst]
  unfold Dev.ringCtrl
  dsimp only
  rw [hon, Dev.modRing_congr (f' := fun r => { r with ctrl := ctrlEnabled v }) (by rw [if_pos hstop, ringFields_and_enable]; rfl)]
  have hring : (d.modRing g (fun r => { r with ctrl := ctrlEnabled v })).ring g = { d.ring g with ctrl := ctrlEnabled v } := by
    rw [Dev.ring_modRing, if_pos rfl]
  have hfree : (d.modRing g (fun r => { r with ctrl := ctrlEnabled v })).wrxFree g = d.wrxFree g := Dev.wrxFree_modRing rfl
  have hlarge : ¬ 15 < rfld v 19 16 := Nat.not_lt.mpr (rfld_size_le v)
  simp only [hring, hst, hfree, Ring.kind, rfld_ctrlEnabled_size, rfld_ctrlEnabled_kind, hlarge]
  refine if_congr ?_ rfl (Dev.modRing_congr ?_)
  · simp
  · rw [hring]; rfl

/-- The disable of a running ring drains it; only ENABLE of the register changes. -/
theorem Dev.ringCtrl_disable (t : Nat) (hst : (d.ring g).st = .running) : d.ringCtrl t g (v &&& 0x7FFFFFFF) =
    (d.modRing g (fun r => { r with ctrl := r.ctrl &&& ringFields })).drainRing t g := by
  have hoff : (v &&& 0x7FFFFFFF).getLsbD 31 = false := by simp
  unfold Dev.ringCtrl
  dsimp only
  rw [hoff, Dev.modRing_congr (f' := fun r => { r with ctrl := r.ctrl &&& ringFields }) (by simp [Ring.stopped, hst]), Dev.ring_modRing, if_pos rfl, hst]

end

/-- Settles O7: each command by the lemma of the change it makes to its ring. -/
theorem ringControlCompletes : Obligations.RingControlCompletes := by
  unfold Obligations.RingControlCompletes
  refine ⟨fun s m g v hm hst hsize hkind => ?_, fun s m g v hm hst hsize => ?_, fun s m g v hm hst => ?_, fun s m g v hm => ?_,
    fun s g hst hfly => ?_, fun s g x hst => ?_⟩
  · have hgo : goRingEnable s.now m g v s.dev = (s.dev.modRing g (fun r => { r with ctrl := ctrlEnabled v })).modRing g (fun r => r.started v) := by
      rw [goRingEnable, if_pos hm, Dev.ringCtrl_enable s.now hst, if_neg]
      rcases hkind with hkind | hkind
      · exact not_or.mpr ⟨Nat.not_lt.mpr hsize, fun h => hkind h.1⟩
      · exact not_or.mpr ⟨Nat.not_lt.mpr hsize, fun h => by simp [hkind] at h⟩
    refine ⟨_, completes_act _ rfl hgo, ?_, fun j hj => ?_, rfl⟩
    · rw [Dev.ring_modRing, if_pos rfl, Dev.ring_modRing, if_pos rfl]; rfl
    · rw [Dev.ring_modRing, if_neg hj, Dev.ring_modRing, if_neg hj]
  · have hgo : goRingEnable s.now m g v s.dev =
        ((s.dev.modRing g (fun r => { r with ctrl := ctrlEnabled v })).modRing g (fun r => { r with cfgErr := true })).inc s.now 10 2 := by
      rw [goRingEnable, if_pos hm, Dev.ringCtrl_enable s.now hst, if_pos (.inl hsize)]
    refine ⟨_, completes_act _ rfl hgo, ?_, ?_, Dev.inc_bit _ s.now 10 2 0 (by decide), fun j hj => ?_, fun j hj => ?_, ?_⟩
    · rw [Dev.ring_inc, Dev.ring_modRing, if_pos rfl, Dev.ring_modRing, if_pos rfl]; exact hst
    · rw [Dev.ring_inc, Dev.ring_modRing, if_pos rfl]
    · rw [Dev.ring_inc, Dev.ring_modRing, if_neg hj, Dev.ring_modRing, if_neg hj]
    · rw [Dev.inc_reg _ _ _ _ _ _ hj]; rfl
    · rw [Dev.inc_frame]; rfl
  · have hgo : goRingDisable s.now m g v s.dev = (s.dev.modRing g (fun r => { r with ctrl := r.ctrl &&& ringFields })).drainRing s.now g := by
      rw [goRingDisable, if_pos hm, Dev.ringCtrl_disable s.now hst]
    obtain ⟨hdrain, hqueue, hfree, hothers⟩ :=
      Dev.drainRing_running (d := s.dev.modRing g (fun r => { r with ctrl := r.ctrl &&& ringFields })) s.now
        (by rw [Dev.ring_modRing, if_pos rfl]; exact hst)
    exact ⟨_, completes_act _ rfl hgo, hdrain, hqueue, hfree, fun j hj => by rw [hothers j hj, Dev.ring_modRing, if_neg hj]⟩
  · have hno : ¬ s.dev.reachesRing m g = true := by simp [hm]
    exact ⟨completes_act _ rfl (if_neg hno), completes_act _ rfl (if_neg hno), completes_act _ rfl (if_neg hno), completes_act _ rfl (if_neg hno)⟩
  · have hgo : goDrainEnd g s.dev = s.dev.modRing g (fun r => { r with st := .stopped }) := by
      rw [goDrainEnd, Dev.drainEnd, if_pos (by simp [hst, hfly])]
    exact ⟨_, completes_act _ rfl hgo, by rw [Dev.ring_modRing, if_pos rfl], fun j hj => by rw [Dev.ring_modRing, if_neg hj], rfl⟩
  · obtain ⟨hfault, hbit, hothers⟩ := s.dev.faultRing_fails s.now x hst
    exact ⟨_, completes_act _ rfl rfl, hfault, hbit, hothers⟩

end Sys2Proof.Machine
end

section
/-! PROOFS. Ring indexes, completions in the array and coalescing (O8). -/
namespace Sys2Proof.Machine

/-! Memory as it is read back (R50). -/

/-- A run of octets that stand one by one in memory is read as a run. -/
theorem getOctets_eq {m : Table (Option Byte)} {e : Nat} (l : List Byte) {a : Nat} (h : ∀ k (hk : k < l.length), getOctet m e (a + k) = l[k]) :
    getOctets m e a l.length = l := by
  induction l generalizing a with
  | nil => rfl
  | cons b l ih =>
    have hrest : ∀ k (hk : k < l.length), getOctet m e (a + 1 + k) = l[k] := fun k hk => by
      rw [Nat.add_right_comm, Nat.add_assoc]
      exact h (k + 1) (Nat.succ_lt_succ hk)
    rw [List.length_cons, getOctets, ih hrest]
    exact congrArg (· :: l) (h 0 (Nat.succ_pos _))

theorem getOctets_putOctets (m : Table (Option Byte)) (e a : Nat) (l : List Byte) : getOctets (putOctets m a l) e a l.length = l :=
  getOctets_eq l fun k hk => getOctet_putOctets m l e a k hk

/-! The firing of a ring's vector (R311, R392). -/

/-- A vector of a READY function fires once. -/
theorem Dev.fireMsi_msix {d : Dev} {f : Nat} (v : Nat) (h : (d.fn f).st = .ready) :
    tlook (fun _ => 0) (d.fireMsi f v).glb.msix (f * 256 + v) = tlook (fun _ => 0) d.glb.msix (f * 256 + v) + 1 := by
  rw [Dev.fireMsi, if_pos h, Dev.bump_glb]
  exact (tlook_tmod (fun _ => 0) d.glb.msix (f * 256 + v) (· + 1) (f * 256 + v)).trans (if_pos rfl)

theorem Dev.fireMsi_frame (d : Dev) (f v : Nat) : d.fireMsi f v = { d with glb := (d.fireMsi f v).glb, counts := (d.fireMsi f v).counts } := by
  unfold Dev.fireMsi; split <;> rfl

theorem Dev.fireRing_frame (d : Dev) (g : Nat) :
    d.fireRing g = { d with tm := (d.fireRing g).tm, glb := (d.fireRing g).glb, counts := (d.fireRing g).counts } := by
  unfold Dev.fireRing
  dsimp only
  split
  · rw [Dev.fireMsi_frame]; rfl
  · rfl

/-- Where its interrupt is enabled and its owner is READY, a ring that fires does so once. -/
theorem Dev.fireRing_msix {d : Dev} {g : Nat} (hie : (d.ring g).ctrl.getLsbD 30 = true) (hr : (d.fn (d.ring g).owner).st = .ready) :
    tlook (fun _ => 0) (d.fireRing g).glb.msix ((d.ring g).owner * 256 + ringVec g (d.ring g)) =
      tlook (fun _ => 0) d.glb.msix ((d.ring g).owner * 256 + ringVec g (d.ring g)) + 1 := by
  rw [Dev.fireRing, if_pos hie]
  exact Dev.fireMsi_msix (d := d.modRing g _) _ hr

/-- The end of descriptors reaches nothing beyond its frame. -/
theorem OnlyCompletions.frame {d e : Dev} (h : OnlyCompletions d e) :
    e = { d with tm := e.tm, host := e.host, counts := e.counts, glb := e.glb, emac := e.emac } := by
  obtain ⟨_, _, _, _, _, rfl⟩ := h; rfl

theorem onlyCompletions_postAll (d : Dev) (g : Nat) : OnlyCompletions d (d.postAll g) := onlyCompletions_iterN g _ d

/-- Settles O8: an index by the ring's own change, a completion by the post of one, the timer by the firing of the vector. -/
theorem ringIndexesAndCompletions : Obligations.RingIndexesAndCompletions := by
  unfold Obligations.RingIndexesAndCompletions
  refine ⟨fun s m g v hm => ?_, fun s m g v hm => ?_, fun s g c w1 hdone hroom hst hawake hw => ?_, fun s g hdue => ?_⟩
  · exact ⟨_, completes_act _ rfl (if_pos hm), by rw [Dev.ring_modRing, if_pos rfl], fun j hj => by rw [Dev.ring_modRing, if_neg hj], rfl⟩
  · have hpost := endsAt_postAll (s.dev.modRing g (fun r => { r with cqHead := rfld v 14 0 % r.size })) g
    have hends := hpost.ends
    rw [Dev.ring_modRing, if_pos rfl] at hends
    refine ⟨_, completes_act _ rfl (if_pos hm), hends.cqHead, hends.prod, hends.st, fun j hj => ?_, fun hdone => ?_, ?_⟩
    · rw [hpost.others j hj, Dev.ring_modRing, if_neg hj]
    · rw [Dev.postAll_idle (by rw [Dev.ring_modRing, if_pos rfl]; exact hdone)]; rfl
    · exact ((onlyCompletions_modRing s.dev g _).trans (onlyCompletions_postAll _ g)).frame
  · obtain ⟨since, firstAt, hring, hhost⟩ := Dev.postOne_posts hdone ⟨hroom, hst, hawake⟩
    have hown : (s.dev.postOne g).ring g = { (s.dev.ring g).posted [] with since := since, firstAt := firstAt } := by rw [hring, if_pos rfl]
    refine ⟨_, completes_act _ rfl (Dev.postAll_one hdone), ?_, ?_, ?_, ?_, fun j hj => by rw [hring, if_neg hj], (onlyCompletions_postOne s.dev g).frame⟩
    · rw [hown]; rfl
    · rw [hown]; rfl
    · rw [Dev.hostGet, hhost, hw]
      exact getOctets_putOctets _ _ _ ((s.dev.ring g).postedOctets c)
    · rw [hown]; rfl
  · have hgo : goCoalTimer g s.dev = s.dev.fireRing g := if_pos hdue
    refine ⟨_, completes_act _ rfl hgo, ?_, fun j hj => ?_, Dev.fireRing_msix, Dev.fireRing_frame s.dev g⟩
    · rw [Dev.fireRing_ring, if_pos rfl]
    · rw [Dev.fireRing_ring, if_neg hj]

end Sys2Proof.Machine
end

section
/-! PROOFS. Descriptors, policers and queue samples: what a fetch does with its descriptor, the beat's refill, the samples of a tick and their commands (O9). -/
namespace Sys2Proof.Machine

/-! Fetching a descriptor (R304, R308). -/

/-- Counting a fetch toward its ring's WEIGHT changes that count alone. -/
theorem Dev.countFetch_eq (d : Dev) (g : Nat) : ∃ served, d.countFetch g = { d with tm := { d.tm with served := served } } := by
  unfold Dev.countFetch
  split <;> exact ⟨_, rfl⟩

theorem Dev.countFetch_ring (d : Dev) (g j : Nat) : (d.countFetch g).ring j = d.ring j := by
  obtain ⟨served, h⟩ := d.countFetch_eq g
  rw [h]; rfl

/-- The ring once its next descriptor has been read (R304, R307). -/
def Ring.advanced (r : Ring) : Ring := { r with nextId := r.nextId + 1, cons := (r.cons + 1) % r.size }

/-- The device once a descriptor of ring `g` has been read, before it is acted on. -/
def Dev.fetched (d : Dev) (g : Nat) : Dev := ((d.countFetch g).modRing g Ring.advanced).bump (2 + (d.ring g).owner) 30 16

/-- The descriptor that was read is in flight. -/
def Dev.inFly (d : Dev) (g : Nat) (x : Desc) : Dev := (d.fetched g).modRing g (fun r => { r with inflight := r.inflight ++ [x] })

theorem Dev.fetched_ring (d : Dev) (g j : Nat) : (d.fetched g).ring j = if j = g then (d.ring g).advanced else d.ring j := by
  rw [Dev.fetched, Dev.ring_bump, Dev.ring_modRing, Dev.countFetch_ring, Dev.countFetch_ring]

theorem Dev.fetched_frame (d : Dev) (g : Nat) : ∃ tm counts, d.fetched g = { d with tm := tm, counts := counts } := by
  obtain ⟨served, h⟩ := d.countFetch_eq g
  exact ⟨_, _, by rw [Dev.fetched, h]; rfl⟩

theorem Dev.inFly_ring (d : Dev) (g j : Nat) (x : Desc) :
    (d.inFly g x).ring j = if j = g then { (d.ring g).advanced with inflight := (d.ring g).inflight ++ [x] } else d.ring j := by
  rw [Dev.inFly, Dev.ring_modRing, Dev.fetched_ring, Dev.fetched_ring, if_pos rfl]
  split <;> rfl

theorem Dev.inFly_frame (d : Dev) (g : Nat) (x : Desc) : ∃ tm counts, d.inFly g x = { d with tm := tm, counts := counts } := by
  obtain ⟨tm, counts, h⟩ := d.fetched_frame g
  exact ⟨_, _, by rw [Dev.inFly, h]; rfl⟩

/-- The counts of a frame that a TX descriptor brings. -/
def Dev.txCounted (d : Dev) (owner len : Nat) : Dev :=
  (((d.bump (2 + owner) 8).bump (2 + owner) 9 len).bump (2 + owner) 30 len).hbmOctets 0 len

theorem Dev.txCounted_frame (d : Dev) (owner len : Nat) : d.txCounted owner len = { d with counts := (d.txCounted owner len).counts } := by
  apply Dev.eq_of_fields <;> simp [Dev.txCounted, Dev.hbmOctets]

/-- A frame that was fetched waits for the router (R308). -/
def Dev.queueRouted (d : Dev) (p : Pkt) : Dev := { d with rte := { d.rte with ring := d.rte.ring ++ [p] } }

/-- The device that a fetched TX frame leaves. -/
theorem Dev.routed_frame (d : Dev) (g owner len : Nat) (x : Desc) (p : Pkt) : ∃ counts,
    ((d.inFly g x).txCounted owner len).queueRouted p =
      { d with tm := (d.inFly g x).tm, counts := counts, rte := { d.rte with ring := d.rte.ring ++ [p] } } := by
  obtain ⟨tm, counts, h⟩ := d.inFly_frame g x
  exact ⟨((d.inFly g x).txCounted owner len).counts, by rw [Dev.txCounted_frame, h]; rfl⟩

section
variable {d : Dev} {g : Nat} {w0 w1 : Word}

/-- A malformed descriptor ends at once, from a device whose rings stand as when it was in flight; `counts` covers the descriptor counter of TX and WTX rings. -/
theorem goDescriptorFetch_bad (t : Nat) (data : Option (List Byte)) (hm : d.mayFetch g = true) (hb : badDesc (d.ring g).kind w1 = true) :
    ∃ tm counts i, (∀ j, ({ d with tm := tm, counts := counts } : Dev).ring j = (d.inFly g (descOf (d.ring g).nextId w0 w1)).ring j) ∧
      goDescriptorFetch t g w0 w1 data d = ({ d with tm := tm, counts := counts } : Dev).completeDesc g (descOf (d.ring g).nextId w0 w1) i := by
  obtain ⟨tm, counts, hfly⟩ := d.inFly_frame g (descOf (d.ring g).nextId w0 w1)
  unfold goDescriptorFetch
  simp only [hm, hb, if_true, Bool.not_true, Bool.false_eq_true, if_false]
  split
  · exact ⟨tm, counts, _, fun _ => by rw [hfly], congrArg (Dev.completeDesc · g _ _) hfly⟩
  · exact ⟨tm, _, _, fun _ => by rw [hfly]; rfl, congrArg (fun e : Dev => (e.bump (2 + (d.ring g).owner) 8).completeDesc g _ _) hfly⟩

/-- A good RX buffer joins the free ones, and serves the frames that wait. -/
theorem goDescriptorFetch_rx (t : Nat) (data : Option (List Byte)) (hm : d.mayFetch g = true) (hk : (d.ring g).kind = 1) (hb : badDesc 1 w1 = false) :
    goDescriptorFetch t g w0 w1 data d =
      ((d.fetched g).modRing g (fun r => { r with free := r.free ++ [descOf (d.ring g).nextId w0 w1] })).serveQueue t g := by
  unfold goDescriptorFetch
  simp only [hm, hk, hb, Bool.not_true, Bool.false_eq_true, if_false]
  rfl

/-- A good TX frame is counted and goes to the router. -/
theorem goDescriptorFetch_tx (t : Nat) {l : List Byte} {x : Desc} (hm : d.mayFetch g = true) (hk : (d.ring g).kind = 0) (hb : badDesc 0 w1 = false)
    (hx : x = descOf (d.ring g).nextId w0 w1) (hlen : 14 ≤ x.len) (hl : l.length = x.len) :
    goDescriptorFetch t g w0 w1 (some l) d =
      (((d.inFly g x).txCounted (d.ring g).owner x.len).queueRouted
        { octets := l, srcKind := 2, src := g, tenant := (d.ring g).owner, desc := some (g, x.id), tsReq := x.tsReq }).noteFull t := by
  have htake : (l ++ List.replicate x.len 0).take x.len = l := by rw [← hl, List.take_left]
  rw [goDescriptorFetch, if_neg (by simp [hm])]
  dsimp only
  rw [← hx, htake, if_neg (by simp [hk]), if_neg (by simp [hk, hb]), if_neg (by simp [hk, hlen]), if_neg (by simp [hk])]
  rfl

end

/-! Noting a full packet buffer (R315). -/

theorem Dev.noteFull_frame (d : Dev) (t : Nat) : d.noteFull t = { d with
    tm := (d.noteFull t).tm, counts := (d.noteFull t).counts, regs := (d.noteFull t).regs, glb := (d.noteFull t).glb, mgr := (d.noteFull t).mgr } := by
  unfold Dev.noteFull
  split
  · rw [Dev.inc_frame]
  · rfl

/-- A full buffer is noted in the beat's record and in TM_INCIDENT. -/
theorem Dev.noteFull_notes {d : Dev} (t : Nat) (h : d.bufFull = true) : (d.noteFull t).tm.full = true ∧ ((d.noteFull t).reg 0xA00040).getLsbD 0 = true := by
  rw [Dev.noteFull, if_pos h]
  exact ⟨by rw [Dev.inc_tm], Dev.inc_bit _ t 10 0 0 (by decide)⟩

/-! The refill of the policers (R319). -/

/-- The policers in force, and those written. -/
def Dev.policing (d : Dev) : Table Policer × List (Nat × Word × Word × Word) := (d.tm.police, d.tm.policeStaged)

theorem Dev.policing_fst (d : Dev) : d.policing.1 = d.tm.police := rfl
theorem Dev.policing_snd (d : Dev) : d.policing.2 = d.tm.policeStaged := rfl

theorem Dev.policing_shaperTake (d : Dev) (p t : Nat) (x : Pkt) : (d.shaperTake p t x).policing = d.policing := by
  unfold Dev.shaperTake; split <;> rfl

theorem policing_ite {d a b : Dev} {c : Prop} [Decidable c] (ha : a.policing = d.policing) (hb : b.policing = d.policing) :
    (if c then a else b).policing = d.policing := by
  split
  · exact ha
  · exact hb

@[simp] theorem Dev.policing_bump (d : Dev) (b k n : Nat) : (d.bump b k n).policing = d.policing := rfl
@[simp] theorem Dev.policing_modPort (d : Dev) (p : Nat) (f : Port → Port) : (d.modPort p f).policing = d.policing := rfl
@[simp] theorem Dev.policing_noteDelay (d : Dev) (q n : Nat) : (d.noteDelay q n).policing = d.policing := rfl

theorem Dev.policing_moveFrame (d : Dev) (p t c deficit : Nat) (x : Pkt) (rest : List Pkt) :
    (d.moveFrame p t c deficit x rest).policing = d.policing := by
  simp only [Dev.moveFrame, Dev.hbmOctets, Dev.policing_bump, Dev.policing_modPort, Dev.policing_noteDelay, Dev.policing_shaperTake]
  rfl

theorem Dev.policing_drrStep (d : Dev) (p c : Nat) : (d.drrStep p c).policing = d.policing := by
  unfold Dev.drrStep
  dsimp only
  split
  case h_1 => rfl
  case h_2 => exact policing_ite rfl (policing_ite (d.policing_moveFrame _ _ _ _ _ _) rfl)

theorem policing_pumpClass (p c n : Nat) (d : Dev) : (Dev.pumpClass p c n d).policing = d.policing := by
  induction n generalizing d with
  | zero => rfl
  | succ n ih =>
    rw [Dev.pumpClass]
    split
    · rw [ih, Dev.policing_drrStep]
    · rfl

theorem Dev.policing_pump (d : Dev) (p c : Nat) : (d.pump p c).policing = d.policing := policing_pumpClass p c 400 d

theorem Dev.policing_pumpPort (d : Dev) (p : Nat) : (d.pumpPort p).policing = d.policing :=
  foldl_keeps (obs := Dev.policing) (fun _ _ => Dev.policing_pump _ _ _) _ d

theorem Dev.policing_refillShaper (d : Dev) (k : Nat) : (d.refillShaper k).policing = d.policing := rfl

/-- The policers once those written have come into force. -/
def committedPolicers (staged : List (Nat × Word × Word × Word)) (t : Table Policer) : Table Policer :=
  staged.foldl (fun t e => tmod policerReset t e.1 (fun x => applyPolicer x e.2.1 e.2.2.1 e.2.2.2)) t

/-- The shapers' tokens and the frames that move leave the policers as the refill has made them. -/
theorem goRefill_policing (d : Dev) :
    (goRefill d).policing = (tmap policerReset (fun _ x => refillPolicer x) (committedPolicers d.tm.policeStaged d.tm.police), []) := by
  have hports (e : Dev) : ((List.range 4).foldl (fun e p => e.pumpPort p) e).policing = e.policing :=
    foldl_keeps (obs := Dev.policing) (fun _ _ => Dev.policing_pumpPort _ _) _ e
  have hshapers (l : List Nat) (e : Dev) : (l.foldl (fun e k => e.refillShaper k) e).policing = e.policing :=
    foldl_keeps (obs := Dev.policing) Dev.policing_refillShaper l e
  unfold goRefill
  dsimp only
  rw [hports, hshapers]
  rfl

/-- A policer that is off takes no tokens. -/
theorem refillPolicer_reset (i : Nat) : refillPolicer (policerReset i) = policerReset i := by
  have hmode : (policerReset i).mode = 0 := (by decide : ({} : Policer).mode = 0)
  simp only [refillPolicer, hmode]

theorem goRefill_policer (d : Dev) (i : Nat) :
    (goRefill d).policer i = refillPolicer (tlook policerReset (committedPolicers d.tm.policeStaged d.tm.police) i) := by
  have h : (goRefill d).tm.police = tmap policerReset (fun _ x => refillPolicer x) (committedPolicers d.tm.policeStaged d.tm.police) := by
    rw [← Dev.policing_fst, goRefill_policing]
  rw [Dev.policer, h, tlook_tmap policerReset (fun _ x => refillPolicer x) _ i (refillPolicer_reset i)]

theorem committedPolicers_apart {i : Nat} {staged : List (Nat × Word × Word × Word)} (h : ∀ e ∈ staged, e.1 ≠ i) (t : Table Policer) :
    tlook policerReset (committedPolicers staged t) i = tlook policerReset t i :=
  List.foldlRecOn (motive := fun u => tlook policerReset u i = tlook policerReset t i) staged _ rfl fun u hu e he => by
    rw [tlook_tmod, if_neg (Ne.symm (h e he)), hu]

/-! The samples of a tick (R320). -/

section
variable {f : Nat → List Word → List Word} {q : Nat}

theorem foldl_tmod_apart {l : List Nat} (hq : q ∉ l) (t : Table (List Word)) :
    tlook (fun _ => []) (l.foldl (fun s k => tmod (fun _ => []) s k (f k)) t) q = tlook (fun _ => []) t q :=
  foldl_apart (R := fun a b : Table (List Word) => tlook (fun _ => []) b q = tlook (fun _ => []) a q) (fun _ => rfl) (fun h h' => h'.trans h)
    (fun a i hi => by rw [tlook_tmod, if_neg hi]) hq t

theorem foldl_tmod_once {l : List Nat} (hn : l.Nodup) (hq : q ∈ l) (t : Table (List Word)) :
    tlook (fun _ => []) (l.foldl (fun s k => tmod (fun _ => []) s k (f k)) t) q = f q (tlook (fun _ => []) t q) := by
  obtain ⟨b, hb, he⟩ := foldl_once (op := fun s k => tmod (fun _ => []) s k (f k))
    (R := fun a b : Table (List Word) => tlook (fun _ => []) b q = tlook (fun _ => []) a q) (fun _ => rfl) (fun h h' => h'.trans h)
    (fun a i hi => by rw [tlook_tmod, if_neg hi]) hn hq t
  rw [he, tlook_tmod, if_pos rfl, hb]

end

/-- A tick boundary puts one sample before the older ones of each of the 656 queues, and restarts the longest waits (R320). -/
theorem goQueueSample_eq (t : Nat) (d : Dev) : ∃ samples counts,
    goQueueSample t d = { d with
      tm := { d.tm with samples := samples, maxDelay := [], sampleTick := (tickOf t + 2 ^ 48 - 1) % 2 ^ 48 }, counts := counts } ∧
    (∀ q, q < 656 → tlook (fun _ => []) samples q = putSample (d.sampleOf t q) (tlook (fun _ => []) d.tm.samples q)) ∧
    ∀ q, 656 ≤ q → tlook (fun _ => []) samples q = tlook (fun _ => []) d.tm.samples q :=
  ⟨(List.range 656).foldl (fun s q => tmod (fun _ => []) s q (putSample (d.sampleOf t q))) d.tm.samples, (goQueueSample t d).counts,
    by rw [goQueueSample, Dev.hbmOctets, Dev.bump],
    fun _ hq => foldl_tmod_once List.nodup_range (List.mem_range.mpr hq) _,
    fun _ hq => foldl_tmod_apart (fun h => Nat.not_lt.mpr hq (List.mem_range.mp h)) _⟩

/-! The commands of policers and samples (R323). -/

/-- A policer's written setting waits for the refill, and the policer is claimed for the beat (R319, R323). -/
def Dev.policerStaged (d : Dev) (i : Nat) (x : Policer) : Dev :=
  { d with tm := { d.tm with policeStaged := d.tm.policeStaged ++ [(i, x.w2, x.w3, x.w4)] } }.claim .policer i

/-- The policer that a request of function `f` names (R323). -/
theorem tenantField_fn (f v : Nat) : tenantField (.fn f) v = if f = 0 then v else f := by
  simp [tenantField, Master.isF0, Master.tenant]

/-- A setting that TM_POLICER_WRITE takes (R316 to R318, R323). -/
structure Policer.Legal (x : Policer) : Prop where
  mode : x.mode = 0 ∨ x.mode = 1 ∨ x.mode = 2
  yellow : fld x.w2 59 58 ≠ 3
  red : fld x.w2 57 56 ≠ 3
  low : -64 ≤ x.overhead
  high : x.overhead ≤ 63
  cbs : x.mode ≠ 0 → fld x.w4 23 0 ≠ 0
  pir : x.mode = 2 → fld x.w2 31 0 ≤ fld x.w3 63 32
  noPir : x.mode ≠ 2 → fld x.w3 63 32 = 0

/-- The row of the condition table that judges a setting does not apply to a legal one. -/
theorem Policer.Legal.row {x : Policer} (h : x.Legal) :
    (x.mode == 3 || fld x.w2 59 58 == 3 || fld x.w2 57 56 == 3 || decide (x.overhead < -64) || decide (63 < x.overhead) ||
      (x.mode != 0 && fld x.w4 23 0 == 0) || (x.mode == 2 && decide (fld x.w3 63 32 < fld x.w2 31 0)) || (x.mode != 2 && fld x.w3 63 32 != 0)) = false := by
  obtain ⟨hmode, hyellow, hred, hlow, hhigh, hcbs, hpir, hnone⟩ := h
  have hlow' : ¬ x.overhead < -64 := Int.not_lt.mpr hlow
  have hhigh' : ¬ 63 < x.overhead := Int.not_lt.mpr hhigh
  rcases hmode with h | h | h
  · simp [h, hyellow, hred, hlow', hhigh', hnone]
  · simp [h, hyellow, hred, hlow', hhigh', hnone, hcbs]
  · simp [h, hyellow, hred, hlow', hhigh', hcbs, hpir]

/-- Settles O9: a fetch by what the descriptor turns out to be, each command by its condition table, the refill and the samples by the tables they change. -/
theorem descriptorsAndPolicersComplete : Obligations.DescriptorsAndPolicersComplete := by
  unfold Obligations.DescriptorsAndPolicersComplete
  refine ⟨⟨fun s g w0 w1 l x hm hk hb hx hlen hl => ?_, fun s g w0 w1 data hm hk hb hq => ?_, fun s g w0 w1 data hm hb => ?_, fun s g w0 w1 data hm => ?_⟩,
    fun s f req i x ha hv hx hi hten hmode hyellow hred hlow hhigh hcbs hpir hnone hcl => ?_, fun s f req x ha hv hten hx => ?_,
    fun s f req q n ha hv hq hn hlt hlo hhi hown => ?_, fun s => ?_, fun s => ?_⟩
  · obtain ⟨counts, hfr⟩ := s.dev.routed_frame g (s.dev.ring g).owner x.len x
      { octets := l, srcKind := 2, src := g, tenant := (s.dev.ring g).owner, desc := some (g, x.id), tsReq := x.tsReq }
    have hgo := goDescriptorFetch_tx s.now hm hk hb hx hlen hl
    rw [hfr] at hgo
    have hring := s.dev.inFly_ring g
    refine ⟨_, completes_act _ rfl hgo, ?_, ?_, fun j hj => ?_, fun hfull => ?_, fun hroom => ?_, ?_⟩
    · rw [Dev.noteFull_ring]
      exact (hring g x).trans (if_pos rfl)
    · rw [Dev.noteFull_rte]
    · rw [Dev.noteFull_ring]
      exact (hring j x).trans (if_neg hj)
    · rw [Dev.noteFull_bufFull] at hfull
      exact Dev.noteFull_notes s.now hfull
    · rw [Dev.noteFull_bufFull] at hroom
      rw [Dev.noteFull_of_room s.now hroom]
    · exact (Dev.noteFull_frame _ _).trans (by rw [Dev.noteFull_rte])
  · obtain ⟨tm, counts, hfr⟩ := s.dev.fetched_frame g
    have hserve : ((s.dev.fetched g).modRing g (fun r => { r with free := r.free ++ [descOf (s.dev.ring g).nextId w0 w1] })).serveQueue s.now g =
        (s.dev.fetched g).modRing g (fun r => { r with free := r.free ++ [descOf (s.dev.ring g).nextId w0 w1] }) := by
      have hempty : (((s.dev.fetched g).modRing g (fun r => { r with free := r.free ++ [descOf (s.dev.ring g).nextId w0 w1] })).ring g).queue = [] := by
        rw [Dev.ring_modRing, if_pos rfl, Dev.fetched_ring, if_pos rfl]; exact hq
      rw [Dev.serveQueue, hempty, List.foldl_nil]
    refine ⟨_, completes_act _ rfl ((goDescriptorFetch_rx s.now data hm hk hb).trans hserve), ?_, fun j hj => ?_, ?_⟩
    · rw [Dev.ring_modRing, if_pos rfl, Dev.fetched_ring, if_pos rfl]; rfl
    · rw [Dev.ring_modRing, if_neg hj, Dev.fetched_ring, if_neg hj]
    · rw [hfr]; rfl
  · obtain ⟨tm, counts, i, hring, hgo⟩ := goDescriptorFetch_bad (w0 := w0) s.now data hm hb
    have hend := endsAt_completeDesc ({ s.dev with tm := tm, counts := counts } : Dev) g (descOf (s.dev.ring g).nextId w0 w1) i
    have hframe := (onlyCompletions_completeDesc ({ s.dev with tm := tm, counts := counts } : Dev) g (descOf (s.dev.ring g).nextId w0 w1) i).frame
    refine ⟨_, completes_act _ rfl hgo, ?_, ?_, ?_, fun j hj => ?_⟩
    · rw [hend.ends.cons, hring, Dev.inFly_ring, if_pos rfl]; rfl
    · rw [hframe]
    · rw [hframe]
    · rw [hend.others j hj, hring, Dev.inFly_ring, if_neg hj]
  · exact completes_act _ rfl (if_pos (by rw [hm]; rfl))
  · have hlegal : x.Legal := ⟨hmode, hyellow, hred, hlow, hhigh, hcbs, hpir, hnone⟩
    subst hx
    obtain ⟨d, hc, hans, hd⟩ := completes_now (c := .tmPolicerWrite f req) (st := .ok) (body := [])
      (e := (s.dev.taken f req).policerStaged i { w2 := wd req 2, w3 := wd req 3, w4 := wd req 4 })
      rfl rfl ha (by simp [fixedSpec]) (by simp [fixedSpec]) hv
      (by
        rw [tenantField_fn, ← hi, tenantRows_pass hten]
        refine (judged_none _ ?_).trans rfl
        simp only [List.cons_append, List.nil_append, List.forall_mem_cons]
        exact ⟨trivial, trivial, hlegal.row, (Dev.taken_claimed s.dev f req .policer i).trans hcl, fun _ h => nomatch h⟩) (by decide) rfl
    exact ⟨d, hc, hans, by rw [hd]; rfl, by rw [hd]; rfl⟩
  · obtain ⟨d, hc, hans, hd⟩ := completes_now (c := .tmPolicerRead f req) (st := .ok) (e := s.dev.taken f req)
      (body := [wd req 1, x.w2, x.w3, x.w4, packW [(x.green, 48, 0)], packW [(x.yellow, 48, 0)], packW [(x.red, 48, 0)]])
      rfl rfl ha (by simp [fixedSpec]) (by simp [fixedSpec]) (by simp [fixedSpec, hv])
      ((judged_none _ (by simp [tenantRows_pass hten])).trans (by rw [tenantField_fn, hx]; rfl)) (by decide) rfl
    exact ⟨d, hc, hans, by rw [hd]; rfl⟩
  · have howns : (s.dev.taken f req).ownsQueue (.fn f) q = true := hown
    obtain ⟨d, hc, hans, hd⟩ := completes_now (c := .tmQueueSample f req) (st := .ok) (e := s.dev.taken f req)
      (body := packW [(s.dev.tm.sampleTick, 48, 0)] :: (List.range n).map (fun i => (tlook (fun _ => []) s.dev.tm.samples q).getD i 0))
      rfl rfl ha (by simp [fixedSpec]) (by simp [fixedSpec]) (by simp [fixedSpec, hv])
      (by subst hq hn; exact judged_none _ (by simp [howns]; omega)) (by decide) rfl
    exact ⟨d, hc, hans, by rw [hd]; rfl⟩
  · refine ⟨_, completes_act _ rfl rfl, ?_, fun i hi => ?_, fun i w2 w3 w4 hi => ?_⟩
    · rw [← Dev.policing_snd, goRefill_policing]
    · rw [goRefill_policer, committedPolicers_apart hi]; rfl
    · rw [goRefill_policer, hi, committedPolicers, List.foldl_cons, List.foldl_nil, tlook_tmod, if_pos rfl]; rfl
  · obtain ⟨samples, counts, hgo, hsampled, hbeyond⟩ := goQueueSample_eq s.now s.dev
    exact ⟨_, completes_act _ rfl hgo, hsampled, hbeyond, rfl, rfl, rfl⟩

end Sys2Proof.Machine
end

section
/-! PROOFS. The stages of a boot. -/
namespace Sys2Proof.Machine

/-! The stages of a boot (R405, R407, R412). -/

/-- The management subsystem as a boot finds its references. -/
def Dev.bootMgr (d : Dev) (x : BootFacts) : Mgr :=
  { d.mgr with ref40 := x.ref40, ref100 := x.ref100, ref156 := x.ref156, bootCount := (d.mgr.bootCount + 1) % 65536 }

/-- The device once a boot has begun: it is counted, and CHK0 is the management core's. -/
def Dev.bootBegun (d : Dev) (x : BootFacts) : Dev :=
  (({ d with mgr := d.bootMgr x } : Dev).modChk 0 (fun c => { c with held := true, owner := 0x10 })).bump 43 6 |>.bump 43 7 (d.free.toNat % 65536) |>.drew

/-- The device once the boot records have been read and a slot chosen. -/
def Dev.bootChosen (d : Dev) (t : Nat) (x : BootFacts) : Dev :=
  let c := chooseSlot (d.bootMgr x) x
  let d2 := ({ d.bootBegun x with mgr := c.mgr } : Dev).badRecords t (b2n (!x.copy0) + b2n (!x.copy1))
  if c.rollback then d2.inc t 17 8 else d2

/-- The device once slot `i` runs and the boot is logged; what the stores could not give is noted. -/
def Dev.bootSlot (d : Dev) (t : Nat) (x : BootFacts) (i : Nat) : Dev :=
  let d3 := d.bootChosen t x
  let d4 : Dev := { d3 with mgr := { d3.mgr with slot := i } }
  let d5 := (if i ≠ (useRec (d.bootMgr x) x.copy0 x.copy1).1.pref then d4.inc t 17 7 else d4).logBoot t
  if x.unreadable.isEmpty && x.factoryOk then d5 else (d5.badStores t x).inc t 17 6

/-- The device at step 9: settings, factory values and port addresses are loaded, and every task context is IDLE. -/
def Dev.bootUp (d : Dev) (x : BootFacts) : Dev :=
  let d7 := loadPortAddrs (restoreProps (if x.factoryOk then loadFactory d else d) x.unreadable)
  { d7 with
    mgr := { d7.mgr with booted := true, step9 := d7.glb.up, missed := 0, lastFlush := d7.glb.up }
    rgm := { d7.rgm with ctx := (List.range 1024).map (fun k => (k, ({ st := .idle } : Ctx))) }
    gaf := { d7.gaf with pllTarget := some 0, pllSince := d7.glb.up } }

/-- The device that runs slot `i` reaches step 9, or recovery. -/
def Dev.bootRun (d : Dev) (t : Nat) (x : BootFacts) : Dev :=
  if d.tst.life = 3 then (d.recover (d.free.toNat % 16)).drew
  else if !x.hbmOk then ({ d with mem := { d.mem with hbmFailed := true } }.inc t 15 4).recover 3
  else d.bootUp x

/-- A boot, stage by stage. -/
theorem goBoot_eq (t : Nat) (x : BootFacts) (d0 : Dev) : goBoot t x d0 =
    let d := d0.sense x.readings
    if d.mgr.booted || d.gaf.held || !d.mgr.lowRails.isEmpty then d
    else if d.mgr.lastReset = 5 && !decide (d.hottest < savedTrip d - 10) then d
    else if !x.ref40 || !x.ref100 then ((d.bootBegun x).logBoot t).recover 2
    else if !x.norOk then ((d.bootBegun x).logBoot t).recover 4
    else match (chooseSlot (d.bootMgr x) x).slot with
      | none => ((d.bootChosen t x).logBoot t).recover 1
      | some i => (d.bootSlot t x i).bootRun t x := rfl

end Sys2Proof.Machine
end

section
/-! PROOFS. Resets: what a warm reset leaves, when it waits, and how supplies fail and return (O32). -/
namespace Sys2Proof.Machine

/-! Laws that more than one block below uses. -/

/-- An incident bit queues an entry for the log, and touches nothing else of the management subsystem (R418). -/
theorem Dev.inc_mgr (d : Dev) (t b k x : Nat) : (d.inc t b k x).mgr = { d.mgr with logQ := (d.inc t b k x).mgr.logQ } := by
  unfold Dev.inc Dev.setIncAt; dsimp only
  split
  · rfl
  · rw [Dev.fireMsi_mgr]; rfl

/-- An incident bit leaves the clock and the parts of the device's own record that resets keep. -/
theorem Dev.inc_up (d : Dev) (t b k x : Nat) : (d.inc t b k x).glb.up = d.glb.up := by
  unfold Dev.inc Dev.setIncAt Dev.fireMsi; dsimp only
  split
  · rfl
  · split <;> rfl

/-- What is filtered by number alone reads as before where the number stays, and as unlisted elsewhere. -/
theorem tlook_filter {α : Type} (dflt : Nat → α) (p : Nat → Bool) (t : Table α) (j : Nat) :
    tlook dflt (t.filter (fun e => p e.1)) j = if p j then tlook dflt t j else dflt j := by
  induction t with
  | nil => simp
  | cons e rest ih =>
    obtain ⟨k, v⟩ := e
    by_cases hk : k = j
    · subst hk
      by_cases hp : p k <;> simp [tlook, hp, ih]
    · by_cases hp : p k <;> simp [tlook, hp, hk, ih]

@[simp] theorem Dev.core_bump (d : Dev) (b k n j : Nat) : (d.bump b k n).core j = d.core j := rfl
theorem Dev.core_congr {a b : Dev} (h : a.rgm = b.rgm) (j : Nat) : a.core j = b.core j := by unfold Dev.core; rw [h]

/-! The warm reset. -/

/-- The device with the seal lock's loss noted, where a core that is reset holds it (R336). -/
def Dev.sealNoted (d : Dev) (t : Nat) : Dev := if d.coreHoldsSeal then d.inc t 12 1 else d

theorem Dev.sealNoted_frame (d : Dev) (t : Nat) : d.sealNoted t =
    { d with regs := (d.sealNoted t).regs, glb := (d.sealNoted t).glb, mgr := (d.sealNoted t).mgr, counts := (d.sealNoted t).counts } := by
  unfold Dev.sealNoted; split
  · exact Dev.inc_frame _ _ _ _ _
  · rfl

theorem Dev.sealNoted_mgr (d : Dev) (t : Nat) : (d.sealNoted t).mgr = { d.mgr with logQ := (d.sealNoted t).mgr.logQ } := by
  unfold Dev.sealNoted; split
  · exact Dev.inc_mgr _ _ _ _ _
  · rfl

theorem Dev.sealNoted_reg (d : Dev) (t : Nat) {a : Nat} (h : a ≠ 0xB80040 ∨ d.coreHoldsSeal = false) : (d.sealNoted t).reg a = d.reg a := by
  unfold Dev.sealNoted
  split
  next hs => exact Dev.inc_reg _ _ _ _ _ _ (h.resolve_right (by simp [hs]))
  · rfl

/-- Incident registers outlast a warm reset, every other register returns to its reset value (R403). -/
theorem Dev.warmClear_reg (d : Dev) (code a : Nat) : (d.warmClear code).reg a = if isIncident a then d.reg a else regReset a :=
  tlook_filter regReset isIncident d.regs a

/-- Only the reset that ends a boundary scan has an open LAST_RESET (R404, R471). -/
theorem lastResetCode_fixed {src : ResetSource} (h : src ≠ .scan) (n : Nat) : lastResetCode n src = lastResetCode 0 src := by
  cases src
  case scan => exact absurd rfl h
  all_goals rfl

/-- The first reset event of a beat clears the device. -/
theorem Dev.resetNow_first {d : Dev} {src : ResetSource} (t : Nat) (hs : src ≠ .scan) (hj : d.justReset = false) :
    d.resetNow t src = (d.sealNoted t).warmClear (lastResetCode 0 src) := by
  simp only [Dev.resetNow, hs, hj, lastResetCode_fixed hs, if_false, Bool.false_eq_true]
  rfl

/-- A further reset event of the beat changes LAST_RESET at most (R404). -/
theorem Dev.resetNow_again {d : Dev} {src : ResetSource} (t : Nat) (hs : src ≠ .scan) (hj : d.justReset = true) :
    d.resetNow t src = { d with mgr := { d.mgr with
      lastReset := if codeRank d.mgr.lastReset ≤ codeRank (lastResetCode 0 src) then d.mgr.lastReset else lastResetCode 0 src } } := by
  simp only [Dev.resetNow, hs, hj, lastResetCode_fixed hs, if_false, if_true]

/-- The device after a flush that found nothing to write. -/
def Dev.flushedClean (d : Dev) : Dev := { d with mgr := { d.mgr with lastFlush := d.glb.up, flushDeferred := false } }

theorem Dev.flushForReset_clean {d : Dev} {src : ResetSource} (h : d.mgr.dirty = []) : d.flushForReset src = d ∨ d.flushForReset src = d.flushedClean := by
  unfold Dev.flushForReset
  split
  · exact .inr (by simp [Dev.flush, h, Dev.flushedClean])
  · exact .inl rfl

/-- The device `e` that a reset clears, for a device `d` that is reset: the loss of the seal lock and a flush that found nothing are all that came before. -/
structure Dev.BeforeReset (d e : Dev) : Prop where
  frame : e = { d with regs := e.regs, glb := e.glb, mgr := e.mgr, counts := e.counts }
  mgr : e.mgr = { d.mgr with logQ := e.mgr.logQ, lastFlush := e.mgr.lastFlush, flushDeferred := e.mgr.flushDeferred }
  reg : ∀ {a}, a ≠ 0xB80040 ∨ d.coreHoldsSeal = false → e.reg a = d.reg a
  lockLost : d.coreHoldsSeal = true → (e.reg 0xB80040).getLsbD 1 = true

theorem Dev.sealNoted_before (d : Dev) (t : Nat) : d.BeforeReset (d.sealNoted t) where
  frame := d.sealNoted_frame t
  mgr := by rw [Dev.sealNoted_mgr]
  reg := d.sealNoted_reg t
  lockLost h := by rw [Dev.sealNoted, if_pos h]; exact Dev.inc_bit d t 12 1 0 (by decide)

theorem Dev.flushedClean_before (d : Dev) (t : Nat) : d.BeforeReset (d.flushedClean.sealNoted t) where
  frame := by rw [Dev.sealNoted_frame]; rfl
  mgr := by rw [Dev.sealNoted_mgr]; rfl
  reg := Dev.sealNoted_reg d.flushedClean t
  lockLost := (d.flushedClean.sealNoted_before t).lockLost

/-- A source that waits for nothing resets the device at once: WARM_RST_N, or any other while NV_BUSY is low and its flush finds nothing (R404, R414). -/
theorem Dev.warmReset_first {d : Dev} {src : ResetSource} (t : Nat) (h : src = .warmRstN ∨ (d.nvBusy = false ∧ (flushes src = false ∨ d.mgr.dirty = [])))
    (hs : src ≠ .scan) (hall : waitWith d.mgr.waitReset src = src) (hj : d.justReset = false) :
    ∃ e, d.BeforeReset e ∧ d.warmReset t src = e.warmClear (lastResetCode 0 src) := by
  unfold Dev.warmReset; dsimp only
  rw [hall]
  split
  · exact ⟨_, d.sealNoted_before t, Dev.resetNow_first t hs hj⟩
  next hw =>
    obtain ⟨hn, hd⟩ := h.resolve_left hw
    have hf : d.flushForReset src = d ∨ d.flushForReset src = d.flushedClean := by
      rcases hd with hd | hd
      · exact .inl (by simp [Dev.flushForReset, hd])
      · exact Dev.flushForReset_clean hd
    rcases hf with hf | hf
    · rw [hf, hn, if_neg (by simp)]
      exact ⟨_, d.sealNoted_before t, Dev.resetNow_first t hs hj⟩
    · have hn' : d.flushedClean.nvBusy = false := hn
      rw [hf, hn', if_neg (by simp)]
      exact ⟨_, d.flushedClean_before t, Dev.resetNow_first t hs hj⟩

/-- What a reset keeps of the device before it (R403). -/
theorem Dev.BeforeReset.kept {d e : Dev} (h : d.BeforeReset e) (code : Nat) :
    (e.warmClear code).mgr.saved = d.mgr.saved ∧ (e.warmClear code).mgr.rec0 = cutSlot d.mgr d.mgr.rec0 ∧ (e.warmClear code).mgr.rec1 = cutSlot d.mgr d.mgr.rec1 ∧
      (e.warmClear code).mgr.svnFloor = d.mgr.svnFloor ∧ (e.warmClear code).mgr.bootCount = d.mgr.bootCount ∧ (e.warmClear code).mgr.lowRails = d.mgr.lowRails := by
  simp only [Dev.warmClear, Mgr.kept]
  rw [h.mgr]
  exact ⟨rfl, rfl, rfl, rfl, rfl, rfl⟩

theorem Dev.BeforeReset.keptBlocks {d e : Dev} (h : d.BeforeReset e) (code : Nat) :
    (e.warmClear code).mem.faultAddr = d.mem.faultAddr ∧ (e.warmClear code).mem.faultKind = d.mem.faultKind ∧
      (e.warmClear code).mem.faultMaster = d.mem.faultMaster ∧ (e.warmClear code).ts = { d.ts with chipDark := true } := by
  rw [h.frame]; exact ⟨rfl, rfl, rfl, rfl⟩

/-! The settings that a flush writes (R414). -/

theorem tlook_tinsert_tdel {α : Type} (dflt : Nat → α) (k : Nat) (v : α) (t : Table α) (j : Nat) :
    tlook dflt (tinsert k v (tdel k t)) j = if j = k then v else tlook dflt t j := by
  rw [tlook_tinsert dflt k v j _ (tdel_ne k t), tlook_tdel]
  split <;> rfl

/-- Each of the listed settings comes to hold what is written of it. -/
theorem tlook_foldl_saved {α : Type} (dflt : Nat → α) (w : Nat → α) (l : List Nat) (t : Table α) (j : Nat) :
    tlook dflt (l.foldl (fun t k => tinsert k (w k) (tdel k t)) t) j = if j ∈ l then w j else tlook dflt t j := by
  induction l generalizing t with
  | nil => simp
  | cons k l ih =>
    rw [List.foldl_cons, ih, tlook_tinsert_tdel]
    by_cases hj : j = k
    · subst hj; simp
    · simp [hj]

theorem Dev.flush_saved (d : Dev) (k : Nat) :
    tlook propReset d.flush.mgr.saved k = if k ∈ d.mgr.dirty then d.written k else tlook propReset d.mgr.saved k := by
  unfold Dev.flush; dsimp only
  split
  next h => simp [List.length_eq_zero_iff.mp h]
  · rw [Dev.bump_mgr, Dev.drew_mgr]; exact tlook_foldl_saved propReset d.written d.mgr.dirty d.mgr.saved k

theorem Dev.flush_dirty (d : Dev) : d.flush.mgr.dirty = [] := by
  unfold Dev.flush; dsimp only
  split
  next h => exact List.length_eq_zero_iff.mp h
  · rw [Dev.bump_mgr, Dev.drew_mgr]

/-- A flush that writes something holds NV_BUSY. -/
theorem Dev.flush_nvBusy {d : Dev} (h : d.mgr.dirty ≠ []) : d.flush.nvBusy = true := by
  have hn : d.mgr.dirty.length ≠ 0 := fun h0 => h (List.length_eq_zero_iff.mp h0)
  have hb : d.glb.up < Nat.max d.mgr.nvUntil (d.glb.up + Nat.min 10000000 (2000 * d.mgr.dirty.length)) := by
    simp only [Nat.max_def, Nat.min_def]; split <;> split <;> omega
  simp only [Dev.flush, hn, if_false, Dev.nvBusy, Dev.bump_glb, Dev.bump_mgr, Dev.drew_mgr, Dev.drew_glb, hb, decide_true, Bool.true_or]

theorem Dev.flush_frame (d : Dev) : d.flush = { d with mgr := d.flush.mgr, counts := d.flush.counts, freeN := d.flush.freeN } := by
  unfold Dev.flush; dsimp only
  split <;> rfl

theorem Dev.flush_waitReset (d : Dev) : d.flush.mgr.waitReset = d.mgr.waitReset := by
  unfold Dev.flush; dsimp only
  split <;> rfl

/-! Supplies. -/

/-- A chain with every FEM line low. -/
def Chain.low (x : Chain) : Chain := { x with pa := false, lna := false, byp := false, port := 0 }

theorem foldl_low_chain (l : List Nat) (d : Dev) (c : Nat) :
    ((l.foldl (fun e c => e.modChain c Chain.low) d).chain c) = if c ∈ l then (d.chain c).low else d.chain c := by
  induction l generalizing d with
  | nil => simp
  | cons k l ih =>
    rw [List.foldl_cons, ih, Dev.chain_modChain]
    by_cases hc : c = k
    · subst hc; simp [Chain.low]
    · simp [hc]

theorem foldl_modChain_frame (f : Nat → Chain → Chain) (l : List Nat) (d : Dev) :
    l.foldl (fun e c => e.modChain c (f c)) d = { d with fe := (l.foldl (fun e c => e.modChain c (f c)) d).fe } := by
  induction l generalizing d with
  | nil => rfl
  | cons k l ih => rw [List.foldl_cons, ih]; rfl

theorem Dev.femLow_eq (d : Dev) : ∃ fe, d.femLow = { d with fe := fe } ∧ ∀ c, c < 48 → tlook chainReset fe.chain c = (d.chain c).low :=
  ⟨_, foldl_modChain_frame (fun _ => Chain.low) (List.range 48) d, fun c hc => (foldl_low_chain (List.range 48) d c).trans (if_pos (List.mem_range.mpr hc))⟩

/-- The device whose supply `j` has fallen below its minimum. -/
def Dev.supplyLost (d : Dev) (t j mv : Nat) : Dev :=
  let d2 := ((d.sense { millivolts := [(j, mv)] }).femLow).inc t 17 3
  { d2 with
    gaf := { d2.gaf with held := true }
    ts := { d2.ts with chipDark := true }
    mgr := { d2.mgr with lowRails := j :: d2.mgr.lowRails.filter (· != j) } }

theorem goSupplyFailure_low {d : Dev} {t j mv lo : Nat} (hm : railMin d j = some lo) (hv : mv < lo) : goSupplyFailure t j mv d = d.supplyLost t j mv := by
  simp only [goSupplyFailure, hm, hv, if_true]; rfl

/-- The device whose last low supply has returned, before its reset. -/
def Dev.supplyBack (d : Dev) (j mv : Nat) : Dev :=
  let d1 := d.sense { millivolts := [(j, mv)] }
  { d1 with mgr := { d1.mgr with lowRails := [] } }

theorem goSupplyFailure_back {d : Dev} {t j mv lo : Nat} (hm : railMin d j = some lo) (hv : lo ≤ mv) (hl : d.mgr.lowRails = [j]) :
    goSupplyFailure t j mv d = (d.supplyBack j mv).warmReset t .supply := by
  have hl' : (d.sense { millivolts := [(j, mv)] }).mgr.lowRails = [j] := hl
  simp [goSupplyFailure, hm, Nat.not_lt.mpr hv, hl', Dev.supplyBack]

/-- No source comes before a supply in the order of R404. -/
theorem waitWith_supply (o : Option ResetSource) : waitWith o .supply = .supply := by
  rcases o with _ | o
  · rfl
  · cases o <;> rfl

/-- Settles O32, from what a reset event clears, keeps and waits for. -/
theorem resetsComplete : Obligations.ResetsComplete := by
  unfold Obligations.ResetsComplete
  refine ⟨fun s => ?_, fun s j mv lo hm hv => ?_, fun s j mv lo hm hv hl hn hj => ?_, fun s src hw hs ho hj => ?_, fun s src hw hf hn => ?_,
    fun s src hf hp hd => ?_, fun s src c hw hs ho hj hc => ?_⟩
  · exact ⟨_, rfl, rfl, rfl, rfl, rfl, rfl, rfl, rfl, rfl, rfl, rfl, rfl, rfl, rfl, rfl⟩
  · obtain ⟨fe, hfe, hlow⟩ := (s.dev.sense { millivolts := [(j, mv)] }).femLow_eq
    refine ⟨_, completes_act _ rfl (goSupplyFailure_low hm hv), ?_, ?_, ?_, Dev.inc_bit _ s.now 17 3 0 (by decide), fun c hc => ?_, ?_⟩
    · simp [Dev.supplyLost, hfe]
    · simp [Dev.supplyLost]
    · simp [Dev.supplyLost, Dev.running]
    · have hchain : (s.dev.supplyLost s.now j mv).chain c = tlook chainReset fe.chain c := by simp [Dev.supplyLost, Dev.chain, hfe]
      rw [hchain, hlow c hc]; exact ⟨rfl, rfl, rfl⟩
    · apply Dev.eq_of_fields <;> simp [Dev.supplyLost, hfe]
  · obtain ⟨e, he, hb⟩ := Dev.warmReset_first (d := s.dev.supplyBack j mv) (src := .supply) s.now (.inr ⟨hn, .inl rfl⟩) (by simp) (waitWith_supply _) hj
    obtain ⟨-, -, -, -, -, hrails⟩ := he.kept 1
    refine ⟨_, completes_act _ rfl ((goSupplyFailure_back hm hv hl).trans hb), rfl, rfl, hrails, ?_, fun a hi ha => ?_⟩
    · have hheld : (e.warmClear 1).gaf.held = (e.tst.scanning || !(e.warmClear 1).mgr.lowRails.isEmpty) := rfl
      have htst : e.tst = s.dev.tst := by rw [he.frame]; rfl
      rw [hrails, htst] at hheld
      exact hheld.trans (by simp [Dev.supplyBack])
    · rw [Dev.warmClear_reg, if_pos hi, he.reg ha]; rfl
  · obtain ⟨e, he, hb⟩ := Dev.warmReset_first s.now (hw.imp_right fun ⟨hn, hd⟩ => ⟨hn, .inr hd⟩) hs (by rw [ho]; rfl) hj
    obtain ⟨hsaved, hrec0, hrec1, hsvn, hcount, -⟩ := he.kept (lastResetCode 0 src)
    obtain ⟨haddr, hkind, hmaster, hts⟩ := he.keptBlocks (lastResetCode 0 src)
    refine ⟨_, completes_act _ rfl hb, rfl, rfl, rfl, fun a ha => ?_, fun hc => ?_, rfl, rfl, rfl, rfl, rfl, rfl, rfl,
      haddr, hkind, hmaster, hsaved, hrec0, hrec1, hsvn, hcount, hts⟩
    · rw [Dev.warmClear_reg, he.reg ha]
    · rw [Dev.warmClear_reg, if_pos (by decide)]; exact he.lockLost hc
  · have hfl : s.dev.flushForReset src = s.dev := by rcases hf with hf | hf <;> simp [Dev.flushForReset, hf]
    exact ⟨_, completes_act (fun t d => d.warmReset t src) rfl (by simp only [Dev.warmReset, hw, if_false, hfl, hn, if_true]), rfl⟩
  · have hw : src ≠ .warmRstN := fun h => by rw [h] at hf; exact absurd hf (by decide)
    have hfl : s.dev.flushForReset src = s.dev.flush := by simp [Dev.flushForReset, hf, hp]
    have hreset : s.dev.warmReset s.now src =
        { s.dev.flush with mgr := { s.dev.flush.mgr with waitReset := some (waitWith s.dev.mgr.waitReset src) } } := by
      simp only [Dev.warmReset, hw, if_false, hfl, Dev.flush_nvBusy hd, if_true]
    have hleft : s.dev.flush.regs = s.dev.regs ∧ s.dev.flush.fns = s.dev.fns ∧ s.dev.flush.props = s.dev.props := by
      rw [Dev.flush_frame]; exact ⟨rfl, rfl, rfl⟩
    exact ⟨_, completes_act (fun t d => d.warmReset t src) rfl hreset, rfl, Dev.flush_dirty _, fun k => Dev.flush_saved _ k, hleft⟩
  · subst hc
    have hre := Dev.resetNow_again (d := s.dev) s.now hs hj
    refine ⟨_, completes_act (fun t d => d.warmReset t src) rfl ?_, rfl⟩
    have hall : waitWith s.dev.mgr.waitReset src = src := by rw [ho]; rfl
    simp only [Dev.warmReset, hall]
    split
    · exact hre
    next hw' =>
      obtain ⟨hn, hf⟩ := hw.resolve_left hw'
      simp only [Dev.flushForReset, hf, Bool.false_and, Bool.false_eq_true, if_false, hn]
      exact hre

end Sys2Proof.Machine
end

section
/-! PROOFS. The test access port and the debug access port: what an instruction selects, when the debug port opens, and what it does (O40). -/
namespace Sys2Proof.Machine

/-! Loading an instruction (R470 to R472). -/

/-- What the test access port holds once instruction code `c`, outside a scan, is loaded. -/
def Dev.selected (d : Dev) (c : Nat) : Tst :=
  { d.tst with instr := c, scanning := false, highz := false, connected := c == 0x20 && d.dapOpen, wrote := d.tst.wrote && d.tst.connected && (c == 0x20 && d.dapOpen) }

/-- Outside a scan an instruction selects its register; only DAP_ACCESS counts, as a connection or as a refusal (R472, R474). -/
theorem Dev.load_plain {d : Dev} {code : Nat} (t : Nat) (hs : d.tst.scanning = false) (hc : scanCode (instrCode code) = false) :
    ∃ counts, d.load t code = { d with tst := d.selected (instrCode code), counts := counts } ∧ (instrCode code ≠ 0x20 → counts = d.counts) := by
  have hz : (instrCode code == 7) = false := by
    simp only [scanCode, Bool.and_eq_false_iff, decide_eq_false_iff_not] at hc
    simp only [beq_eq_false_iff_ne]; omega
  unfold Dev.load; dsimp only
  rw [hc, hs, hz]
  simp only [Bool.false_eq_true, if_false]
  by_cases h20 : instrCode code = 0x20
  · suffices h : ∀ e : Dev, ∃ counts, (if instrCode code == 0x20 && d.dapOpen && !d.tst.connected then e.bump 45 0
        else if instrCode code == 0x20 && !(instrCode code == 0x20 && d.dapOpen) then e.bump 45 3 else e) = { e with counts := counts } from
      (h _).imp fun counts h => ⟨h, fun hn => absurd h20 hn⟩
    intro e; split
    · exact ⟨_, rfl⟩
    · split <;> exact ⟨_, rfl⟩
  · refine ⟨d.counts, ?_, fun _ => rfl⟩
    have hb : (instrCode code == 0x20) = false := by simpa using h20
    simp only [hb, Bool.false_and, Bool.false_eq_true, if_false]
    simp [Dev.selected, hb]

theorem Dev.load_apart {d : Dev} {code : Nat} (t : Nat) (hs : d.tst.scanning = false) (hc : scanCode (instrCode code) = false) (h20 : instrCode code ≠ 0x20) :
    d.load t code = { d with tst := { d.tst with instr := instrCode code, highz := false, connected := false, wrote := false } } := by
  obtain ⟨counts, hl, hcounts⟩ := Dev.load_plain t hs hc
  have hb : (instrCode code == 0x20) = false := by simpa using h20
  rw [hl, hcounts h20, Dev.selected, hb]
  simp [hs]

/-- A scan instruction drives the pins, holds D2 to D11 in reset and stops the management core (R471). -/
theorem Dev.load_scan {d : Dev} {code : Nat} (t : Nat) (hc : scanCode (instrCode code) = true) :
    ∃ counts, d.load t code = { d with
      tst := { d.tst with instr := instrCode code, scanning := true, highz := instrCode code == 7, connected := false, wrote := false }
      gaf := { d.gaf with held := true }, ts := { d.ts with chipDark := true }, counts := counts } := by
  have hb : (instrCode code == 0x20) = false := by
    simp only [scanCode, Bool.and_eq_true, decide_eq_true_eq] at hc
    simp only [beq_eq_false_iff_ne]; omega
  unfold Dev.load; dsimp only
  rw [hc, hb]
  simp only [Bool.false_and, Bool.and_false, Bool.false_eq_true, if_false, if_true]
  exact ⟨_, rfl⟩

/-- What a reset leaves when no other came in its beat: it clears a device that differs from the one before as `BeforeReset` says. -/
theorem Dev.resetNow_clears {d : Dev} (t : Nat) (src : ResetSource) (hj : d.justReset = false) :
    ∃ e code n, d.BeforeReset e ∧ d.resetNow t src = { e.warmClear code with freeN := n } := by
  have hclear : ∀ e : Dev, ∃ n, (if src = .scan then e.drew else e) = { e with freeN := n } := fun e => by
    split <;> exact ⟨_, rfl⟩
  obtain ⟨n, hn⟩ := hclear ((d.sealNoted t).warmClear (lastResetCode d.free.toNat src))
  refine ⟨_, lastResetCode d.free.toNat src, n, d.sealNoted_before t, hn ▸ ?_⟩
  simp only [Dev.resetNow, hj, Bool.false_eq_true, if_false]; rfl

/-- The first instruction outside the scan ends it with a warm reset and SCAN_RESET (R471). -/
theorem Dev.load_scanEnds {d : Dev} {code : Nat} (t : Nat) (hs : d.tst.scanning = true) (hc : scanCode (instrCode code) = false) (h20 : instrCode code ≠ 0x20)
    (hn : d.nvBusy = false) (hl : d.mgr.lowRails = []) (hj : d.justReset = false) :
    (d.load t code).tst.scanning = false ∧ (d.load t code).gaf.held = false ∧ (d.load t code).mgr.booted = false ∧ (d.load t code).fns = [] ∧
      ((d.load t code).reg 0x1300040).getLsbD 1 = true := by
  have hb : (instrCode code == 0x20) = false := by simpa using h20
  have hload : ∃ d3 : Dev, d.load t code = (d3.inc t 20 1).warmReset t .scan ∧ d3.mgr = d.mgr ∧ d3.glb = d.glb ∧ d3.tst.scanning = false ∧ d3.sealEng = d.sealEng := by
    unfold Dev.load; dsimp only
    rw [hc, hs, hb]
    simp only [Bool.false_and, Bool.false_eq_true, if_false, if_true]
    exact ⟨_, rfl, rfl, rfl, rfl, rfl⟩
  obtain ⟨d3, hload, hm, hg, hsc, hse⟩ := hload
  have hmgr : (d3.inc t 20 1).mgr = { d.mgr with logQ := (d3.inc t 20 1).mgr.logQ } := by rw [Dev.inc_mgr, hm]
  have hup : (d3.inc t 20 1).glb.up = d.glb.up := by rw [Dev.inc_up, hg]
  have hn3 : (d3.inc t 20 1).nvBusy = false := by unfold Dev.nvBusy at hn ⊢; rw [hup, hmgr]; exact hn
  have hj3 : (d3.inc t 20 1).justReset = false := by unfold Dev.justReset at hj ⊢; rw [hup, hmgr]; exact hj
  obtain ⟨e, code', n, he, hr⟩ := Dev.resetNow_clears t (waitWith (d3.inc t 20 1).mgr.waitReset .scan) hj3
  have hwarm : d.load t code = { e.warmClear code' with freeN := n } := by
    rw [hload, ← hr, Dev.warmReset]
    simp only [Dev.flushForReset, flushes, Bool.false_and, Bool.false_eq_true, if_false, hn3, reduceCtorEq]
  obtain ⟨-, -, -, -, -, hrails⟩ := he.kept code'
  have hscan : e.tst.scanning = false := by rw [he.frame]; simpa using hsc
  have hlow : (e.warmClear code').mgr.lowRails = [] := by rw [hrails, hmgr]; exact hl
  have hheld : (e.warmClear code').gaf.held = (e.tst.scanning || !(e.warmClear code').mgr.lowRails.isEmpty) := rfl
  rw [hwarm]
  refine ⟨hscan, hheld.trans (by rw [hscan, hlow]; rfl), rfl, rfl, ?_⟩
  show ((e.warmClear code').reg 0x1300040).getLsbD 1 = true
  rw [Dev.warmClear_reg, if_pos (by decide), he.reg (.inl (by decide))]
  exact Dev.inc_bit d3 t 20 1 0 (by decide)

/-- Every code without an instruction of its own is BYPASS (R470). -/
theorem instrCode_bypass (c : Nat) : instrCode (if instrCode c = 0xFF then c else 0xFF) = 0xFF := by
  split
  next h => exact h
  · rfl

/-- The challenge of UNLOCK holds SERIAL, the random number and TST_LIFECYCLE in its parts (R473). -/
theorem challenge_parts (serial : Nat) (r q : Word) (l : Reg) :
    (serial * 2 ^ 160 + (r.toNat * 2 ^ 64 + q.toNat) * 2 ^ 32 + l.toNat) / 2 ^ 160 = serial ∧
      (serial * 2 ^ 160 + (r.toNat * 2 ^ 64 + q.toNat) * 2 ^ 32 + l.toNat) % 2 ^ 32 = l.toNat := by
  have := r.isLt; have := q.isLt; have := l.isLt
  omega

/-- A scan instruction that completes has selected its register and stopped D2 to D11 and the management core (R471). -/
theorem scanSelected {s : State} {c : Instr} {code : Nat} {d : Dev} (hx : Completes c s d)
    (hd : d = s.dev.load s.now code ∨ d = (s.dev.load s.now code).capture 0) (hc : scanCode (instrCode code) = true)
    (hz : (instrCode code == 7) = decide (c = .highz)) :
    ∃ d, Completes c s d ∧ d.tst.scanning = true ∧ d.gaf.held = true ∧ d.running = false ∧ d.mgrStopped = true ∧ d.tst.connected = false ∧
      (d.tst.highz = decide (c = .highz)) ∧ d.ts = { s.dev.ts with chipDark := true } ∧ d.regs = s.dev.regs ∧ d.fns = s.dev.fns := by
  obtain ⟨counts, hl⟩ := Dev.load_scan (d := s.dev) s.now hc
  refine ⟨d, hx, ?_⟩
  rcases hd with rfl | rfl <;> rw [hl] <;>
    exact ⟨rfl, rfl, rfl, Bool.or_true _, rfl, hz, rfl, rfl, rfl⟩

/-- UNLOCK gives a challenge while fewer than three verifications have failed (R473). -/
theorem goUnlock_challenges {d : Dev} (t : Nat) (hs : d.tst.scanning = false) (hf : d.tst.fails < 3) :
    ∃ c, c = Config.serial.toNat * 2 ^ 160 + (d.free.toNat * 2 ^ 64 + d.drew.free.toNat) * 2 ^ 32 + (packR [(d.tst.life, 2, 0), (b2n d.tst.unlocked, 1, 8), (0, 1, 9)]).toNat ∧
      (goUnlock t d).tst.challenge = some c ∧ (goUnlock t d).tst.captured = c ∧ (goUnlock t d).tst.fails = d.tst.fails ∧ (goUnlock t d).tst.unlocked = d.tst.unlocked := by
  refine ⟨_, rfl, ?_⟩
  unfold goUnlock; dsimp only
  rw [Dev.load_apart (code := 0x22) t hs (by decide) (by decide), if_neg (Nat.not_le.mpr hf)]
  exact ⟨rfl, rfl, rfl, rfl⟩

/-- After three failures UNLOCK gives none (R473). -/
theorem goUnlock_refuses {d : Dev} (t : Nat) (hs : d.tst.scanning = false) (hf : 3 ≤ d.tst.fails) : (goUnlock t d).tst.challenge = none := by
  unfold goUnlock; dsimp only
  rw [Dev.load_apart (code := 0x22) t hs (by decide) (by decide), if_pos hf]

/-! Halting a core (R474). -/

/-- The connected port's halt of crew core `c`, or of the management core. -/
def Dev.halting (d : Dev) (t : Nat) : Dev := (d.bump 45 6).inc t 20 3

theorem goCoreHalt_crew {d : Dev} (t c : Nat) (h : d.tst.connected = true) :
    goCoreHalt t (some c) d = (d.halting t).modCore c (fun k => { k with halted := true }) := by
  simp only [goCoreHalt, h, Bool.not_true, Bool.false_eq_true, if_false]; rfl

theorem goCoreHalt_mgmt {d : Dev} (t : Nat) (h : d.tst.connected = true) :
    goCoreHalt t none d = { d.halting t with mgr := { (d.halting t).mgr with halted := true } } := by
  simp only [goCoreHalt, h, Bool.not_true, Bool.false_eq_true, if_false]; rfl

theorem goCoreResume_crew {d : Dev} (c : Nat) (h : d.tst.connected = true) :
    goCoreResume (some c) d = (d.bump 45 7).modCore c (fun k => { k with halted := false }) := by
  simp only [goCoreResume, h, Bool.not_true, Bool.false_eq_true, if_false]; rfl

theorem goCoreResume_mgmt {d : Dev} (h : d.tst.connected = true) :
    goCoreResume none d = { d.bump 45 7 with mgr := { (d.bump 45 7).mgr with halted := false, missed := 0 } } := by
  simp only [goCoreResume, h, Bool.not_true, Bool.false_eq_true, if_false]

theorem Dev.halting_bit (d : Dev) (t : Nat) : ((d.halting t).reg 0x1300040).getLsbD 3 = true := Dev.inc_bit _ t 20 3 0 (by decide)

theorem Dev.halting_rgm (d : Dev) (t : Nat) : (d.halting t).rgm = d.rgm := by simp [Dev.halting]

/-- Settles O40, from what loading an instruction does. -/
theorem testAndDebugPortsComplete : Obligations.TestAndDebugPortsComplete := by
  unfold Obligations.TestAndDebugPortsComplete
  refine ⟨⟨fun s hs => ⟨?_, ?_, fun p => ?_, fun c => ?_, ?_⟩, fun s c hc => ?_, fun s hs hn hl hj c hc => ?_⟩,
    fun s hs => ?_, fun s hs hf => ?_, fun s hs hf => ?_, fun s c hc => ⟨?_, fun k g hkg => ?_⟩, fun s k g hc => ?_,
    fun s hc => ⟨fun c => ?_, ?_, fun c => ?_, ?_⟩, fun s x hc => ⟨?_, ?_⟩⟩
  · exact ⟨_, completes_act _ rfl (by rw [goIdcode, Dev.load_apart _ hs (by decide) (by decide)]; rfl), rfl⟩
  · exact ⟨_, completes_act _ rfl (by rw [goTapReset, Dev.load_apart _ (by simpa using hs) (by decide) (by decide)]), rfl⟩
  · exact ⟨_, completes_act _ rfl (by rw [goSamplePreload, Dev.load_apart _ hs (by decide) (by decide)]), rfl, rfl⟩
  · have hb := instrCode_bypass c
    exact ⟨_, completes_act _ rfl (by rw [goBypass, Dev.load_apart _ hs (by rw [hb]; decide) (by rw [hb]; decide), hb]; rfl), rfl⟩
  · exact ⟨_, completes_act _ rfl (by rw [goLcStatus, Dev.load_apart _ hs (by decide) (by decide)]; rfl), rfl⟩
  · simp only [List.mem_cons, List.not_mem_nil, or_false] at hc
    rcases hc with rfl | rfl | rfl | rfl | rfl
    · exact scanSelected (code := 0x03) (completes_act _ rfl rfl) (.inl rfl) (by decide) (by simp [instrCode])
    · exact scanSelected (code := 0x04) (completes_act _ rfl rfl) (.inl rfl) (by decide) (by simp [instrCode])
    · exact scanSelected (code := 0x05) (completes_act _ rfl rfl) (.inl rfl) (by decide) (by simp [instrCode])
    · exact scanSelected (code := 0x06) (completes_act _ rfl rfl) (.inr rfl) (by decide) (by simp [instrCode])
    · exact scanSelected (code := 0x07) (completes_act _ rfl rfl) (.inr rfl) (by decide) (by simp [instrCode])
  · simp only [List.mem_cons, List.not_mem_nil, or_false] at hc
    rcases hc with rfl | rfl | rfl
    · exact ⟨_, completes_act _ rfl rfl, Dev.load_scanEnds _ hs (by decide) (by decide) hn hl hj⟩
    · exact ⟨_, completes_act _ rfl rfl, Dev.load_scanEnds (d := s.dev.bump 45 5) _ hs (by decide) (by decide) hn hl hj⟩
    · exact ⟨_, completes_act _ rfl rfl, Dev.load_scanEnds _ hs (by decide) (by decide) hn hl hj⟩
  · obtain ⟨counts, hl, -⟩ := Dev.load_plain (code := 0x20) s.now hs (by decide)
    exact ⟨_, completes_act _ rfl hl, by simp [Dev.selected, instrCode, hs], rfl⟩
  · obtain ⟨c, hc, hch, hcap, hfails, hunl⟩ := goUnlock_challenges s.now hs hf
    obtain ⟨hserial, hlife⟩ := challenge_parts Config.serial.toNat s.dev.free s.dev.drew.free (packR [(s.dev.tst.life, 2, 0), (b2n s.dev.tst.unlocked, 1, 8), (0, 1, 9)])
    rw [← hc] at hserial hlife
    exact ⟨_, c, completes_act _ rfl rfl, hch, hcap, hserial, hlife, hfails, hunl⟩
  · exact ⟨_, completes_act _ rfl rfl, goUnlock_refuses s.now hs hf⟩
  · exact ⟨_, completes_act (fun t d => goUnlockVerify t true true d) rfl (by simp only [goUnlockVerify, hc]; rfl), rfl⟩
  · refine ⟨_, completes_act (fun t d => goUnlockVerify t k g d) rfl (by simp only [goUnlockVerify, hc, hkg]; rfl), ?_, Dev.inc_bit _ s.now 20 0 0 (by decide)⟩
    rw [Dev.inc_tst]
  · exact completes_act (fun t d => goUnlockVerify t k g d) rfl (by simp only [goUnlockVerify, hc]; rfl)
  · refine ⟨_, completes_act _ rfl (goCoreHalt_crew s.now c hc), ?_, fun j hj => ?_, Dev.halting_bit s.dev s.now⟩ <;>
      simp [Dev.core, Dev.modCore, Dev.halting_rgm, *]
  · exact ⟨_, completes_act _ rfl (goCoreHalt_mgmt s.now hc), rfl, rfl, Dev.halting_rgm s.dev s.now, Dev.halting_bit s.dev s.now⟩
  · refine ⟨_, completes_act (fun _ d => goCoreResume (some c) d) rfl (goCoreResume_crew c hc), by simp, fun j hj => ?_, rfl⟩
    simp [Dev.core, Dev.modCore, hj]
  · exact ⟨_, completes_act (fun _ d => goCoreResume none d) rfl (goCoreResume_mgmt hc), rfl⟩
  · exact ⟨_, completes_act (fun t d => goCoreHalt t x d) rfl (by simp only [goCoreHalt, hc]; rfl), rfl⟩
  · exact ⟨_, completes_act (fun _ d => goCoreResume x d) rfl (by simp only [goCoreResume, hc]; rfl), rfl⟩

/-- Settles O49: a step is the meaning of the front command on the rest of the queue, by the definition of a step. -/
theorem stepRunsTheFrontCommand : Obligations.StepRunsTheFrontCommand := by
  unfold Obligations.StepRunsTheFrontCommand
  intro s c rest h
  simp only [step, h]

end Sys2Proof.Machine
end

section
/-! PROOFS. A boot reaches step 9 with the slot it chose, or recovery with its cause (O33). -/
namespace Sys2Proof.Machine

/-! The choice of a slot (R407, R409, R412). -/

/-- What `chooseSlot` starts from: the record in use. -/
def Mgr.choice (m : Mgr) (x : BootFacts) : Choice := { mgr := m, cur := (useRec m x.copy0 x.copy1).1, used := (useRec m x.copy0 x.copy1).2 }

/-- The checks of slot `i`. -/
def slotCheck (x : BootFacts) (i : Nat) : SlotCheck := if i = 0 then x.slotA else x.slotB

theorem chooseSlot_eq (m : Mgr) (x : BootFacts) : chooseSlot m x =
    ((m.choice x).try (m.choice x).cur.pref (slotCheck x (m.choice x).cur.pref)).try (1 - (m.choice x).cur.pref) (slotCheck x (1 - (m.choice x).cur.pref)) := rfl

/-- Once a slot is chosen no other is tried. -/
theorem Choice.try_chosen {c : Choice} (i : Nat) (x : SlotCheck) (h : c.slot.isSome = true) : c.try i x = c := by
  rw [Choice.try, if_pos h]

theorem Choice.try_good {c : Choice} {i : Nat} {x : SlotCheck} (hn : c.slot = none) (hg : c.cur.st i = .good) (hp : slotPasses c.mgr.svnFloor x = true) :
    c.try i x = { c with slot := some i } := by
  simp [Choice.try, hn, hg, hp]

theorem writeRec_floor (m : Mgr) (used : Nat) (r : BootRec) : (writeRec m used r).svnFloor = m.svnFloor := by
  unfold writeRec; dsimp only; split <;> rfl

theorem Choice.try_trial {c : Choice} {i : Nat} {x : SlotCheck} (hn : c.slot = none) (ht : c.cur.st i = .trial) (htries : c.cur.tries i ≠ 0)
    (hp : slotPasses c.mgr.svnFloor x = true) : c.try i x = { (c.mark i .trial (c.cur.tries i - 1)) with slot := some i } := by
  have hp' : slotPasses (c.mark i .trial (c.cur.tries i - 1)).mgr.svnFloor x = true := by simpa [Choice.mark, writeRec_floor] using hp
  simp [Choice.try, hn, ht, htries, hp']

@[simp] theorem Choice.mark_slot (c : Choice) (i : Nat) (st : SlotState) (n : Nat) : (c.mark i st n).slot = c.slot := rfl

@[simp] theorem Choice.mark_floor (c : Choice) (i : Nat) (st : SlotState) (n : Nat) : (c.mark i st n).mgr.svnFloor = c.mgr.svnFloor :=
  writeRec_floor _ _ _

/-- A slot that fails its checks is not chosen, and the floor stays. -/
theorem Choice.try_fails {c : Choice} {i : Nat} {x : SlotCheck} (hn : c.slot = none) (hp : slotPasses c.mgr.svnFloor x = false) :
    (c.try i x).slot = none ∧ (c.try i x).mgr.svnFloor = c.mgr.svnFloor := by
  unfold Choice.try; dsimp only
  rw [if_neg (by simp [hn])]
  split
  · split <;> simp [hn, hp]
  · simp [hn, hp]
  · simp [hn]

theorem chooseSlot_good {m : Mgr} {x : BootFacts} {r : BootRec} (hr : r = (useRec m x.copy0 x.copy1).1) (hg : r.st r.pref = .good)
    (hp : slotPasses m.svnFloor (slotCheck x r.pref) = true) : chooseSlot m x = { m.choice x with slot := some r.pref } := by
  subst hr
  have htry : (m.choice x).try (m.choice x).cur.pref (slotCheck x (m.choice x).cur.pref) = _ := Choice.try_good rfl hg hp
  rw [chooseSlot_eq, htry, Choice.try_chosen _ _ rfl]; rfl

theorem chooseSlot_trial {m : Mgr} {x : BootFacts} {r : BootRec} (hr : r = (useRec m x.copy0 x.copy1).1) (ht : r.st r.pref = .trial)
    (htries : r.tries r.pref ≠ 0) (hp : slotPasses m.svnFloor (slotCheck x r.pref) = true) :
    chooseSlot m x = { (m.choice x).mark r.pref .trial (r.tries r.pref - 1) with slot := some r.pref } := by
  subst hr
  have htry : (m.choice x).try (m.choice x).cur.pref (slotCheck x (m.choice x).cur.pref) = _ := Choice.try_trial rfl ht htries hp
  rw [chooseSlot_eq, htry, Choice.try_chosen _ _ rfl]; rfl

theorem chooseSlot_none {m : Mgr} {x : BootFacts} (hA : slotPasses m.svnFloor x.slotA = false) (hB : slotPasses m.svnFloor x.slotB = false) :
    (chooseSlot m x).slot = none := by
  have hfails : ∀ i, slotPasses m.svnFloor (slotCheck x i) = false := fun i => by unfold slotCheck; split <;> assumption
  obtain ⟨hnone, hfloor⟩ := Choice.try_fails (c := m.choice x) (i := (m.choice x).cur.pref) rfl (hfails _)
  rw [chooseSlot_eq]
  exact (Choice.try_fails hnone (hfloor ▸ hfails _)).1

/-- A record that is written is the one in use (R409). -/
theorem bootRec_writeRec (m : Mgr) (r : BootRec) (hr : r.seq = m.bootRec.seq) :
    (writeRec m (useRec m true true).2 r).bootRec = { r with seq := r.seq + 1 } := by
  simp only [Mgr.bootRec, useRec] at hr ⊢
  unfold writeRec
  by_cases h : m.rec0.seq < m.rec1.seq
  · simp only [h, if_true] at hr ⊢
    simp [hr]
  · simp only [h, if_false] at hr ⊢
    simp [hr]

theorem Mgr.bootRec_congr {m n : Mgr} (h0 : m.rec0 = n.rec0) (h1 : m.rec1 = n.rec1) : m.bootRec = n.bootRec := by
  simp only [Mgr.bootRec, useRec, h0, h1]

theorem BootRec.setSlot_seq (r : BootRec) (i : Nat) (st : SlotState) (n : Nat) : (r.setSlot i st n).seq = r.seq := by
  unfold BootRec.setSlot; split <;> rfl

/-! What the steps of a boot leave as it was. -/

/-- `e` differs from `d` in what a boot may note before step 9: the log, the check interrupt and what lies outside the management, global and test blocks. -/
structure Dev.BootNotes (d e : Dev) : Prop where
  mgr : e.mgr = { d.mgr with logQ := e.mgr.logQ, chkIrq := e.mgr.chkIrq }
  up : e.glb.up = d.glb.up
  tst : e.tst = d.tst

theorem Dev.BootNotes.refl (d : Dev) : d.BootNotes d := ⟨rfl, rfl, rfl⟩

theorem Dev.BootNotes.trans {d e f : Dev} (h : d.BootNotes e) (g : e.BootNotes f) : d.BootNotes f where
  mgr := by rw [g.mgr, h.mgr]
  up := g.up.trans h.up
  tst := g.tst.trans h.tst

theorem Dev.inc_notes (d : Dev) (t b k x : Nat) : d.BootNotes (d.inc t b k x) :=
  ⟨by rw [Dev.inc_mgr], Dev.inc_up d t b k x, by rw [Dev.inc_frame]⟩

theorem Dev.mismatchIrq_notes (d : Dev) (owner : Nat) : d.BootNotes (d.mismatchIrq owner) := by
  unfold Dev.mismatchIrq
  split
  · exact ⟨rfl, rfl, rfl⟩
  · split
    · exact .refl d
    · exact ⟨rfl, rfl, rfl⟩

theorem Dev.chkMismatch_notes (d : Dev) (t n : Nat) : d.BootNotes (d.chkMismatch t n) := by
  have hstep : d.BootNotes ((d.modChk n (fun c => { c with mismatch := true })).step 0x7030 0 n) := ⟨by simp, by simp, by simp⟩
  have hbump : ∀ e : Dev, e.BootNotes (e.bump 39 (8 + n)) := fun e => ⟨by simp, by simp, by simp⟩
  exact (hstep.trans (Dev.inc_notes _ _ _ _ _)).trans ((hbump _).trans (Dev.mismatchIrq_notes _ _))

theorem Dev.badRecords_notes (d : Dev) (t k : Nat) : d.BootNotes (d.badRecords t k) := by
  induction k generalizing d with
  | zero => exact .refl d
  | succ k ih => exact (d.chkMismatch_notes t 0).trans (ih _)

theorem Dev.badStores_notes (d : Dev) (t : Nat) (x : BootFacts) : d.BootNotes (d.badStores t x) := by
  unfold Dev.badStores; dsimp only
  split
  · exact Dev.badRecords_notes ..
  · refine ((Dev.badRecords_notes d t _).trans (Dev.badRecords_notes _ t _)).trans ⟨rfl, rfl, rfl⟩

theorem Dev.logBoot_notes (d : Dev) (t : Nat) : d.BootNotes (d.logBoot t) := ⟨rfl, rfl, rfl⟩

/-- The device once a boot has begun differs in the references and the boot count. -/
theorem Dev.bootBegun_mgr (d : Dev) (x : BootFacts) : (d.bootBegun x).mgr = d.bootMgr x ∧ (d.bootBegun x).fns = d.fns ∧
    (d.bootBegun x).glb = d.glb ∧ (d.bootBegun x).tst = d.tst := by
  simp [Dev.bootBegun]

theorem Dev.bootChosen_notes (d : Dev) (t : Nat) (x : BootFacts) :
    ({ d with mgr := (chooseSlot (d.bootMgr x) x).mgr } : Dev).BootNotes (d.bootChosen t x) := by
  have hbegun : ({ d with mgr := (chooseSlot (d.bootMgr x) x).mgr } : Dev).BootNotes ({ d.bootBegun x with mgr := (chooseSlot (d.bootMgr x) x).mgr } : Dev) :=
    ⟨rfl, congrArg Glb.up (d.bootBegun_mgr x).2.2.1, (d.bootBegun_mgr x).2.2.2⟩
  unfold Dev.bootChosen; dsimp only
  split
  · exact (hbegun.trans (Dev.badRecords_notes ..)).trans (Dev.inc_notes ..)
  · exact hbegun.trans (Dev.badRecords_notes ..)

theorem Dev.bootSlot_notes (d : Dev) (t : Nat) (x : BootFacts) (i : Nat) :
    ({ d with mgr := { (chooseSlot (d.bootMgr x) x).mgr with slot := i } } : Dev).BootNotes (d.bootSlot t x i) := by
  have hchosen := d.bootChosen_notes t x
  have hslot : ({ d with mgr := { (chooseSlot (d.bootMgr x) x).mgr with slot := i } } : Dev).BootNotes
      ({ d.bootChosen t x with mgr := { (d.bootChosen t x).mgr with slot := i } } : Dev) :=
    ⟨by dsimp only; rw [hchosen.mgr], hchosen.up, hchosen.tst⟩
  have hif : ∀ e : Dev, e.BootNotes (if i ≠ (useRec (d.bootMgr x) x.copy0 x.copy1).1.pref then e.inc t 17 7 else e) := fun e => by
    split
    · exact Dev.inc_notes ..
    · exact .refl e
  have hlog := (hslot.trans (hif _)).trans (Dev.logBoot_notes _ t)
  unfold Dev.bootSlot; dsimp only
  split
  · exact hlog
  · exact (hlog.trans (Dev.badStores_notes _ t x)).trans (Dev.inc_notes ..)

/-- Loading the settings, the factory values and the port addresses leaves the management and global blocks as they were. -/
theorem Dev.loaded_keeps (d : Dev) (x : BootFacts) :
    let e := loadPortAddrs (restoreProps (if x.factoryOk then loadFactory d else d) x.unreadable)
    e.mgr = d.mgr ∧ e.glb = d.glb := by
  suffices h : ∀ e, e = loadPortAddrs (restoreProps (if x.factoryOk then loadFactory d else d) x.unreadable) → (e.mgr, e.glb) = (d.mgr, d.glb) from
    Prod.mk.inj (h _ rfl)
  rintro e rfl
  have hfactory : ((if x.factoryOk then loadFactory d else d).mgr, (if x.factoryOk then loadFactory d else d).glb) = (d.mgr, d.glb) := by
    split
    · exact foldl_keeps (obs := fun e : Dev => (e.mgr, e.glb)) (fun _ _ => rfl) factoryValues d
    · rfl
  calc _ = _ := foldl_keeps (obs := fun e : Dev => (e.mgr, e.glb)) (fun _ _ => by simp) (List.range 4) _
    _ = _ := foldl_keeps (obs := fun e : Dev => (e.mgr, e.glb)) (fun e _ => by split <;> rfl) _ _
    _ = _ := hfactory

/-- A table that lists the numbers from `a` on with one value. -/
theorem tlook_listed {α : Type} (dflt : Nat → α) (v : α) (n a j : Nat) (h1 : a ≤ j) (h2 : j < a + n) :
    tlook dflt ((List.range' a n).map fun i => (i, v)) j = v := by
  induction n generalizing a with
  | zero => omega
  | succ n ih =>
    rw [List.range'_succ, List.map_cons, tlook]
    split
    · rfl
    · exact ih (a + 1) (by omega) (by omega)

/-- Step 9 (R405). -/
theorem Dev.bootUp_mgr (d : Dev) (x : BootFacts) :
    (d.bootUp x).mgr = { d.mgr with booted := true, step9 := d.glb.up, missed := 0, lastFlush := d.glb.up } ∧
    (∀ k, k < 1024 → (tlook (fun _ => ({} : Ctx)) (d.bootUp x).rgm.ctx k).st = .idle) := by
  obtain ⟨hm, hg⟩ := d.loaded_keeps x
  refine ⟨?_, fun k hk => ?_⟩
  · unfold Dev.bootUp; dsimp only; rw [hm, hg]
  · have hctx : (d.bootUp x).rgm.ctx = (List.range' 0 1024).map fun k => (k, ({ st := .idle } : Ctx)) := by
      rw [← List.range_eq_range']; unfold Dev.bootUp; dsimp only
    rw [hctx, tlook_listed _ _ _ 0 k (by omega) (by omega)]

/-- What a boot that may go on is: down, in no recovery, held by nothing. -/
structure Dev.MayBoot (d : Dev) : Prop where
  down : d.mgr.booted = false
  free : d.gaf.held = false
  rails : d.mgr.lowRails = []
  cool : d.mgr.lastReset ≠ 5

/-- A boot, once the device may go on. -/
theorem goBoot_go {d0 : Dev} (h : d0.MayBoot) (t : Nat) (x : BootFacts) : goBoot t x d0 =
    let d := d0.sense x.readings
    if !x.ref40 || !x.ref100 then ((d.bootBegun x).logBoot t).recover 2
    else if !x.norOk then ((d.bootBegun x).logBoot t).recover 4
    else match (chooseSlot (d.bootMgr x) x).slot with
      | none => ((d.bootChosen t x).logBoot t).recover 1
      | some i => (d.bootSlot t x i).bootRun t x := by
  have hstop : ((d0.sense x.readings).mgr.booted || (d0.sense x.readings).gaf.held || !(d0.sense x.readings).mgr.lowRails.isEmpty) = false := by
    simp [Dev.sense, h.down, h.free, h.rails]
  have hcool : ((d0.sense x.readings).mgr.lastReset = 5 && !decide ((d0.sense x.readings).hottest < savedTrip (d0.sense x.readings) - 10)) = false := by
    simp [Dev.sense, h.cool]
  rw [goBoot_eq]; dsimp only
  rw [hstop, hcool]; rfl

/-- With its references and the NOR, and slot `i` chosen, a device runs that slot. -/
theorem goBoot_slot {d0 : Dev} (h : d0.MayBoot) (t : Nat) {x : BootFacts} (h40 : x.ref40 = true) (h100 : x.ref100 = true) (hnor : x.norOk = true)
    {i : Nat} (hslot : (chooseSlot ((d0.sense x.readings).bootMgr x) x).slot = some i) :
    goBoot t x d0 = ((d0.sense x.readings).bootSlot t x i).bootRun t x := by
  rw [goBoot_go h]; dsimp only
  simp [h40, h100, hnor, hslot]

/-- A slot that was chosen reaches step 9 (R405), the management subsystem as the choice left it. -/
theorem goBoot_step9 {d0 : Dev} (h : d0.MayBoot) (t : Nat) {x : BootFacts} (h40 : x.ref40 = true) (h100 : x.ref100 = true) (hnor : x.norOk = true)
    (hhbm : x.hbmOk = true) (hlife : d0.tst.life ≠ 3) {i : Nat} {m : Mgr} (hmgr : (chooseSlot ((d0.sense x.readings).bootMgr x) x).mgr = m)
    (hslot : (chooseSlot ((d0.sense x.readings).bootMgr x) x).slot = some i) :
    ∃ logQ chkIrq, (goBoot t x d0).mgr = { m with
      slot := i, logQ := logQ, chkIrq := chkIrq, booted := true, step9 := d0.glb.up, missed := 0, lastFlush := d0.glb.up } ∧
      (∀ k, k < 1024 → (tlook (fun _ => ({} : Ctx)) (goBoot t x d0).rgm.ctx k).st = .idle) := by
  have hnotes := (d0.sense x.readings).bootSlot_notes t x i
  rw [goBoot_slot h t h40 h100 hnor hslot]
  have hlife' : ((d0.sense x.readings).bootSlot t x i).tst.life ≠ 3 := by rw [hnotes.tst]; exact hlife
  unfold Dev.bootRun
  rw [if_neg hlife', if_neg (by simp [hhbm])]
  obtain ⟨hm, hctx⟩ := ((d0.sense x.readings).bootSlot t x i).bootUp_mgr x
  refine ⟨((d0.sense x.readings).bootSlot t x i).mgr.logQ, ((d0.sense x.readings).bootSlot t x i).mgr.chkIrq, ?_, hctx⟩
  rw [hm, hnotes.up, hnotes.mgr, hmgr]; rfl

/-- Settles O33: the choice of a slot says which it is and what it writes, and the steps between the choice and step 9 leave the management
subsystem as it is but for the log and the check interrupt (`Dev.BootNotes`); a boot that cannot go on is recovery at the stage that fails. -/
theorem bootCompletes : Obligations.BootCompletes := by
  unfold Obligations.BootCompletes
  refine ⟨?_, ?_⟩
  · intro s x r hdown hrec hheld hrails hcool hlife hr
    have hmay : s.dev.MayBoot := ⟨hdown, hheld, hrails, hcool⟩
    have hgo : Completes (.boot x) s (goBoot s.now x s.dev) := completes_act (goBoot · x) rfl rfl
    refine ⟨fun h40 h100 hnor hhbm hpass => ⟨fun hgood => ?_, fun htrial htries h0 h1 _ => ?_⟩, fun hmissing => ?_, fun h40 h100 hnor => ?_, ?_, ?_⟩
    · have hchoice := chooseSlot_good (m := (s.dev.sense x.readings).bootMgr x) hr hgood hpass
      obtain ⟨_, _, hm, hctx⟩ := goBoot_step9 hmay s.now h40 h100 hnor hhbm hlife rfl (congrArg Choice.slot hchoice)
      rw [hchoice] at hm
      refine ⟨_, hgo, ?_⟩
      rw [hm]
      exact ⟨rfl, hrec, rfl, rfl, rfl, rfl, rfl, hctx⟩
    · have hchoice := chooseSlot_trial (m := (s.dev.sense x.readings).bootMgr x) hr htrial (by omega) hpass
      have hmgr : (chooseSlot ((s.dev.sense x.readings).bootMgr x) x).mgr =
          writeRec ((s.dev.sense x.readings).bootMgr x) (useRec s.dev.mgr true true).2 (r.setSlot r.pref .trial (r.tries r.pref - 1)) := by
        have hused : useRec s.dev.mgr true true = useRec s.dev.mgr x.copy0 x.copy1 := by rw [h0, h1]
        rw [hused, hchoice, hr]; rfl
      obtain ⟨_, _, hm, -⟩ := goBoot_step9 hmay s.now h40 h100 hnor hhbm hlife hmgr (congrArg Choice.slot hchoice)
      refine ⟨_, hgo, ?_⟩
      rw [hm]
      refine ⟨rfl, rfl, ?_⟩
      have hwritten := bootRec_writeRec ((s.dev.sense x.readings).bootMgr x) (r.setSlot r.pref .trial (r.tries r.pref - 1))
        (by rw [BootRec.setSlot_seq, hr, h0, h1]; rfl)
      rw [BootRec.setSlot_seq] at hwritten
      exact (Mgr.bootRec_congr rfl rfl).trans hwritten
    · refine ⟨_, hgo, ?_⟩
      have hif : (!x.ref40 || !x.ref100) = true := by rcases hmissing with h | h <;> simp [h]
      rw [goBoot_go hmay]; dsimp only; rw [if_pos hif]
      have hfns : (((s.dev.sense x.readings).bootBegun x).logBoot s.now |>.recover 2).fns = s.dev.fns.filter (fun e => e.1 == 0) :=
        congrArg (List.filter fun e : Nat × FnSlot => e.1 == 0) ((s.dev.sense x.readings).bootBegun_mgr x).2.1
      refine ⟨rfl, rfl, rfl, fun f hf => ?_, ?_⟩
      · rw [Dev.fn, hfns, tlook_filter _ (· == 0), if_neg (by simpa using hf), fnReset, if_neg hf]
      · rw [Dev.fn, hfns, tlook_filter _ (· == 0)]; rfl
    · refine ⟨_, hgo, ?_⟩
      rw [goBoot_go hmay]; dsimp only
      rw [h40, h100, hnor]
      exact ⟨rfl, rfl⟩
    · intro h40 h100 hnor hA hB
      refine ⟨_, hgo, ?_⟩
      rw [goBoot_go hmay]; dsimp only
      rw [chooseSlot_none (m := (s.dev.sense x.readings).bootMgr x) hA hB, h40, h100, hnor]
      exact ⟨rfl, rfl⟩
    · intro h40 h100 hnor hhbm hgood hpass
      have hchoice := chooseSlot_good (m := (s.dev.sense x.readings).bootMgr x) hr hgood hpass
      refine ⟨_, hgo, ?_⟩
      rw [goBoot_slot hmay s.now h40 h100 hnor (congrArg Choice.slot hchoice)]
      have hnotes := (s.dev.sense x.readings).bootSlot_notes s.now x r.pref
      have hlife' : ((s.dev.sense x.readings).bootSlot s.now x r.pref).tst.life ≠ 3 := by rw [hnotes.tst]; exact hlife
      unfold Dev.bootRun
      rw [if_neg hlife', if_pos (by simp [hhbm])]
      exact ⟨rfl, rfl, Dev.inc_bit _ s.now 15 4 0 (by decide)⟩
  · intro s x hstop
    refine ⟨_, completes_act (goBoot · x) rfl rfl, ?_⟩
    rw [goBoot_eq]; dsimp only
    refine if_pos ?_
    rcases hstop with h | h | h <;> simp [Dev.sense, h]

end Sys2Proof.Machine
end

section
/-! PROOFS. PERST_N low can reach the Planner's call sheets (O34). -/
namespace Sys2Proof.Machine

/-- A command completes in one way. -/
theorem Completes.unique {c : Instr} {s : State} {d e : Dev} (hd : Completes c s d) (he : Completes c s e) : d = e :=
  congrArg State.dev (Host.Outcome.next.inj (Eq.trans (Eq.symm hd) he))

/-- F0 owns the seal lock, and the run under way answers crew core 0, whose command buffer lies on word 0 of call sheet record 0. -/
def strangerSeal : State where
  now := 0
  pending := []
  dev := {
    sealEng := { held := true, owner := 0, job := some { pend := { caller := .crew 0, tag := 1, op := 0 }, msg := [], compare := false, expect := [], dmaOk := true } }
    rgm := { core := [(0, { cmdOffset := 0x0100000 })] } }

/-- The reset of F0 abandons the run, and its TIMEOUT response becomes word 0 of the call sheet record. -/
theorem strangerSeal_call : (goPerstN strangerSeal.now true strangerSeal.dev).pln.call ≠ strangerSeal.dev.pln.call := by decide +kernel

/-- Refutes O34: PERST_N low does not leave `pln` as it was in every state. A run of the seal engine that the reset of F0 abandons answers TIMEOUT to
its caller; in `strangerSeal`, which only a state with a caller other than the lock's owner allows, that caller is a crew core whose command buffer
lies in the call sheets, so that the response changes one. -/
theorem not_watchdogsAndLinkEventsComplete : ¬ Obligations.WatchdogsAndLinkEventsComplete := by
  unfold Obligations.WatchdogsAndLinkEventsComplete
  rintro ⟨-, hperst, -⟩
  obtain ⟨d, hd, -, -, -, hpln, -⟩ := hperst strangerSeal
  have hgo : Completes (.perstN true) strangerSeal (goPerstN strangerSeal.now true strangerSeal.dev) := completes_act (goPerstN · true) rfl rfl
  have heq : d = goPerstN strangerSeal.now true strangerSeal.dev := hd.unique hgo
  exact strangerSeal_call (heq ▸ congrArg Pln.call hpln)

end Sys2Proof.Machine
end

section
/-! PROOFS. The settings store, the incident log, and the commands that read them (O35). -/
namespace Sys2Proof.Machine

/-! What leaves the management subsystem but for the log's queue. -/

/-- Of the management subsystem only the queue of the log changes. -/
def OnlyLogs (d e : Dev) : Prop := e.mgr = { d.mgr with logQ := e.mgr.logQ }

theorem OnlyLogs.of_eq {d e : Dev} (h : e.mgr = d.mgr) : OnlyLogs d e := by rw [OnlyLogs, h]

theorem OnlyLogs.refl (d : Dev) : OnlyLogs d d := rfl

theorem OnlyLogs.trans {d e f : Dev} (h : OnlyLogs d e) (g : OnlyLogs e f) : OnlyLogs d f := by
  rw [OnlyLogs] at h g ⊢; rw [g, h]

theorem Dev.inc_onlyLogs (d : Dev) (t b k x : Nat) : OnlyLogs d (d.inc t b k x) := Dev.inc_mgr d t b k x

theorem Dev.noteDrop_onlyLogs (d : Dev) (t a k m : Nat) : OnlyLogs d (d.noteDrop t a k m) := by
  have hinc : ∀ e : Dev, e.mgr = d.mgr → ∀ b x n, OnlyLogs d ((e.inc t b x a).bump 41 n) := fun e he b x n =>
    ((OnlyLogs.of_eq he).trans (e.inc_onlyLogs t b x a)).trans (.of_eq (Dev.bump_mgr ..))
  unfold Dev.noteDrop
  split
  · exact hinc (d.memFault a 4 m) rfl 15 3 26
  · exact hinc (d.memFault a 3 m) rfl 15 2 25

theorem Dev.backlotWords_onlyLogs (d : Dev) (t m a : Nat) (l : List Word) : OnlyLogs d (d.backlotWords t m a l) := by
  induction l generalizing d a with
  | nil => exact .refl d
  | cons w l ih =>
    unfold Dev.backlotWords
    refine OnlyLogs.trans ?_ (ih _ _)
    split
    · exact .of_eq (Dev.backlotPut_mgr ..)
    · exact Dev.noteDrop_onlyLogs ..

/-- A response touches the management subsystem only where a store to the backlot is dropped. -/
theorem Dev.respond_onlyLogs (d : Dev) (t : Nat) (p : Pend) (st : Status) (body : List Word) : OnlyLogs d (d.respond t p st body) := by
  unfold Dev.respond; dsimp only
  split
  · split
    · exact .of_eq (Dev.modFn_mgr ..)
    · exact .refl d
  · split
    · exact Dev.backlotWords_onlyLogs ..
    · exact Dev.backlotWords_onlyLogs ..
  · exact .refl d

/-! Image commands that were held back leave the stores alone. -/

/-- What the stores hold of settings that changed. -/
def Dev.unsaved (d : Dev) : List Nat × Bool := (d.mgr.dirty, d.mgr.flushDeferred)

theorem OnlyLogs.unsaved {d e : Dev} (h : OnlyLogs d e) : e.unsaved = d.unsaved := by unfold Dev.unsaved; rw [h]

theorem startImage_unsaved (t : Nat) (j : NorJob) (held : Bool) (d : Dev) : (startImage t j held d).unsaved = d.unsaved := by
  unfold startImage; dsimp only
  split
  · exact (Dev.respond_onlyLogs ..).unsaved
  · split
    · rfl
    · exact (Dev.respond_onlyLogs ..).unsaved

theorem startHeld_unsaved (t : Nat) (l : List NorJob) (d : Dev) : (startHeld t l d).unsaved = d.unsaved := by
  induction l generalizing d with
  | nil => rfl
  | cons j l ih =>
    unfold startHeld
    split
    · rfl
    · exact (ih _).trans (startImage_unsaved t j true _)

theorem goPfailN_back {d : Dev} (t : Nat) (h : d.mgr.flushDeferred = true) : (goPfailN t false d).unsaved = ([], false) := by
  have hflush : ∀ e : Dev, (nextImage t e.flush).unsaved = ([], false) := fun e => by
    have hfd : e.flush.mgr.flushDeferred = false := by unfold Dev.flush; dsimp only; split <;> simp
    rw [nextImage, startHeld_unsaved, Dev.unsaved, Dev.flush_dirty, hfd]
  simp only [goPfailN, h, Bool.not_false, Bool.and_self, if_true, Bool.false_eq_true, if_false]
  exact hflush _

theorem goPfailN_clean {d : Dev} (t : Nat) (h : d.mgr.flushDeferred = false) (hh : d.mgr.heldCmds = []) :
    ∃ counts, goPfailN t false d = { d with mgr := { d.mgr with pfail := false }, counts := counts } := by
  simp only [goPfailN, h, Bool.not_false, Bool.and_false, Bool.true_and, Bool.false_eq_true, if_false]
  split
  · exact ⟨_, by rw [nextImage, Dev.bump_mgr, hh]; rfl⟩
  · exact ⟨d.counts, by rw [nextImage, hh]; rfl⟩

theorem goPfailN_pfail (t : Nat) (d : Dev) : (goPfailN t false d).mgr.pfail = false := by
  have hlogs : ∀ e f : Dev, OnlyLogs e f → e.mgr.pfail = false → f.mgr.pfail = false := fun e f h he => by rw [h]; exact he
  have hstart : ∀ (j : NorJob) (held : Bool) (e : Dev), e.mgr.pfail = false → (startImage t j held e).mgr.pfail = false := fun j held e he => by
    unfold startImage; dsimp only
    split
    · exact hlogs _ _ (Dev.respond_onlyLogs ..) he
    · split
      · exact he
      · exact hlogs _ _ (Dev.respond_onlyLogs ..) he
  have hheld : ∀ (l : List NorJob) (e : Dev), e.mgr.pfail = false → (startHeld t l e).mgr.pfail = false := fun l => by
    induction l with
    | nil => exact fun e he => he
    | cons j l ih =>
      intro e he
      unfold startHeld
      split
      · exact he
      · exact ih _ (hstart j true _ he)
  have hflush : ∀ e : Dev, e.mgr.pfail = false → e.flush.mgr.pfail = false := fun e he => by
    unfold Dev.flush; dsimp only
    split
    · exact he
    · rw [Dev.bump_mgr, Dev.drew_mgr]; exact he
  unfold goPfailN; dsimp only
  refine hheld _ _ ?_
  split
  · exact hflush _ (by split <;> rfl)
  · split <;> rfl

/-! The flush and the log. -/

/-- A flush sets its time and defers nothing further (R414). -/
theorem Dev.flush_done (d : Dev) : d.flush.mgr.lastFlush = d.glb.up ∧ d.flush.mgr.flushDeferred = false := by
  unfold Dev.flush; dsimp only
  split
  · exact ⟨rfl, rfl⟩
  · rw [Dev.bump_mgr, Dev.drew_mgr]; exact ⟨rfl, rfl⟩

theorem goSettingsFlush_runs {d : Dev} (hp : d.mgr.pfail = false) (hq : d.mgrQuiet = false) : goSettingsFlush d = d.flush := by
  simp [goSettingsFlush, hp, hq]

/-- An entry that is written takes the next sequence number and leaves the other lines (R418). -/
theorem Dev.logWrite_log (d : Dev) (e : LogEnt) :
    tlook logReset (d.logWrite e).mgr.log (d.mgr.nextSeq % 49152) = { e with seq := d.mgr.nextSeq } ∧
    (∀ k, k ≠ d.mgr.nextSeq % 49152 → tlook logReset (d.logWrite e).mgr.log k = tlook logReset d.mgr.log k) := by
  simp only [Dev.logWrite, Dev.bump_mgr, tlook_tput]
  exact ⟨if_pos trivial, fun k hk => if_neg hk⟩

/-- The device once the oldest waiting bit has left the queue. -/
def Dev.dequeued (d : Dev) (rest : List LogEnt) : Dev := { d with mgr := { d.mgr with logQ := rest } }

theorem goLogEntry_runs {t : Nat} {d : Dev} {e : LogEnt} {rest : List LogEnt} (hq : d.mgr.logQ = e :: rest) (hp : d.mgr.pfail = false)
    (hquiet : d.mgrQuiet = false) (hsec : d.mgr.sec = t / 1000000000) : goLogEntry t d =
      if d.mgr.secCount < 1024 then
        ((({ d.dequeued rest with mgr := { (d.dequeued rest).mgr with secCount := d.mgr.secCount + 1 } } : Dev).logWrite e).bump 43 0).bump 43 7
      else { d.dequeued rest with mgr := { (d.dequeued rest).mgr with merged := tmod (fun _ => 0) d.mgr.merged e.block (· + 1) } } := by
  have hrun : ¬ ((d.mgr.pfail || d.mgrQuiet) = true) := by simp [hp, hquiet]
  unfold goLogEntry; rw [hq]; dsimp only
  rw [if_neg hrun, if_pos hsec, hq, List.drop_succ_cons, List.drop_length, List.append_nil]
  rfl

/-- A MERGED entry for `n` bits of block `b` (R420). -/
def Dev.mergedEntry (d : Dev) (t b n : Nat) : LogEnt :=
  { time := boundaryOf t, boot := d.mgr.bootCount, block := b, kind := 1, detail := n, value := d.reg (incAddr b), used := true }

/-- The device with the one merged count written. -/
def Dev.mergedWritten (d : Dev) (t b n : Nat) : Dev := ((d.logWrite (d.mergedEntry t b n)).bump 43 1).bump 43 7

theorem goLogOverflow_one {t : Nat} {d : Dev} {b n : Nat} (hm : d.mgr.merged = [(b, n)]) (hp : d.mgr.pfail = false) (hquiet : d.mgrQuiet = false) :
    goLogOverflow t d = ({ d.mergedWritten t b n with
      mgr := { (d.mergedWritten t b n).mgr with merged := [], sec := t / 1000000000, secCount := 0 } } : Dev).inc t 17 5 := by
  have hrun : ¬ ((d.mgr.pfail || d.mgrQuiet) = true) := by simp [hp, hquiet]
  unfold goLogOverflow
  rw [if_neg hrun, hm]
  exact if_neg (by simp)

/-! Records that fail their check. -/

/-- CHK0 shows a mismatch, and its incident bit is set. -/
def Dev.chk0Failed (d : Dev) : Prop := (d.chkUnit 0).mismatch = true ∧ (d.reg 0xC00040).getLsbD 0 = true

theorem Dev.mismatchIrq_eq (d : Dev) (owner : Nat) : ∃ mgr rgm, d.mismatchIrq owner = { d with mgr := mgr, rgm := rgm } := by
  unfold Dev.mismatchIrq
  split
  · exact ⟨_, _, rfl⟩
  · split <;> exact ⟨_, _, rfl⟩

theorem Dev.chkMismatch_failed (d : Dev) (t : Nat) : (d.chkMismatch t 0).chk0Failed ∧ (d.chkMismatch t 0).fns = d.fns := by
  obtain ⟨mgr, rgm, h⟩ := Dev.mismatchIrq_eq
    ((((d.modChk 0 (fun c => { c with mismatch := true })).step 0x7030 0 0).inc t 13 0).bump 39 8) (d.chkUnit 0).owner
  rw [Dev.chkMismatch, h]
  refine ⟨⟨?_, ?_⟩, by simp⟩
  · simp [Dev.chkUnit, Dev.modChk]
  · exact Dev.inc_bit _ t 13 0 0 (by decide)

theorem Dev.badRecords_fns (d : Dev) (t k : Nat) : (d.badRecords t k).fns = d.fns := by
  induction k generalizing d with
  | zero => rfl
  | succ k ih => exact (ih _).trans (d.chkMismatch_failed t).2

theorem Dev.badRecords_failed (d : Dev) (t k : Nat) : (d.badRecords t (k + 1)).chk0Failed := by
  induction k generalizing d with
  | zero => exact (d.chkMismatch_failed t).1
  | succ k ih => exact ih _

/-- The sequence number at which MGR_LOG_READ starts for FIRST_SEQ `first`. -/
def logStart (m : Mgr) (first : Nat) : Nat :=
  if (m.nextSeq + 2 ^ 32 - logOldest m) % 2 ^ 32 < (m.nextSeq + 2 ^ 32 - first) % 2 ^ 32 && decide ((m.nextSeq + 2 ^ 32 - first) % 2 ^ 32 < 2 ^ 31)
  then logOldest m else first

/-- Settles O35, from what a flush, an entry and a failed check each change. -/
theorem storesAndLogComplete : Obligations.StoresAndLogComplete := by
  unfold Obligations.StoresAndLogComplete
  refine ⟨fun s hp hq => ?_, fun s hp => ?_, fun s => ⟨_, completes_act (goPfailN · true) rfl rfl, rfl⟩, fun s => ?_, fun s e rest hq hp hquiet hsec => ?_,
    fun s b n hm hp hquiet => ?_, fun s f req ha => ?_, fun s req count first old start es ha hv hcount hfirst h1 h63 hold hstart hes => ?_,
    fun s hp hq => completes_act (fun _ d => goSettingsFlush d) rfl (by simp [goSettingsFlush, hp, hq]), fun s h => ?_⟩
  · exact ⟨_, completes_act (fun _ d => goSettingsFlush d) rfl (goSettingsFlush_runs hp hq), Dev.flush_dirty _, (Dev.flush_done _).1, (Dev.flush_done _).2,
      Dev.flush_saved _, Dev.flush_nvBusy, Dev.flush_frame _⟩
  · exact ⟨_, completes_act (fun _ d => goSettingsFlush d) rfl (if_pos hp), rfl⟩
  · refine ⟨_, completes_act (goPfailN · false) rfl rfl, goPfailN_pfail _ _, fun h => ?_, fun h hh => ?_⟩
    · exact Prod.mk.inj (goPfailN_back s.now h)
    · obtain ⟨counts, hgo⟩ := goPfailN_clean s.now h hh
      rw [hgo]
  · have hgo := goLogEntry_runs (t := s.now) hq hp hquiet hsec
    refine ⟨fun hlt => ?_, fun hge => ?_⟩
    · rw [if_pos hlt] at hgo
      refine ⟨_, completes_act goLogEntry rfl hgo, (Dev.logWrite_log _ e).1, rfl, rfl, rfl, (Dev.logWrite_log _ e).2, ?_⟩
      apply Dev.eq_of_fields <;> simp [Dev.logWrite, Dev.dequeued]
    · rw [if_neg (by omega)] at hgo
      refine ⟨_, completes_act goLogEntry rfl hgo, rfl, rfl, rfl, ?_, rfl⟩
      exact (tlook_tmod (fun _ => 0) s.dev.mgr.merged e.block (· + 1) e.block).trans (if_pos rfl)
  · have hgo := goLogOverflow_one (t := s.now) hm hp hquiet
    refine ⟨_, completes_act goLogOverflow rfl hgo, ?_, ?_, ?_, Dev.inc_bit _ s.now 17 5 0 (by decide), ?_⟩
    · rw [Dev.inc_mgr]
    · rw [Dev.inc_mgr]
    · rw [Dev.inc_mgr]; rfl
    · rw [Dev.inc_mgr]; exact (s.dev.logWrite_log _).1
  · obtain ⟨d, hc, hans, hd⟩ := completes_now (c := .mgrSensorRead f req) (st := .ok) (e := s.dev.taken f req)
      (body := packReadings 8 8 3 (fun i => unsgn 8 (s.dev.temp i)) ++ packReadings 16 4 4 s.dev.milliVolt ++ packReadings 32 2 2 s.dev.milliAmp) rfl rfl ha (by simp [fixedSpec]) (by simp [fixedSpec])
      (by simp [fixedSpec]) rfl (by decide) rfl
    exact ⟨d, hc, hans, by rw [hd]; rfl⟩
  · have hfrom : es = logFrom (s.dev.taken 0 req).mgr.log (s.dev.taken 0 req).mgr.nextSeq (fld (wd req 1) 39 32)
        (logStart (s.dev.taken 0 req).mgr (fld (wd req 1) 31 0)) := by
      subst hcount hfirst hold hstart hes
      simp only [logStart, Dev.taken_mgr, Bool.and_eq_true, decide_eq_true_eq]
    obtain ⟨d, hc, hans, hd⟩ := completes_now (c := .mgrLogRead 0 req) (st := .ok) (e := (s.dev.taken 0 req).badRecords s.now (es.filter (·.bad)).length)
      (body := packW [((s.dev.mgr.nextSeq + 2 ^ 32 - 1) % 2 ^ 32, 32, 0), (es.length, 8, 32)] :: es.flatMap logWords)
      rfl rfl ha (by simp [fixedSpec]) (by simp [fixedSpec]) (by simp [fixedSpec, hv])
      ((judged_none _ (by simp; omega)).trans (by rw [hfrom]; rfl)) (by decide) (Dev.badRecords_fns _ _ _)
    refine ⟨d, hc, hans, fun ⟨e, he, hbad⟩ => ?_, fun hall => ?_⟩
    · have hpos : (es.filter (·.bad)).length ≠ 0 := fun h0 =>
        List.filter_eq_nil_iff.mp (List.length_eq_zero_iff.mp h0) e he hbad
      obtain ⟨k, hk⟩ := Nat.exists_eq_succ_of_ne_zero hpos
      rw [hd, hk]
      exact Dev.badRecords_failed (s.dev.taken 0 req) s.now k
    · have hnone : es.filter (·.bad) = [] := List.filter_eq_nil_iff.mpr fun e he => by simp [hall e he]
      rw [hd, hnone]; rfl
  · refine completes_act goLogEntry rfl ?_
    unfold goLogEntry
    split
    · rfl
    · exact if_pos (by simpa using h)

end Sys2Proof.Machine
end

section
/-! PROOFS. The end of a NOR operation can leave an entry for the log (O36). -/
namespace Sys2Proof.Machine

/-- An image command is at work for crew core 0, whose command buffer lies on a word that no store reaches (R350, R361); another one waits. -/
def crewImage : State where
  now := 0
  pending := []
  dev := { mgr := { nor := some ⟨⟨.crew 0, 0, 0xA10⟩, []⟩, heldCmds := [⟨⟨.fn 0, 0, 0xA10⟩, []⟩] } }

/-- The TIMEOUT response of the command at work is dropped, and the drop is queued for the log. -/
theorem crewImage_logQ : (goNorOperationDone crewImage.now false {} crewImage.dev).mgr.logQ ≠ crewImage.dev.mgr.logQ := by decide +kernel

/-- Refutes O36: the silent NOR's TIMEOUT goes to whoever gave the command. In `crewImage` that is a crew core whose response is dropped as its own store
would be, which sets an incident bit and queues it for the log: more of the management subsystem changes than the statement's frame names. -/
theorem not_imageCommandsComplete : ¬ Obligations.ImageCommandsComplete := by
  unfold Obligations.ImageCommandsComplete
  rintro ⟨-, -, hheld, -⟩
  obtain ⟨hdone, -⟩ := hheld crewImage {} ⟨⟨.fn 0, 0, 0xA10⟩, []⟩ rfl rfl
  obtain ⟨d, hd, hmgr⟩ := hdone rfl rfl
  have hgo : Completes (.norOperationDone false {}) crewImage (goNorOperationDone crewImage.now false {} crewImage.dev) :=
    completes_act (goNorOperationDone · false {}) rfl rfl
  rw [hd.unique hgo] at hmgr
  exact crewImage_logQ (by rw [hmgr])

end Sys2Proof.Machine
end

section
/-! PROOFS. The Turnstile: counting, records, supply, strap, mirror and port (O37, O38). -/
namespace Sys2Proof.Machine

theorem Dev.modTs_present {d : Dev} (h : d.glb.tsPresent = true) (f : Ts → Ts) : d.modTs f = { d with ts := f d.ts } := if_pos h

theorem Dev.modTs_absent {d : Dev} (h : d.glb.tsPresent = false) (f : Ts → Ts) : d.modTs f = d := if_neg (by simp [h])

/-- Time that stays inside the open record's period closes none. -/
theorem tsAdvance_within {dark : Bool} {tt : Nat} {x : Ts} (h : tt < tsEnd x) : tsAdvance dark (tsFuel tt x) tt x = { x with time := Nat.max x.time tt } :=
  if_neg (Nat.not_le.mpr h)

/-! Airtime (R425). -/

/-- Shares that are rounded down do not exceed what is shared. -/
theorem sumN_shares_le (ns total : Nat) (ws : List Nat) : sumN (ws.map fun w => ns * w / total) ≤ ns * sumN ws / total := by
  induction ws with
  | nil => simp [sumN]
  | cons w ws ih =>
    rw [List.map_cons, sumN, sumN, Nat.mul_add]
    exact Nat.le_trans (Nat.add_le_add_left ih _) (Nat.div_add_div_le_add_div)

theorem tapShares_sum_le (equal : Bool) (ns : Nat) (us : List TapUser) : sumN ((tapShares equal ns us).map (·.2)) ≤ ns := by
  have hmap : (tapShares equal ns us).map (·.2) =
      (us.map (tapWeight equal)).map fun w => if sumN (us.map (tapWeight equal)) = 0 then 0 else ns * w / sumN (us.map (tapWeight equal)) := by
    simp only [tapShares, List.map_map, Function.comp_def]
  rw [hmap]
  by_cases h0 : sumN (us.map (tapWeight equal)) = 0
  · have hzero : ∀ l : List Nat, sumN (l.map fun _ => 0) = 0 := fun l => by induction l with
      | nil => rfl
      | cons _ l ih => rw [List.map_cons, sumN, ih]
    simp only [h0, if_true, hzero, Nat.zero_le]
  · simp only [h0, if_false]
    calc _ ≤ ns * sumN (us.map (tapWeight equal)) / sumN (us.map (tapWeight equal)) := sumN_shares_le _ _ _
      _ = ns := Nat.mul_div_cancel _ (Nat.pos_of_ne_zero h0)

/-- What the first user is given makes the shares whole. -/
theorem sumN_giveRest {ns : Nat} {l : List (Nat × Nat)} (hne : l ≠ []) (h : sumN (l.map (·.2)) ≤ ns) : sumN ((giveRest ns l).map (·.2)) = ns := by
  cases l with
  | nil => exact absurd rfl hne
  | cons a l =>
    simp only [giveRest, List.map_cons, sumN] at h ⊢
    omega

/-- An airtime of one user is that user's whole. -/
theorem giveRest_one {equal : Bool} {ten w st : Nat} (ns : Nat) (hw : 0 < w) (hst : 0 < st) :
    giveRest ns (tapShares equal ns [⟨ten, w, st⟩]) = [(ten, ns)] := by
  have hpos : 0 < tapWeight equal ⟨ten, w, st⟩ := by
    unfold tapWeight; split
    · exact Nat.one_pos
    · exact Nat.mul_pos hw hst
  simp [tapShares, giveRest, sumN, Nat.pos_iff_ne_zero.mp hpos, Nat.mul_div_cancel _ hpos]

/-! Entries (R424, R427). -/

/-- An entry inside the open record's period adds to one counter. -/
theorem goTapEntry_adds {d : Dev} {tt ten r : Nat} {e : TapEvent} {f : TapCount → TapCount} (stamp : Nat) (hr : d.running = true) (hp : d.glb.tsPresent = true)
    (hv : d.ts.vdd ≠ .lost) (ht : tt < tsEnd d.ts) (he : tapCounted e = true) (hadd : ∀ x, tapCount x e = tsCount x ten r f) :
    ∃ counts, goTapEntry tt stamp e false d = { d with ts := { d.ts with
        time := Nat.max d.ts.time tt, counts := counts, any := true, showFirst := if d.ts.any then d.ts.showFirst else stamp, showLast := stamp } } ∧
      ∀ k, tlook (fun _ => ({} : TapCount)) counts k =
        if k = 3 * ten + r then f (tlook (fun _ => ({} : TapCount)) d.ts.counts (3 * ten + r)) else tlook (fun _ => ({} : TapCount)) d.ts.counts k := by
  have hgo : ¬ ((!d.running || decide (d.ts.vdd = .lost) || !tapCounted e) = true) := by simp [hr, hv, he]
  refine ⟨_, ?_, fun k => tlook_tmod _ d.ts.counts (3 * ten + r) f k⟩
  rw [goTapEntry, if_neg hgo, Dev.modTs_present hp, tsAdvance_within ht, if_neg (by decide), hadd]
  rfl

/-- An entry that comes to a full FIFO is lost. -/
theorem goTapEntry_full {d : Dev} {tt : Nat} {e : TapEvent} (stamp : Nat) (hr : d.running = true) (hp : d.glb.tsPresent = true) (hv : d.ts.vdd ≠ .lost)
    (ht : tt < tsEnd d.ts) (he : tapCounted e = true) :
    goTapEntry tt stamp e true d = { d with ts := { d.ts with time := Nat.max d.ts.time tt, lost := (d.ts.lost + 1) % 2 ^ 32 } } := by
  have hgo : ¬ ((!d.running || decide (d.ts.vdd = .lost) || !tapCounted e) = true) := by simp [hr, hv, he]
  rw [goTapEntry, if_neg hgo, Dev.modTs_present hp, tsAdvance_within ht, if_pos rfl]

theorem goTapEntry_uncounted {d : Dev} {tt stamp : Nat} {e : TapEvent} {full : Bool} (h : d.ts.vdd = .lost ∨ tapCounted e = false) :
    goTapEntry tt stamp e full d = d := by
  refine if_pos ?_
  rcases h with h | h <;> simp [h]

/-! Records (R431, R432). -/

/-- The record that closes. -/
def tsRecord (x : Ts) (ok : Bool) : TsRec :=
  let r0 : TsRec := {
    seq := x.seq, chipDark := x.chipDark, sealOpen := x.sealSeen, configChanged := x.configChanged,
    powerGap := x.powerGap, site := x.site, start := x.start, fin := tsEnd x, showFirst := x.showFirst,
    showLast := x.showLast, period := x.period, configSeq := x.configSeq, lost := x.lost, prevMac := x.prevMac,
    counts := x.counts, mac := [], lineOk := ok }
  { r0 with mac := hmac256 tsKey (wordOctets (recBody r0)) }

/-- With the supply good a closed record is the newest of the store, which holds 144 at most. -/
theorem tsClose_ring {dark ok : Bool} {x : Ts} (h : x.vdd = .good) : (tsClose dark ok x).ring.getLast? = some (tsRecord x ok) ∧ (tsClose dark ok x).ring.length ≤ 144 := by
  have hring : (tsClose dark ok x).ring = (x.ring ++ [tsRecord x ok]).drop (x.ring.length + 1 - 144) := if_pos h
  rw [hring]
  refine ⟨?_, by rw [List.length_drop, List.length_append, List.length_singleton]; omega⟩
  rw [List.drop_append_of_le_length (by omega), List.getLast?_concat]

theorem tsClose_counts (dark ok : Bool) (x : Ts) (k : Nat) : tlook (fun _ => ({} : TapCount)) (tsClose dark ok x).counts k =
    { ns := (tlook (fun _ => ({} : TapCount)) x.counts k).ns % 1000 } :=
  tlook_tmap (fun _ => ({} : TapCount)) (fun _ c => { ns := c.ns % 1000 }) x.counts k rfl

/-- Settles O37, from what an entry that is counted adds and what closing a record leaves. -/
theorem meteringCompletes : Obligations.MeteringCompletes := by
  unfold Obligations.MeteringCompletes
  refine ⟨fun s tt stamp r ten n hr hp hv ht => ⟨?_, ?_, fun w st eq recv hw hst => ?_, ?_⟩, fun eq ns us hus => ?_, fun s tt stamp r ns eq full us => ?_,
    fun s tt stamp e full hv => ?_, fun s ok hp hv => ?_⟩
  · obtain ⟨counts, hgo, hk⟩ := goTapEntry_adds (e := .down r ten n) stamp hr hp hv ht rfl fun _ => rfl
    refine ⟨_, completes_act (fun _ d => goTapEntry tt stamp (.down r ten n) false d) rfl hgo, ?_, fun k hne => (hk k).trans (if_neg hne), rfl, rfl⟩
    exact congrArg TapCount.down ((hk _).trans (if_pos rfl))
  · obtain ⟨counts, hgo, hk⟩ := goTapEntry_adds (e := .up r ten n) stamp hr hp hv ht rfl fun _ => rfl
    exact ⟨_, completes_act (fun _ d => goTapEntry tt stamp (.up r ten n) false d) rfl hgo, congrArg TapCount.up ((hk _).trans (if_pos rfl))⟩
  · obtain ⟨counts, hgo, hk⟩ := goTapEntry_adds (e := .airtime r n eq recv true [⟨ten, w, st⟩]) (ten := ten) (r := r) (f := fun c => { c with ns := c.ns + n })
      stamp hr hp hv ht (by simp [tapCounted]) fun x => by rw [tapCount, giveRest_one n hw hst]; rfl
    exact ⟨_, completes_act (fun _ d => goTapEntry tt stamp (.airtime r n eq recv true [⟨ten, w, st⟩]) false d) rfl hgo,
      congrArg TapCount.ns ((hk _).trans (if_pos rfl)), fun k hne => (hk k).trans (if_neg hne)⟩
  · exact ⟨_, completes_act (fun _ d => goTapEntry tt stamp (.down r ten n) true d) rfl (goTapEntry_full stamp hr hp hv ht rfl), rfl⟩
  · refine sumN_giveRest ?_ (tapShares_sum_le eq ns us)
    simpa [tapShares] using hus
  · exact completes_act (fun _ d => goTapEntry tt stamp (.airtime r ns eq true false us) full d) rfl (goTapEntry_uncounted (.inr (by simp [tapCounted])))
  · exact completes_act (fun _ d => goTapEntry tt stamp e full d) rfl (goTapEntry_uncounted (.inl hv))
  · have hgo : goRecordClose ok s.dev = { s.dev with ts := tsClose s.dev.dark ok s.dev.ts } := by
      rw [goRecordClose, if_neg (by simp [hv]), Dev.modTs_present hp]
    obtain ⟨hlast, hlen⟩ := tsClose_ring (dark := s.dev.dark) (ok := ok) hv
    exact ⟨_, tsRecord s.dev.ts ok, completes_act (fun _ d => goRecordClose ok d) rfl hgo, hlast, rfl, rfl, rfl, rfl, rfl, rfl, rfl, rfl, rfl, rfl, rfl, rfl, hlen,
      tsClose_counts _ _ _, rfl⟩

/-! The mirror (R435, R442). -/

theorem mem_insertBy {α : Type} (key : α → Nat) (x : α) (l : List α) : x ∈ insertBy key x l := by
  induction l with
  | nil => exact List.mem_singleton_self x
  | cons y l ih =>
    unfold insertBy
    split
    · exact List.mem_cons_self
    · exact List.mem_cons_of_mem _ ih

theorem length_insertBy {α : Type} (key : α → Nat) (x : α) (l : List α) : (insertBy key x l).length = l.length + 1 := by
  induction l with
  | nil => rfl
  | cons y l ih =>
    unfold insertBy
    split
    · rfl
    · rw [List.length_cons, ih, List.length_cons]

/-- A mirror with room holds the record that comes. -/
theorem mem_mirrorPut {m : TsMirror} {r : TsRec} (h : m.recs.length < 32) : r ∈ (mirrorPut m r).recs := by
  have hlen := length_insertBy (·.seq) r (m.recs.filter (fun q => q.seq != r.seq))
  have hfilter := List.length_filter_le (fun q => q.seq != r.seq) m.recs
  have hroom : (insertBy (·.seq) r (m.recs.filter (fun q => q.seq != r.seq))).length - 32 = 0 := by omega
  simp only [mirrorPut, hroom, List.drop_zero]
  exact mem_insertBy _ _ _

/-- The incident bits that a record sets. -/
def Dev.noteMirror (d : Dev) (t : Nat) (l : List (Nat × Bool)) : Dev := l.foldl (fun e b => if b.2 then e.inc t 18 b.1 else e) d

theorem Dev.noteMirror_ts (d : Dev) (t : Nat) (l : List (Nat × Bool)) : (d.noteMirror t l).ts = d.ts :=
  foldl_keeps (obs := Dev.ts) (fun e b => by split <;> simp) l d

theorem Dev.noteMirror_keeps {d : Dev} {a i : Nat} (t : Nat) (l : List (Nat × Bool)) (h : (d.reg a).getLsbD i = true) : ((d.noteMirror t l).reg a).getLsbD i = true := by
  induction l generalizing d with
  | nil => exact h
  | cons b l ih =>
    refine ih (d := if b.2 then d.inc t 18 b.1 else d) ?_
    split
    · exact Dev.inc_keeps _ _ _ _ _ h
    · exact h

theorem Dev.noteMirror_bit (d : Dev) (t : Nat) {l : List (Nat × Bool)} {b : Nat} (hb : b < 32) (h : (b, true) ∈ l) : ((d.noteMirror t l).reg 0x1100040).getLsbD b = true := by
  induction l generalizing d with
  | nil => cases h
  | cons c l ih =>
    rcases List.mem_cons.mp h with rfl | h
    · exact Dev.noteMirror_keeps t l (Dev.inc_bit d t 18 b 0 hb)
    · exact ih _ h

theorem goRecordMirror_eq {d : Dev} {t seq : Nat} {r : TsRec} (hp : d.glb.tsPresent = true) (hv : d.ts.vdd ≠ .lost) (hr : d.ts.ring.find? (fun q => q.seq == seq) = some r) :
    goRecordMirror t seq d = ({ d with ts := { d.ts with mirror := mirrorPut d.ts.mirror r } } : Dev).noteMirror t (mirrorBits r) := by
  have hgo : ¬ ((decide (d.ts.vdd = .lost) || !d.glb.tsPresent) = true) := by simp [hp, hv]
  rw [goRecordMirror, if_neg hgo, hr]
  dsimp only
  rw [Dev.modTs_present hp]
  rfl

/-! The verification port (R440, R441). -/

/-- The Turnstile as a good frame at an awake port finds it. -/
def Ts.awake (x : Ts) (tt : Nat) : Ts := { x with time := Nat.max x.time tt, awaitQuiet := false, lastOctet := tt }

/-- A frame at an awake port, inside the open record's period. -/
theorem goPort_awake {d : Dev} {tt : Nat} (hp : d.glb.tsPresent = true) (hv : d.ts.vdd ≠ .lost) (ht : tt < tsEnd d.ts) (hq : d.ts.awaitQuiet = false)
    (n : Nat) (good : Bool) (type : Nat) (payload : List Byte) : goPort tt n good type payload d =
      { d with ts := if good then portJudge type payload (d.ts.awake tt)
        else { d.ts with time := Nat.max d.ts.time tt, awaitQuiet := true, lastOctet := tt, response := [] } } := by
  rw [goPort, if_neg hv, Dev.modTs_present hp, tsAdvance_within ht]
  simp only [portDeaf, hq, Bool.false_and, Bool.false_eq_true, if_false]
  cases good <;> rfl

theorem goPortCmd_awake {d : Dev} {tt : Nat} (hp : d.glb.tsPresent = true) (hv : d.ts.vdd ≠ .lost) (ht : tt < tsEnd d.ts) (hq : d.ts.awaitQuiet = false)
    (type : Nat) {payload : List Byte} (hl : payload.length ≤ 1024) : goPortCmd type tt payload d = { d with ts := portJudge type payload (d.ts.awake tt) } := by
  rw [goPortCmd, goPort_awake hp hv ht hq, decide_eq_true hl]; rfl

theorem portJudge_record {p : List Byte} {x : Ts} {r : TsRec} (hp : p.length = 4) (hr : x.ring.find? (fun q => q.seq == ofBe p) = some r) (hok : r.lineOk = true) :
    portJudge 0x02 p x = portAnswer 0x02 .ok (wordOctets (recWords r)) x := by
  unfold portJudge
  rw [if_neg (by decide), if_pos rfl, if_neg (by simp [hp]), hr]
  simp only [hok, if_true]

theorem portJudge_config {p : List Byte} {x : Ts} (hp : p.length = 5) (h1 : 1 ≤ ofBe (p.take 1)) (h60 : ofBe (p.take 1) ≤ 60) :
    portJudge 0x10 p x = if x.closed then portAnswer 0x10 .ok [] { x with staged := some (ofBe (p.take 1), ofBe (p.drop 1)) } else portAnswer 0x10 .sealed' [] x := by
  have hrange : ¬ ((decide (ofBe (p.take 1) = 0) || decide (60 < ofBe (p.take 1))) = true) := by simp; omega
  unfold portJudge
  rw [if_neg (by decide), if_neg (by decide), if_neg (by decide), if_pos rfl, if_neg (by simp [hp]), if_neg hrange]
  cases x.closed <;> rfl

/-! Supply, strap and link (R435 to R438, R442). -/

theorem goVddTsWarning_above {d : Dev} (hp : d.glb.tsPresent = true) (hv : d.ts.vdd = .warning) (hl : d.ts.ring.length + d.ts.unwritten.length ≤ 144) :
    goVddTsWarning false d = { d with ts := { d.ts with vdd := .good, ring := d.ts.ring ++ d.ts.unwritten, unwritten := [] } } := by
  have hroom : (d.ts.ring ++ d.ts.unwritten).length - 144 = 0 := by rw [List.length_append]; omega
  rw [goVddTsWarning, Dev.modTs_present hp, hv]
  dsimp only
  rw [hroom, List.drop_zero]

theorem goTsTimeReport_within {d : Dev} {t tt : Nat} (hp : d.glb.tsPresent = true) (hv : d.ts.vdd = .good) (ht : tt < tsEnd d.ts) (hc : d.ts.closed = false) :
    goTsTimeReport t tt d = { d with ts := { d.ts with time := Nat.max d.ts.time tt, mirror := { d.ts.mirror with
      present := true, running := true, sealClosed := false, staged := d.ts.staged.isSome, period := d.ts.period, configSeq := d.ts.configSeq, site := d.ts.site,
      time := Nat.max d.ts.time tt } } } := by
  have hgo : ¬ ((decide (d.ts.vdd = .lost) || !d.glb.tsPresent) = true) := by simp [hp, hv]
  rw [goTsTimeReport, if_neg hgo, Dev.modTs_present hp, tsAdvance_within ht]
  dsimp only
  rw [hc, hv]; rfl

/-- Settles O38, from what an event of the supply, the strap or the link leaves, and how an awake port judges a frame. -/
theorem turnstileSupplyAndPortComplete : Obligations.TurnstileSupplyAndPortComplete := by
  unfold Obligations.TurnstileSupplyAndPortComplete
  refine ⟨⟨fun s hp => ⟨fun hv => ?_, fun hv hl => ?_, ?_, fun r hv hr => ?_, fun b => ?_, fun seq r hv hr hroom => ?_, fun tt hv ht hc => ?_⟩, fun s hp => ?_⟩,
    fun s tt hp hv ht hq => ⟨?_, fun p r hlen hr hok => ?_, ?_, fun p hlen h1 h60 => ⟨fun hc => ?_, fun hc => ?_⟩, fun l hbad => ?_⟩, fun s f req ha hp hne => ?_,
    fun s f req r ha hv hp hr => ?_⟩
  · refine ⟨_, completes_act (fun _ d => goVddTsWarning true d) rfl rfl, ?_⟩
    rw [goVddTsWarning, Dev.modTs_present hp, hv]
  · exact ⟨_, completes_act (fun _ d => goVddTsWarning false d) rfl (goVddTsWarning_above hp hv hl), rfl⟩
  · exact ⟨_, completes_act (fun _ d => goVddTsLoss d) rfl (Dev.modTs_present hp _), rfl⟩
  · have hgo : goVddTsReturn s.dev = _ := Dev.modTs_present hp _
    rw [if_neg (by simp [hv]), hr] at hgo
    exact ⟨_, completes_act (fun _ d => goVddTsReturn d) rfl hgo, rfl, rfl, rfl, rfl, rfl, rfl, rfl, rfl, rfl⟩
  · exact ⟨_, completes_act (fun _ d => goTsSeal b d) rfl (Dev.modTs_present hp _), rfl⟩
  · refine ⟨_, completes_act (goRecordMirror · seq) rfl (goRecordMirror_eq hp hv hr), ?_⟩
    rw [Dev.noteMirror_ts]
    refine ⟨mem_mirrorPut hroom, rfl, rfl, fun h => ?_, fun h => ?_, fun h => ?_, fun h => ?_, fun h => ?_⟩ <;>
      exact Dev.noteMirror_bit _ s.now (by decide) (by simp [mirrorBits, h])
  · exact ⟨_, completes_act (goTsTimeReport · tt) rfl (goTsTimeReport_within hp hv ht hc), rfl⟩
  · refine ⟨completes_act (fun _ d => goVddTsLoss d) rfl (Dev.modTs_absent hp _), completes_act (fun _ d => goTsSeal true d) rfl (Dev.modTs_absent hp _),
      completes_act (fun _ d => goRecordClose true d) rfl ?_⟩
    rw [goRecordClose, Dev.modTs_absent hp, ite_self]
  · exact ⟨_, completes_act (fun _ d => goPortCmd 0x01 tt [] d) rfl (goPortCmd_awake hp hv ht hq 0x01 (by simp)), rfl, rfl⟩
  · have hgo := goPortCmd_awake hp hv ht hq 0x02 (payload := p) (by omega)
    rw [portJudge_record (x := s.dev.ts.awake tt) hlen hr hok] at hgo
    exact ⟨_, completes_act (fun _ d => goPortCmd 0x02 tt p d) rfl hgo, rfl, rfl, rfl⟩
  · exact ⟨_, completes_act (fun _ d => goPortCmd 0x03 tt [] d) rfl (goPortCmd_awake hp hv ht hq 0x03 (by simp)), rfl, rfl⟩
  · have hgo := goPortCmd_awake hp hv ht hq 0x10 (payload := p) (by omega)
    have hclosed : (s.dev.ts.awake tt).closed = true := hc
    rw [portJudge_config hlen h1 h60, if_pos hclosed] at hgo
    exact ⟨_, completes_act (fun _ d => goPortCmd 0x10 tt p d) rfl hgo, rfl, rfl, rfl, rfl, rfl⟩
  · have hgo := goPortCmd_awake hp hv ht hq 0x10 (payload := p) (by omega)
    have hopen : ¬ (s.dev.ts.awake tt).closed = true := by simp [Ts.awake, hc]
    rw [portJudge_config hlen h1 h60, if_neg hopen] at hgo
    exact ⟨_, completes_act (fun _ d => goPortCmd 0x10 tt p d) rfl hgo, rfl, rfl⟩
  · refine ⟨_, completes_act (fun _ d => goPortFrameDiscard tt l d) rfl (goPort_awake hp hv ht hq _ _ _ _), ?_⟩
    rw [hbad]; rfl
  · obtain ⟨d, hc, hans, hd⟩ := completes_now (c := .tsStatusRead f req) (st := .ok) (e := s.dev.taken f req)
      (body := [BitVec.ofNat 64 s.dev.ts.mirror.time, packW [(oldestSeq s.dev.ts.mirror, 32, 0), (newestSeq s.dev.ts.mirror, 32, 32)],
        packW [(s.dev.ts.mirror.site, 32, 0), (s.dev.tsStatus.toNat, 32, 32)]])
      rfl rfl ha (by simp [fixedSpec]) (by simp [fixedSpec]) (by simp [fixedSpec])
      ((judged_none _ (by simp [hp, hne])).trans rfl) (by decide) rfl
    exact ⟨d, hc, hans, by rw [hd]; rfl⟩
  · have hrow : (s.dev.taken f req).ts.mirror.recs.find? (fun r => r.seq == fld (wd req 1) 31 0) = some r := hr
    obtain ⟨d, hc, hans, hd⟩ := completes_now (c := .tsRecordRead f req) (st := if r.lineOk then .ok else .integrity) (e := s.dev.taken f req)
      (body := recWords r) rfl rfl ha (by simp [fixedSpec]) (by simp [fixedSpec]) (by simp [fixedSpec, hv])
      ((judged_none _ (by rw [hrow]; simp [hp])).trans (by rw [hrow])) (by split <;> decide) rfl
    exact ⟨d, hc, hans, by rw [hd]; rfl⟩

end Sys2Proof.Machine
end

section
/-! PROOFS. The dailies: snapshots, filters, peeks and the two commands (O39). -/
namespace Sys2Proof.Machine

/-! Filters (R448). -/

/-- Filter `k` as it was written comes into a table of filters. -/
def Dev.putFilter (d : Dev) (t : Table Reg) (k : Nat) : Table Reg :=
  (List.range 3).foldl (fun t i => tput (fun _ => (0 : Reg)) t (3 * k + i) (d.filterWritten k i)) t

theorem Dev.putFilter_lookup (d : Dev) (t : Table Reg) {k k' i : Nat} (hi : i < 3) :
    tlook (fun _ => (0 : Reg)) (d.putFilter t k') (3 * k + i) = if k = k' then d.filterWritten k i else tlook (fun _ => (0 : Reg)) t (3 * k + i) := by
  have hput : d.putFilter t k' = tput (fun _ => (0 : Reg)) (tput (fun _ => (0 : Reg)) (tput (fun _ => (0 : Reg)) t (3 * k' + 0) (d.filterWritten k' 0)) (3 * k' + 1) (d.filterWritten k' 1))
      (3 * k' + 2) (d.filterWritten k' 2) := rfl
  rw [hput, tlook_tput, tlook_tput, tlook_tput]
  by_cases hk : k = k'
  · subst hk
    have : i = 0 ∨ i = 1 ∨ i = 2 := by omega
    rcases this with rfl | rfl | rfl <;> simp
  · rw [if_neg (by omega), if_neg (by omega), if_neg (by omega), if_neg hk]

theorem Dev.putFilters_lookup (d : Dev) (ks : List Nat) (t : Table Reg) {k i : Nat} (hi : i < 3) :
    tlook (fun _ => (0 : Reg)) (ks.foldl d.putFilter t) (3 * k + i) = if k ∈ ks then d.filterWritten k i else tlook (fun _ => (0 : Reg)) t (3 * k + i) := by
  induction ks generalizing t with
  | nil => simp
  | cons k' ks ih =>
    rw [List.foldl_cons, ih, d.putFilter_lookup t hi]
    by_cases hk : k = k'
    · simp [hk]
    · simp [hk]

/-- Every filter is in force as it was written. -/
theorem Dev.applyFilters_filt (d : Dev) {k i : Nat} (hk : k < 16) (hi : i < 3) :
    tlook (fun _ => (0 : Reg)) d.applyFilters.dly.filt (3 * k + i) = d.filterWritten k i := by
  have hfilt : d.applyFilters.dly.filt = ((List.range 16).filter d.filterChanges).foldl d.putFilter d.dly.filt := rfl
  rw [hfilt, d.putFilters_lookup _ _ hi]
  split
  · rfl
  next hsame =>
    have hch : d.filterChanges k = false := by simpa [hk] using hsame
    have := List.any_eq_false.mp hch i (List.mem_range.mpr hi)
    simpa using this

theorem Dev.applyFilters_eq (d : Dev) : ∃ filt changed counts, d.applyFilters = { d with dly := { d.dly with filt := filt, changed := changed }, counts := counts } :=
  ⟨_, _, _, rfl⟩

/-! Snapshots (R449, R450). -/

/-- The snapshot of tick `n`, taken at `t`. -/
def Dev.snapNow (d : Dev) (t n : Nat) : Snap :=
  { held := true, tick := n, boot := d.mgr.bootCount, showTime := t, filterChanged := d.dly.changed, step := d.dly.stepped,
    gap := decide (d.dly.newest ≠ some ((n + 2 ^ 48 - 1) % 2 ^ 48)), counts := d.counts }

/-- The device `e` in which that snapshot is the newest, beginning from `d`. -/
structure Dev.Snapped (d e : Dev) (t n : Nat) (late : Bool) : Prop where
  dly : e.dly = { d.dly with ring := tput snapReset d.dly.ring (n % 16384) (d.snapNow t n), newest := some n, stepped := false, changed := 0 }
  reg : ∀ {a}, a ≠ 0x1200040 → e.reg a = d.reg a
  noted : late = true → (e.reg 0x1200040).getLsbD 0 = true
  quiet : late = false → e.regs = d.regs

theorem Dev.takeSnap_new {d : Dev} {t n : Nat} (late : Bool) (ht : 1024000 ≤ t) (hs : d.gaf.state = .show') (hh : d.mem.hbmFailed = false)
    (hn : n = (tickOf t + 2 ^ 48 - 1) % 2 ^ 48) (hnew : d.dly.newest ≠ some n) : d.Snapped (d.takeSnap t late) t n late := by
  have hgo : ¬ ((decide (t < 1024000) || decide (d.gaf.state ≠ .show')) = true) := by simp [hs]; omega
  have hup : ¬ (d.mem.hbmFailed = true) := by simp [hh]
  unfold Dev.takeSnap
  rw [if_neg hgo, if_neg hup, ← hn]
  dsimp only
  rw [if_neg hnew]
  generalize hd2 : (if decide (d.dly.newest ≠ some ((n + 2 ^ 48 - 1) % 2 ^ 48)) = true then _ else _) = d2
  have hkept : d2.dly = { d.dly with ring := tput snapReset d.dly.ring (n % 16384) (d.snapNow t n), newest := some n, stepped := false, changed := 0 } ∧ d2.regs = d.regs := by
    rw [← hd2]
    split <;> simp only [Dev.hbmOctets, Dev.bump_dly, Dev.bump_regs, Dev.snapNow, and_self]
  obtain ⟨hdly, hregs⟩ := hkept
  cases late with
  | false => exact ⟨hdly, fun _ => Dev.reg_congr hregs _, nofun, fun _ => hregs⟩
  | true =>
    refine ⟨?_, fun ha => ?_, fun _ => Dev.inc_bit d2 t 19 0 0 (by decide), nofun⟩
    · rw [if_pos rfl, Dev.bump_dly, Dev.inc_dly, hdly]
    · rw [if_pos rfl, Dev.reg_bump, Dev.inc_reg _ _ _ _ _ _ ha, Dev.reg_congr hregs]

theorem Dev.Snapped.filterWritten {d e : Dev} {t n : Nat} {late : Bool} (h : d.Snapped e t n late) (k i : Nat) : e.filterWritten k i = d.filterWritten k i :=
  h.reg (by omega)

/-! Rows of the two commands (R453). -/

theorem notOwn_false {f : Nat} {own : Nat → Bool} (h : f = 0 ∨ own f = true) : notOwn (.fn f) own = false := by
  rcases h with rfl | h
  · rfl
  · simp [notOwn, h]

/-- Settles O39, from what a snapshot and the filters leave, and what the rows of the two commands let pass. -/
theorem dailiesComplete : Obligations.DailiesComplete := by
  unfold Obligations.DailiesComplete
  refine ⟨fun s late n ht hs hh hn hnew => ?_, fun s m hm => ?_, fun s f req bank x ha hv hbank hown h1 h45 hx => ?_,
    fun s f req w kind ix e n ha hv1 hv2 hw hkind hix hown h1 h4096 hmax he hok hn => ?_⟩
  · have hsnap := Dev.takeSnap_new late ht hs hh hn hnew
    obtain ⟨filt, changed, counts, happly⟩ := (s.dev.takeSnap s.now late).applyFilters_eq
    refine ⟨_, completes_act (goSnapshot · late) rfl rfl, ?_, ?_, fun m hm => ?_, fun k i hk hi => ?_, fun hl => ?_, fun hl => ?_⟩
    · rw [goSnapshot, happly]; exact congrArg Dly.newest hsnap.dly
    · rw [goSnapshot, happly]
      simp only [Dev.snapAt, hsnap.dly, tlook_tput, if_true]; rfl
    · rw [goSnapshot, happly]
      simp only [Dev.snapAt, hsnap.dly, tlook_tput, if_neg hm]
    · rw [goSnapshot, Dev.applyFilters_filt _ hk hi, hsnap.filterWritten]
    · rw [goSnapshot, happly]; exact hsnap.noted hl
    · rw [goSnapshot, happly]; exact hsnap.quiet hl
  · refine ⟨_, completes_act (fun _ d => goPeekRead m d) rfl (if_neg (by simp [hm])), ?_, ?_, ?_⟩
    · simp [Dev.lastRead, Dev.reads]
    · simp [Dev.peekHiReg, Dev.reads]
    · apply Dev.eq_of_fields <;> simp
  · subst hbank
    have hrow : notOwn (.fn f) (fun f => fld (wd req 1) 53 48 == 2 + f) = false := notOwn_false (by simpa using hown)
    have hsnap : ((s.dev.taken f req).namedTick (fld (wd req 1) 47 0)).bind (s.dev.taken f req).snapOf = some x := hx
    obtain ⟨d, hc, hans, hd⟩ := completes_now (c := .dlySnapRead f req) (st := .ok) (e := (s.dev.taken f req).bump 44 5)
      (body := x.header ++ (List.range 32).map (fun i => BitVec.ofNat 64 (x.counter (fld (wd req 1) 53 48) i)))
      rfl rfl ha (by simp [fixedSpec]) (by simp [fixedSpec]) (by simp [fixedSpec, hv])
      ((judged_none _ (by simp [hrow]; omega)).trans (by rw [hsnap])) (by decide) rfl
    exact ⟨d, hc, hans, by rw [hd]; rfl⟩
  · subst hw hkind hix hn
    have hrow : notOwn (.fn f) (fun f' => fld (wd req 2) 7 6 == 2 && fld (wd req 2) 3 0 == f') = false := notOwn_false (by simpa using hown)
    have htick : (s.dev.taken f req).namedTick (fld (wd req 1) 47 0) = some e := he
    have hwin : (s.dev.taken f req).windowOk e (fld (wd req 2) 20 8) (fld (wd req 2) 7 6) (fld (wd req 2) 3 0) = true := hok
    obtain ⟨d, hc, hans, hd⟩ := completes_now (c := .dlyRate f req) (st := .ok) (e := (s.dev.taken f req).bump 44 4)
      (body := [BitVec.ofNat 64 e, BitVec.ofNat 64 (s.dev.windowOctets e (fld (wd req 2) 20 8) (fld (wd req 2) 7 6) (fld (wd req 2) 3 0) (nbit (wd req 2).toNat 4)),
        packW [(rateKbs (s.dev.windowOctets e (fld (wd req 2) 20 8) (fld (wd req 2) 7 6) (fld (wd req 2) 3 0) (nbit (wd req 2).toNat 4)) (fld (wd req 2) 20 8), 40, 0)]])
      rfl rfl ha (by simp [fixedSpec]) (by simp [fixedSpec]) (by simp [fixedSpec, hv1, hv2])
      ((judged_none _ (by simp [hrow]; omega)).trans (by rw [htick]; simp only [hwin, Bool.not_true, Bool.false_eq_true, if_false]; rfl)) (by decide) rfl
    exact ⟨d, hc, hans, by rw [hd]; rfl⟩

end Sys2Proof.Machine
end

section
/-! PROOFS. The Gaffer's budget, its safety actions and the performance levels (O24). -/
namespace Sys2Proof.Machine

/-! The fit and the shedding leave the budget alone (R104, R107, R380). -/

/-- What the Gaffer holds and publishes of the budget, and the reset that is asked for. -/
def Dev.outlook (d : Dev) : Nat × Option Nat × Gaf × Option ResetSource := (d.pln.budget, d.pln.heldRevision, d.gaf, d.mgr.waitReset)

theorem Dev.inc_outlook (d : Dev) (t b k x : Nat) : (d.inc t b k x).outlook = d.outlook := by
  simp only [Dev.outlook, Dev.inc_pln, Dev.inc_gaf]; rw [Dev.inc_mgr]

theorem repack_outlook (l : List CastEntry) (d : Dev) : (repack l d).2.outlook = d.outlook := by
  induction l generalizing d with
  | nil => rfl
  | cons e l ih =>
    unfold repack; dsimp only
    split <;> exact ih d.drew

theorem narrowPart_outlook (d : Dev) (sent : Bool) (tick : Nat) (x : RPart) : (narrowPart d sent tick x).2.outlook = d.outlook := by
  have hcast : ∀ primary bw l, (d.halvedCast sent primary bw l).2.outlook = d.outlook := fun primary bw l => by
    unfold Dev.halvedCast
    split
    · rfl
    · exact repack_outlook _ d
  unfold narrowPart; dsimp only
  split <;> exact hcast _ _ _

theorem fitStep_outlook (d : Dev) (sent : Bool) (tick : Nat) (l : List RPart) : (fitStep d sent tick l).2.outlook = d.outlook := by
  unfold fitStep
  split
  · rfl
  · split
    · exact narrowPart_outlook d sent tick _
    · split <;> rfl

theorem fitLoop_outlook (budget : Nat) (sent : Bool) (tick n : Nat) (l : List RPart) (d : Dev) : (fitLoop budget sent tick n l d).2.outlook = d.outlook := by
  induction n generalizing l d with
  | zero => rfl
  | succ n ih =>
    unfold fitLoop
    split
    · exact (ih _ _).trans (fitStep_outlook d sent tick l)
    · rfl

theorem Dev.fit_outlook (d : Dev) (tick : Nat) : (d.fit tick).outlook = d.outlook := by
  have hsheet : ∀ (e : Dev) r f, (e.modSheet r tick f).outlook = e.outlook := fun _ _ _ => rfl
  unfold Dev.fit; dsimp only
  rw [foldl_keeps (obs := Dev.outlook) (fun e r => hsheet e r _)]
  exact fitLoop_outlook _ _ _ _ _ _

theorem Dev.shedRecord_outlook (d : Dev) (t r tick k b : Nat) : (d.shedRecord t r tick k b).outlook = d.outlook := by
  have hcount : ∀ (l : List CastEntry) (e : Dev), (e.countMissed l).outlook = e.outlook := fun l e =>
    foldl_keeps (obs := Dev.outlook) (by intro _ _; rfl) l e
  rw [Dev.shedRecord, hcount]; rfl

theorem Dev.shedTake_outlook (d : Dev) (t r tick k : Nat) : (d.shedTake t r tick k).outlook = d.outlook := by
  unfold Dev.shedTake; dsimp only
  split
  · rfl
  · split
    · rfl
    · split
      next hcont =>
        simp only [Bool.and_eq_true, decide_eq_true_eq] at hcont
        obtain ⟨-, hphase⟩ := hcont
        rw [Dev.endTake, if_neg (by rw [hphase]; decide)]
        exact Dev.shedRecord_outlook _ t r tick k _
      · exact Dev.shedRecord_outlook _ t r tick k _

theorem Dev.shedTick_outlook (d : Dev) (t tick v : Nat) : (d.shedTick t tick v).outlook = d.outlook :=
  foldl_keeps (obs := Dev.outlook) (fun e x => by
    split
    · exact e.shedTake_outlook t x.1 tick x.2
    · rfl) _ d

/-! Revisions (R104, R378, R380). -/

/-- The Gaffer with its budget revised to `v`. -/
def Dev.revisedGaf (d : Dev) (v : Nat) : Gaf := { d.gaf with budget := { d.gaf.budget with value := v, tUsed := d.hottest } }

theorem Dev.revise_now {d : Dev} {t : Nat} (v : Nat) (h : d.lockAhead t = false) :
    (d.revise t v).outlook = (v, d.pln.heldRevision, d.revisedGaf v, d.mgr.waitReset) := by
  have hahead : ∀ e : Dev, e.lockAhead t = false → ¬ (e.lockAhead t = true) := fun e he => by simp [he]
  unfold Dev.revise; dsimp only
  split
  · exact Dev.fit_outlook _ _
  · rw [if_neg (hahead _ h)]
    exact Dev.inc_outlook _ _ _ _ _

/-- Between beat 864 and picture lock a revision waits for the lock. -/
theorem Dev.revise_ahead {d : Dev} {t : Nat} (v : Nat) (h : d.lockAhead t = true) :
    (d.revise t v).outlook = (d.pln.budget, some v, d.revisedGaf v, d.mgr.waitReset) := by
  have hlate : ¬ (beatOf t ≤ 864) := by
    simp only [Dev.lockAhead, Bool.and_eq_true, decide_eq_true_eq] at h; omega
  have hahead : ∀ e : Dev, e.lockAhead t = d.lockAhead t → e.lockAhead t = true := fun e he => he.trans h
  unfold Dev.revise; dsimp only
  rw [if_neg hlate, if_pos (hahead _ rfl)]
  exact Dev.inc_outlook _ _ _ _ _

theorem Dev.safetyShed_outlook (d : Dev) (t v : Nat) : ∃ waits, (d.safetyShed t v).outlook =
    (d.pln.budget, d.pln.heldRevision, { d.gaf with shedAtLock := waits }, d.mgr.waitReset) := by
  have hshed := d.shedTick_outlook t (tickOf t) v
  unfold Dev.safetyShed; dsimp only
  split
  · exact ⟨d.gaf.shedAtLock, hshed⟩
  · split
    · refine ⟨some v, ?_⟩
      simp only [Dev.outlook, Prod.mk.injEq] at hshed ⊢
      obtain ⟨hb, hh, hg, hw⟩ := hshed
      exact ⟨hb, hh, by rw [hg], hw⟩
    · exact ⟨d.gaf.shedAtLock, (Dev.shedTick_outlook _ t (tickOf t + 1) v).trans hshed⟩

/-- A safety action with budget `v`: it stands at once, or waits for picture lock. -/
theorem Dev.safety_gives (d : Dev) (t v : Nat) :
    (∃ waits, (d.safety t v).gaf = { d.revisedGaf v with shedAtLock := waits }) ∧ (d.safety t v).mgr.waitReset = d.mgr.waitReset ∧
    (d.lockAhead t = false → (d.safety t v).pln.budget = v) ∧
    (d.lockAhead t = true → (d.safety t v).pln.heldRevision = some v ∧ (d.safety t v).pln.budget = d.pln.budget) := by
  obtain ⟨waits, hshed⟩ := (d.revise t v).safetyShed_outlook t v
  simp only [Dev.outlook, Prod.mk.injEq] at hshed
  obtain ⟨hb, hh, hg, hw⟩ := hshed
  rw [Dev.safety, hg, hw, hb, hh]
  cases hahead : d.lockAhead t with
  | false =>
    have hrev := Dev.revise_now v hahead
    simp only [Dev.outlook, Prod.mk.injEq] at hrev
    obtain ⟨hb', -, hg', hw'⟩ := hrev
    exact ⟨⟨waits, by rw [hg']⟩, hw', fun _ => hb', nofun⟩
  | true =>
    have hrev := Dev.revise_ahead v hahead
    simp only [Dev.outlook, Prod.mk.injEq] at hrev
    obtain ⟨hb', hh', hg', hw'⟩ := hrev
    exact ⟨⟨waits, by rw [hg']⟩, hw', nofun, fun _ => ⟨hh', hb'⟩⟩

/-- The device with the budget for the next tick published (R377). -/
def Dev.published (d : Dev) (t : Nat) : Dev :=
  let res := d.reserve d.gaf.pMeas (d.costOf (tickOf t - 1))
  let b := d.budgetFor d.gaf.pMeas d.hottest (fun k => tlook (fun _ => 0) d.gaf.meanMa k) res
  let v := if d.gaf.zeroHold then 0 else b.1 % 2 ^ 32
  { d with
    pln := { d.pln with budget := v, heldRevision := none }
    gaf := { d.gaf with
      budget := { tick := tickOf t + 1, value := v, tUsed := d.hottest, pMeas := d.gaf.pMeas, reserve := res, term := b.2, made := true }
      zeroRun := if v = 0 && b.2 ≠ 0 && !d.gaf.zeroHold then d.gaf.zeroRun + 1 else 0 } }

theorem goBudgetPublish_outlook (t : Nat) (r : Option Readings) (d : Dev) :
    (goBudgetPublish t r d).outlook = ((r.elim d d.sense).published t).outlook := by
  unfold goBudgetPublish; dsimp only
  have hzero : ∀ (b : Prop) [Decidable b] (e : Dev), (if b then e.bump 42 5 else e).outlook = e.outlook := fun b _ e => by split <;> rfl
  rw [Dev.fit_outlook, hzero]
  cases r <;> rfl

theorem goBudgetRevision_revises {d : Dev} {t : Nat} {x : Readings} (hmade : d.gaf.budget.made = true) (htick : d.gaf.budget.tick = tickOf t + 1) (h256 : 256 ≤ beatOf t)
    (h864 : beatOf t ≤ 864) (hmoved : d.pv 0x9008 ≤ ((d.sense x).hottest - d.gaf.budget.tUsed).natAbs) (hz : d.gaf.zeroHold = false) :
    goBudgetRevision t x d = (d.sense x).revise t
      (((d.sense x).budgetFor d.gaf.budget.pMeas (d.sense x).hottest (fun k => tlook (fun _ => 0) d.gaf.meanMa k) d.gaf.budget.reserve).1 % 2 ^ 32) := by
  have hpv : (d.sense x).pv 0x9008 = d.pv 0x9008 := rfl
  have hgaf : (d.sense x).gaf = d.gaf := rfl
  have hgo : (d.gaf.budget.made && d.gaf.budget.tick == tickOf t + 1 && decide (256 ≤ beatOf t) && decide (beatOf t ≤ 864) &&
      decide (d.pv 0x9008 ≤ ((d.sense x).hottest - d.gaf.budget.tUsed).natAbs)) = true := by
    simp [hmade, htick, h256, h864, hmoved]
  unfold goBudgetRevision; dsimp only
  rw [hpv, hgaf, hgo, hz]; rfl

/-! Trips, limits and the critical temperature (R379, R381). -/

/-- The device in which a trip has begun its hold. -/
def Dev.tripped (d : Dev) (sensor : Nat) (temp : Int) : Dev :=
  let e := d.sense { temps := [(sensor, temp)] }
  { e with gaf := { e.gaf with zeroHold := true, coolTicks := 0, tripDrop := decide (e.gaf.level < 5) || e.gaf.level == 7, zeroRun := 0, raiseTicks := 0 } }

theorem goThermalTrip_trips {d : Dev} {temp : Int} (t sensor : Nat) (h : (d.pv 0x9005 : Int) ≤ temp) :
    goThermalTrip t sensor temp d = (((d.tripped sensor temp).safety t 0).bump 42 7).inc t 16 12 := by
  have hpv : ¬ (temp < ((d.sense { temps := [(sensor, temp)] }).pv 0x9005 : Int)) := Int.not_lt.mpr h
  unfold goThermalTrip; dsimp only
  rw [if_neg hpv]; rfl

theorem goThermalTrip_waitReset (t sensor : Nat) (temp : Int) (d : Dev) : (goThermalTrip t sensor temp d).mgr.waitReset = d.mgr.waitReset := by
  by_cases h : (d.pv 0x9005 : Int) ≤ temp
  · obtain ⟨-, hwait, -⟩ := (d.tripped sensor temp).safety_gives t 0
    rw [goThermalTrip_trips t sensor h, Dev.inc_mgr, Dev.bump_mgr]
    exact hwait
  · have hpv : temp < ((d.sense { temps := [(sensor, temp)] }).pv 0x9005 : Int) := Int.not_le.mp h
    unfold goThermalTrip; dsimp only
    rw [if_pos hpv]; rfl

/-- The device in which input `k` stands at its limit. -/
def Dev.limited (d : Dev) (k ma : Nat) : Dev :=
  let e := d.sense { milliamps := [(k, ma)] }
  { e with gaf := { e.gaf with overs := k :: e.gaf.overs.filter (· != k) } }

theorem goSupplyCurrentLimit_limits {d : Dev} {k ma : Nat} (t : Nat) (hk : d.pv 0x9002 0 k ≠ 0) (hma : d.pv 0x9002 0 k ≤ ma) :
    goSupplyCurrentLimit t k ma d = (((d.limited k ma).safety t ((d.limited k ma).budgetNow t)).bump 42 8).inc t 16 13 := by
  have hpv : (d.sense { milliamps := [(k, ma)] }).pv 0x9002 0 k = d.pv 0x9002 0 k := rfl
  have hlim : ¬ ((decide (d.pv 0x9002 0 k = 0) || decide (ma < d.pv 0x9002 0 k)) = true) := by simp [hk]; omega
  unfold goSupplyCurrentLimit; dsimp only
  rw [hpv, if_neg hlim]; rfl

theorem goCriticalTemperature_waitReset (t sensor : Nat) (d : Dev) :
    (goCriticalTemperature t sensor d).mgr.waitReset = some (waitWith d.mgr.waitReset .critical) := by
  have hmgr : ∀ e : Dev, e.mgr.waitReset = d.mgr.waitReset → e.femLow.mgr.waitReset = d.mgr.waitReset := fun e he => by
    obtain ⟨fe, hfe, -⟩ := e.femLow_eq
    rw [hfe]; exact he
  unfold goCriticalTemperature; dsimp only
  rw [Dev.inc_mgr]; dsimp only
  rw [hmgr]
  split
  · rfl
  · exact goThermalTrip_waitReset ..

/-! The performance levels (R373 to R375). -/

theorem Dev.stepRaise_switches {d : Dev} {t : Nat} {m : LevelMove} (given : Option Nat) (hp : m.pll = false) (ht : m.tick ≤ tickOf t) (hb : beatOf t = 0) :
    d.stepRaise t m given = ({ d with gaf := { d.gaf with raise := none, level := m.target } } : Dev).bump 42 0 := by
  simp [Dev.stepRaise, hp, ht, hb]

theorem Dev.stepRaise_gives_up {d : Dev} {t mv : Nat} {m : LevelMove} (hb : beatOf t = 1000) (hmv : mv < 600 + 5 * d.gaf.vid - 10) :
    d.stepRaise t m (some mv) = (({ d with gaf := { d.gaf with raise := none, vid := m.oldVid, raiseTicks := 0 } } : Dev).bump 42 2).inc t 16 11 := by
  simp [Dev.stepRaise, hb, Dev.coreMv, hmv]

theorem Dev.lowerTo_gaf (d : Dev) (level : Nat) :
    (d.lowerTo level).gaf = { d.gaf with level := level, lowerVid := some (levelVid level), raise := none, raiseTicks := 0 } := rfl

theorem goLevelRaise_step {d : Dev} {t : Nat} {mv : Option Nat} {m : LevelMove} (hr : d.gaf.raise = some m) (hp : m.pll = false) :
    goLevelRaise t mv d = d.stepRaise t m mv := by
  rw [goLevelRaise, hr]; dsimp only
  rw [if_neg (by simp [hp])]

/-- Settles O24, from what a revision, a safety action and each step of a level's move leave. -/
theorem budgetSafetyAndLevelsComplete : Obligations.BudgetSafetyAndLevelsComplete := by
  unfold Obligations.BudgetSafetyAndLevelsComplete
  refine ⟨⟨fun s x e b v he hb hv => ?_, fun s x e he hmade htick h256 h864 hmoved hz => ?_, fun s sensor temp ht => ?_, fun s k ma hk hma => ?_, fun s hcap => ?_,
    fun s hz hc => ?_, fun s sensor => ?_⟩,
    fun s mv hr hb h5 hmax hrt hz htd => ?_, fun s mv m hr hp ht hb => ?_, fun s mv m hr hp hb hmv => ?_, fun s hb htd => ?_, fun s hb htd h5 hzr => ?_,
    fun s v hb hv => ?_, fun s mv lv hr hpt hl hb hvid => ?_⟩
  · have hout := goBudgetPublish_outlook s.now x s.dev
    have hsense : x.elim s.dev s.dev.sense = e := by rw [he]; cases x <;> rfl
    have hzero : e.gaf.zeroHold = s.dev.gaf.zeroHold := by rw [he]; cases x <;> rfl
    rw [hsense] at hout
    simp only [Dev.outlook, Prod.mk.injEq] at hout
    obtain ⟨hbudget, hheld, hgaf, -⟩ := hout
    subst hb
    rw [← hzero] at hv
    subst hv
    exact ⟨_, completes_act (goBudgetPublish · x) rfl rfl, hbudget, hheld, congrArg Gaf.budget hgaf⟩
  · subst he
    have hnot : ¬ (864 < beatOf s.now) := by omega
    have hrev := Dev.revise_now (d := s.dev.sense x) (t := s.now)
      (((s.dev.sense x).budgetFor s.dev.gaf.budget.pMeas (s.dev.sense x).hottest (fun k => tlook (fun _ => 0) s.dev.gaf.meanMa k) s.dev.gaf.budget.reserve).1 % 2 ^ 32)
      (by simp [Dev.lockAhead, hnot])
    simp only [Dev.outlook, Prod.mk.injEq] at hrev
    obtain ⟨hbudget, -, hgaf, -⟩ := hrev
    refine ⟨_, completes_act (goBudgetRevision · x) rfl (goBudgetRevision_revises hmade htick h256 h864 hmoved hz), ?_, hbudget⟩
    rw [hgaf]; rfl
  · obtain ⟨⟨waits, hgaf⟩, -, hnow, hahead⟩ := (s.dev.tripped sensor temp).safety_gives s.now 0
    refine ⟨_, completes_act (goThermalTrip · sensor temp) rfl (goThermalTrip_trips s.now sensor ht), ?_, Dev.inc_bit _ s.now 16 12 0 (by decide), fun h => ?_, fun h => ?_⟩
    · rw [Dev.inc_gaf, Dev.bump_gaf, hgaf]; rfl
    · rw [Dev.inc_pln, Dev.bump_pln]; exact hnow h
    · rw [Dev.inc_pln, Dev.bump_pln]; exact hahead h
  · obtain ⟨⟨waits, hgaf⟩, -, hnow, -⟩ := (s.dev.limited k ma).safety_gives s.now ((s.dev.limited k ma).budgetNow s.now)
    refine ⟨_, completes_act (goSupplyCurrentLimit · k ma) rfl (goSupplyCurrentLimit_limits s.now hk hma), ?_, Dev.inc_bit _ s.now 16 13 0 (by decide), fun h => ?_⟩
    · rw [Dev.inc_gaf, Dev.bump_gaf, hgaf]; exact List.mem_cons_self
    · rw [Dev.inc_pln, Dev.bump_pln]; exact hnow h
  · obtain ⟨-, -, hnow, -⟩ := s.dev.safety_gives s.now (s.dev.budgetNow s.now)
    refine ⟨_, completes_act goHostPowerCapBreach rfl (if_neg (by omega)), Dev.inc_bit _ s.now 16 14 0 (by decide), fun h => ?_⟩
    rw [Dev.inc_pln, Dev.bump_pln]; exact hnow h
  · exact ⟨_, completes_act (fun _ d => goThermalHoldEnd d) rfl (if_pos (by simp [hz, hc])), rfl⟩
  · refine ⟨_, completes_act (goCriticalTemperature · sensor) rfl rfl, ?_, ?_, goCriticalTemperature_waitReset _ _ _, Dev.inc_bit _ s.now 16 16 0 (by decide)⟩
    · simp [goCriticalTemperature]
    · simp [goCriticalTemperature, Dev.running]
  · refine ⟨_, completes_act (goLevelRaise · mv) rfl rfl, ?_⟩
    rw [goLevelRaise, hr]; dsimp only
    exact if_pos (by simp [hb, h5, hmax, hrt, hz, htd])
  · exact ⟨_, completes_act (goLevelRaise · mv) rfl ((goLevelRaise_step hr hp).trans (Dev.stepRaise_switches mv hp ht hb)), rfl, rfl⟩
  · refine ⟨_, completes_act (goLevelRaise · (some mv)) rfl ((goLevelRaise_step hr hp).trans (Dev.stepRaise_gives_up hb hmv)), ?_, Dev.inc_bit _ s.now 16 11 0 (by decide)⟩
    rw [Dev.inc_gaf]; rfl
  · refine ⟨_, completes_act goLevelLower rfl ((if_pos hb).trans (if_pos htd)), rfl, rfl, rfl, rfl⟩
  · have htd' : ¬ (s.dev.gaf.tripDrop = true) := by simp [htd]
    refine ⟨_, completes_act goLevelLower rfl ((if_pos hb).trans ((if_neg htd').trans (if_pos (by simp [h5, hzr])))), ?_, ?_, ?_, Dev.inc_bit _ s.now 16 15 0 (by decide)⟩ <;>
      rw [Dev.inc_gaf] <;> rfl
  · refine ⟨_, completes_act goLevelLower rfl rfl, ?_⟩
    rw [goLevelLower]; dsimp only
    rw [if_neg (by omega), if_pos hb, hv]
  · refine ⟨_, completes_act (goPllMove · mv) rfl rfl, ?_⟩
    rw [goPllMove]; dsimp only
    rw [hr]; dsimp only
    rw [hpt]; dsimp only
    rw [if_neg (by simp [hl]), if_neg (by omega), if_pos hb]

end Sys2Proof.Machine
end

section
/-! PROOFS. Power states: requests, votes, entries, wakes and the way back to Show (O25). -/
namespace Sys2Proof.Machine

/-! What leaves the Gaffer as it was. -/

theorem Dev.powerAnswer_gaf (d : Dev) (t : Nat) (r : PowerReq) (o : PowerOutcome) (voter : Nat) : (d.powerAnswer t r o voter).gaf = d.gaf := by
  unfold Dev.powerAnswer
  split
  · exact Dev.respond_gaf ..
  · rfl

theorem goResponsePosted_gaf (f : Nat) (d : Dev) : (goResponsePosted f d).gaf = d.gaf := by
  unfold goResponsePosted; dsimp only
  split
  · rfl
  · split
    · rfl
    · rw [Dev.fireMsi_gaf]
      split <;> split <;> rfl

theorem Dev.postPower_gaf (d : Dev) (t : Nat) (r : PowerReq) : (d.postPower t r).gaf = d.gaf := by
  unfold Dev.postPower
  split
  · split
    · exact goResponsePosted_gaf _ d
    · rfl
  · rfl

/-- The FEM sequence changes the front end alone. -/
theorem Dev.femAll_frame (d : Dev) (t : Nat) : ∃ fe, d.femAll t = { d with fe := fe } := by
  have hset : ∀ (e : Dev) c pa lna byp port, (∃ fe, e = { d with fe := fe }) → ∃ fe, e.setFem c pa lna byp port = { d with fe := fe } := by
    rintro _ c pa lna byp port ⟨fe, rfl⟩
    unfold Dev.setFem
    split <;> exact ⟨_, rfl⟩
  have hchain : ∀ (e : Dev) c, (∃ fe, e = { d with fe := fe }) → ∃ fe, e.femChain t c = { d with fe := fe } := fun e c he => by
    unfold Dev.femChain; dsimp only
    split
    · exact hset _ _ _ _ _ _ he
    · split
      · exact hset _ _ _ _ _ _ he
      · split <;> exact hset _ _ _ _ _ _ he
  exact List.foldlRecOn (motive := fun e : Dev => ∃ fe, e = { d with fe := fe }) _ _ ⟨d.fe, rfl⟩ fun e he r _ =>
    List.foldlRecOn (motive := fun e : Dev => ∃ fe, e = { d with fe := fe }) _ _ he fun e he c _ => hchain e c he

theorem Dev.dropLink_gaf (d : Dev) (t p : Nat) : (d.dropLink t p).gaf = d.gaf := by
  unfold Dev.dropLink
  split
  · rw [Dev.inc_gaf]; rfl
  · rfl

theorem Dev.enterBlackout_gaf (d : Dev) (t : Nat) : (d.enterBlackout t).gaf = { d.gaf with beforeBlackout := d.gaf.level, raise := none } :=
  foldl_keeps (obs := Dev.gaf) (fun e p => by
    split
    · rfl
    · exact e.dropLink_gaf t p) _ _

theorem Dev.recordWake_kept (d : Dev) (cause fn : Nat) :
    (∃ w b, (d.recordWake cause fn).gaf = { d.gaf with wakeStatus := w, wakeBeat := b }) ∧ (d.recordWake cause fn).glb.up = d.glb.up := by
  unfold Dev.recordWake; dsimp only
  split
  · exact ⟨⟨_, _, Dev.markSet_gaf ..⟩, rfl⟩
  · split
    · exact ⟨⟨_, d.gaf.wakeBeat, rfl⟩, rfl⟩
    · exact ⟨⟨d.gaf.wakeStatus, d.gaf.wakeBeat, rfl⟩, rfl⟩

/-! Requests (R390, R397). -/

/-- A request to sleep, in Show. -/
theorem Dev.powerStart_polls {d : Dev} {r : PowerReq} (t : Nat) (hs : d.gaf.state = .show') (hr : r.target ≠ 0) : d.powerStart t r =
    { d with gaf := { d.gaf with phase := .poll, req := some r, agreed := 0, quiesced := 0, phaseAt := d.glb.up, alarm := r.wakeTick, noted := false } } :=
  if_neg (by rw [hs]; exact hr)

theorem Dev.powerStart_done {d : Dev} {r : PowerReq} (t : Nat) (hs : d.gaf.state = .show') (hr : r.target = 0) : d.powerStart t r = d.powerAnswer t r .done 0 :=
  if_pos (by rw [hs]; exact hr)

theorem Dev.powerIdle_show {d : Dev} (h : d.powerIdle = true) : d.gaf.state = .show' := by
  simp only [Dev.powerIdle, Bool.and_eq_true, decide_eq_true_eq] at h
  obtain ⟨⟨⟨-, hs⟩, -⟩, -⟩ := h
  exact hs

theorem Dev.powerIdle_congr {d e : Dev} (h : e.gaf = d.gaf) : e.powerIdle = d.powerIdle := by unfold Dev.powerIdle; rw [h]

/-- What GAF_STATE_SET asks for. -/
def powerReqOf (req : List Word) : PowerReq :=
  { target := fld (wd req 1) 1 0, wakeTick := fld (wd req 2) 47 0, pend := some ⟨.fn 0, reqTag req, 0x900⟩ }

/-- The device with the PENDING of a GAF_STATE_SET given. -/
def Dev.powerPending (d : Dev) (t : Nat) (req : List Word) : Dev := (d.taken 0 req).respond t ⟨.fn 0, reqTag req, 0x900⟩ .pending []

theorem Dev.powerPending_gaf (d : Dev) (t : Nat) (req : List Word) : (d.powerPending t req).gaf = d.gaf := by
  rw [Dev.powerPending, Dev.respond_gaf, Dev.taken_gaf]

/-- A GAF_STATE_SET whose rows pass has PENDING and is accepted. -/
theorem goGafStateSet_accepted {d : Dev} {t : Nat} {req : List Word} (ha : Admitted d 0 req 3) (h1 : resv (wd req 1) [(63, 2)] = false)
    (h2 : resv (wd req 2) [(63, 48)] = false) (h3 : fld (wd req 1) 1 0 ≠ 3) (h0 : fld (wd req 2) 47 0 ≠ 0 → fld (wd req 1) 1 0 ≠ 0)
    (hlate : fld (wd req 2) 47 0 = 0 ∨ tickOf t + 3 ≤ fld (wd req 2) 47 0) (hc : d.claimed .power 0 = false) : goGafStateSet t (.fn 0) req d =
      (d.powerPending t req).acceptPower t (powerReqOf req) false := by
  have hclaim : (d.taken 0 req).claimed .power 0 = false := (Dev.taken_claimed d 0 req .power 0).trans hc
  have hrows : firstOf [(fld (wd req 1) 1 0 == 3 || (fld (wd req 2) 47 0 != 0 && fld (wd req 1) 1 0 == 0), .badParam),
      (fld (wd req 2) 47 0 != 0 && decide (fld (wd req 2) 47 0 < tickOf t + 3), .late), ((d.taken 0 req).claimed .power 0, .busy)] = none := by
    have hbad : (fld (wd req 1) 1 0 == 3 || (fld (wd req 2) 47 0 != 0 && fld (wd req 1) 1 0 == 0)) = false := by
      simp [h3]; exact h0
    have hearly : (fld (wd req 2) 47 0 != 0 && decide (fld (wd req 2) 47 0 < tickOf t + 3)) = false := by
      simp; omega
    rw [firstOf, hbad, firstOf, hearly, firstOf, hclaim]; rfl
  unfold goGafStateSet
  rw [Dev.mbx_admitted t _ _ ha (by simp [fixedSpec]) (by simp [fixedSpec]) (by simp [fixedSpec, h1, h2])]
  dsimp only
  rw [hrows]; rfl

/-! Votes (R383 to R385). -/

/-- The poll's end by a refusal of voter `k`. -/
theorem Dev.refuse_poll {d : Dev} {k : Nat} (t : Nat) (o : PowerOutcome) (h : d.gaf.phase = .poll) :
    (d.refuse t k o).gaf = { d.gaf with phase := .rollback, quiesced := 0, phaseAt := d.glb.up, outcome := o.code, voter := k } := by
  rw [Dev.refuse, if_pos h, Dev.inc_gaf]; rfl

theorem goVote_agrees {d : Dev} {k : Nat} (t : Nat) (hk : k ≤ 9) (hp : d.gaf.phase = .poll) (ha : d.agrees k = true) : goVote t k d =
    { d with gaf := { d.gaf with
      agreed := d.gaf.agreed ||| 2 ^ k, quiesced := if d.gaf.quiesced % 2 ^ k = 2 ^ k - 1 then d.gaf.quiesced ||| 2 ^ k else d.gaf.quiesced } } := by
  unfold goVote
  rw [if_neg (by omega), if_neg (by simp [hp]), if_neg (by simp [hp]), if_neg (by simp [ha])]
  simp only [decide_eq_true_eq]

theorem goVote_refuses {d : Dev} {k : Nat} (t : Nat) (hk : k ≤ 9) (h5 : k ≠ 5) (hp : d.gaf.phase = .poll) (ha : d.agrees k = false) :
    goVote t k d = d.refuse t k .refused := by
  unfold goVote
  rw [if_neg (by omega), if_neg (by simp [hp]), if_neg (by simp [hp]), if_pos (by simp [ha]), if_neg h5]

/-- The first of the voters that has not agreed. -/
theorem find_silent {agreed k : Nat} (hk : k ≤ 9) (hn : nbit agreed k = false) (hall : ∀ j, j < k → nbit agreed j = true) :
    (List.range 10).find? (fun k => !nbit agreed k) = some k := by
  rw [List.find?_range_eq_some]
  refine ⟨by simp [hn], by simp; omega, fun j hj => by simp [hall j hj]⟩

/-! Entries and wakes (R386 to R389). -/

theorem goStateReached_commits {d : Dev} (t : Nat) (hp : d.gaf.phase = .poll) (hq : d.gaf.quiesced = 0x3FF) :
    (goStateReached t d).gaf = { d.gaf with phase := .committed, phaseAt := d.glb.up, req := d.gaf.req.map (fun r => { r with pend := none }) } := by
  have hfem : ∀ e : Dev, (e.femAll t).gaf = e.gaf := fun e => by obtain ⟨fe, h⟩ := e.femAll_frame t; rw [h]
  unfold goStateReached; dsimp only
  rw [hp]; dsimp only
  rw [if_neg (by simp [hq]), hfem]
  cases hr : d.gaf.req with
  | none => rfl
  | some r => dsimp only; rw [Dev.postPower_gaf, Dev.powerAnswer_gaf]

theorem goStateReached_enters {d : Dev} {r : PowerReq} (t : Nat) (hp : d.gaf.phase = .committed) (hr : d.gaf.req = some r) (ht : d.gaf.phaseAt + entryNs r.target ≤ d.glb.up) :
    (goStateReached t d).gaf.phase = .idle ∧ (goStateReached t d).gaf.state = (if r.target = 1 then .interval else .blackout) ∧ (goStateReached t d).gaf.req = none := by
  have htarget : (d.gaf.req.map (·.target)).getD 0 = r.target := by rw [hr]; rfl
  unfold goStateReached; dsimp only
  rw [hp]; dsimp only
  rw [htarget, if_neg (by omega)]
  by_cases h1 : r.target = 1
  · rw [if_pos h1, if_neg (by decide)]; exact ⟨rfl, rfl, rfl⟩
  · rw [if_neg h1, if_pos rfl, Dev.enterBlackout_gaf]; exact ⟨rfl, rfl, rfl⟩

theorem goStateReached_rolledBack {d : Dev} (t : Nat) (hp : d.gaf.phase = .rollback) (ht : d.gaf.phaseAt + 2000 ≤ d.glb.up) :
    (goStateReached t d).gaf = { d.gaf with phase := .idle, req := none, agreed := 0, quiesced := 0 } := by
  unfold goStateReached; dsimp only
  rw [hp]; dsimp only
  rw [if_neg (by omega)]
  cases hr : d.gaf.req with
  | none => rfl
  | some r => dsimp only; rw [Dev.powerAnswer_gaf]

/-- A wake of a sleeping device begins its leaving. -/
theorem Dev.wake_leaves {d : Dev} (cause fn : Nat) (hp : d.gaf.phase = .idle) (hs : d.gaf.state ≠ .show') :
    ∃ w b, (d.wake cause fn).gaf = { d.gaf with wakeStatus := w, wakeBeat := b, phase := .leaving, phaseAt := d.glb.up } := by
  obtain ⟨⟨w, b, hgaf⟩, hup⟩ := d.recordWake_kept cause fn
  refine ⟨w, b, ?_⟩
  unfold Dev.wake
  rw [hp]; dsimp only
  rw [if_neg hs]; dsimp only
  rw [Dev.bump_gaf, Dev.bump_glb, hgaf, hup]

/-- The first wake is recorded. -/
theorem Dev.wake_recorded {d : Dev} (cause fn : Nat) (hp : d.gaf.phase = .idle) (hs : d.gaf.state ≠ .show') (hw : d.gaf.wakeStatus.getLsbD 31 = false) :
    (d.wake cause fn).gaf = { d.gaf with
      phase := .leaving, phaseAt := d.glb.up, wakeStatus := packR [(cause, 3, 0), (fn, 4, 8), (1, 1, 31)], wakeBeat := beatNo d.glb.up + 1 } := by
  have hfirst : (!d.gaf.wakeStatus.getLsbD 31) = true := by rw [hw]; rfl
  have hrec : (d.recordWake cause fn).gaf = { d.gaf with wakeStatus := packR [(cause, 3, 0), (fn, 4, 8), (1, 1, 31)], wakeBeat := beatNo d.glb.up + 1 } := by
    unfold Dev.recordWake; dsimp only
    rw [if_pos hfirst, Dev.markSet_gaf]
  unfold Dev.wake
  rw [hp]; dsimp only
  rw [if_neg hs]; dsimp only
  rw [Dev.bump_gaf, Dev.bump_glb, hrec, (d.recordWake_kept cause fn).2]

theorem goShowReached_show {d : Dev} (t : Nat) (hp : d.gaf.phase = .leaving) (ht : d.gaf.phaseAt + exitNs d.gaf.state ≤ d.glb.up) (hw : d.gaf.waiting = none) :
    ∃ fe, goShowReached t d = { d with fe := fe, gaf :=
      if d.gaf.state = .blackout then
        { d.gaf with
          phase := .idle, state := .show', agreed := 0, quiesced := 0, noted := false, alarm := 0, level := 7
          pllTarget := some (if d.gaf.beforeBlackout = 7 then 0 else d.gaf.beforeBlackout), pllSince := d.glb.up }
      else { d.gaf with phase := .idle, state := .show', agreed := 0, quiesced := 0, noted := false, alarm := 0 } } := by
  have hgo : ¬ ((decide (d.gaf.phase ≠ .leaving) || decide (d.glb.up < d.gaf.phaseAt + exitNs d.gaf.state)) = true) := by simp [hp]; omega
  have hstart : ∀ e : Dev, e.gaf.waiting = none → e.startWaiting t = e := fun e he => by rw [Dev.startWaiting, he]
  unfold goShowReached; dsimp only
  rw [if_neg hgo]
  obtain ⟨fe, hfem⟩ := Dev.femAll_frame _ t
  rw [hfem, hstart]
  · exact ⟨fe, rfl⟩
  · dsimp only; split <;> exact hw

theorem Answered.of_fns {d e e' : Dev} {t f op : Nat} {req : List Word} {st : Status} {body : List Word} (h : Answered d e t f req op st body) (he : e'.fns = e.fns) :
    Answered d e' t f req op st body :=
  ⟨fun j hj => (Dev.fn_congr he j).trans (h.others j hj), (Dev.fn_congr he f).trans h.slot⟩

/-- Settles O25, from what each event leaves of the Gaffer. -/
theorem powerStatesComplete : Obligations.PowerStatesComplete := by
  unfold Obligations.PowerStatesComplete
  refine ⟨⟨fun s req target alarm ha h1 h2 htarget halarm hc hlate => ⟨fun ht hidle => ?_, fun ht h0 hidle => ?_, fun ht h0 hidle hwait => ?_⟩,
    fun s k hk hp hag => ⟨_, completes_act (goVote · k) rfl (goVote_agrees _ hk hp hag), rfl⟩, fun s k hk h5 hp hag => ?_, fun s k hp ht hk hn hall => ?_,
    fun s hp hq => ⟨_, completes_act goStateReached rfl rfl, goStateReached_commits _ hp hq⟩,
    fun s r hp hr ht => ⟨_, completes_act goStateReached rfl rfl, goStateReached_enters _ hp hr ht⟩,
    fun s hp ht => ⟨_, completes_act goStateReached rfl rfl, goStateReached_rolledBack _ hp ht⟩⟩,
    fun s hpv hp hs hw => ?_, fun s h0 ht hp hs => ?_, fun s hp ht hw => ?_, fun s f req ha => ?_, fun s r hp hs hn hw hr => ?_⟩
  · subst htarget halarm
    have hgo := goGafStateSet_accepted ha h1 h2 (by omega) (by omega) hlate hc
    have hgaf := s.dev.powerPending_gaf s.now req
    have hidle' : (s.dev.powerPending s.now req).powerIdle = true := (Dev.powerIdle_congr hgaf).trans hidle
    have hshow : ((s.dev.powerPending s.now req).claim .power 0).gaf.state = .show' := by
      rw [Dev.claim_gaf, hgaf]; exact Dev.powerIdle_show hidle
    rw [Dev.acceptPower, if_pos hidle', Dev.powerStart_polls s.now hshow (by rw [powerReqOf]; dsimp only; omega)] at hgo
    refine ⟨_, completes_act (goGafStateSet · (.fn 0) req) rfl hgo, (Dev.answered_of rfl).of_fns rfl, ?_, ?_⟩
    · dsimp only; rw [Dev.claim_gaf, hgaf, Dev.claim_glb, Dev.powerPending, Dev.respond_fn_frame]; rfl
    · rw [Dev.powerPending, Dev.respond_fn_frame]; rfl
  · subst htarget halarm
    have hgo := goGafStateSet_accepted ha h1 h2 (by omega) (by omega) hlate hc
    have hgaf := s.dev.powerPending_gaf s.now req
    have hidle' : (s.dev.powerPending s.now req).powerIdle = true := (Dev.powerIdle_congr hgaf).trans hidle
    have hshow : ((s.dev.powerPending s.now req).claim .power 0).gaf.state = .show' := by
      rw [Dev.claim_gaf, hgaf]; exact Dev.powerIdle_show hidle
    rw [Dev.acceptPower, if_pos hidle', Dev.powerStart_done s.now hshow ht] at hgo
    refine ⟨_, completes_act (goGafStateSet · (.fn 0) req) rfl hgo, ?_, ?_⟩
    · rw [Dev.powerAnswer_gaf, Dev.claim_gaf, hgaf]
    · have hans : Answered s.dev (s.dev.powerPending s.now req) s.now 0 req 0x900 .pending [] := Dev.answered_of rfl
      have hslot : ((s.dev.powerPending s.now req).claim .power 0).fn 0 = _ := hans.slot
      have htag : (((s.dev.powerPending s.now req).claim .power 0).fn 0).tags.contains (reqTag req) = true := by rw [hslot]; simp
      have hdone : ((s.dev.powerPending s.now req).claim .power 0).powerAnswer s.now (powerReqOf req) .done 0 =
          ((s.dev.powerPending s.now req).claim .power 0).respond s.now ⟨.fn 0, reqTag req, 0x900⟩ .ok [packW [(0, 8, 0), (0, 4, 8)]] := rfl
      rw [hdone, Dev.respond_fn htag, Dev.fn_modFn, if_pos rfl, hslot]
      exact List.append_assoc ..
  · subst htarget halarm
    have hgo := goGafStateSet_accepted ha h1 h2 ht h0 hlate hc
    have hgaf := s.dev.powerPending_gaf s.now req
    have hbusy : ¬ ((s.dev.powerPending s.now req).powerIdle = true) := by rw [Dev.powerIdle_congr hgaf, hidle]; decide
    rw [Dev.acceptPower, if_neg hbusy] at hgo
    dsimp only at hgo
    rw [hgaf, hwait] at hgo
    refine ⟨_, completes_act (goGafStateSet · (.fn 0) req) rfl hgo, (Dev.answered_of rfl).of_fns rfl, ?_⟩
    rw [if_neg (by decide)]; dsimp only; rw [hgaf]; rfl
  · refine ⟨_, completes_act (goVote · k) rfl (goVote_refuses _ hk h5 hp hag), Dev.refuse_poll _ _ hp, ?_⟩
    rw [Dev.refuse, if_pos hp]; exact Dev.inc_bit _ s.now 16 k 0 (by omega)
  · have hgo : goVoteTimeout s.now s.dev = (s.dev.refuse s.now k .noVote).inc s.now 16 10 := by
      rw [goVoteTimeout, if_pos (by simp [hp, ht]), find_silent hk hn hall]
    refine ⟨_, completes_act goVoteTimeout rfl hgo, ?_, Dev.inc_bit _ s.now 16 10 0 (by decide)⟩
    rw [Dev.inc_gaf, Dev.refuse_poll _ _ hp]; rfl
  · exact ⟨_, completes_act (fun _ d => goWakeInN d) rfl (if_pos hpv), Dev.wake_recorded 1 0 hp hs hw⟩
  · obtain ⟨w, b, hgaf⟩ := Dev.wake_leaves (d := s.dev) 3 0 hp hs
    refine ⟨_, completes_act goTickAlarm rfl rfl, ?_⟩
    rw [goTickAlarm, if_pos (by simp [h0, ht])]; dsimp only
    rw [hgaf]
    exact ⟨rfl, rfl, rfl, rfl⟩
  · obtain ⟨fe, hgo⟩ := goShowReached_show s.now hp ht hw
    refine ⟨_, completes_act goShowReached rfl hgo, ?_⟩
    by_cases hb : s.dev.gaf.state = .blackout
    · rw [if_pos hb]; exact ⟨rfl, rfl, rfl, rfl, fun _ => ⟨rfl, rfl⟩, fun h => absurd hb h, rfl⟩
    · rw [if_neg hb]; exact ⟨rfl, rfl, rfl, rfl, fun h => absurd h hb, fun _ => rfl, rfl⟩
  · obtain ⟨d, hc, hans, hd⟩ := completes_now (c := .gafStatus f req) (st := .ok) (e := s.dev.taken f req)
      (body := [packW [(s.dev.gafState.toNat, 32, 0), (s.dev.gafMeasure.toNat, 32, 32)], packW [(s.dev.gaf.budget.tick, 48, 0)], packW [(s.dev.gaf.budget.value, 32, 0)]])
      rfl rfl ha (by simp [fixedSpec]) (by simp [fixedSpec]) (by simp [fixedSpec]) rfl (by decide) rfl
    exact ⟨d, hc, hans, by rw [hd]; rfl⟩
  · refine ⟨_, completes_act goStateReached rfl rfl, ?_⟩
    unfold goStateReached; dsimp only
    rw [hp]; dsimp only
    rw [if_neg (by simp [hs]), if_pos hs, Dev.startWaiting, hw]; dsimp only
    rw [Dev.powerStart_polls (d := { s.dev with gaf := { s.dev.gaf with waiting := none } }) s.now hs hr]
    dsimp only
    rw [← hn]

end Sys2Proof.Machine
end

section
/-! PROOFS. Key slots and the MACsec ports (O41). -/
namespace Sys2Proof.Machine

/-! Staged changes (R329, R330). -/

theorem Dev.slotView_stageSlot (d : Dev) (k : Nat) (e : Option KeySlot) (p : Option Pend) (n : Nat) :
    (d.stageSlot k e p).slotView n = if n = k then e.getD {} else d.slotView n := by
  simp only [Dev.slotView, Dev.stageSlot, List.reverse_append, List.reverse_cons, List.reverse_nil, List.nil_append, List.cons_append, List.find?_cons]
  by_cases hk : k = n
  · simp [hk]
  · have hb : (k == n) = false := beq_eq_false_iff_ne.mpr hk
    rw [hb, if_neg (Ne.symm hk)]; rfl

/-- A list of slots is staged to be empty. -/
def Dev.stageErased (d : Dev) (l : List Nat) : Dev := l.foldl (fun x n => x.stageSlot n none none) d

theorem Dev.slotView_stageErased (d : Dev) (l : List Nat) (n : Nat) : (d.stageErased l).slotView n = if n ∈ l then {} else d.slotView n := by
  induction l generalizing d with
  | nil => simp [Dev.stageErased]
  | cons k l ih =>
    have hcons : d.stageErased (k :: l) = (d.stageSlot k none none).stageErased l := rfl
    rw [hcons, ih, Dev.slotView_stageSlot]
    by_cases hk : n = k <;> simp [hk]

theorem Dev.stageErased_kept (d : Dev) (l : List Nat) : (d.stageErased l).wcx.slots = d.wcx.slots ∧ (d.stageErased l).wcx.macsec = d.wcx.macsec ∧ (d.stageErased l).fns = d.fns :=
  List.foldlRecOn (motive := fun e : Dev => e.wcx.slots = d.wcx.slots ∧ e.wcx.macsec = d.wcx.macsec ∧ e.fns = d.fns) _ _ ⟨rfl, rfl, rfl⟩ fun _ he _ _ => he

/-- A slot that is seen in use is one of those in force or staged. -/
theorem Dev.mem_of_slotView_used {d : Dev} {n : Nat} (h : (d.slotView n).used = true) : n ∈ d.wcx.slots.map (·.1) ++ d.wcx.staged.map (·.slot) := by
  rw [List.mem_append]
  unfold Dev.slotView at h
  split at h
  next s hs =>
    have hn : s.slot = n := by simpa using List.find?_some hs
    exact .inr (List.mem_map.mpr ⟨s, List.mem_reverse.mp (List.mem_of_find?_eq_some hs), hn⟩)
  next =>
    refine .inl (by_contra fun hout => ?_)
    have hlist : ∀ t : Table KeySlot, n ∉ t.map (·.1) → tlook slotReset t n = {} := fun t => by
      induction t with
      | nil => exact fun _ => rfl
      | cons e t ih =>
        intro hnot
        rw [List.map_cons, List.mem_cons, not_or] at hnot
        obtain ⟨k, v⟩ := e
        rw [tlook, if_neg (Ne.symm hnot.1), ih hnot.2]
    rw [Dev.slot, hlist _ hout] at h
    exact absurd h (by decide)

/-- The MACsec slots of a port are those seen in use for it (R343). -/
theorem Dev.mem_secySlots {d : Dev} {p n : Nat} : n ∈ d.secySlots p ↔ (d.slotView n).used = true ∧ 4 ≤ (d.slotView n).kind ∧ (d.slotView n).port = p := by
  simp only [Dev.secySlots, List.mem_filter, List.mem_eraseDups, Bool.and_eq_true, decide_eq_true_eq, beq_iff_eq]
  constructor
  · rintro ⟨-, ⟨hu, hk⟩, hp⟩
    exact ⟨hu, hk, hp⟩
  · rintro ⟨hu, hk, hp⟩
    exact ⟨Dev.mem_of_slotView_used hu, ⟨hu, hk⟩, hp⟩

/-! The commit (R328, R329). -/

/-- The slots in force once an entry has come to slot `n`: those of the same object no longer transmit. -/
def committedSlots (l : Table KeySlot) (n : Nat) (e : KeySlot) (tick gen : Nat) : Table KeySlot :=
  tput slotReset (if e.txActive then tmap slotReset (fun _ x => if sameTx e x then { x with txActive := false } else x) l else l) n
    { e with commitTick := tick, gen := gen }

theorem committedSlots_lookup (l : Table KeySlot) (n : Nat) (e : KeySlot) (tick gen j : Nat) : tlook slotReset (committedSlots l n e tick gen) j =
    if j = n then { e with commitTick := tick, gen := gen }
    else if e.txActive = true ∧ sameTx e (tlook slotReset l j) = true then { tlook slotReset l j with txActive := false } else tlook slotReset l j := by
  have hmap : tlook slotReset (tmap slotReset (fun _ x => if sameTx e x then { x with txActive := false } else x) l) j =
      if sameTx e (tlook slotReset l j) then { tlook slotReset l j with txActive := false } else tlook slotReset l j :=
    tlook_tmap slotReset (fun _ x => if sameTx e x then { x with txActive := false } else x) l j (by split <;> rfl)
  rw [committedSlots, tlook_tput]
  by_cases hj : j = n
  · rw [if_pos hj, if_pos hj]
  · rw [if_neg hj, if_neg hj]
    cases e.txActive with
    | false => simp
    | true => simp only [if_true, hmap, true_and]

/-- The device once the binding that the old contents of slot `n` held is undone. -/
def Dev.unbound (d : Dev) (n : Nat) : Dev :=
  if (d.slot n).used && (d.slot n).kind == 0 && (d.sta (d.slot n).bind).ptk == n then d.modSta (d.slot n).bind (fun x => { x with ptk := 0x3FFF }) else d

theorem Dev.unbound_frame (d : Dev) (n : Nat) : ∃ sta, d.unbound n = { d with mac := { d.mac with sta := sta } } := by
  unfold Dev.unbound
  split <;> exact ⟨_, rfl⟩

theorem Dev.unbound_used (d : Dev) (n k : Nat) : ((d.unbound n).sta k).used = (d.sta k).used := by
  unfold Dev.unbound
  split
  · rw [Dev.sta_modSta]
    split
    next h => rw [h]
    · rfl
  · rfl

/-- The device with entry `e` in force in slot `n`. -/
def Dev.slotWritten (d : Dev) (t n : Nat) (e : KeySlot) : Dev :=
  let d1 := d.unbound n
  let c1 : Dev := { d1 with wcx := { d1.wcx with nextId := d1.wcx.nextId + 1, slots := committedSlots d1.wcx.slots n e (tickOf t) d.wcx.nextId } }
  if e.kind = 0 && (c1.sta e.bind).used then c1.modSta e.bind (fun x => { x with ptk := n }) else c1

theorem Dev.slotWritten_kept (d : Dev) (t n : Nat) (e : KeySlot) :
    (d.slotWritten t n e).wcx = { d.wcx with nextId := d.wcx.nextId + 1, slots := committedSlots d.wcx.slots n e (tickOf t) d.wcx.nextId } ∧
    (d.slotWritten t n e).fns = d.fns := by
  obtain ⟨sta, hun⟩ := d.unbound_frame n
  unfold Dev.slotWritten; dsimp only
  rw [hun]
  split <;> exact ⟨rfl, rfl⟩

theorem Dev.slotWritten_ptk {d : Dev} {n : Nat} {e : KeySlot} (t : Nat) (hk : e.kind = 0) (hu : (d.sta e.bind).used = true) : ((d.slotWritten t n e).sta e.bind).ptk = n := by
  have hused : ((d.unbound n).sta e.bind).used = true := (d.unbound_used n e.bind).trans hu
  unfold Dev.slotWritten; dsimp only
  rw [if_pos (by simp only [hk, decide_true, Bool.true_and]; exact hused), Dev.sta_modSta, if_pos rfl]

theorem Dev.commitSlot_write (d : Dev) (t n b f tag op : Nat) (e : KeySlot) : d.commitSlot t ⟨n, some e, b, some ⟨.fn f, tag, op⟩⟩ =
    ((d.slotWritten t n e).bump 37 14).respond t ⟨.fn f, tag, op⟩ .ok [packW [(n, 14, 0)]] := rfl

theorem Dev.commitSlot_erase (d : Dev) (t n b f tag op : Nat) : d.commitSlot t ⟨n, none, b, some ⟨.fn f, tag, op⟩⟩ =
    (((d.unbound n).modSlot n (fun _ => {})).bump 37 14).respond t ⟨.fn f, tag, op⟩ .ok [] := rfl

/-- The device with nothing staged. -/
def Dev.unstaged (d : Dev) : Dev := { d with wcx := { d.wcx with staged := [] } }

theorem goKeyCommit_one {d : Dev} {t : Nat} {x : KeyStage} (hs : d.wcx.staged = [x]) (hb : x.beat < beatNo d.glb.up) : goKeyCommit t d = d.unstaged.commitSlot t x := by
  simp [goKeyCommit, hs, hb, Dev.unstaged]

/-! The commands (R343). -/

/-- The device with the contents that a WCX_KEY_WRITE asks for staged in slot `n`. -/
def Dev.keyStaged (d : Dev) (f n : Nat) (req : List Word) : Dev :=
  let d1 := ((d.taken f req).stageSlot n (some (keyOfReq (.fn f) req)) (some ⟨.fn f, reqTag req, 0x700⟩)).claim .keySlot (2 * n + 1)
  if (keyOfReq (.fn f) req).kind = 0 then d1.claim .keySlot (100000 + (keyOfReq (.fn f) req).bind) else d1

theorem Dev.keyStaged_frame (d : Dev) (f n : Nat) (req : List Word) : ∃ claims, d.keyStaged f n req = { d.taken f req with
    wcx := { d.wcx with staged := d.wcx.staged ++ [⟨n, some (keyOfReq (.fn f) req), beatNo d.glb.up, some ⟨.fn f, reqTag req, 0x700⟩⟩] }, claims := claims } := by
  unfold Dev.keyStaged; dsimp only
  split <;> exact ⟨_, rfl⟩

section
variable {d : Dev} {f : Nat} {req : List Word} (ha : Admitted d f req 12) (h1 : resv (wd req 1) [(63, 60), (55, 52), (31, 14)] = false)
  (h5 : resv (wd req 5) [(31, 0)] = false) (h7 : resv (wd req 7) [(31, 0)] = false)
include ha h1 h5 h7

theorem goWcxKeyWrite_granted (t : Nat) (hj : d.keyJudge (.fn f) req = none) : goWcxKeyWrite t (.fn f) req d =
    d.keyStaged f (if fld (wd req 1) 13 0 = 0x3FFF then d.lowestSlot.getD 0 else fld (wd req 1) 13 0) req := by
  have hj' : (d.taken f req).keyJudge (.fn f) req = none := hj
  unfold goWcxKeyWrite
  rw [Dev.mbx_admitted t _ _ ha (by simp [fixedSpec]) (by simp [fixedSpec]) (by simp [fixedSpec, h1, h5, h7])]
  dsimp only
  rw [hj']; rfl

theorem goWcxKeyWrite_refused {st : Status} (t : Nat) (hj : d.keyJudge (.fn f) req = some st) :
    goWcxKeyWrite t (.fn f) req d = (d.taken f req).respond t ⟨.fn f, reqTag req, 0x700⟩ st [] := by
  have hj' : (d.taken f req).keyJudge (.fn f) req = some st := hj
  unfold goWcxKeyWrite
  rw [Dev.mbx_admitted t _ _ ha (by simp [fixedSpec]) (by simp [fixedSpec]) (by simp [fixedSpec, h1, h5, h7])]
  dsimp only
  rw [hj']; rfl

end

/-- The caller may touch a slot that is its own. -/
theorem ownSlot {f ten : Nat} (h : f = 0 ∨ ten = f) (used : Bool) : (!(Master.fn f).isF0 && used && ten != (Master.fn f).tenant) = false := by
  rcases h with rfl | rfl <;> simp [Master.isF0, Master.tenant]

theorem goWcxKeyErase_granted {d : Dev} {f : Nat} {req : List Word} (t : Nat) (ha : Admitted d f req 2) (hv : resv (wd req 1) [(63, 14)] = false)
    (hlt : fld (wd req 1) 13 0 < keySlots) (hu : (d.slotView (fld (wd req 1) 13 0)).used = true) (hown : f = 0 ∨ (d.slotView (fld (wd req 1) 13 0)).tenant = f)
    (hc : d.claimed .keySlot (2 * fld (wd req 1) 13 0) = false) : goWcxKeyErase t (.fn f) req d =
      ((d.taken f req).stageSlot (fld (wd req 1) 13 0) none (some ⟨.fn f, reqTag req, 0x701⟩)).claim .keySlot (2 * fld (wd req 1) 13 0) := by
  have hview : (d.taken f req).slotView (fld (wd req 1) 13 0) = d.slotView (fld (wd req 1) 13 0) := rfl
  have hclaim : (d.taken f req).claimed .keySlot (2 * fld (wd req 1) 13 0) = false := (Dev.taken_claimed d f req .keySlot _).trans hc
  unfold goWcxKeyErase
  rw [Dev.mbx_admitted t _ _ ha (by simp [fixedSpec]) (by simp [fixedSpec]) (by simp [fixedSpec, hv])]
  dsimp only
  rw [hview, ownSlot hown, hclaim, hu, decide_eq_false (Nat.not_le.mpr hlt)]; rfl

/-- The device with MACsec of a port as a WCX_MACSEC_PORT asks. -/
def Dev.secySet (d : Dev) (p : Nat) (en : Bool) (req : List Word) : Dev :=
  let bypass := ([fld (wd req 2) 63 48, fld (wd req 2) 47 32, fld (wd req 2) 31 16, fld (wd req 2) 15 0]).filter (fun e => e != 0)
  { d with wcx := { d.wcx with macsec := tput (fun _ => ({} : MacsecPort)) d.wcx.macsec p ⟨en, fld (wd req 1) 63 32, bypass⟩ } }

theorem Dev.secySet_secy (d : Dev) (p : Nat) (en : Bool) (req : List Word) :
    ((d.secySet p en req).secy p).en = en ∧ ((d.secySet p en req).secy p).window = fld (wd req 1) 63 32 ∧ ∀ q, q ≠ p → (d.secySet p en req).secy q = d.secy q := by
  simp only [Dev.secy, Dev.secySet, tlook_tput, if_true, true_and]
  exact fun q hq => if_neg hq

/-- MACsec of a port is taken off, its slots with it. -/
def Dev.secyOff (d : Dev) (p : Nat) (req : List Word) : Dev := (d.secySet p false req).eraseSecy p

theorem Dev.secyOff_kept (d : Dev) (p : Nat) (req : List Word) :
    (d.secyOff p req).wcx.slots = d.wcx.slots ∧ ((d.secyOff p req).secy p).en = false ∧ (d.secyOff p req).fns = d.fns := by
  obtain ⟨hslots, hmacsec, hfns⟩ := (d.secySet p false req).stageErased_kept ((d.secySet p false req).secySlots p)
  refine ⟨hslots, ?_, hfns⟩
  exact (congrArg (fun m => (tlook (fun _ => ({} : MacsecPort)) m p).en) hmacsec).trans (d.secySet_secy p false req).1

theorem Dev.secyOff_view (d : Dev) (p : Nat) (req : List Word) (n : Nat) : (d.secyOff p req).slotView n =
    if (d.slotView n).used = true ∧ 4 ≤ (d.slotView n).kind ∧ (d.slotView n).port = p then {} else d.slotView n := by
  have hview := (d.secySet p false req).slotView_stageErased ((d.secySet p false req).secySlots p) n
  simp only [Dev.mem_secySlots] at hview
  exact hview

/-- Settles O41, from what staging, a commit and the rows of each command do. -/
theorem keySlotsComplete : Obligations.KeySlotsComplete := by
  unfold Obligations.KeySlotsComplete
  refine ⟨fun s f req n ha h1 h5 h7 => ⟨fun hj hn => ?_, fun st hj => ?_⟩, fun s f req n ha hv hn hlt hu hown hc => ?_, fun s f req n x ha hv hn hlt hx hown => ⟨fun hu => ?_, fun hu => ?_⟩,
    fun s n b f tag op e hs hb htag => ⟨fun k he => ?_, fun he => ?_⟩, fun s req p ha hv hp hreg hc => ⟨fun hen hload => ?_, fun hen => ?_⟩⟩
  · subst hn
    obtain ⟨claims, hstaged⟩ := s.dev.keyStaged_frame f (if fld (wd req 1) 13 0 = 0x3FFF then s.dev.lowestSlot.getD 0 else fld (wd req 1) 13 0) req
    have hfn : ∀ j, (s.dev.taken f req).fn j = _ := s.dev.taken_fn f req
    refine ⟨_, completes_act (goWcxKeyWrite · (.fn f) req) rfl ((goWcxKeyWrite_granted ha h1 h5 h7 s.now hj).trans hstaged), rfl, ?_, ?_, fun j hj => ?_, rfl⟩
    · exact (congrArg FnSlot.tags (hfn f)).trans (by rw [if_pos rfl])
    · exact (congrArg FnSlot.waiting (hfn f)).trans (by rw [if_pos rfl])
    · exact (hfn j).trans (if_neg hj)
  · refine ⟨_, completes_act (goWcxKeyWrite · (.fn f) req) rfl (goWcxKeyWrite_refused ha h1 h5 h7 s.now hj), Dev.answered_of rfl, ?_⟩
    rw [Dev.respond_fn_frame]; rfl
  · subst hn
    refine ⟨_, completes_act (goWcxKeyErase · (.fn f) req) rfl (goWcxKeyErase_granted s.now ha hv hlt hu hown hc), rfl, ?_, rfl⟩
    exact (congrArg FnSlot.waiting (s.dev.taken_fn f req f)).trans (by rw [if_pos rfl])
  · have hslot : (s.dev.taken f req).slot (fld (wd req 1) 13 0) = x := by rw [hx, hn]; rfl
    have hrange : decide (keySlots ≤ fld (wd req 1) 13 0) = false := decide_eq_false (hn ▸ Nat.not_le.mpr hlt)
    obtain ⟨d, hc, hans, hd⟩ := completes_now (c := .wcxKeyQuery f req) (st := .ok) (e := s.dev.taken f req)
      (body := [packW [(n, 14, 0), (x.bss, 6, 32), (x.port, 2, 38), (x.keyId, 3, 40), (b2n x.txActive, 1, 43), (x.alg, 4, 44), (x.kind, 4, 48), (x.tenant, 4, 56)],
        BitVec.ofNat 64 x.txPn, BitVec.ofNat 64 x.top, BitVec.ofNat 64 x.bind, packW [(x.commitTick, 48, 0)]])
      rfl rfl ha (by simp [fixedSpec]) (by simp [fixedSpec]) (by simp [fixedSpec, hv])
      ((judged_none _ (by rw [hslot, ownSlot hown, hu, hrange]; simp)).trans (by rw [hslot, hn])) (by decide) rfl
    exact ⟨d, hc, hans, by rw [hd]; rfl⟩
  · have hslot : (s.dev.taken f req).slot (fld (wd req 1) 13 0) = x := by rw [hx, hn]; rfl
    have hrange : decide (keySlots ≤ fld (wd req 1) 13 0) = false := decide_eq_false (hn ▸ Nat.not_le.mpr hlt)
    obtain ⟨d, hc, hans, -⟩ := completes_now (c := .wcxKeyQuery f req) (st := .slotEmpty) (e := s.dev.taken f req) (body := [])
      rfl rfl ha (by simp [fixedSpec]) (by simp [fixedSpec]) (by simp [fixedSpec, hv])
      (by dsimp only; rw [hslot, ownSlot hown, hu, hrange]; rfl) (by decide) rfl
    exact ⟨d, hc, hans⟩
  · subst he
    have hgo := goKeyCommit_one (t := s.now) hs hb
    rw [Dev.commitSlot_write] at hgo
    obtain ⟨hwcx, hfns⟩ := s.dev.unstaged.slotWritten_kept s.now n k
    have hslots : ∀ j, (goKeyCommit s.now s.dev).slot j = tlook slotReset (committedSlots s.dev.wcx.slots n k (tickOf s.now) s.dev.wcx.nextId) j := fun j => by
      rw [hgo, Dev.respond_fn_frame]
      exact congrArg (fun w : Wcx => tlook slotReset w.slots j) hwcx
    refine ⟨_, completes_act goKeyCommit rfl rfl, ?_, ?_, fun htx j hj => ?_, fun j hj => ?_, fun htx j hj hsame => ?_, fun hk hu => ?_, ?_⟩
    · rw [hslots, committedSlots_lookup, if_pos rfl]
    · rw [hgo, Dev.respond_fn_frame]; exact congrArg Wcx.staged hwcx
    · rw [hslots, committedSlots_lookup, if_neg hj, if_neg (by simp [htx])]; rfl
    · rw [hslots, committedSlots_lookup, if_neg hj]; split <;> rfl
    · rw [hslots, committedSlots_lookup, if_neg hj, if_pos ⟨htx, hsame⟩]
    · rw [hgo, Dev.respond_fn_frame]; exact Dev.slotWritten_ptk (d := s.dev.unstaged) s.now hk hu
    · have hfn : ((s.dev.unstaged.slotWritten s.now n k).bump 37 14).fn f = s.dev.fn f := Dev.fn_congr hfns f
      rw [hgo, Dev.respond_fn (by rw [hfn]; exact htag), Dev.fn_modFn, if_pos rfl, hfn]; rfl
  · subst he
    have hgo := goKeyCommit_one (t := s.now) hs hb
    rw [Dev.commitSlot_erase] at hgo
    obtain ⟨sta, hun⟩ := s.dev.unstaged.unbound_frame n
    have hslots : ∀ j, (goKeyCommit s.now s.dev).slot j = if j = n then {} else s.dev.slot j := fun j => by
      rw [hgo, Dev.respond_fn_frame, hun]; exact tlook_tmod slotReset s.dev.wcx.slots n (fun _ => {}) j
    refine ⟨_, completes_act goKeyCommit rfl rfl, ?_, ?_, fun j hj => ?_, ?_⟩
    · rw [hslots, if_pos rfl]
    · rw [hgo, Dev.respond_fn_frame, hun]; rfl
    · rw [hslots, if_neg hj]
    · have hfn : (((s.dev.unstaged.unbound n).modSlot n (fun _ => {})).bump 37 14).fn f = s.dev.fn f := by rw [hun]; rfl
      rw [hgo, Dev.respond_fn (by rw [hfn]; exact htag), Dev.fn_modFn, if_pos rfl, hfn]; rfl
  · subst hp
    have hclaim : (s.dev.taken 0 req).claimed .macsec (fld (wd req 1) 1 0) = false := (Dev.taken_claimed s.dev 0 req .macsec _).trans hc
    have hreg' : ((s.dev.taken 0 req).reg (emacAddr (fld (wd req 1) 1 0) 0)).getLsbD 31 = false := hreg
    have hfull : decide (400 < (s.dev.taken 0 req).macsecLoad (fld (wd req 1) 1 0)) = false := decide_eq_false (Nat.not_lt.mpr hload)
    obtain ⟨hsecy, hwin, hother⟩ := (s.dev.taken 0 req).secySet_secy (fld (wd req 1) 1 0) true req
    obtain ⟨d, hc, hans, hd⟩ := completes_now (c := .wcxMacsecPort 0 req) (st := .ok) (body := [])
      (e := ((s.dev.taken 0 req).secySet (fld (wd req 1) 1 0) true req).claim .macsec (fld (wd req 1) 1 0))
      rfl rfl ha (by simp [fixedSpec]) (by simp [fixedSpec]) (by simp [fixedSpec, hv])
      ((judged_none _ (by rw [hreg', hen, hfull, hclaim]; simp)).trans (by rw [hen]; rfl)) (by decide) rfl
    exact ⟨d, hc, hans, by rw [hd]; exact hsecy, by rw [hd]; exact hwin, fun q hq => by rw [hd]; exact hother q hq, by rw [hd]; rfl⟩
  · subst hp
    have hclaim : (s.dev.taken 0 req).claimed .macsec (fld (wd req 1) 1 0) = false := (Dev.taken_claimed s.dev 0 req .macsec _).trans hc
    have hreg' : ((s.dev.taken 0 req).reg (emacAddr (fld (wd req 1) 1 0) 0)).getLsbD 31 = false := hreg
    obtain ⟨hslots, hmacsec, hfns⟩ := (s.dev.taken 0 req).secyOff_kept (fld (wd req 1) 1 0) req
    have hview := (s.dev.taken 0 req).secyOff_view (fld (wd req 1) 1 0) req
    obtain ⟨d, hc, hans, hd⟩ := completes_now (c := .wcxMacsecPort 0 req) (st := .ok) (body := [])
      (e := ((s.dev.taken 0 req).secyOff (fld (wd req 1) 1 0) req).claim .macsec (fld (wd req 1) 1 0))
      rfl rfl ha (by simp [fixedSpec]) (by simp [fixedSpec]) (by simp [fixedSpec, hv])
      ((judged_none _ (by rw [hreg', hen, hclaim]; simp)).trans (by rw [hen]; rfl)) (by decide) hfns
    refine ⟨d, hc, hans, by rw [hd]; exact hmacsec, by rw [hd]; exact hslots, fun n hu hk hport => ?_, fun n hn => ?_⟩
    · rw [hd]; exact congrArg KeySlot.used ((hview n).trans (if_pos ⟨hu, hk, hport⟩))
    · rw [hd]
      refine (hview n).trans (if_neg fun ⟨_, hk, hport⟩ => ?_)
      exact hn.elim (fun h => absurd hk (Nat.not_le.mpr h)) fun h => h hport

end Sys2Proof.Machine
end

section
/-! PROOFS. What the receive path of the MAC and the completion of its MSDUs leave of the wire cipher: everything (O42). -/
namespace Sys2Proof.Machine

/-- A change of a device that leaves the wire cipher alone leaves it alone when it is made for each element of a list. -/
@[simp] theorem foldl_wcx {α : Type} (f : Dev → α → Dev) (l : List α) (d : Dev) (h : ∀ d x, (f d x).wcx = d.wcx) : (l.foldl f d).wcx = d.wcx := by
  induction l generalizing d with
  | nil => rfl
  | cons x l ih => rw [List.foldl, ih, h]

@[simp] theorem Dev.hbmOctets_wcx (d : Dev) (cls n : Nat) : (d.hbmOctets cls n).wcx = d.wcx := by simp [Dev.hbmOctets]
@[simp] theorem Dev.dropped_wcx (d : Dev) (t tenant : Nat) : (d.dropped t tenant).wcx = d.wcx := by simp [Dev.dropped]
@[simp] theorem Dev.modCall_wcx (d : Dev) (sid : Nat) (f : CallSheet → CallSheet) : (d.modCall sid f).wcx = d.wcx := by simp [Dev.modCall]
@[simp] theorem Dev.fireRing_wcx (d : Dev) (g : Nat) : (d.fireRing g).wcx = d.wcx := by simp [Dev.fireRing, apply_ite Dev.wcx]
@[simp] theorem Dev.coalesce_wcx (d : Dev) (g : Nat) : (d.coalesce g).wcx = d.wcx := by simp [Dev.coalesce, apply_ite Dev.wcx]
@[simp] theorem releaseStamps_wcx (d : Dev) (g id : Nat) : (releaseStamps d g id).wcx = d.wcx := by simp [releaseStamps]
@[simp] theorem Dev.postOne_wcx (d : Dev) (g : Nat) : (d.postOne g).wcx = d.wcx := by unfold Dev.postOne; dsimp only; (repeat' split) <;> simp
theorem Dev.iterN_postOne_wcx (g n : Nat) (d : Dev) : (Dev.postAll.iterN n (fun e => e.postOne g) d).wcx = d.wcx := by
  induction n generalizing d with
  | zero => rfl
  | succ n ih => rw [Dev.postAll.iterN, ih, Dev.postOne_wcx]
@[simp] theorem Dev.postAll_wcx (d : Dev) (g : Nat) : (d.postAll g).wcx = d.wcx := Dev.iterN_postOne_wcx ..
@[simp] theorem Dev.completeDesc_wcx (d : Dev) (g : Nat) (x : Desc) (i : ComplInfo) : (d.completeDesc g x i).wcx = d.wcx := by simp [Dev.completeDesc]
@[simp] theorem Dev.finish_wcx (d : Dev) (desc : Option (Nat × Nat)) (i : ComplInfo) : (d.finish desc i).wcx = d.wcx := by unfold Dev.finish; (repeat' split) <;> simp
@[simp] theorem Dev.dropAtRing_wcx (d : Dev) (t owner : Nat) (p : Pkt) : (d.dropAtRing t owner p).wcx = d.wcx := by simp [Dev.dropAtRing]
@[simp] theorem Dev.fillBuffer_wcx (d : Dev) (t g : Nat) (p : Pkt) (b : Desc) (wrxBss : Option Nat) : (d.fillBuffer t g p b wrxBss).wcx = d.wcx := by simp [Dev.fillBuffer, apply_ite Dev.wcx]
@[simp] theorem Dev.noteDelay_wcx (d : Dev) (q since : Nat) : (d.noteDelay q since).wcx = d.wcx := by simp [Dev.noteDelay]
@[simp] theorem Dev.dropQueued_wcx (d : Dev) (t owner : Nat) (p : Pkt) : (d.dropQueued t owner p).wcx = d.wcx := by simp [Dev.dropQueued]
@[simp] theorem Dev.toRing_wcx (d : Dev) (t g : Nat) (p : Pkt) (wrxBss : Option Nat) : (d.toRing t g p wrxBss).wcx = d.wcx := by unfold Dev.toRing; dsimp only; (repeat' split) <;> simp
@[simp] theorem Dev.toMgmt_wcx (d : Dev) (t tenant bss : Nat) (p : Pkt) : (d.toMgmt t tenant bss p).wcx = d.wcx := by unfold Dev.toMgmt; split <;> simp
@[simp] theorem Dev.held_wcx (d : Dev) (r : Nat) : (d.held r).wcx = d.wcx := by simp [Dev.held, apply_ite Dev.wcx]
@[simp] theorem Dev.modPeer_wcx (d : Dev) (sid : Nat) (f : Peer → Peer) : (d.modPeer sid f).wcx = d.wcx := by simp [Dev.modPeer]
@[simp] theorem Dev.keepOriginals_wcx (d : Dev) (sid : Nat) : (d.keepOriginals sid).wcx = d.wcx := by simp [Dev.keepOriginals, apply_ite Dev.wcx]
@[simp] theorem Dev.syncBacklog_wcx (d : Dev) (sid : Nat) : (d.syncBacklog sid).wcx = d.wcx := by simp [Dev.syncBacklog]
@[simp] theorem Dev.msduDone_wcx (d : Dev) (r : Nat) (m : Msdu) (code : Nat) : (d.msduDone r m code).wcx = d.wcx := by simp [Dev.msduDone]
@[simp] theorem Dev.leftMac_wcx (d : Dev) (ten : Nat) (m : Msdu) : (d.leftMac ten m).wcx = d.wcx := by simp [Dev.leftMac]
@[simp] theorem Dev.bssOut_wcx (d : Dev) (r b : Nat) (m : Msdu) (code : Nat) : (d.bssOut r b m code).wcx = d.wcx := by simp [Dev.bssOut]
@[simp] theorem Dev.msduOut_wcx (d : Dev) (r sid : Nat) (m : Msdu) (code : Nat) : (d.msduOut r sid m code).wcx = d.wcx := by simp [Dev.msduOut]
@[simp] theorem Dev.ownFrame_wcx (d : Dev) (sid kind : Nat) : (d.ownFrame sid kind).wcx = d.wcx := by simp [Dev.ownFrame]
@[simp] theorem Dev.deliver_wcx (d : Dev) (t r sid : Nat) (h : Held) : (d.deliver t r sid h).wcx = d.wcx := by simp [Dev.deliver, apply_ite Dev.wcx]
@[simp] theorem Dev.modBa_wcx (d : Dev) (sid tid : Nat) (f : BaRx → BaRx) : (d.modBa sid tid f).wcx = d.wcx := by simp [Dev.modBa]
@[simp] theorem Dev.releaseRun_wcx (t r sid tid n : Nat) (d : Dev) : (Dev.releaseRun t r sid tid n d).wcx = d.wcx := by
  induction n generalizing d with
  | zero => rfl
  | succ n ih => unfold Dev.releaseRun; dsimp only; split <;> simp [ih]
@[simp] theorem Dev.moveWindow_wcx (d : Dev) (t r sid tid next : Nat) : (d.moveWindow t r sid tid next).wcx = d.wcx := by simp [Dev.moveWindow]
@[simp] theorem Dev.await_wcx (d : Dev) (sid : Nat) (x : RxMpdu) : (d.await sid x).wcx = d.wcx := by simp [Dev.await]
@[simp] theorem Dev.rxDrop_wcx (d : Dev) (t r b slot : Nat) : (d.rxDrop t r b slot).wcx = d.wcx := by simp [Dev.rxDrop]
@[simp] theorem Dev.rxData_wcx (d : Dev) (t r sid tid : Nat) (m : RxMpdu) (h : Held) : (d.rxData t r sid tid m h).wcx = d.wcx := by simp [Dev.rxData, apply_ite Dev.wcx]
@[simp] theorem Dev.rxSettled_wcx (d : Dev) (t r sid tid seq : Nat) (msdus : List (List Byte)) : (d.rxSettled t r sid tid seq msdus).wcx = d.wcx := by simp [Dev.rxSettled, apply_ite Dev.wcx]
@[simp] theorem Dev.endBa_wcx (d : Dev) (t r sid tid : Nat) : (d.endBa t r sid tid).wcx = d.wcx := by simp [Dev.endBa]
@[simp] theorem Dev.rxMgmt_wcx (d : Dev) (t r b sid ended : Nat) (body : List Byte) : (d.rxMgmt t r b sid ended body).wcx = d.wcx := by simp [Dev.rxMgmt, apply_ite Dev.wcx]
@[simp] theorem Dev.uapsdTrigger_wcx (d : Dev) (t sid tid : Nat) : (d.uapsdTrigger t sid tid).wcx = d.wcx := by simp [Dev.uapsdTrigger, apply_ite Dev.wcx]
@[simp] theorem Dev.twtAsked_wcx (d : Dev) (sid : Nat) (broadcast : Bool) (us startTick startBeat duration : Nat) : (d.twtAsked sid broadcast us startTick startBeat duration).wcx = d.wcx := by simp [Dev.twtAsked, apply_ite Dev.wcx]
@[simp] theorem Dev.rxKnown_wcx (d : Dev) (t r sid : Nat) (x : RxMpdu) : (d.rxKnown t r sid x).wcx = d.wcx := by unfold Dev.rxKnown; dsimp only; (repeat' split) <;> simp

end Sys2Proof.Machine
end

section
/-! PROOFS. Cipher operations and their verdicts (O42). -/
namespace Sys2Proof.Machine

/-! The scheduler (R324). -/

theorem goCipherLatch_eq (t : Nat) (op : CipherOp) {d : Dev} (hw : d.wcx.waits = []) (hc : d.coreFree = true) :
    goCipherLatch t op d = d.startOp t op := by
  have hfree : ({ d with wcx := { d.wcx with waits := [op] } } : Dev).coreFree = true := hc
  have hback : ({ d with wcx := { d.wcx with waits := [] } } : Dev) = d := by rw [← hw]
  simp only [goCipherLatch, hw, List.nil_append, List.length_nil, Dev.serveOps, hfree, nextOp, List.foldl_cons, List.foldl_nil,
    List.erase_cons_head, hback, Bool.not_true, Bool.false_eq_true, if_false]

theorem goCipherVerdict_eq (t : Nat) (b : Bool) {d : Dev} {x : CipherRun} {id : Nat} (hw : d.wcx.waits = [])
    (hx : d.wcx.runs.find? (fun y => y.id == id) = some x) : goCipherVerdict t id b d = d.settleRun t x b := by
  simp only [goCipherVerdict, hx, hw, List.length_nil, Dev.serveOps]

/-! What the parts of an operation leave of the cluster. -/

@[simp] theorem Dev.msduRefused_wcx (d : Dev) (r sid code id : Nat) : (d.msduRefused r sid code id).wcx = d.wcx := by
  unfold Dev.msduRefused; split <;> simp
@[simp] theorem Dev.txRefuse_wcx (d : Dev) (op : CipherOp) (code : Nat) : (d.txRefuse op code).wcx = d.wcx := by
  unfold Dev.txRefuse; (repeat' split) <;> simp
@[simp] theorem Dev.markEnc_wcx (d : Dev) (k : Nat) (op : CipherOp) : (d.markEnc k op).wcx = d.wcx := by
  unfold Dev.markEnc; dsimp only; (repeat' split) <;> simp
@[simp] theorem Dev.dropUnverified_wcx (d : Dev) (u : Unverified) : (d.dropUnverified u).wcx = d.wcx := rfl
@[simp] theorem Dev.unverifiedFails_wcx (d : Dev) (t : Nat) (u : Unverified) : (d.unverifiedFails t u).wcx = d.wcx := by
  unfold Dev.unverifiedFails; split <;> simp
@[simp] theorem Dev.runFails_wcx (d : Dev) (t id : Nat) : (d.runFails t id).wcx = d.wcx := by
  unfold Dev.runFails; split <;> simp
@[simp] theorem Dev.noKey_wcx (d : Dev) (t ix ten : Nat) : (d.noKey t ix ten).wcx = d.wcx := by simp [Dev.noKey]
@[simp] theorem Dev.verified_wcx (d : Dev) (t : Nat) (u : Unverified) (plain : List (List Byte)) : (d.verified t u plain).wcx = d.wcx := by
  unfold Dev.verified; dsimp only; (repeat' split) <;> simp
@[simp] theorem Dev.release_wcx (d : Dev) (t id : Nat) (op : CipherOp) (stamp : Option Nat) : (d.release t id op stamp).wcx = d.wcx := by
  unfold Dev.release; (repeat' split) <;> simp

theorem Dev.slot_congr {a b : Dev} (h : a.wcx.slots = b.wcx.slots) (n : Nat) : a.slot n = b.slot n := by unfold Dev.slot; rw [h]

/-- Counting a refusal and noting a frame's loss leave an incident bit set. -/
theorem Dev.inc_bumped_dropped_bit (d : Dev) (t b k x p q ten : Nat) (h : k < 32) :
    ((((d.inc t b k x).bump p q).dropped t ten).reg (incAddr b)).getLsbD k = true := by
  have hreg : (((d.inc t b k x).bump p q).dropped t ten).regs = (d.inc t b k x).regs := by simp [Dev.dropped]
  rw [Dev.reg_congr hreg]
  exact Dev.inc_bit _ _ _ _ _ h

theorem Dev.inc_bumped_bit (d : Dev) (t b k x p q : Nat) (h : k < 32) :
    (((d.inc t b k x).bump p q).reg (incAddr b)).getLsbD k = true := by
  rw [Dev.reg_bump]; exact Dev.inc_bit _ _ _ _ _ h

/-! TX_PN (R330). -/

theorem Dev.slot_modSlot (d : Dev) (n : Nat) (f : KeySlot → KeySlot) (j : Nat) : (d.modSlot n f).slot j = if j = n then f (d.slot n) else d.slot j := by
  unfold Dev.slot Dev.modSlot; rw [tlook_tmod]

/-- Below its largest value a transmit slot gives its PN and nothing else of the cluster changes. -/
theorem Dev.takePn_wcx {d : Dev} {n : Nat} (t : Nat) (h : (d.slot n).txPn < pnMax (d.slot n).alg) :
    (d.takePn t n).wcx = (d.modSlot n (fun x => { x with txPn := x.txPn + 1 })).wcx := by
  unfold Dev.takePn; dsimp only; rw [if_neg (by omega)]; split <;> simp

/-- The largest PN empties the slot, and says so. -/
theorem Dev.takePn_last {d : Dev} {n : Nat} (t : Nat) (h : (d.slot n).txPn = pnMax (d.slot n).alg) :
    (d.takePn t n).wcx.staged = d.wcx.staged ++ [⟨n, none, beatNo d.glb.up, none⟩] ∧ ((d.takePn t n).reg (incAddr 11)).getLsbD 6 = true := by
  unfold Dev.takePn; dsimp only; rw [if_pos h]
  refine ⟨?_, Dev.inc_bumped_bit _ _ _ _ _ _ _ (by decide)⟩
  split
  · simp [Dev.stageSlot, Dev.inc_up, Dev.modSlot]
  · simp [Dev.stageSlot, Dev.modSlot]

theorem Dev.slotLive_of_lt {d : Dev} {n : Nat} (hu : (d.slot n).used = true) (h : (d.slot n).txPn ≤ pnMax (d.slot n).alg) : d.slotLive n = true := by
  unfold Dev.slotLive; rw [hu, decide_eq_true h]; rfl

/-! A wireless transmit operation (R324, R327, R329, R330). -/

section
variable {d : Dev} {op : CipherOp} {n : Nat} (t : Nat) (hs : d.wlanTxSlot op = some n) (hu : (d.slot n).used = true) (hl : wlanLenOk (d.slot n).alg op = true)
include hs hu hl

theorem Dev.latchTx_live (hp : (d.slot n).txPn ≤ pnMax (d.slot n).alg) :
    d.latchTx t op = (((d.markEnc d.wcx.nextId op).startRun op n 0).takePn t n).bump 37 op.unit := by
  simp only [Dev.latchTx, hs, Dev.slotLive_of_lt hu hp, hl, Bool.not_true, Bool.false_eq_true, if_false]

omit hs hu hl in
theorem Dev.slot_marked_run (j : Nat) : ((d.markEnc d.wcx.nextId op).startRun op n 0).slot j = d.slot j :=
  Dev.slot_congr (by simp [Dev.startRun]) j

theorem Dev.latchTx_wcx (hp : (d.slot n).txPn < pnMax (d.slot n).alg) :
    (d.latchTx t op).wcx = { d.wcx with
      nextId := d.wcx.nextId + 1, runs := d.wcx.runs ++ [⟨d.wcx.nextId, op, n, d.slot n, 0, none, none⟩],
      slots := tmod slotReset d.wcx.slots n (fun x => { x with txPn := x.txPn + 1 }) } := by
  rw [Dev.latchTx_live t hs hu hl hp.le, Dev.bump_wcx, Dev.takePn_wcx t (by rw [Dev.slot_marked_run]; exact hp)]
  simp only [Dev.modSlot, Dev.startRun, Dev.markEnc_wcx, Dev.slot_congr (a := d.markEnc d.wcx.nextId op) (b := d) (by simp)]

theorem Dev.latchTx_last (hp : (d.slot n).txPn = pnMax (d.slot n).alg) (hup : ((d.markEnc d.wcx.nextId op).startRun op n 0).glb.up = d.glb.up) :
    (d.latchTx t op).wcx.staged = d.wcx.staged ++ [⟨n, none, beatNo d.glb.up, none⟩] ∧ ((d.latchTx t op).reg (incAddr 11)).getLsbD 6 = true := by
  rw [Dev.latchTx_live t hs hu hl hp.le, Dev.bump_wcx, Dev.reg_bump]
  obtain ⟨hst, hbit⟩ := Dev.takePn_last (d := (d.markEnc d.wcx.nextId op).startRun op n 0) t (by rw [Dev.slot_marked_run]; exact hp)
  rw [hst, hup]
  exact ⟨by simp [Dev.startRun], hbit⟩
end

theorem Dev.markEnc_glb (d : Dev) (k : Nat) (op : CipherOp) : (d.markEnc k op).glb = d.glb := by
  unfold Dev.markEnc; dsimp only; (repeat' split) <;> simp

/-! A wireless receive operation (R149, R329, R334). -/

section
variable {d : Dev} {op : CipherOp} {u : Unverified} (t : Nat) (hp : d.presented op = some u)
include hp

/-- The frame taken is among those that wait, and no operation had it. -/
theorem Dev.presented_mem : u ∈ d.mac.unverified := List.mem_of_find?_eq_some hp

theorem Dev.takeHeld_mem (k : Nat) : { u with run := some k } ∈ (d.takeHeld k u).mac.unverified :=
  List.mem_set (List.idxOf_lt_length_of_mem (Dev.presented_mem hp)) _

theorem Dev.latchRx_noKey (hk : keySlots ≤ (d.sta op.sid).ptk) :
    d.latchRx t op = (d.unverifiedFails t u).noKey t op.unit (d.heldTenant u) := by
  simp only [Dev.latchRx, hp, decide_eq_true hk, Bool.true_or, if_true]

theorem Dev.latchRx_live (hk : (d.sta op.sid).ptk < keySlots) (hu : (d.slot (d.sta op.sid).ptk).used = true)
    (hl : wlanLenOk (d.slot (d.sta op.sid).ptk).alg op = true) : d.latchRx t op =
      if holdCells < d.holdUse + cellsOf op.len then ((((d.unverifiedFails t u).step 0x7016 0 op.unit).inc t 11 4).bump 37 10).dropped t (d.heldTenant u)
      else ((d.takeHeld d.wcx.nextId u).startRun op (d.sta op.sid).ptk (cellsOf op.len)).bump 37 op.unit := by
  simp only [Dev.latchRx, hp, decide_eq_false (Nat.not_le.mpr hk), hu, hl, Bool.not_true, Bool.false_or, Bool.false_eq_true, if_false]
end

/-! Verdicts (R332). -/

/-- What a receive operation's verdict leaves of the runs, when it was the only one. -/
theorem Dev.settleRun_only {d : Dev} {x : CipherRun} (t : Nat) (b : Bool) (hr : d.wcx.runs = [x]) (hc : x.op.cls = 2 ∨ x.op.cls = 4) :
    d.settleRun t x b = ({ d with wcx := { d.wcx with runs := [{ x with verdict := some b }] } } : Dev).endRun t { x with verdict := some b } b := by
  have htx : txOp x.op = false := by unfold txOp; rcases hc with h | h <;> rw [h] <;> rfl
  have hst : sameStream x.op x.op = true := by unfold sameStream; split <;> simp
  simp [Dev.settleRun, htx, hr, Dev.endStream, hst]

section
variable (d : Dev) (t : Nat) (x : CipherRun)

theorem Dev.endRun_tagFailure : (d.endRun t x false).wcx = { d.wcx with runs := d.wcx.runs.filter (fun y => y.id != x.id) } ∧
    ((d.endRun t x false).reg (incAddr 11)).getLsbD 0 = true := by
  simp only [Dev.endRun, Bool.not_false, if_true]
  exact ⟨by simp, Dev.inc_bumped_bit _ _ _ _ _ _ _ (by decide)⟩

theorem Dev.endRun_replayed (h : replayOk (d.runSlot x) x.op = false) :
    (d.endRun t x true).wcx = { d.wcx with runs := d.wcx.runs.filter (fun y => y.id != x.id) } ∧
    ((d.endRun t x true).reg (incAddr 11)).getLsbD 1 = true := by
  simp only [Dev.endRun, Bool.not_true, Bool.false_eq_true, if_false, h, Bool.not_false, if_true]
  exact ⟨by simp, Dev.inc_bumped_dropped_bit _ _ _ _ _ _ _ _ (by decide)⟩

theorem Dev.endRun_good (h : replayOk (d.runSlot x) x.op = true) (hu : (d.slot x.slotNo).used = true) (hg : (d.slot x.slotNo).gen = x.slot.gen) :
    (d.endRun t x true).wcx = { d.wcx with
      runs := d.wcx.runs.filter (fun y => y.id != x.id)
      slots := tmod slotReset d.wcx.slots x.slotNo (fun y => { y with
        rxPn := tmod (fun _ => 0) y.rxPn (replayIx x.op) (d.advanced x.op), top := Nat.max y.top x.op.pn }) } := by
  simp only [Dev.endRun, Bool.not_true, Bool.false_eq_true, if_false, h, hu, hg, BEq.rfl, Bool.and_self, if_true, Dev.release_wcx, Dev.modSlot]
end

/-! A MACsec transmit operation (R331). -/

/-- The first element that passes a test can be replaced in its place. -/
theorem mem_set_findIdx {α : Type} {p : α → Bool} {l : List α} {x : α} (h : l.find? p = some x) (y : α) : y ∈ l.set (l.findIdx p) y :=
  List.mem_set (List.findIdx_lt_length_of_exists ⟨x, List.mem_of_find?_eq_some h, List.find?_some h⟩) _

section
variable {d : Dev} {p q k : Nat} {x : Pkt} (t : Nat) (hx : ((d.port p).queue q).find? (fun y => d.wantsSec p y) = some x)
  (hk : d.txSa p = some k) (hu : (d.slot k).used = true) (hn : (d.slot k).txPn < pnMax (d.slot k).alg)
  (h1 : 13 ≤ x.octets.length) (h2 : x.octets.length ≤ 9180)
include hx hk hu hn h1 h2

theorem Dev.latchSecTx_live : d.latchSecTx t p q =
    (((d.startRun { cls := 3, unit := p, tid := q, len := x.octets.length - 12 } k 0).takePn t k).modPort p (fun z => { z with
      queues := tput (fun _ => []) z.queues q (((d.port p).queue q).set (((d.port p).queue q).findIdx (fun y => d.wantsSec p y))
        { x with octets := protect (d.slot k) x.octets, sec := true }) })).bump 37 (3 + p) := by
  have hlen : (decide (x.octets.length - 12 < 1) || decide (9168 < x.octets.length - 12)) = false := by
    rw [decide_eq_false (by omega), decide_eq_false (by omega)]; rfl
  simp only [Dev.latchSecTx, hx, hk, Dev.slotLive_of_lt hu hn.le, Bool.not_true, Bool.false_eq_true, if_false, hlen]

theorem Dev.latchSecTx_slot : ((d.latchSecTx t p q).slot k).txPn = (d.slot k).txPn + 1 := by
  rw [Dev.latchSecTx_live t hx hk hu hn h1 h2]
  have hpn := Dev.takePn_wcx (d := d.startRun { cls := 3, unit := p, tid := q, len := x.octets.length - 12 } k 0) (n := k) t hn
  rw [Dev.slot_congr (b := (d.startRun { cls := 3, unit := p, tid := q, len := x.octets.length - 12 } k 0).modSlot k (fun x => { x with txPn := x.txPn + 1 }))
    (by rw [Dev.bump_wcx, Dev.modPort_wcx, hpn]), Dev.slot_modSlot, if_pos rfl]
  rfl

theorem Dev.latchSecTx_queue : ((d.latchSecTx t p q).port p).queue q =
    ((d.port p).queue q).set (((d.port p).queue q).findIdx (fun y => d.wantsSec p y)) { x with octets := protect (d.slot k) x.octets, sec := true } := by
  rw [Dev.latchSecTx_live t hx hk hu hn h1 h2]
  simp [Dev.port, Dev.modPort, Port.queue]
end

/-! The obligation. -/

theorem goCipherLatch_tx (t : Nat) {op : CipherOp} {d : Dev} (hw : d.wcx.waits = []) (hc : d.coreFree = true) (h : op.cls = 1) :
    goCipherLatch t op d = d.latchTx t op := by rw [goCipherLatch_eq t op hw hc]; simp only [Dev.startOp, h]

theorem goCipherLatch_rx (t : Nat) {op : CipherOp} {d : Dev} (hw : d.wcx.waits = []) (hc : d.coreFree = true) (h : op.cls = 2) :
    goCipherLatch t op d = d.latchRx t op := by rw [goCipherLatch_eq t op hw hc]; simp only [Dev.startOp, h]

theorem goCipherLatch_secTx (t : Nat) {op : CipherOp} {d : Dev} (hw : d.wcx.waits = []) (hc : d.coreFree = true) (h : op.cls = 3) :
    goCipherLatch t op d = d.latchSecTx t op.unit op.tid := by rw [goCipherLatch_eq t op hw hc]; simp only [Dev.startOp, h]

theorem goCipherLatch_secRx (t : Nat) {op : CipherOp} {d : Dev} (hw : d.wcx.waits = []) (hc : d.coreFree = true) (h : op.cls = 4) :
    goCipherLatch t op d = d.latchSecRx t op.unit op.plain := by rw [goCipherLatch_eq t op hw hc]; simp only [Dev.startOp, h]

theorem completes_latch {op : CipherOp} {s : State} {d : Dev} (h : goCipherLatch s.now op s.dev = d) : Completes (.cipherLatch op) s d :=
  completes_act (goCipherLatch · op) rfl h

theorem completes_verdict {id : Nat} {b : Bool} {s : State} {d : Dev} (h : goCipherVerdict s.now id b s.dev = d) : Completes (.cipherVerdict id b) s d :=
  completes_act (goCipherVerdict · id b) rfl h

/-- A verdict of the only run, a receive operation's, ends it. -/
theorem completes_onlyVerdict {s : State} {x : CipherRun} (b : Bool) (hw : s.dev.wcx.waits = []) (hr : s.dev.wcx.runs = [x]) (hc : x.op.cls = 2 ∨ x.op.cls = 4) :
    Completes (.cipherVerdict x.id b) s
      (({ s.dev with wcx := { s.dev.wcx with runs := [{ x with verdict := some b }] } } : Dev).endRun s.now { x with verdict := some b } b) :=
  completes_verdict (by rw [goCipherVerdict_eq (x := x) s.now b hw (by rw [hr]; simp), Dev.settleRun_only s.now b hr hc])

/-- Settles O42: with nothing waiting the scheduler starts the operation that comes, and a verdict ends its run; what the frames' own paths do leaves the cluster alone. -/
theorem cipherOperationsComplete : Obligations.CipherOperationsComplete := by
  unfold Obligations.CipherOperationsComplete
  refine ⟨?tx, ?last, ?noSlot, ?rx, ?noKey, ?noFrame, ?secTx, ?secNone, ?txEnd, ?verdict⟩
  case tx =>
    intro s op n hw hc hcls hs hu hp hl
    have hwcx := Dev.latchTx_wcx s.now hs hu hl hp
    refine ⟨_, completes_latch (goCipherLatch_tx s.now hw hc hcls), ?_, ?_, by rw [hwcx], by rw [hwcx]⟩
    · simp [Dev.slot, hwcx]
    · intro j hj; simp [Dev.slot, hwcx, hj]
  case last =>
    intro s op n hw hc hcls hs hu hp hl
    obtain ⟨hstaged, hbit⟩ := Dev.latchTx_last s.now hs hu hl hp (by rw [Dev.startRun, Dev.markEnc_glb])
    exact ⟨_, completes_latch (goCipherLatch_tx s.now hw hc hcls), hstaged, hbit⟩
  case noSlot =>
    intro s op hw hc hcls hs
    refine ⟨_, completes_latch (goCipherLatch_tx s.now hw hc hcls), ?_⟩
    simp only [Dev.latchTx, hs, Dev.txRefuse_wcx]
  case rx =>
    intro s op u hw hc hcls hp hk hu hl
    have hlatch := Dev.latchRx_live s.now hp hk hu hl
    constructor
    · intro hroom
      rw [if_neg (Nat.not_lt.mpr hroom)] at hlatch
      refine ⟨_, completes_latch ((goCipherLatch_rx s.now hw hc hcls).trans hlatch), rfl, Dev.takeHeld_mem hp _, ?_, rfl⟩
      exact List.length_set ..
    · intro hfull
      rw [if_pos hfull] at hlatch
      exact ⟨_, completes_latch ((goCipherLatch_rx s.now hw hc hcls).trans hlatch), by simp, Dev.inc_bumped_dropped_bit _ _ _ _ _ _ _ _ (by decide)⟩
  case noKey =>
    intro s op u hw hc hcls hp hk
    exact ⟨_, completes_latch ((goCipherLatch_rx s.now hw hc hcls).trans (Dev.latchRx_noKey s.now hp hk)), by simp, Dev.inc_bumped_dropped_bit _ _ _ _ _ _ _ _ (by decide)⟩
  case noFrame =>
    intro s op hw hc hcls hp
    exact completes_latch ((goCipherLatch_rx s.now hw hc hcls).trans (by simp only [Dev.latchRx, hp]))
  case secTx =>
    intro s op x k hw hc hcls hx hk hu hp h1 h2
    refine ⟨_, completes_latch (goCipherLatch_secTx s.now hw hc hcls), Dev.latchSecTx_slot s.now hx hk hu hp h1 h2, ?_, ?_⟩
    · rw [Dev.latchSecTx_queue s.now hx hk hu hp h1 h2]; exact mem_set_findIdx hx _
    · rw [Dev.latchSecTx_queue s.now hx hk hu hp h1 h2, List.length_set]
  case secNone =>
    intro s op hw hc hcls hx
    exact completes_latch ((goCipherLatch_secRx s.now hw hc hcls).trans (by simp only [Dev.latchSecRx, hx]))
  case txEnd =>
    intro s x b hw hx hcls
    have htx : txOp x.op = true := by unfold txOp; rcases hcls with h | h <;> rw [h] <;> rfl
    refine ⟨_, completes_verdict ((goCipherVerdict_eq s.now b hw hx).trans (by rw [Dev.settleRun, if_pos htx])), rfl, ?_⟩
    intro y hy
    obtain ⟨hmem, hne⟩ := List.mem_filter.mp hy
    exact ⟨by simpa using hne, hmem⟩
  case verdict =>
    rintro s x id hw hr rfl hcls
    refine ⟨?_, ?_, ?_⟩
    · obtain ⟨hwcx, hbit⟩ := Dev.endRun_tagFailure { s.dev with wcx := { s.dev.wcx with runs := [{ x with verdict := some false }] } } s.now { x with verdict := some false }
      exact ⟨_, completes_onlyVerdict false hw hr hcls, by rw [hwcx]; simp, by rw [hwcx], hbit⟩
    · intro hold
      obtain ⟨hwcx, hbit⟩ := Dev.endRun_replayed { s.dev with wcx := { s.dev.wcx with runs := [{ x with verdict := some true }] } } s.now { x with verdict := some true } hold
      exact ⟨_, completes_onlyVerdict true hw hr hcls, by rw [hwcx]; simp, by rw [hwcx], hbit⟩
    · intro hnew hu hg
      have hwcx := Dev.endRun_good { s.dev with wcx := { s.dev.wcx with runs := [{ x with verdict := some true }] } } s.now { x with verdict := some true } hnew hu hg
      refine ⟨_, completes_onlyVerdict true hw hr hcls, by rw [hwcx]; simp, ?_, ?_⟩
      · simp [Dev.slot, hwcx]; rfl
      · intro j hj; simp [Dev.slot, hwcx, hj]

end Sys2Proof.Machine
end

section
/-! PROOFS. The seal lock and the runs of the seal engine (O43). -/
namespace Sys2Proof.Machine

/-! A response keeps what is flagged. -/

section
variable {d : Dev} {a i : Nat} (t : Nat) (h : (d.reg a).getLsbD i = true)
include h

theorem Dev.noteDrop_keeps (crew k m : Nat) : ((d.noteDrop t crew k m).reg a).getLsbD i = true := by
  unfold Dev.noteDrop
  split
  · rw [Dev.reg_bump]; exact Dev.inc_keeps (d.memFault crew 4 m) t 15 3 crew h
  · rw [Dev.reg_bump]; exact Dev.inc_keeps (d.memFault crew 3 m) t 15 2 crew h

theorem Dev.backlotWords_keeps (m o : Nat) (l : List Word) : ((d.backlotWords t m o l).reg a).getLsbD i = true := by
  induction l generalizing d o with
  | nil => exact h
  | cons w l ih =>
    unfold Dev.backlotWords
    apply ih
    split
    · rw [Dev.reg_congr (Dev.backlotPut_regs ..)]; exact h
    · exact Dev.noteDrop_keeps t h ..

theorem Dev.respond_keeps (p : Pend) (st : Status) (body : List Word) : ((d.respond t p st body).reg a).getLsbD i = true := by
  unfold Dev.respond; dsimp only
  split
  · split
    · exact h
    · exact h
  · split
    · exact Dev.backlotWords_keeps t h ..
    · exact Dev.backlotWords_keeps t h ..
  · exact h
end

/-! The lock (R335, R336). -/

theorem Dev.sealClaim_free {d : Dev} {m : Master} (hh : d.sealEng.held = false) (hc : d.claimed .seal 0 = false) :
    d.sealClaim m = (true, (({ d with sealEng := { held := true, owner := m.code, since := d.glb.up } } : Dev).claim .seal 0).bump 38 3) := by
  simp only [Dev.sealClaim, hh, hc, Bool.or_self, Bool.false_eq_true, if_false]

theorem Dev.sealClaim_taken {d : Dev} {m : Master} (h : d.sealEng.held = true ∨ d.claimed .seal 0 = true) : d.sealClaim m = (false, d.bump 38 4) := by
  rw [Dev.sealClaim, if_pos (Bool.or_eq_true_iff.mpr h)]

theorem Dev.sealLetGo_owner {d : Dev} {m : Master} (ho : d.ownsSeal m = true) (hr : d.sealRunning = false) : d.sealLetGo m = (true, { d with sealEng := {} }) := by
  simp only [Dev.sealLetGo, ho, hr, Bool.not_false, Bool.and_self, if_true]

theorem Dev.sealLetGo_refused {d : Dev} {m : Master} (h : d.ownsSeal m = false ∨ d.sealRunning = true) : d.sealLetGo m = (false, d) := by
  rw [Dev.sealLetGo, if_neg]
  rcases h with h | h <;> simp [h]

section
variable {s : State} {f : Nat} {req : List Word} (ha : Admitted s.dev f req 2) (hv : resv (wd req 1) [(63, 1)] = false)
include ha hv

/-- What SEAL_LOCK_OP does with an admitted request. -/
theorem goSealLockOp_admitted (t : Nat) (hj : ∀ j, s.dev.sealEng.job = some j → j.pend.caller ≠ .fn f) :
    goSealLockOp t (.fn f) req s.dev = (s.dev.taken f req).sealLockAnswer t ⟨.fn f, reqTag req, 0x720⟩ (nbit (wd req 1).toNat 0) := by
  unfold goSealLockOp
  rw [Dev.mbx_admitted t _ _ ha (by simp [fixedSpec]) (by simp [fixedSpec]) (by simp [fixedSpec, hv])]
  dsimp only
  rw [Dev.taken_sealEng]
  split
  next j hjob => rw [if_neg (hj j hjob)]; rfl
  next => rfl

theorem goSealLockOp_held (t : Nat) {j : SealJob} (hjob : s.dev.sealEng.job = some j) (hj : j.pend.caller = .fn f) :
    goSealLockOp t (.fn f) req s.dev =
      ({ s.dev.taken f req with sealEng := { s.dev.sealEng with heldOps := s.dev.sealEng.heldOps ++ [(⟨.fn f, reqTag req, 0x720⟩, nbit (wd req 1).toNat 0)] } } : Dev).respond
        t ⟨.fn f, reqTag req, 0x720⟩ .pending [] := by
  unfold goSealLockOp
  rw [Dev.mbx_admitted t _ _ ha (by simp [fixedSpec]) (by simp [fixedSpec]) (by simp [fixedSpec, hv])]
  dsimp only
  rw [Dev.taken_sealEng, hjob]
  dsimp only
  rw [if_pos hj]; rfl

omit ha hv in
/-- An answer given in a device that left the functions as they were, and what it leaves of the engine. -/
theorem sealLockOp_gives {e : Dev} {st : Status} (hgo : goSealLockOp s.now (.fn f) req s.dev = e.respond s.now ⟨.fn f, reqTag req, 0x720⟩ st [])
    (he : e.fns = (s.dev.taken f req).fns) {x : Seal} (hx : e.sealEng = x) :
    ∃ d, Completes (.sealLockOp f req) s d ∧ Answered s.dev d s.now f req 0x720 st [] ∧ d.sealEng = x :=
  ⟨_, completes_act (goSealLockOp · (.fn f) req) rfl hgo, Dev.answered_of he, (Dev.respond_sealEng ..).trans hx⟩
end

/-- The lock is taken away (R336). -/
theorem Dev.sealForced_kept (d : Dev) (t : Nat) : (d.sealForced t).sealEng = {} ∧ ((d.sealForced t).reg (incAddr 12)).getLsbD 1 = true := by
  have hbit := Dev.inc_bumped_bit ({ d with sealEng := {} } : Dev) t 12 1 0 38 5 (by decide)
  unfold Dev.sealForced; dsimp only
  split
  · exact ⟨by simp, Dev.respond_keeps t hbit ..⟩
  · exact ⟨by simp, hbit⟩

/-! Runs (R336, R343). -/

/-- START is in the word that SEAL_START writes, and the settings are those of its operand. -/
theorem sealStart_word (v : Reg) : (v ||| 0x80000000).getLsbD 31 = true ∧ (v ||| 0x80000000) &&& 0x3FF = v &&& 0x3FF := by
  constructor
  · simp
  · ext i hi; simp only [BitVec.getElem_and, BitVec.getElem_or]
    interval_cases i <;> simp

theorem Dev.sealError_kept (d : Dev) (t code : Nat) : (d.sealError t code).sealEng = { d.sealEng with state := 3, err := code, job := none } ∧
    ((d.sealError t code).reg (incAddr 12)).getLsbD 2 = true ∧ (d.sealError t code).fns = d.fns :=
  ⟨by simp [Dev.sealError], Dev.inc_bumped_bit _ _ _ _ _ _ _ (by decide), by simp [Dev.sealError]⟩

section
variable {d : Dev} {m : Master} (t : Nat) (v : Reg)

theorem goSealStart_stranger (ho : d.ownsSeal m = false) : goSealStart t m v d = d.sealStranger t := by
  simp only [goSealStart, Dev.sealCtrl, ho, Bool.not_false, if_true]

theorem goSealStart_running (ho : d.ownsSeal m = true) (hr : d.sealRunning = true) :
    goSealStart t m v d = { d with sealEng := { d.sealEng with ctrl := v &&& 0x3FF } } := by
  obtain ⟨hstart, hset⟩ := sealStart_word v
  simp only [goSealStart, Dev.sealCtrl, ho, hstart, hset, hr, Bool.not_true, Bool.false_or, Bool.true_or, Bool.false_eq_true, if_false, if_true]

theorem goSealStart_owner (ho : d.ownsSeal m = true) (hr : d.sealRunning = false) (hq : d.gaf.quiesced.testBit 4 = false) {e : Seal}
    (he : e = { d.sealEng with ctrl := v &&& 0x3FF }) :
    goSealStart t m v d = if sealFault e ≠ 0 then ({ d with sealEng := e } : Dev).sealError t (sealFault e) else { d with sealEng := e.begin } := by
  obtain ⟨hstart, hset⟩ := sealStart_word v
  subst he
  simp only [goSealStart, Dev.sealCtrl, ho, hstart, hset, hr, hq, Bool.not_true, Bool.or_self, Bool.false_eq_true, if_false]
end

/-- The key words that a SEAL_RUN carries. -/
def sealRunKeys (req : List Word) : Table Reg :=
  (List.range 32).foldl (fun k i => tput (fun _ => (0 : Reg)) k i (BitVec.ofNat 32 (ofLe (((wordOctets (req.drop 3)).drop (4 * i)).take 4)))) []

/-- The engine as a SEAL_RUN begins its run. -/
def Seal.ran (e : Seal) (p : Pend) (req : List Word) (msg : Option (List Byte)) : Seal :=
  { ({ e with key := sealRunKeys req, ctrl := packR [(fld (wd req 1) 55 48, 8, 0), (b2n (nbit (wd req 1).toNat 56), 1, 8)] } : Seal).begin with
    job := some ⟨p, ((msg.getD []) ++ List.replicate (fld (wd req 1) 24 0) 0).take (fld (wd req 1) 24 0), nbit (wd req 1).toNat 57,
      (wordOctets (req.drop 19)).take 48, msg.isSome⟩ }

theorem goSealRun_granted {d : Dev} {f : Nat} {req : List Word} (t : Nat) (msg : Option (List Byte)) (ha : Admitted d f req 25)
    (hv : resv (wd req 1) [(63, 58), (47, 25)] = false) (ho : d.ownsSeal (.fn f) = true) (hr : d.sealRunning = false) (hq : d.gaf.quiesced.testBit 4 = false)
    (hl : fld (wd req 1) 24 0 ≤ 16777216) (hk : fld (wd req 1) 55 48 ≤ (if nbit (wd req 1).toNat 56 then 128 else 64)) :
    goSealRun t (.fn f) req msg d =
      { (d.taken f req).respond t ⟨.fn f, reqTag req, 0x721⟩ .pending [] with sealEng := d.sealEng.ran ⟨.fn f, reqTag req, 0x721⟩ req msg } := by
  have ho' : (d.taken f req).ownsSeal (.fn f) = true := ho
  have hr' : (d.taken f req).sealRunning = false := hr
  have hq' : (d.taken f req).gaf.quiesced.testBit 4 = false := hq
  unfold goSealRun
  rw [Dev.mbx_admitted t _ _ ha (by simp [fixedSpec]) (by simp [fixedSpec]) (by simp [fixedSpec, hv])]
  dsimp only
  rw [ho', hr', hq', decide_eq_false (Nat.not_lt.mpr hl), decide_eq_false (Nat.not_lt.mpr hk), Dev.respond_sealEng]
  rfl

/-! The end of a run (R336, R343). -/

theorem goSealDone_register {d : Dev} (t : Nat) (b : Bool) (hr : d.sealRunning = true) (hh : d.sealEng.heldOps = []) (hj : d.sealEng.job = none) :
    goSealDone t b d = if b || (d.mem.hbmFailed && !d.sealEng.runCtrl.getLsbD 9) then d.sealError t 4 else d.sealResult d.sealSource := by
  have hback : ({ d with sealEng := { d.sealEng with heldOps := [] } } : Dev) = d := by rw [← hh]
  rw [goSealDone, hr, Bool.not_true, if_neg Bool.false_ne_true]
  simp only [hh, hback]
  rw [hj]; rfl

theorem goSealDone_job {d : Dev} {j : SealJob} (t : Nat) (b : Bool) (hr : d.sealRunning = true) (hh : d.sealEng.heldOps = []) (hj : d.sealEng.job = some j) :
    goSealDone t b d = if j.dmaOk then (d.sealResult j.msg).sealReply t j else (d.sealError t 2).respond t j.pend .timeout [] := by
  have hback : ({ d with sealEng := { d.sealEng with heldOps := [] } } : Dev) = d := by rw [← hh]
  rw [goSealDone, hr, Bool.not_true, if_neg Bool.false_ne_true]
  simp only [hh, hback]
  rw [hj]; rfl

/-- A response joins those that wait for the function's area. -/
theorem Dev.respond_waiting {d e : Dev} {f tag op t : Nat} {st : Status} {body : List Word} (he : e.fns = d.fns) (h : (d.fn f).tags.contains tag = true) :
    ((e.respond t ⟨.fn f, tag, op⟩ st body).fn f).waiting =
      (d.fn f).waiting ++ [⟨respHeader tag (1 + body.length) st.code op :: body, decide (st ≠ .pending), beatNo t⟩] := by
  have hfn : e.fn f = d.fn f := Dev.fn_congr he f
  rw [Dev.respond_fn (by rw [hfn]; exact h), Dev.fn_modFn, if_pos rfl, hfn]

section
variable {d : Dev} {j : SealJob} {f tag : Nat} (t : Nat) (hp : j.pend = ⟨.fn f, tag, 0x721⟩) (htag : (d.fn f).tags.contains tag = true) {mac : List Byte}
  (hmac : mac = sealMac (d.sealEng.runCtrl.getLsbD 8) d.sealEng.keyBytes j.msg)
include hp htag hmac

theorem Dev.sealReply_good (h : j.compare = false ∨ mac = j.expect.take mac.length) :
    ((d.sealResult j.msg).sealReply t j).sealEng = (d.sealResult j.msg).sealEng ∧
    (((d.sealResult j.msg).sealReply t j).fn f).waiting = (d.fn f).waiting ++ [⟨respHeader tag 7 0 0x721 :: octetWords 6 mac, true, beatNo t⟩] := by
  have hm : (d.sealResult j.msg).sealEng.mac = mac := hmac.symm
  have hno : (j.compare && decide (mac ≠ j.expect.take mac.length)) = false := by
    rcases h with h | h
    · rw [h, Bool.false_and]
    · rw [decide_eq_false (fun hne => hne h), Bool.and_false]
  unfold Dev.sealReply; dsimp only
  rw [hm, hno, hp]
  rw [if_neg Bool.false_ne_true]
  refine ⟨Dev.respond_sealEng .., ?_⟩
  rw [Dev.respond_waiting (d := d) (e := d.sealResult j.msg) rfl htag]; rfl

theorem Dev.sealReply_mismatch (h : j.compare = true) (hne : mac ≠ j.expect.take mac.length) :
    ((d.sealResult j.msg).sealReply t j).sealEng = (d.sealResult j.msg).sealEng ∧
    (((d.sealResult j.msg).sealReply t j).fn f).waiting = (d.fn f).waiting ++ [⟨[respHeader tag 1 13 0x721], true, beatNo t⟩] := by
  have hm : (d.sealResult j.msg).sealEng.mac = mac := hmac.symm
  unfold Dev.sealReply; dsimp only
  rw [hm, h, decide_eq_true hne, hp, Bool.and_self, if_pos rfl]
  refine ⟨(Dev.respond_sealEng ..).trans (Dev.bump_sealEng ..), ?_⟩
  rw [Dev.respond_waiting (d := d) (e := (d.sealResult j.msg).bump 38 7) rfl htag]; rfl
end

theorem completes_sealDone {s : State} {b : Bool} {d : Dev} (h : goSealDone s.now b s.dev = d) : Completes (.sealDone b) s d :=
  completes_act (goSealDone · b) rfl h

/-! The obligation. -/

/-- Settles O43, from what the lock's operations and a run's start and end leave of the engine. -/
theorem sealEngineCompletes : Obligations.SealEngineCompletes := by
  unfold Obligations.SealEngineCompletes
  refine ⟨⟨?lock, ?others, ?mailbox, ?overdue, ?inTime⟩, ⟨?start, ?stranger, ?busy, ?run, ?done, ?idle⟩⟩
  case lock =>
    intro s m hm
    refine ⟨fun hh hc => ?_, fun h => ?_, fun ho hr => ?_, fun h => ?_⟩
    · refine ⟨_, completes_act (fun _ => goSealAcquire m) rfl (by rw [goSealAcquire, if_pos hm, Dev.sealClaim_free hh hc]), rfl, ?_, rfl⟩
      simp [Dev.claimed, Dev.claim]
    · exact ⟨_, completes_act (fun _ => goSealAcquire m) rfl (by rw [goSealAcquire, if_pos hm, Dev.sealClaim_taken h]), rfl⟩
    · exact ⟨_, completes_act (fun _ => goSealRelease m) rfl (by rw [goSealRelease, if_pos hm, Dev.sealLetGo_owner ho hr]), rfl⟩
    · exact completes_act (fun _ => goSealRelease m) rfl (by rw [goSealRelease, if_pos hm, Dev.sealLetGo_refused h])
  case others =>
    intro s m hm
    exact ⟨completes_act (fun _ => goSealAcquire m) rfl (by rw [goSealAcquire, hm, if_neg Bool.false_ne_true]),
      completes_act (fun _ => goSealRelease m) rfl (by rw [goSealRelease, hm, if_neg Bool.false_ne_true])⟩
  case mailbox =>
    intro s f req ha hv
    refine ⟨fun hj hop hh hc => ?_, fun hj hop hh => ?_, fun hj hop ho hr => ?_, fun hj hop ho => ?_, fun j hjob hj => ?_⟩
    · have hgo := goSealLockOp_admitted ha hv s.now hj
      rw [hop, Dev.sealLockAnswer, if_neg Bool.false_ne_true, Dev.sealClaim_free (d := s.dev.taken f req) hh ((Dev.taken_claimed s.dev f req .seal 0).trans hc)] at hgo
      exact sealLockOp_gives hgo rfl rfl
    · have hgo := goSealLockOp_admitted ha hv s.now hj
      rw [hop, Dev.sealLockAnswer, if_neg Bool.false_ne_true, Dev.sealClaim_taken (d := s.dev.taken f req) (.inl hh)] at hgo
      exact sealLockOp_gives hgo rfl rfl
    · have hgo := goSealLockOp_admitted ha hv s.now hj
      rw [hop, Dev.sealLockAnswer, if_pos rfl, Dev.sealLetGo_owner (d := s.dev.taken f req) ho hr] at hgo
      exact sealLockOp_gives hgo rfl rfl
    · have hgo := goSealLockOp_admitted ha hv s.now hj
      rw [hop, Dev.sealLockAnswer, if_pos rfl, Dev.sealLetGo_refused (d := s.dev.taken f req) (.inl ho)] at hgo
      exact sealLockOp_gives hgo rfl rfl
    · obtain ⟨d, hc, hans, hd⟩ := sealLockOp_gives (goSealLockOp_held ha hv s.now hjob hj) rfl rfl
      exact ⟨d, hc, hd, hans⟩
  case overdue =>
    intro s ho hh
    obtain ⟨hseal, hbit⟩ := s.dev.sealForced_kept s.now
    exact ⟨_, completes_act goSealHoldExpiry rfl (by rw [goSealHoldExpiry, if_pos ho, hh]; rfl), hseal, hbit⟩
  case inTime =>
    intro s ho
    exact completes_act goSealHoldExpiry rfl (by rw [goSealHoldExpiry, ho, if_neg Bool.false_ne_true])
  case start =>
    intro s m v e ho hr hq he
    have hgo := goSealStart_owner s.now v ho hr hq he
    refine ⟨fun hok => ?_, fun hbad => ?_⟩
    · rw [if_neg (not_not.mpr hok)] at hgo
      exact ⟨_, completes_act (goSealStart · m v) rfl hgo, rfl⟩
    · rw [if_pos hbad] at hgo
      obtain ⟨hseal, hbit, -⟩ := ({ s.dev with sealEng := e } : Dev).sealError_kept s.now (sealFault e)
      exact ⟨_, completes_act (goSealStart · m v) rfl hgo, hseal, hbit⟩
  case stranger =>
    intro s m v ho
    exact ⟨_, completes_act (goSealStart · m v) rfl (goSealStart_stranger s.now v ho), by simp [Dev.sealStranger], Dev.inc_bumped_bit _ _ _ _ _ _ _ (by decide)⟩
  case busy =>
    intro s m v ho hr
    exact ⟨_, completes_act (goSealStart · m v) rfl (goSealStart_running s.now v ho hr), rfl⟩
  case run =>
    intro s f req msg ha hv ho hr hq hl hk
    have hans : Answered s.dev ((s.dev.taken f req).respond s.now ⟨.fn f, reqTag req, 0x721⟩ .pending []) s.now f req 0x721 .pending [] := Dev.answered_of rfl
    have hheld : s.dev.sealEng.held = true := (Bool.and_eq_true_iff.mp ho).1
    exact ⟨_, completes_act (goSealRun · (.fn f) req msg) rfl (goSealRun_granted s.now msg ha hv ho hr hq hl hk), hans.of_fns rfl, rfl, hheld, rfl, rfl,
      _, rfl, rfl, rfl, rfl⟩
  case done =>
    intro s hr hh
    refine ⟨fun hj hm => ?_, fun hj => ?_, fun j f tag hj hp htag => ⟨fun mac hmac hdma => ⟨fun h => ?_, fun hcmp hne => ?_⟩, fun hdma => ?_⟩⟩
    · exact ⟨_, completes_sealDone ((goSealDone_register s.now false hr hh hj).trans (if_neg (by rw [hm]; simp))), rfl, rfl, rfl, rfl, rfl⟩
    · obtain ⟨hseal, hbit, -⟩ := s.dev.sealError_kept s.now 4
      exact ⟨_, completes_sealDone ((goSealDone_register s.now true hr hh hj).trans (if_pos rfl)), by rw [hseal], by rw [hseal], hbit⟩
    · obtain ⟨hseal, hwait⟩ := Dev.sealReply_good s.now hp htag hmac h
      exact ⟨_, completes_sealDone ((goSealDone_job s.now false hr hh hj).trans (if_pos hdma)), by rw [hseal]; rfl, by rw [hseal]; exact hmac.symm, by rw [hseal]; rfl, hwait⟩
    · obtain ⟨hseal, hwait⟩ := Dev.sealReply_mismatch s.now hp htag hmac hcmp hne
      exact ⟨_, completes_sealDone ((goSealDone_job s.now false hr hh hj).trans (if_pos hdma)), by rw [hseal]; rfl, hwait⟩
    · obtain ⟨hseal, -, hfns⟩ := s.dev.sealError_kept s.now 2
      refine ⟨_, completes_sealDone ((goSealDone_job s.now false hr hh hj).trans (by rw [hdma, if_neg Bool.false_ne_true])), ?_, ?_⟩
      · rw [Dev.respond_sealEng, hseal]
      · rw [hp, Dev.respond_waiting hfns htag]; rfl
  case idle =>
    intro s b hr
    exact completes_sealDone (by rw [goSealDone, hr]; rfl)

end Sys2Proof.Machine
end

section
/-! PROOFS. The check-value units (O44) and the check value of a record (O59). -/
namespace Sys2Proof.Machine

/-! The settings of a write (R339). -/

/-- START, FINISH and RESTORE are not among the settings. -/
theorem Chk.set_or (c : Chk) (v : Reg) {x : Reg} (hx : x = 0x80000000 ∨ x = 0x40000000 ∨ x = 0x20000000) : c.set (v ||| x) = c.set v := by
  have hpoly : rfld (v ||| x) 1 0 = rfld v 1 0 := by
    unfold rfld nbits
    rw [BitVec.toNat_or, Nat.shiftRight_zero, Nat.shiftRight_zero, Nat.or_mod_two_pow]
    rcases hx with rfl | rfl | rfl <;> exact Nat.or_zero _
  rw [Chk.set, hpoly]
  rcases hx with rfl | rfl | rfl <;> simp [Chk.set]

theorem Chk.feed_running {c : Chk} (h : c.state = 1) (l : List Byte) :
    c.feed l = { c with rem := crcFeeds c.poly c.rem l, count := (c.count + l.length) % 2 ^ 32 } := if_pos h

theorem Chk.feed_idle {c : Chk} (h : c.state ≠ 1) (l : List Byte) : c.feed l = c := if_neg h

theorem Dev.modChk_modChk (d : Dev) (n : Nat) (f g : Chk → Chk) :
    ((d.modChk n f).modChk n g).chkUnit n = g (f (d.chkUnit n)) := by
  rw [Dev.chkUnit_modChk, if_pos rfl, Dev.chkUnit_modChk, if_pos rfl]

/-! A unit's owner writes (R338, R339). -/

section
variable {d : Dev} {m : Master} {n : Nat} (t : Nat) (v : Reg) (ho : d.ownsChk m n = true)
include ho

theorem goChkStart_owner (h30 : v.getLsbD 30 = false) (h29 : v.getLsbD 29 = false) :
    goChkStart t m n v d = (d.modChk n (fun c => c.set v)).modChk n Chk.start := by
  have hset : (fun c : Chk => c.set (v ||| 0x80000000)) = fun c => c.set v := funext fun c => c.set_or v (.inl rfl)
  have hbits : (v ||| 0x80000000).getLsbD 31 = true ∧ (v ||| 0x80000000).getLsbD 30 = false ∧ (v ||| 0x80000000).getLsbD 29 = false := by simp only [BitVec.getLsbD_or, h30, h29]; simp
  obtain ⟨b31, b30, b29⟩ := hbits
  rw [goChkStart, Dev.chkWrite, if_pos ho, Dev.chkCtrl, b31, b30, b29, hset]

theorem goChkStart_both (h30 : v.getLsbD 30 = true) : goChkStart t m n v d = d := by
  have hbits : (v ||| 0x80000000).getLsbD 31 = true ∧ (v ||| 0x80000000).getLsbD 30 = true := by simp only [BitVec.getLsbD_or, h30]; simp
  obtain ⟨b31, b30⟩ := hbits
  rw [goChkStart, Dev.chkWrite, if_pos ho, Dev.chkCtrl, b31, b30]

theorem goChkFinish_owner (h31 : v.getLsbD 31 = false) (h29 : v.getLsbD 29 = false) :
    goChkFinish t m n v d = (d.modChk n (fun c => c.set v)).chkEnd t n := by
  have hset : (fun c : Chk => c.set (v ||| 0x40000000)) = fun c => c.set v := funext fun c => c.set_or v (.inr (.inl rfl))
  have hbits : (v ||| 0x40000000).getLsbD 31 = false ∧ (v ||| 0x40000000).getLsbD 30 = true ∧ (v ||| 0x40000000).getLsbD 29 = false := by simp only [BitVec.getLsbD_or, h31, h29]; simp
  obtain ⟨b31, b30, b29⟩ := hbits
  rw [goChkFinish, Dev.chkWrite, if_pos ho, Dev.chkCtrl, b31, b30, b29, hset]

theorem goChkRestore_owner (h31 : v.getLsbD 31 = false) (h30 : v.getLsbD 30 = false) :
    goChkRestore t m n v d = (d.modChk n (fun c => c.set v)).modChk n Chk.restore := by
  have hset : (fun c : Chk => c.set (v ||| 0x20000000)) = fun c => c.set v := funext fun c => c.set_or v (.inr (.inr rfl))
  have hbits : (v ||| 0x20000000).getLsbD 31 = false ∧ (v ||| 0x20000000).getLsbD 30 = false ∧ (v ||| 0x20000000).getLsbD 29 = true := by simp only [BitVec.getLsbD_or, h31, h30]; simp
  obtain ⟨b31, b30, b29⟩ := hbits
  rw [goChkRestore, Dev.chkWrite, if_pos ho, Dev.chkCtrl, b31, b30, b29, hset]

theorem goChkData_owner : goChkData t m n v d = d.modChk n (fun c => c.feed (leBytes v.toNat 4)) := if_pos ho

theorem goChkDataPart_owner : goChkDataPart t m n v d = d.modChk n (fun c => c.feed (leBytes (rfld v 23 0) (rfld v 25 24))) := if_pos ho
end

/-- A stranger's write is noted, and changes no unit (R338). -/
theorem Dev.chkWrite_stranger {d : Dev} {m : Master} {n : Nat} (t : Nat) (g : Dev → Dev) (ho : d.ownsChk m n = false) (hn : n < 8) :
    (d.chkWrite t m n g).chk = d.chk ∧ ((d.chkWrite t m n g).reg (incAddr 13)).getLsbD (8 + n) = true := by
  rw [Dev.chkWrite, ho, if_neg Bool.false_ne_true]
  exact ⟨Dev.inc_chk .., Dev.inc_bit d t 13 _ 0 (by omega)⟩

/-! FINISH (R339, R341). -/

theorem Chk.finish_agrees {c : Chk} (h : c.compare = false ∨ (c.rem ^^^ crcFinal c.poly) = c.expect.toNat) : c.finish =
    { c with state := 2, result := c.rem ^^^ crcFinal c.poly, restored := false, mismatch := if c.compare then false else c.mismatch } := by
  rcases h with h | h <;> simp [Chk.finish, h]

/-- A unit that agrees with what it expects, or does not compare, ends with its result. -/
theorem Dev.chkEnd_agrees {d : Dev} {n : Nat} (t : Nat)
    (h : (d.chkUnit n).compare = false ∨ ((d.chkUnit n).rem ^^^ crcFinal (d.chkUnit n).poly) = (d.chkUnit n).expect.toNat) :
    d.chkEnd t n = (d.modChk n (fun _ => (d.chkUnit n).finish)).bump 39 n := by
  have hno : ((d.chkUnit n).finish.compare && (d.chkUnit n).finish.mismatch) = false := by
    rcases h with h | h
    · simp [Chk.finish, h]
    · simp +contextual [Chk.finish, h]
  rw [Dev.chkEnd]
  rw [hno, if_neg Bool.false_ne_true]

/-- A unit that does not agree with what it expects reports the mismatch. -/
theorem Dev.chkEnd_mismatch {d : Dev} {n : Nat} (t : Nat) (hc : (d.chkUnit n).compare = true)
    (h : ((d.chkUnit n).rem ^^^ crcFinal (d.chkUnit n).poly) ≠ (d.chkUnit n).expect.toNat) :
    d.chkEnd t n = ((d.modChk n (fun _ => (d.chkUnit n).finish)).bump 39 n).chkMismatch t n := by
  have hyes : ((d.chkUnit n).finish.compare && (d.chkUnit n).finish.mismatch) = true := by simp [Chk.finish, hc, h]
  rw [Dev.chkEnd]
  rw [hyes, if_pos rfl]

/-! What a mismatch leaves of its unit, and what it reports (R341). -/

theorem Dev.chkMismatch_unit (d : Dev) (t n : Nat) : (d.chkMismatch t n).chkUnit n = { d.chkUnit n with mismatch := true } := by
  obtain ⟨mgr, rgm, h⟩ := Dev.mismatchIrq_eq
    ((((d.modChk n (fun c => { c with mismatch := true })).step 0x7030 0 n).inc t 13 n).bump 39 (8 + n)) (d.chkUnit n).owner
  rw [Dev.chkMismatch, h]
  simp [Dev.chkUnit, Dev.modChk]

theorem Dev.chkMismatch_bit (d : Dev) (t : Nat) {n : Nat} (hn : n < 32) : ((d.chkMismatch t n).reg (incAddr 13)).getLsbD n = true := by
  obtain ⟨mgr, rgm, h⟩ := Dev.mismatchIrq_eq
    ((((d.modChk n (fun c => { c with mismatch := true })).step 0x7030 0 n).inc t 13 n).bump 39 (8 + n)) (d.chkUnit n).owner
  rw [Dev.chkMismatch, h]
  exact Dev.inc_bumped_bit ((d.modChk n (fun c => { c with mismatch := true })).step 0x7030 0 n) t 13 n 0 39 (8 + n) hn

theorem Dev.chkMismatch_core (d : Dev) (t n : Nat) {j : Nat} (ho : (d.chkUnit n).owner = (Master.crew j).code) (hj : j < 24) :
    ((d.chkMismatch t n).core j).mipMismatch = true := by
  have hcode : (Master.crew j).code = 0x20 + j := rfl
  rw [Dev.chkMismatch, ho, hcode, Dev.mismatchIrq, if_neg (by omega), if_neg (by simp; omega), Nat.add_sub_cancel_left]
  exact congrArg Core.mipMismatch ((tlook_tmod coreReset _ j (fun k => { k with mipMismatch := true }) j).trans (if_pos rfl))

/-- FINISH gives the result, whatever it is compared with. -/
theorem Dev.chkEnd_result (d : Dev) (t n : Nat) :
    ((d.chkEnd t n).chkUnit n).state = 2 ∧ ((d.chkEnd t n).chkUnit n).result = (d.chkUnit n).rem ^^^ crcFinal (d.chkUnit n).poly := by
  have hfin : ((d.modChk n (fun _ => (d.chkUnit n).finish)).bump 39 n).chkUnit n = (d.chkUnit n).finish :=
    (d.chkUnit_modChk n n _).trans (if_pos rfl)
  rw [Dev.chkEnd]
  split
  · rw [Dev.chkMismatch_unit, hfin]; exact ⟨rfl, rfl⟩
  · rw [hfin]; exact ⟨rfl, rfl⟩

/-! The obligation O44. -/

/-- A unit as its new owner has it. -/
def Chk.taken (m : Master) (c : Chk) : Chk := { c with held := true, owner := m.code }

theorem Dev.chkUnit_other {d : Dev} {n j : Nat} (f g : Chk → Chk) (hj : j ≠ n) : ((d.modChk n f).modChk n g).chkUnit j = d.chkUnit j := by
  rw [Dev.chkUnit_modChk, if_neg hj, Dev.chkUnit_modChk, if_neg hj]

/-- Settles O44, from what each owner's write does to its unit. -/
theorem checkUnitsComplete : Obligations.CheckUnitsComplete := by
  unfold Obligations.CheckUnitsComplete
  refine ⟨?acquire, ?refused, ?release, ?owner, ?stranger⟩
  case acquire =>
    intro s m n hm hh hc
    refine ⟨(s.dev.modChk n (Chk.taken m)).claim .chk n, completes_act (fun _ => goChkAcquire m n) rfl (by rw [goChkAcquire, hm, hh, hc]; exact if_neg (by decide)), (s.dev.chkUnit_modChk n n (Chk.taken m)).trans (if_pos rfl),
      fun j hj => (s.dev.chkUnit_modChk n j (Chk.taken m)).trans (if_neg hj), rfl⟩
  case refused =>
    intro s m n h
    refine completes_act (fun _ => goChkAcquire m n) rfl (if_pos ?_)
    rcases h with h | h | h <;> simp [h]
  case release =>
    intro s m n hm ho
    refine ⟨_, completes_act (fun _ => goChkRelease m n) rfl (by rw [goChkRelease, hm, ho]; exact if_pos rfl), (s.dev.chkUnit_modChk n n _).trans (if_pos rfl),
      fun j hj => (s.dev.chkUnit_modChk n j _).trans (if_neg hj), rfl⟩
  case owner =>
    rintro s m n v u c ho rfl rfl
    have hset : (s.dev.modChk n (fun c => c.set v)).chkUnit n = (s.dev.chkUnit n).set v := (s.dev.chkUnit_modChk n n _).trans (if_pos rfl)
    refine ⟨fun h30 h29 => ?_, fun h30 => ?_, fun h31 h30 => ?_, fun h31 h29 hn => ⟨fun h => ?_, fun hc h => ?_⟩, fun h1 => ?_, fun h1 => ?_, fun h1 => ?_⟩
    · exact ⟨_, completes_act (goChkStart · m n v) rfl (goChkStart_owner s.now v ho h30 h29), s.dev.modChk_modChk n _ _, fun j hj => Dev.chkUnit_other _ _ hj, rfl⟩
    · exact completes_act (goChkStart · m n v) rfl (goChkStart_both s.now v ho h30)
    · exact ⟨_, completes_act (goChkRestore · m n v) rfl (goChkRestore_owner s.now v ho h31 h30), s.dev.modChk_modChk n _ _, rfl⟩
    · have hend := Dev.chkEnd_agrees (d := s.dev.modChk n (fun c => c.set v)) s.now (by rw [hset]; exact h)
      refine ⟨_, completes_act (goChkFinish · m n v) rfl ((goChkFinish_owner s.now v ho h31 h29).trans hend), ?_, rfl⟩
      refine ((Dev.chkUnit_modChk _ n n _).trans (if_pos rfl)).trans ?_
      rw [hset]; exact Chk.finish_agrees h
    · have hend := Dev.chkEnd_mismatch (d := s.dev.modChk n (fun c => c.set v)) s.now (by rw [hset]; exact hc) (by rw [hset]; exact h)
      have hfin : (((s.dev.modChk n (fun c => c.set v)).modChk n (fun _ => ((s.dev.modChk n (fun c => c.set v)).chkUnit n).finish)).bump 39 n).chkUnit n =
          ((s.dev.chkUnit n).set v).finish := ((Dev.chkUnit_modChk _ n n _).trans (if_pos rfl)).trans (by rw [hset])
      refine ⟨_, completes_act (goChkFinish · m n v) rfl ((goChkFinish_owner s.now v ho h31 h29).trans hend), ?_, ?_, Dev.chkMismatch_bit _ _ (by omega), ?_⟩
      · rw [Dev.chkMismatch_unit]
      · rw [Dev.chkMismatch_unit, hfin]; rfl
      · rintro j rfl hj
        refine Dev.chkMismatch_core _ _ _ ?_ hj
        rw [hfin]
        exact beq_iff_eq.mp (Bool.and_eq_true_iff.mp ho).2
    · exact ⟨_, completes_act (goChkData · m n v) rfl (goChkData_owner s.now v ho), ((s.dev.chkUnit_modChk n n _).trans (if_pos rfl)).trans (Chk.feed_running h1 _), rfl⟩
    · exact ⟨_, completes_act (goChkDataPart · m n v) rfl (goChkDataPart_owner s.now v ho), ((s.dev.chkUnit_modChk n n _).trans (if_pos rfl)).trans (Chk.feed_running h1 _), rfl⟩
    · exact ⟨_, completes_act (goChkData · m n v) rfl (goChkData_owner s.now v ho), ((s.dev.chkUnit_modChk n n _).trans (if_pos rfl)).trans (Chk.feed_idle h1 _), rfl⟩
  case stranger =>
    intro s m n v c ho hn hc
    simp only [List.mem_cons, List.not_mem_nil, or_false] at hc
    have hstranger := fun g => Dev.chkWrite_stranger s.now g ho hn
    rcases hc with rfl | rfl | rfl | rfl | rfl
    · exact ⟨_, completes_act (goChkStart · m n v) rfl rfl, hstranger _⟩
    · exact ⟨_, completes_act (goChkFinish · m n v) rfl rfl, hstranger _⟩
    · exact ⟨_, completes_act (goChkRestore · m n v) rfl rfl, hstranger _⟩
    · exact ⟨_, completes_act (goChkData · m n v) rfl rfl, hstranger _⟩
    · exact ⟨_, completes_act (goChkDataPart · m n v) rfl rfl, hstranger _⟩

/-! A record (R339). -/

theorem crcFeeds_append (poly r : Nat) (a b : List Byte) : crcFeeds poly r (a ++ b) = crcFeeds poly (crcFeeds poly r a) b := by
  induction a generalizing r with
  | nil => rfl
  | cons x a ih => exact ih _

theorem plays_cons {c : Instr} {s : State} {d : Dev} (h : Completes c s d) (l : List Instr) : plays (c :: l) s = plays l { s with dev := d } := by
  rw [Completes] at h; rw [plays, h]

theorem plays_append {l : List Instr} {s e : State} (h : plays l s = .next e) (l' : List Instr) : plays (l ++ l') s = plays l' e := by
  induction l generalizing s with
  | nil => rw [plays] at h; cases h; rfl
  | cons c l ih =>
    rw [plays] at h
    rw [List.cons_append, plays]
    split at h
    next m hm => exact ih h
    next => cases h
    next => cases h

/-- Unit `n` runs for its owner `m` with polynomial `p` and register `r`. -/
structure Dev.ChkRuns (d : Dev) (m : Master) (n p r : Nat) : Prop where
  owned : d.ownsChk m n = true
  running : (d.chkUnit n).state = 1
  poly : (d.chkUnit n).poly = p
  rem : (d.chkUnit n).rem = r

/-- The octets of one data write: part of a word, or all four. -/
def chkOctets (w : Bool × Reg) : List Byte := if w.1 then leBytes (rfld w.2 23 0) (rfld w.2 25 24) else leBytes w.2.toNat 4

theorem Dev.ChkRuns.fed {d : Dev} {m : Master} {n p r : Nat} (h : d.ChkRuns m n p r) (l : List Byte) :
    (d.modChk n (fun c => c.feed l)).ChkRuns m n p (crcFeeds p r l) := by
  have hunit : (d.modChk n (fun c => c.feed l)).chkUnit n = _ := ((d.chkUnit_modChk n n _).trans (if_pos rfl)).trans (Chk.feed_running h.running l)
  obtain ⟨howned, hrun, hpoly, hrem⟩ := h
  refine ⟨?_, by rw [hunit]; exact hrun, by rw [hunit]; exact hpoly, by rw [hunit, ← hpoly, ← hrem]⟩
  rw [Dev.ownsChk, hunit]; exact howned

/-- The data writes of a running unit feed it their octets, in order. -/
theorem plays_data {m : Master} {n p : Nat} (ws : List (Bool × Reg)) {s : State} {r : Nat} (h : s.dev.ChkRuns m n p r) :
    ∃ e, plays (ws.map (fun w => if w.1 then Instr.chkDataPart m n w.2 else Instr.chkData m n w.2)) s = .next e ∧
      e.dev.ChkRuns m n p (crcFeeds p r (ws.flatMap chkOctets)) := by
  induction ws generalizing s r with
  | nil => exact ⟨s, rfl, h⟩
  | cons w ws ih =>
    have hstep : Completes (if w.1 then Instr.chkDataPart m n w.2 else Instr.chkData m n w.2) s (s.dev.modChk n (fun c => c.feed (chkOctets w))) := by
      obtain ⟨part, v⟩ := w
      cases part with
      | true => exact completes_act (goChkDataPart · m n v) rfl (goChkDataPart_owner s.now v h.owned)
      | false => exact completes_act (goChkData · m n v) rfl (goChkData_owner s.now v h.owned)
    obtain ⟨e, hplays, hruns⟩ := ih (s := { s with dev := _ }) (h.fed (chkOctets w))
    refine ⟨e, (plays_cons hstep _).trans hplays, ?_⟩
    rw [List.flatMap_cons, crcFeeds_append]; exact hruns

/-- START folds what AF and SF ask for into the initial value. -/
theorem crcStart_eq (p : Nat) (af sf : Bool) (addr seq : Nat) :
    crcStart p af sf addr seq = crcFeeds p (crcInit p) ((if af then leBytes addr 6 else []) ++ (if sf then leBytes seq 2 else [])) := by
  rw [crcFeeds_append, crcStart]
  cases af <;> cases sf <;> rfl

/-- Settles O59: START folds, each data write feeds its octets, and FINISH gives the register with the final value. -/
theorem theCheckValueOfARecord : Obligations.TheCheckValueOfARecord := by
  unfold Obligations.TheCheckValueOfARecord
  rintro s m n v ws u ho rfl h31 h30 h29
  have hstart : Completes (.chkStart m n v) s ((s.dev.modChk n (fun c => c.set v)).modChk n Chk.start) :=
    completes_act (goChkStart · m n v) rfl (goChkStart_owner s.now v ho h30 h29)
  have hunit := s.dev.modChk_modChk n (fun c => c.set v) Chk.start
  have hruns : ((s.dev.modChk n (fun c => c.set v)).modChk n Chk.start).ChkRuns m n (rfld v 1 0)
      (crcStart (rfld v 1 0) (v.getLsbD 4) (v.getLsbD 5) (rfld (s.dev.chkUnit n).foldHi 15 0 * 2 ^ 32 + (s.dev.chkUnit n).foldLo.toNat) (rfld (s.dev.chkUnit n).foldHi 31 16)) :=
    ⟨by rw [Dev.ownsChk, hunit]; exact ho, by rw [hunit]; rfl, by rw [hunit]; rfl, by rw [hunit]; rfl⟩
  obtain ⟨e, hplays, howned, hrun, hpoly, hrem⟩ := plays_data ws (s := { s with dev := (s.dev.modChk n (fun c => c.set v)).modChk n Chk.start }) hruns
  have hfinish : Completes (.chkFinish m n v) e ((e.dev.modChk n (fun c => c.set v)).chkEnd e.now n) :=
    completes_act (goChkFinish · m n v) rfl (goChkFinish_owner e.now v howned h31 h29)
  obtain ⟨hstate, hresult⟩ := (e.dev.modChk n (fun c => c.set v)).chkEnd_result e.now n
  have hset : (e.dev.modChk n (fun c => c.set v)).chkUnit n = (e.dev.chkUnit n).set v := (e.dev.chkUnit_modChk n n _).trans (if_pos rfl)
  refine ⟨{ e with dev := (e.dev.modChk n (fun c => c.set v)).chkEnd e.now n }, ?_, hstate, ?_⟩
  · rw [List.singleton_append, List.cons_append, plays_cons hstart, plays_append hplays, plays_cons hfinish]; rfl
  · rw [hresult, hset, Chk.set]
    dsimp only
    rw [hrem, crcStart_eq, ← crcFeeds_append]; rfl

end Sys2Proof.Machine
end

section
/-! PROOFS. Task requests, ends and faults (O45). -/
namespace Sys2Proof.Machine

/-! Contexts and ready lists after a change (R349, R350). -/

@[simp] theorem Dev.ctx_modCtx (d : Dev) (k j : Nat) (f : Ctx → Ctx) : (d.modCtx k f).ctx j = if j = k then f (d.ctx k) else d.ctx j := by
  simp [Dev.ctx, Dev.modCtx]
@[simp] theorem Dev.ctx_modList (d : Dev) (p j : Nat) (f : List Nat → List Nat) : (d.modList p f).ctx j = d.ctx j := rfl
@[simp] theorem Dev.ctx_modCore (d : Dev) (c j : Nat) (f : Core → Core) : (d.modCore c f).ctx j = d.ctx j := rfl
@[simp] theorem Dev.readyList_modList (d : Dev) (p q : Nat) (f : List Nat → List Nat) :
    (d.modList p f).readyList q = if q = p then f (d.readyList p) else d.readyList q := by
  simp [Dev.readyList, Dev.modList]
@[simp] theorem Dev.readyList_modCtx (d : Dev) (k q : Nat) (f : Ctx → Ctx) : (d.modCtx k f).readyList q = d.readyList q := rfl
@[simp] theorem Dev.readyList_modCore (d : Dev) (c q : Nat) (f : Core → Core) : (d.modCore c f).readyList q = d.readyList q := rfl
@[simp] theorem Dev.core_modCtx (d : Dev) (k c : Nat) (f : Ctx → Ctx) : (d.modCtx k f).core c = d.core c := rfl
@[simp] theorem Dev.core_modList (d : Dev) (p c : Nat) (f : List Nat → List Nat) : (d.modList p f).core c = d.core c := rfl
@[simp] theorem Dev.taskPrio_modCtx (d : Dev) (k j : Nat) (f : Ctx → Ctx) : (d.modCtx k f).taskPrio j = d.taskPrio j := rfl
@[simp] theorem Dev.taskPrio_modCore (d : Dev) (c j : Nat) (f : Core → Core) : (d.modCore c f).taskPrio j = d.taskPrio j := rfl

@[simp] theorem Dev.ctx_bump (d : Dev) (b i n j : Nat) : (d.bump b i n).ctx j = d.ctx j := rfl
@[simp] theorem Dev.readyList_bump (d : Dev) (b i n q : Nat) : (d.bump b i n).readyList q = d.readyList q := rfl

/-- Two devices that differ in the Ringmaster at most. -/
def OnlyRgm (d e : Dev) : Prop := ∃ r, e = { d with rgm := r }

theorem OnlyRgm.refl (d : Dev) : OnlyRgm d d := ⟨d.rgm, rfl⟩
theorem OnlyRgm.trans {d e f : Dev} (h : OnlyRgm d e) (g : OnlyRgm e f) : OnlyRgm d f := by
  obtain ⟨r, rfl⟩ := h; obtain ⟨q, rfl⟩ := g; exact ⟨q, rfl⟩
theorem OnlyRgm.bumped {d e : Dev} (h : OnlyRgm d e) (b k : Nat) : e.bump b k = { d with rgm := (e.bump b k).rgm, counts := (e.bump b k).counts } := by
  obtain ⟨r, rfl⟩ := h; rfl
theorem OnlyRgm.of_bumped {d e a : Dev} {b k : Nat} (h : OnlyRgm d e) (g : OnlyRgm (e.bump b k) a) : a = { d with rgm := a.rgm, counts := a.counts } := by
  obtain ⟨r, rfl⟩ := h; obtain ⟨q, rfl⟩ := g; rfl
theorem Dev.modCtx_onlyRgm (d : Dev) (k : Nat) (f : Ctx → Ctx) : OnlyRgm d (d.modCtx k f) := ⟨_, rfl⟩
theorem Dev.modList_onlyRgm (d : Dev) (p : Nat) (f : List Nat → List Nat) : OnlyRgm d (d.modList p f) := ⟨_, rfl⟩
theorem Dev.modCore_onlyRgm (d : Dev) (c : Nat) (f : Core → Core) : OnlyRgm d (d.modCore c f) := ⟨_, rfl⟩
theorem Dev.enlist_onlyRgm (d : Dev) (k : Nat) (front : Bool) : OnlyRgm d (d.enlist k front) := (d.modCtx_onlyRgm ..).trans (Dev.modList_onlyRgm ..)

/-- A task that joins its list. -/
theorem Dev.enlist_kept (d : Dev) (k : Nat) (front : Bool) :
    (∀ j, (d.enlist k front).ctx j = if j = k then { d.ctx k with st := .ready } else d.ctx j) ∧
    (∀ q, (d.enlist k front).readyList q =
      if q = d.taskPrio k then (if front then k :: d.readyList (d.taskPrio k) else d.readyList (d.taskPrio k) ++ [k]) else d.readyList q) ∧
    (∀ c, (d.enlist k front).core c = d.core c) := by
  refine ⟨fun j => ?_, fun q => ?_, fun c => rfl⟩
  · simp [Dev.enlist]
  · simp [Dev.enlist]

/-- The lists of `l` lose a task; the others stand. -/
theorem Dev.readyList_unlisted (k q : Nat) (l : List Nat) (d : Dev) :
    (l.foldl (fun e p => e.modList p (fun x => x.filter (fun j => j != k))) d).readyList q =
      if q ∈ l then (d.readyList q).filter (fun j => j != k) else d.readyList q := by
  induction l generalizing d with
  | nil => simp
  | cons p l ih =>
    rw [List.foldl_cons, ih, Dev.readyList_modList]
    by_cases hp : q = p <;> by_cases hl : q ∈ l <;> simp [hp, hl, List.filter_filter]

/-- What a core no longer asks for: a request made for task `k` stands for no task (R356). -/
def Core.unasked (k : Nat) (x : Core) : Core :=
  match x.preempt with
  | some (j, b) => if j = k then { x with preempt := some (4096, b) } else x
  | none => x

theorem Core.unasked_hart (k : Nat) (x : Core) : (x.unasked k).hart = x.hart := by
  unfold Core.unasked; split
  · split <;> rfl
  · rfl

theorem Dev.delist_eq (d : Dev) (k : Nat) : d.delist k =
    (List.range 24).foldl (fun e c => e.modCore c (Core.unasked k)) ((List.range 8).foldl (fun e p => e.modList p (fun l => l.filter (fun j => j != k))) d) := rfl

/-- A task that leaves READY is off its list; no context changes, and no core's hart. -/
theorem Dev.delist_kept (d : Dev) (k : Nat) :
    (d.delist k).rgm.ctx = d.rgm.ctx ∧ (∀ p, p < 8 → (d.delist k).readyList p = (d.readyList p).filter (fun j => j != k)) ∧
    (∀ c, ((d.delist k).core c).hart = (d.core c).hart) := by
  rw [Dev.delist_eq]
  refine ⟨?_, fun p hp => ?_, fun c => ?_⟩
  · rw [foldl_keeps (obs := fun e : Dev => e.rgm.ctx) (by intro _ _; rfl), foldl_keeps (obs := fun e : Dev => e.rgm.ctx) (by intro _ _; rfl)]
  · rw [foldl_keeps (obs := fun e : Dev => e.readyList p) (by intro _ _; rfl), Dev.readyList_unlisted, if_pos (List.mem_range.mpr hp)]
  · have hcore : ∀ (e : Dev) (i : Nat), ((e.modCore i (Core.unasked k)).core c).hart = (e.core c).hart := by
      intro e i
      rw [Dev.core_modCore]; split
      next h => rw [Core.unasked_hart, h]
      next => rfl
    rw [foldl_keeps (obs := fun e : Dev => (e.core c).hart) hcore, foldl_keeps (obs := fun e : Dev => (e.core c).hart) (by intro _ _; rfl)]

/-! A request's outcome (R351). -/

section
variable (d : Dev) (m : Master) (st : Status) (k : Nat)

theorem Dev.result_onlyRgm : OnlyRgm d (d.result m st k) := by
  unfold Dev.result; split
  · exact d.modCore_onlyRgm ..
  · exact .refl d

theorem Dev.result_frame : ∃ core, d.result m st k = { d with rgm := { d.rgm with core := core } } := by
  unfold Dev.result; split <;> exact ⟨_, rfl⟩

theorem Dev.result_ctx (j : Nat) : (d.result m st k).ctx j = d.ctx j := by obtain ⟨core, h⟩ := d.result_frame m st k; rw [h]; rfl
theorem Dev.result_readyList (p : Nat) : (d.result m st k).readyList p = d.readyList p := by obtain ⟨core, h⟩ := d.result_frame m st k; rw [h]; rfl
theorem Dev.result_rgmCtx : (d.result m st k).rgm.ctx = d.rgm.ctx := by obtain ⟨core, h⟩ := d.result_frame m st k; rw [h]
theorem Dev.result_lists : (d.result m st k).rgm.lists = d.rgm.lists := by obtain ⟨core, h⟩ := d.result_frame m st k; rw [h]
theorem Dev.result_regs : (d.result m st k).regs = d.regs := by obtain ⟨core, h⟩ := d.result_frame m st k; rw [h]
theorem Dev.result_claimed (r : Resource) (n : Nat) : (d.result m st k).claimed r n = d.claimed r n := by obtain ⟨core, h⟩ := d.result_frame m st k; rw [h]; rfl

/-- A core's request shows its status and its task in the core's result. -/
theorem Dev.result_core : ∀ c, m = .crew c → ((d.result m st k).core c).status = st.code ∧ ((d.result m st k).core c).resTask = k := by
  rintro c rfl
  rw [Dev.result, Dev.core_modCore, if_pos rfl]; exact ⟨rfl, rfl⟩
end

theorem Dev.taskRequest_open {d : Dev} {m : Master} {task : Nat} (h : Nat → Dev → Status × Dev) (hu : d.inUser m = false ∨ 1024 ≤ task % 4096) :
    d.taskRequest m task h = (h (task % 4096) d).2.result m (h (task % 4096) d).1 (task % 4096) := by
  have hno : (d.inUser m && decide (task % 4096 < 1024)) = false := by
    rcases hu with hu | hu
    · rw [hu, Bool.false_and]
    · rw [decide_eq_false (Nat.not_lt.mpr hu), Bool.and_false]
  rw [Dev.taskRequest]; dsimp only
  rw [hno, if_neg Bool.false_ne_true]

theorem Dev.taskRequest_shut {d : Dev} {m : Master} {task : Nat} (h : Nat → Dev → Status × Dev) (hu : d.inUser m = true) (hk : task % 4096 < 1024) :
    d.taskRequest m task h = d.result m .notPermitted (task % 4096) := by
  rw [Dev.taskRequest]; dsimp only
  rw [hu, decide_eq_true hk, Bool.and_self, if_pos rfl]

/-! What the Ringmaster does for a request (R351 to R353). -/

/-- The device with a ready of task `k` taken. -/
def Dev.readyTaken (d : Dev) (k : Nat) : Dev := { (d.bump 40 8).claim .task k with rgm := { d.rgm with readied := k :: d.rgm.readied } }

theorem OnlyRgm.of_readyTaken {d e : Dev} {k : Nat} (h : OnlyRgm (d.readyTaken k) e) :
    e = { d with rgm := e.rgm, counts := e.counts, claims := e.claims } := by
  obtain ⟨r, rfl⟩ := h; rfl

section
variable {d : Dev} {k : Nat}

theorem Dev.readyTask_free (h : (d.ctx k).st = .free) : d.readyTask k = (.wrongState, d) := by rw [Dev.readyTask, if_pos h]

section
variable (ha : d.taskAffinity k ≠ 0) (hcls : d.taskClass k ≠ 3)
include ha hcls

theorem Dev.readyTask_busy (hc : d.claimed .task k = true) (h : (d.ctx k).st ≠ .free) : d.readyTask k = (.busy, d.bump 40 15) := by
  rw [Dev.readyTask, if_neg h, if_neg (by simp [ha, hcls]), if_pos hc]

variable (hc : d.claimed .task k = false) (hx : d.cancelledNow k = false)
include hc hx

theorem Dev.readyTask_idle (h : (d.ctx k).st = .idle) : d.readyTask k = (.ok, (d.readyTaken k).enlist k false) := by
  rw [Dev.readyTask, if_neg (by rw [h]; decide), if_neg (by simp [ha, hcls]), hc, if_neg Bool.false_ne_true]; dsimp only
  rw [hx, if_neg Bool.false_ne_true, h]; rfl

theorem Dev.readyTask_running (h : (d.ctx k).st = .running) : d.readyTask k = (.ok, (d.readyTaken k).modCtx k (fun x => { x with pend := true })) := by
  rw [Dev.readyTask, if_neg (by rw [h]; decide), if_neg (by simp [ha, hcls]), hc, if_neg Bool.false_ne_true]; dsimp only
  rw [hx, if_neg Bool.false_ne_true, h]; rfl
end

/-- A cancel is noted, and counted; one of a task readied in this beat is counted too. -/
theorem Dev.cancelTask_eq (h : (d.ctx k).st ≠ .free) : ∃ e : Dev, e.rgm = { d.rgm with cancelled := k :: d.rgm.cancelled } ∧ d.cancelTask k =
    match (d.ctx k).st with
    | .ready => (.ok, (e.delist k).modCtx k (fun x => { x with st := .idle }))
    | .running => (.ok, e.modCtx k (fun x => { x with pend := false }))
    | _ => (.ok, e) := by
  rw [Dev.cancelTask, if_neg h]; dsimp only
  refine ⟨_, ?_, rfl⟩
  split <;> simp

theorem Dev.cancelTask_free (h : (d.ctx k).st = .free) : d.cancelTask k = (.wrongState, d) := by rw [Dev.cancelTask, if_pos h]

theorem Dev.freeTask_idle (h : (d.ctx k).st = .idle) : d.freeTask k = (.ok, (d.modCtx k (fun x => { x with st := .free })).bump 40 17) := by rw [Dev.freeTask, if_pos h]

theorem Dev.freeTask_free (h : (d.ctx k).st = .free) : d.freeTask k = (.wrongState, d) := by rw [Dev.freeTask, if_neg (by rw [h]; decide)]
end

theorem Dev.ctx_congr {a b : Dev} (h : a.rgm.ctx = b.rgm.ctx) (j : Nat) : a.ctx j = b.ctx j := by unfold Dev.ctx; rw [h]
theorem Dev.readyList_congr {a b : Dev} (h : a.rgm.lists = b.rgm.lists) (p : Nat) : a.readyList p = b.readyList p := by unfold Dev.readyList; rw [h]

/-! Ends (R355). -/

/-- A core that its task has left. -/
def Core.freed (x : Core) : Core :=
  { x with task := none, resume := false, preempt := none, late := false, mipDispatch := false, hart := { x.hart with user := false, resv := none } }

theorem Dev.freeTheCore_eq (d : Dev) (c : Nat) : d.freeTheCore c = d.modCore c Core.freed := rfl

section
variable {d : Dev} {c : Nat} (t code : Nat)

theorem Dev.endTask_halted (h : (d.core c).halted = true) : d.endTask t c code = d := if_pos h

theorem Dev.endTask_none (hh : (d.core c).halted = false) (ht : (d.core c).task = none) : d.endTask t c code = d.inc t 14 1 := by
  rw [Dev.endTask, hh, if_neg Bool.false_ne_true, ht]

theorem Dev.endTask_unasked (hh : (d.core c).halted = false) (hp : (d.core c).preempt = none) : d.endTask t c 3 = d.inc t 14 1 := by
  rw [Dev.endTask, hh, if_neg Bool.false_ne_true, hp]
  split <;> rfl

section
variable {k : Nat} (ht : (d.core c).task = some k) (hh : (d.core c).halted = false) (hx : d.cancelledNow k = false)
include ht hh hx

theorem Dev.endTask_done : d.endTask t c 1 = (if (d.ctx k).pend then ((d.modCore c Core.freed).modCtx k (fun x => { x with pend := false })).enlist k false
    else ((d.modCore c Core.freed).modCtx k (fun x => { x with pend := false })).modCtx k (fun x => { x with st := .idle })).bump 40 14 := by
  have hx' : ((d.modCore c Core.freed).modCtx k (fun x => { x with pend := false })).cancelledNow k = false := hx
  rw [Dev.endTask, hh, if_neg Bool.false_ne_true, ht]
  simp only [Dev.freeTheCore_eq, Dev.leaveRun, hx', Bool.not_false, Bool.and_true, Nat.reduceEqDiff, decide_false, Bool.false_and, Bool.false_eq_true, if_false]

theorem Dev.endTask_yield : d.endTask t c 2 = ((d.modCore c Core.freed).enlist k false).bump 40 13 := by
  have hx' : (d.modCore c Core.freed).cancelledNow k = false := hx
  rw [Dev.endTask, hh, if_neg Bool.false_ne_true, ht]
  simp only [Dev.freeTheCore_eq, Dev.leaveRun, hx', Bool.not_false, Bool.and_true, Nat.reduceEqDiff, decide_false, Bool.false_and, Bool.false_eq_true, if_false, if_true]

theorem Dev.endTask_preempted (hp : (d.core c).preempt.isSome = true) : d.endTask t c 3 =
    ((((d.modCore c Core.freed).modCtx k (fun x => { x with saved := true, save := (d.core c).hart })).enlist k true).step 0x8043).bump 40 12 := by
  have hx' : ((d.modCore c Core.freed).modCtx k (fun x => { x with saved := true, save := (d.core c).hart })).cancelledNow k = false := hx
  have hasked : (d.core c).preempt.isNone = false := by rw [← Option.not_isSome, hp]; rfl
  rw [Dev.endTask, hh, if_neg Bool.false_ne_true, ht]
  simp only [Dev.freeTheCore_eq, Dev.leaveRun, hx', hasked, Bool.and_false, Bool.not_false, Bool.and_true, Bool.false_eq_true, if_false, if_true]

/-- What DONE leaves of the task and of its core. -/
theorem Dev.endTask_done_kept : (d.endTask t c 1).ctx k = { d.ctx k with st := if (d.ctx k).pend then .ready else .idle, pend := false } ∧
    (d.endTask t c 1).core c = (d.core c).freed := by
  rw [Dev.endTask_done t ht hh hx, Dev.ctx_bump, Dev.core_bump]
  split
  case isTrue h =>
    obtain ⟨hctx, -, hcore⟩ := ((d.modCore c Core.freed).modCtx k (fun x => { x with pend := false })).enlist_kept k false
    rw [hctx, hcore]; simp
  case isFalse h => simp
end
end

/-! A fault of a U-mode task (R347). -/

/-- Logging a fault of a U-mode task flags it, and leaves the Ringmaster. -/
theorem Dev.logUserFault_kept (d : Dev) (t addr : Nat) : (d.logUserFault t addr).rgm = d.rgm ∧ ((d.logUserFault t addr).reg (incAddr 14)).getLsbD 5 = true := by
  have hbit := d.inc_bit t 14 5 addr (by decide)
  unfold Dev.logUserFault
  split
  · refine ⟨by simp, ?_⟩
    rw [Dev.reg_congr (Dev.logBit_regs ..)]; exact hbit
  · exact ⟨by simp, hbit⟩

section
variable {d : Dev} {c k : Nat} (t cause addr : Nat) (ht : (d.core c).task = some k) (hh : (d.core c).halted = false) (hx : d.cancelledNow k = false) (hu : d.inUser (.crew c) = true)
include ht hh hx hu

/-- The task ends as by DONE, on a core that has trapped. -/
theorem Dev.userFault_kept : ((d.userFault t c cause addr).core c).task = none ∧ ((d.userFault t c cause addr).reg (incAddr 14)).getLsbD 5 = true ∧
    ((d.userFault t c cause addr).core c).hart = { (d.core c).hart.trap cause addr with resv := none } ∧
    ((d.userFault t c cause addr).ctx k).st = (if (d.ctx k).pend then .ready else .idle) := by
  have hcore : (d.coreFault (.crew c) cause addr).core c = { d.core c with hart := (d.core c).hart.trap cause addr } := by simp [Dev.coreFault]
  have hctx : (d.coreFault (.crew c) cause addr).ctx k = d.ctx k := rfl
  obtain ⟨hk, hc⟩ := Dev.endTask_done_kept (d := d.coreFault (.crew c) cause addr) t (by rw [hcore]; exact ht) (by rw [hcore]; exact hh) hx
  obtain ⟨hrgm, hbit⟩ := ((d.coreFault (.crew c) cause addr).endTask t c 1).logUserFault_kept t addr
  rw [hcore] at hc
  rw [hctx] at hk
  rw [Dev.userFault, hu]; dsimp only
  rw [if_pos rfl, Dev.core_congr hrgm, Dev.ctx_congr (congrArg Rgm.ctx hrgm), hc, hk]
  exact ⟨rfl, hbit, rfl, rfl⟩
end

/-! The obligation. -/

section
variable {s : State} {m : Master} {task k : Nat} {st : Status} {e : Dev} (hk : k = task % 4096) (hu : s.dev.inUser m = false ∨ 1024 ≤ k)
include hk hu

theorem completes_ready (h : s.dev.readyTask k = (st, e)) : Completes (.ready m (.task task)) s (e.result m st k) := by
  subst hk; exact completes_act (fun _ => goReady m (.task task)) rfl (by rw [goReady, Dev.taskRequest_open _ hu, h])

theorem completes_cancel (h : s.dev.cancelTask k = (st, e)) : Completes (.cancel m task) s (e.result m st k) := by
  subst hk; exact completes_act (fun _ => goCancel m task) rfl (by rw [goCancel, Dev.taskRequest_open _ hu, h])

theorem completes_free (h : s.dev.freeTask k = (st, e)) : Completes (.free m task) s (e.result m st k) := by
  subst hk; exact completes_act (fun _ => goFree m task) rfl (by rw [goFree, Dev.taskRequest_open _ hu, h])
end

/-- The lowest free context (R352). -/
theorem find_free {d : Dev} {k : Nat} (h1 : 1024 ≤ k) (h2 : k < 4096) (hk : (d.ctx k).st = .free) (hlow : ∀ j, 1024 ≤ j → j < k → (d.ctx j).st ≠ .free) :
    (List.range' 1024 3072).find? (fun k => decide ((d.ctx k).st = .free)) = some k := by
  rw [List.find?_range'_eq_some]
  refine ⟨decide_eq_true hk, List.mem_range'_1.mpr ⟨h1, by omega⟩, fun j hj1 hj2 => ?_⟩
  rw [decide_eq_false (hlow j hj1 hj2)]; rfl

/-- Settles O45, from what each request and each end does to the task, its list and its core. -/
theorem tasksComplete : Obligations.TasksComplete := by
  unfold Obligations.TasksComplete
  refine ⟨⟨?requests, ?user, ?alloc, ?full, ?badOp⟩, ⟨?ends, ?halted, ?idle, ?unasked⟩⟩
  case requests =>
    intro s m task k hk hu
    refine ⟨fun ha hcls hc hx hst => ?_, fun ha hcls hc hx hst => ?_, fun ha hcls hc hst => ?_, fun hst => ?_, fun hst => ?_, fun hst => ?_, fun hst c hc => ?_⟩
    · obtain ⟨hctx, hlist, -⟩ := (s.dev.readyTaken k).enlist_kept k false
      refine ⟨_, completes_ready hk hu (Dev.readyTask_idle ha hcls hc hx hst), ?_, ?_, fun j hj => ?_, fun p hp => ?_, Dev.result_core _ _ _ _, ?_, ?_⟩
      · rw [Dev.result_ctx, hctx, if_pos rfl]; rfl
      · rw [Dev.result_readyList, hlist]; exact if_pos rfl
      · rw [Dev.result_ctx, hctx, if_neg hj]; rfl
      · rw [Dev.result_readyList, hlist]; exact if_neg hp
      · rw [Dev.result_claimed]; simp [Dev.claimed, Dev.claim, Dev.enlist, Dev.readyTaken, Dev.modList, Dev.modCtx]
      · exact OnlyRgm.of_readyTaken (((s.dev.readyTaken k).enlist_onlyRgm k false).trans (Dev.result_onlyRgm _ m .ok k))
    · refine ⟨_, completes_ready hk hu (Dev.readyTask_running ha hcls hc hx hst), ?_, fun p => ?_, ?_⟩
      · rw [Dev.result_ctx, Dev.ctx_modCtx, if_pos rfl]; rfl
      · rw [Dev.result_readyList]; rfl
      · rw [Dev.result_claimed]; simp [Dev.claimed, Dev.claim, Dev.readyTaken, Dev.modCtx]
    · exact ⟨_, completes_ready hk hu (Dev.readyTask_busy ha hcls hc hst), Dev.result_rgmCtx .., Dev.result_lists .., fun c hm => (Dev.result_core _ _ _ _ c hm).1⟩
    · obtain ⟨e, he, hcancel⟩ := Dev.cancelTask_eq (d := s.dev) (k := k) (by rw [hst]; decide)
      rw [hst] at hcancel; dsimp only at hcancel
      obtain ⟨hctx, hlists, -⟩ := e.delist_kept k
      have hold : ∀ j, (e.delist k).ctx j = s.dev.ctx j := fun j => Dev.ctx_congr (hctx.trans (by rw [he])) j
      have hlist : ∀ p, p < 8 → (e.delist k).readyList p = (s.dev.readyList p).filter (fun j => j != k) := fun p hp => by
        rw [hlists p hp, Dev.readyList_congr (b := s.dev) (by rw [he])]
      refine ⟨_, completes_cancel hk hu hcancel, ?_, fun p hp => ?_, fun p hp => ?_, fun j hj => ?_⟩
      · rw [Dev.result_ctx, Dev.ctx_modCtx, if_pos rfl, hold]
      · rw [Dev.result_readyList, Dev.readyList_modCtx, hlist p hp]; simp
      · rw [Dev.result_readyList, Dev.readyList_modCtx, hlist p hp]
      · rw [Dev.result_ctx, Dev.ctx_modCtx, if_neg hj, hold]
    · obtain ⟨e, he, hcancel⟩ := Dev.cancelTask_eq (d := s.dev) (k := k) (by rw [hst]; decide)
      rw [hst] at hcancel; dsimp only at hcancel
      refine ⟨_, completes_cancel hk hu hcancel, ?_, fun p => ?_⟩
      · rw [Dev.result_ctx, Dev.ctx_modCtx, if_pos rfl, Dev.ctx_congr (b := s.dev) (by rw [he])]
      · rw [Dev.result_readyList, Dev.readyList_modCtx, Dev.readyList_congr (b := s.dev) (by rw [he])]
    · refine ⟨_, completes_free hk hu (Dev.freeTask_idle hst), ?_, fun j hj => ?_, ?_⟩
      · rw [Dev.result_ctx, Dev.ctx_bump, Dev.ctx_modCtx, if_pos rfl]
      · rw [Dev.result_ctx, Dev.ctx_bump, Dev.ctx_modCtx, if_neg hj]
      · exact OnlyRgm.of_bumped (s.dev.modCtx_onlyRgm k _) (Dev.result_onlyRgm _ m .ok k)
    · simp only [List.mem_cons, List.not_mem_nil, or_false] at hc
      have hres := s.dev.result_core m .wrongState k
      rcases hc with rfl | rfl | rfl
      · exact ⟨_, completes_ready hk hu (Dev.readyTask_free hst), Dev.result_rgmCtx .., Dev.result_lists .., fun i hi => (hres i hi).1⟩
      · exact ⟨_, completes_cancel hk hu (Dev.cancelTask_free hst), Dev.result_rgmCtx .., Dev.result_lists .., fun i hi => (hres i hi).1⟩
      · exact ⟨_, completes_free hk hu (Dev.freeTask_free hst), Dev.result_rgmCtx .., Dev.result_lists .., fun i hi => (hres i hi).1⟩
  case user =>
    intro s c task hu hk x hx
    simp only [List.mem_cons, List.not_mem_nil, or_false] at hx
    have hshut := fun h => Dev.taskRequest_shut (d := s.dev) (m := .crew c) (task := task) h hu hk
    have hstatus := ((s.dev.result_core (.crew c) .notPermitted (task % 4096)) c rfl).1
    rcases hx with rfl | rfl | rfl
    · exact ⟨_, completes_act (fun _ => goReady (.crew c) (.task task)) rfl (hshut fun k d => d.readyTask k), hstatus, Dev.result_rgmCtx .., Dev.result_lists ..⟩
    · exact ⟨_, completes_act (fun _ => goCancel (.crew c) task) rfl (hshut fun k d => d.cancelTask k), hstatus, Dev.result_rgmCtx .., Dev.result_lists ..⟩
    · exact ⟨_, completes_act (fun _ => goFree (.crew c) task) rfl (hshut fun k d => d.freeTask k), hstatus, Dev.result_rgmCtx .., Dev.result_lists ..⟩
  case alloc =>
    intro s m k h1 h2 hk hlow
    refine ⟨_, completes_act (goAlloc · m) rfl (by rw [goAlloc, find_free h1 h2 hk hlow]), ?_, fun j hj => ?_, Dev.result_core _ _ _ _⟩
    · rw [Dev.result_ctx, Dev.ctx_bump, Dev.ctx_modCtx, if_pos rfl]
    · rw [Dev.result_ctx, Dev.ctx_bump, Dev.ctx_modCtx, if_neg hj]
  case full =>
    intro s m hfull
    have hnone : (List.range' 1024 3072).find? (fun k => decide ((s.dev.ctx k).st = .free)) = none := by
      rw [List.find?_eq_none]
      intro k hk
      obtain ⟨h1, h2⟩ := List.mem_range'_1.mp hk
      rw [decide_eq_false (hfull k h1 h2)]; exact Bool.false_ne_true
    refine ⟨_, completes_act (goAlloc · m) rfl (by rw [goAlloc, hnone]), ?_, fun c hm => (Dev.result_core _ _ _ _ c hm).1, ?_⟩
    · rw [Dev.result_rgmCtx, Dev.inc_rgm]
    · rw [Dev.reg_congr (Dev.result_regs ..)]; exact Dev.inc_bit _ _ 14 2 _ (by decide)
  case badOp =>
    intro s m k
    obtain ⟨core, h⟩ := s.dev.result_frame m .badParam (k % 4096)
    exact ⟨_, completes_act (fun _ => goReady m (.badOp k)) rfl rfl, Dev.result_rgmCtx .., Dev.result_lists .., Dev.result_core _ _ _ _, by rw [goReady, h]⟩
  case ends =>
    intro s c k ht hh hx
    refine ⟨fun hp => ?_, fun hp => ?_, ?_, fun hp => ?_, fun a hu hstop => ?_⟩
    · have hdone := Dev.endTask_done s.now ht hh hx
      rw [hp, if_neg Bool.false_ne_true] at hdone
      refine ⟨_, completes_act (goDone · c) rfl hdone, ?_, ?_, fun p => by simp,
        (((s.dev.modCore_onlyRgm c _).trans (Dev.modCtx_onlyRgm ..)).trans (Dev.modCtx_onlyRgm ..)).bumped 40 14⟩
      · simp
      · simp [Core.freed]
    · have hdone := Dev.endTask_done s.now ht hh hx
      rw [hp, if_pos rfl] at hdone
      obtain ⟨hctx, hlist, hcore⟩ := ((s.dev.modCore c Core.freed).modCtx k (fun x => { x with pend := false })).enlist_kept k false
      refine ⟨_, completes_act (goDone · c) rfl hdone, ?_, ?_, ?_⟩
      · rw [Dev.ctx_bump, hctx, if_pos rfl]; simp
      · rw [Dev.core_bump, hcore]; simp [Core.freed]
      · rw [Dev.readyList_bump, hlist]; exact if_pos rfl
    · obtain ⟨hctx, hlist, hcore⟩ := (s.dev.modCore c Core.freed).enlist_kept k false
      refine ⟨_, completes_act (goYield · c) rfl (Dev.endTask_yield s.now ht hh hx), ?_, ?_, ?_,
        ((s.dev.modCore_onlyRgm c _).trans (Dev.enlist_onlyRgm ..)).bumped 40 13⟩
      · rw [Dev.ctx_bump, hctx, if_pos rfl]; rfl
      · rw [Dev.core_bump, hcore]; simp [Core.freed]
      · rw [Dev.readyList_bump, hlist]; exact if_pos rfl
    · obtain ⟨hctx, hlist, hcore⟩ := ((s.dev.modCore c Core.freed).modCtx k (fun x => { x with saved := true, save := (s.dev.core c).hart })).enlist_kept k true
      have hstep : ∀ e : Dev, (∀ j, (e.step 0x8043).ctx j = e.ctx j) ∧ (∀ i, (e.step 0x8043).core i = e.core i) ∧ (∀ p, (e.step 0x8043).readyList p = e.readyList p) :=
        fun e => ⟨Dev.ctx_congr (by simp), Dev.core_congr (by simp), Dev.readyList_congr (by simp)⟩
      refine ⟨_, completes_act (goPreempted · c) rfl (Dev.endTask_preempted s.now ht hh hx hp), ?_, ?_, ?_, ?_⟩
      · rw [Dev.ctx_bump, (hstep _).1, hctx, if_pos rfl]; simp
      · rw [Dev.core_bump, (hstep _).2.1, hcore]; simp [Core.freed]
      · rw [Dev.core_bump, (hstep _).2.1, hcore]; simp [Core.freed]
      · rw [Dev.readyList_bump, (hstep _).2.2, hlist]; exact if_pos rfl
    · have huser : s.dev.inUser (.crew c) = true := by rw [Dev.inUser, ht]; exact hu
      have hcause : [1, 5, 7].getD (s.dev.free.toNat % 3) 1 ∈ [1, 5, 7] := by
        have hlt : s.dev.free.toNat % 3 < 3 := Nat.mod_lt _ (by decide)
        generalize s.dev.free.toNat % 3 = i at hlt
        interval_cases i <;> decide
      obtain ⟨htask, hbit, hhart, hst⟩ := Dev.userFault_kept s.now ([1, 5, 7].getD (s.dev.free.toNat % 3) 1) a ht hh hx huser
      exact ⟨(s.dev.userFault s.now c ([1, 5, 7].getD (s.dev.free.toNat % 3) 1) a).drew, completes_act (goUserFault · c a) rfl (by rw [goUserFault, huser, hstop]; exact if_pos rfl), htask, hbit, ⟨_, hcause, hhart⟩, hst⟩
  case halted =>
    intro s c hh x hx
    simp only [List.mem_cons, List.not_mem_nil, or_false] at hx
    rcases hx with rfl | rfl | rfl
    · exact completes_act (goDone · c) rfl (Dev.endTask_halted s.now 1 hh)
    · exact completes_act (goYield · c) rfl (Dev.endTask_halted s.now 2 hh)
    · exact completes_act (goPreempted · c) rfl (Dev.endTask_halted s.now 3 hh)
  case idle =>
    intro s c hh ht x hx
    simp only [List.mem_cons, List.not_mem_nil, or_false] at hx
    have hnoted : (s.dev.inc s.now 14 1).rgm = s.dev.rgm ∧ ((s.dev.inc s.now 14 1).reg (incAddr 14)).getLsbD 1 = true := ⟨Dev.inc_rgm .., Dev.inc_bit _ _ 14 1 _ (by decide)⟩
    rcases hx with rfl | rfl | rfl
    · exact ⟨_, completes_act (goDone · c) rfl (Dev.endTask_none s.now 1 hh ht), hnoted⟩
    · exact ⟨_, completes_act (goYield · c) rfl (Dev.endTask_none s.now 2 hh ht), hnoted⟩
    · exact ⟨_, completes_act (goPreempted · c) rfl (Dev.endTask_none s.now 3 hh ht), hnoted⟩
  case unasked =>
    intro s c hh hp
    exact ⟨_, completes_act (goPreempted · c) rfl (Dev.endTask_unasked s.now hh hp), Dev.inc_rgm .., Dev.inc_bit _ _ 14 1 _ (by decide)⟩

end Sys2Proof.Machine
end

section
/-! PROOFS. The Ringmaster's part of a boundary (O46). -/
namespace Sys2Proof.Machine

/-- Of the changes that a fold makes, only the one for `p` does anything. -/
theorem foldl_onlyOne {α β : Type} {op : α → β → α} {a a' : α} {p : β} {l : List β} (hp : p ∈ l) (hl : l.Nodup) (hbefore : ∀ q ∈ l, q ≠ p → op a q = a)
    (hat : op a p = a') (hafter : ∀ q ∈ l, q ≠ p → op a' q = a') : l.foldl op a = a' := by
  induction l with
  | nil => cases hp
  | cons q l ih =>
    obtain ⟨hq, hl⟩ := List.nodup_cons.mp hl
    rw [List.foldl_cons]
    by_cases h : q = p
    · subst h
      rw [hat]
      exact List.foldlRecOn (motive := fun x => x = a') l op rfl fun x hx j hj => by
        rw [hx]; exact hafter j (List.mem_cons_of_mem _ hj) fun hjq => hq (hjq ▸ hj)
    · rw [hbefore q List.mem_cons_self h]
      exact ih ((List.mem_cons.mp hp).resolve_left (Ne.symm h)) hl (fun j hj => hbefore j (List.mem_cons_of_mem _ hj))
        fun j hj => hafter j (List.mem_cons_of_mem _ hj)

/-! The Ringmaster's own readies (R353, R360). -/

theorem Dev.slowReadies_none {d : Dev} (h : d.rte.slow = []) : d.slowReadies = d := by
  rw [Dev.slowReadies, h, List.isEmpty_nil, Bool.or_true, if_pos rfl]

theorem Dev.planReadies_off {d : Dev} {t : Nat} (h : planBeats.contains (beatOf t) = false) : d.planReadies t = d := by
  rw [Dev.planReadies, h, if_neg Bool.false_ne_true]

/-- With no slow-path item and at a beat that begins no part of the planner's timeline, the boundary is dispatch and the marks. -/
theorem goDispatch_eq {d : Dev} {t : Nat} (hs : d.rte.slow = []) (hb : planBeats.contains (beatOf t) = false) :
    goDispatch t d = (if d.rgmHalted then d.hostReadies t else (d.hostReadies t).serveAll t).marks := by
  have hhost : (d.hostReadies t).rte.slow = [] := hs
  rw [goDispatch, Dev.planReadies_off hb, Dev.slowReadies_none hhost]

theorem goDispatch_run {d e : Dev} {t : Nat} (hs : d.rte.slow = []) (hb : planBeats.contains (beatOf t) = false) (hrun : d.rgmHalted = false)
    (he : (d.hostReadies t).serveAll t = e) : goDispatch t d = e.marks := by
  rw [goDispatch_eq hs hb, hrun, if_neg Bool.false_ne_true, he]

/-! One waiting task (R354). -/

theorem Dev.serveAll_one {d e : Dev} {t p k : Nat} (hp : p < 8) (hk : d.readyList p = [k]) (hothers : ∀ q, q < 8 → q ≠ p → d.readyList q = [])
    (he : d.serveTask t p k = e) (hstill : ∀ q, q < 8 → q ≠ p → e.readyList q = []) : d.serveAll t = e := by
  refine foldl_onlyOne (List.mem_range.mpr hp) List.nodup_range (fun q hq hne => ?_) ?_ (fun q hq hne => ?_)
  · rw [hothers q (List.mem_range.mp hq) hne]; rfl
  · rw [hk]; exact he
  · rw [hstill q (List.mem_range.mp hq) hne]; rfl

section
variable {d : Dev} {t p k c : Nat} (hcls : d.taskClass k ≠ 3) (ha : d.taskAffinity k ≠ 0)
include hcls ha

theorem Dev.serveTask_free (hc : d.freeCore (d.taskAffinity k) = some c) : d.serveTask t p k = d.giveTask t p k c := by
  rw [Dev.serveTask, if_neg (by simp [hcls, ha]), hc]

theorem Dev.serveTask_victim (hc : d.freeCore (d.taskAffinity k) = none) (hasked : d.askedFor k = false) (hv : d.victim k = some c) :
    d.serveTask t p k = (d.modCore c (fun x => { x with preempt := some (k, beatNo d.glb.up), late := false, mipDispatch := true })).bump 40 11 := by
  rw [Dev.serveTask, if_neg (by simp [hcls, ha]), hc]; dsimp only
  rw [hasked, if_neg Bool.false_ne_true, hv]
end

/-- What a dispatch leaves of the core, the task and the lists. -/
theorem Dev.giveTask_kept (d : Dev) (t p k c : Nat) :
    (((d.giveTask t p k c).core c).task = some k ∧ ((d.giveTask t p k c).core c).resume = (d.ctx k).saved ∧ ((d.giveTask t p k c).core c).preempt = none ∧
      ((d.giveTask t p k c).core c).hart =
        (d.core c).hart.enter k (d.taskUser k) (if (d.ctx k).saved then some (d.ctx k).save else none) (d.taskField k 2) (d.taskField k 3)) ∧
    (∀ j, (d.giveTask t p k c).ctx j = if j = k then { d.ctx k with st := .running, core := c, lastTick := tickOf t, saved := false } else d.ctx j) ∧
    (∀ q, q < 8 → (d.giveTask t p k c).readyList q = (d.readyList q).filter (fun j => j != k)) := by
  obtain ⟨hctx, hlists, hhart⟩ := d.delist_kept k
  refine ⟨?_, fun j => ?_, fun q hq => ?_⟩
  · rw [Dev.giveTask, Dev.core_bump, Dev.core_modCore, if_pos rfl, Dev.core_modCtx]
    exact ⟨rfl, rfl, rfl, by dsimp only; rw [hhart c]⟩
  · rw [Dev.giveTask, Dev.ctx_bump, Dev.ctx_modCore, Dev.ctx_modCtx, Dev.ctx_congr hctx, Dev.ctx_congr hctx]
  · rw [Dev.giveTask, Dev.readyList_bump, Dev.readyList_modCore, Dev.readyList_modCtx, hlists q hq]

/-! The marks (R358). -/

theorem Dev.marks_rgm (d : Dev) : d.marks.rgm =
    { d.rgm with bpHost := overMark d.rgm.bpHost d.readyHost (d.pv 0x8010) (d.pv 0x8011), bpAll := overMark d.rgm.bpAll d.readyTasks.length (d.pv 0x8012) (d.pv 0x8013) } := by
  simp only [Dev.marks, Dev.bump_rgm]

theorem Dev.marks_frame (d : Dev) : d.marks = { d with rgm := d.marks.rgm, counts := d.marks.counts } := by
  apply Dev.eq_of_fields <;> simp [Dev.marks]

theorem Dev.marks_kept (d : Dev) : (∀ j, d.marks.ctx j = d.ctx j) ∧ (∀ c, d.marks.core c = d.core c) ∧ (∀ q, d.marks.readyList q = d.readyList q) := by
  have h := d.marks_rgm
  exact ⟨Dev.ctx_congr (by rw [h]), fun c => by rw [Dev.core, h]; rfl, Dev.readyList_congr (by rw [h])⟩

/-- With every accepted request answered nothing arrives for the host's tasks. -/
theorem Dev.hostReadies_none {d : Dev} {t : Nat} (h : ∀ f, d.unansweredNow t f = 0) : (d.hostReadies t).arrivals = d.arrivals := by
  have howed : (List.range 16).flatMap (fun f => List.replicate (d.unansweredNow t f) f) = [] :=
    List.flatMap_eq_nil_iff.mpr fun f _ => by rw [h f]; rfl
  unfold Dev.hostReadies; dsimp only
  rw [howed]; exact List.append_nil _

/-! The obligation. -/

theorem completes_dispatch {s : State} {d : Dev} (h : goDispatch s.now s.dev = d) : Completes .dispatch s d := completes_act goDispatch rfl h

/-- Settles O46, from what the service of one task and the marks each change. -/
theorem dispatchCompletes : Obligations.DispatchCompletes := by
  unfold Obligations.DispatchCompletes
  refine ⟨fun s p k hrun hs hb hp hk hothers hcls ha => ⟨fun c hc => ?_, fun c hc hasked hv => ?_⟩, fun s hhalt hs hb => ?_, fun s c hlate => ?_, fun s c hlate => ?_⟩
  · obtain ⟨⟨htask, hresume, hpre, hhart⟩, hctx, hlists⟩ := (s.dev.hostReadies s.now).giveTask_kept s.now p k c
    have hstill : ∀ q, q < 8 → q ≠ p → ((s.dev.hostReadies s.now).giveTask s.now p k c).readyList q = [] := fun q hq hne =>
      (hlists q hq).trans (by rw [show (s.dev.hostReadies s.now).readyList q = [] from hothers q hq hne]; rfl)
    have hall := Dev.serveAll_one (d := s.dev.hostReadies s.now) (t := s.now) hp hk hothers (Dev.serveTask_free hcls ha hc) hstill
    obtain ⟨mctx, mcore, mlists⟩ := ((s.dev.hostReadies s.now).giveTask s.now p k c).marks_kept
    refine ⟨_, completes_dispatch (goDispatch_run hs hb hrun hall), ?_, ?_, ?_, ?_, ?_, fun q hq => ?_, fun j hj => ?_⟩
    · rw [mcore]; exact htask
    · rw [mcore]; exact hresume
    · rw [mcore]; exact hpre
    · rw [mcore]; exact hhart
    · rw [mctx, hctx]; exact if_pos rfl
    · rw [mlists]
      by_cases hqp : q = p
      · rw [hqp, hlists p hp, show (s.dev.hostReadies s.now).readyList p = [k] from hk]; simp
      · exact hstill q hq hqp
    · rw [mctx, hctx]; exact if_neg hj
  · have hall := Dev.serveAll_one (d := s.dev.hostReadies s.now) (t := s.now) hp hk hothers (Dev.serveTask_victim hcls ha hc hasked hv) hothers
    obtain ⟨-, mcore, -⟩ := (((s.dev.hostReadies s.now).modCore c (fun x => { x with preempt := some (k, beatNo (s.dev.hostReadies s.now).glb.up), late := false, mipDispatch := true })).bump 40 11).marks_kept
    refine ⟨_, completes_dispatch (goDispatch_run hs hb hrun hall), ?_, fun j hj => ?_, by rw [Dev.marks_rgm]; rfl, by rw [Dev.marks_rgm]; rfl⟩
    · rw [mcore, Dev.core_bump, Dev.core_modCore, if_pos rfl]; rfl
    · rw [mcore, Dev.core_bump, Dev.core_modCore, if_neg hj]; rfl
  · have hgo : goDispatch s.now s.dev = (s.dev.hostReadies s.now).marks := by rw [goDispatch_eq hs hb, hhalt, if_pos rfl]
    have hframe := (s.dev.hostReadies s.now).marks_frame
    refine ⟨_, completes_dispatch hgo, Dev.marks_rgm _, ?_, fun h => ?_⟩
    · rw [hframe]; rfl
    · rw [hframe]; exact Dev.hostReadies_none h
  · have hgo : goPreemptSlow s.now c s.dev = (s.dev.modCore c (fun x => { x with late := true })).inc s.now 14 0 := if_pos hlate
    have hrgm : ((s.dev.modCore c (fun x => { x with late := true })).inc s.now 14 0).rgm = _ := Dev.inc_rgm ..
    refine ⟨_, completes_act (goPreemptSlow · c) rfl hgo, ?_, fun j hj => ?_, ?_, ?_, Dev.inc_bit _ _ 14 0 _ (by decide)⟩
    · rw [Dev.core_congr hrgm, Dev.core_modCore, if_pos rfl]
    · rw [Dev.core_congr hrgm, Dev.core_modCore, if_neg hj]
    · rw [hrgm]; rfl
    · rw [hrgm]; rfl
  · exact completes_act (goPreemptSlow · c) rfl (by rw [goPreemptSlow, hlate, if_neg Bool.false_ne_true])

end Sys2Proof.Machine
end

section
/-! PROOFS. The slow-path queue and crew commands (O47). -/
namespace Sys2Proof.Machine

/-! Returns (R360). -/

@[simp] theorem Dev.item_freeItem (d : Dev) (k j : Nat) : (d.freeItem k).item j = if j = k then {} else d.item j := by
  simp [Dev.item, Dev.freeItem]

theorem Dev.item_congr {a b : Dev} (h : a.rte = b.rte) (j : Nat) : a.item j = b.item j := by unfold Dev.item; rw [h]

section
variable {d : Dev} {t k : Nat}

theorem Dev.slowReturned_reinject (h : d.isPopped k = true) :
    d.slowReturned t 1 k = ((d.fromCrew { (d.item k).pkt with again := true }).freeItem k).bump 40 19 := if_pos h

theorem Dev.slowReturned_copy (h : d.isPopped k = true) (hf : d.crewFrameOk k = true) :
    d.slowReturned t 2 k = ((d.fromCrew (d.crewFrame k false)).freeItem k).bump 40 19 := if_pos (by rw [h, hf]; rfl)

theorem Dev.slowReturned_originate (h : isOrigin k = true) (hf : d.crewFrameOk k = true) : d.slowReturned t 3 k = (d.fromCrew (d.crewFrame k true)).bump 40 20 := by
  rw [Dev.slowReturned, hf, h]; rfl

theorem Dev.slowReturned_drop (h : d.isPopped k = true) :
    d.slowReturned t 4 k = ((d.freeItem k).bump 40 21).dropped t (d.item k).pkt.tenant := if_pos h

theorem Dev.slowReturned_bad {op : Nat} (h : d.isPopped k = false) (hop : op = 1 ∨ op = 2 ∨ op = 4) : d.slowReturned t op k = d.slowBad t k := by
  rcases hop with rfl | rfl | rfl <;> simp [Dev.slowReturned, h]

/-- An invalid return is flagged, and sends nothing. -/
theorem Dev.slowBad_kept : (d.slowBad t k).rte.crew = d.rte.crew ∧ ((d.slowBad t k).reg (incAddr 14)).getLsbD 3 = true := by
  have hbit := d.inc_bit t 14 3 0 (by decide)
  have hcrew : (d.inc t 14 3).rte.crew = d.rte.crew := congrArg Rte.crew (Dev.inc_rte ..)
  unfold Dev.slowBad; dsimp only
  split
  · exact ⟨hcrew, hbit⟩
  · exact ⟨hcrew, hbit⟩

/-- Noting a full buffer keeps what is flagged. -/
theorem Dev.noteFull_keeps {a i : Nat} (h : (d.reg a).getLsbD i = true) : ((d.noteFull t).reg a).getLsbD i = true := by
  unfold Dev.noteFull
  split
  · exact Dev.inc_keeps { d with tm := { d.tm with full := true } } t 10 0 0 h
  · exact h

/-- Noting a full buffer hands nothing off. -/
theorem Dev.noteFull_handoffWait : (d.noteFull t).glb.handoffWait = d.glb.handoffWait := by
  unfold Dev.noteFull
  split
  · exact Dev.setIncAt_handoffWait ..
  · rfl

/-- A return after which the buffer has room does nothing else. -/
theorem Dev.noteFull_frame_of {e : Dev} (h : e.noteFull t = d) (hroom : d.bufFull = false) : d = e := by
  subst h
  exact Dev.noteFull_of_room t (by rw [← Dev.noteFull_bufFull e t]; exact hroom)
end

theorem Dev.slowReturn_f0 {d e : Dev} {t op k : Nat} {m : Master} (hm : m.isF0 = true) (h : d.slowReturned t op k = e) : d.slowReturn t m op k = e.noteFull t := by
  rw [Dev.slowReturn, if_pos hm, h]

/-! Words that the device writes to the backlot (R361). -/

theorem putOctets_append (l l' : List Byte) : ∀ (m : Table (Option Byte)) (a : Nat), putOctets m a (l ++ l') = putOctets (putOctets m a l) (a + l.length) l' := by
  induction l with
  | nil => intro m a; rfl
  | cons b l ih =>
    intro m a
    rw [List.cons_append, putOctets, ih, putOctets, List.length_cons, Nat.add_assoc, Nat.add_comm 1]

theorem Dev.backlotDrop_blPut (d : Dev) (a : Nat) (l : List Byte) (b n : Nat) : (d.blPut a l).backlotDrop b n = d.backlotDrop b n := by
  unfold Dev.backlotDrop Dev.sheetShut; rw [Dev.blPut_pln]

theorem Dev.heldWord_blPut (d : Dev) (a : Nat) (l : List Byte) (q : Nat) : (d.blPut a l).heldWord q = d.heldWord q := by
  simp only [Dev.heldWord, Dev.blPut_pln, Dev.blPut_rgm]

/-- Where nothing drops a store and no field stands for a word, words are written as their octets. -/
theorem Dev.backlotWords_plain (t m : Nat) (ws : List Word) : ∀ (d : Dev) (a : Nat), a % 8 = 0 →
    (∀ i, i < ws.length → d.backlotDrop (a + 8 * i) 8 = 0 ∧ d.heldWord (a / 8 + i) = none) → d.backlotWords t m a ws = d.blPut a (wordOctets ws) := by
  induction ws with
  | nil => intro d a _ _; rfl
  | cons w ws ih =>
    intro d a ha h
    obtain ⟨hdrop, hheld⟩ := h 0 (Nat.zero_lt_succ _)
    have hput : d.backlotPut a (leBytes w.toNat 8) = d.blPut a (leBytes w.toNat 8) := by rw [Dev.backlotPut, show d.heldWord (a / 8) = none from hheld]
    have hrest := ih (d.blPut a (leBytes w.toNat 8)) (a + 8) (by omega) fun i hi => by
      obtain ⟨hdrop, hheld⟩ := h (i + 1) (Nat.succ_lt_succ hi)
      have hplace : a + 8 + 8 * i = a + 8 * (i + 1) := by omega
      have hword : (a + 8) / 8 + i = a / 8 + (i + 1) := by omega
      rw [hplace, hword, Dev.backlotDrop_blPut, Dev.heldWord_blPut]
      exact ⟨hdrop, hheld⟩
    rw [Dev.backlotWords, show d.backlotDrop a 8 = 0 from hdrop]
    rw [hput]
    refine hrest.trans ?_
    rw [wordOctets, Dev.blPut, Dev.blPut, Dev.blPut, putOctets_append, leBytes_length]

/-- A final response to a crew core is written where its request lay, and the core is free to ask again (R361). -/
theorem Dev.respond_crew (d : Dev) (t c tag op : Nat) {st : Status} (body : List Word) (hst : st ≠ .pending) : d.respond t ⟨.crew c, tag, op⟩ st body =
    (d.backlotWords t (0x20 + c) (d.core c).cmdOffset (respHeader tag (1 + body.length) st.code op :: body)).modCore c (fun k => { k with cmdBusy := false }) := by
  rw [Dev.respond]; dsimp only
  rw [if_neg hst]; rfl

/-! Crew commands (R361). -/

/-- The device with core `c`'s command taken. -/
def Dev.crewTaken (d : Dev) (c off : Nat) : Dev := (d.modCore c (fun x => { x with cmdBusy := true, cmdOffset := off % 2 ^ 25 })).bump 40 22

theorem goCrewCommand_taken {d : Dev} {c off : Nat} (t : Nat) (hb : (d.core c).cmdBusy = false) :
    goCrewCommand t (.crew c) c off d = (d.crewTaken c off).crewRun t c (d.crewRequest (off % 2 ^ 25)) := by
  rw [goCrewCommand, if_neg (not_not.mpr rfl), hb, if_neg Bool.false_ne_true]; rfl

theorem Dev.backlotDrop_crewTaken (d : Dev) (c off b n : Nat) : (d.crewTaken c off).backlotDrop b n = d.backlotDrop b n := by
  unfold Dev.backlotDrop Dev.sheetShut; rw [show (d.crewTaken c off).pln = d.pln from rfl]

theorem Dev.heldWord_crewTaken (d : Dev) (c off q : Nat) : (d.crewTaken c off).heldWord q = d.heldWord q := by
  simp only [Dev.heldWord, show (d.crewTaken c off).pln = d.pln from rfl, show (d.crewTaken c off).rgm.ctx = d.rgm.ctx from rfl]

theorem Dev.crewTaken_core (d : Dev) {c off : Nat} (h : off < 2 ^ 25) : (d.crewTaken c off).core c = { d.core c with cmdBusy := true, cmdOffset := off } := by
  rw [Dev.crewTaken, Dev.core_bump, Dev.core_modCore, if_pos rfl, Nat.mod_eq_of_lt h]

/-- The device with core `c`'s command answered by the octets `l`. -/
def Dev.crewAnswered (d : Dev) (c off : Nat) (l : List Byte) : Dev := ((d.crewTaken c off).blPut off l).modCore c (fun k => { k with cmdBusy := false })

theorem Dev.crewAnswered_kept (d : Dev) {c off : Nat} (h : off < 2 ^ 25) (l : List Byte) :
    (d.crewAnswered c off l).core c = { d.core c with cmdBusy := false, cmdOffset := off } ∧ (d.crewAnswered c off l).mem.backlot = putOctets d.mem.backlot off l ∧
    d.crewAnswered c off l = { d with mem := (d.crewAnswered c off l).mem, rgm := (d.crewAnswered c off l).rgm, counts := (d.crewAnswered c off l).counts } := by
  refine ⟨?_, rfl, rfl⟩
  rw [Dev.crewAnswered, Dev.core_modCore, if_pos rfl, Dev.core_congr (Dev.blPut_rgm ..), Dev.crewTaken_core d h]

/-- A core's query of a key slot in use is answered with what the slot holds. -/
theorem goWcxKeyQuery_crew {d : Dev} {c n : Nat} {req : List Word} (t : Nat) (hrec : d.mgr.recovery = false) (hlen : reqLen req = 2)
    (h0 : resv (wd req 0) [(47, 42), (31, 12)] = false) (h1 : resv (wd req 1) [(63, 14)] = false) (hn : n = fld (wd req 1) 13 0) (hlt : n < keySlots)
    {x : KeySlot} (hx : x = d.slot n) (hu : x.used = true) : goWcxKeyQuery t (.crew c) req d = d.respond t ⟨.crew c, reqTag req, 0x702⟩ .ok
      [packW [(n, 14, 0), (x.bss, 6, 32), (x.port, 2, 38), (x.keyId, 3, 40), (b2n x.txActive, 1, 43), (x.alg, 4, 44), (x.kind, 4, 48), (x.tenant, 4, 56)],
        BitVec.ofNat 64 x.txPn, BitVec.ofNat 64 x.top, BitVec.ofNat 64 x.bind, packW [(x.commitTick, 48, 0)]] := by
  have hpass : d.refusal (fixedSpec 0x702 false 2 [(1, [(63, 14)])]) (.crew c) req false = none := by
    simp [Dev.refusal, hrec, hlen, h0, h1, fixedSpec]
  subst hn; subst hx
  unfold goWcxKeyQuery Dev.mbxNow Dev.mbx
  dsimp only
  rw [hpass]; dsimp only
  rw [judged_none _ (by rw [hu, decide_eq_false (Nat.not_le.mpr hlt)]; simp [Master.isF0])]; rfl

/-- The hold buffers read as 0 (R333). -/
theorem Dev.backlotGet_hold (d : Dev) (n : Nat) : ∀ off, 0x0700000 ≤ off → off + n ≤ 0x0F00000 → d.backlotGet off n = List.replicate n 0 := by
  induction n with
  | zero => intro off _ _; rfl
  | succ n ih =>
    intro off h1 h2
    have hin : inHold off 1 = true := by simp [inHold]; omega
    rw [Dev.backlotGet, hin, if_pos rfl, ih (off + 1) (by omega) (by omega), List.replicate_succ]

theorem Dev.crewRequest_hold (d : Dev) {off : Nat} (h1 : 0x0700000 ≤ off) (h2 : off + 8 ≤ 0x0F00000) : d.crewRequest off = [0] := by
  rw [Dev.crewRequest, d.backlotGet_hold 8 off h1 h2]
  have hlen : fld (BitVec.ofNat 64 (ofLe (List.replicate 8 0))) 41 32 = 0 := by decide
  rw [hlen, if_neg (by decide), if_pos rfl, d.backlotGet_hold 8 off h1 h2]
  decide

theorem Dev.crewRun_badOpcode (d : Dev) (t c : Nat) : d.crewRun t c [0] = d.respond t ⟨.crew c, 0, 0⟩ .badOpcode [] := by
  have hop : reqOp [0] = 0 := by decide
  have htag : reqTag [0] = 0 := by decide
  simp only [Dev.crewRun, hop, htag]

/-! The obligation. -/

/-- A pop of the oldest item (R360). -/
theorem goSlowPop_item {d : Dev} {m : Master} {k : Nat} {rest : List Nat} (hm : m.isF0 = true) (hs : d.stopped m = false) (h : d.rte.slow = k :: rest) : goSlowPop m d =
    (({ d with rte := { d.rte with slow := rest, items := tmod itemReset d.rte.items k (fun x => { x with popped := true }) } } : Dev).bump 40 18).reads m
      (packR [(k, 14, 0), (1, 1, 31)]) := by
  rw [goSlowPop, hm, hs, if_neg (by decide), h]

theorem goSlowPop_empty {d : Dev} {m : Master} (hm : m.isF0 = true) (hs : d.stopped m = false) (h : d.rte.slow = []) : goSlowPop m d = d.reads m 0 := by
  rw [goSlowPop, hm, hs, if_neg (by decide), h]

theorem Dev.lastRead_reads (d : Dev) (m : Master) (v : Reg) : (d.reads m v).lastRead m = v.setWidth 64 := by
  simp [Dev.lastRead, Dev.reads]

/-- Settles O47, from what each return sends, and from the place of a crew command's response. -/
theorem slowPathCompletes : Obligations.SlowPathCompletes := by
  unfold Obligations.SlowPathCompletes
  refine ⟨fun s m hm hs => ⟨fun h => ?_, fun k rest h => ?_⟩, fun s m k hm => ⟨fun hp => ?_, fun hp hf => ?_, fun ho hf => ?_, fun hp => ?_, fun hp x hx => ?_⟩,
    fun s c off n req x hb hoff h8 hplain hrec hreq hop hlen h0 h1 hn hlt hx hu => ?_, fun s c off hb hrec h1 h2 => ?_, fun s c off hb => ?_, fun s m c off hm => ?_⟩
  · exact ⟨_, completes_act (fun _ => goSlowPop m) rfl (goSlowPop_empty hm hs h), Dev.lastRead_reads .., rfl⟩
  · refine ⟨_, completes_act (fun _ => goSlowPop m) rfl (goSlowPop_item hm hs h), Dev.lastRead_reads .., rfl, ?_, fun j hj => ?_, rfl⟩
    · exact (tlook_tmod itemReset s.dev.rte.items k (fun x => { x with popped := true }) k).trans (if_pos rfl)
    · exact (tlook_tmod itemReset s.dev.rte.items k (fun x => { x with popped := true }) j).trans (if_neg hj)
  · have hgo := Dev.slowReturn_f0 hm (Dev.slowReturned_reinject (t := s.now) hp)
    refine ⟨_, completes_act (goReinject · m k) rfl hgo, ?_, ?_, fun j hj => ?_, fun hroom => ?_⟩
    · rw [Dev.noteFull_rte]; rfl
    · rw [Dev.item_congr (Dev.noteFull_rte ..)]; exact (Dev.item_freeItem ..).trans (if_pos rfl)
    · rw [Dev.item_congr (Dev.noteFull_rte ..)]; exact (Dev.item_freeItem ..).trans (if_neg hj)
    · rw [Dev.noteFull_frame_of rfl hroom]; rfl
  · have hgo := Dev.slowReturn_f0 hm (Dev.slowReturned_copy (t := s.now) hp hf)
    refine ⟨_, completes_act (goReinjectCopy · m k) rfl hgo, ?_, ?_, fun hroom => ?_⟩
    · rw [Dev.noteFull_rte]; rfl
    · rw [Dev.item_congr (Dev.noteFull_rte ..)]; exact (Dev.item_freeItem ..).trans (if_pos rfl)
    · rw [Dev.noteFull_frame_of rfl hroom]; rfl
  · have hgo := Dev.slowReturn_f0 hm (Dev.slowReturned_originate (t := s.now) ho hf)
    refine ⟨_, completes_act (goOriginate · m k) rfl hgo, ?_, fun hroom => ?_, fun hfull => ?_⟩
    · rw [Dev.noteFull_rte]; rfl
    · rw [Dev.noteFull_frame_of rfl hroom]; rfl
    · exact (Dev.noteFull_notes s.now (by rw [← Dev.noteFull_bufFull _ s.now]; exact hfull)).2
  · have hgo := Dev.slowReturn_f0 hm (Dev.slowReturned_drop (t := s.now) hp)
    refine ⟨_, completes_act (goDrop · m k) rfl hgo, ?_, ?_, ?_, fun hroom => ?_⟩
    · rw [Dev.item_congr (Dev.noteFull_rte ..)]; exact (Dev.item_freeItem ..).trans (if_pos rfl)
    · rw [Dev.noteFull_rte]; rfl
    · rw [Dev.noteFull_handoffWait]; rfl
    · rw [Dev.noteFull_frame_of rfl hroom]; rfl
  · obtain ⟨hcrew, hbit⟩ := Dev.slowBad_kept (d := s.dev) (t := s.now) (k := k)
    have hkept : ((s.dev.slowBad s.now k).noteFull s.now).rte.crew = s.dev.rte.crew ∧ (((s.dev.slowBad s.now k).noteFull s.now).reg (incAddr 14)).getLsbD 3 = true :=
      ⟨by rw [Dev.noteFull_rte, hcrew], Dev.noteFull_keeps hbit⟩
    have hbad : ∀ op, op = 1 ∨ op = 2 ∨ op = 4 → s.dev.slowReturn s.now m op k = (s.dev.slowBad s.now k).noteFull s.now :=
      fun op h => Dev.slowReturn_f0 hm (Dev.slowReturned_bad hp h)
    simp only [List.mem_cons, List.not_mem_nil, or_false] at hx
    rcases hx with rfl | rfl | rfl
    · exact ⟨_, completes_act (goReinject · m k) rfl (hbad 1 (.inl rfl)), hkept⟩
    · exact ⟨_, completes_act (goReinjectCopy · m k) rfl (hbad 2 (.inr (.inl rfl))), hkept⟩
    · exact ⟨_, completes_act (goDrop · m k) rfl (hbad 4 (.inr (.inr rfl))), hkept⟩
  · have hrun : (s.dev.crewTaken c off).crewRun s.now c req = goWcxKeyQuery s.now (.crew c) req (s.dev.crewTaken c off) := by simp only [Dev.crewRun, hop]
    have hanswer := goWcxKeyQuery_crew (d := s.dev.crewTaken c off) (c := c) s.now hrec hlen h0 h1 hn hlt hx hu
    have hcore := s.dev.crewTaken_core (c := c) hoff
    have hwords : ∀ ws : List Word, ws.length = 6 → (s.dev.crewTaken c off).backlotWords s.now (0x20 + c) off ws = (s.dev.crewTaken c off).blPut off (wordOctets ws) :=
      fun ws hl => Dev.backlotWords_plain s.now (0x20 + c) ws (s.dev.crewTaken c off) off h8 fun i hi => by
        rw [Dev.backlotDrop_crewTaken, Dev.heldWord_crewTaken]; exact hplain i (hl ▸ hi)
    rw [Dev.respond_crew _ _ _ _ _ _ (by decide), hcore, hwords _ rfl] at hanswer
    obtain ⟨hdone, hbacklot, hframe⟩ := s.dev.crewAnswered_kept (c := c) hoff
      (wordOctets [respHeader (reqTag req) 6 0 0x702,
        packW [(n, 14, 0), (x.bss, 6, 32), (x.port, 2, 38), (x.keyId, 3, 40), (b2n x.txActive, 1, 43), (x.alg, 4, 44), (x.kind, 4, 48), (x.tenant, 4, 56)],
        BitVec.ofNat 64 x.txPn, BitVec.ofNat 64 x.top, BitVec.ofNat 64 x.bind, packW [(x.commitTick, 48, 0)]])
    refine ⟨_, completes_act (goCrewCommand · (.crew c) c off) rfl ((goCrewCommand_taken s.now hb).trans ?_), hdone, hbacklot, hframe⟩
    rw [Nat.mod_eq_of_lt hoff, ← hreq]
    exact hrun.trans hanswer
  · have hoff : off < 2 ^ 25 := by omega
    have hcore := s.dev.crewTaken_core (c := c) hoff
    have hdrop : (s.dev.crewTaken c off).backlotDrop off 8 = 3 := by
      have hin : inHold off 8 = true := by simp [inHold]; omega
      rw [Dev.backlotDrop, if_neg (by omega), hin, if_pos rfl]
    have hrun : (s.dev.crewTaken c off).crewRun s.now c (s.dev.crewRequest (off % 2 ^ 25)) =
        ((s.dev.crewTaken c off).noteDrop s.now (crewBacklot + off) 3 (0x20 + c)).modCore c (fun k => { k with cmdBusy := false }) := by
      rw [Nat.mod_eq_of_lt hoff, s.dev.crewRequest_hold h1 h2, Dev.crewRun_badOpcode, Dev.respond_crew _ _ _ _ _ _ (by decide), hcore, Dev.backlotWords, hdrop]; rfl
    have hfault : (crewBacklot + off) % 2 ^ 40 = crewBacklot + off := Nat.mod_eq_of_lt (by unfold crewBacklot; omega)
    refine ⟨_, completes_act (goCrewCommand · (.crew c) c off) rfl ((goCrewCommand_taken s.now hb).trans hrun), ?_, ?_, ?_⟩
    · rw [Dev.core_modCore, if_pos rfl, Dev.core_congr (b := s.dev.crewTaken c off) (Dev.noteDrop_rgm ..), hcore]
    · rw [Dev.noteDrop, if_neg (by decide)]
      exact Dev.inc_bumped_bit ((s.dev.crewTaken c off).memFault (crewBacklot + off) 3 (0x20 + c)) s.now 15 2 (crewBacklot + off) 41 25 (by decide)
    · rw [Dev.noteDrop, if_neg (by decide), Dev.modCore_mem, Dev.bump_mem, Dev.inc_mem, Dev.memFault, hfault]; rfl
  · have hgo : goCrewCommand s.now (.crew c) c off s.dev = s.dev.inc s.now 14 4 := by rw [goCrewCommand, if_neg (not_not.mpr rfl), if_pos hb]
    exact ⟨_, completes_act (goCrewCommand · (.crew c) c off) rfl hgo, Dev.inc_rgm .., Dev.inc_mem .., Dev.inc_bit _ _ 14 4 _ (by decide)⟩
  · exact completes_act (goCrewCommand · m c off) rfl (if_pos hm)

end Sys2Proof.Machine
end

section
/-! PROOFS. What leaves the test port alone: one law for each operation of the model that returns a device, block by block (O55). -/
namespace Sys2Proof.Machine

/-- A change of a device that leaves the test port alone leaves it alone when it is made for each element of a list. -/
@[simp] theorem foldl_tst {α : Type} (f : Dev → α → Dev) (l : List α) (d : Dev) (h : ∀ d x, (f d x).tst = d.tst) : (l.foldl f d).tst = d.tst := by
  induction l generalizing d with
  | nil => rfl
  | cons x l ih => rw [List.foldl, ih, h]


/-! Machine/Ops.lean. -/

@[simp] theorem Dev.modPcie_tst (d : Dev) (f : Nat) (g : PcieFn → PcieFn) : (d.modPcie f g).tst = d.tst := by simp [Dev.modPcie]
@[simp] theorem Dev.hbmOctets_tst (d : Dev) (cls n : Nat) : (d.hbmOctets cls n).tst = d.tst := by simp [Dev.hbmOctets]
@[simp] theorem Dev.dropped_tst (d : Dev) (t tenant : Nat) : (d.dropped t tenant).tst = d.tst := by simp [Dev.dropped]
@[simp] theorem Dev.mismatchIrq_tst (d : Dev) (owner : Nat) : (d.mismatchIrq owner).tst = d.tst := by simp [Dev.mismatchIrq, apply_ite Dev.tst]
@[simp] theorem Dev.chkMismatch_tst (d : Dev) (t n : Nat) : (d.chkMismatch t n).tst = d.tst := by simp [Dev.chkMismatch]
@[simp] theorem Dev.badRecords_tst (d : Dev) (t n : Nat) : (d.badRecords t n).tst = d.tst := by
  induction n generalizing d with
  | zero => rfl
  | succ n ih => rw [Dev.badRecords, ih, Dev.chkMismatch_tst]

/-! Machine/Sheets.lean. -/

@[simp] theorem Dev.modSheet_tst (d : Dev) (r tick : Nat) (f : Sheet → Sheet) : (d.modSheet r tick f).tst = d.tst := by simp [Dev.modSheet]
@[simp] theorem Dev.modCall_tst (d : Dev) (sid : Nat) (f : CallSheet → CallSheet) : (d.modCall sid f).tst = d.tst := by simp [Dev.modCall]

/-! Machine/Store.lean. -/

@[simp] theorem Dev.putHeld_tst (d : Dev) (q : Nat) (w : Word) : (d.putHeld q w).tst = d.tst := by simp [Dev.putHeld, apply_ite Dev.tst]

/-! Machine/Mailbox.lean. -/

/-- A request keeps the test port where its handler does, whatever R63 makes of it. -/
@[simp] theorem Dev.mbx_tst (d : Dev) (t : Nat) (sp : CmdSpec) (who : Master) (req : List Word) (h : Pend → Dev → Dev)
    (hh : ∀ p e, (h p e).tst = e.tst) : (d.mbx t sp who req h).tst = d.tst := by
  unfold Dev.mbx; dsimp only; split
  · split
    · simp
    · split <;> simp [hh, apply_ite Dev.tst]
  · split <;> simp [hh]
@[simp] theorem Dev.mbxNow_tst (d : Dev) (t : Nat) (sp : CmdSpec) (who : Master) (req : List Word) (h : Dev → Answer)
    (hh : ∀ e, (h e).2.2.tst = e.tst) : (d.mbxNow t sp who req h).tst = d.tst := by
  unfold Dev.mbxNow
  refine Dev.mbx_tst d t sp who req _ fun p e => ?_
  rw [Dev.respond_tst]; split <;> simp [hh, apply_ite Dev.tst]
@[simp] theorem judged_tst (d : Dev) (rows : List (Bool × Status)) (h : Dev → Answer) (hh : (h d).2.2.tst = d.tst) :
    (judged d rows h).2.2.tst = d.tst := by
  unfold judged; split
  · rfl
  · exact hh

/-! Machine/Power.lean. -/

@[simp] theorem Dev.powerAnswer_tst (d : Dev) (t : Nat) (r : PowerReq) (o : PowerOutcome) (voter : Nat) : (d.powerAnswer t r o voter).tst = d.tst := by unfold Dev.powerAnswer; split <;> simp
@[simp] theorem Dev.powerStart_tst (d : Dev) (t : Nat) (r : PowerReq) : (d.powerStart t r).tst = d.tst := by simp [Dev.powerStart, apply_ite Dev.tst]
@[simp] theorem Dev.rollback_tst (d : Dev) (o : PowerOutcome) (voter : Nat) : (d.rollback o voter).tst = d.tst := by simp [Dev.rollback]
@[simp] theorem Dev.recordWake_tst (d : Dev) (cause fn : Nat) : (d.recordWake cause fn).tst = d.tst := by simp [Dev.recordWake, apply_ite Dev.tst]
@[simp] theorem Dev.wake_tst (d : Dev) (cause : Nat) (fn : Nat) : (d.wake cause fn).tst = d.tst := by unfold Dev.wake; dsimp only; (repeat' split) <;> simp

/-! Machine/Rings.lean. -/

@[simp] theorem Dev.fireRing_tst (d : Dev) (g : Nat) : (d.fireRing g).tst = d.tst := by simp [Dev.fireRing, apply_ite Dev.tst]
@[simp] theorem Dev.coalesce_tst (d : Dev) (g : Nat) : (d.coalesce g).tst = d.tst := by simp [Dev.coalesce, apply_ite Dev.tst]
@[simp] theorem releaseStamps_tst (d : Dev) (g id : Nat) : (releaseStamps d g id).tst = d.tst := by simp [releaseStamps]
@[simp] theorem dropStamps_tst (d : Dev) (g : Nat) : (dropStamps d g).tst = d.tst := by simp [dropStamps]
@[simp] theorem Dev.postOne_tst (d : Dev) (g : Nat) : (d.postOne g).tst = d.tst := by unfold Dev.postOne; dsimp only; (repeat' split) <;> simp
theorem Dev.iterN_postOne_tst (g n : Nat) (d : Dev) : (Dev.postAll.iterN n (fun e => e.postOne g) d).tst = d.tst := by
  induction n generalizing d with
  | zero => rfl
  | succ n ih => rw [Dev.postAll.iterN, ih, Dev.postOne_tst]
@[simp] theorem Dev.postAll_tst (d : Dev) (g : Nat) : (d.postAll g).tst = d.tst := Dev.iterN_postOne_tst ..
@[simp] theorem Dev.completeDesc_tst (d : Dev) (g : Nat) (x : Desc) (i : ComplInfo) : (d.completeDesc g x i).tst = d.tst := by simp [Dev.completeDesc]
@[simp] theorem Dev.finish_tst (d : Dev) (desc : Option (Nat × Nat)) (i : ComplInfo) : (d.finish desc i).tst = d.tst := by unfold Dev.finish; (repeat' split) <;> simp
@[simp] theorem Dev.dropAtRing_tst (d : Dev) (t owner : Nat) (p : Pkt) : (d.dropAtRing t owner p).tst = d.tst := by simp [Dev.dropAtRing]
@[simp] theorem Dev.fillBuffer_tst (d : Dev) (t g : Nat) (p : Pkt) (b : Desc) (wrxBss : Option Nat) : (d.fillBuffer t g p b wrxBss).tst = d.tst := by simp [Dev.fillBuffer, apply_ite Dev.tst]
@[simp] theorem Dev.noteDelay_tst (d : Dev) (q since : Nat) : (d.noteDelay q since).tst = d.tst := by simp [Dev.noteDelay]
@[simp] theorem Dev.noteDelays_tst (d : Dev) (q : Nat) (l : List Pkt) : (d.noteDelays q l).tst = d.tst := by simp [Dev.noteDelays]
@[simp] theorem Dev.dropQueued_tst (d : Dev) (t owner : Nat) (p : Pkt) : (d.dropQueued t owner p).tst = d.tst := by simp [Dev.dropQueued]
@[simp] theorem Dev.toRing_tst (d : Dev) (t g : Nat) (p : Pkt) (wrxBss : Option Nat) : (d.toRing t g p wrxBss).tst = d.tst := by unfold Dev.toRing; dsimp only; (repeat' split) <;> simp
@[simp] theorem Dev.routeToRing_tst (d : Dev) (t g : Nat) (p : Pkt) : (d.routeToRing t g p).tst = d.tst := by simp [Dev.routeToRing, apply_ite Dev.tst]
@[simp] theorem Dev.toMgmt_tst (d : Dev) (t tenant bss : Nat) (p : Pkt) : (d.toMgmt t tenant bss p).tst = d.tst := by unfold Dev.toMgmt; split <;> simp
@[simp] theorem Dev.serveOne_tst (d : Dev) (t g : Nat) : (d.serveOne t g).tst = d.tst := by unfold Dev.serveOne; dsimp only; split <;> simp
@[simp] theorem Dev.serveQueue_tst (d : Dev) (t g : Nat) : (d.serveQueue t g).tst = d.tst := by simp [Dev.serveQueue]
@[simp] theorem Dev.noteFlush_tst (d : Dev) (g : Nat) : (d.noteFlush g).tst = d.tst := by simp [Dev.noteFlush]
@[simp] theorem forgetFrames_tst (g : Nat) (d0 : Dev) : (forgetFrames g d0).tst = d0.tst := by simp [forgetFrames]
@[simp] theorem Dev.flushRing_tst (d : Dev) (t g : Nat) : (d.flushRing t g).tst = d.tst := by simp [Dev.flushRing]
@[simp] theorem Dev.drainRing_tst (t : Nat) (d : Dev) (g : Nat) : (Dev.drainRing t d g).tst = d.tst := by simp [Dev.drainRing, apply_ite Dev.tst]
@[simp] theorem Dev.drainEnd_tst (d : Dev) (g : Nat) : (d.drainEnd g).tst = d.tst := by simp [Dev.drainEnd, apply_ite Dev.tst]
@[simp] theorem Dev.faultRing_tst (d : Dev) (t g : Nat) (desc : Option Nat) : (d.faultRing t g desc).tst = d.tst := by unfold Dev.faultRing; dsimp only; (repeat' split) <;> simp

/-! Machine/Host.lean. -/

@[simp] theorem goDoorbell_tst (t f : Nat) (d : Dev) : (goDoorbell t f d).tst = d.tst := by simp [goDoorbell, apply_ite Dev.tst]
@[simp] theorem goResponsePosted_tst (f : Nat) (d : Dev) : (goResponsePosted f d).tst = d.tst := by unfold goResponsePosted; dsimp only; (repeat' split) <;> simp
@[simp] theorem goRespAck_tst (t f : Nat) (d : Dev) : (goRespAck t f d).tst = d.tst := by simp [goRespAck, apply_ite Dev.tst]
@[simp] theorem goBadOpcode_tst (t : Nat) (who : Master) (req : List Word) (d : Dev) : (goBadOpcode t who req d).tst = d.tst := by unfold goBadOpcode; dsimp only; (repeat' split) <;> simp
@[simp] theorem goIfVersion_tst (t : Nat) (who : Master) (req : List Word) (d : Dev) : (goIfVersion t who req d).tst = d.tst := by unfold goIfVersion; split <;> simp
@[simp] theorem goRingAssign_tst (t : Nat) (who : Master) (req : List Word) (d : Dev) : (goRingAssign t who req d).tst = d.tst := by simp [goRingAssign]
@[simp] theorem goPropGet_tst (t : Nat) (who : Master) (req : List Word) (d : Dev) : (goPropGet t who req d).tst = d.tst := by simp [goPropGet]
@[simp] theorem Dev.writeProp_tst (d : Dev) (p : PropDef) (key : Nat) (v : Word) : (d.writeProp p key v).tst = d.tst := by simp [Dev.writeProp, apply_ite Dev.tst]
@[simp] theorem Dev.applyPair_tst (who : Master) (d : Dev) (p : Word × Word) : (Dev.applyPair who d p).tst = d.tst := by unfold Dev.applyPair; split <;> simp
@[simp] theorem Dev.commitProps_tst (d : Dev) (eff : Nat) : (d.commitProps eff).tst = d.tst := by simp [Dev.commitProps]
@[simp] theorem goPropSet_tst (t : Nat) (who : Master) (req : List Word) (d : Dev) : (goPropSet t who req d).tst = d.tst := by simp [goPropSet, apply_ite Dev.tst]
@[simp] theorem goPropDescribe_tst (t : Nat) (who : Master) (req : List Word) (d : Dev) : (goPropDescribe t who req d).tst = d.tst := by
  refine Dev.mbxNow_tst _ _ _ _ _ _ fun e => ?_
  dsimp only; split <;> simp
@[simp] theorem Dev.forgetRequests_tst (d : Dev) (f : Nat) : (d.forgetRequests f).tst = d.tst := by simp [Dev.forgetRequests]
@[simp] theorem Dev.sealForced_tst (d : Dev) (t : Nat) : (d.sealForced t).tst = d.tst := by unfold Dev.sealForced; split <;> simp
@[simp] theorem Dev.beginShut_tst (d : Dev) (t f : Nat) (k : ShutKind) : (d.beginShut t f k).tst = d.tst := by simp [Dev.beginShut, apply_ite Dev.tst]
@[simp] theorem Dev.shutFn_tst (d0 : Dev) (t f : Nat) (k : ShutKind) : (d0.shutFn t f k).tst = d0.tst := by unfold Dev.shutFn; dsimp only; (repeat' split) <;> simp
@[simp] theorem Dev.setNumVfs_tst (d : Dev) (n : Nat) : (d.setNumVfs n).tst = d.tst := by simp [Dev.setNumVfs]
@[simp] theorem Dev.flr_tst (d : Dev) (t f : Nat) : (d.flr t f).tst = d.tst := by simp [Dev.flr, apply_ite Dev.tst]
@[simp] theorem Dev.hostEvent_tst (d : Dev) (f : Nat) (c : Instr) (act : Dev → Dev) (h : ∀ e, (act e).tst = e.tst) :
    (d.hostEvent f c act).tst = d.tst := by
  unfold Dev.hostEvent; dsimp only; split <;> simp [h]
@[simp] theorem goFunctionLevelReset_tst (t f : Nat) (d : Dev) : (goFunctionLevelReset t f d).tst = d.tst := by simp [goFunctionLevelReset]
@[simp] theorem goVfDisable_tst (t numVfs : Nat) (d : Dev) : (goVfDisable t numVfs d).tst = d.tst := by simp [goVfDisable]
@[simp] theorem Dev.enableFn_tst (d : Dev) (f : Nat) : (d.enableFn f).tst = d.tst := by unfold Dev.enableFn; (repeat' split) <;> simp
@[simp] theorem goVfEnable_tst (numVfs : Nat) (d : Dev) : (goVfEnable numVfs d).tst = d.tst := by simp [goVfEnable]
@[simp] theorem Dev.returnRings_tst (d : Dev) (f : Nat) : (d.returnRings f).tst = d.tst := by simp [Dev.returnRings]
@[simp] theorem goShutdownEnd_tst (f : Nat) (d : Dev) : (goShutdownEnd f d).tst = d.tst := by simp [goShutdownEnd, apply_ite Dev.tst]
@[simp] theorem goEnableComplete_tst (f : Nat) (d : Dev) : (goEnableComplete f d).tst = d.tst := by simp [goEnableComplete, apply_ite Dev.tst]
@[simp] theorem goShutdownCompletionDiscard_tst (g : Nat) (d : Dev) : (goShutdownCompletionDiscard g d).tst = d.tst := by simp [goShutdownCompletionDiscard, apply_ite Dev.tst]
@[simp] theorem goHandoff_tst (t : Nat) (h : Handoff) (d : Dev) : (goHandoff t h d).tst = d.tst := by simp [goHandoff, apply_ite Dev.tst]

/-! Machine/Traffic.lean. -/

@[simp] theorem Dev.shaperTake_tst (d : Dev) (p t : Nat) (x : Pkt) : (d.shaperTake p t x).tst = d.tst := by simp [Dev.shaperTake, apply_ite Dev.tst]
@[simp] theorem Dev.moveFrame_tst (d : Dev) (p t c deficit : Nat) (x : Pkt) (rest : List Pkt) : (d.moveFrame p t c deficit x rest).tst = d.tst := by simp [Dev.moveFrame]
@[simp] theorem Dev.drrStep_tst (d : Dev) (p c : Nat) : (d.drrStep p c).tst = d.tst := by unfold Dev.drrStep; dsimp only; (repeat' split) <;> simp
@[simp] theorem Dev.pumpClass_tst (p c n : Nat) (d : Dev) : (Dev.pumpClass p c n d).tst = d.tst := by
  induction n generalizing d with
  | zero => rfl
  | succ n ih => unfold Dev.pumpClass; split <;> simp [ih]
@[simp] theorem Dev.pump_tst (d : Dev) (p c : Nat) : (d.pump p c).tst = d.tst := Dev.pumpClass_tst p c 400 d
@[simp] theorem Dev.pumpPort_tst (d : Dev) (p : Nat) : (d.pumpPort p).tst = d.tst := by simp [Dev.pumpPort]
@[simp] theorem Dev.tailDrop_tst (d : Dev) (t ten : Nat) (desc : Option (Nat × Nat)) : (d.tailDrop t ten desc).tst = d.tst := by simp [Dev.tailDrop]
@[simp] theorem Dev.toPort_tst (d : Dev) (t p : Nat) (x : Pkt) : (d.toPort t p x).tst = d.tst := by simp [Dev.toPort, apply_ite Dev.tst]
@[simp] theorem Dev.noteFull_tst (d : Dev) (t : Nat) : (d.noteFull t).tst = d.tst := by simp [Dev.noteFull, apply_ite Dev.tst]
@[simp] theorem Dev.police_tst (d : Dev) (t i len : Nat) (p : Pkt) : (d.police t i len p).1.tst = d.tst := by
  unfold Dev.police; dsimp only; split <;> simp [apply_ite Prod.fst, apply_ite Dev.tst]
@[simp] theorem Dev.refillShaper_tst (d : Dev) (k : Nat) : (d.refillShaper k).tst = d.tst := by simp [Dev.refillShaper]
@[simp] theorem goRefill_tst (d : Dev) : (goRefill d).tst = d.tst := by simp [goRefill]
@[simp] theorem Dev.countFetch_tst (d : Dev) (g : Nat) : (d.countFetch g).tst = d.tst := by simp [Dev.countFetch, apply_ite Dev.tst]
@[simp] theorem Dev.takeWtx_tst (d : Dev) (t g : Nat) (x : Desc) (data : List Byte) : (d.takeWtx t g x data).tst = d.tst := by simp [Dev.takeWtx, apply_ite Dev.tst]
@[simp] theorem goDescriptorFetch_tst (t g : Nat) (w0 w1 : Word) (data : Option (List Byte)) (d : Dev) : (goDescriptorFetch t g w0 w1 data d).tst = d.tst := by unfold goDescriptorFetch; dsimp only; (repeat' split) <;> simp
@[simp] theorem goCompletionWrite_tst (g : Nat) (d : Dev) : (goCompletionWrite g d).tst = d.tst := by simp [goCompletionWrite]
@[simp] theorem Dev.ringCtrl_tst (d : Dev) (t g : Nat) (v : Reg) : (d.ringCtrl t g v).tst = d.tst := by unfold Dev.ringCtrl; dsimp only; (repeat' split) <;> simp
@[simp] theorem goRingEnable_tst (t : Nat) (m : Master) (g : Nat) (v : Reg) (d : Dev) : (goRingEnable t m g v d).tst = d.tst := by simp [goRingEnable, apply_ite Dev.tst]
@[simp] theorem goRingDisable_tst (t : Nat) (m : Master) (g : Nat) (v : Reg) (d : Dev) : (goRingDisable t m g v d).tst = d.tst := by simp [goRingDisable, apply_ite Dev.tst]
@[simp] theorem goDrainEnd_tst (g : Nat) (d : Dev) : (goDrainEnd g d).tst = d.tst := by simp [goDrainEnd]
@[simp] theorem goDmaErr_tst (t g : Nat) (desc : Option Nat) (d : Dev) : (goDmaErr t g desc d).tst = d.tst := by simp [goDmaErr]
@[simp] theorem goRingProd_tst (m : Master) (g : Nat) (v : Reg) (d : Dev) : (goRingProd m g v d).tst = d.tst := by simp [goRingProd, apply_ite Dev.tst]
@[simp] theorem goRingCqHead_tst (m : Master) (g : Nat) (v : Reg) (d : Dev) : (goRingCqHead m g v d).tst = d.tst := by simp [goRingCqHead, apply_ite Dev.tst]
@[simp] theorem goCoalTimer_tst (g : Nat) (d : Dev) : (goCoalTimer g d).tst = d.tst := by simp [goCoalTimer, apply_ite Dev.tst]
@[simp] theorem goQueueSample_tst (t : Nat) (d : Dev) : (goQueueSample t d).tst = d.tst := by
  unfold goQueueSample; rw [Dev.hbmOctets_tst]
@[simp] theorem goTmPolicerWrite_tst (t : Nat) (who : Master) (req : List Word) (d : Dev) : (goTmPolicerWrite t who req d).tst = d.tst := by simp [goTmPolicerWrite]
@[simp] theorem goTmPolicerRead_tst (t : Nat) (who : Master) (req : List Word) (d : Dev) : (goTmPolicerRead t who req d).tst = d.tst := by simp [goTmPolicerRead]
@[simp] theorem goTmQueueSample_tst (t : Nat) (who : Master) (req : List Word) (d : Dev) : (goTmQueueSample t who req d).tst = d.tst := by simp [goTmQueueSample]

/-! Machine/Ethernet.lean. -/

@[simp] theorem Dev.watchClass_tst (d : Dev) (p k : Nat) : (d.watchClass p k).tst = d.tst := by simp [Dev.watchClass]
@[simp] theorem Dev.watchPort_tst (d : Dev) (p : Nat) : (d.watchPort p).tst = d.tst := by simp [Dev.watchPort]
@[simp] theorem Dev.sendPause_tst (d : Dev) (p k q : Nat) : (d.sendPause p k q).tst = d.tst := by simp [Dev.sendPause]
@[simp] theorem Dev.sendXoff_tst (d : Dev) (p k : Nat) : (d.sendXoff p k).tst = d.tst := by simp [Dev.sendXoff]
@[simp] theorem Dev.pauseRise_tst (d : Dev) (p k : Nat) : (d.pauseRise p k).tst = d.tst := by simp [Dev.pauseRise, apply_ite Dev.tst]
@[simp] theorem Dev.pauseFall_tst (d : Dev) (p k : Nat) : (d.pauseFall p k).tst = d.tst := by simp [Dev.pauseFall, apply_ite Dev.tst]
@[simp] theorem Dev.drainPause_tst (d : Dev) (p : Nat) : (d.drainPause p).tst = d.tst := by simp [Dev.drainPause]
@[simp] theorem goEthernetReceive_tst (t p : Nat) (octets : List Byte) (w : WireFacts) (d : Dev) : (goEthernetReceive t p octets w d).tst = d.tst := by simp [goEthernetReceive, apply_ite Dev.tst]
@[simp] theorem goPauseRepeat_tst (p k : Nat) (d : Dev) : (goPauseRepeat p k d).tst = d.tst := by simp [goPauseRepeat, apply_ite Dev.tst]
@[simp] theorem Dev.settleAt_tst (d : Dev) (p up : Nat) : (d.settleAt p up).tst = d.tst := by simp [Dev.settleAt]
@[simp] theorem Dev.settleCredit_tst (d : Dev) (p : Nat) : (d.settleCredit p).tst = d.tst := by simp [Dev.settleCredit]
@[simp] theorem Dev.loadCbs_tst (d : Dev) (p : Nat) : (d.loadCbs p).tst = d.tst := by simp [Dev.loadCbs]
@[simp] theorem Dev.shedOne_tst (d : Dev) (t p q : Nat) : (d.shedOne t p q).tst = d.tst := by unfold Dev.shedOne; dsimp only; (repeat' split) <;> simp
@[simp] theorem Dev.shedQueue_tst (t p q n : Nat) (d : Dev) : (Dev.shedQueue t p q n d).tst = d.tst := by
  induction n generalizing d with
  | zero => rfl
  | succ n ih => unfold Dev.shedQueue; split <;> simp [ih]
@[simp] theorem Dev.shedDeaf_tst (d : Dev) (t p : Nat) : (d.shedDeaf t p).tst = d.tst := by simp [Dev.shedDeaf, apply_ite Dev.tst]
@[simp] theorem Dev.ptpStamp_tst (d : Dev) (s : Nat) : (d.ptpStamp s).tst = d.tst := by simp [Dev.ptpStamp]
@[simp] theorem Dev.takeStamp_tst (d : Dev) (t p : Nat) (x : Pkt) : (d.takeStamp t p x).1.tst = d.tst := by
  unfold Dev.takeStamp; dsimp only; (repeat' split) <;> simp
@[simp] theorem Dev.endFrame_tst (d : Dev) (p : Nat) : (d.endFrame p).tst = d.tst := by unfold Dev.endFrame; split <;> simp
@[simp] theorem Dev.wireEnds_tst (d : Dev) (p : Nat) : (d.wireEnds p).tst = d.tst := by simp [Dev.wireEnds, apply_ite Dev.tst]
@[simp] theorem Dev.sendFrame_tst (d : Dev) (t p q : Nat) (x : Pkt) (rest : List Pkt) : (d.sendFrame t p q x rest).tst = d.tst := by simp [Dev.sendFrame, apply_ite Dev.tst]
@[simp] theorem goFrameTransmit_tst (t p : Nat) (d : Dev) : (goFrameTransmit t p d).tst = d.tst := by unfold goFrameTransmit; dsimp only; (repeat' split) <;> simp
@[simp] theorem Dev.takePause_tst (d : Dev) (p k q : Nat) : (d.takePause p k q).tst = d.tst := by simp [Dev.takePause, apply_ite Dev.tst]
@[simp] theorem goPauseFrame_tst (p : Nat) (x : PauseMsg) (d : Dev) : (goPauseFrame p x d).tst = d.tst := by unfold goPauseFrame; (repeat' split) <;> simp
@[simp] theorem goPauseExpiry_tst (p k : Nat) (d : Dev) : (goPauseExpiry p k d).tst = d.tst := by simp [goPauseExpiry, apply_ite Dev.tst]
@[simp] theorem goSafetyNetTrip_tst (t p k : Nat) (d : Dev) : (goSafetyNetTrip t p k d).tst = d.tst := by simp [goSafetyNetTrip, apply_ite Dev.tst]
@[simp] theorem goDeafEnd_tst (p k : Nat) (d : Dev) : (goDeafEnd p k d).tst = d.tst := by simp [goDeafEnd, apply_ite Dev.tst]
@[simp] theorem Dev.flowWrite_tst (d : Dev) (p : Nat) (v : Reg) : (d.flowWrite p v).tst = d.tst := by simp [Dev.flowWrite, apply_ite Dev.tst]
@[simp] theorem goFlowCtrlWrite_tst (m : Master) (p : Nat) (v : Reg) (d : Dev) : (goFlowCtrlWrite m p v d).tst = d.tst := by simp [goFlowCtrlWrite, apply_ite Dev.tst]
@[simp] theorem Dev.dropLink_tst (d : Dev) (t p : Nat) : (d.dropLink t p).tst = d.tst := by simp [Dev.dropLink, apply_ite Dev.tst]
@[simp] theorem Dev.portCtrl_tst (d : Dev) (t p : Nat) (v : Reg) : (d.portCtrl t p v).tst = d.tst := by simp [Dev.portCtrl, apply_ite Dev.tst]
@[simp] theorem goPortEnable_tst (t : Nat) (m : Master) (p : Nat) (v : Reg) (d : Dev) : (goPortEnable t m p v d).tst = d.tst := by simp [goPortEnable, apply_ite Dev.tst]
@[simp] theorem goPortDisable_tst (t : Nat) (m : Master) (p : Nat) (v : Reg) (d : Dev) : (goPortDisable t m p v d).tst = d.tst := by simp [goPortDisable, apply_ite Dev.tst]
@[simp] theorem Dev.portWake_tst (d : Dev) (t p : Nat) (x : WakeFact) : (d.portWake t p x).tst = d.tst := by unfold Dev.portWake; dsimp only; (repeat' split) <;> simp
@[simp] theorem goEthernetWake_tst (t p : Nat) (x : WakeFact) (d : Dev) : (goEthernetWake t p x d).tst = d.tst := by simp [goEthernetWake]
@[simp] theorem goLinkUp_tst (t p : Nat) (x : LinkFacts) (d : Dev) : (goLinkUp t p x d).tst = d.tst := by simp [goLinkUp, apply_ite Dev.tst]
@[simp] theorem Dev.linkFails_tst (d : Dev) (t p : Nat) : (d.linkFails t p).tst = d.tst := by simp [Dev.linkFails, apply_ite Dev.tst]
@[simp] theorem goLinkDown_tst (t : Nat) (x : LinkLoss) (d : Dev) : (goLinkDown t x d).tst = d.tst := by unfold goLinkDown; split <;> simp

/-! Machine/Fem.lean. -/

@[simp] theorem Dev.setFem_tst (d : Dev) (c : Nat) (pa lna byp : Bool) (port : Nat) : (d.setFem c pa lna byp port).tst = d.tst := by simp [Dev.setFem, apply_ite Dev.tst]
@[simp] theorem Dev.modSpans_tst (d : Dev) (r : Nat) (f : List (Nat × Nat) → List (Nat × Nat)) : (d.modSpans r f).tst = d.tst := by simp [Dev.modSpans]
@[simp] theorem Dev.femChain_tst (d : Dev) (t c : Nat) : (d.femChain t c).tst = d.tst := by simp [Dev.femChain, apply_ite Dev.tst]
@[simp] theorem Dev.femSettle_tst (d : Dev) (t r : Nat) : (d.femSettle t r).tst = d.tst := by simp [Dev.femSettle]
@[simp] theorem Dev.femAll_tst (d : Dev) (t : Nat) : (d.femAll t).tst = d.tst := by simp [Dev.femAll]
@[simp] theorem Dev.busyNow_tst (d : Dev) (t r : Nat) : (d.busyNow t r).tst = d.tst := by simp [Dev.busyNow]
@[simp] theorem Dev.femTurn_tst (d : Dev) (t r : Nat) : (d.femTurn t r).tst = d.tst := by simp [Dev.femTurn, apply_ite Dev.tst]
@[simp] theorem Dev.cutAir_tst (d : Dev) (t r : Nat) : (d.cutAir t r).tst = d.tst := by simp [Dev.cutAir, apply_ite Dev.tst]
@[simp] theorem Dev.pdet_tst (d : Dev) (t tick c : Nat) (level : Int) : (d.pdet t tick c level).tst = d.tst := by simp [Dev.pdet, apply_ite Dev.tst]
@[simp] theorem Dev.sendPpdu_tst (t r : Nat) (d : Dev) (x : PpduAir) : (Dev.sendPpdu t r d x).tst = d.tst := by simp [Dev.sendPpdu, apply_ite Dev.tst]
@[simp] theorem Dev.sendAir_tst (d : Dev) (t r : Nat) (l : List PpduAir) : (d.sendAir t r l).tst = d.tst := by simp [Dev.sendAir]
@[simp] theorem Dev.landPdet_tst (d : Dev) (t : Nat) : (d.landPdet t).tst = d.tst := by simp [Dev.landPdet, apply_ite Dev.tst]
@[simp] theorem Dev.held_tst (d : Dev) (r : Nat) : (d.held r).tst = d.tst := by simp [Dev.held, apply_ite Dev.tst]
@[simp] theorem Dev.respondAir_tst (d : Dev) (t r ns : Nat) (readings : List PdetRead) : (d.respondAir t r ns readings).tst = d.tst := by simp [Dev.respondAir, apply_ite Dev.tst]
@[simp] theorem Dev.setDue_tst (d : Dev) (t c : Nat) : (d.setDue t c).tst = d.tst := by simp [Dev.setDue]

/-! Machine/Retake.lean. -/

@[simp] theorem Dev.modPeer_tst (d : Dev) (sid : Nat) (f : Peer → Peer) : (d.modPeer sid f).tst = d.tst := by simp [Dev.modPeer]
@[simp] theorem Dev.withService_tst (d : Dev) (r v : Nat) : (d.withService r v).tst = d.tst := by simp [Dev.withService]
@[simp] theorem Dev.alignPpdu_tst (d : Dev) (t r sid : Nat) (form : PpduForm) (ids : List Nat) : (d.alignPpdu t r sid form ids).tst = d.tst := by simp [Dev.alignPpdu, apply_ite Dev.tst]
@[simp] theorem Dev.keepOriginals_tst (d : Dev) (sid : Nat) : (d.keepOriginals sid).tst = d.tst := by simp [Dev.keepOriginals, apply_ite Dev.tst]
@[simp] theorem Dev.settleCopies_tst (d : Dev) (r sid : Nat) : (d.settleCopies r sid).tst = d.tst := by simp [Dev.settleCopies, apply_ite Dev.tst]

/-! Machine/Mac.lean. -/

@[simp] theorem Dev.startMsdus_tst (d : Dev) (t r sid : Nat) (form : PpduForm) (ids : List Nat) : (d.startMsdus t r sid form ids).tst = d.tst := by simp [Dev.startMsdus]
@[simp] theorem Dev.holdPpdus_tst (d : Dev) (t r : Nat) : (d.holdPpdus t r).tst = d.tst := by simp [Dev.holdPpdus, apply_ite Dev.tst]
@[simp] theorem Dev.startPpdus_tst (d : Dev) (t r : Nat) : (d.startPpdus t r).tst = d.tst := by simp [Dev.startPpdus, apply_ite Dev.tst]
@[simp] theorem Dev.cutShort_tst (d : Dev) (sid : Nat) : (d.cutShort sid).tst = d.tst := by simp [Dev.cutShort, apply_ite Dev.tst]
@[simp] theorem Dev.unsolicited_tst (d : Dev) (sid : Nat) : (d.unsolicited sid).tst = d.tst := by simp [Dev.unsolicited, apply_ite Dev.tst]
@[simp] theorem Dev.syncBacklog_tst (d : Dev) (sid : Nat) : (d.syncBacklog sid).tst = d.tst := by simp [Dev.syncBacklog]
@[simp] theorem Dev.msduDone_tst (d : Dev) (r : Nat) (m : Msdu) (code : Nat) : (d.msduDone r m code).tst = d.tst := by simp [Dev.msduDone]
@[simp] theorem Dev.leftMac_tst (d : Dev) (ten : Nat) (m : Msdu) : (d.leftMac ten m).tst = d.tst := by simp [Dev.leftMac]
@[simp] theorem Dev.bssOut_tst (d : Dev) (r b : Nat) (m : Msdu) (code : Nat) : (d.bssOut r b m code).tst = d.tst := by simp [Dev.bssOut]
@[simp] theorem Dev.msduOut_tst (d : Dev) (r sid : Nat) (m : Msdu) (code : Nat) : (d.msduOut r sid m code).tst = d.tst := by simp [Dev.msduOut]
@[simp] theorem Dev.staOutcome_tst (d : Dev) (t r sid : Nat) (m : Msdu) (acked : Bool) : (d.staOutcome t r sid m acked).tst = d.tst := by simp [Dev.staOutcome, apply_ite Dev.tst]
@[simp] theorem Dev.outcome_tst (d : Dev) (t r : Nat) (o : MsduOutcome) : (d.outcome t r o).tst = d.tst := by unfold Dev.outcome; (repeat' split) <;> simp
@[simp] theorem Dev.ownFrame_tst (d : Dev) (sid kind : Nat) : (d.ownFrame sid kind).tst = d.tst := by simp [Dev.ownFrame]
@[simp] theorem Dev.askBa_tst (d : Dev) (sid tid : Nat) : (d.askBa sid tid).tst = d.tst := by simp [Dev.askBa, apply_ite Dev.tst]
@[simp] theorem Dev.toStation_tst (d : Dev) (t sid : Nat) (p : Pkt) : (d.toStation t sid p).tst = d.tst := by simp [Dev.toStation, apply_ite Dev.tst]
@[simp] theorem goBssStart_tst (t : Nat) (who : Master) (req : List Word) (template : Option (List Byte)) (d : Dev) : (goBssStart t who req template d).tst = d.tst := by simp [goBssStart, apply_ite Dev.tst, apply_ite Prod.snd]
@[simp] theorem Dev.goneRest_tst (d : Dev) (sid : Nat) : (d.goneRest sid).tst = d.tst := by simp [Dev.goneRest]
@[simp] theorem Dev.removeSta_tst (d : Dev) (t sid : Nat) : (d.removeSta t sid).tst = d.tst := by simp [Dev.removeSta]
@[simp] theorem goBssStop_tst (t : Nat) (who : Master) (req : List Word) (d : Dev) : (goBssStop t who req d).tst = d.tst := by refine Dev.mbxNow_tst _ _ _ _ _ _ fun e => judged_tst _ _ _ ?_; dsimp only; simp
@[simp] theorem goStaAdd_tst (t : Nat) (who : Master) (req : List Word) (d : Dev) : (goStaAdd t who req d).tst = d.tst := by refine Dev.mbxNow_tst _ _ _ _ _ _ fun e => judged_tst _ _ _ ?_; dsimp only; (repeat' split) <;> simp
@[simp] theorem goStaRemove_tst (t : Nat) (who : Master) (req : List Word) (d : Dev) : (goStaRemove t who req d).tst = d.tst := by simp [goStaRemove]
@[simp] theorem goStaQuery_tst (t : Nat) (who : Master) (req : List Word) (d : Dev) : (goStaQuery t who req d).tst = d.tst := by simp [goStaQuery]
@[simp] theorem goSidRelease_tst (t : Nat) (d : Dev) : (goSidRelease t d).tst = d.tst := by simp [goSidRelease]
@[simp] theorem Dev.air_tst (d : Dev) (t r ns : Nat) (l : List PpduAir) : (d.air t r ns l).tst = d.tst := by simp [Dev.air]
@[simp] theorem Dev.markAdv_tst (d : Dev) : (d.markAdv).tst = d.tst := by simp [Dev.markAdv]
@[simp] theorem goBeacon_tst (t b : Nat) (x : BeaconAir) (d : Dev) : (goBeacon t b x d).tst = d.tst := by simp [goBeacon, apply_ite Dev.tst]
@[simp] theorem goBeaconSkipped_tst (t b : Nat) (d : Dev) : (goBeaconSkipped t b d).tst = d.tst := by simp [goBeaconSkipped, apply_ite Dev.tst]
@[simp] theorem Dev.startTxop_tst (d : Dev) (t r sid : Nat) (x : TxopFacts) (ids : List Nat) : (d.startTxop t r sid x ids).tst = d.tst := by simp [Dev.startTxop]
@[simp] theorem Dev.startAll_tst (d : Dev) (t r : Nat) (x : TxopFacts) (l : List MsduOutcome) : (d.startAll t r x l).tst = d.tst := by simp [Dev.startAll]
@[simp] theorem Dev.sendOwn_tst (d : Dev) (b : Nat) : (d.sendOwn b).tst = d.tst := by simp [Dev.sendOwn]
@[simp] theorem Dev.backedOff_tst (d : Dev) (b ac : Nat) (l : List MsduOutcome) : (d.backedOff b ac l).tst = d.tst := by simp [Dev.backedOff, apply_ite Dev.tst]
@[simp] theorem goContentionTxop_tst (t b ac : Nat) (x : TxopFacts) (d : Dev) : (goContentionTxop t b ac x d).tst = d.tst := by simp [goContentionTxop, apply_ite Dev.tst]
@[simp] theorem Dev.bssLifetime_tst (d : Dev) (t b id : Nat) : (d.bssLifetime t b id).tst = d.tst := by unfold Dev.bssLifetime; (repeat' split) <;> simp
@[simp] theorem goLifetime_tst (t sid id : Nat) (d0 : Dev) : (goLifetime t sid id d0).tst = d0.tst := by unfold goLifetime; dsimp only; (repeat' split) <;> simp
@[simp] theorem Dev.deliver_tst (d : Dev) (t r sid : Nat) (h : Held) : (d.deliver t r sid h).tst = d.tst := by simp [Dev.deliver, apply_ite Dev.tst]
@[simp] theorem Dev.modBa_tst (d : Dev) (sid tid : Nat) (f : BaRx → BaRx) : (d.modBa sid tid f).tst = d.tst := by simp [Dev.modBa]
@[simp] theorem Dev.releaseRun_tst (t r sid tid n : Nat) (d : Dev) : (Dev.releaseRun t r sid tid n d).tst = d.tst := by
  induction n generalizing d with
  | zero => rfl
  | succ n ih => unfold Dev.releaseRun; dsimp only; split <;> simp [ih]
@[simp] theorem Dev.moveWindow_tst (d : Dev) (t r sid tid next : Nat) : (d.moveWindow t r sid tid next).tst = d.tst := by simp [Dev.moveWindow]
@[simp] theorem Dev.await_tst (d : Dev) (sid : Nat) (x : RxMpdu) : (d.await sid x).tst = d.tst := by simp [Dev.await]
@[simp] theorem Dev.rxDrop_tst (d : Dev) (t r b slot : Nat) : (d.rxDrop t r b slot).tst = d.tst := by simp [Dev.rxDrop]
@[simp] theorem Dev.rxData_tst (d : Dev) (t r sid tid : Nat) (m : RxMpdu) (h : Held) : (d.rxData t r sid tid m h).tst = d.tst := by simp [Dev.rxData, apply_ite Dev.tst]
@[simp] theorem Dev.rxSettled_tst (d : Dev) (t r sid tid seq : Nat) (msdus : List (List Byte)) : (d.rxSettled t r sid tid seq msdus).tst = d.tst := by simp [Dev.rxSettled, apply_ite Dev.tst]
@[simp] theorem Dev.endBa_tst (d : Dev) (t r sid tid : Nat) : (d.endBa t r sid tid).tst = d.tst := by simp [Dev.endBa]
@[simp] theorem goReorderTimeout_tst (t sid tid : Nat) (d : Dev) : (goReorderTimeout t sid tid d).tst = d.tst := by unfold goReorderTimeout; dsimp only; (repeat' split) <;> simp
@[simp] theorem Dev.rxMgmt_tst (d : Dev) (t r b sid ended : Nat) (body : List Byte) : (d.rxMgmt t r b sid ended body).tst = d.tst := by simp [Dev.rxMgmt, apply_ite Dev.tst]
@[simp] theorem Dev.uapsdTrigger_tst (d : Dev) (t sid tid : Nat) : (d.uapsdTrigger t sid tid).tst = d.tst := by simp [Dev.uapsdTrigger, apply_ite Dev.tst]
@[simp] theorem Dev.twtAsked_tst (d : Dev) (sid : Nat) (broadcast : Bool) (us startTick startBeat duration : Nat) : (d.twtAsked sid broadcast us startTick startBeat duration).tst = d.tst := by simp [Dev.twtAsked, apply_ite Dev.tst]
@[simp] theorem Dev.rxKnown_tst (d : Dev) (t r sid : Nat) (x : RxMpdu) : (d.rxKnown t r sid x).tst = d.tst := by unfold Dev.rxKnown; dsimp only; (repeat' split) <;> simp
@[simp] theorem Dev.pmSeen_tst (d : Dev) (sid : Nat) (pm : Bool) : (d.pmSeen sid pm).tst = d.tst := by simp [Dev.pmSeen, apply_ite Dev.tst]
@[simp] theorem Dev.noteMgmt_tst (d : Dev) (sid : Option Nat) (x : RxMpdu) : (d.noteMgmt sid x).tst = d.tst := by unfold Dev.noteMgmt; dsimp only; (repeat' split) <;> simp
@[simp] theorem Dev.rxMpdu_tst (d : Dev) (t r : Nat) (x : RxMpdu) : (d.rxMpdu t r x).tst = d.tst := by unfold Dev.rxMpdu; dsimp only; (repeat' split) <;> simp
@[simp] theorem goMpduReceive_tst (t r : Nat) (frames : List RxMpdu) (d : Dev) : (goMpduReceive t r frames d).tst = d.tst := by simp [goMpduReceive, apply_ite Dev.tst]
@[simp] theorem Dev.countTwt_tst (d : Dev) (t : Nat) : (d.countTwt t).tst = d.tst := by simp [Dev.countTwt, apply_ite Dev.tst]

/-! Machine/Coding.lean. -/

@[simp] theorem Dev.modSlots_tst (d : Dev) (f : List Slot → List Slot) : (d.modSlots f).tst = d.tst := by simp [Dev.modSlots]
@[simp] theorem Dev.releaseSlot_tst (d : Dev) (sid rsn index : Nat) : (d.releaseSlot sid rsn index).tst = d.tst := by simp [Dev.releaseSlot]
@[simp] theorem Dev.keepCw_tst (d : Dev) (t : Nat) (cw : Codeword) : (d.keepCw t cw).tst = d.tst := by simp [Dev.keepCw, apply_ite Dev.tst]
@[simp] theorem Dev.cwOutcome_tst (d : Dev) (ends : Nat) (cw : Codeword) (o : CwOutcome) (iters : Nat) (toMac : Bool) (combine : Bool) : (d.cwOutcome ends cw o iters toMac combine).tst = d.tst := by simp [Dev.cwOutcome]
@[simp] theorem Dev.cwEnded_tst (d : Dev) (t : Nat) (x : CwRun) : (d.cwEnded t x).tst = d.tst := by simp [Dev.cwEnded, apply_ite Dev.tst]
@[simp] theorem Dev.landCws_tst (d : Dev) (t : Nat) : (d.landCws t).tst = d.tst := by simp [Dev.landCws, apply_ite Dev.tst]
@[simp] theorem Dev.ownCw_tst (d : Dev) (t : Nat) (cw : Codeword) (o : CwOutcome) : (d.ownCw t cw o).tst = d.tst := by simp [Dev.ownCw, apply_ite Dev.tst]
@[simp] theorem Dev.endCopy_tst (d : Dev) (t ends : Nat) (cw : Codeword) (rsn index : Nat) (e : CwOutcome × Nat) : (d.endCopy t ends cw rsn index e).tst = d.tst := by unfold Dev.endCopy; (repeat' split) <;> simp
@[simp] theorem Dev.takeMap_tst (d : Dev) (t : Nat) (cw : Codeword) (o : CwOutcome) : (d.takeMap t cw o).tst = d.tst := by unfold Dev.takeMap; split <;> simp
@[simp] theorem Dev.newPsdu_tst (d : Dev) (cw : Codeword) : (d.newPsdu cw).tst = d.tst := by simp [Dev.newPsdu, apply_ite Dev.tst]
@[simp] theorem Dev.endCw_tst (d0 : Dev) (t ends : Nat) (cw : Codeword) (e : CwOutcome × Nat) : (d0.endCw t ends cw e).tst = d0.tst := by unfold Dev.endCw; dsimp only; (repeat' split) <;> simp
@[simp] theorem Dev.serveCw_tst (d : Dev) (t : Nat) (cw : Codeword) : (d.serveCw t cw).tst = d.tst := by simp [Dev.serveCw]
@[simp] theorem Dev.serve_tst (d : Dev) (t : Nat) : (d.serve t).tst = d.tst := by simp [Dev.serve, apply_ite Dev.tst]
@[simp] theorem goCodewordDecode_tst (cw : Codeword) (d : Dev) : (goCodewordDecode cw d).tst = d.tst := by simp [goCodewordDecode, apply_ite Dev.tst]
@[simp] theorem goDecodeDeadline_tst (t : Nat) (cw : Codeword) (d : Dev) : (goDecodeDeadline t cw d).tst = d.tst := by simp [goDecodeDeadline]
@[simp] theorem goRetakeExpired_tst (t : Nat) (d : Dev) : (goRetakeExpired t d).tst = d.tst := by simp [goRetakeExpired, apply_ite Dev.tst]
@[simp] theorem goRetakePeer_tst (t : Nat) (who : Master) (req : List Word) (d : Dev) : (goRetakePeer t who req d).tst = d.tst := by simp [goRetakePeer, apply_ite Dev.tst, apply_ite Prod.snd]

/-! Machine/Cues.lean. -/

@[simp] theorem Dev.countLate_tst (d : Dev) (t : Nat) : (d.countLate t).tst = d.tst := by simp [Dev.countLate]
@[simp] theorem Dev.lateCues_tst (d : Dev) (t tick : Nat) : (d.lateCues t tick).tst = d.tst := by simp [Dev.lateCues, apply_ite Dev.tst]

/-! Machine/Planner.lean. -/

@[simp] theorem repack_tst (l : List CastEntry) (d : Dev) : (repack l d).2.tst = d.tst := by
  induction l generalizing d with
  | nil => rfl
  | cons e l ih => unfold repack; dsimp only; split <;> simp [ih]
@[simp] theorem Dev.halvedCast_tst (d : Dev) (sent : Bool) (primary bw : Nat) (l : List CastEntry) : (d.halvedCast sent primary bw l).2.tst = d.tst := by
  unfold Dev.halvedCast; split <;> simp
@[simp] theorem narrowPart_tst (d : Dev) (sent : Bool) (tick : Nat) (x : RPart) : (narrowPart d sent tick x).2.tst = d.tst := by
  unfold narrowPart; dsimp only; split <;> simp
@[simp] theorem fitStep_tst (d : Dev) (sent : Bool) (tick : Nat) (l : List RPart) : (fitStep d sent tick l).2.tst = d.tst := by
  unfold fitStep; dsimp only; (repeat' split) <;> simp
@[simp] theorem fitLoop_tst (budget : Nat) (sent : Bool) (tick n : Nat) (l : List RPart) (d : Dev) : (fitLoop budget sent tick n l d).2.tst = d.tst := by
  induction n generalizing l d with
  | zero => rfl
  | succ n ih => unfold fitLoop; split <;> simp [ih]
@[simp] theorem Dev.fit_tst (d : Dev) (tick : Nat) : (Dev.fit d tick).tst = d.tst :=
  (foldl_tst _ _ _ fun _ _ => by simp).trans (by simp)
@[simp] theorem Dev.giveAir_tst (d : Dev) (tick r beats : Nat) (cast : List CastEntry) : (d.giveAir tick r beats cast).tst = d.tst := by simp [Dev.giveAir]
@[simp] theorem Dev.logTake_tst (d : Dev) (x : TakeLogRec) : (d.logTake x).tst = d.tst := by simp [Dev.logTake]
@[simp] theorem Dev.countMissed_tst (d : Dev) (l : List CastEntry) : (d.countMissed l).tst = d.tst := by simp [Dev.countMissed]
@[simp] theorem Dev.shedRecord_tst (d : Dev) (t r tick k endBeat : Nat) : (d.shedRecord t r tick k endBeat).tst = d.tst := by simp [Dev.shedRecord]
@[simp] theorem goFinalPass_tst (t : Nat) (starved : List Nat) (d0 : Dev) : (goFinalPass t starved d0).tst = d0.tst := by simp [goFinalPass]
@[simp] theorem Dev.markVoid_tst (d : Dev) (r tick k : Nat) : (d.markVoid r tick k).tst = d.tst := by simp [Dev.markVoid]
@[simp] theorem Dev.endTake_tst (d : Dev) (t r k b : Nat) : (d.endTake t r k b).tst = d.tst := by simp [Dev.endTake, apply_ite Dev.tst]
@[simp] theorem Dev.takeDone_tst (d : Dev) (t r k code sent abandoned served startBeat b : Nat) : (d.takeDone t r k code sent abandoned served startBeat b).tst = d.tst := by simp [Dev.takeDone]
@[simp] theorem Dev.declareMissed_tst (d : Dev) (t r : Nat) (s : Sheet) (k : Nat) : (d.declareMissed t r s k).tst = d.tst := by simp [Dev.declareMissed]
@[simp] theorem Dev.declareUnlocked_tst (d : Dev) (t r : Nat) (s : Sheet) (k : Nat) : (d.declareUnlocked t r s k).tst = d.tst := by simp [Dev.declareUnlocked]
@[simp] theorem Dev.countSkips_tst (d : Dev) (r n : Nat) : (d.countSkips r n).tst = d.tst := by simp [Dev.countSkips, apply_ite Dev.tst]
@[simp] theorem Dev.contend_tst (d : Dev) (t r : Nat) (s : Sheet) (k : Nat) : (d.contend t r s k).tst = d.tst := by simp [Dev.contend, apply_ite Dev.tst]
@[simp] theorem Dev.nextTake_tst (t r n : Nat) (d : Dev) : (Dev.nextTake t r n d).tst = d.tst := by
  induction n generalizing d with
  | zero => rfl
  | succ n ih => unfold Dev.nextTake; (repeat' split) <;> simp [ih]
@[simp] theorem goTakeContend_tst (t r : Nat) (d : Dev) : (goTakeContend t r d).tst = d.tst := by unfold goTakeContend; (repeat' split) <;> simp
@[simp] theorem Dev.openPlay_tst (d : Dev) (t r : Nat) : (d.openPlay t r).tst = d.tst := by simp [Dev.openPlay, apply_ite Dev.tst]
@[simp] theorem Dev.openTick_tst (d : Dev) (t : Nat) : (d.openTick t).tst = d.tst := by simp [Dev.openTick, apply_ite Dev.tst]
@[simp] theorem Dev.openSlots_tst (d : Dev) (tick : Nat) : (d.openSlots tick).tst = d.tst := by simp [Dev.openSlots]
@[simp] theorem Dev.noteFresh_tst (d : Dev) (r tick : Nat) (ps : List RPart) : (d.noteFresh r tick ps).tst = d.tst := by simp [Dev.noteFresh]
@[simp] theorem Dev.putDrafts_tst (d : Dev) (t tick : Nat) (drafts : List Draft) : (d.putDrafts t tick drafts).tst = d.tst :=
  foldl_tst _ _ _ fun e r => by dsimp only; (repeat' split) <;> simp
@[simp] theorem goDraftOpen_tst (t : Nat) (drafts : List Draft) (d : Dev) : (goDraftOpen t drafts d).tst = d.tst := by simp [goDraftOpen, apply_ite Dev.tst]
@[simp] theorem Dev.planEntry_tst (d : Dev) (t r : Nat) (facts : TakeStartFacts) (c : CastEntry) : (d.planEntry t r facts c).tst = d.tst := by simp [Dev.planEntry]
@[simp] theorem Dev.collide_tst (d : Dev) (q : Nat × Nat) : (d.collide q).tst = d.tst := by simp [Dev.collide]
@[simp] theorem Dev.sound_tst (d : Dev) (t r : Nat) (x : TakeRec) (cast : List CastEntry) (sizes : List (Nat × Nat)) : (d.sound t r x cast sizes).tst = d.tst := by simp [Dev.sound]
@[simp] theorem Dev.takeOnAir_tst (d : Dev) (t r k : Nat) (x : TakeRec) (cast : List CastEntry) (facts : TakeStartFacts) : (d.takeOnAir t r k x cast facts).tst = d.tst := by simp [Dev.takeOnAir, apply_ite Dev.tst]
@[simp] theorem goTakeStart_tst (t r : Nat) (facts : TakeStartFacts) (d : Dev) : (goTakeStart t r facts d).tst = d.tst := by unfold goTakeStart; dsimp only; (repeat' split) <;> simp
@[simp] theorem Dev.offAir_tst (d : Dev) (r : Nat) (cast : List CastEntry) : (d.offAir r cast).tst = d.tst := by simp [Dev.offAir]
@[simp] theorem Dev.countNulls_tst (d : Dev) (r sent : Nat) : (d.countNulls r sent).tst = d.tst := by simp [Dev.countNulls, apply_ite Dev.tst]
@[simp] theorem Dev.settleTake_tst (d0 : Dev) (t r : Nat) (cast : List CastEntry) (f : TakeFacts) : (d0.settleTake t r cast f).tst = d0.tst := by simp [Dev.settleTake, apply_ite Dev.tst]
@[simp] theorem goTakeCompletion_tst (t r : Nat) (f : TakeFacts) (d : Dev) : (goTakeCompletion t r f d).tst = d.tst := by unfold goTakeCompletion; dsimp only; (repeat' split) <;> simp
@[simp] theorem goMissedCue_tst (t r : Nat) (d : Dev) : (goMissedCue t r d).tst = d.tst := by unfold goMissedCue; split <;> simp
@[simp] theorem goOverrunCut_tst (t r : Nat) (f : TakeFacts) (d : Dev) : (goOverrunCut t r f d).tst = d.tst := by unfold goOverrunCut; dsimp only; (repeat' split) <;> simp
@[simp] theorem goUnlocked_tst (t r : Nat) (d : Dev) : (goUnlocked t r d).tst = d.tst := by unfold goUnlocked; (repeat' split) <;> simp
@[simp] theorem Dev.shedTake_tst (d : Dev) (t r tick k : Nat) : (d.shedTake t r tick k).tst = d.tst := by simp [Dev.shedTake, apply_ite Dev.tst]
@[simp] theorem Dev.shedTick_tst (d : Dev) (t tick budget : Nat) : (d.shedTick t tick budget).tst = d.tst := by simp [Dev.shedTick, apply_ite Dev.tst]
@[simp] theorem Dev.weighTake_tst (d : Dev) (t r tick k : Nat) : (d.weighTake t r tick k).tst = d.tst := by simp [Dev.weighTake, apply_ite Dev.tst]
@[simp] theorem Dev.weigh_tst (d : Dev) (t tick : Nat) : (d.weigh t tick).tst = d.tst := by simp [Dev.weigh, apply_ite Dev.tst]
@[simp] theorem LockRun.darken_tst (x : LockRun) (r tick res reason : Nat) : (x.darken r tick res reason).dev.tst = x.dev.tst := by
  simp [LockRun.darken]
@[simp] theorem LockRun.judge_tst (t tick : Nat) (x : LockRun) (r : Nat) : (LockRun.judge t tick x r).dev.tst = x.dev.tst := by
  unfold LockRun.judge; dsimp only; (repeat' split) <;> simp
theorem LockRun.judges_tst (t tick : Nat) (l : List Nat) (x : LockRun) : (l.foldl (LockRun.judge t tick) x).dev.tst = x.dev.tst := by
  induction l generalizing x with
  | nil => rfl
  | cons r l ih => rw [List.foldl, ih, LockRun.judge_tst]
@[simp] theorem goPictureLock_tst (t : Nat) (d : Dev) : (goPictureLock t d).tst = d.tst := by
  unfold goPictureLock; dsimp only; split <;> simp only [Dev.shedTick_tst, Dev.weigh_tst] <;> exact LockRun.judges_tst t (tickOf t + 1) _ _
@[simp] theorem goPlnStatus_tst (t : Nat) (who : Master) (req : List Word) (d : Dev) : (goPlnStatus t who req d).tst = d.tst := by simp [goPlnStatus]
@[simp] theorem goPlnForceDark_tst (t : Nat) (who : Master) (req : List Word) (d : Dev) : (goPlnForceDark t who req d).tst = d.tst := by simp [goPlnForceDark]
@[simp] theorem goPlnSheetRead_tst (t : Nat) (who : Master) (req : List Word) (d : Dev) : (goPlnSheetRead t who req d).tst = d.tst := by simp [goPlnSheetRead]
@[simp] theorem goPlnTakeLog_tst (t : Nat) (who : Master) (req : List Word) (d : Dev) : (goPlnTakeLog t who req d).tst = d.tst := by simp [goPlnTakeLog]

/-! Machine/Modem.lean. -/

@[simp] theorem Dev.choosePort_tst (d : Dev) (r : Nat) (x : Nat × Int × Int) : (d.choosePort r x).tst = d.tst := by simp [Dev.choosePort, apply_ite Dev.tst]
@[simp] theorem Dev.agcBypass_tst (d : Dev) (r : Nat) (power : Int) : (d.agcBypass r power).tst = d.tst := by simp [Dev.agcBypass, apply_ite Dev.tst]
@[simp] theorem Dev.clip_tst (d : Dev) (t r : Nat) (clipped : Bool) : (d.clip t r clipped).tst = d.tst := by simp [Dev.clip, apply_ite Dev.tst]
@[simp] theorem Dev.clipDue_tst (d : Dev) (t r : Nat) : (d.clipDue t r).tst = d.tst := by simp [Dev.clipDue, apply_ite Dev.tst]
@[simp] theorem goDetection_tst (t r : Nat) (x : Detect) (d : Dev) : (goDetection t r x d).tst = d.tst := by simp [goDetection, apply_ite Dev.tst]
@[simp] theorem Dev.presetAgc_tst (d : Dev) (t r : Nat) : (d.presetAgc t r).tst = d.tst := by unfold Dev.presetAgc; dsimp only; (repeat' split) <;> simp
@[simp] theorem Dev.agcStep_tst (d : Dev) (t r : Nat) : (d.agcStep t r).tst = d.tst := by simp [Dev.agcStep, apply_ite Dev.tst]
@[simp] theorem Dev.report_tst (d : Dev) (t r status : Nat) (u0 : UserReport) (newc : Nat) : (d.report t r status u0 newc).tst = d.tst := by simp [Dev.report, apply_ite Dev.tst]
@[simp] theorem Dev.stopRx_tst (d : Dev) (t r : Nat) (y : RxDone) (heard held : Bool) (chains : Nat) : (d.stopRx t r y heard held chains).tst = d.tst := by simp [Dev.stopRx, apply_ite Dev.tst]
@[simp] theorem Dev.abortReport_tst (d : Dev) (t r status newc : Nat) (u : UserReport) : (d.abortReport t r status newc u).tst = d.tst := by simp [Dev.abortReport]
@[simp] theorem Dev.abortRx_tst (d0 : Dev) (t r status newc : Nat) (held : Bool) : (d0.abortRx t r status newc held).tst = d0.tst := by simp [Dev.abortRx, apply_ite Dev.tst]
@[simp] theorem Dev.truncateRx_tst (d : Dev) (t r : Nat) : (d.truncateRx t r).tst = d.tst := by simp [Dev.truncateRx, apply_ite Dev.tst]
@[simp] theorem goLsigCheck_tst (t r : Nat) (x : LSig) (d : Dev) : (goLsigCheck t r x d).tst = d.tst := by simp [goLsigCheck, apply_ite Dev.tst]
@[simp] theorem goDsssSfdTimeout_tst (t r : Nat) (headerCrcFailed : Bool) (d : Dev) : (goDsssSfdTimeout t r headerCrcFailed d).tst = d.tst := by simp [goDsssSfdTimeout, apply_ite Dev.tst]
@[simp] theorem Dev.loseNewcomer_tst (d : Dev) (r : Nat) (power : Int) : (d.loseNewcomer r power).tst = d.tst := by simp [Dev.loseNewcomer]
@[simp] theorem goCapture_tst (t r : Nat) (power : Int) (lsig : Option LSig) (x : Newcomer) (d0 : Dev) : (goCapture t r power lsig x d0).tst = d0.tst := by unfold goCapture; dsimp only; (repeat' split) <;> simp
@[simp] theorem goSrAbort_tst (t r colour : Nat) (power : Int) (d : Dev) : (goSrAbort t r colour power d).tst = d.tst := by simp [goSrAbort, apply_ite Dev.tst]
@[simp] theorem Dev.estimates_tst (d : Dev) (r status : Nat) (u : UserReport) : (d.estimates r status u).tst = d.tst := by simp [Dev.estimates, apply_ite Dev.tst]
@[simp] theorem Dev.feedback_tst (d : Dev) (t r : Nat) (f : Feedback) : (d.feedback t r f).tst = d.tst := by simp [Dev.feedback, apply_ite Dev.tst]
@[simp] theorem Dev.keepCross_tst (d : Dev) (t r : Nat) (x : CrossEst) : (d.keepCross t r x).tst = d.tst := by simp [Dev.keepCross]
@[simp] theorem Dev.putCross_tst (d : Dev) (t r : Nat) (x : CrossEst) : (d.putCross t r x).tst = d.tst := by simp [Dev.putCross, apply_ite Dev.tst]
@[simp] theorem Dev.gatherCross_tst (d : Dev) (t r : Nat) : (d.gatherCross t r).tst = d.tst := by simp [Dev.gatherCross, apply_ite Dev.tst]
@[simp] theorem goReceptionEnd_tst (t r : Nat) (x : RxEnd) (d0 : Dev) : (goReceptionEnd t r x d0).tst = d0.tst := by simp [goReceptionEnd, apply_ite Dev.tst]
@[simp] theorem Dev.openNoise_tst (d : Dev) (t : Nat) : (d.openNoise t).tst = d.tst := by simp [Dev.openNoise, apply_ite Dev.tst]
@[simp] theorem goNoiseReport_tst (t : Nat) (means : List NoiseMean) (d : Dev) : (goNoiseReport t means d).tst = d.tst := by simp [goNoiseReport]
@[simp] theorem goMdmNoiseRead_tst (t : Nat) (who : Master) (req : List Word) (d : Dev) : (goMdmNoiseRead t who req d).tst = d.tst := by simp [goMdmNoiseRead]
@[simp] theorem goMdmQualityRead_tst (t : Nat) (who : Master) (req : List Word) (d : Dev) : (goMdmQualityRead t who req d).tst = d.tst := by simp [goMdmQualityRead]

/-! Machine/FrontEnd.lean. -/

@[simp] theorem goCalibrationDue_tst (t c : Nat) (d : Dev) : (goCalibrationDue t c d).tst = d.tst := by simp [goCalibrationDue, apply_ite Dev.tst]
@[simp] theorem Dev.beginFull_tst (d : Dev) (t r : Nat) : (d.beginFull t r).tst = d.tst := by simp [Dev.beginFull]
@[simp] theorem goFullCalibration_tst (t r : Nat) (d : Dev) : (goFullCalibration t r d).tst = d.tst := by simp [goFullCalibration, apply_ite Dev.tst]
@[simp] theorem goRollingCalibration_tst (t c : Nat) (d : Dev) : (goRollingCalibration t c d).tst = d.tst := by simp [goRollingCalibration, apply_ite Dev.tst]
@[simp] theorem Dev.keepBand_tst (d : Dev) (r : Nat) (y : CalStep) : (d.keepBand r y).tst = d.tst := by simp [Dev.keepBand]
@[simp] theorem Dev.keepSteps_tst (d : Dev) (r : Nat) (y : ChainCal) : (d.keepSteps r y).tst = d.tst := by simp [Dev.keepSteps]
@[simp] theorem Dev.chainResult_tst (d : Dev) (t r : Nat) (y : ChainCal) : (d.chainResult t r y).tst = d.tst := by simp [Dev.chainResult, apply_ite Dev.tst]
@[simp] theorem Dev.resultOf_tst (d : Dev) (results : List ChainCal) (c : Nat) : (d.resultOf results c).2.tst = d.tst := rfl
@[simp] theorem Dev.keepResults_tst (t r : Nat) (results : List ChainCal) (l : List Nat) (d : Dev) : (Dev.keepResults t r results l d).tst = d.tst := by
  induction l generalizing d with
  | nil => rfl
  | cons c l ih => simp [Dev.keepResults, ih]
@[simp] theorem Dev.ensureBand_tst (d : Dev) (r : Nat) (results : List ChainCal) : (d.ensureBand r results).tst = d.tst := by simp [Dev.ensureBand, apply_ite Dev.tst]
@[simp] theorem Dev.judgeMute_tst (d : Dev) (t : Nat) : (d.judgeMute t).tst = d.tst := by simp [Dev.judgeMute, apply_ite Dev.tst]
@[simp] theorem Dev.startDone_tst (d : Dev) (t r : Nat) : (d.startDone t r).tst = d.tst := by unfold Dev.startDone; (repeat' split) <;> simp
@[simp] theorem goCalibrationDone_tst (t r : Nat) (full : Bool) (results : List ChainCal) (d : Dev) : (goCalibrationDone t r full results d).tst = d.tst := by simp [goCalibrationDone, apply_ite Dev.tst]
@[simp] theorem Dev.enterStarting_tst (d : Dev) (t r : Nat) : (d.enterStarting t r).tst = d.tst := by simp [Dev.enterStarting]
@[simp] theorem goStarting_tst (t r : Nat) (d : Dev) : (goStarting t r d).tst = d.tst := by unfold goStarting; dsimp only; (repeat' split) <;> simp
@[simp] theorem goLocked_tst (t r : Nat) (d : Dev) : (goLocked t r d).tst = d.tst := by simp [goLocked, apply_ite Dev.tst]
@[simp] theorem Dev.synthFault_tst (d : Dev) (t r : Nat) : (d.synthFault t r).tst = d.tst := by unfold Dev.synthFault; dsimp only; (repeat' split) <;> simp
@[simp] theorem Dev.passFailed_tst (d : Dev) (t r : Nat) : (d.passFailed t r).tst = d.tst := by simp [Dev.passFailed, apply_ite Dev.tst]
@[simp] theorem goStartingFail_tst (t r : Nat) (d : Dev) : (goStartingFail t r d).tst = d.tst := by simp [goStartingFail, apply_ite Dev.tst]
@[simp] theorem Dev.keepBroken_tst (d : Dev) (t r : Nat) (y : ChainCal) : (d.keepBroken t r y).tst = d.tst := by simp [Dev.keepBroken, apply_ite Dev.tst]
@[simp] theorem Dev.loseLock_tst (d : Dev) (t r : Nat) (completed : List ChainCal) : (d.loseLock t r completed).tst = d.tst := by simp [Dev.loseLock, apply_ite Dev.tst]
@[simp] theorem goLossOfLock_tst (t : Nat) (x : LockLoss) (d : Dev) : (goLossOfLock t x d).tst = d.tst := by simp [goLossOfLock, apply_ite Dev.tst]
@[simp] theorem goReacquisitionTimeout_tst (t r : Nat) (d : Dev) : (goReacquisitionTimeout t r d).tst = d.tst := by simp [goReacquisitionTimeout, apply_ite Dev.tst]
@[simp] theorem goRef40Lost_tst (t : Nat) (d : Dev) : (goRef40Lost t d).tst = d.tst := by simp [goRef40Lost]
@[simp] theorem Dev.answerStops_tst (d : Dev) (t r : Nat) : (d.answerStops t r).tst = d.tst := by simp [Dev.answerStops]
@[simp] theorem goRadioStop_tst (t r : Nat) (d : Dev) : (goRadioStop t r d).tst = d.tst := by unfold goRadioStop; dsimp only; (repeat' split) <;> simp
@[simp] theorem goChannelChange_tst (t r : Nat) (d : Dev) : (goChannelChange t r d).tst = d.tst := by
  unfold goChannelChange; dsimp only; split
  · rfl
  · split
    · rfl
    · simp [apply_ite Dev.tst]
@[simp] theorem goGrantEffect_tst (t : Nat) (d : Dev) : (goGrantEffect t d).tst = d.tst := by simp [goGrantEffect]
@[simp] theorem goGrantExpiry_tst (t : Nat) (d : Dev) : (goGrantExpiry t d).tst = d.tst := by simp [goGrantExpiry]
@[simp] theorem goFeChainCtrl_tst (t : Nat) (m : Master) (c : Nat) (v : Reg) (d : Dev) : (goFeChainCtrl t m c v d).tst = d.tst := by simp [goFeChainCtrl, apply_ite Dev.tst]
@[simp] theorem Dev.radioTick_tst (d : Dev) (t : Nat) : (d.radioTick t).tst = d.tst := by
  have hbump : ∀ e : Dev, (if (e.radio 2).muted then e.bump 32 26 else e).tst = e.tst := fun e => by split <;> simp
  unfold Dev.radioTick; dsimp only
  rw [hbump, Dev.judgeMute_tst]
  exact foldl_tst _ _ _ fun e r => by split <;> simp [apply_ite Dev.tst]
@[simp] theorem goFeRadioCtrl_tst (t : Nat) (who : Master) (req : List Word) (d : Dev) : (goFeRadioCtrl t who req d).tst = d.tst :=
  Dev.mbx_tst _ _ _ _ _ _ fun p e => by dsimp only; split <;> simp [apply_ite Dev.tst]
@[simp] theorem goFeChannelSet_tst (t : Nat) (who : Master) (req : List Word) (d : Dev) : (goFeChannelSet t who req d).tst = d.tst := by simp [goFeChannelSet]
@[simp] theorem goFeCalibrate_tst (t : Nat) (who : Master) (req : List Word) (d : Dev) : (goFeCalibrate t who req d).tst = d.tst := by simp [goFeCalibrate, apply_ite Dev.tst]
@[simp] theorem goFeStatus_tst (t : Nat) (who : Master) (req : List Word) (d : Dev) : (goFeStatus t who req d).tst = d.tst := by simp [goFeStatus]
@[simp] theorem goFe6gGrant_tst (t : Nat) (who : Master) (req : List Word) (d : Dev) : (goFe6gGrant t who req d).tst = d.tst := by simp [goFe6gGrant]

/-! Machine/BigTop.lean. -/

@[simp] theorem Dev.modServo_tst (d : Dev) (f : Servo → Servo) : (d.modServo f).tst = d.tst := by simp [Dev.modServo]
@[simp] theorem Dev.btSend_tst (d : Dev) (t msg tick seg : Nat) (body : List Byte) : (d.btSend t msg tick seg body).tst = d.tst := by simp [Dev.btSend, apply_ite Dev.tst]
@[simp] theorem Dev.btLeaveMsg_tst (d : Dev) (t : Nat) : (d.btLeaveMsg t).tst = d.tst := by simp [Dev.btLeaveMsg]
@[simp] theorem Dev.sourceLost_tst (d : Dev) : (d.sourceLost).tst = d.tst := by unfold Dev.sourceLost; split <;> simp
@[simp] theorem Dev.sourceUsable_tst (d : Dev) : (d.sourceUsable).tst = d.tst := by unfold Dev.sourceUsable; split <;> simp
@[simp] theorem Dev.applyOffset_tst (d : Dev) (t : Nat) (off : Int) : (d.applyOffset t off).tst = d.tst := by simp [Dev.applyOffset, apply_ite Dev.tst]
@[simp] theorem Dev.chooseMaster_tst (d : Dev) (l : List AnnounceMsg) : (d.chooseMaster l).tst = d.tst := by simp [Dev.chooseMaster, apply_ite Dev.tst]
@[simp] theorem goAnnounce_tst (x : AnnounceMsg) (d : Dev) : (goAnnounce x d).tst = d.tst := by simp [goAnnounce, apply_ite Dev.tst]
@[simp] theorem Dev.askDelay_tst (d : Dev) (t p : Nat) (udp : Bool) : (d.askDelay t p udp).tst = d.tst := by simp [Dev.askDelay]
@[simp] theorem Dev.syncHeard_tst (d : Dev) (t : Nat) (x : SyncMsg) (origin : Int) (stamp : Nat) : (d.syncHeard t x origin stamp).tst = d.tst := by unfold Dev.syncHeard; split <;> simp
@[simp] theorem Dev.delayAnswered_tst (d : Dev) (t seq : Nat) (received : Int) : (d.delayAnswered t seq received).tst = d.tst := by unfold Dev.delayAnswered; (repeat' split) <;> simp
@[simp] theorem goSync_tst (t : Nat) (x : SyncMsg) (d : Dev) : (goSync t x d).tst = d.tst := by unfold goSync; (repeat' split) <;> simp
@[simp] theorem goSourceLoss_tst (d : Dev) : (goSourceLoss d).tst = d.tst := by simp [goSourceLoss, apply_ite Dev.tst]
@[simp] theorem goCoordExit_tst (t : Nat) (d : Dev) : (goCoordExit t d).tst = d.tst := by simp [goCoordExit, apply_ite Dev.tst]
@[simp] theorem goEnterCoordinated_tst (t : Nat) (d : Dev) : (goEnterCoordinated t d).tst = d.tst := by simp [goEnterCoordinated, apply_ite Dev.tst]
@[simp] theorem Dev.btBeat_tst (d : Dev) : (d.btBeat).tst = d.tst := by simp [Dev.btBeat, apply_ite Dev.tst]
@[simp] theorem Dev.pulse_tst (d : Dev) (t : Nat) : (d.pulse t).tst = d.tst := by simp [Dev.pulse, apply_ite Dev.tst]
@[simp] theorem Dev.btTick_tst (d : Dev) (t : Nat) : (d.btTick t).tst = d.tst := by unfold Dev.btTick; dsimp only; (repeat' split) <;> simp
@[simp] theorem Dev.stepDark_tst (d : Dev) : (d.stepDark).tst = d.tst := by simp [Dev.stepDark]
@[simp] theorem Dev.stepped_tst (d : Dev) (t : Nat) : (d.stepped t).tst = d.tst := by simp [Dev.stepped, apply_ite Dev.tst]
@[simp] theorem goClapperMessage_tst (t : Nat) (d : Dev) : (goClapperMessage t d).tst = d.tst := by simp [goClapperMessage, apply_ite Dev.tst]
@[simp] theorem goClapperMessageRx_tst (t : Nat) (x : BtFrame) (d : Dev) : (goClapperMessageRx t x d).tst = d.tst := by unfold goClapperMessageRx; dsimp only; (repeat' split) <;> simp
@[simp] theorem Dev.acceptEdge_tst (d : Dev) (t number : Nat) (local' : Int) : (d.acceptEdge t number local').tst = d.tst := by simp [Dev.acceptEdge, apply_ite Dev.tst]
@[simp] theorem goClapIn_tst (t stamp : Nat) (d : Dev) : (goClapIn t stamp d).tst = d.tst := by unfold goClapIn; dsimp only; (repeat' split) <;> simp
@[simp] theorem goClapMissing_tst (t : Nat) (d : Dev) : (goClapMissing t d).tst = d.tst := by simp [goClapMissing, apply_ite Dev.tst]
@[simp] theorem goCueSend_tst (t : Nat) (d : Dev) : (goCueSend t d).tst = d.tst := by simp [goCueSend, apply_ite Dev.tst]
@[simp] theorem Dev.cueDiscard_tst (d : Dev) (t : Nat) : (d.cueDiscard t).tst = d.tst := by simp [Dev.cueDiscard]
@[simp] theorem Dev.cueClash_tst (d : Dev) (t n : Nat) : (d.cueClash t n).tst = d.tst := by simp [Dev.cueClash]
@[simp] theorem Dev.putCue_tst (d : Dev) (c : Cue) : (d.putCue c).tst = d.tst := by simp [Dev.putCue]
@[simp] theorem Dev.cueComplete_tst (d : Dev) (t stamp : Nat) (c : Cue) : (d.cueComplete t stamp c).tst = d.tst := by simp [Dev.cueComplete, apply_ite Dev.tst]
@[simp] theorem goCueSegment_tst (t : Nat) (x : BtFrame) (d : Dev) : (goCueSegment t x d).tst = d.tst := by simp [goCueSegment, apply_ite Dev.tst]
@[simp] theorem goLeaveMessage_tst (x : BtFrame) (d : Dev) : (goLeaveMessage x d).tst = d.tst := by simp [goLeaveMessage, apply_ite Dev.tst]
@[simp] theorem goNeighbourSetEffect_tst (t : Nat) (d : Dev) : (goNeighbourSetEffect t d).tst = d.tst := by unfold goNeighbourSetEffect; (repeat' split) <;> simp
@[simp] theorem goBtJoin_tst (t : Nat) (who : Master) (req : List Word) (d : Dev) : (goBtJoin t who req d).tst = d.tst := by simp [goBtJoin]
@[simp] theorem goBtLeave_tst (t : Nat) (who : Master) (req : List Word) (d : Dev) : (goBtLeave t who req d).tst = d.tst := by simp [goBtLeave, apply_ite Dev.tst]
@[simp] theorem goBtNeighbours_tst (t : Nat) (who : Master) (req : List Word) (d : Dev) : (goBtNeighbours t who req d).tst = d.tst := by simp [goBtNeighbours]
@[simp] theorem goBtTimeAdjust_tst (t : Nat) (who : Master) (req : List Word) (d : Dev) : (goBtTimeAdjust t who req d).tst = d.tst := by simp [goBtTimeAdjust]
@[simp] theorem goBtStatus_tst (t : Nat) (who : Master) (req : List Word) (d : Dev) : (goBtStatus t who req d).tst = d.tst := by simp [goBtStatus]

/-! Machine/Cipher.lean. -/

@[simp] theorem Dev.stageSlot_tst (d : Dev) (n : Nat) (e : Option KeySlot) (p : Option Pend) : (d.stageSlot n e p).tst = d.tst := by simp [Dev.stageSlot]
@[simp] theorem Dev.commitSlot_tst (t : Nat) (d : Dev) (s : KeyStage) : (Dev.commitSlot t d s).tst = d.tst := by unfold Dev.commitSlot; dsimp only; (repeat' split) <;> simp
@[simp] theorem goKeyCommit_tst (t : Nat) (d : Dev) : (goKeyCommit t d).tst = d.tst := by simp [goKeyCommit]
@[simp] theorem Dev.takePn_tst (d : Dev) (t n : Nat) : (d.takePn t n).tst = d.tst := by simp [Dev.takePn, apply_ite Dev.tst]
@[simp] theorem Dev.tooLong_tst (d : Dev) (t : Nat) : (d.tooLong t).tst = d.tst := by simp [Dev.tooLong]
@[simp] theorem Dev.noKey_tst (d : Dev) (t ix ten : Nat) : (d.noKey t ix ten).tst = d.tst := by simp [Dev.noKey]
@[simp] theorem Dev.msduRefused_tst (d : Dev) (r sid code id : Nat) : (d.msduRefused r sid code id).tst = d.tst := by unfold Dev.msduRefused; split <;> simp
@[simp] theorem Dev.txRefuse_tst (d : Dev) (op : CipherOp) (code : Nat) : (d.txRefuse op code).tst = d.tst := by unfold Dev.txRefuse; (repeat' split) <;> simp
@[simp] theorem Dev.markEnc_tst (d : Dev) (k : Nat) (op : CipherOp) : (d.markEnc k op).tst = d.tst := by unfold Dev.markEnc; (repeat' split) <;> simp
@[simp] theorem Dev.startRun_tst (d : Dev) (op : CipherOp) (n cells : Nat) (stamp : Option Nat) : (d.startRun op n cells stamp).tst = d.tst := by simp [Dev.startRun]
@[simp] theorem Dev.latchTx_tst (d : Dev) (t : Nat) (op : CipherOp) : (d.latchTx t op).tst = d.tst := by unfold Dev.latchTx; (repeat' split) <;> simp
@[simp] theorem Dev.dropUnverified_tst (d : Dev) (u : Unverified) : (d.dropUnverified u).tst = d.tst := by simp [Dev.dropUnverified]
@[simp] theorem Dev.unverifiedFails_tst (d : Dev) (t : Nat) (u : Unverified) : (d.unverifiedFails t u).tst = d.tst := by unfold Dev.unverifiedFails; split <;> simp
@[simp] theorem Dev.takeHeld_tst (d : Dev) (k : Nat) (u : Unverified) : (d.takeHeld k u).tst = d.tst := by simp [Dev.takeHeld]
@[simp] theorem Dev.latchRx_tst (d : Dev) (t : Nat) (op : CipherOp) : (d.latchRx t op).tst = d.tst := by unfold Dev.latchRx; dsimp only; (repeat' split) <;> simp
@[simp] theorem Dev.latchSecTx_tst (d : Dev) (t p q : Nat) : (d.latchSecTx t p q).tst = d.tst := by unfold Dev.latchSecTx; dsimp only; (repeat' split) <;> simp
@[simp] theorem Dev.latchSecRx_tst (d : Dev) (t p : Nat) (plain : List (List Byte)) : (d.latchSecRx t p plain).tst = d.tst := by unfold Dev.latchSecRx; dsimp only; (repeat' split) <;> simp
@[simp] theorem Dev.startOp_tst (d : Dev) (t : Nat) (op : CipherOp) : (d.startOp t op).tst = d.tst := by unfold Dev.startOp; split <;> simp
@[simp] theorem Dev.serveOps_tst (t n : Nat) (d : Dev) : (Dev.serveOps t n d).tst = d.tst := by
  induction n generalizing d with
  | zero => rfl
  | succ n ih => unfold Dev.serveOps; (repeat' split) <;> simp [ih]
@[simp] theorem goCipherLatch_tst (t : Nat) (op : CipherOp) (d : Dev) : (goCipherLatch t op d).tst = d.tst := by simp [goCipherLatch]
@[simp] theorem Dev.verified_tst (d : Dev) (t : Nat) (u : Unverified) (plain : List (List Byte)) : (d.verified t u plain).tst = d.tst := by unfold Dev.verified; dsimp only; (repeat' split) <;> simp
@[simp] theorem Dev.release_tst (d : Dev) (t id : Nat) (op : CipherOp) (stamp : Option Nat) : (d.release t id op stamp).tst = d.tst := by unfold Dev.release; (repeat' split) <;> simp
@[simp] theorem Dev.runFails_tst (d : Dev) (t id : Nat) : (d.runFails t id).tst = d.tst := by unfold Dev.runFails; split <;> simp
@[simp] theorem Dev.endRun_tst (d : Dev) (t : Nat) (x : CipherRun) (ok : Bool) : (d.endRun t x ok).tst = d.tst := by simp [Dev.endRun, apply_ite Dev.tst]
@[simp] theorem Dev.endStream_tst (t : Nat) (op : CipherOp) (n : Nat) (d : Dev) : (Dev.endStream t op n d).tst = d.tst := by
  induction n generalizing d with
  | zero => rfl
  | succ n ih => unfold Dev.endStream; (repeat' split) <;> simp [ih]
@[simp] theorem Dev.settleRun_tst (d : Dev) (t : Nat) (x : CipherRun) (tagOk : Bool) : (d.settleRun t x tagOk).tst = d.tst := by simp [Dev.settleRun, apply_ite Dev.tst]
@[simp] theorem goCipherVerdict_tst (t id : Nat) (tagOk : Bool) (d : Dev) : (goCipherVerdict t id tagOk d).tst = d.tst := by unfold goCipherVerdict; split <;> simp
@[simp] theorem goWcxKeyWrite_tst (t : Nat) (who : Master) (req : List Word) (d : Dev) : (goWcxKeyWrite t who req d).tst = d.tst :=
  Dev.mbx_tst _ _ _ _ _ _ fun p e => by split <;> simp [apply_ite Dev.tst]
@[simp] theorem goWcxKeyErase_tst (t : Nat) (who : Master) (req : List Word) (d : Dev) : (goWcxKeyErase t who req d).tst = d.tst :=
  Dev.mbx_tst _ _ _ _ _ _ fun p e => by dsimp only; split <;> simp
@[simp] theorem goWcxKeyQuery_tst (t : Nat) (who : Master) (req : List Word) (d : Dev) : (goWcxKeyQuery t who req d).tst = d.tst := by simp [goWcxKeyQuery]
@[simp] theorem Dev.eraseSecy_tst (d : Dev) (p : Nat) : (d.eraseSecy p).tst = d.tst := by simp [Dev.eraseSecy]
@[simp] theorem goWcxMacsecPort_tst (t : Nat) (who : Master) (req : List Word) (d : Dev) : (goWcxMacsecPort t who req d).tst = d.tst := by simp [goWcxMacsecPort, apply_ite Dev.tst]

/-! Machine/Dailies.lean. -/

@[simp] theorem Dev.applyFilters_tst (d : Dev) : (d.applyFilters).tst = d.tst := by simp [Dev.applyFilters]
@[simp] theorem Dev.takeSnap_tst (d : Dev) (t : Nat) (late : Bool) : (d.takeSnap t late).tst = d.tst := by
  have hlate : ∀ e : Dev, (if late then (e.inc t 19 0).bump 44 1 else e).tst = e.tst := fun e => by split <;> simp
  have hgap : ∀ (e : Dev) (g : Bool), (if g then e.bump 44 7 else e).tst = e.tst := fun e g => by split <;> simp
  unfold Dev.takeSnap
  split
  · rfl
  · split
    · simp
    · dsimp only; split
      · exact hlate d
      · rw [hlate, hgap, Dev.hbmOctets_tst, Dev.bump_tst]
@[simp] theorem goSnapshot_tst (t : Nat) (late : Bool) (d : Dev) : (goSnapshot t late d).tst = d.tst := by simp [goSnapshot]
@[simp] theorem goPeekRead_tst (m : Master) (d : Dev) : (goPeekRead m d).tst = d.tst := by simp [goPeekRead, apply_ite Dev.tst]
@[simp] theorem goDlySnapRead_tst (t : Nat) (who : Master) (req : List Word) (d : Dev) : (goDlySnapRead t who req d).tst = d.tst :=
  Dev.mbxNow_tst _ _ _ _ _ _ fun e => judged_tst _ _ _ (by split <;> simp)
@[simp] theorem goDlyRate_tst (t : Nat) (who : Master) (req : List Word) (d : Dev) : (goDlyRate t who req d).tst = d.tst := by refine Dev.mbxNow_tst _ _ _ _ _ _ fun e => judged_tst _ _ _ ?_; dsimp only; (repeat' split) <;> simp

/-! Machine/RouteTables.lean. -/

@[simp] theorem Dev.rteApply_tst (t : Nat) (d0 : Dev) (c : RteChange) : (Dev.rteApply t d0 c).tst = d0.tst := by unfold Dev.rteApply; split <;> simp
@[simp] theorem Dev.rteCommit_tst (d : Dev) (t : Nat) : (d.rteCommit t).tst = d.tst := by simp [Dev.rteCommit]
@[simp] theorem Dev.rteStage_tst (d : Dev) (c : RteChange) : (d.rteStage c).tst = d.tst := by simp [Dev.rteStage]
@[simp] theorem goAger_tst (t : Nat) (d : Dev) : (goAger t d).tst = d.tst := by simp [goAger]
@[simp] theorem goRteTableWrite_tst (t : Nat) (who : Master) (req : List Word) (d : Dev) : (goRteTableWrite t who req d).tst = d.tst :=
  Dev.mbxNow_tst _ _ _ _ _ _ fun e => by dsimp only; (repeat' split) <;> simp
@[simp] theorem goRteTableRead_tst (t : Nat) (who : Master) (req : List Word) (d : Dev) : (goRteTableRead t who req d).tst = d.tst :=
  Dev.mbxNow_tst _ _ _ _ _ _ fun e => judged_tst _ _ _ (by split <;> rfl)

/-! Machine/Guards.lean. -/

@[simp] theorem Dev.sealClaim_tst (d : Dev) (who : Master) : (d.sealClaim who).2.tst = d.tst := by
  unfold Dev.sealClaim; split <;> simp
@[simp] theorem Dev.sealLetGo_tst (d : Dev) (who : Master) : (d.sealLetGo who).2.tst = d.tst := by
  unfold Dev.sealLetGo; split <;> rfl
@[simp] theorem goSealAcquire_tst (m : Master) (d : Dev) : (goSealAcquire m d).tst = d.tst := by simp [goSealAcquire, apply_ite Dev.tst]
@[simp] theorem goSealRelease_tst (m : Master) (d : Dev) : (goSealRelease m d).tst = d.tst := by simp [goSealRelease, apply_ite Dev.tst]
@[simp] theorem Dev.sealLockAnswer_tst (d : Dev) (t : Nat) (p : Pend) (release : Bool) : (d.sealLockAnswer t p release).tst = d.tst := by simp [Dev.sealLockAnswer, apply_ite Dev.tst]
@[simp] theorem goSealLockOp_tst (t : Nat) (who : Master) (req : List Word) (d : Dev) : (goSealLockOp t who req d).tst = d.tst :=
  Dev.mbx_tst _ _ _ _ _ _ fun p e => by dsimp only; (repeat' split) <;> simp
@[simp] theorem Dev.sealStranger_tst (d : Dev) (t : Nat) : (d.sealStranger t).tst = d.tst := by simp [Dev.sealStranger]
@[simp] theorem Dev.sealError_tst (d : Dev) (t code : Nat) : (d.sealError t code).tst = d.tst := by simp [Dev.sealError]
@[simp] theorem Dev.sealCtrl_tst (d : Dev) (t : Nat) (m : Master) (v : Reg) : (d.sealCtrl t m v).tst = d.tst := by simp [Dev.sealCtrl, apply_ite Dev.tst]
@[simp] theorem goSealStart_tst (t : Nat) (m : Master) (v : Reg) (d : Dev) : (goSealStart t m v d).tst = d.tst := by simp [goSealStart]
@[simp] theorem Dev.sealResult_tst (d : Dev) (msg : List Byte) : (d.sealResult msg).tst = d.tst := by simp [Dev.sealResult]
@[simp] theorem Dev.answerHeld_tst (d : Dev) (t : Nat) (l : List (Pend × Bool)) : (d.answerHeld t l).tst = d.tst := by simp [Dev.answerHeld]
@[simp] theorem Dev.sealReply_tst (d : Dev) (t : Nat) (j : SealJob) : (d.sealReply t j).tst = d.tst := by simp [Dev.sealReply, apply_ite Dev.tst]
@[simp] theorem goSealDone_tst (t : Nat) (eccError : Bool) (d : Dev) : (goSealDone t eccError d).tst = d.tst := by unfold goSealDone; dsimp only; (repeat' split) <;> simp
@[simp] theorem goSealHoldExpiry_tst (t : Nat) (d : Dev) : (goSealHoldExpiry t d).tst = d.tst := by simp [goSealHoldExpiry, apply_ite Dev.tst]
@[simp] theorem goSealRun_tst (t : Nat) (who : Master) (req : List Word) (msg : Option (List Byte)) (d : Dev) : (goSealRun t who req msg d).tst = d.tst :=
  Dev.mbx_tst _ _ _ _ _ _ fun p e => by dsimp only; split <;> simp
@[simp] theorem Dev.chkWrite_tst (d : Dev) (t : Nat) (m : Master) (n : Nat) (f : Dev → Dev) (h : ∀ e, (f e).tst = e.tst) :
    (d.chkWrite t m n f).tst = d.tst := by
  unfold Dev.chkWrite; split <;> simp [h]
@[simp] theorem goChkAcquire_tst (m : Master) (n : Nat) (d : Dev) : (goChkAcquire m n d).tst = d.tst := by simp [goChkAcquire, apply_ite Dev.tst]
@[simp] theorem goChkRelease_tst (m : Master) (n : Nat) (d : Dev) : (goChkRelease m n d).tst = d.tst := by simp [goChkRelease, apply_ite Dev.tst]
@[simp] theorem Dev.chkEnd_tst (d : Dev) (t n : Nat) : (d.chkEnd t n).tst = d.tst := by simp [Dev.chkEnd, apply_ite Dev.tst]
@[simp] theorem Dev.chkCtrl_tst (d : Dev) (t n : Nat) (v : Reg) : (d.chkCtrl t n v).tst = d.tst := by unfold Dev.chkCtrl; split <;> simp
@[simp] theorem goChkStart_tst (t : Nat) (m : Master) (n : Nat) (v : Reg) (d : Dev) : (goChkStart t m n v d).tst = d.tst := by simp [goChkStart]
@[simp] theorem goChkFinish_tst (t : Nat) (m : Master) (n : Nat) (v : Reg) (d : Dev) : (goChkFinish t m n v d).tst = d.tst := by simp [goChkFinish]
@[simp] theorem goChkRestore_tst (t : Nat) (m : Master) (n : Nat) (v : Reg) (d : Dev) : (goChkRestore t m n v d).tst = d.tst := by simp [goChkRestore]
@[simp] theorem goChkData_tst (t : Nat) (m : Master) (n : Nat) (v : Reg) (d : Dev) : (goChkData t m n v d).tst = d.tst := by simp [goChkData]
@[simp] theorem goChkDataPart_tst (t : Nat) (m : Master) (n : Nat) (v : Reg) (d : Dev) : (goChkDataPart t m n v d).tst = d.tst := by simp [goChkDataPart]

/-! Machine/Memory.lean. -/

@[simp] theorem Dev.filtered_tst (d : Dev) (code space addr n : Nat) (write : Bool) : (d.filtered code space addr n write).tst = d.tst := by simp [Dev.filtered]
@[simp] theorem Dev.memAccess_tst (d : Dev) (code space addr n : Nat) (write : Bool) : (d.memAccess code space addr n write).tst = d.tst := by simp [Dev.memAccess]
@[simp] theorem Dev.memPut_tst (d : Dev) (space a : Nat) (l : List Byte) : (d.memPut space a l).tst = d.tst := by simp [Dev.memPut, apply_ite Dev.tst]
@[simp] theorem Dev.storeAt_tst (d : Dev) (space a crew : Nat) (l : List Byte) : (d.storeAt space a crew l).tst = d.tst := by simp [Dev.storeAt, apply_ite Dev.tst]
@[simp] theorem Dev.poisonAt_tst (d : Dev) (crew : Nat) : (d.poisonAt crew).tst = d.tst := by unfold Dev.poisonAt; dsimp only; (repeat' split) <;> simp
@[simp] theorem Dev.memUe_tst (d : Dev) (t crew kind master : Nat) : (d.memUe t crew kind master).tst = d.tst := by simp [Dev.memUe]
@[simp] theorem Dev.scrubUe_tst (d : Dev) (t crew : Nat) : (d.scrubUe t crew).tst = d.tst := by simp [Dev.scrubUe]
@[simp] theorem goUncorrectableError_tst (t : Nat) (who : Consumer) (addr : Nat) (d : Dev) : (goUncorrectableError t who addr d).tst = d.tst := by unfold goUncorrectableError; dsimp only; (repeat' split) <;> simp
@[simp] theorem goPatrolScrub_tst (t corrected : Nat) (bad : List Nat) (d : Dev) : (goPatrolScrub t corrected bad d).tst = d.tst := by simp [goPatrolScrub, apply_ite Dev.tst]
@[simp] theorem goHbmFail_tst (t : Nat) (d : Dev) : (goHbmFail t d).tst = d.tst := by simp [goHbmFail, apply_ite Dev.tst]

/-! Machine/Router.lean. -/

@[simp] theorem Dev.pushSlow_tst (d : Dev) (k reason hash : Nat) (x : Pkt) : (d.pushSlow k reason hash x).tst = d.tst := by simp [Dev.pushSlow]
@[simp] theorem Dev.toSlow_tst (d : Dev) (t reason hash : Nat) (x : Pkt) : (d.toSlow t reason hash x).tst = d.tst := by unfold Dev.toSlow; dsimp only; (repeat' split) <;> simp
@[simp] theorem Dev.rteDrop_tst (d : Dev) (t slot : Nat) (x : Pkt) : (d.rteDrop t slot x).tst = d.tst := by simp [Dev.rteDrop]
@[simp] theorem Dev.flowLookup_tst (d : Dev) (t tenant : Nat) (key : List Word) : (d.flowLookup t tenant key).1.tst = d.tst := by
  unfold Dev.flowLookup; dsimp only; (repeat' split) <;> simp
@[simp] theorem Dev.egressFail_tst (d : Dev) (t : Nat) (x : Pkt) : (d.egressFail t x).tst = d.tst := by simp [Dev.egressFail]
@[simp] theorem Dev.handOff_tst (d : Dev) (t : Nat) (nh : List Word) (policer : Option Nat) (x : Pkt) : (d.handOff t nh policer x).tst = d.tst := by
  cases policer <;> (unfold Dev.handOff; dsimp only; (repeat' split) <;> simp)
@[simp] theorem Dev.encapsulate_tst (d : Dev) (t : Nat) (x : Pkt) (nh : RteEnt) (hash : Nat) (dec : Decision) (f : List Byte) : (d.encapsulate t x nh hash dec f).tst = d.tst := by unfold Dev.encapsulate; (repeat' split) <;> simp
@[simp] theorem Dev.forward_tst (d : Dev) (t : Nat) (x : Pkt) (p : Parsed) (hash : Nat) (dec : Decision) : (d.forward t x p hash dec).tst = d.tst := by unfold Dev.forward; (repeat' split) <;> simp
@[simp] theorem Dev.routePath_tst (d : Dev) (t : Nat) (x : Pkt) (p : Parsed) (hash : Nat) (policer : Option Nat) : (d.routePath t x p hash policer).tst = d.tst := by unfold Dev.routePath; (repeat' split) <;> simp
@[simp] theorem Dev.lookup_tst (d : Dev) (t : Nat) (x : Pkt) (p : Parsed) : (d.lookup t x p).tst = d.tst := by unfold Dev.lookup; dsimp only; (repeat' split) <;> simp
@[simp] theorem Dev.routeIn_tst (d : Dev) (t : Nat) (x : Pkt) : (d.routeIn t x).tst = d.tst := by unfold Dev.routeIn; (repeat' split) <;> simp
@[simp] theorem Dev.handStamp_tst (d : Dev) (x : Pkt) : (d.handStamp x).tst = d.tst := by unfold Dev.handStamp; dsimp only; (repeat' split) <;> simp
theorem Dev.takeIntake_tst {d e : Dev} {src : Intake} {x : Pkt} (h : d.takeIntake src = some (x, e)) : e.tst = d.tst := by
  unfold Dev.takeIntake at h
  cases src <;> (dsimp only at h; (repeat' split at h) <;> simp only [Option.some.injEq, Prod.mk.injEq, reduceCtorEq] at h)
  all_goals obtain ⟨-, rfl⟩ := h
  all_goals rfl
@[simp] theorem Dev.enter_tst (d : Dev) (t : Nat) (x : Pkt) : (d.enter t x).tst = d.tst := by unfold Dev.enter; (repeat' split) <;> simp
@[simp] theorem Dev.intakeLeft_tst (d : Dev) (src : Intake) : (d.intakeLeft src).tst = d.tst := by cases src <;> simp [Dev.intakeLeft]
@[simp] theorem goRouterFrame_tst (t : Nat) (src : Intake) (d : Dev) : (goRouterFrame t src d).tst = d.tst := by
  unfold goRouterFrame; split
  · rfl
  · split
    · rfl
    · next x e h => dsimp only; split <;> simp [Dev.takeIntake_tst h]
@[simp] theorem goIntakeResume_tst (t p : Nat) (d : Dev) : (goIntakeResume t p d).tst = d.tst := by unfold goIntakeResume; split <;> simp

/-! Machine/Crew.lean. -/

@[simp] theorem Dev.enlist_tst (d : Dev) (k : Nat) (front : Bool) : (d.enlist k front).tst = d.tst := by simp [Dev.enlist]
@[simp] theorem Dev.delist_tst (d : Dev) (k : Nat) : (d.delist k).tst = d.tst := by simp [Dev.delist]
@[simp] theorem Dev.result_tst (d : Dev) (m : Master) (st : Status) (k : Nat) : (d.result m st k).tst = d.tst := by unfold Dev.result; split <;> simp
@[simp] theorem Dev.taskRequest_tst (d : Dev) (m : Master) (task : Nat) (h : Nat → Dev → Status × Dev) (hh : ∀ k e, (h k e).2.tst = e.tst) :
    (d.taskRequest m task h).tst = d.tst := by
  unfold Dev.taskRequest; dsimp only; split <;> simp [hh]
@[simp] theorem Dev.readyTask_tst (d : Dev) (k : Nat) : (d.readyTask k).2.tst = d.tst := by
  unfold Dev.readyTask; dsimp only; (repeat' split) <;> simp
@[simp] theorem goReady_tst (m : Master) (task : ReadyOf) (d : Dev) : (goReady m task d).tst = d.tst := by unfold goReady; split <;> simp
@[simp] theorem Dev.cancelTask_tst (d : Dev) (k : Nat) : (d.cancelTask k).2.tst = d.tst := by
  unfold Dev.cancelTask; dsimp only; (repeat' split) <;> simp
@[simp] theorem goCancel_tst (m : Master) (task : Nat) (d : Dev) : (goCancel m task d).tst = d.tst := by simp [goCancel]
@[simp] theorem goAlloc_tst (t : Nat) (m : Master) (d : Dev) : (goAlloc t m d).tst = d.tst := by unfold goAlloc; split <;> simp
@[simp] theorem Dev.freeTask_tst (d : Dev) (k : Nat) : (d.freeTask k).2.tst = d.tst := by
  unfold Dev.freeTask; split <;> simp
@[simp] theorem goFree_tst (m : Master) (task : Nat) (d : Dev) : (goFree m task d).tst = d.tst := by simp [goFree]
@[simp] theorem Dev.freeTheCore_tst (d : Dev) (c : Nat) : (d.freeTheCore c).tst = d.tst := by simp [Dev.freeTheCore]
@[simp] theorem Dev.leaveRun_tst (d : Dev) (k : Nat) (ready front : Bool) : (d.leaveRun k ready front).tst = d.tst := by simp [Dev.leaveRun, apply_ite Dev.tst]
@[simp] theorem Dev.endTask_tst (d : Dev) (t c code : Nat) : (d.endTask t c code).tst = d.tst := by unfold Dev.endTask; (repeat' split) <;> simp
@[simp] theorem goDone_tst (t c : Nat) (d : Dev) : (goDone t c d).tst = d.tst := by simp [goDone]
@[simp] theorem goYield_tst (t c : Nat) (d : Dev) : (goYield t c d).tst = d.tst := by simp [goYield]
@[simp] theorem goPreempted_tst (t c : Nat) (d : Dev) : (goPreempted t c d).tst = d.tst := by simp [goPreempted]
@[simp] theorem Dev.logUserFault_tst (d : Dev) (t addr : Nat) : (d.logUserFault t addr).tst = d.tst := by unfold Dev.logUserFault; split <;> simp
@[simp] theorem Dev.userFault_tst (d : Dev) (t c cause addr : Nat) : (d.userFault t c cause addr).tst = d.tst := by simp [Dev.userFault, apply_ite Dev.tst]
@[simp] theorem goUserFault_tst (t c addr : Nat) (d : Dev) : (goUserFault t c addr d).tst = d.tst := by simp [goUserFault, apply_ite Dev.tst]
@[simp] theorem Dev.giveTask_tst (d : Dev) (t p k c : Nat) : (d.giveTask t p k c).tst = d.tst := by simp [Dev.giveTask]
@[simp] theorem Dev.serveTask_tst (d : Dev) (t p k : Nat) : (d.serveTask t p k).tst = d.tst := by unfold Dev.serveTask; (repeat' split) <;> simp
@[simp] theorem Dev.serveAll_tst (d : Dev) (t : Nat) : (d.serveAll t).tst = d.tst := by simp [Dev.serveAll]
@[simp] theorem Dev.slowReadies_tst (d : Dev) : (d.slowReadies).tst = d.tst := by simp [Dev.slowReadies, apply_ite Dev.tst]
@[simp] theorem Dev.planReadies_tst (d : Dev) (t : Nat) : (d.planReadies t).tst = d.tst := by simp [Dev.planReadies, apply_ite Dev.tst]
@[simp] theorem Dev.hostReadies_tst (d : Dev) (t : Nat) : (d.hostReadies t).tst = d.tst := by simp [Dev.hostReadies]
@[simp] theorem Dev.marks_tst (d : Dev) : (d.marks).tst = d.tst := by simp [Dev.marks]
@[simp] theorem goDispatch_tst (t : Nat) (d : Dev) : (goDispatch t d).tst = d.tst := by simp [goDispatch, apply_ite Dev.tst]
@[simp] theorem goPreemptSlow_tst (t c : Nat) (d : Dev) : (goPreemptSlow t c d).tst = d.tst := by simp [goPreemptSlow, apply_ite Dev.tst]
@[simp] theorem goSlowPop_tst (m : Master) (d : Dev) : (goSlowPop m d).tst = d.tst := by unfold goSlowPop; dsimp only; (repeat' split) <;> simp
@[simp] theorem Dev.freeItem_tst (d : Dev) (k : Nat) : (d.freeItem k).tst = d.tst := by simp [Dev.freeItem]
@[simp] theorem Dev.slowBad_tst (d : Dev) (t k : Nat) : (d.slowBad t k).tst = d.tst := by simp [Dev.slowBad, apply_ite Dev.tst]
@[simp] theorem Dev.fromCrew_tst (d : Dev) (x : Pkt) : (d.fromCrew x).tst = d.tst := by simp [Dev.fromCrew]
@[simp] theorem Dev.slowReturned_tst (d : Dev) (t op k : Nat) : (d.slowReturned t op k).tst = d.tst := by unfold Dev.slowReturned; (repeat' split) <;> simp
@[simp] theorem Dev.slowReturn_tst (d : Dev) (t : Nat) (m : Master) (op k : Nat) : (d.slowReturn t m op k).tst = d.tst := by simp [Dev.slowReturn, apply_ite Dev.tst]
@[simp] theorem goReinject_tst (t : Nat) (m : Master) (k : Nat) (d : Dev) : (goReinject t m k d).tst = d.tst := by simp [goReinject]
@[simp] theorem goReinjectCopy_tst (t : Nat) (m : Master) (k : Nat) (d : Dev) : (goReinjectCopy t m k d).tst = d.tst := by simp [goReinjectCopy]
@[simp] theorem goOriginate_tst (t : Nat) (m : Master) (k : Nat) (d : Dev) : (goOriginate t m k d).tst = d.tst := by simp [goOriginate]
@[simp] theorem goDrop_tst (t : Nat) (m : Master) (k : Nat) (d : Dev) : (goDrop t m k d).tst = d.tst := by simp [goDrop]
@[simp] theorem Dev.crewRun_tst (d : Dev) (t c : Nat) (req : List Word) : (d.crewRun t c req).tst = d.tst := by unfold Dev.crewRun; split <;> simp
@[simp] theorem goCrewCommand_tst (t : Nat) (m : Master) (c off : Nat) (d : Dev) : (goCrewCommand t m c off d).tst = d.tst := by simp [goCrewCommand, apply_ite Dev.tst]

/-! Machine/Reset.lean. -/

@[simp] theorem Dev.flush_tst (d : Dev) : (d.flush).tst = d.tst := by simp [Dev.flush, apply_ite Dev.tst]
@[simp] theorem Dev.flushForReset_tst (d : Dev) (src : ResetSource) : (d.flushForReset src).tst = d.tst := by simp [Dev.flushForReset, apply_ite Dev.tst]

/-! Machine/Management.lean. -/

@[simp] theorem Dev.femLow_tst (d : Dev) : (d.femLow).tst = d.tst := by simp [Dev.femLow]
@[simp] theorem restoreProps_tst (d : Dev) (unreadable : List Nat) : (restoreProps d unreadable).tst = d.tst := by simp [restoreProps, apply_ite Dev.tst]
@[simp] theorem loadFactory_tst (d : Dev) : (loadFactory d).tst = d.tst := by simp [loadFactory]
@[simp] theorem Dev.logBoot_tst (d : Dev) (t : Nat) : (d.logBoot t).tst = d.tst := by simp [Dev.logBoot]
@[simp] theorem Dev.recover_tst (d : Dev) (cause : Nat) : (d.recover cause).tst = d.tst := by simp [Dev.recover]
@[simp] theorem loadPortAddrs_tst (d : Dev) : (loadPortAddrs d).tst = d.tst := by simp [loadPortAddrs]
@[simp] theorem Dev.badStores_tst (d : Dev) (t : Nat) (x : BootFacts) : (d.badStores t x).tst = d.tst := by simp [Dev.badStores, apply_ite Dev.tst]
/-- The device that reaches step 9 has loaded its settings, the factory values and the port addresses; none of them is of the test port. -/
@[simp] theorem Dev.bootUp_tst (d : Dev) (x : BootFacts) : (d.bootUp x).tst = d.tst := by simp [Dev.bootUp, apply_ite Dev.tst]
@[simp] theorem Dev.bootBegun_tst (d : Dev) (x : BootFacts) : (d.bootBegun x).tst = d.tst := by simp [Dev.bootBegun]
@[simp] theorem Dev.bootChosen_tst (d : Dev) (t : Nat) (x : BootFacts) : (d.bootChosen t x).tst = d.tst := by
  unfold Dev.bootChosen; dsimp only; split <;> simp
@[simp] theorem Dev.bootSlot_tst (d : Dev) (t : Nat) (x : BootFacts) (i : Nat) : (d.bootSlot t x i).tst = d.tst := by
  simp [Dev.bootSlot, apply_ite Dev.tst]
@[simp] theorem Dev.bootRun_tst (d : Dev) (t : Nat) (x : BootFacts) : (d.bootRun t x).tst = d.tst := by
  unfold Dev.bootRun; (repeat' split) <;> simp
@[simp] theorem goBoot_tst (t : Nat) (x : BootFacts) (d : Dev) : (goBoot t x d).tst = d.tst := by
  rw [goBoot_eq]; dsimp only; (repeat' split) <;> simp
@[simp] theorem goPerstN_tst (t : Nat) (low : Bool) (d : Dev) : (goPerstN t low d).tst = d.tst := by simp [goPerstN, apply_ite Dev.tst]
@[simp] theorem goPcieReferenceLoss_tst (present : Bool) (d : Dev) : (goPcieReferenceLoss present d).tst = d.tst := by simp [goPcieReferenceLoss]
@[simp] theorem goHeartbeat_tst (d : Dev) : (goHeartbeat d).tst = d.tst := by simp [goHeartbeat]
@[simp] theorem goSettingsFlush_tst (d : Dev) : (goSettingsFlush d).tst = d.tst := by simp [goSettingsFlush, apply_ite Dev.tst]
@[simp] theorem Dev.logWrite_tst (d : Dev) (e : LogEnt) : (d.logWrite e).tst = d.tst := by simp [Dev.logWrite]
@[simp] theorem goLogOverflow_tst (t : Nat) (d : Dev) : (goLogOverflow t d).tst = d.tst := by simp [goLogOverflow, apply_ite Dev.tst]
@[simp] theorem goLogEntry_tst (t : Nat) (d : Dev) : (goLogEntry t d).tst = d.tst := by unfold goLogEntry; dsimp only; (repeat' split) <;> simp
@[simp] theorem goMgrReset_tst (t : Nat) (who : Master) (req : List Word) (d : Dev) : (goMgrReset t who req d).tst = d.tst := by simp [goMgrReset]
@[simp] theorem goMgrSensorRead_tst (t : Nat) (who : Master) (req : List Word) (d : Dev) : (goMgrSensorRead t who req d).tst = d.tst := by simp [goMgrSensorRead]
@[simp] theorem goMgrLogRead_tst (t : Nat) (who : Master) (req : List Word) (d : Dev) : (goMgrLogRead t who req d).tst = d.tst :=
  Dev.mbxNow_tst _ _ _ _ _ _ fun _ => judged_tst _ _ _ (Dev.badRecords_tst _ _ _)
@[simp] theorem startImage_tst (t : Nat) (j : NorJob) (held : Bool) (d : Dev) : (startImage t j held d).tst = d.tst := by unfold startImage; dsimp only; (repeat' split) <;> simp
@[simp] theorem goImage_tst (t : Nat) (sp : CmdSpec) (who : Master) (req : List Word) (d : Dev) : (goImage t sp who req d).tst = d.tst :=
  Dev.mbx_tst _ _ _ _ _ _ fun p e => by dsimp only; (repeat' split) <;> simp
@[simp] theorem goMgrImageBegin_tst (t : Nat) (who : Master) (req : List Word) (d : Dev) : (goMgrImageBegin t who req d).tst = d.tst := by simp [goMgrImageBegin]
@[simp] theorem goMgrImageWrite_tst (t : Nat) (who : Master) (req : List Word) (d : Dev) : (goMgrImageWrite t who req d).tst = d.tst := by simp [goMgrImageWrite]
@[simp] theorem goMgrImageCommit_tst (t : Nat) (who : Master) (req : List Word) (d : Dev) : (goMgrImageCommit t who req d).tst = d.tst := by simp [goMgrImageCommit]
@[simp] theorem goMgrImageConfirm_tst (t : Nat) (who : Master) (req : List Word) (d : Dev) : (goMgrImageConfirm t who req d).tst = d.tst := by simp [goMgrImageConfirm]
@[simp] theorem Dev.modRec_tst (d : Dev) (f : BootRec → BootRec) : (d.modRec f).tst = d.tst := by simp [Dev.modRec]
@[simp] theorem imageEffect_tst (t : Nat) (j : NorJob) (x : SlotCheck) (d : Dev) : (imageEffect t j x d).2.tst = d.tst := by
  unfold imageEffect; dsimp only; (repeat' split) <;> simp
@[simp] theorem startHeld_tst (t : Nat) (l : List NorJob) (d : Dev) : (startHeld t l d).tst = d.tst := by
  induction l generalizing d with
  | nil => rfl
  | cons j l ih => unfold startHeld; split <;> simp [ih]
@[simp] theorem nextImage_tst (t : Nat) (d : Dev) : (nextImage t d).tst = d.tst := startHeld_tst t _ d
@[simp] theorem goPfailN_tst (t : Nat) (low : Bool) (d : Dev) : (goPfailN t low d).tst = d.tst := by simp [goPfailN, apply_ite Dev.tst]
@[simp] theorem goNorOperationDone_tst (t : Nat) (ok : Bool) (x : SlotCheck) (d : Dev) : (goNorOperationDone t ok x d).tst = d.tst := by
  unfold goNorOperationDone; split
  · rfl
  · cases ok <;> simp

/-! Machine/Gaffer.lean. -/

@[simp] theorem goBudgetPublish_tst (t : Nat) (r : Option Readings) (d0 : Dev) : (goBudgetPublish t r d0).tst = d0.tst := by unfold goBudgetPublish; dsimp only; (repeat' split) <;> simp
@[simp] theorem Dev.revise_tst (d : Dev) (t v : Nat) : (d.revise t v).tst = d.tst := by simp [Dev.revise, apply_ite Dev.tst]
@[simp] theorem goBudgetRevision_tst (t : Nat) (r : Readings) (d0 : Dev) : (goBudgetRevision t r d0).tst = d0.tst := by simp [goBudgetRevision, apply_ite Dev.tst]
@[simp] theorem Dev.safetyShed_tst (d : Dev) (t v : Nat) : (d.safetyShed t v).tst = d.tst := by simp [Dev.safetyShed, apply_ite Dev.tst]
@[simp] theorem Dev.safety_tst (d : Dev) (t v : Nat) : (d.safety t v).tst = d.tst := by simp [Dev.safety]
@[simp] theorem goThermalTrip_tst (t sensor : Nat) (temp : Int) (d0 : Dev) : (goThermalTrip t sensor temp d0).tst = d0.tst := by simp [goThermalTrip, apply_ite Dev.tst]
@[simp] theorem goSupplyCurrentLimit_tst (t input ma : Nat) (d0 : Dev) : (goSupplyCurrentLimit t input ma d0).tst = d0.tst := by simp [goSupplyCurrentLimit, apply_ite Dev.tst]
@[simp] theorem goHostPowerCapBreach_tst (t : Nat) (d : Dev) : (goHostPowerCapBreach t d).tst = d.tst := by simp [goHostPowerCapBreach, apply_ite Dev.tst]
@[simp] theorem goThermalHoldEnd_tst (d : Dev) : (goThermalHoldEnd d).tst = d.tst := by simp [goThermalHoldEnd, apply_ite Dev.tst]
@[simp] theorem goCriticalTemperature_tst (t sensor : Nat) (d : Dev) : (goCriticalTemperature t sensor d).tst = d.tst := by simp [goCriticalTemperature, apply_ite Dev.tst]
@[simp] theorem Dev.beginRaise_tst (d : Dev) (t target : Nat) (pll : Bool) : (d.beginRaise t target pll).tst = d.tst := by simp [Dev.beginRaise]
@[simp] theorem Dev.stepRaise_tst (d : Dev) (t : Nat) (m : LevelMove) (given : Option Nat) : (d.stepRaise t m given).tst = d.tst := by simp [Dev.stepRaise, apply_ite Dev.tst]
@[simp] theorem goLevelRaise_tst (t : Nat) (coreMv : Option Nat) (d : Dev) : (goLevelRaise t coreMv d).tst = d.tst := by unfold goLevelRaise; dsimp only; (repeat' split) <;> simp
@[simp] theorem Dev.lowerTo_tst (d : Dev) (level : Nat) : (d.lowerTo level).tst = d.tst := by simp [Dev.lowerTo]
@[simp] theorem goLevelLower_tst (t : Nat) (d : Dev) : (goLevelLower t d).tst = d.tst := by unfold goLevelLower; dsimp only; (repeat' split) <;> simp
@[simp] theorem goPllMove_tst (t : Nat) (coreMv : Option Nat) (d : Dev) : (goPllMove t coreMv d).tst = d.tst := by unfold goPllMove; dsimp only; (repeat' split) <;> simp
@[simp] theorem Dev.askCores_tst (d : Dev) : (d.askCores).tst = d.tst := by simp [Dev.askCores]
@[simp] theorem Dev.refuse_tst (d : Dev) (t k : Nat) (o : PowerOutcome) : (d.refuse t k o).tst = d.tst := by simp [Dev.refuse, apply_ite Dev.tst]
@[simp] theorem goVote_tst (t k : Nat) (d : Dev) : (goVote t k d).tst = d.tst := by simp [goVote, apply_ite Dev.tst]
@[simp] theorem goVoteTimeout_tst (t : Nat) (d : Dev) : (goVoteTimeout t d).tst = d.tst := by unfold goVoteTimeout; (repeat' split) <;> simp
@[simp] theorem Dev.startWaiting_tst (d : Dev) (t : Nat) : (d.startWaiting t).tst = d.tst := by unfold Dev.startWaiting; split <;> simp
@[simp] theorem Dev.enterBlackout_tst (d : Dev) (t : Nat) : (d.enterBlackout t).tst = d.tst := by simp [Dev.enterBlackout, apply_ite Dev.tst]
@[simp] theorem Dev.postPower_tst (d : Dev) (t : Nat) (r : PowerReq) : (d.postPower t r).tst = d.tst := by unfold Dev.postPower; (repeat' split) <;> simp
@[simp] theorem goStateReached_tst (t : Nat) (d : Dev) : (goStateReached t d).tst = d.tst := by unfold goStateReached; dsimp only; (repeat' split) <;> simp
@[simp] theorem goWakeInN_tst (d : Dev) : (goWakeInN d).tst = d.tst := by simp [goWakeInN, apply_ite Dev.tst]
@[simp] theorem goTickAlarm_tst (t : Nat) (d : Dev) : (goTickAlarm t d).tst = d.tst := by simp [goTickAlarm, apply_ite Dev.tst]
@[simp] theorem goShowReached_tst (t : Nat) (d : Dev) : (goShowReached t d).tst = d.tst := by simp [goShowReached, apply_ite Dev.tst]
@[simp] theorem Dev.acceptPower_tst (d : Dev) (t : Nat) (r : PowerReq) (mgmt : Bool) : (d.acceptPower t r mgmt).tst = d.tst := by unfold Dev.acceptPower; (repeat' split) <;> simp
@[simp] theorem goGafStateSet_tst (t : Nat) (who : Master) (req : List Word) (d : Dev) : (goGafStateSet t who req d).tst = d.tst :=
  Dev.mbx_tst _ _ _ _ _ _ fun p e => by dsimp only; split <;> simp
@[simp] theorem goGafStatus_tst (t : Nat) (who : Master) (req : List Word) (d : Dev) : (goGafStatus t who req d).tst = d.tst := by simp [goGafStatus]

/-! Machine/Test.lean. -/

@[simp] theorem goCoreHalt_tst (t : Nat) (core : Option Nat) (d : Dev) : (goCoreHalt t core d).tst = d.tst := by unfold goCoreHalt; dsimp only; (repeat' split) <;> simp
@[simp] theorem goCoreResume_tst (core : Option Nat) (d : Dev) : (goCoreResume core d).tst = d.tst := by unfold goCoreResume; dsimp only; (repeat' split) <;> simp

/-! Machine/Turnstile.lean. -/

@[simp] theorem Dev.modTs_tst (d : Dev) (f : Ts → Ts) : (d.modTs f).tst = d.tst := by simp [Dev.modTs, apply_ite Dev.tst]
@[simp] theorem goTapEntry_tst (tt stamp : Nat) (e : TapEvent) (fifoFull : Bool) (d : Dev) : (goTapEntry tt stamp e fifoFull d).tst = d.tst := by simp [goTapEntry, apply_ite Dev.tst]
@[simp] theorem goRecordClose_tst (lineOk : Bool) (d : Dev) : (goRecordClose lineOk d).tst = d.tst := by simp [goRecordClose, apply_ite Dev.tst]
@[simp] theorem goVddTsWarning_tst (below : Bool) (d : Dev) : (goVddTsWarning below d).tst = d.tst := by simp [goVddTsWarning]
@[simp] theorem goVddTsLoss_tst (d : Dev) : (goVddTsLoss d).tst = d.tst := by simp [goVddTsLoss]
@[simp] theorem goVddTsReturn_tst (d : Dev) : (goVddTsReturn d).tst = d.tst := by simp [goVddTsReturn]
@[simp] theorem goTsSeal_tst (closed : Bool) (d : Dev) : (goTsSeal closed d).tst = d.tst := by simp [goTsSeal]
@[simp] theorem goPort_tst (tt n : Nat) (good : Bool) (type : Nat) (payload : List Byte) (d : Dev) : (goPort tt n good type payload d).tst = d.tst := by simp [goPort, apply_ite Dev.tst]
@[simp] theorem goPortCmd_tst (type : Nat) (tt : Nat) (payload : List Byte) (d : Dev) : (goPortCmd type tt payload d).tst = d.tst := by simp [goPortCmd]
@[simp] theorem goPortFrameDiscard_tst (tt : Nat) (octets : List Byte) (d : Dev) : (goPortFrameDiscard tt octets d).tst = d.tst := by simp [goPortFrameDiscard]
@[simp] theorem goRecordMirror_tst (t seq : Nat) (d : Dev) : (goRecordMirror t seq d).tst = d.tst := by unfold goRecordMirror; dsimp only; (repeat' split) <;> simp
@[simp] theorem goTsTimeReport_tst (t tt : Nat) (d : Dev) : (goTsTimeReport t tt d).tst = d.tst := by simp [goTsTimeReport, apply_ite Dev.tst]
@[simp] theorem goTsStatusRead_tst (t : Nat) (who : Master) (req : List Word) (d : Dev) : (goTsStatusRead t who req d).tst = d.tst := by simp [goTsStatusRead]
@[simp] theorem goTsRecordRead_tst (t : Nat) (who : Master) (req : List Word) (d : Dev) : (goTsRecordRead t who req d).tst = d.tst :=
  Dev.mbxNow_tst _ _ _ _ _ _ fun e => judged_tst _ _ _ (by split <;> rfl)

/-! Machine/Bus.lean. -/

@[simp] theorem goShowTimeLoRead_tst (t : Nat) (m : Master) (d : Dev) : (goShowTimeLoRead t m d).tst = d.tst := by simp [goShowTimeLoRead, apply_ite Dev.tst]
@[simp] theorem Dev.readAt_tst (d : Dev) (t : Nat) (a : Access) (x : Nat) : (d.readAt t a x).tst = d.tst := by simp [Dev.readAt, apply_ite Dev.tst]
@[simp] theorem Dev.writeMbx_tst (d : Dev) (t : Nat) (f o : Nat) (a : Access) : (d.writeMbx t f o a).tst = d.tst := by simp [Dev.writeMbx, apply_ite Dev.tst]
@[simp] theorem Dev.writeChk_tst (d : Dev) (t : Nat) (m : Master) (n o : Nat) (v : Reg) : (d.writeChk t m n o v).tst = d.tst := by unfold Dev.writeChk; split <;> simp
@[simp] theorem Dev.writePlain_tst (d : Dev) (t x : Nat) (v : Reg) : (d.writePlain t x v).tst = d.tst := by unfold Dev.writePlain; split <;> simp
@[simp] theorem Dev.writeRing_tst (d : Dev) (t : Nat) (m : Master) (g o : Nat) (v : Reg) : (d.writeRing t m g o v).tst = d.tst := by unfold Dev.writeRing; (repeat' split) <;> simp
@[simp] theorem Dev.writeSeal_tst (d : Dev) (t : Nat) (m : Master) (o : Nat) (v : Reg) : (d.writeSeal t m o v).tst = d.tst := by simp [Dev.writeSeal, apply_ite Dev.tst]
@[simp] theorem Dev.writePort_tst (d : Dev) (t p o x : Nat) (v : Reg) : (d.writePort t p o x v).tst = d.tst := by unfold Dev.writePort; split <;> simp
@[simp] theorem Dev.writeLands_tst (t : Nat) (d : Dev) (a : Access) : (Dev.writeLands t d a).tst = d.tst := by simp [Dev.writeLands, apply_ite Dev.tst]
@[simp] theorem Dev.writeAt_tst (d : Dev) (t : Nat) (a : Access) (x : Nat) : (d.writeAt t a x).tst = d.tst := by unfold Dev.writeAt; dsimp only; (repeat' split) <;> simp
@[simp] theorem Dev.bar2Put_tst (d : Dev) (f o : Nat) (v : Reg) : (d.bar2Put f o v).tst = d.tst := by simp [Dev.bar2Put, apply_ite Dev.tst]
@[simp] theorem Dev.devControl_tst (d : Dev) (f : Nat) (v : Reg) : (d.devControl f v).tst = d.tst := by simp [Dev.devControl, apply_ite Dev.tst]
@[simp] theorem Dev.vfInput_tst (d : Dev) (on : Bool) (n : Nat) : (d.vfInput on n).tst = d.tst := by simp [Dev.vfInput, apply_ite Dev.tst]
@[simp] theorem Dev.capPut_tst (d : Dev) (f : Nat) (c : Capability) (i : Nat) (v : Reg) : (d.capPut f c i v).tst = d.tst := by unfold Dev.capPut; dsimp only; (repeat' split) <;> simp
@[simp] theorem Dev.configPut_tst (d : Dev) (f o : Nat) (v : Reg) : (d.configPut f o v).tst = d.tst := by unfold Dev.configPut; dsimp only; (repeat' split) <;> simp
@[simp] theorem Dev.endpointPut_tst (d : Dev) (f x : Nat) (v : Reg) : (d.endpointPut f x v).tst = d.tst := by simp [Dev.endpointPut, apply_ite Dev.tst]
@[simp] theorem Dev.endpoint_tst (d : Dev) (f x : Nat) (a : Access) : (d.endpoint f x a).tst = d.tst := by simp [Dev.endpoint, apply_ite Dev.tst]
@[simp] theorem Dev.allOnes_tst (d : Dev) (a : Access) : (d.allOnes a).tst = d.tst := by rw [Dev.allOnes_frame]

/-! Machine/Beat.lean. -/

@[simp] theorem Dev.requestsTaken_tst (d : Dev) : (d.requestsTaken).tst = d.tst := by simp [Dev.requestsTaken]
@[simp] theorem Dev.idleBeat_tst (d : Dev) (r : Nat) : (d.idleBeat r).tst = d.tst := by simp [Dev.idleBeat]
@[simp] theorem Dev.countRadioBeat_tst (d : Dev) (t r : Nat) : (d.countRadioBeat t r).tst = d.tst := by simp [Dev.countRadioBeat, apply_ite Dev.tst]
@[simp] theorem Dev.endBeat_tst (d : Dev) (t : Nat) : (d.endBeat t).tst = d.tst := by simp [Dev.endBeat, apply_ite Dev.tst]
@[simp] theorem Dev.clearBeat_tst (d : Dev) : (d.clearBeat).tst = d.tst := by simp [Dev.clearBeat]
@[simp] theorem Dev.land_tst (d : Dev) (t : Nat) : (d.land t).tst = d.tst := by simp [Dev.land, apply_ite Dev.tst]
@[simp] theorem Dev.gafTick_tst (d : Dev) : (d.gafTick).tst = d.tst := by simp [Dev.gafTick]
@[simp] theorem Dev.beatMissed_tst (d : Dev) : (d.beatMissed).tst = d.tst := by simp [Dev.beatMissed, apply_ite Dev.tst]
@[simp] theorem Dev.openTickBoundary_tst (d : Dev) (t : Nat) : (d.openTickBoundary t).tst = d.tst := by simp [Dev.openTickBoundary]
@[simp] theorem Dev.airBeat_tst (d : Dev) (t : Nat) : (d.airBeat t).tst = d.tst := by simp [Dev.airBeat]
@[simp] theorem Dev.turnBeat_tst (d : Dev) (t old : Nat) : (d.turnBeat t old).tst = d.tst := by simp [Dev.turnBeat]
@[simp] theorem Dev.openBeat_tst (d : Dev) (t0 t : Nat) : (d.openBeat t0 t).tst = d.tst := by simp [Dev.openBeat, apply_ite Dev.tst]

/-! Machine/CrewMap.lean. -/

@[simp] theorem Dev.unreserve_tst (d : Dev) (addr n : Nat) : (d.unreserve addr n).tst = d.tst := by simp [Dev.unreserve, apply_ite Dev.tst]
@[simp] theorem Dev.loaded_tst (d : Dev) (m : Master) (v : Option Nat) (put : Nat → Hart → Hart) : (d.loaded m v put).tst = d.tst := by unfold Dev.loaded; split <;> simp

end Sys2Proof.Machine
end

section
/-! PROOFS. The debug port stays guarded (O55): what does touch the test port keeps its invariant. -/
namespace Sys2Proof.Machine

/-! What does touch the test port keeps it guarded (R472, R473). -/

/-- From `d` to `e` the debug port stays guarded, and the fused lifecycle stays. -/
structure Keeps (d e : Dev) : Prop where
  guard : Guarded d → Guarded e
  life : e.tst.life = d.tst.life

theorem Keeps.trans {d e f : Dev} (h : Keeps d e) (g : Keeps e f) : Keeps d f := ⟨g.guard ∘ h.guard, g.life.trans h.life⟩

theorem Keeps.of_tst {d e : Dev} (h : e.tst = d.tst) : Keeps d e :=
  ⟨fun ⟨a, b, c⟩ => ⟨by rwa [h], by rwa [h], by rwa [h]⟩, by rw [h]⟩

theorem Keeps.ite {d e f : Dev} {p : Prop} [Decidable p] (he : p → Keeps d e) (hf : ¬ p → Keeps d f) : Keeps d (if p then e else f) := by
  split
  next h => exact he h
  next h => exact hf h

/-- A debug access notes its first write of a connection in a field of its own (R474). -/
theorem Keeps.wrote {d e : Dev} {b : Bool} (h : e.tst = { d.tst with wrote := b }) : Keeps d e :=
  ⟨fun ⟨a, b, c⟩ => ⟨by rwa [h], by rwa [h], by rwa [h]⟩, by rw [h]⟩

theorem Keeps.dapCounts (d : Dev) (t : Nat) (a : Access) : Keeps d (d.dapCounts t a) := by
  unfold Dev.dapCounts; dsimp only
  refine .ite (fun _ => .of_tst rfl) fun _ => .ite (fun _ => .ite (fun _ => .of_tst (by simp)) fun _ => .wrote (b := true) (by simp)) fun _ => .of_tst (by simp)

theorem Keeps.access (d : Dev) (t : Nat) (a : Access) : Keeps d (d.access t a) := by
  have hin : (d.access t a).tst = (d.dapCounts t a).tst ∨ (d.access t a).tst = d.tst := by
    unfold Dev.access; dsimp only; split
    · exact .inr (by split <;> simp)
    · refine .inl ?_
      split <;> simp [apply_ite Dev.tst]
  rcases hin with h | h
  · exact (Keeps.dapCounts d t a).trans (.of_tst h)
  · exact .of_tst h

theorem Keeps.crewStore (d : Dev) (t : Nat) (m : Master) (addr width : Nat) (v : Word) : Keeps d (d.crewStore t m addr width v) := by
  unfold Dev.crewStore; split
  · exact .of_tst (by simp)
  · exact .of_tst rfl
  · exact .access _ _ _
  · dsimp only; split <;> exact .of_tst (by simp)

theorem Keeps.crewRead (d : Dev) (t : Nat) (m : Master) (addr width cause : Nat) (atomic : Bool) :
    Keeps d (d.crewRead t m addr width cause atomic).2 := by
  unfold Dev.crewRead; split
  · exact .of_tst (by simp)
  · exact .of_tst rfl
  · split
    · exact .of_tst (by simp)
    · exact .access _ _ _
  · dsimp only; split <;> exact .of_tst (by simp)

/-- What a core's operation does to the device after its read or its store is none of the test port's. -/
theorem Keeps.coreOp (d : Dev) (t : Nat) (m : Master) (addr width : Nat) (op : CoreOp) : Keeps d (d.coreOp t m addr width op) := by
  have hread : ∀ (e : Dev) (cause : Nat) (atomic : Bool) (put : Nat → Hart → Hart) (v : Option Nat),
      Keeps e ((e.crewRead t m addr width cause atomic).2.loaded m v put) := fun e cause atomic put v =>
    (Keeps.crewRead e t m addr width cause atomic).trans (.of_tst (by simp))
  have hstore : ∀ (e : Dev) (v : Word), Keeps e ((e.crewStore t m addr width v).unreserve addr width) := fun e v =>
    (Keeps.crewStore e t m addr width v).trans (.of_tst (by simp))
  cases op with
  | store v => exact hstore d v
  | load rd signed => exact hread d _ _ _ _
  | loadF rd => exact hread d _ _ _ _
  | fetch => exact .trans (.of_tst (by split <;> simp)) (hread _ _ _ _ _)
  | loadReserved rd => exact .ite (fun _ => .of_tst (by simp)) fun _ => hread d _ _ _ _
  | storeConditional rd v =>
    exact .ite (fun _ => .of_tst (by simp)) fun _ => .ite (fun _ => (hstore d v).trans (.of_tst (by simp))) fun _ => .of_tst (by simp)
  | amo a rd v =>
    refine .ite (fun _ => .of_tst (by simp)) fun _ => ?_
    split
    · exact hread d _ _ _ _
    next old _ =>
      exact (Keeps.crewRead d t m addr width 7 true).trans
        ((hstore _ (BitVec.ofNat 64 (amoResult a width old v.toNat))).trans (.of_tst (by simp)))
  | csrRead rd =>
    refine .of_tst ?_
    simp only [Dev.coreOp]; (repeat' split) <;> simp
  | csrWrite v =>
    refine .of_tst ?_
    simp only [Dev.coreOp]; (repeat' split) <;> simp

theorem Keeps.goDroppedWrite (t : Nat) (m : Master) (addr width : Nat) (op : CoreOp) (d : Dev) : Keeps d (goDroppedWrite t m addr width op d) := by
  unfold Machine.goDroppedWrite
  refine .ite (fun _ => .of_tst rfl) fun _ => .ite (fun _ => .coreOp _ _ _ _ _ _) fun _ => ?_
  split <;> exact .of_tst (by simp)

/-! Resets: the lifecycle and the failures stay, the challenge goes, and only the port of a part in DEVELOPMENT stays connected (R472, R473). -/

theorem Keeps.warmClear (d : Dev) (code : Nat) : Keeps d (d.warmClear code) :=
  ⟨fun g => ⟨fun h => .inl (by simp [Dev.warmClear] at h; exact h.2), g.failsMax, fun _ => rfl⟩, rfl⟩

theorem Keeps.powerClear (d : Dev) : Keeps d d.powerClear := ⟨fun _ => ⟨fun h => Bool.noConfusion h, Nat.zero_le _, fun _ => rfl⟩, rfl⟩

theorem Keeps.resetNow (d : Dev) (t : Nat) (src : ResetSource) : Keeps d (d.resetNow t src) := by
  unfold Dev.resetNow; dsimp only
  have h : Keeps d (if d.justReset then { d with mgr := { d.mgr with lastReset := if codeRank d.mgr.lastReset ≤ codeRank (lastResetCode d.free.toNat src) then d.mgr.lastReset else lastResetCode d.free.toNat src } }
      else (if d.coreHoldsSeal then d.inc t 12 1 else d).warmClear (lastResetCode d.free.toNat src)) :=
    .ite (fun _ => .of_tst rfl) fun _ => .trans (.of_tst (by simp [apply_ite Dev.tst])) (.warmClear _ _)
  exact .ite (fun _ => h.trans (.of_tst (by simp))) fun _ => h

theorem Keeps.warmReset (d : Dev) (t : Nat) (src : ResetSource) : Keeps d (d.warmReset t src) := by
  unfold Dev.warmReset; dsimp only
  refine .ite (fun _ => .resetNow _ _ _) fun _ => .ite (fun _ => .of_tst (by simp)) fun _ => .trans (.of_tst (by simp)) (.resetNow _ _ _)

theorem Keeps.goSupplyFailure (t monitor mv : Nat) (d : Dev) : Keeps d (goSupplyFailure t monitor mv d) := by
  unfold Machine.goSupplyFailure; dsimp only; split
  · exact .of_tst (by simp)
  · refine .ite (fun _ => .of_tst (by simp)) fun _ => .ite (fun _ => .trans (.of_tst (by simp)) (.warmReset _ _ _)) fun _ => .of_tst (by simp)

theorem Keeps.goGulmetStall (t : Nat) (d : Dev) : Keeps d (goGulmetStall t d) :=
  .ite (fun _ => .of_tst rfl) fun _ => .ite (fun _ => .trans (.of_tst (by simp)) (.warmReset _ _ _)) fun _ => .of_tst (by simp)

theorem Keeps.goBoothWatchdog (t : Nat) (d : Dev) : Keeps d (goBoothWatchdog t d) :=
  .ite (fun _ => .of_tst rfl) fun _ => .trans (.of_tst (by simp)) (.warmReset _ _ _)

theorem Keeps.goTrialTimeout (t : Nat) (d : Dev) : Keeps d (goTrialTimeout t d) := .ite (fun _ => .warmReset _ _ _) fun _ => .of_tst rfl

/-! The test access port and the debug access port (R470 to R473). -/

/-- A loaded instruction connects the debug port only where it is open (R472). -/
theorem Keeps.loaded {d e : Dev} {c : Nat} {s h w : Bool}
    (he : e.tst = { d.tst with instr := c, scanning := s, highz := h, connected := c == 0x20 && d.dapOpen, wrote := w }) : Keeps d e := by
  refine ⟨fun g => ⟨fun hc => ?_, by rw [he]; exact g.failsMax, by rw [he]; exact g.noMore⟩, by rw [he]⟩
  rw [he] at hc ⊢
  have hopen := (Bool.and_eq_true _ _ ▸ hc).2
  simpa [Dev.dapOpen] using hopen

theorem Keeps.load (d : Dev) (t code : Nat) : Keeps d (d.load t code) := by
  unfold Dev.load; dsimp only
  have h1 : (if scanCode (instrCode code) then d.bump 45 4 else d).tst = d.tst := by split <;> simp
  generalize (if scanCode (instrCode code) then d.bump 45 4 else d) = d1 at h1
  generalize hd2 : ({ d1 with tst := { d1.tst with instr := instrCode code, scanning := scanCode (instrCode code), highz := instrCode code == 7, connected := instrCode code == 0x20 && d1.dapOpen, wrote := d1.tst.wrote && d1.tst.connected && (instrCode code == 0x20 && d1.dapOpen) } } : Dev) = d2
  have h2 : Keeps d d2 := .trans (.of_tst h1) (.loaded (by rw [← hd2]))
  generalize hd3 : (if (instrCode code == 0x20 && d1.dapOpen) && !d.tst.connected then d2.bump 45 0 else if instrCode code == 0x20 && !(instrCode code == 0x20 && d1.dapOpen) then d2.bump 45 3 else d2) = d3
  have h3 : Keeps d d3 := h2.trans (.of_tst (by rw [← hd3]; simp [apply_ite Dev.tst]))
  exact .ite (fun _ => h3.trans (.of_tst rfl)) fun _ => .ite (fun _ => h3.trans (.trans (.of_tst (by simp)) (.warmReset _ _ _))) fun _ => h3

theorem Keeps.capture (d : Dev) (v : Nat) : Keeps d (d.capture v) := ⟨fun g => ⟨g.openOnly, g.failsMax, g.noMore⟩, rfl⟩

theorem Keeps.goSamplePreload (t preload : Nat) (d : Dev) : Keeps d (goSamplePreload t preload d) :=
  ((Keeps.load d t 0x02).trans (.capture _ d.free.toNat)).trans ⟨fun g => ⟨g.openOnly, g.failsMax, g.noMore⟩, rfl⟩

/-- After three failures no challenge is given (R473). -/
theorem Keeps.goUnlock (t : Nat) (d : Dev) : Keeps d (goUnlock t d) := by
  unfold Machine.goUnlock; dsimp only
  refine (Keeps.load d t 0x22).trans (.ite (fun _ => ?_) fun h => ?_)
  · exact ⟨fun g => ⟨g.openOnly, g.failsMax, fun _ => rfl⟩, rfl⟩
  · exact ⟨fun g => ⟨g.openOnly, g.failsMax, fun hf => absurd hf.ge h⟩, rfl⟩

/-- A verification spends its challenge: while one stands fewer than three have failed (R473). -/
theorem Keeps.goUnlockVerify (t : Nat) (keyOk sigOk : Bool) (d : Dev) : Keeps d (goUnlockVerify t keyOk sigOk d) := by
  unfold Machine.goUnlockVerify; dsimp only
  refine .ite (fun _ => .of_tst rfl) fun hc => .ite (fun _ => ?_) fun _ => ?_
  · exact ⟨fun g => ⟨fun h => (g.openOnly h).imp_right fun h => ⟨h.1, rfl⟩, g.failsMax, fun _ => rfl⟩, rfl⟩
  · refine .trans (e := { d with tst := { d.tst with challenge := none, fails := d.tst.fails + 1 } }) ⟨fun g => ⟨g.openOnly, ?_, fun _ => rfl⟩, rfl⟩ (.of_tst (by simp))
    have h3 : d.tst.fails ≠ 3 := fun h => hc (by rw [g.noMore h]; rfl)
    have := g.failsMax
    show d.tst.fails + 1 ≤ 3
    omega

theorem Keeps.goCoreHalt (t : Nat) (core : Option Nat) (d : Dev) : Keeps d (goCoreHalt t core d) := by
  cases core <;> exact .of_tst (by simp)

/-- A command that acts on the device keeps the port where its act does. -/
theorem Keeps.act {s u : State} {f : Nat → Dev → Dev} (he : (Host.Outcome.next (s.act f) : Host.Outcome State Fault Refusal) = .next u)
    (h : Keeps s.dev (f s.now s.dev)) : Keeps s.dev u.dev := by
  cases he; exact h

/-- No command opens the debug port but as R472 and R473 let it. -/
theorem Keeps.exec {c : Instr} {s u : State} (h : exec c s = .next u) : Keeps s.dev u.dev := by
  cases c with
  | powerOnReset => cases h; exact .powerClear _
  | warmReset src => exact .act h (.warmReset _ _ _)
  | supplyFailure monitor mv => exact .act h (.goSupplyFailure _ _ _ _)
  | gulmetStall => exact .act h (.goGulmetStall _ _)
  | boothWatchdog => exact .act h (.goBoothWatchdog _ _)
  | trialTimeout => exact .act h (.goTrialTimeout _ _)
  | badAccess a => exact .act h (.access _ _ _)
  | registerWrite a => exact .act h (.access _ _ _)
  | deniedAccess a => exact .act h (.access _ _ _)
  | unmappedAccess a => exact .act h (.access _ _ _)
  | domainOffAccess a => exact .act h (.access _ _ _)
  | droppedWrite m addr width op => exact .act h (.goDroppedWrite _ _ _ _ _ _)
  | timeStep =>
    change execTimeStep s = .next u at h
    unfold execTimeStep at h
    (repeat' split at h) <;> (cases h; exact .of_tst (by simp))
  | tapReset => exact .act h (.trans (.of_tst (by simp)) (.trans (.load _ _ 0x01) (.capture _ _)))
  | idcode => exact .act h (.trans (.load _ _ _) (.capture _ _))
  | samplePreload x => exact .act h (.goSamplePreload _ _ _)
  | extest => exact .act h (.load _ _ _)
  | extestPulse => exact .act h (.load _ _ _)
  | extestTrain => exact .act h (.load _ _ _)
  | clamp => exact .act h (.trans (.load _ _ _) (.capture _ _))
  | highz => exact .act h (.trans (.load _ _ _) (.capture _ _))
  | dapAccess => exact .act h (.load _ _ _)
  | lcStatus => exact .act h (.trans (.load _ _ _) (.capture _ _))
  | bypass c => exact .act h (.trans (.load _ _ _) (.capture _ _))
  | unlock => exact .act h (.goUnlock _ _)
  | unlockVerify k g => exact .act h (.goUnlockVerify _ _ _ _)
  | _ => exact .act h (.of_tst (by simp))

/-- A beat that nothing is asked in leaves the debug port alone. -/
theorem State.idle_tst (s : State) : s.idle.dev.tst = s.dev.tst := by
  unfold State.idle; split
  · simp [State.beat]
  · rfl

/-- Settles O55: a command keeps the port by its own law, a beat leaves it alone. -/
theorem theDebugPortStaysGuarded : Obligations.TheDebugPortStaysGuarded := by
  unfold Obligations.TheDebugPortStaysGuarded
  intro s u hg h
  have hk : Keeps s.dev u.dev := by
    unfold step at h
    split at h
    · have hexec := Keeps.exec h; exact hexec
    · cases h; exact .of_tst s.idle_tst
  exact ⟨hk.guard hg, hk.life⟩

end Sys2Proof.Machine
end
